-- ==== Sys2Proof/Word.lean ====
section
/-! DEFINITION. The word types of the LX16: 32-bit registers (00 R14), 64-bit pairs (00 R19), bytes. -/

namespace Sys2Proof

/-- A register word (00 R14). -/
abbrev Word := BitVec 32

/-- A 64-bit quantity held in a register pair (00 R19), and cluster time (04 R104). -/
abbrev Word64 := BitVec 64

/-- A byte of a memory. -/
abbrev Byte := BitVec 8

end Sys2Proof
end

