-- ==== Sys2Proof/Syntax.lean ====
section
/-! DEFINITION. The commands of the LX16: one constructor per row of spec/opcode_table.json, in the table's order, with the
operands the command brings from outside (an address, a value, a received message, a measurement). -/

namespace Sys2Proof

/-- The access paths (27 R660), coded as BOOT_MB_STATUS.OWNER codes them (25 R623). -/
inductive Path where
  | pcie | scribeA | scribeB | smbus | jtag | sdfp
  deriving DecidableEq, Repr

/-- The path code (25 R623). -/
def Path.code : Path → Nat
  | .pcie => 0 | .scribeA => 1 | .scribeB => 2 | .smbus => 3 | .jtag => 4 | .sdfp => 5

/-- A sideband direction (02 Table 2.7: 0 east, 1 west). -/
inductive Dir where
  | east | west
  deriving DecidableEq, Repr

/-- The root PLL's two reference sources (03 R76). -/
inductive RefSrc where
  | rack | link
  deriving DecidableEq, Repr

/-- The rails that pace power-up sequences (05 R137). -/
inductive Rail where
  | grv0 | grv1 | ctl
  deriving DecidableEq, Repr

/-- One frame's readings of the rail monitors that serve no Graver die, in 1/16 W (05 R142). -/
structure Rails where
  ctl : Nat
  hbm : Nat
  vhtr : Nat
  vlas : Nat
  deriving DecidableEq, Repr

/-- A fine stamp: CT and its fraction in 1/16 tick (04 R110). -/
structure FineStamp where
  ct : Word64
  frac : BitVec 4
  deriving DecidableEq, Repr

/-- A TIME_RSP as the child receives it (04 Table 4.1). -/
structure TimeRsp where
  state : BitVec 3
  depth : BitVec 5
  seq : BitVec 16
  root : BitVec 14
  t1 : FineStamp
  t2 : FineStamp
  t3 : FineStamp
  deriving DecidableEq, Repr

/-- How a sideband message ended at the receiver (02 R63): all LEN blocks came, an ABORT cut it, or blocks are missing. -/
inductive SbEnd where
  | whole | aborted | short
  deriving DecidableEq, Repr

/-- A sideband message as it travels (02 R61, R63): its SOF bytes and its data blocks as dwords, the CRC-32 the last. -/
structure SbMsg where
  mtype : Byte
  len : Byte
  origin : BitVec 14
  dir : Dir
  words : List Word
  deriving DecidableEq, Repr

/-- A 66-bit block as it stands on a sideband line (02 R61): its sync header, and its 64 payload bits, still scrambled, the first on
the line lowest. -/
structure SbBlk where
  hdr : BitVec 2
  bits : Word64
  deriving DecidableEq, Repr

/-- What the flash part answers at discovery (06 R160): its JEDEC ID, and the bytes it gives the Read SFDP instruction from address 0;
or no answer within 10 ms (reason FLASH_TIMEOUT). -/
structure SlotFind where
  jedec : BitVec 24
  sfdp : List Byte
  timedOut : Bool
  deriving DecidableEq, Repr

/-- What a LANE mark says of its sender (12 R321). -/
structure LaneMark where
  chip : BitVec 14
  port : BitVec 4
  ch : BitVec 5
  deriving DecidableEq, Repr

/-- The cause a SWAP_REQ states (12 Table 12.3, Table 12.5): a fault whose lane recovers, or a retirement, or a rotation's move. -/
inductive SwapWhy where
  | recover | mismatch | line | command | rotation
  deriving DecidableEq, Repr

/-- The new channel of a SWAP_REQ and its cause (12 Table 12.3). -/
structure SwapTo where
  ch : Fin 18
  why : SwapWhy
  deriving DecidableEq, Repr

/-- A TRAIN message (12 Table 12.3): chip, port, plate number, the peer's TX local and spare lanes, its RX lanes with
codeword lock. -/
structure TrainMsg where
  chip : BitVec 14
  port : BitVec 4
  plate : BitVec 6
  txLocal : BitVec 18
  txSpare : BitVec 18
  rxLock : BitVec 18
  deriving DecidableEq, Repr

/-- What PREPARE, COMMIT, ABANDON, DECIDE_ACK and PLATE_STATE say (14 Table 14.1). -/
structure PlateMsg where
  target : BitVec 6
  from_ : BitVec 6
  drain : Byte
  routeAt : Byte
  xid : BitVec 16
  applyCt : Word64
  deriving DecidableEq, Repr

/-- An authority domain (15 R397). -/
inductive ADom where
  | package | cluster
  deriving DecidableEq, Repr

/-- A Scribe. -/
inductive Scribe where
  | a | b
  deriving DecidableEq, Repr

/-- What a RESET slot of a Hallmark bus shows (18 Table 18.2). -/
inductive Presence where
  | none | short | long
  deriving DecidableEq, Repr

/-- A request at a target (17 R445, R447): poison, class, source, whole TAG, stream, global address, LEN, payload bytes. -/
structure SdfpReq where
  poison : Bool
  src : BitVec 14
  tag : BitVec 16
  stream : BitVec 12
  addr : Word64
  len : BitVec 10
  payload : List Byte
  deriving DecidableEq, Repr

/-- A host request to BAR2 (22 R569, R570): its tag, BAR2 offset, length in bytes, EP, and for a write its bytes, none where the
byte enable is clear. -/
structure Bar2Req where
  write : Bool
  tag : BitVec 14
  off : BitVec 36
  len : BitVec 13
  ep : Bool
  data : List (Option Byte)
  deriving DecidableEq, Repr

/-- The status of a completion (22 R576, 23 Table 23.5). -/
inductive CplStatus where
  | success | unsupported | aborted
  deriving DecidableEq, Repr

/-- An MSI-X table entry as the host writes it (22 R571): message address, data, mask. -/
structure MsixEntry where
  addr : Word64
  data : Word
  masked : Bool
  deriving DecidableEq, Repr

/-- The PEC byte of an SMBus write: none sent, matching, or not (26 R643). -/
inductive Pec where
  | none | good | bad
  deriving DecidableEq, Repr

/-- The commands. -/
inductive Instr where
  /-- A register write on a path (00 R16). -/
  | registerWrite (path : Path) (off : Nat) (value : Word)
  /-- An access R14 does not allow, on the Scribe or JTAG path (00 R693). -/
  | badRegisterAccess (path : Path) (isWrite : Bool) (off : Nat) (value : Word)
  | nameLoRead (path : Path) (off : Nat)
  | nameHiRead (path : Path) (off : Nat)
  | nameLoWrite (path : Path) (off : Nat) (value : Word)
  | nameHiWrite (path : Path) (off : Nat) (value : Word)
  /-- A two-dword read, or a write of (lower, upper) (27 R663). -/
  | twoDwordAccess (path : Path) (off : Nat) (data : Option (Word × Word))
  | rcRead (path : Path) (off : Nat)
  /-- PWROK rises with the board's strap levels (02 R44). -/
  | pwrokRise (cfgOpen : Bool) (bootSel : BitVec 2) (rackSlot : BitVec 6)
  | pwrokFall
  | powerLossConfirmed
  | rootLockTimeout
  | rootPllLock
  /-- The reading of VHTR_SENSE in mV (02 R53). -/
  | vhtrSenseSample (mv : Nat)
  /-- A block at a sideband receiver, judged for block lock (02 R61). -/
  | sbBlockLock (d : Dir) (b : SbBlk)
  /-- One TRAIN block that a receiver under block lock reads: its DIR and STATE (02 R62). -/
  | sbTrainReceive (d : Dir) (peerDir : Dir) (locked : Bool)
  /-- A message at the receiver of a direction; `duringOwn`: its SOF came while the package sent its own message (02 R65). -/
  | sbMessageReceive (d : Dir) (m : SbMsg) (how : SbEnd) (duringOwn : Bool)
  | sbMessageSend (d : Dir)
  | refLost (src : RefSrc)
  /-- The reference monitor's findings at a frame boundary in holdover (03 R79, R81). -/
  | refSwitch (rackOk linkOk : Bool)
  | holdover
  /-- The reference monitor's findings once the configured source has been valid 100 ms (03 R83). -/
  | refRevert (rackOk linkOk : Bool)
  | rootUnlock
  | stepCorrectionApply
  | rstChip (path : Path) (value : Word)
  | chipResetRelease
  | rstDomain (path : Path) (value : Word)
  | domainResetRelease (dom : Fin 168)
  | rstBlock (path : Path) (value : Word)
  | perstNAssert
  | perstNRelease
  | functionLevelReset
  | flrComplete
  /-- t1 is the link block's transmit stamp (04 R114). -/
  | timeReqSend (t1 : FineStamp)
  | timeReqReceive (port : Fin 16) (seq : BitVec 16) (t1 t2 t3 : FineStamp)
  | timeRspReceive (port : Fin 16) (rsp : TimeRsp) (t4 : FineStamp)
  | timeXchgTimeout
  | parentCandidateReinstate (cand : Fin 3)
  | timeUnsynced
  | timePtmGo (path : Path) (value : Word)
  | ptmAutoTrigger
  | ptmResponse (ct host : Word64)
  | ptmTimeout
  | pwrDomOn (path : Path) (dom : Byte)
  | pwrDomOff (path : Path) (dom : Byte)
  | pwrDomAuto (path : Path) (dom : Byte)
  | powerUpStart (rail : Rail)
  | domainWakeDone (dom : Fin 168)
  | domainSleepDone (dom : Fin 168)
  | autoIdlePowerOff (pair : Fin 128)
  /-- The frame's measurement in 1/16 W: package, G0, G1 (05 R142). -/
  | packagePowerMeasure (rails : Rails) (g0 g1 : Nat)
  | pwrOverload
  | governorStep
  | lookaheadEntry (ring : Fin 256)
  | heatNoteDelivery
  /-- cause as 25 Table 25.3a codes it. -/
  | heatNoteLapse (ring : Fin 256) (cause : Fin 5)
  | imageSlotAttempt (f : SlotFind)
  /-- Training attempts each HBM stack needed; 0 or more than 3 is a failure (21 R544). -/
  | configLoad (hbmTries : List Nat)
  | bootLockWrite (path : Path) (value : Word)
  | readyEntry
  | bootLinkWaitExpiry
  | rrsTimeout
  | flashOpDone
  | flashOpTimeout
  | query (path : Path)
  | updBegin (path : Path)
  | updWrite (path : Path)
  /-- timedOut: the flash did not respond within 10 ms. -/
  | updVerify (path : Path) (timedOut : Bool)
  | updAbort (path : Path)
  | restart (path : Path)
  | rollbackAdvance (path : Path)
  | mbUnknownOp (path : Path) (opcode : Byte)
  | updSessionTimeout
  /-- timedOut: the flash did not respond within 10 ms. -/
  | backgroundAuthentication (timedOut : Bool)
  /-- The eight samples of a pixel in this frame, earliest first (08 R219, R220). -/
  | cicOutput (x : Fin 3072) (samples : List (BitVec 12))
  /-- The eight readings of each of the 64 temperature sensors in the frame, Q8.8 °C (08 R229). -/
  | proofProcess (temps : List (List (BitVec 16)))
  | proofSync (path : Path) (value : Word)
  | proofSyncReset
  | proofDarkCmd (path : Path) (value : Word)
  /-- A capture's lane code, or none for all pixels (08 R224). -/
  | darkCaptured (lane : Option (BitVec 10))
  | telemetryPeriodEnd
  /-- The slot of loop index l of engine e: fast slot l below 56, slow slot l − 56 from there (09 R240, R241; 10 R287). -/
  | stylusSlot (e : Fin 16) (l : Fin 140)
  | rollDone (e : Fin 16) (l : Fin 140)
  | styCoefWrite (path : Path) (off : Nat) (value : Word)
  | stylusHousekeeping
  | stySupRelease (path : Path) (e : Fin 16) (value : Word)
  | relayStart (path : Path) (e : Fin 16) (value : Word)
  | relayTimeout (e : Fin 16)
  | traceArm (path : Path) (e : Fin 16)
  | traceForce (path : Path) (e : Fin 16)
  | traceStop (path : Path) (e : Fin 16)
  | traceCtTrigger (e : Fin 16)
  | tracePostDone (e : Fin 16)
  /-- A PWM period of TEC k and its current sample in mA, signed (11 R298). -/
  | pwmPeriod (k : Fin 4) (ma : BitVec 16)
  | tecOvercurrent (k : Fin 4)
  | tecOpen (k : Fin 4)
  | tecFaultClear (path : Path) (value : Word)
  | teckForceWrite (path : Path) (k : Fin 4) (value : Word)
  | tecSettled (k : Fin 4)
  | tecSettleFail (k : Fin 4)
  | lasCtlWrite (path : Path) (value : Word)
  /-- A probe of a port shut for input loss: whether light returned during it (11 R310). -/
  | shutPortProbe (p : Fin 16) (light : Bool)
  | lineHoursRecord
  /-- The DAC code at which the sweep of a lane found its resonance (12 R317). -/
  | laneSweepDone (tx : Bool) (p : Fin 16) (n : Fin 18) (code : BitVec 16)
  | lockConfirm (tx : Bool) (p : Fin 16) (n : Fin 18)
  | lockFail (tx : Bool) (p : Fin 16) (n : Fin 18)
  | codewordLock (p : Fin 16) (n : Fin 18) (mark : LaneMark)
  | codewordLockLoss (p : Fin 16) (n : Fin 18)
  | laneBad (p : Fin 16) (n : Fin 18)
  /-- A decoded lane block: its header (12 Table 12.2), the symbols its codeword had corrected, its 160 payload dwords (12 R319–R325). -/
  | dataBlockReceive (p : Fin 16) (n : Fin 18) (hdr : BitVec 20) (corrected : BitVec 5) (payload : List Word)
  | ackSend (p : Fin 16)
  | ackReceive (p : Fin 16) (bsn : BitVec 14)
  /-- `undecodable`: the request is for a codeword of lane n that could not be decoded, not for a gap (12 R326). -/
  | retryReqSend (p : Fin 16) (n : Fin 18) (undecodable : Bool)
  /-- Ranges of BSNs, first and last (12 R326). -/
  | retryReqReceive (p : Fin 16) (ranges : List (BitVec 14 × BitVec 14))
  | laneHold (p : Fin 16) (slot : BitVec 5)
  | laneResume (p : Fin 16) (slot : BitVec 5)
  | retryTimeout (p : Fin 16)
  | trainReceive (p : Fin 16) (m : TrainMsg)
  | trainTimeout (p : Fin 16)
  | credSend (p : Fin 16)
  | credTimeout (p : Fin 16)
  | portRetrainTimer (p : Fin 16)
  /-- A SWAP_REQ received, in own lane directions: old channel, and new channel with the cause (12 R334). -/
  | swapReq (p : Fin 16) (tx : Bool) (slot : BitVec 5) (old : Fin 18) (new : SwapTo)
  | swapReady (p : Fin 16) (slot : BitVec 5) (new : Fin 18)
  /-- SWAP_DONE, received at the sender (tx) or due at the receiver (12 R334). -/
  | laneSwapComplete (p : Fin 16) (tx : Bool) (slot : BitVec 5) (new : Fin 18)
  | swapFail (p : Fin 16) (tx : Bool) (slot : BitVec 5)
  | laneRecovered (tx : Bool) (p : Fin 16) (n : Fin 18)
  /-- `lock`: the lane did not lock; otherwise its check failed (12 R336). -/
  | recoveryTimeout (tx : Bool) (p : Fin 16) (n : Fin 18) (lock : Bool)
  | laneRole (p : Fin 16) (tx : Bool) (n : Fin 18) (retired : Bool)
  | rotAsk (p : Fin 16) (n : Fin 18)
  | rotationStart (p : Fin 16)
  | rotationPhaseDone (p : Fin 16)
  | rotBackout (p : Fin 16)
  | rotStarved (p : Fin 16)
  | lnkRetrain (path : Path) (p : Fin 16) (value : Word)
  | lnkRotateNow (path : Path) (p : Fin 16) (value : Word)
  | lnkSwap (path : Path) (p : Fin 16) (value : Word)
  | lnkRetire (path : Path) (p : Fin 16) (value : Word)
  | loopOn (path : Path) (p : Fin 16) (value : Word)
  | loopOff (path : Path) (p : Fin 16) (value : Word)
  | prepareIssue (cause : Fin 5) (target : Fin 64)
  /-- PREPARE with its plate-set digest (14 Table 14.1). -/
  | prepareReceive (m : PlateMsg) (cause : BitVec 4) (digest : Word64)
  /-- READY (reason 0) or REFUSE. -/
  | answerReceive (chip : BitVec 14) (xid : BitVec 16) (reason : BitVec 4)
  | decisionDeadline
  /-- The decision the Counterproof gets to acknowledge, or its acknowledgement at the Etcher. -/
  | decideAck (commit : Bool) (m : PlateMsg)
  | decisionRepeat
  | commitReceive (m : PlateMsg)
  | abandonReceive (m : PlateMsg)
  | replateDrain
  | replateApply
  | routeSwap
  | replateNoDecision
  | replateOrphan
  | plateStateReceive (m : PlateMsg)
  | replateCatchup
  | portDownReceive (chip : BitVec 14) (ports : BitVec 16) (cur : BitVec 6)
  | portUpReceive (chip : BitVec 14) (ports : BitVec 16) (cur : BitVec 6)
  | faultWindowEnd
  | memberUnreachable (chip : BitVec 14)
  | unsyncWaitRetry
  | plateReq (path : Path) (value : Word)
  | plateAskReceive (chip : BitVec 14) (tag : Byte) (slot : BitVec 6)
  | plateAnswerReceive (chip : BitVec 14) (tag : Byte) (slot : BitVec 6) (result : BitVec 4)
  | plateReqTimeout
  /-- An order frame (15 Table 15.2) at the order bus (package domain) or at a cluster transport. -/
  | orderReceive (frame : List Word)
  | leaseRenew (path : Path) (value : Word)
  | leaseTake (path : Path) (value : Word)
  | leaseRelease (path : Path) (value : Word)
  | scribeTakeover
  | coldDone (dom : ADom)
  | checkpointStart (dom : ADom)
  /-- The copy ended: the state's length in bytes (15 R405). -/
  | checkpointCommit (dom : ADom) (len : Word)
  | ckptFail (dom : ADom)
  | standbyAbsent (dom : ADom)
  | standbyJoin (dom : ADom)
  | clusterRenewal
  | etcherTakeover
  | clusterStart
  | heartbeatSend
  /-- The eight dwords of Table 15.5. -/
  | heartbeatReceive (words : List Word)
  /-- The body of a CKPT message (02 Table 2.8). -/
  | ckptReceive (body : List Word)
  /-- The twelve dwords of Table 16.1. -/
  | credReceive (p : Fin 16) (frame : List Word)
  /-- The two dwords of CRED_ACK (16 R425). -/
  | credAckReceive (p : Fin 16) (d0 d1 : Word)
  | statePull (chip : BitVec 14) (ports : BitVec 16)
  | statePullRetry
  | agreeSelfTimer
  /-- The ten payload dwords of AGREE_NOTE (16 Table 16.4). -/
  | agreeNoteReceive (words : List Word)
  | agreeQuarReceive (chip : BitVec 14) (nonce : Word) (reason : BitVec 4)
  | agreeClearReceive (chip : BitVec 14) (nonce : Word) (reason : BitVec 4)
  | dupClearExpiry (chip : BitVec 14)
  /-- The next packet of a port's flit stream (17 R440); whether its router buffer holds an uncorrectable flit of it (17 R473). -/
  | flitReceive (p : Fin 16) (ecc : Bool)
  /-- Cumulative flits freed, in the buffer order of Table 17.1 (17 R443). -/
  | creditReceive (p : Fin 16) (freed : List (BitVec 16))
  | creditSend (p : Fin 16)
  | rd (r : SdfpReq)
  | wr (r : SdfpReq)
  | aadd (r : SdfpReq)
  | aswp (r : SdfpReq)
  | bwr (r : SdfpReq)
  | owr (r : SdfpReq)
  | msg (r : SdfpReq)
  /-- A response: opcode, poison, source, whole TAG, status, payload. -/
  | responseReceive (opc : BitVec 6) (src : BitVec 14) (tag : BitVec 16) (status : BitVec 4) (payload : List Byte)
  | fabReqTimeout (entry : Fin 16384)
  | requestEntryFree (entry : Fin 16384)
  | orderPacketRelease (stream : BitVec 12) (dest : BitVec 14)
  /-- A CORD at a port: HOPS, source, order frame (17 R468). -/
  | cordReceive (p : Fin 16) (hops : BitVec 6) (src : BitVec 14) (frame : List Word)
  | fabRouteQuery (path : Path) (value : Word)
  | hmkPresenceReset (p : Fin 16) (seen : Presence)
  | hmkCmd (path : Path) (value : Word)
  | hmkPeriodSearch
  /-- The pass's RESET and the IDs of the tags on the bus (18 R479, R483). -/
  | searchPass (p : Fin 16) (seen : Presence) (tags : List Word64)
  | hmkRetryTimer (p : Fin 16)
  | ticketFetch (ring : Fin 256)
  | ticketStart (ring : Fin 256)
  /-- The started ticket of that index, with the stall and contention cycles it met (19 R501, R507). -/
  | ticketComplete (ring : Fin 256) (idx : BitVec 16) (stall contention : Word)
  | barrierTakeEffect (ring : Fin 256)
  | barrierRelease (ring : Fin 256)
  | barrierLateReport (die : Fin 2)
  | fenceComplete (ring : Fin 256)
  | collectiveFlagArrive (ring : Fin 256) (idx : BitVec 16)
  | waitExpired (ring : Fin 256) (idx : BitVec 16)
  | tktDoorbell (path : Path) (ring : Fin 256) (value : Word)
  | tktRingConfigWrite (path : Path) (off : Nat) (value : Word)
  | tktAbort (path : Path) (ring : Fin 256)
  | tktRestart (path : Path) (ring : Fin 256) (skip : Bool)
  | hbmScrubPassStart (stack : Fin 8)
  | hbmScrubBurst (stack : Fin 8)
  | scrubHoldoffEnd (stack : Fin 8)
  | vellumScrubBurst
  | memInject (path : Path) (value : Word)
  /-- The link reaches L0: Flit mode, RATE code, lanes (22 R562, Table 22.8). -/
  | pcieLinkUp (flit : Bool) (rate : BitVec 3) (width : BitVec 5)
  | bar2Request (r : Bar2Req)
  | bar2RequestResume
  | pcieBar2BaseWrite (path : Path) (value : Word)
  | barBadAccess (write : Bool) (tag : BitVec 14)
  | bmeClear
  | bmeSet
  | d3hotEntry
  | d0Return
  | pcieCompletionReceive (tag : BitVec 10) (status : CplStatus) (ep : Bool) (bytes : List Byte)
  | fencedTagFree (tag : BitVec 10)
  | pcieCompletionTimeout (tag : BitVec 10)
  /-- The vector, with the host's write of its table entry if that is what unblocks it (22 R571, R572). -/
  | msixUnmask (v : Fin 2048) (entry : Option MsixEntry)
  | contextOpen (path : Path) (c : Fin 4096) (value : Word)
  | contextClose (path : Path) (c : Fin 4096) (value : Word)
  | xfeContextWrite (path : Path) (off : Nat) (value : Word)
  | xfeRateWrite (path : Path) (c : Fin 4096) (value : Word)
  | xfeDoorbell (path : Path) (c : Fin 4096) (value : Word)
  | descriptorFetch (c : Fin 4096)
  | descriptorStart (c : Fin 4096)
  | xfeBurstIssue (c : Fin 4096)
  | xfeBurstLand (c : Fin 4096)
  | descriptorComplete (c : Fin 4096)
  | xfeAbort (path : Path) (c : Fin 4096)
  | xfeRestart (path : Path) (c : Fin 4096) (skip : Bool)
  | flashLogWrite
  | flashLogErase
  | eventCollect
  | hbmLogBacklog
  | evtFaultClear (path : Path) (value : Word)
  | telemetrySnapshot
  /-- SMBus SET_ADDR: SPACE, 40-bit address (26 R641). -/
  | setAddr (space : Byte) (addr : BitVec 40) (pec : Pec)
  /-- SMBus READ of N bytes. -/
  | smbRead (n : Byte) (pec : Pec)
  /-- SMBus WRITE. -/
  | smbWrite (bytes : List Byte) (pec : Pec)
  /-- SMBus STATUS. -/
  | smbStatus
  | alertPop
  | clearErr (pec : Pec)
  | chipId
  | alertResponse
  | alertReassert
  | smbusTimeout
  | fuseProgramChip (path : Path) (value : Word)
  | fuseProgramKeyHash (path : Path) (value : Word)
  /-- The operation ends: whether what it programmed verifies (26 R649). -/
  | fuseOpDone (ok : Bool)
  | idcode
  | bypass
  | samplePreload
  | extest
  /-- JTAG ACCESS: SPACE, ADDR, OP, DATA (26 R653). -/
  | jtagAccess (space : BitVec 2) (addr : BitVec 40) (op : BitVec 2) (data : Word)
  | scribeStatusCmd (unit : Scribe)
  | scribeHalt (unit : Scribe)
  | scribeResume (unit : Scribe)
  | scribeStep (unit : Scribe)
  | scribeReadCoreRegister (unit : Scribe) (reg : BitVec 4)
  | scribeWriteCoreRegister (unit : Scribe) (reg : BitVec 4) (value : Word)
  | tapReset
  | pcieLinkDown
  /-- A configuration read or write of a dword (22 R564, R573): tag, byte offset, value written. -/
  | configurationRequest (tag : BitVec 14) (off : BitVec 12) (value : Option Word)
  | functionReady
  deriving DecidableEq, Repr

end Sys2Proof
end

