-- ==== Sys2Proof/Decode.lean ====
section
/-! DEFINITION. The table of commands gives no row any bits: a command is an event at the block's pins, buses and links, or a point of
its own sequencers, and no word spells one. -/

namespace Sys2Proof

/-- The command a word of the table's bits spells: no row of spec/opcode_table.json gives bits, so none. -/
def decodeTableWord (_nbits _w : Nat) : Option Instr := none

end Sys2Proof
end

