-- ==== Sys2Proof/Config.lean ====
section
/-! DEFINITION. What an implementation fixes and what the spec leaves open. Each opaque constant is a free value: it has no
body, so no proof can see what it is; notes/assumptions/3.md lists them. -/

namespace Sys2Proof.Config

/-- A 32-bit value the spec leaves open, one for each index (the index is State.free, a counter). -/
opaque freeWord : Nat → BitVec 32

/-- A byte the spec leaves open, by index of a draw and place in what is drawn. -/
opaque freeByte : Nat → Nat → BitVec 8

/-- EXP, SILU and RSQRT of VECTOR tickets, whose last bits 20 R530 leaves open (2 ulp): by OP and operand. -/
opaque fnBits : Nat → BitVec 32 → BitVec 32

/-- A REDUCE row's result where its order of operations or a special operand decides it (20 R531): by OP and row. -/
opaque reduceBits : Nat → List (BitVec 32) → BitVec 32

/-- A result that 19 R502–R505 and 20 R530 do not state for these operands: a NaN's bits, the maximum of zeros of two signs, whether
SCALE rounds once or twice. By a code of the operation and its operands. -/
opaque opBits : Nat → List (BitVec 32) → BitVec 32

/-- What 19 R505 does not state of an MX block: by format, the block's FP32 inputs, and the element 0–31 or 32 for the scale. -/
opaque mxBits : Nat → List (BitVec 32) → Nat → BitVec 8

/-- The payload of an IDLE, LCTL or MARK block, whose layout 12 R321 and Table 12.3 leave open: by KIND, SUB and the fields it holds. -/
opaque blockPayload : Nat → Nat → List Nat → List (BitVec 32)

/-- The setpoint that holds a Mach-Zehnder element or a selector in one of its two states, which the Scribe program knows (07 R207; 14
R382): by loop ID and state, true for CROSS and EXPRESS. -/
opaque elementPoint : Nat → Bool → BitVec 32

/-- The register writes of a package order, whose address and values the Scribe program sets (15 R398): offset and value of each, by the
payload. -/
opaque orderWrites : List (BitVec 32) → List (Nat × BitVec 32)

/-- The die identity of the Device Serial Number (22 R565). -/
opaque dieId : BitVec 32

end Sys2Proof.Config
end

