-- ==== Sys2Proof/Machine/Bits.lean ====
section
/-! DEFINITION. Bit fields, signed readings and saturation, over natural numbers: a register word is read as a
number, its fields are taken apart by shift and remainder (00 R6), and signed values are integers. -/

namespace Sys2Proof.Machine

/-- NAME[hi:lo] of a word read as a number (00 R6). -/
def fieldOf (w hi lo : Nat) : Nat := (w >>> lo) % 2 ^ (hi + 1 - lo)

/-- The word with NAME[hi:lo] replaced by v, taken modulo the field's width (00 R6). -/
def fieldSet (w hi lo v : Nat) : Nat :=
  w - (fieldOf w hi lo) <<< lo + (v % 2 ^ (hi + 1 - lo)) <<< lo

/-- Bit n of a word read as a number. -/
def bitOf (w n : Nat) : Bool := (w >>> n) % 2 == 1

/-- 1 for true, 0 for false. -/
def b2n (b : Bool) : Nat := if b then 1 else 0

/-- An n-bit number read as a signed integer (two's complement). -/
def sgn (n x : Nat) : Int :=
  let y := x % 2 ^ n
  if y < 2 ^ (n - 1) then (y : Int) else (y : Int) - (2 ^ n : Nat)

/-- An integer wrapped to n bits (00 R10). -/
def wrapN (n : Nat) (x : Int) : Nat := (x % ((2 ^ n : Nat) : Int)).toNat

/-- int32 wrap (00 R10). -/
def i32 (x : Int) : Int := sgn 32 (wrapN 32 x)

/-- An integer held between two limits. -/
def clampI (lo hi x : Int) : Int := if x < lo then lo else if hi < x then hi else x

/-- A number held at most m (saturation). -/
def satN (m x : Nat) : Nat := if m < x then m else x

/-- Arithmetic shift right of a signed value (00 R10). -/
def asr (x : Int) (n : Nat) : Int := x / ((2 ^ n : Nat) : Int)

/-- Division rounded toward zero, zero when the divisor is zero. -/
def tdivI (a b : Int) : Int := Int.tdiv a b

/-- Exclusive or of two numbers as bit strings. -/
def xorN (a b : Nat) : Nat := Nat.xor a b

/-- The signed difference of two short stamps (04 R107): (a − b) mod 2^32 as int32. -/
def shortDiff (a b : Nat) : Int := sgn 32 (wrapN 32 ((a : Int) - (b : Int)))

/-- A received short stamp expanded against the receiver's CT: the nearest 64-bit value to it (04 R108). -/
def expandStamp (ct s : Nat) : Nat := wrapN 64 ((ct : Int) + shortDiff s ct)

/-- The low n bits of a list of bytes, first byte lowest (00 R7). -/
def bytesToNat : List Byte → Nat
  | [] => 0
  | b :: bs => b.toNat + 256 * bytesToNat bs

/-- n bytes of a number, lowest first (00 R7). -/
def natToBytes : Nat → Nat → List Byte
  | 0, _ => []
  | n + 1, v => BitVec.ofNat 8 v :: natToBytes n (v / 256)

/-- The self-synchronising scrambler x^58 + x^39 + 1 of IEEE 802.3 clause 49 over n bits, lowest first (02 R61, 12 R319): the bits that
come out and the register of the last 58 line bits, newest lowest. `send` scrambles what is to leave; otherwise line bits are
descrambled. -/
def scramble (send : Bool) : Nat → BitVec 58 → Nat → Nat × BitVec 58
  | 0, st, _ => (0, st)
  | n + 1, st, w =>
    let i := w % 2 == 1
    let o := (i ^^ st.getLsbD 38) ^^ st.getLsbD 57
    let r := scramble send n (st <<< 1 ||| BitVec.ofNat 58 (b2n (if send then o else i))) (w / 2)
    (b2n o + 2 * r.1, r.2)

/-- Count of set bits among the lowest n. -/
def popCount : Nat → Nat → Nat
  | 0, _ => 0
  | n + 1, v => v % 2 + popCount n (v / 2)

/-- The lowest index below n (counting from k) at which p holds. -/
def findIdxFrom (p : Nat → Bool) : Nat → Nat → Option Nat
  | 0, _ => none
  | n + 1, k => if p k then some k else findIdxFrom p n (k + 1)

/-- The lowest index below n at which p holds. -/
def lowest (n : Nat) (p : Nat → Bool) : Option Nat := findIdxFrom p n 0

end Sys2Proof.Machine
end

