-- ==== Sys2Proof/Machine/EventTable.lean ====
section
/-! DEFINITION. The event codes of Tables 25.3 and 26.5 (R625, R658), their default severity and forced route bits (R628, R629). -/

namespace Sys2Proof.Machine

/-- PCIE_WIN_DENIED (25 Table 25.3, 26 Table 26.5). -/
abbrev Ev.PCIE_WIN_DENIED : Nat := 0x0001
/-- LOCKED_WRITE (25 Table 25.3, 26 Table 26.5). -/
abbrev Ev.LOCKED_WRITE : Nat := 0x0002
/-- RESET_RECORD (25 Table 25.3, 26 Table 26.5). -/
abbrev Ev.RESET_RECORD : Nat := 0x0003
/-- PCIE_BAR2_OFF (25 Table 25.3, 26 Table 26.5). -/
abbrev Ev.PCIE_BAR2_OFF : Nat := 0x0004
/-- REF_LOST (25 Table 25.3, 26 Table 26.5). -/
abbrev Ev.REF_LOST : Nat := 0x0101
/-- REF_SWITCH (25 Table 25.3, 26 Table 26.5). -/
abbrev Ev.REF_SWITCH : Nat := 0x0102
/-- HOLDOVER (25 Table 25.3, 26 Table 26.5). -/
abbrev Ev.HOLDOVER : Nat := 0x0103
/-- RST_DENIED (25 Table 25.3, 26 Table 26.5). -/
abbrev Ev.RST_DENIED : Nat := 0x0201
/-- PWR_DENIED (25 Table 25.3, 26 Table 26.5). -/
abbrev Ev.PWR_DENIED : Nat := 0x0301
/-- PWR_REFUSED (25 Table 25.3, 26 Table 26.5). -/
abbrev Ev.PWR_REFUSED : Nat := 0x0302
/-- PWR_CAP (25 Table 25.3, 26 Table 26.5). -/
abbrev Ev.PWR_CAP : Nat := 0x0303
/-- PWR_OVERLOAD (25 Table 25.3, 26 Table 26.5). -/
abbrev Ev.PWR_OVERLOAD : Nat := 0x0304
/-- HEAT_NOTE_LAPSE (25 Table 25.3, 26 Table 26.5). -/
abbrev Ev.HEAT_NOTE_LAPSE : Nat := 0x0305
/-- VHTR_SENSE_RANGE (25 Table 25.3, 26 Table 26.5). -/
abbrev Ev.VHTR_SENSE_RANGE : Nat := 0x0306
/-- BOOT_FAIL (25 Table 25.3, 26 Table 26.5). -/
abbrev Ev.BOOT_FAIL : Nat := 0x0401
/-- BOOT_BACKUP (25 Table 25.3, 26 Table 26.5). -/
abbrev Ev.BOOT_BACKUP : Nat := 0x0402
/-- BOOT_SAFE (25 Table 25.3, 26 Table 26.5). -/
abbrev Ev.BOOT_SAFE : Nat := 0x0403
/-- BOOT_OPEN (25 Table 25.3, 26 Table 26.5). -/
abbrev Ev.BOOT_OPEN : Nat := 0x0404
/-- NVM_SLOW (25 Table 25.3, 26 Table 26.5). -/
abbrev Ev.NVM_SLOW : Nat := 0x0405
/-- MB_DONE (25 Table 25.3, 26 Table 26.5). -/
abbrev Ev.MB_DONE : Nat := 0x0406
/-- MB_CONFLICT (25 Table 25.3, 26 Table 26.5). -/
abbrev Ev.MB_CONFLICT : Nat := 0x0407
/-- IMAGE_UPDATED (25 Table 25.3, 26 Table 26.5). -/
abbrev Ev.IMAGE_UPDATED : Nat := 0x0408
/-- ROLLBACK_ADVANCED (25 Table 25.3, 26 Table 26.5). -/
abbrev Ev.ROLLBACK_ADVANCED : Nat := 0x0409
/-- TIME_STEP (25 Table 25.3, 26 Table 26.5). -/
abbrev Ev.TIME_STEP : Nat := 0x0501
/-- TIME_UNSYNCED (25 Table 25.3, 26 Table 26.5). -/
abbrev Ev.TIME_UNSYNCED : Nat := 0x0502
/-- TIME_SYNCED (25 Table 25.3, 26 Table 26.5). -/
abbrev Ev.TIME_SYNCED : Nat := 0x0503
/-- TIME_PARENT_CHANGE (25 Table 25.3, 26 Table 26.5). -/
abbrev Ev.TIME_PARENT_CHANGE : Nat := 0x0504
/-- TIME_HOLD (25 Table 25.3, 26 Table 26.5). -/
abbrev Ev.TIME_HOLD : Nat := 0x0505
/-- PTM_DISABLED (25 Table 25.3, 26 Table 26.5). -/
abbrev Ev.PTM_DISABLED : Nat := 0x0506
/-- PTM_TIMEOUT (25 Table 25.3, 26 Table 26.5). -/
abbrev Ev.PTM_TIMEOUT : Nat := 0x0507
/-- TEC_DENIED (25 Table 25.3, 26 Table 26.5). -/
abbrev Ev.TEC_DENIED : Nat := 0x0601
/-- TEC_SHOOT (25 Table 25.3, 26 Table 26.5). -/
abbrev Ev.TEC_SHOOT : Nat := 0x0602
/-- TEC_OVERCURRENT (25 Table 25.3, 26 Table 26.5). -/
abbrev Ev.TEC_OVERCURRENT : Nat := 0x0603
/-- TEC_OPEN (25 Table 25.3, 26 Table 26.5). -/
abbrev Ev.TEC_OPEN : Nat := 0x0604
/-- TEC_SETTLED (25 Table 25.3, 26 Table 26.5). -/
abbrev Ev.TEC_SETTLED : Nat := 0x0605
/-- TEC_SETTLE_FAIL (25 Table 25.3, 26 Table 26.5). -/
abbrev Ev.TEC_SETTLE_FAIL : Nat := 0x0606
/-- LAS_DERATE (25 Table 25.3, 26 Table 26.5). -/
abbrev Ev.LAS_DERATE : Nat := 0x0701
/-- LINE_WEAR (25 Table 25.3, 26 Table 26.5). -/
abbrev Ev.LINE_WEAR : Nat := 0x0702
/-- LINE_FAILING (25 Table 25.3, 26 Table 26.5). -/
abbrev Ev.LINE_FAILING : Nat := 0x0703
/-- LINE_RETIRED (25 Table 25.3, 26 Table 26.5). -/
abbrev Ev.LINE_RETIRED : Nat := 0x0704
/-- LAS_PORT_SHUT (25 Table 25.3, 26 Table 26.5). -/
abbrev Ev.LAS_PORT_SHUT : Nat := 0x0705
/-- LAS_PORT_RESTORE (25 Table 25.3, 26 Table 26.5). -/
abbrev Ev.LAS_PORT_RESTORE : Nat := 0x0706
/-- LINE_HOURS (25 Table 25.3, 26 Table 26.5). -/
abbrev Ev.LINE_HOURS : Nat := 0x0707
/-- LAS_DENIED (25 Table 25.3, 26 Table 26.5). -/
abbrev Ev.LAS_DENIED : Nat := 0x0708
/-- PROOF_DENIED (25 Table 25.3, 26 Table 26.5). -/
abbrev Ev.PROOF_DENIED : Nat := 0x0801
/-- PROOF_SYNC_RESET (25 Table 25.3, 26 Table 26.5). -/
abbrev Ev.PROOF_SYNC_RESET : Nat := 0x0802
/-- DARK_CAPTURED (25 Table 25.3, 26 Table 26.5). -/
abbrev Ev.DARK_CAPTURED : Nat := 0x0803
/-- PIX_DEFECT (25 Table 25.3, 26 Table 26.5). -/
abbrev Ev.PIX_DEFECT : Nat := 0x0804
/-- SUP_DENIED (25 Table 25.3, 26 Table 26.5). -/
abbrev Ev.SUP_DENIED : Nat := 0x0901
/-- STY_WQ_FULL (25 Table 25.3, 26 Table 26.5). -/
abbrev Ev.STY_WQ_FULL : Nat := 0x0902
/-- ORDER_ROLL (25 Table 25.3, 26 Table 26.5). -/
abbrev Ev.ORDER_ROLL : Nat := 0x0903
/-- ROLL_UNSEEDED (25 Table 25.3, 26 Table 26.5). -/
abbrev Ev.ROLL_UNSEEDED : Nat := 0x0904
/-- ROLL_DONE (25 Table 25.3, 26 Table 26.5). -/
abbrev Ev.ROLL_DONE : Nat := 0x0905
/-- OUT_WRAP (25 Table 25.3, 26 Table 26.5). -/
abbrev Ev.OUT_WRAP : Nat := 0x0906
/-- MODEL_MISMATCH (25 Table 25.3, 26 Table 26.5). -/
abbrev Ev.MODEL_MISMATCH : Nat := 0x0907
/-- MISMATCH_CLEAR (25 Table 25.3, 26 Table 26.5). -/
abbrev Ev.MISMATCH_CLEAR : Nat := 0x0908
/-- LOCK_SLIP (25 Table 25.3, 26 Table 26.5). -/
abbrev Ev.LOCK_SLIP : Nat := 0x0909
/-- ROLL_DUE (25 Table 25.3, 26 Table 26.5). -/
abbrev Ev.ROLL_DUE : Nat := 0x090A
/-- ROLL_SCHEDULED (25 Table 25.3, 26 Table 26.5). -/
abbrev Ev.ROLL_SCHEDULED : Nat := 0x090B
/-- RELAY_REFUSED (25 Table 25.3, 26 Table 26.5). -/
abbrev Ev.RELAY_REFUSED : Nat := 0x090C
/-- RELAY_DONE (25 Table 25.3, 26 Table 26.5). -/
abbrev Ev.RELAY_DONE : Nat := 0x090D
/-- RELAY_FAIL (25 Table 25.3, 26 Table 26.5). -/
abbrev Ev.RELAY_FAIL : Nat := 0x090E
/-- LNK_DENIED (25 Table 25.3, 26 Table 26.5). -/
abbrev Ev.LNK_DENIED : Nat := 0x0A01
/-- LANE_MISROUTE (25 Table 25.3, 26 Table 26.5). -/
abbrev Ev.LANE_MISROUTE : Nat := 0x0A02
/-- LANE_BAD (25 Table 25.3, 26 Table 26.5). -/
abbrev Ev.LANE_BAD : Nat := 0x0A03
/-- LINK_RETRY (25 Table 25.3, 26 Table 26.5). -/
abbrev Ev.LINK_RETRY : Nat := 0x0A04
/-- LINK_TRAIN_FAIL (25 Table 25.3, 26 Table 26.5). -/
abbrev Ev.LINK_TRAIN_FAIL : Nat := 0x0A05
/-- PORT_FAILED (25 Table 25.3, 26 Table 26.5). -/
abbrev Ev.PORT_FAILED : Nat := 0x0A06
/-- PORT_ACTIVE (25 Table 25.3, 26 Table 26.5). -/
abbrev Ev.PORT_ACTIVE : Nat := 0x0A07
/-- PORT_DEGRADED (25 Table 25.3, 26 Table 26.5). -/
abbrev Ev.PORT_DEGRADED : Nat := 0x0A08
/-- LANE_SWAP (25 Table 25.3, 26 Table 26.5). -/
abbrev Ev.LANE_SWAP : Nat := 0x0A09
/-- SWAP_FAIL (25 Table 25.3, 26 Table 26.5). -/
abbrev Ev.SWAP_FAIL : Nat := 0x0A0A
/-- LANE_RECOVERED (25 Table 25.3, 26 Table 26.5). -/
abbrev Ev.LANE_RECOVERED : Nat := 0x0A0B
/-- LANE_LOST (25 Table 25.3, 26 Table 26.5). -/
abbrev Ev.LANE_LOST : Nat := 0x0A0C
/-- ROT_START (25 Table 25.3, 26 Table 26.5). -/
abbrev Ev.ROT_START : Nat := 0x0A0D
/-- ROT_DONE (25 Table 25.3, 26 Table 26.5). -/
abbrev Ev.ROT_DONE : Nat := 0x0A0E
/-- ROT_BACKOUT (25 Table 25.3, 26 Table 26.5). -/
abbrev Ev.ROT_BACKOUT : Nat := 0x0A0F
/-- ROT_STOPPED (25 Table 25.3, 26 Table 26.5). -/
abbrev Ev.ROT_STOPPED : Nat := 0x0A10
/-- ROT_STARVED (25 Table 25.3, 26 Table 26.5). -/
abbrev Ev.ROT_STARVED : Nat := 0x0A11
/-- LNK_CMD_REFUSED (25 Table 25.3, 26 Table 26.5). -/
abbrev Ev.LNK_CMD_REFUSED : Nat := 0x0A12
/-- PLATE_REJECT (25 Table 25.3, 26 Table 26.5). -/
abbrev Ev.PLATE_REJECT : Nat := 0x0B01
/-- REPLATE_APPLIED (25 Table 25.3, 26 Table 26.5). -/
abbrev Ev.REPLATE_APPLIED : Nat := 0x0B02
/-- REPLATE_CATCHUP (25 Table 25.3, 26 Table 26.5). -/
abbrev Ev.REPLATE_CATCHUP : Nat := 0x0B03
/-- REPLATE_ABANDONED (25 Table 25.3, 26 Table 26.5). -/
abbrev Ev.REPLATE_ABANDONED : Nat := 0x0B04
/-- REPLATE_NO_DECISION (25 Table 25.3, 26 Table 26.5). -/
abbrev Ev.REPLATE_NO_DECISION : Nat := 0x0B05
/-- REPLATE_ORPHAN (25 Table 25.3, 26 Table 26.5). -/
abbrev Ev.REPLATE_ORPHAN : Nat := 0x0B06
/-- REPLATE_COLD (25 Table 25.3, 26 Table 26.5). -/
abbrev Ev.REPLATE_COLD : Nat := 0x0B07
/-- FALLBACK_CHOSEN (25 Table 25.3, 26 Table 26.5). -/
abbrev Ev.FALLBACK_CHOSEN : Nat := 0x0B08
/-- FALLBACK_NONE (25 Table 25.3, 26 Table 26.5). -/
abbrev Ev.FALLBACK_NONE : Nat := 0x0B09
/-- REPLATE_UNSYNCED (25 Table 25.3, 26 Table 26.5). -/
abbrev Ev.REPLATE_UNSYNCED : Nat := 0x0B0A
/-- PLATE_REQ_DONE (25 Table 25.3, 26 Table 26.5). -/
abbrev Ev.PLATE_REQ_DONE : Nat := 0x0B0B
/-- SCRIBE_DENIED (25 Table 25.3, 26 Table 26.5). -/
abbrev Ev.SCRIBE_DENIED : Nat := 0x0C01
/-- LEASE_LOST (25 Table 25.3, 26 Table 26.5). -/
abbrev Ev.LEASE_LOST : Nat := 0x0C02
/-- CKPT_FAIL (25 Table 25.3, 26 Table 26.5). -/
abbrev Ev.CKPT_FAIL : Nat := 0x0C03
/-- JOURNAL_OVF (25 Table 25.3, 26 Table 26.5). -/
abbrev Ev.JOURNAL_OVF : Nat := 0x0C04
/-- CKPT_DISCARDED (25 Table 25.3, 26 Table 26.5). -/
abbrev Ev.CKPT_DISCARDED : Nat := 0x0C05
/-- SCRIBE_TAKEOVER (25 Table 25.3, 26 Table 26.5). -/
abbrev Ev.SCRIBE_TAKEOVER : Nat := 0x0C06
/-- SCRIBE_COLD (25 Table 25.3, 26 Table 26.5). -/
abbrev Ev.SCRIBE_COLD : Nat := 0x0C07
/-- ETCHER_TAKEOVER (25 Table 25.3, 26 Table 26.5). -/
abbrev Ev.ETCHER_TAKEOVER : Nat := 0x0C08
/-- ETCHER_COLD (25 Table 25.3, 26 Table 26.5). -/
abbrev Ev.ETCHER_COLD : Nat := 0x0C09
/-- COLD_DONE (25 Table 25.3, 26 Table 26.5). -/
abbrev Ev.COLD_DONE : Nat := 0x0C0A
/-- SCRIBE_SOLO (25 Table 25.3, 26 Table 26.5). -/
abbrev Ev.SCRIBE_SOLO : Nat := 0x0C0B
/-- CP_LOST (25 Table 25.3, 26 Table 26.5). -/
abbrev Ev.CP_LOST : Nat := 0x0C0C
/-- CLUSTER_SPLIT (25 Table 25.3, 26 Table 26.5). -/
abbrev Ev.CLUSTER_SPLIT : Nat := 0x0C0D
/-- ETCHER_FENCED (25 Table 25.3, 26 Table 26.5). -/
abbrev Ev.ETCHER_FENCED : Nat := 0x0C0E
/-- LEASE_YIELD (25 Table 25.3, 26 Table 26.5). -/
abbrev Ev.LEASE_YIELD : Nat := 0x0C0F
/-- CRED_QUARANTINE (25 Table 25.3, 26 Table 26.5). -/
abbrev Ev.CRED_QUARANTINE : Nat := 0x0D01
/-- CRED_NOTED (25 Table 25.3, 26 Table 26.5). -/
abbrev Ev.CRED_NOTED : Nat := 0x0D02
/-- MEMBER_QUARANTINE (25 Table 25.3, 26 Table 26.5). -/
abbrev Ev.MEMBER_QUARANTINE : Nat := 0x0D03
/-- MEMBER_CLEAR (25 Table 25.3, 26 Table 26.5). -/
abbrev Ev.MEMBER_CLEAR : Nat := 0x0D04
/-- CHIP_DUPLICATE (25 Table 25.3, 26 Table 26.5). -/
abbrev Ev.CHIP_DUPLICATE : Nat := 0x0D05
/-- AGREE_BLOCKED (25 Table 25.3, 26 Table 26.5). -/
abbrev Ev.AGREE_BLOCKED : Nat := 0x0D06
/-- AGREE_SELF_ODD (25 Table 25.3, 26 Table 26.5). -/
abbrev Ev.AGREE_SELF_ODD : Nat := 0x0D07
/-- AGREE_LIST_FULL (25 Table 25.3, 26 Table 26.5). -/
abbrev Ev.AGREE_LIST_FULL : Nat := 0x0D08
/-- FAB_REQ_TIMEOUT (25 Table 25.3, 26 Table 26.5). -/
abbrev Ev.FAB_REQ_TIMEOUT : Nat := 0x0E01
/-- FAB_HOPS_EXPIRED (25 Table 25.3, 26 Table 26.5). -/
abbrev Ev.FAB_HOPS_EXPIRED : Nat := 0x0E02
/-- FAB_UNREACHABLE (25 Table 25.3, 26 Table 26.5). -/
abbrev Ev.FAB_UNREACHABLE : Nat := 0x0E03
/-- FAB_SPOOF (25 Table 25.3, 26 Table 26.5). -/
abbrev Ev.FAB_SPOOF : Nat := 0x0E04
/-- FAB_ECC (25 Table 25.3, 26 Table 26.5). -/
abbrev Ev.FAB_ECC : Nat := 0x0E05
/-- HMK_ATTACH (25 Table 25.3, 26 Table 26.5). -/
abbrev Ev.HMK_ATTACH : Nat := 0x0F01
/-- HMK_REMOVED (25 Table 25.3, 26 Table 26.5). -/
abbrev Ev.HMK_REMOVED : Nat := 0x0F02
/-- HMK_UNSTABLE (25 Table 25.3, 26 Table 26.5). -/
abbrev Ev.HMK_UNSTABLE : Nat := 0x0F03
/-- HMK_VERDICT (25 Table 25.3, 26 Table 26.5). -/
abbrev Ev.HMK_VERDICT : Nat := 0x0F04
/-- CABLING_REJECT (25 Table 25.3, 26 Table 26.5). -/
abbrev Ev.CABLING_REJECT : Nat := 0x0F05
/-- XFE_DENIED (25 Table 25.3, 26 Table 26.5). -/
abbrev Ev.XFE_DENIED : Nat := 0x1001
/-- XFE_DB_OVERRUN (25 Table 25.3, 26 Table 26.5). -/
abbrev Ev.XFE_DB_OVERRUN : Nat := 0x1002
/-- XFE_NOT_OWNED (25 Table 25.3, 26 Table 26.5). -/
abbrev Ev.XFE_NOT_OWNED : Nat := 0x1003
/-- XFE_STOPPED (25 Table 25.3, 26 Table 26.5). -/
abbrev Ev.XFE_STOPPED : Nat := 0x1004
/-- TKT_DENIED (25 Table 25.3, 26 Table 26.5). -/
abbrev Ev.TKT_DENIED : Nat := 0x1101
/-- TKT_DB_OVERRUN (25 Table 25.3, 26 Table 26.5). -/
abbrev Ev.TKT_DB_OVERRUN : Nat := 0x1102
/-- TKT_STOPPED (25 Table 25.3, 26 Table 26.5). -/
abbrev Ev.TKT_STOPPED : Nat := 0x1103
/-- GRV_SHARE_DENIED (25 Table 25.3, 26 Table 26.5). -/
abbrev Ev.GRV_SHARE_DENIED : Nat := 0x1201
/-- BARRIER_LATE (25 Table 25.3, 26 Table 26.5). -/
abbrev Ev.BARRIER_LATE : Nat := 0x1202
/-- BARRIER_RANGE (25 Table 25.3, 26 Table 26.5). -/
abbrev Ev.BARRIER_RANGE : Nat := 0x1203
/-- MEM_DENIED (25 Table 25.3, 26 Table 26.5). -/
abbrev Ev.MEM_DENIED : Nat := 0x1301
/-- MEM_CE (25 Table 25.3, 26 Table 26.5). -/
abbrev Ev.MEM_CE : Nat := 0x1302
/-- MEM_UE (25 Table 25.3, 26 Table 26.5). -/
abbrev Ev.MEM_UE : Nat := 0x1303
/-- MEM_POISON_READ (25 Table 25.3, 26 Table 26.5). -/
abbrev Ev.MEM_POISON_READ : Nat := 0x1304
/-- MEM_CE_STORM (25 Table 25.3, 26 Table 26.5). -/
abbrev Ev.MEM_CE_STORM : Nat := 0x1305
/-- SCRUB_PASS_DONE (25 Table 25.3, 26 Table 26.5). -/
abbrev Ev.SCRUB_PASS_DONE : Nat := 0x1306
/-- SCRUB_BEHIND (25 Table 25.3, 26 Table 26.5). -/
abbrev Ev.SCRUB_BEHIND : Nat := 0x1307
/-- SCRUB_CAUGHT_UP (25 Table 25.3, 26 Table 26.5). -/
abbrev Ev.SCRUB_CAUGHT_UP : Nat := 0x1308
/-- VEL_CE (25 Table 25.3, 26 Table 26.5). -/
abbrev Ev.VEL_CE : Nat := 0x1309
/-- VEL_UE (25 Table 25.3, 26 Table 26.5). -/
abbrev Ev.VEL_UE : Nat := 0x130A
/-- MEM_TRAIN_FAIL (25 Table 25.3, 26 Table 26.5). -/
abbrev Ev.MEM_TRAIN_FAIL : Nat := 0x130B
/-- EVT_DENIED (25 Table 25.3, 26 Table 26.5). -/
abbrev Ev.EVT_DENIED : Nat := 0x1401
/-- EVT_SECTOR (25 Table 25.3, 26 Table 26.5). -/
abbrev Ev.EVT_SECTOR : Nat := 0x1402
/-- RETIRED_MAP (25 Table 25.3, 26 Table 26.5). -/
abbrev Ev.RETIRED_MAP : Nat := 0x1403
/-- MGMT_DENIED (25 Table 25.3, 26 Table 26.5). -/
abbrev Ev.MGMT_DENIED : Nat := 0x1501
/-- SMB_PEC_ERROR (25 Table 25.3, 26 Table 26.5). -/
abbrev Ev.SMB_PEC_ERROR : Nat := 0x1502
/-- FUSE_PROGRAMMED (25 Table 25.3, 26 Table 26.5). -/
abbrev Ev.FUSE_PROGRAMMED : Nat := 0x1503
/-- FUSE_FAIL (25 Table 25.3, 26 Table 26.5). -/
abbrev Ev.FUSE_FAIL : Nat := 0x1504
/-- ALERT_OVERFLOW (25 Table 25.3, 26 Table 26.5). -/
abbrev Ev.ALERT_OVERFLOW : Nat := 0x1505
/-- DEBUG_OPEN (25 Table 25.3, 26 Table 26.5). -/
abbrev Ev.DEBUG_OPEN : Nat := 0x1506
/-- EXTEST_ENTRY (25 Table 25.3, 26 Table 26.5). -/
abbrev Ev.EXTEST_ENTRY : Nat := 0x1507
/-- SB_MISWIRE (25 Table 25.3, 26 Table 26.5). -/
abbrev Ev.SB_MISWIRE : Nat := 0x1601

/-- (code, default severity 0–3, forced ROUTE bits) of every listed event. -/
def evRows0 : List (Nat × Nat × Nat) := [
  (0x0001, 1, 0), (0x0002, 1, 0), (0x0003, 1, 0), (0x0004, 1, 0), (0x0101, 2, 0),
  (0x0102, 1, 0), (0x0103, 2, 0), (0x0201, 1, 0), (0x0301, 1, 0), (0x0302, 1, 0),
  (0x0303, 2, 0), (0x0304, 3, 8), (0x0305, 1, 0), (0x0306, 2, 0), (0x0401, 2, 0),
  (0x0402, 2, 0), (0x0403, 3, 0), (0x0404, 2, 0), (0x0405, 2, 0), (0x0406, 0, 0),
  (0x0407, 1, 0), (0x0408, 1, 0), (0x0409, 1, 0), (0x0501, 1, 0), (0x0502, 2, 0),
  (0x0503, 1, 0), (0x0504, 1, 0), (0x0505, 2, 0), (0x0506, 0, 0), (0x0507, 1, 0),
  (0x0601, 1, 0), (0x0602, 3, 8), (0x0603, 3, 8), (0x0604, 3, 0), (0x0605, 0, 0),
  (0x0606, 3, 0), (0x0701, 1, 0), (0x0702, 1, 0), (0x0703, 2, 0), (0x0704, 2, 4)]
def evRows1 : List (Nat × Nat × Nat) := [
  (0x0705, 2, 0), (0x0706, 1, 0), (0x0707, 0, 4), (0x0708, 1, 0), (0x0801, 1, 0),
  (0x0802, 0, 0), (0x0803, 0, 0), (0x0804, 1, 0), (0x0901, 1, 0), (0x0902, 2, 0),
  (0x0903, 1, 0), (0x0904, 2, 0), (0x0905, 0, 0), (0x0906, 2, 0), (0x0907, 2, 0),
  (0x0908, 1, 0), (0x0909, 2, 0), (0x090A, 0, 0), (0x090B, 0, 0), (0x090C, 1, 0),
  (0x090D, 1, 0), (0x090E, 2, 0), (0x0A01, 1, 0), (0x0A02, 2, 0), (0x0A03, 2, 0),
  (0x0A04, 1, 0), (0x0A05, 2, 0), (0x0A06, 2, 0), (0x0A07, 1, 0), (0x0A08, 2, 0),
  (0x0A09, 1, 0), (0x0A0A, 2, 0), (0x0A0B, 1, 0), (0x0A0C, 2, 0), (0x0A0D, 0, 0),
  (0x0A0E, 0, 0), (0x0A0F, 1, 0), (0x0A10, 1, 0), (0x0A11, 2, 0), (0x0A12, 1, 0)]
def evRows2 : List (Nat × Nat × Nat) := [
  (0x0B01, 3, 0), (0x0B02, 1, 0), (0x0B03, 1, 0), (0x0B04, 1, 0), (0x0B05, 2, 0),
  (0x0B06, 2, 0), (0x0B07, 2, 0), (0x0B08, 2, 0), (0x0B09, 3, 0), (0x0B0A, 2, 0),
  (0x0B0B, 0, 0), (0x0C01, 1, 0), (0x0C02, 2, 0), (0x0C03, 2, 0), (0x0C04, 2, 0),
  (0x0C05, 1, 0), (0x0C06, 2, 0), (0x0C07, 3, 0), (0x0C08, 2, 0), (0x0C09, 3, 0),
  (0x0C0A, 1, 0), (0x0C0B, 2, 0), (0x0C0C, 2, 0), (0x0C0D, 3, 0), (0x0C0E, 3, 0),
  (0x0C0F, 2, 0), (0x0D01, 2, 0), (0x0D02, 1, 0), (0x0D03, 2, 0), (0x0D04, 1, 0),
  (0x0D05, 3, 0), (0x0D06, 2, 0), (0x0D07, 3, 0), (0x0D08, 2, 0), (0x0E01, 1, 0),
  (0x0E02, 2, 0), (0x0E03, 1, 0), (0x0E04, 2, 0), (0x0E05, 2, 0), (0x0F01, 1, 0)]
def evRows3 : List (Nat × Nat × Nat) := [
  (0x0F02, 2, 0), (0x0F03, 2, 0), (0x0F04, 1, 0), (0x0F05, 3, 0), (0x1001, 1, 0),
  (0x1002, 2, 0), (0x1003, 1, 0), (0x1004, 1, 0), (0x1101, 1, 0), (0x1102, 2, 0),
  (0x1103, 1, 0), (0x1201, 1, 0), (0x1202, 1, 0), (0x1203, 2, 0), (0x1301, 1, 0),
  (0x1302, 0, 0), (0x1303, 2, 0), (0x1304, 1, 0), (0x1305, 2, 0), (0x1306, 0, 0),
  (0x1307, 1, 0), (0x1308, 0, 0), (0x1309, 0, 0), (0x130A, 2, 0), (0x130B, 3, 0),
  (0x1401, 1, 0), (0x1402, 0, 4), (0x1403, 0, 4), (0x1501, 1, 0), (0x1502, 1, 0),
  (0x1503, 1, 4), (0x1504, 2, 0), (0x1505, 2, 0), (0x1506, 2, 4), (0x1507, 3, 4),
  (0x1601, 2, 0)]

/-- Every listed event. -/
def evRows : List (Nat × Nat × Nat) := evRows0 ++ evRows1 ++ evRows2 ++ evRows3

/-- The row of a code, if Table 25.3 or 26.5 lists it (R625). -/
def evRow (code : Nat) : Option (Nat × Nat × Nat) := evRows.find? (fun r => r.1 == code)

/-- The default ROUTE of a severity (R628): INFO and NOTICE HBM; ERROR HBM, IRQ; SEVERE all five. -/
def evDefaultRoute (sev : Nat) : Nat := if sev < 2 then 0x01 else if sev = 2 then 0x03 else 0x1F

/-- The default policy byte of a code: SEV[7:6], ROUTE[4:0] with the forced bits, 0 for a code that is not listed. -/
def evDefaultByte (code : Nat) : Nat :=
  match evRow code with
  | some (_, sev, f) => sev * 64 + (evDefaultRoute sev ||| f)
  | none => 0

/-- The forced ROUTE bits of a code (R629). -/
def evForced (code : Nat) : Nat :=
  match evRow code with
  | some (_, _, f) => f
  | none => 0

/-- The policy byte's writable bits: those of a listed code (R9, R628). -/
def evMaskByte (code : Nat) : Nat := if (evRow code).isSome then 0xDF else 0

/-- The reset value of dword i of EVT_POLICY, holding the bytes of codes 4i to 4i + 3 (25 R628, R638). -/
def evPolicyReset (i : Nat) : Nat :=
  evDefaultByte (4 * i) + 256 * evDefaultByte (4 * i + 1) + 65536 * evDefaultByte (4 * i + 2) + 16777216 * evDefaultByte (4 * i + 3)

/-- The writable bits of dword i of EVT_POLICY. -/
def evPolicyMask (i : Nat) : Nat :=
  evMaskByte (4 * i) + 256 * evMaskByte (4 * i + 1) + 65536 * evMaskByte (4 * i + 2) + 16777216 * evMaskByte (4 * i + 3)

end Sys2Proof.Machine
end

