-- ==== Sys2Proof/Machine/SMap.lean ====
section
/-! DEFINITION. Sparse tables as plain data: a list of (key, value) pairs with keys strictly rising and no value equal to
what an unlisted key reads as. The registers and every memory of the LX16 are such tables, so equal contents are
equal data. -/

namespace Sys2Proof.Machine

/-- A sparse table. -/
abbrev SMap (α : Type) := List (Nat × α)

/-- The value at key k, where `d` says what an unlisted key reads as. -/
def smGet {α : Type} (d : Nat → α) : SMap α → Nat → α
  | [], k => d k
  | (j, v) :: m, k => if j = k then v else smGet d m k

/-- Remove key k, however often it is listed. -/
def smErase {α : Type} : SMap α → Nat → SMap α
  | [], _ => []
  | (j, v) :: m, k => if j = k then smErase m k else (j, v) :: smErase m k

/-- Put v at key k, keeping the keys rising. -/
def smPut {α : Type} : SMap α → Nat → α → SMap α
  | [], k, v => [(k, v)]
  | (j, w) :: m, k, v =>
    if k < j then (k, v) :: (j, w) :: m
    else if j = k then (k, v) :: m
    else (j, w) :: smPut m k v

/-- Store v at key k in canonical form: a value an unlisted key reads as is not listed. -/
def smSet {α : Type} [DecidableEq α] (d : Nat → α) (m : SMap α) (k : Nat) (v : α) : SMap α :=
  if v = d k then smErase m k else smPut m k v

/-- Put v at place k of a list of like things, where `d` is what a place beyond the list's end holds. -/
def setAt {α : Type} (d : α) : List α → Nat → α → List α
  | [], 0, v => [v]
  | [], k + 1, v => d :: setAt d [] k v
  | _ :: xs, 0, v => v :: xs
  | x :: xs, k + 1, v => x :: setAt d xs k v

/-- Every key lies above b and rises. -/
def smRising {α : Type} : Nat → SMap α → Bool
  | _, [] => true
  | b, (j, _) :: m => decide (b ≤ j) && smRising (j + 1) m

/-- The canonical form. -/
def smWf {α : Type} [DecidableEq α] (d : Nat → α) (m : SMap α) : Bool :=
  smRising 0 m && m.all (fun p => decide (p.2 ≠ d p.1))

end Sys2Proof.Machine
end

