-- ==== Sys2Proof/Machine/RegTable.lean ====
section
/-! DEFINITION. The register index of chapter 27 (R659–R664): for every register of BAR0 its offset, its array shape, its access
code (00 Table 0.3), its reset value, the bits its field table names (00 R15, the others are reserved, R9), the field ranges
(00 R15) and its place in a 64-bit pair (R19, R22). A row's docstring-like tag names the spec's chapter and rule. -/

namespace Sys2Proof.Machine

/-- The access codes of 00 Table 0.3 (R16). -/
inductive Acc where
  | ro | rw | w1c | w1s | wo | rc | rwl
  deriving DecidableEq, Repr

/-- The place of a register in a 64-bit pair (R19). -/
inductive Half where
  | none | lo | hi
  deriving DecidableEq, Repr

/-- A row of the index: base offset, array dimensions (count, stride) outermost first, access, reset, the bits that field
tables name, (hi, lo, least, greatest) of fields whose table states a range, and the pair's half. -/
structure RegRow where
  base : Nat
  dims : List (Nat × Nat)
  acc : Acc
  reset : Nat
  mask : Nat
  ranges : List (Nat × Nat × Nat × Nat)
  half : Half
  deriving DecidableEq, Repr

/-! Offsets by name. -/

/-- GLB_PART (01 R30). -/
abbrev R.GLB_PART : Nat := 0x0
/-- GLB_CAPS (01 R30). -/
abbrev R.GLB_CAPS : Nat := 0x4
/-- GLB_CHIP (01 R30). -/
abbrev R.GLB_CHIP : Nat := 0x8
/-- GLB_STATE (01 R30). -/
abbrev R.GLB_STATE : Nat := 0xC
/-- GLB_SCRATCH (01 R30). -/
abbrev R.GLB_SCRATCH : Nat := 0x10
/-- PCIE_STATUS (22 R588). -/
abbrev R.PCIE_STATUS : Nat := 0x8000
/-- PCIE_BAR2_BASE (22 R588). -/
abbrev R.PCIE_BAR2_BASE : Nat := 0x8004
/-- PCIE_OUTSTANDING (22 R588). -/
abbrev R.PCIE_OUTSTANDING : Nat := 0x8008
/-- PCIE_BME_DROP (22 R588). -/
abbrev R.PCIE_BME_DROP : Nat := 0x800C
/-- PCIE_FENCE_DROP (22 R588). -/
abbrev R.PCIE_FENCE_DROP : Nat := 0x8010
/-- PCIE_BAD_ACC (22 R588). -/
abbrev R.PCIE_BAD_ACC : Nat := 0x8014
/-- PCIE_LINK_CNT (22 R588). -/
abbrev R.PCIE_LINK_CNT : Nat := 0x8018
/-- PCIE_FLR_CNT (22 R588). -/
abbrev R.PCIE_FLR_CNT : Nat := 0x801C
/-- CLK_STATUS (03 R100). -/
abbrev R.CLK_STATUS : Nat := 0x10000
/-- CLK_REF_CFG (03 R100). -/
abbrev R.CLK_REF_CFG : Nat := 0x10004
/-- CLK_PORT_LOCK (03 R100). -/
abbrev R.CLK_PORT_LOCK : Nat := 0x10008
/-- CLK_ROOT_TRIM (03 R100). -/
abbrev R.CLK_ROOT_TRIM : Nat := 0x1000C
/-- CLK_LOSS_CNT (03 R100). -/
abbrev R.CLK_LOSS_CNT : Nat := 0x10010
/-- CLK_HOLD_FRAMES (03 R100). -/
abbrev R.CLK_HOLD_FRAMES : Nat := 0x10014
/-- CLK_LOOP_RUN (03 R100). -/
abbrev R.CLK_LOOP_RUN : Nat := 0x10018
/-- RST_CAUSE (03 R101). -/
abbrev R.RST_CAUSE : Nat := 0x20000
/-- RST_CHIP (03 R101). -/
abbrev R.RST_CHIP : Nat := 0x20004
/-- RST_DOMAIN (03 R101). -/
abbrev R.RST_DOMAIN : Nat := 0x20008
/-- RST_BLOCK (03 R101). -/
abbrev R.RST_BLOCK : Nat := 0x2000C
/-- RST_BUSY (03 R101). -/
abbrev R.RST_BUSY : Nat := 0x20010
/-- RST_CHIP_CNT (03 R101). -/
abbrev R.RST_CHIP_CNT : Nat := 0x20014
/-- RST_PERST_CNT (03 R101). -/
abbrev R.RST_PERST_CNT : Nat := 0x20018
/-- RST_FLR_CNT (03 R101). -/
abbrev R.RST_FLR_CNT : Nat := 0x2001C
/-- RST_DENY_CNT (03 R101). -/
abbrev R.RST_DENY_CNT : Nat := 0x20020
/-- TIME_CT_LO (04 R132). -/
abbrev R.TIME_CT_LO : Nat := 0x50000
/-- TIME_CT_HI (04 R132). -/
abbrev R.TIME_CT_HI : Nat := 0x50004
/-- TIME_STATUS (04 R132). -/
abbrev R.TIME_STATUS : Nat := 0x50008
/-- TIME_CFG (04 R132). -/
abbrev R.TIME_CFG : Nat := 0x5000C
/-- TIME_STEP_CFG (04 R132). -/
abbrev R.TIME_STEP_CFG : Nat := 0x50010
/-- TIME_SERVO_CFG (04 R132). -/
abbrev R.TIME_SERVO_CFG : Nat := 0x50014
/-- TIME_OFFSET (04 R132). -/
abbrev R.TIME_OFFSET : Nat := 0x50018
/-- TIME_DELAY (04 R132). -/
abbrev R.TIME_DELAY : Nat := 0x5001C
/-- TIME_LAST_STEP_LO (04 R132). -/
abbrev R.TIME_LAST_STEP_LO : Nat := 0x50020
/-- TIME_LAST_STEP_HI (04 R132). -/
abbrev R.TIME_LAST_STEP_HI : Nat := 0x50024
/-- TIME_STEP_CNT (04 R132). -/
abbrev R.TIME_STEP_CNT : Nat := 0x50028
/-- TIME_XCHG_DROP (04 R132). -/
abbrev R.TIME_XCHG_DROP : Nat := 0x5002C
/-- TIME_PTM_CTL (04 R132). -/
abbrev R.TIME_PTM_CTL : Nat := 0x50030
/-- TIME_PTM_STATUS (04 R132). -/
abbrev R.TIME_PTM_STATUS : Nat := 0x50034
/-- TIME_PTM_CT_LO (04 R132). -/
abbrev R.TIME_PTM_CT_LO : Nat := 0x50038
/-- TIME_PTM_CT_HI (04 R132). -/
abbrev R.TIME_PTM_CT_HI : Nat := 0x5003C
/-- TIME_PTM_HOST_LO (04 R132). -/
abbrev R.TIME_PTM_HOST_LO : Nat := 0x50040
/-- TIME_PTM_HOST_HI (04 R132). -/
abbrev R.TIME_PTM_HOST_HI : Nat := 0x50044
/-- PWR_STATUS (05 R158). -/
abbrev R.PWR_STATUS : Nat := 0x30000
/-- PWR_DOM_REQ (05 R158). -/
abbrev R.PWR_DOM_REQ : Nat := 0x30010
/-- PWR_DOM_RESULT (05 R158). -/
abbrev R.PWR_DOM_RESULT : Nat := 0x30014
/-- PWR_AUTO_IDLE (05 R158). -/
abbrev R.PWR_AUTO_IDLE : Nat := 0x30018
/-- PWR_PKG_LIMIT (05 R158). -/
abbrev R.PWR_PKG_LIMIT : Nat := 0x30020
/-- PWR_PKG_MEAS (05 R158). -/
abbrev R.PWR_PKG_MEAS : Nat := 0x30024
/-- PWR_DIE_MEAS_G (05 R158). -/
abbrev R.PWR_DIE_MEAS_G (i : Nat) : Nat := 0x30028 + 0x4 * i
/-- PWR_GOV_CFG_G (05 R158). -/
abbrev R.PWR_GOV_CFG_G (i : Nat) : Nat := 0x30040 + 0x4 * i
/-- PWR_GOV_STATUS_G (05 R158). -/
abbrev R.PWR_GOV_STATUS_G (i : Nat) : Nat := 0x30048 + 0x4 * i
/-- PWR_GOV_STALL_G_LO (05 R158). -/
abbrev R.PWR_GOV_STALL_G_LO (i : Nat) : Nat := 0x30050 + 0x8 * i
/-- PWR_GOV_STALL_G_HI (05 R158). -/
abbrev R.PWR_GOV_STALL_G_HI (i : Nat) : Nat := 0x30054 + 0x8 * i
/-- PWR_HEADROOM (05 R158). -/
abbrev R.PWR_HEADROOM : Nat := 0x30060
/-- PWR_HN_G (05 R158). -/
abbrev R.PWR_HN_G (i : Nat) : Nat := 0x30070 + 0x4 * i
/-- PWR_HN_PENDING (05 R158). -/
abbrev R.PWR_HN_PENDING : Nat := 0x30078
/-- PWR_HN_SHORT_CNT (05 R158). -/
abbrev R.PWR_HN_SHORT_CNT : Nat := 0x3007C
/-- PWR_KIND_W (05 R158). -/
abbrev R.PWR_KIND_W (i : Nat) : Nat := 0x30080 + 0x4 * i
/-- PWR_PAIR_IDLE_W (05 R158). -/
abbrev R.PWR_PAIR_IDLE_W : Nat := 0x300A0
/-- PWR_DOM_STATE (05 R158). -/
abbrev R.PWR_DOM_STATE (i : Nat) : Nat := 0x30100 + 0x4 * i
/-- PWR_DOM_STATE10 (05 R158). -/
abbrev R.PWR_DOM_STATE10 : Nat := 0x30128
/-- BOOT_STATUS (06 R191). -/
abbrev R.BOOT_STATUS : Nat := 0x40000
/-- BOOT_LOCK (06 R191). -/
abbrev R.BOOT_LOCK : Nat := 0x40004
/-- BOOT_IMAGE_ID (06 R191). -/
abbrev R.BOOT_IMAGE_ID : Nat := 0x40008
/-- BOOT_DIGEST_LO (06 R191). -/
abbrev R.BOOT_DIGEST_LO : Nat := 0x4000C
/-- BOOT_DIGEST_HI (06 R191). -/
abbrev R.BOOT_DIGEST_HI : Nat := 0x40010
/-- BOOT_PLATESET_LO (06 R191). -/
abbrev R.BOOT_PLATESET_LO : Nat := 0x40014
/-- BOOT_PLATESET_HI (06 R191). -/
abbrev R.BOOT_PLATESET_HI : Nat := 0x40018
/-- BOOT_CLUSTER_LO (06 R191). -/
abbrev R.BOOT_CLUSTER_LO : Nat := 0x4001C
/-- BOOT_CLUSTER_HI (06 R191). -/
abbrev R.BOOT_CLUSTER_HI : Nat := 0x40020
/-- BOOT_FUSE (06 R191). -/
abbrev R.BOOT_FUSE : Nat := 0x40024
/-- BOOT_READY_CT_LO (06 R191). -/
abbrev R.BOOT_READY_CT_LO : Nat := 0x40028
/-- BOOT_READY_CT_HI (06 R191). -/
abbrev R.BOOT_READY_CT_HI : Nat := 0x4002C
/-- BOOT_NVM_ID (06 R191). -/
abbrev R.BOOT_NVM_ID : Nat := 0x40030
/-- BOOT_NVM_SIZE (06 R191). -/
abbrev R.BOOT_NVM_SIZE : Nat := 0x40034
/-- BOOT_LINK_WAIT (06 R191). -/
abbrev R.BOOT_LINK_WAIT : Nat := 0x40038
/-- BOOT_MB_CMD (06 R191). -/
abbrev R.BOOT_MB_CMD : Nat := 0x40040
/-- BOOT_MB_ARG (06 R191). -/
abbrev R.BOOT_MB_ARG (i : Nat) : Nat := 0x40044 + 0x4 * i
/-- BOOT_MB_STATUS (06 R191). -/
abbrev R.BOOT_MB_STATUS : Nat := 0x40050
/-- BOOT_MB_PROGRESS (06 R191). -/
abbrev R.BOOT_MB_PROGRESS : Nat := 0x40054
/-- BOOT_MB_BUF (06 R191). -/
abbrev R.BOOT_MB_BUF (i : Nat) : Nat := 0x48000 + 0x4 * i
/-- PROOF_STATUS (08 R237). -/
abbrev R.PROOF_STATUS : Nat := 0x80000
/-- PROOF_SYNC (08 R237). -/
abbrev R.PROOF_SYNC : Nat := 0x80004
/-- PROOF_DARK_CFG (08 R237). -/
abbrev R.PROOF_DARK_CFG : Nat := 0x80008
/-- PROOF_DARK_CMD (08 R237). -/
abbrev R.PROOF_DARK_CMD : Nat := 0x8000C
/-- PROOF_DEFECT_CFG (08 R237). -/
abbrev R.PROOF_DEFECT_CFG : Nat := 0x80010
/-- PROOF_SYNC_CNT (08 R237). -/
abbrev R.PROOF_SYNC_CNT : Nat := 0x80014
/-- PROOF_TELEM_CNT (08 R237). -/
abbrev R.PROOF_TELEM_CNT : Nat := 0x80018
/-- PROOF_CROP_WIN (08 R237). -/
abbrev R.PROOF_CROP_WIN (i : Nat) : Nat := 0x80020 + 0x8 * i
/-- PROOF_CROP_CTL (08 R237). -/
abbrev R.PROOF_CROP_CTL (i : Nat) : Nat := 0x80024 + 0x8 * i
/-- PROOF_DARK (08 R237). -/
abbrev R.PROOF_DARK (i : Nat) : Nat := 0x81000 + 0x4 * i
/-- PROOF_SHADE (08 R237). -/
abbrev R.PROOF_SHADE (i : Nat) : Nat := 0x84000 + 0x4 * i
/-- PROOF_DEFECT_IMG (08 R237). -/
abbrev R.PROOF_DEFECT_IMG (i : Nat) : Nat := 0x87000 + 0x4 * i
/-- PROOF_DEFECT_LIVE (08 R237). -/
abbrev R.PROOF_DEFECT_LIVE (i : Nat) : Nat := 0x87200 + 0x4 * i
/-- PROOF_CLEAR_GAIN (08 R237). -/
abbrev R.PROOF_CLEAR_GAIN (i : Nat) : Nat := 0x87400 + 0x4 * i
/-- PROOF_MIX (08 R237). -/
abbrev R.PROOF_MIX (i : Nat) : Nat := 0x90000 + 0x4 * i
/-- PROOF_CURVE (08 R237). -/
abbrev R.PROOF_CURVE (i : Nat) : Nat := 0xA0000 + 0x4 * i
/-- PROOF_LIVE (08 R237). -/
abbrev R.PROOF_LIVE (i : Nat) : Nat := 0xB0000 + 0x4 * i
/-- PROOF_TELEM (08 R237). -/
abbrev R.PROOF_TELEM (i : Nat) : Nat := 0xC0000 + 0x4 * i
/-- STY_STATUS (09 R262). -/
abbrev R.STY_STATUS (i : Nat) : Nat := 0x100000 + 0x10000 * i
/-- STY_WQ_DROP (09 R262). -/
abbrev R.STY_WQ_DROP (i : Nat) : Nat := 0x100004 + 0x10000 * i
/-- STY_ROLL_CNT (09 R262). -/
abbrev R.STY_ROLL_CNT (i : Nat) : Nat := 0x100008 + 0x10000 * i
/-- STY_HN_G (09 R262). -/
abbrev R.STY_HN_G (i j : Nat) : Nat := 0x10000C + 0x10000 * i + 0x4 * j
/-- STY_VSQ (09 R262). -/
abbrev R.STY_VSQ (i : Nat) : Nat := 0x100014 + 0x10000 * i
/-- STY_HOLD_MAP (09 R262). -/
abbrev R.STY_HOLD_MAP (i j : Nat) : Nat := 0x100020 + 0x10000 * i + 0x4 * j
/-- STY_FMAP (09 R240). -/
abbrev R.STY_FMAP (i j : Nat) : Nat := 0x100100 + 0x10000 * i + 0x4 * j
/-- STY_SMAP (09 R241). -/
abbrev R.STY_SMAP (i j : Nat) : Nat := 0x100200 + 0x10000 * i + 0x4 * j
/-- STY_FAST_CTL (09 R262 (Table 9.5)). -/
abbrev R.STY_FAST_CTL (i j : Nat) : Nat := 0x101000 + 0x10000 * i + 0x100 * j
/-- STY_FAST_SRC (09 R262 (Table 9.5)). -/
abbrev R.STY_FAST_SRC (i j : Nat) : Nat := 0x101004 + 0x10000 * i + 0x100 * j
/-- STY_FAST_SETPOINT (09 R262 (Table 9.5)). -/
abbrev R.STY_FAST_SETPOINT (i j : Nat) : Nat := 0x101008 + 0x10000 * i + 0x100 * j
/-- STY_FAST_SHIFTS (09 R262 (Table 9.5)). -/
abbrev R.STY_FAST_SHIFTS (i j : Nat) : Nat := 0x10100C + 0x10000 * i + 0x100 * j
/-- STY_FAST_KI (09 R262 (Table 9.5)). -/
abbrev R.STY_FAST_KI (i j : Nat) : Nat := 0x101010 + 0x10000 * i + 0x100 * j
/-- STY_FAST_KV (09 R262 (Table 9.5)). -/
abbrev R.STY_FAST_KV (i j : Nat) : Nat := 0x101014 + 0x10000 * i + 0x100 * j
/-- STY_FAST_KH0 (09 R262 (Table 9.5)). -/
abbrev R.STY_FAST_KH0 (i j : Nat) : Nat := 0x101018 + 0x10000 * i + 0x100 * j
/-- STY_FAST_KH1 (09 R262 (Table 9.5)). -/
abbrev R.STY_FAST_KH1 (i j : Nat) : Nat := 0x10101C + 0x10000 * i + 0x100 * j
/-- STY_FAST_OFFSET (09 R262 (Table 9.5)). -/
abbrev R.STY_FAST_OFFSET (i j : Nat) : Nat := 0x101020 + 0x10000 * i + 0x100 * j
/-- STY_FAST_SEED (09 R262 (Table 9.5)). -/
abbrev R.STY_FAST_SEED (i j : Nat) : Nat := 0x101024 + 0x10000 * i + 0x100 * j
/-- STY_FAST_INTEG (09 R262 (Table 9.5)). -/
abbrev R.STY_FAST_INTEG (i j : Nat) : Nat := 0x101028 + 0x10000 * i + 0x100 * j
/-- STY_FAST_OUT (09 R262 (Table 9.5)). -/
abbrev R.STY_FAST_OUT (i j : Nat) : Nat := 0x10102C + 0x10000 * i + 0x100 * j
/-- STY_FAST_ERR (09 R262 (Table 9.5)). -/
abbrev R.STY_FAST_ERR (i j : Nat) : Nat := 0x101030 + 0x10000 * i + 0x100 * j
/-- STY_FAST_STATE (09 R262 (Table 9.5)). -/
abbrev R.STY_FAST_STATE (i j : Nat) : Nat := 0x101034 + 0x10000 * i + 0x100 * j
/-- STY_FAST_SWEEP_STEP (09 R262 (Table 9.5)). -/
abbrev R.STY_FAST_SWEEP_STEP (i j : Nat) : Nat := 0x101038 + 0x10000 * i + 0x100 * j
/-- STY_FAST_KP (09 R262 (Table 9.5)). -/
abbrev R.STY_FAST_KP (i j k : Nat) : Nat := 0x101080 + 0x10000 * i + 0x100 * j + 0x4 * k
/-- STY_SLOW_CTL (09 R262 (Table 9.5)). -/
abbrev R.STY_SLOW_CTL (i j : Nat) : Nat := 0x105000 + 0x10000 * i + 0x100 * j
/-- STY_SLOW_SRC (09 R262 (Table 9.5)). -/
abbrev R.STY_SLOW_SRC (i j : Nat) : Nat := 0x105004 + 0x10000 * i + 0x100 * j
/-- STY_SLOW_SETPOINT (09 R262 (Table 9.5)). -/
abbrev R.STY_SLOW_SETPOINT (i j : Nat) : Nat := 0x105008 + 0x10000 * i + 0x100 * j
/-- STY_SLOW_SHIFTS (09 R262 (Table 9.5)). -/
abbrev R.STY_SLOW_SHIFTS (i j : Nat) : Nat := 0x10500C + 0x10000 * i + 0x100 * j
/-- STY_SLOW_KI (09 R262 (Table 9.5)). -/
abbrev R.STY_SLOW_KI (i j : Nat) : Nat := 0x105010 + 0x10000 * i + 0x100 * j
/-- STY_SLOW_KV (09 R262 (Table 9.5)). -/
abbrev R.STY_SLOW_KV (i j : Nat) : Nat := 0x105014 + 0x10000 * i + 0x100 * j
/-- STY_SLOW_KH0 (09 R262 (Table 9.5)). -/
abbrev R.STY_SLOW_KH0 (i j : Nat) : Nat := 0x105018 + 0x10000 * i + 0x100 * j
/-- STY_SLOW_KH1 (09 R262 (Table 9.5)). -/
abbrev R.STY_SLOW_KH1 (i j : Nat) : Nat := 0x10501C + 0x10000 * i + 0x100 * j
/-- STY_SLOW_OFFSET (09 R262 (Table 9.5)). -/
abbrev R.STY_SLOW_OFFSET (i j : Nat) : Nat := 0x105020 + 0x10000 * i + 0x100 * j
/-- STY_SLOW_SEED (09 R262 (Table 9.5)). -/
abbrev R.STY_SLOW_SEED (i j : Nat) : Nat := 0x105024 + 0x10000 * i + 0x100 * j
/-- STY_SLOW_INTEG (09 R262 (Table 9.5)). -/
abbrev R.STY_SLOW_INTEG (i j : Nat) : Nat := 0x105028 + 0x10000 * i + 0x100 * j
/-- STY_SLOW_OUT (09 R262 (Table 9.5)). -/
abbrev R.STY_SLOW_OUT (i j : Nat) : Nat := 0x10502C + 0x10000 * i + 0x100 * j
/-- STY_SLOW_ERR (09 R262 (Table 9.5)). -/
abbrev R.STY_SLOW_ERR (i j : Nat) : Nat := 0x105030 + 0x10000 * i + 0x100 * j
/-- STY_SLOW_STATE (09 R262 (Table 9.5)). -/
abbrev R.STY_SLOW_STATE (i j : Nat) : Nat := 0x105034 + 0x10000 * i + 0x100 * j
/-- STY_SLOW_SWEEP_STEP (09 R262 (Table 9.5)). -/
abbrev R.STY_SLOW_SWEEP_STEP (i j : Nat) : Nat := 0x105038 + 0x10000 * i + 0x100 * j
/-- STY_SLOW_KP (09 R262 (Table 9.5)). -/
abbrev R.STY_SLOW_KP (i j k : Nat) : Nat := 0x105080 + 0x10000 * i + 0x100 * j + 0x4 * k
/-- STY_SUP_STATUS (10 R287). -/
abbrev R.STY_SUP_STATUS (i : Nat) : Nat := 0x100400 + 0x10000 * i
/-- STY_SUP_RELEASE (10 R287). -/
abbrev R.STY_SUP_RELEASE (i : Nat) : Nat := 0x100404 + 0x10000 * i
/-- STY_MIS_CNT (10 R287). -/
abbrev R.STY_MIS_CNT (i : Nat) : Nat := 0x100408 + 0x10000 * i
/-- STY_SLIP_CNT (10 R287). -/
abbrev R.STY_SLIP_CNT (i : Nat) : Nat := 0x10040C + 0x10000 * i
/-- STY_ROLL_DUE (10 R287). -/
abbrev R.STY_ROLL_DUE (i j : Nat) : Nat := 0x100410 + 0x10000 * i + 0x4 * j
/-- STY_RELAY_CMD (10 R287). -/
abbrev R.STY_RELAY_CMD (i : Nat) : Nat := 0x100420 + 0x10000 * i
/-- STY_RELAY_CFG (10 R287). -/
abbrev R.STY_RELAY_CFG (i : Nat) : Nat := 0x100424 + 0x10000 * i
/-- STY_RELAY_LIMIT (10 R287). -/
abbrev R.STY_RELAY_LIMIT (i : Nat) : Nat := 0x100428 + 0x10000 * i
/-- STY_RELAY_STATUS (10 R287). -/
abbrev R.STY_RELAY_STATUS (i : Nat) : Nat := 0x10042C + 0x10000 * i
/-- STY_RELAY_KU (10 R287). -/
abbrev R.STY_RELAY_KU (i : Nat) : Nat := 0x100430 + 0x10000 * i
/-- STY_RELAY_TU (10 R287). -/
abbrev R.STY_RELAY_TU (i : Nat) : Nat := 0x100434 + 0x10000 * i
/-- STY_RELAY_A2 (10 R287). -/
abbrev R.STY_RELAY_A2 (i : Nat) : Nat := 0x100438 + 0x10000 * i
/-- STY_TRACE_CMD (10 R287). -/
abbrev R.STY_TRACE_CMD (i : Nat) : Nat := 0x100440 + 0x10000 * i
/-- STY_TRACE_CFG (10 R287). -/
abbrev R.STY_TRACE_CFG (i : Nat) : Nat := 0x100444 + 0x10000 * i
/-- STY_TRACE_POST (10 R287). -/
abbrev R.STY_TRACE_POST (i : Nat) : Nat := 0x100448 + 0x10000 * i
/-- STY_TRACE_THRESH (10 R287). -/
abbrev R.STY_TRACE_THRESH (i : Nat) : Nat := 0x10044C + 0x10000 * i
/-- STY_TRACE_CT_LO (10 R287). -/
abbrev R.STY_TRACE_CT_LO (i : Nat) : Nat := 0x100450 + 0x10000 * i
/-- STY_TRACE_CT_HI (10 R287). -/
abbrev R.STY_TRACE_CT_HI (i : Nat) : Nat := 0x100454 + 0x10000 * i
/-- STY_TRACE_STATUS (10 R287). -/
abbrev R.STY_TRACE_STATUS (i : Nat) : Nat := 0x100458 + 0x10000 * i
/-- STY_SUP_CTL (10 R287 (Table 10.3)). -/
abbrev R.STY_SUP_CTL (i j : Nat) : Nat := 0x10A400 + 0x10000 * i + 0x20 * j
/-- STY_SUP_THRESH (10 R287 (Table 10.3)). -/
abbrev R.STY_SUP_THRESH (i j : Nat) : Nat := 0x10A404 + 0x10000 * i + 0x20 * j
/-- STY_SUP_A (10 R287 (Table 10.3)). -/
abbrev R.STY_SUP_A (i j : Nat) : Nat := 0x10A408 + 0x10000 * i + 0x20 * j
/-- STY_SUP_G (10 R287 (Table 10.3)). -/
abbrev R.STY_SUP_G (i j : Nat) : Nat := 0x10A40C + 0x10000 * i + 0x20 * j
/-- STY_SUP_COUPLE (10 R287 (Table 10.3)). -/
abbrev R.STY_SUP_COUPLE (i j : Nat) : Nat := 0x10A410 + 0x10000 * i + 0x20 * j
/-- STY_SUP_KT (10 R287 (Table 10.3)). -/
abbrev R.STY_SUP_KT (i j : Nat) : Nat := 0x10A414 + 0x10000 * i + 0x20 * j
/-- STY_SUP_FSR (10 R287 (Table 10.3)). -/
abbrev R.STY_SUP_FSR (i j : Nat) : Nat := 0x10A418 + 0x10000 * i + 0x20 * j
/-- STY_SUP_RESID (10 R287). -/
abbrev R.STY_SUP_RESID (i j : Nat) : Nat := 0x10B600 + 0x10000 * i + 0x4 * j
/-- STY_TRACE_BUF (10 R283). -/
abbrev R.STY_TRACE_BUF (i j : Nat) : Nat := 0x10C000 + 0x10000 * i + 0x4 * j
/-- TEC_STATE (11 R311). -/
abbrev R.TEC_STATE : Nat := 0x60000
/-- TEC_FAULT (11 R311). -/
abbrev R.TEC_FAULT : Nat := 0x60004
/-- TEC_CFG (11 R311). -/
abbrev R.TEC_CFG (i : Nat) : Nat := 0x60100 + 0x40 * i
/-- TEC_DUTY_MAX (11 R311). -/
abbrev R.TEC_DUTY_MAX (i : Nat) : Nat := 0x60104 + 0x40 * i
/-- TEC_ILIM (11 R311). -/
abbrev R.TEC_ILIM (i : Nat) : Nat := 0x60108 + 0x40 * i
/-- TEC_SETTLE (11 R311). -/
abbrev R.TEC_SETTLE (i : Nat) : Nat := 0x6010C + 0x40 * i
/-- TEC_RES (11 R311). -/
abbrev R.TEC_RES (i : Nat) : Nat := 0x60110 + 0x40 * i
/-- TEC_DUTY (11 R311). -/
abbrev R.TEC_DUTY (i : Nat) : Nat := 0x60114 + 0x40 * i
/-- TEC_ISNS (11 R311). -/
abbrev R.TEC_ISNS (i : Nat) : Nat := 0x60118 + 0x40 * i
/-- TEC_FORCE (11 R311). -/
abbrev R.TEC_FORCE (i : Nat) : Nat := 0x6011C + 0x40 * i
/-- LAS_STATUS (11 R312). -/
abbrev R.LAS_STATUS : Nat := 0x70000
/-- LAS_CTL (11 R312). -/
abbrev R.LAS_CTL : Nat := 0x70004
/-- LAS_SAFE (11 R312). -/
abbrev R.LAS_SAFE : Nat := 0x70008
/-- LAS_LINE_MAX (11 R312). -/
abbrev R.LAS_LINE_MAX : Nat := 0x7000C
/-- LAS_EQ_TARGET (11 R312). -/
abbrev R.LAS_EQ_TARGET : Nat := 0x70010
/-- LAS_LOS (11 R312). -/
abbrev R.LAS_LOS : Nat := 0x70014
/-- LAS_SHUT (11 R312). -/
abbrev R.LAS_SHUT : Nat := 0x70018
/-- LAS_SHUT_CAUSE (11 R312). -/
abbrev R.LAS_SHUT_CAUSE : Nat := 0x7001C
/-- LAS_LINE (11 R312). -/
abbrev R.LAS_LINE (i j : Nat) : Nat := 0x71000 + 0x80 * i + 0x4 * j
/-- LAS_LINE_HOURS (11 R312). -/
abbrev R.LAS_LINE_HOURS (i j : Nat) : Nat := 0x72000 + 0x80 * i + 0x4 * j
/-- LNK_STATUS (12 R345). -/
abbrev R.LNK_STATUS (i : Nat) : Nat := 0x200000 + 0x10000 * i
/-- LNK_PEER (12 R345). -/
abbrev R.LNK_PEER (i : Nat) : Nat := 0x200004 + 0x10000 * i
/-- LNK_CFG (12 R345). -/
abbrev R.LNK_CFG (i : Nat) : Nat := 0x200008 + 0x10000 * i
/-- LNK_ROT_CFG (12 R345). -/
abbrev R.LNK_ROT_CFG (i : Nat) : Nat := 0x20000C + 0x10000 * i
/-- LNK_SWEEP_CFG (12 R345). -/
abbrev R.LNK_SWEEP_CFG (i : Nat) : Nat := 0x200010 + 0x10000 * i
/-- LNK_LOCK_CFG (12 R345). -/
abbrev R.LNK_LOCK_CFG (i : Nat) : Nat := 0x200014 + 0x10000 * i
/-- LNK_FEC_CFG (12 R345). -/
abbrev R.LNK_FEC_CFG (i : Nat) : Nat := 0x200018 + 0x10000 * i
/-- LNK_ROT_STATUS (12 R345). -/
abbrev R.LNK_ROT_STATUS (i : Nat) : Nat := 0x200020 + 0x10000 * i
/-- LNK_ROT_CNT (12 R345). -/
abbrev R.LNK_ROT_CNT (i : Nat) : Nat := 0x200024 + 0x10000 * i
/-- LNK_RETRY_CNT (12 R345). -/
abbrev R.LNK_RETRY_CNT (i : Nat) : Nat := 0x200028 + 0x10000 * i
/-- LNK_RETRY_STATUS (12 R345). -/
abbrev R.LNK_RETRY_STATUS (i : Nat) : Nat := 0x20002C + 0x10000 * i
/-- LNK_DUP_CNT (12 R345). -/
abbrev R.LNK_DUP_CNT (i : Nat) : Nat := 0x200030 + 0x10000 * i
/-- LNK_CMD (12 R345). -/
abbrev R.LNK_CMD (i : Nat) : Nat := 0x200040 + 0x10000 * i
/-- LNK_LANE_STATE (12 R345). -/
abbrev R.LNK_LANE_STATE (i j k : Nat) : Nat := 0x201000 + 0x10000 * i + 0x400 * j + 0x20 * k
/-- LNK_FEC_CW_CORR (12 R345). -/
abbrev R.LNK_FEC_CW_CORR (i j k : Nat) : Nat := 0x201004 + 0x10000 * i + 0x400 * j + 0x20 * k
/-- LNK_FEC_SYM_CORR (12 R345). -/
abbrev R.LNK_FEC_SYM_CORR (i j k : Nat) : Nat := 0x201008 + 0x10000 * i + 0x400 * j + 0x20 * k
/-- LNK_FEC_CW_UNCORR (12 R345). -/
abbrev R.LNK_FEC_CW_UNCORR (i j k : Nat) : Nat := 0x20100C + 0x10000 * i + 0x400 * j + 0x20 * k
/-- LNK_LANE_SWAPS (12 R345). -/
abbrev R.LNK_LANE_SWAPS (i j k : Nat) : Nat := 0x201010 + 0x10000 * i + 0x400 * j + 0x20 * k
/-- PLATE_STATUS (13 R368). -/
abbrev R.PLATE_STATUS : Nat := 0x300000
/-- PLATE_VALID_LO (13 R368). -/
abbrev R.PLATE_VALID_LO : Nat := 0x300004
/-- PLATE_VALID_HI (13 R368). -/
abbrev R.PLATE_VALID_HI : Nat := 0x300008
/-- PLATE_MEMBER_LO (13 R368). -/
abbrev R.PLATE_MEMBER_LO : Nat := 0x30000C
/-- PLATE_MEMBER_HI (13 R368). -/
abbrev R.PLATE_MEMBER_HI : Nat := 0x300010
/-- PLATE_SECTION (13 R368). -/
abbrev R.PLATE_SECTION : Nat := 0x300014
/-- PLATE_VIEW (13 R368). -/
abbrev R.PLATE_VIEW : Nat := 0x300018
/-- PLATE_APPLY_CT_LO (13 R368). -/
abbrev R.PLATE_APPLY_CT_LO : Nat := 0x30001C
/-- PLATE_APPLY_CT_HI (13 R368). -/
abbrev R.PLATE_APPLY_CT_HI : Nat := 0x300020
/-- PLATE_VREC (13 R368). -/
abbrev R.PLATE_VREC (i : Nat) : Nat := 0x301000 + 0x4 * i
/-- PLATE_CREC (13 R368). -/
abbrev R.PLATE_CREC (i : Nat) : Nat := 0x302000 + 0x4 * i
/-- PLATE_VMAP (13 R368). -/
abbrev R.PLATE_VMAP (i : Nat) : Nat := 0x308000 + 0x4 * i
/-- PLATE_RP_STATUS (14 R396). -/
abbrev R.PLATE_RP_STATUS : Nat := 0x300100
/-- PLATE_RP_APPLY_CT_LO (14 R396). -/
abbrev R.PLATE_RP_APPLY_CT_LO : Nat := 0x300104
/-- PLATE_RP_APPLY_CT_HI (14 R396). -/
abbrev R.PLATE_RP_APPLY_CT_HI : Nat := 0x300108
/-- PLATE_RP_PORTS (14 R396). -/
abbrev R.PLATE_RP_PORTS : Nat := 0x30010C
/-- PLATE_RP_LATE (14 R396). -/
abbrev R.PLATE_RP_LATE : Nat := 0x300110
/-- PLATE_RP_CNT (14 R396). -/
abbrev R.PLATE_RP_CNT : Nat := 0x300114
/-- PLATE_ETCH_LEAD (14 R396). -/
abbrev R.PLATE_ETCH_LEAD : Nat := 0x300120
/-- PLATE_ETCH_TIMING (14 R396). -/
abbrev R.PLATE_ETCH_TIMING : Nat := 0x300124
/-- PLATE_ETCH_POLICY (14 R396). -/
abbrev R.PLATE_ETCH_POLICY : Nat := 0x300128
/-- PLATE_HOST_ALLOW_LO (14 R396). -/
abbrev R.PLATE_HOST_ALLOW_LO : Nat := 0x300130
/-- PLATE_HOST_ALLOW_HI (14 R396). -/
abbrev R.PLATE_HOST_ALLOW_HI : Nat := 0x300134
/-- PLATE_REQ (14 R396). -/
abbrev R.PLATE_REQ : Nat := 0x300140
/-- PLATE_REQ_STATUS (14 R396). -/
abbrev R.PLATE_REQ_STATUS : Nat := 0x300144
/-- PLATE_ETCH_STATUS (14 R396). -/
abbrev R.PLATE_ETCH_STATUS : Nat := 0x300148
/-- PLATE_FAULT_SET (14 R396). -/
abbrev R.PLATE_FAULT_SET : Nat := 0x30014C
/-- SCRIBE_STATUS (15 R420). -/
abbrev R.SCRIBE_STATUS : Nat := 0x400000
/-- SCRIBE_EPOCH (15 R420). -/
abbrev R.SCRIBE_EPOCH : Nat := 0x400004
/-- SCRIBE_SEQ (15 R420). -/
abbrev R.SCRIBE_SEQ : Nat := 0x400008
/-- SCRIBE_LEASE_EXP_LO (15 R420). -/
abbrev R.SCRIBE_LEASE_EXP_LO : Nat := 0x40000C
/-- SCRIBE_LEASE_EXP_HI (15 R420). -/
abbrev R.SCRIBE_LEASE_EXP_HI : Nat := 0x400010
/-- SCRIBE_LEASE_CMD (15 R420). -/
abbrev R.SCRIBE_LEASE_CMD : Nat := 0x400014
/-- SCRIBE_CKPT (15 R420). -/
abbrev R.SCRIBE_CKPT : Nat := 0x400018
/-- SCRIBE_JOURNAL (15 R420). -/
abbrev R.SCRIBE_JOURNAL : Nat := 0x40001C
/-- SCRIBE_TAKE_CNT (15 R420). -/
abbrev R.SCRIBE_TAKE_CNT : Nat := 0x400020
/-- SCRIBE_STALE_CNT (15 R420). -/
abbrev R.SCRIBE_STALE_CNT : Nat := 0x400024
/-- SCRIBE_RX_HIGH (15 R420). -/
abbrev R.SCRIBE_RX_HIGH (i : Nat) : Nat := 0x400100 + 0x4 * i
/-- CL_CFG (15 R420). -/
abbrev R.CL_CFG : Nat := 0x401000
/-- CL_STATUS (15 R420). -/
abbrev R.CL_STATUS : Nat := 0x401004
/-- CL_EPOCH (15 R420). -/
abbrev R.CL_EPOCH : Nat := 0x401008
/-- CL_LEASE_EXP_LO (15 R420). -/
abbrev R.CL_LEASE_EXP_LO : Nat := 0x40100C
/-- CL_LEASE_EXP_HI (15 R420). -/
abbrev R.CL_LEASE_EXP_HI : Nat := 0x401010
/-- CL_REACH (15 R420). -/
abbrev R.CL_REACH : Nat := 0x401014
/-- CL_SEQ (15 R420). -/
abbrev R.CL_SEQ : Nat := 0x401018
/-- CL_JOURNAL (15 R420). -/
abbrev R.CL_JOURNAL : Nat := 0x40101C
/-- CL_STALE_CNT (15 R420). -/
abbrev R.CL_STALE_CNT : Nat := 0x401020
/-- AGREE_STATUS (16 R438). -/
abbrev R.AGREE_STATUS : Nat := 0x480000
/-- AGREE_NONCE (16 R438). -/
abbrev R.AGREE_NONCE : Nat := 0x480004
/-- AGREE_POLICY (16 R438). -/
abbrev R.AGREE_POLICY : Nat := 0x480008
/-- AGREE_CNT (16 R438). -/
abbrev R.AGREE_CNT : Nat := 0x48000C
/-- AGREE_P_RESULT (16 R438). -/
abbrev R.AGREE_P_RESULT (i : Nat) : Nat := 0x480100 + 0x20 * i
/-- AGREE_P_PEER (16 R438). -/
abbrev R.AGREE_P_PEER (i : Nat) : Nat := 0x480104 + 0x20 * i
/-- AGREE_P_VER (16 R438). -/
abbrev R.AGREE_P_VER (i : Nat) : Nat := 0x480108 + 0x20 * i
/-- AGREE_P_EPOCH (16 R438). -/
abbrev R.AGREE_P_EPOCH (i : Nat) : Nat := 0x48010C + 0x20 * i
/-- AGREE_P_IMG_LO (16 R438). -/
abbrev R.AGREE_P_IMG_LO (i : Nat) : Nat := 0x480110 + 0x20 * i
/-- AGREE_P_IMG_HI (16 R438). -/
abbrev R.AGREE_P_IMG_HI (i : Nat) : Nat := 0x480114 + 0x20 * i
/-- AGREE_P_NONCE (16 R438). -/
abbrev R.AGREE_P_NONCE (i : Nat) : Nat := 0x480118 + 0x20 * i
/-- AGREE_ETCH_STATUS (16 R438). -/
abbrev R.AGREE_ETCH_STATUS : Nat := 0x481000
/-- AGREE_ETCH_LIST (16 R438). -/
abbrev R.AGREE_ETCH_LIST (i : Nat) : Nat := 0x481100 + 0x8 * i
/-- AGREE_ETCH_LIST_W1 (16 R438). -/
abbrev R.AGREE_ETCH_LIST_W1 (i : Nat) : Nat := 0x481104 + 0x8 * i
/-- FAB_STATUS (17 R474). -/
abbrev R.FAB_STATUS : Nat := 0x600000
/-- FAB_CFG (17 R474). -/
abbrev R.FAB_CFG : Nat := 0x600004
/-- FAB_ROUTE_Q (17 R474). -/
abbrev R.FAB_ROUTE_Q : Nat := 0x600008
/-- FAB_ROUTE_A (17 R474). -/
abbrev R.FAB_ROUTE_A : Nat := 0x60000C
/-- FAB_TIMEOUT_CNT (17 R474). -/
abbrev R.FAB_TIMEOUT_CNT : Nat := 0x600010
/-- FAB_STALE_CNT (17 R474). -/
abbrev R.FAB_STALE_CNT : Nat := 0x600014
/-- FAB_DROP_CNT (17 R474). -/
abbrev R.FAB_DROP_CNT : Nat := 0x600018
/-- FAB_UNREACH_CNT (17 R474). -/
abbrev R.FAB_UNREACH_CNT : Nat := 0x60001C
/-- FAB_ERR_TX (17 R474). -/
abbrev R.FAB_ERR_TX (i : Nat) : Nat := 0x600024 + 0x4 * i
/-- FAB_RCR_BASE (17 R474). -/
abbrev R.FAB_RCR_BASE (i : Nat) : Nat := 0x600040 + 0x8 * i
/-- FAB_RCR_SIZE (17 R474). -/
abbrev R.FAB_RCR_SIZE (i : Nat) : Nat := 0x600044 + 0x8 * i
/-- FAB_VC_TX_LO (17 R474). -/
abbrev R.FAB_VC_TX_LO (i j : Nat) : Nat := 0x601000 + 0x100 * i + 0x10 * j
/-- FAB_VC_TX_HI (17 R474). -/
abbrev R.FAB_VC_TX_HI (i j : Nat) : Nat := 0x601004 + 0x100 * i + 0x10 * j
/-- FAB_VC_RX_LO (17 R474). -/
abbrev R.FAB_VC_RX_LO (i j : Nat) : Nat := 0x601008 + 0x100 * i + 0x10 * j
/-- FAB_VC_RX_HI (17 R474). -/
abbrev R.FAB_VC_RX_HI (i j : Nat) : Nat := 0x60100C + 0x100 * i + 0x10 * j
/-- HMK_STATUS (18 R491). -/
abbrev R.HMK_STATUS : Nat := 0x700000
/-- HMK_CFG (18 R491). -/
abbrev R.HMK_CFG : Nat := 0x700004
/-- HMK_CMD (18 R491). -/
abbrev R.HMK_CMD : Nat := 0x700008
/-- HMK_P_STATUS (18 R491). -/
abbrev R.HMK_P_STATUS (i : Nat) : Nat := 0x700100 + 0x40 * i
/-- HMK_P_MAP (18 R491). -/
abbrev R.HMK_P_MAP (i : Nat) : Nat := 0x700104 + 0x40 * i
/-- HMK_P_EXP_LO (18 R491). -/
abbrev R.HMK_P_EXP_LO (i : Nat) : Nat := 0x700108 + 0x40 * i
/-- HMK_P_EXP_HI (18 R491). -/
abbrev R.HMK_P_EXP_HI (i : Nat) : Nat := 0x70010C + 0x40 * i
/-- HMK_P_ALT_LO (18 R491). -/
abbrev R.HMK_P_ALT_LO (i : Nat) : Nat := 0x700110 + 0x40 * i
/-- HMK_P_ALT_HI (18 R491). -/
abbrev R.HMK_P_ALT_HI (i : Nat) : Nat := 0x700114 + 0x40 * i
/-- HMK_P_CNT (18 R491). -/
abbrev R.HMK_P_CNT (i : Nat) : Nat := 0x700118 + 0x40 * i
/-- HMK_P_ID_LO (18 R491). -/
abbrev R.HMK_P_ID_LO (i j : Nat) : Nat := 0x700120 + 0x40 * i + 0x8 * j
/-- HMK_P_ID_HI (18 R491). -/
abbrev R.HMK_P_ID_HI (i j : Nat) : Nat := 0x700124 + 0x40 * i + 0x8 * j
/-- GRV_STATUS (19 R519). -/
abbrev R.GRV_STATUS (i : Nat) : Nat := 0x1000000 + 0x1000 * i
/-- GRV_HBM_SHARE (19 R519). -/
abbrev R.GRV_HBM_SHARE (i : Nat) : Nat := 0x1000004 + 0x1000 * i
/-- GRV_BAR_CT_LO (19 R519). -/
abbrev R.GRV_BAR_CT_LO (i : Nat) : Nat := 0x1000008 + 0x1000 * i
/-- GRV_BAR_CT_HI (19 R519). -/
abbrev R.GRV_BAR_CT_HI (i : Nat) : Nat := 0x100000C + 0x1000 * i
/-- GRV_LATE (19 R519). -/
abbrev R.GRV_LATE (i : Nat) : Nat := 0x1000010 + 0x1000 * i
/-- GRV_BAR_CNT (19 R519). -/
abbrev R.GRV_BAR_CNT (i : Nat) : Nat := 0x1000014 + 0x1000 * i
/-- GRV_DONE_LO (19 R519). -/
abbrev R.GRV_DONE_LO (i : Nat) : Nat := 0x1000018 + 0x1000 * i
/-- GRV_DONE_HI (19 R519). -/
abbrev R.GRV_DONE_HI (i : Nat) : Nat := 0x100001C + 0x1000 * i
/-- GRV_STALL_LO (19 R519). -/
abbrev R.GRV_STALL_LO (i : Nat) : Nat := 0x1000020 + 0x1000 * i
/-- GRV_STALL_HI (19 R519). -/
abbrev R.GRV_STALL_HI (i : Nat) : Nat := 0x1000024 + 0x1000 * i
/-- GRV_WAIT_LO (19 R519). -/
abbrev R.GRV_WAIT_LO (i : Nat) : Nat := 0x1000028 + 0x1000 * i
/-- GRV_WAIT_HI (19 R519). -/
abbrev R.GRV_WAIT_HI (i : Nat) : Nat := 0x100002C + 0x1000 * i
/-- GRV_CONTEND (19 R519). -/
abbrev R.GRV_CONTEND (i : Nat) : Nat := 0x1000030 + 0x1000 * i
/-- GRV_ERR (19 R519). -/
abbrev R.GRV_ERR (i : Nat) : Nat := 0x1000034 + 0x1000 * i
/-- TKT_STATUS (20 R542). -/
abbrev R.TKT_STATUS : Nat := 0xC00000
/-- TKT_IRQ_DROP (20 R542). -/
abbrev R.TKT_IRQ_DROP : Nat := 0xC00004
/-- TKT_DENY_CNT (20 R542). -/
abbrev R.TKT_DENY_CNT : Nat := 0xC00008
/-- TKT_CFG (20 R542). -/
abbrev R.TKT_CFG (i : Nat) : Nat := 0xC01000 + 0x40 * i
/-- TKT_FEED (20 R542). -/
abbrev R.TKT_FEED (i : Nat) : Nat := 0xC01004 + 0x40 * i
/-- TKT_BASE_LO (20 R542). -/
abbrev R.TKT_BASE_LO (i : Nat) : Nat := 0xC01008 + 0x40 * i
/-- TKT_BASE_HI (20 R542). -/
abbrev R.TKT_BASE_HI (i : Nat) : Nat := 0xC0100C + 0x40 * i
/-- TKT_CQ_LO (20 R542). -/
abbrev R.TKT_CQ_LO (i : Nat) : Nat := 0xC01010 + 0x40 * i
/-- TKT_CQ_HI (20 R542). -/
abbrev R.TKT_CQ_HI (i : Nat) : Nat := 0xC01014 + 0x40 * i
/-- TKT_DB (20 R542). -/
abbrev R.TKT_DB (i : Nat) : Nat := 0xC01018 + 0x40 * i
/-- TKT_PTR (20 R542). -/
abbrev R.TKT_PTR (i : Nat) : Nat := 0xC0101C + 0x40 * i
/-- TKT_STATE (20 R542). -/
abbrev R.TKT_STATE (i : Nat) : Nat := 0xC01020 + 0x40 * i
/-- TKT_CMD (20 R542). -/
abbrev R.TKT_CMD (i : Nat) : Nat := 0xC01024 + 0x40 * i
/-- MEM_STATUS (21 R561). -/
abbrev R.MEM_STATUS : Nat := 0x2000000
/-- MEM_CFG (21 R561). -/
abbrev R.MEM_CFG : Nat := 0x2000004
/-- MEM_SCRUB_CFG (21 R561). -/
abbrev R.MEM_SCRUB_CFG : Nat := 0x2000008
/-- MEM_CE_TOTAL (21 R561). -/
abbrev R.MEM_CE_TOTAL : Nat := 0x200000C
/-- MEM_UE_TOTAL (21 R561). -/
abbrev R.MEM_UE_TOTAL : Nat := 0x2000010
/-- MEM_POISON_READS (21 R561). -/
abbrev R.MEM_POISON_READS : Nat := 0x2000014
/-- MEM_LAST_UE_LO (21 R561). -/
abbrev R.MEM_LAST_UE_LO : Nat := 0x2000018
/-- MEM_LAST_UE_HI (21 R561). -/
abbrev R.MEM_LAST_UE_HI : Nat := 0x200001C
/-- MEM_LAST_UE_INFO (21 R561). -/
abbrev R.MEM_LAST_UE_INFO : Nat := 0x2000020
/-- MEM_VEL_PTR (21 R561). -/
abbrev R.MEM_VEL_PTR : Nat := 0x2000024
/-- MEM_VEL_CE (21 R561). -/
abbrev R.MEM_VEL_CE : Nat := 0x2000028
/-- MEM_VEL_UE (21 R561). -/
abbrev R.MEM_VEL_UE : Nat := 0x200002C
/-- MEM_INJECT (21 R561). -/
abbrev R.MEM_INJECT : Nat := 0x2000030
/-- MEM_INJECT_ADDR_LO (21 R561). -/
abbrev R.MEM_INJECT_ADDR_LO : Nat := 0x2000034
/-- MEM_INJECT_ADDR_HI (21 R561). -/
abbrev R.MEM_INJECT_ADDR_HI : Nat := 0x2000038
/-- MEM_S_PTR (21 R561). -/
abbrev R.MEM_S_PTR (i : Nat) : Nat := 0x2000100 + 0x40 * i
/-- MEM_S_PASS (21 R561). -/
abbrev R.MEM_S_PASS (i : Nat) : Nat := 0x2000104 + 0x40 * i
/-- MEM_S_CE (21 R561). -/
abbrev R.MEM_S_CE (i : Nat) : Nat := 0x2000108 + 0x40 * i
/-- MEM_S_UE (21 R561). -/
abbrev R.MEM_S_UE (i : Nat) : Nat := 0x200010C + 0x40 * i
/-- MEM_S_DIE_CE (21 R561). -/
abbrev R.MEM_S_DIE_CE (i : Nat) : Nat := 0x2000110 + 0x40 * i
/-- MEM_S_FLOOR (21 R561). -/
abbrev R.MEM_S_FLOOR (i : Nat) : Nat := 0x2000114 + 0x40 * i
/-- XFE_CTL (23 R612). -/
abbrev R.XFE_CTL (i : Nat) : Nat := 0x800000 + 0x40 * i
/-- XFE_STATE (23 R612). -/
abbrev R.XFE_STATE (i : Nat) : Nat := 0x800004 + 0x40 * i
/-- XFE_BASE_LO (23 R612). -/
abbrev R.XFE_BASE_LO (i : Nat) : Nat := 0x800008 + 0x40 * i
/-- XFE_BASE_HI (23 R612). -/
abbrev R.XFE_BASE_HI (i : Nat) : Nat := 0x80000C + 0x40 * i
/-- XFE_PTR (23 R612). -/
abbrev R.XFE_PTR (i : Nat) : Nat := 0x800010 + 0x40 * i
/-- XFE_DB (23 R612). -/
abbrev R.XFE_DB (i : Nat) : Nat := 0x800014 + 0x40 * i
/-- XFE_RATE (23 R612). -/
abbrev R.XFE_RATE (i : Nat) : Nat := 0x800018 + 0x40 * i
/-- XFE_CMD (23 R612). -/
abbrev R.XFE_CMD (i : Nat) : Nat := 0x80001C + 0x40 * i
/-- XFE_FLAG_LO (23 R612). -/
abbrev R.XFE_FLAG_LO (i : Nat) : Nat := 0x800020 + 0x40 * i
/-- XFE_FLAG_HI (23 R612). -/
abbrev R.XFE_FLAG_HI (i : Nat) : Nat := 0x800024 + 0x40 * i
/-- XFE_BYTES_LO (23 R612). -/
abbrev R.XFE_BYTES_LO (i : Nat) : Nat := 0x800028 + 0x40 * i
/-- XFE_BYTES_HI (23 R612). -/
abbrev R.XFE_BYTES_HI (i : Nat) : Nat := 0x80002C + 0x40 * i
/-- XFE_ERR (23 R612). -/
abbrev R.XFE_ERR (i : Nat) : Nat := 0x800030 + 0x40 * i
/-- XFE_MSG (23 R612). -/
abbrev R.XFE_MSG (i : Nat) : Nat := 0x800034 + 0x40 * i
/-- XFE_STATUS (23 R613). -/
abbrev R.XFE_STATUS : Nat := 0x840000
/-- XFE_HELD (23 R613). -/
abbrev R.XFE_HELD : Nat := 0x840004
/-- XFE_DENY_CNT (23 R613). -/
abbrev R.XFE_DENY_CNT : Nat := 0x840008
/-- XFE_NOTOWN_CNT (23 R613). -/
abbrev R.XFE_NOTOWN_CNT : Nat := 0x84000C
/-- XFE_IRQ_DROP (23 R613). -/
abbrev R.XFE_IRQ_DROP : Nat := 0x840010
/-- EVT_STATUS (25 R638). -/
abbrev R.EVT_STATUS : Nat := 0x2800000
/-- EVT_FAULT (25 R638). -/
abbrev R.EVT_FAULT : Nat := 0x2800004
/-- EVT_HBM_CFG (25 R638). -/
abbrev R.EVT_HBM_CFG : Nat := 0x2800008
/-- EVT_HBM_BASE_LO (25 R638). -/
abbrev R.EVT_HBM_BASE_LO : Nat := 0x280000C
/-- EVT_HBM_BASE_HI (25 R638). -/
abbrev R.EVT_HBM_BASE_HI : Nat := 0x2800010
/-- EVT_HBM_WR (25 R638). -/
abbrev R.EVT_HBM_WR : Nat := 0x2800014
/-- EVT_HBM_RD (25 R638). -/
abbrev R.EVT_HBM_RD : Nat := 0x2800018
/-- EVT_HBM_LOST (25 R638). -/
abbrev R.EVT_HBM_LOST : Nat := 0x280001C
/-- EVT_NVM_DROP (25 R638). -/
abbrev R.EVT_NVM_DROP : Nat := 0x2800020
/-- EVT_DROP_CNT (25 R638). -/
abbrev R.EVT_DROP_CNT : Nat := 0x2800024
/-- EVT_VECTOR (25 R638). -/
abbrev R.EVT_VECTOR : Nat := 0x2800028
/-- EVT_VECTOR_N (25 R638). -/
abbrev R.EVT_VECTOR_N : Nat := 0x280002C
/-- EVT_NVM_PTR (25 R638). -/
abbrev R.EVT_NVM_PTR : Nat := 0x2800030
/-- EVT_IRQ_DROP (25 R638). -/
abbrev R.EVT_IRQ_DROP : Nat := 0x2800034
/-- EVT_TEL_CTL (25 R638). -/
abbrev R.EVT_TEL_CTL : Nat := 0x2800040
/-- EVT_TEL_BASE_LO (25 R638). -/
abbrev R.EVT_TEL_BASE_LO : Nat := 0x2800044
/-- EVT_TEL_BASE_HI (25 R638). -/
abbrev R.EVT_TEL_BASE_HI : Nat := 0x2800048
/-- EVT_TEL_LAST (25 R638). -/
abbrev R.EVT_TEL_LAST : Nat := 0x280004C
/-- EVT_RECENT (25 R627). -/
abbrev R.EVT_RECENT (i : Nat) : Nat := 0x2801000 + 0x4 * i
/-- EVT_POLICY (25 R628 (reset: Table 25.3)). -/
abbrev R.EVT_POLICY (i : Nat) : Nat := 0x2802000 + 0x4 * i
/-- MGMT_STATUS (26 R658). -/
abbrev R.MGMT_STATUS : Nat := 0x3000000
/-- MGMT_SMB_CFG (26 R658). -/
abbrev R.MGMT_SMB_CFG : Nat := 0x3000004
/-- MGMT_SMB_ERR (26 R658). -/
abbrev R.MGMT_SMB_ERR : Nat := 0x3000008
/-- MGMT_ALERT (26 R658). -/
abbrev R.MGMT_ALERT : Nat := 0x300000C
/-- MGMT_FUSE_CMD (26 R658). -/
abbrev R.MGMT_FUSE_CMD : Nat := 0x3000010
/-- MGMT_FUSE_STATUS (26 R658). -/
abbrev R.MGMT_FUSE_STATUS : Nat := 0x3000014
/-- MGMT_FUSE_CHIP (26 R658). -/
abbrev R.MGMT_FUSE_CHIP : Nat := 0x3000018
/-- MGMT_FUSE_HASH (26 R658). -/
abbrev R.MGMT_FUSE_HASH (i : Nat) : Nat := 0x3000040 + 0x4 * i
/-- MGMT_DBG_STATUS (26 R658). -/
abbrev R.MGMT_DBG_STATUS : Nat := 0x3000080

/-- The registers of the GLB block. -/
def rowsGLB : List RegRow := [
  ⟨0x0, [], .ro, 0x16084CB0, 0xFFFFFFFF, [], .none⟩, -- GLB_PART
  ⟨0x4, [], .ro, 0x281210, 0xFFFFFFFF, [], .none⟩, -- GLB_CAPS
  ⟨0x8, [], .ro, 0x0, 0xFFFFFFFF, [], .none⟩, -- GLB_CHIP
  ⟨0xC, [], .ro, 0x0, 0xFFFFFFFF, [], .none⟩, -- GLB_STATE
  ⟨0x10, [], .rw, 0x0, 0xFFFFFFFF, [], .none⟩, -- GLB_SCRATCH
  ⟨0x8000, [], .ro, 0x0, 0xFFFFFFFF, [], .none⟩, -- PCIE_STATUS
  ⟨0x8004, [], .rw, 0x0, 0x1FF, [(8, 0, 0, 320)], .none⟩, -- PCIE_BAR2_BASE
  ⟨0x8008, [], .ro, 0x0, 0xFFFFFFFF, [], .none⟩, -- PCIE_OUTSTANDING
  ⟨0x800C, [], .rc, 0x0, 0xFFFFFFFF, [], .none⟩, -- PCIE_BME_DROP
  ⟨0x8010, [], .rc, 0x0, 0xFFFFFFFF, [], .none⟩, -- PCIE_FENCE_DROP
  ⟨0x8014, [], .rc, 0x0, 0xFFFFFFFF, [], .none⟩, -- PCIE_BAD_ACC
  ⟨0x8018, [], .ro, 0x0, 0xFFFFFFFF, [], .none⟩, -- PCIE_LINK_CNT
  ⟨0x801C, [], .ro, 0x0, 0xFFFFFFFF, [], .none⟩] -- PCIE_FLR_CNT

/-- The registers of the CLK block. -/
def rowsCLK : List RegRow := [
  ⟨0x10000, [], .ro, 0x0, 0xFFFFFFFF, [], .none⟩, -- CLK_STATUS
  ⟨0x10004, [], .rwl, 0x0, 0x3F1, [], .none⟩, -- CLK_REF_CFG
  ⟨0x10008, [], .ro, 0x0, 0xFFFFFFFF, [], .none⟩, -- CLK_PORT_LOCK
  ⟨0x1000C, [], .ro, 0x0, 0xFFFFFFFF, [], .none⟩, -- CLK_ROOT_TRIM
  ⟨0x10010, [], .rc, 0x0, 0xFFFFFFFF, [], .none⟩, -- CLK_LOSS_CNT
  ⟨0x10014, [], .ro, 0x0, 0xFFFFFFFF, [], .none⟩, -- CLK_HOLD_FRAMES
  ⟨0x10018, [], .ro, 0x0, 0xFFFFFFFF, [], .none⟩] -- CLK_LOOP_RUN

/-- The registers of the RST block. -/
def rowsRST : List RegRow := [
  ⟨0x20000, [], .w1c, 0x1, 0x1F, [], .none⟩, -- RST_CAUSE
  ⟨0x20004, [], .wo, 0x0, 0xFFFFFFFF, [], .none⟩, -- RST_CHIP
  ⟨0x20008, [], .wo, 0x0, 0xFF, [], .none⟩, -- RST_DOMAIN
  ⟨0x2000C, [], .wo, 0x0, 0xFF, [], .none⟩, -- RST_BLOCK
  ⟨0x20010, [], .ro, 0x0, 0xFFFFFFFF, [], .none⟩, -- RST_BUSY
  ⟨0x20014, [], .ro, 0x0, 0xFFFFFFFF, [], .none⟩, -- RST_CHIP_CNT
  ⟨0x20018, [], .ro, 0x0, 0xFFFFFFFF, [], .none⟩, -- RST_PERST_CNT
  ⟨0x2001C, [], .ro, 0x0, 0xFFFFFFFF, [], .none⟩, -- RST_FLR_CNT
  ⟨0x20020, [], .ro, 0x0, 0xFFFFFFFF, [], .none⟩] -- RST_DENY_CNT

/-- The registers of the PWR block. -/
def rowsPWR : List RegRow := [
  ⟨0x30000, [], .ro, 0x0, 0xFFFFFFFF, [], .none⟩, -- PWR_STATUS
  ⟨0x30010, [], .wo, 0x0, 0x3FF, [], .none⟩, -- PWR_DOM_REQ
  ⟨0x30014, [], .ro, 0x0, 0xFFFFFFFF, [], .none⟩, -- PWR_DOM_RESULT
  ⟨0x30018, [], .rwl, 0xC8, 0xFFFF, [(15, 0, 1, 65535)], .none⟩, -- PWR_AUTO_IDLE
  ⟨0x30020, [], .rwl, 0x578, 0x7FF, [(10, 0, 0, 1400)], .none⟩, -- PWR_PKG_LIMIT
  ⟨0x30024, [], .ro, 0x0, 0xFFFFFFFF, [], .none⟩, -- PWR_PKG_MEAS
  ⟨0x30028, [(2, 0x4)], .ro, 0x0, 0xFFFFFFFF, [], .none⟩, -- PWR_DIE_MEAS_G
  ⟨0x30040, [(2, 0x4)], .rwl, 0x1A0020, 0xFF01FF, [], .none⟩, -- PWR_GOV_CFG_G
  ⟨0x30048, [(2, 0x4)], .ro, 0x400020, 0xFFFFFFFF, [], .none⟩, -- PWR_GOV_STATUS_G
  ⟨0x30050, [(2, 0x8)], .ro, 0x0, 0xFFFFFFFF, [], .lo⟩, -- PWR_GOV_STALL_G_LO
  ⟨0x30054, [(2, 0x8)], .ro, 0x0, 0xFFFFFFFF, [], .hi⟩, -- PWR_GOV_STALL_G_HI
  ⟨0x30060, [], .ro, 0xFF, 0xFFFFFFFF, [], .none⟩, -- PWR_HEADROOM
  ⟨0x30070, [(2, 0x4)], .ro, 0x0, 0xFFFFFFFF, [], .none⟩, -- PWR_HN_G
  ⟨0x30078, [], .ro, 0x0, 0xFFFFFFFF, [], .none⟩, -- PWR_HN_PENDING
  ⟨0x3007C, [], .rc, 0x0, 0xFFFFFFFF, [], .none⟩, -- PWR_HN_SHORT_CNT
  ⟨0x30080, [(8, 0x4)], .rwl, 0x0, 0xFFFF, [], .none⟩, -- PWR_KIND_W
  ⟨0x300A0, [], .rwl, 0xC, 0xFFFF, [], .none⟩, -- PWR_PAIR_IDLE_W
  ⟨0x30100, [(10, 0x4)], .ro, 0x0, 0xFFFFFFFF, [], .none⟩, -- PWR_DOM_STATE
  ⟨0x30128, [], .ro, 0x2A, 0xFFFFFFFF, [], .none⟩] -- PWR_DOM_STATE10

/-- The registers of the BOOT block. -/
def rowsBOOT : List RegRow := [
  ⟨0x40000, [], .ro, 0x0, 0xFFFFFFFF, [], .none⟩, -- BOOT_STATUS
  ⟨0x40004, [], .w1s, 0x0, 0x1, [], .none⟩, -- BOOT_LOCK
  ⟨0x40008, [], .ro, 0x0, 0xFFFFFFFF, [], .none⟩, -- BOOT_IMAGE_ID
  ⟨0x4000C, [], .ro, 0x0, 0xFFFFFFFF, [], .lo⟩, -- BOOT_DIGEST_LO
  ⟨0x40010, [], .ro, 0x0, 0xFFFFFFFF, [], .hi⟩, -- BOOT_DIGEST_HI
  ⟨0x40014, [], .ro, 0x0, 0xFFFFFFFF, [], .lo⟩, -- BOOT_PLATESET_LO
  ⟨0x40018, [], .ro, 0x0, 0xFFFFFFFF, [], .hi⟩, -- BOOT_PLATESET_HI
  ⟨0x4001C, [], .ro, 0x0, 0xFFFFFFFF, [], .lo⟩, -- BOOT_CLUSTER_LO
  ⟨0x40020, [], .ro, 0x0, 0xFFFFFFFF, [], .hi⟩, -- BOOT_CLUSTER_HI
  ⟨0x40024, [], .ro, 0x0, 0xFFFFFFFF, [], .none⟩, -- BOOT_FUSE
  ⟨0x40028, [], .ro, 0x0, 0xFFFFFFFF, [], .lo⟩, -- BOOT_READY_CT_LO
  ⟨0x4002C, [], .ro, 0x0, 0xFFFFFFFF, [], .hi⟩, -- BOOT_READY_CT_HI
  ⟨0x40030, [], .ro, 0x0, 0xFFFFFFFF, [], .none⟩, -- BOOT_NVM_ID
  ⟨0x40034, [], .ro, 0x0, 0xFFFFFFFF, [], .none⟩, -- BOOT_NVM_SIZE
  ⟨0x40038, [], .rwl, 0x1F4, 0xFFFF, [(15, 0, 1, 65535)], .none⟩, -- BOOT_LINK_WAIT
  ⟨0x40040, [], .wo, 0x0, 0xFF, [], .none⟩, -- BOOT_MB_CMD
  ⟨0x40044, [(3, 0x4)], .rw, 0x0, 0xFFFFFFFF, [], .none⟩, -- BOOT_MB_ARG
  ⟨0x40050, [], .ro, 0x0, 0xFFFFFFFF, [], .none⟩, -- BOOT_MB_STATUS
  ⟨0x40054, [], .ro, 0x0, 0xFFFFFFFF, [], .none⟩, -- BOOT_MB_PROGRESS
  ⟨0x48000, [(8192, 0x4)], .rw, 0x0, 0xFFFFFFFF, [], .none⟩] -- BOOT_MB_BUF

/-- The registers of the TIME block. -/
def rowsTIME : List RegRow := [
  ⟨0x50000, [], .ro, 0x0, 0xFFFFFFFF, [], .lo⟩, -- TIME_CT_LO
  ⟨0x50004, [], .ro, 0x0, 0xFFFFFFFF, [], .hi⟩, -- TIME_CT_HI
  ⟨0x50008, [], .ro, 0x0, 0xFFFFFFFF, [], .none⟩, -- TIME_STATUS
  ⟨0x5000C, [], .rwl, 0x141044, 0xFFFFFF, [], .none⟩, -- TIME_CFG
  ⟨0x50010, [], .rwl, 0x40, 0xFFFF, [(15, 0, 1, 65535)], .none⟩, -- TIME_STEP_CFG
  ⟨0x50014, [], .rwl, 0xA0110, 0xFFFFFF, [], .none⟩, -- TIME_SERVO_CFG
  ⟨0x50018, [], .ro, 0x0, 0xFFFFFFFF, [], .none⟩, -- TIME_OFFSET
  ⟨0x5001C, [], .ro, 0x0, 0xFFFFFFFF, [], .none⟩, -- TIME_DELAY
  ⟨0x50020, [], .ro, 0x0, 0xFFFFFFFF, [], .lo⟩, -- TIME_LAST_STEP_LO
  ⟨0x50024, [], .ro, 0x0, 0xFFFFFFFF, [], .hi⟩, -- TIME_LAST_STEP_HI
  ⟨0x50028, [], .ro, 0x0, 0xFFFFFFFF, [], .none⟩, -- TIME_STEP_CNT
  ⟨0x5002C, [], .rc, 0x0, 0xFFFFFFFF, [], .none⟩, -- TIME_XCHG_DROP
  ⟨0x50030, [], .rw, 0x0, 0xFF00, [], .none⟩, -- TIME_PTM_CTL
  ⟨0x50034, [], .ro, 0x0, 0xFFFFFFFF, [], .none⟩, -- TIME_PTM_STATUS
  ⟨0x50038, [], .ro, 0x0, 0xFFFFFFFF, [], .lo⟩, -- TIME_PTM_CT_LO
  ⟨0x5003C, [], .ro, 0x0, 0xFFFFFFFF, [], .hi⟩, -- TIME_PTM_CT_HI
  ⟨0x50040, [], .ro, 0x0, 0xFFFFFFFF, [], .lo⟩, -- TIME_PTM_HOST_LO
  ⟨0x50044, [], .ro, 0x0, 0xFFFFFFFF, [], .hi⟩] -- TIME_PTM_HOST_HI

/-- The registers of the TEC block. -/
def rowsTEC : List RegRow := [
  ⟨0x60000, [], .ro, 0x0, 0xFFFFFFFF, [], .none⟩, -- TEC_STATE
  ⟨0x60004, [], .w1c, 0x0, 0x7777, [], .none⟩, -- TEC_FAULT
  ⟨0x60100, [(4, 0x40)], .rwl, 0x20, 0x11FF, [], .none⟩, -- TEC_CFG
  ⟨0x60104, [(4, 0x40)], .rwl, 0x7000, 0x7FFF, [], .none⟩, -- TEC_DUTY_MAX
  ⟨0x60108, [(4, 0x40)], .rwl, 0xCE4, 0xFFF, [(11, 0, 0, 3900)], .none⟩, -- TEC_ILIM
  ⟨0x6010C, [(4, 0x40)], .rwl, 0x3E80040, 0xFFFFFFFF, [], .none⟩, -- TEC_SETTLE
  ⟨0x60110, [(4, 0x40)], .rwl, 0xC80, 0xFFFF, [], .none⟩, -- TEC_RES
  ⟨0x60114, [(4, 0x40)], .ro, 0x0, 0xFFFFFFFF, [], .none⟩, -- TEC_DUTY
  ⟨0x60118, [(4, 0x40)], .ro, 0x0, 0xFFFFFFFF, [], .none⟩, -- TEC_ISNS
  ⟨0x6011C, [(4, 0x40)], .rw, 0x0, 0x8000000F, [], .none⟩] -- TEC_FORCE

/-- The registers of the LAS block. -/
def rowsLAS : List RegRow := [
  ⟨0x70000, [], .ro, 0x0, 0xFFFFFFFF, [], .none⟩, -- LAS_STATUS
  ⟨0x70004, [], .rw, 0x0, 0xFF, [], .none⟩, -- LAS_CTL
  ⟨0x70008, [], .rwl, 0x64, 0xFFFF, [], .none⟩, -- LAS_SAFE
  ⟨0x7000C, [], .rwl, 0x258, 0xFFFF, [], .none⟩, -- LAS_LINE_MAX
  ⟨0x70010, [], .rwl, 0x0, 0xFFFF, [], .none⟩, -- LAS_EQ_TARGET
  ⟨0x70014, [], .rwl, 0xE200, 0xFFFF, [], .none⟩, -- LAS_LOS
  ⟨0x70018, [], .ro, 0x0, 0xFFFFFFFF, [], .none⟩, -- LAS_SHUT
  ⟨0x7001C, [], .ro, 0x0, 0xFFFFFFFF, [], .none⟩, -- LAS_SHUT_CAUSE
  ⟨0x71000, [(8, 0x80), (18, 0x4)], .ro, 0x8000000, 0xFFFFFFFF, [], .none⟩, -- LAS_LINE
  ⟨0x72000, [(8, 0x80), (18, 0x4)], .ro, 0x0, 0xFFFFFFFF, [], .none⟩] -- LAS_LINE_HOURS

/-- The registers of the PROOF block. -/
def rowsPROOF : List RegRow := [
  ⟨0x80000, [], .ro, 0x0, 0xFFFFFFFF, [], .none⟩, -- PROOF_STATUS
  ⟨0x80004, [], .wo, 0x0, 0x1, [], .none⟩, -- PROOF_SYNC
  ⟨0x80008, [], .rwl, 0x4000004, 0xFFFF000F, [], .none⟩, -- PROOF_DARK_CFG
  ⟨0x8000C, [], .wo, 0x0, 0x103FF, [], .none⟩, -- PROOF_DARK_CMD
  ⟨0x80010, [], .rwl, 0x40, 0xFFFF, [], .none⟩, -- PROOF_DEFECT_CFG
  ⟨0x80014, [], .ro, 0x0, 0xFFFFFFFF, [], .none⟩, -- PROOF_SYNC_CNT
  ⟨0x80018, [], .ro, 0x0, 0xFFFFFFFF, [], .none⟩, -- PROOF_TELEM_CNT
  ⟨0x80020, [(4, 0x8)], .rw, 0x0, 0x3F3F3F3F, [], .none⟩, -- PROOF_CROP_WIN
  ⟨0x80024, [(4, 0x8)], .rw, 0x0, 0x80000F33, [], .none⟩, -- PROOF_CROP_CTL
  ⟨0x81000, [(3072, 0x4)], .rwl, 0x0, 0xFFFF, [], .none⟩, -- PROOF_DARK
  ⟨0x84000, [(3072, 0x4)], .rwl, 0x4000, 0xFFFF, [], .none⟩, -- PROOF_SHADE
  ⟨0x87000, [(96, 0x4)], .rwl, 0x0, 0xFFFFFFFF, [], .none⟩, -- PROOF_DEFECT_IMG
  ⟨0x87200, [(96, 0x4)], .w1c, 0x0, 0xFFFFFFFF, [], .none⟩, -- PROOF_DEFECT_LIVE
  ⟨0x87400, [(96, 0x4)], .rwl, 0x4000, 0xFFFF, [], .none⟩, -- PROOF_CLEAR_GAIN
  ⟨0x90000, [(8640, 0x4)], .rwl, 0x0, 0xFFFF, [], .none⟩, -- PROOF_MIX
  ⟨0xA0000, [(256, 0x4)], .rwl, 0x0, 0xFFFF, [], .none⟩, -- PROOF_CURVE
  ⟨0xB0000, [(3072, 0x4)], .ro, 0x0, 0xFFFFFFFF, [], .none⟩, -- PROOF_LIVE
  ⟨0xC0000, [(3072, 0x4)], .ro, 0x0, 0xFFFFFFFF, [], .none⟩] -- PROOF_TELEM

/-- The registers of the STY block, part 0. -/
def rowsSTY0 : List RegRow := [
  ⟨0x100000, [(16, 0x10000)], .ro, 0x0, 0xFFFFFFFF, [], .none⟩, -- STY_STATUS
  ⟨0x100004, [(16, 0x10000)], .rc, 0x0, 0xFFFFFFFF, [], .none⟩, -- STY_WQ_DROP
  ⟨0x100008, [(16, 0x10000)], .ro, 0x0, 0xFFFFFFFF, [], .none⟩, -- STY_ROLL_CNT
  ⟨0x10000C, [(16, 0x10000), (2, 0x4)], .ro, 0x0, 0xFFFFFFFF, [], .none⟩, -- STY_HN_G
  ⟨0x100014, [(16, 0x10000)], .ro, 0x0, 0xFFFFFFFF, [], .none⟩, -- STY_VSQ
  ⟨0x100020, [(16, 0x10000), (5, 0x4)], .ro, 0x0, 0xFFFFFFFF, [], .none⟩, -- STY_HOLD_MAP
  ⟨0x100100, [(16, 0x10000), (56, 0x4)], .ro, 0x0, 0xFFFFFFFF, [], .none⟩, -- STY_FMAP
  ⟨0x100200, [(16, 0x10000), (84, 0x4)], .ro, 0x0, 0xFFFFFFFF, [], .none⟩, -- STY_SMAP
  ⟨0x101000, [(16, 0x10000), (56, 0x100)], .rw, 0x0, 0xF33, [], .none⟩, -- STY_FAST_CTL
  ⟨0x101004, [(16, 0x10000), (56, 0x100)], .rw, 0x0, 0xCFFF0FFF, [], .none⟩, -- STY_FAST_SRC
  ⟨0x101008, [(16, 0x10000), (56, 0x100)], .rw, 0x0, 0xFFFFFFFF, [], .none⟩, -- STY_FAST_SETPOINT
  ⟨0x10100C, [(16, 0x10000), (56, 0x100)], .rw, 0x0, 0x3FFFFFFF, [], .none⟩, -- STY_FAST_SHIFTS
  ⟨0x101010, [(16, 0x10000), (56, 0x100)], .rw, 0x0, 0xFFFFFFFF, [], .none⟩, -- STY_FAST_KI
  ⟨0x101014, [(16, 0x10000), (56, 0x100)], .rw, 0x0, 0xFFFFFFFF, [], .none⟩, -- STY_FAST_KV
  ⟨0x101018, [(16, 0x10000), (56, 0x100)], .rw, 0x0, 0xFFFFFFFF, [], .none⟩, -- STY_FAST_KH0
  ⟨0x10101C, [(16, 0x10000), (56, 0x100)], .rw, 0x0, 0xFFFFFFFF, [], .none⟩, -- STY_FAST_KH1
  ⟨0x101020, [(16, 0x10000), (56, 0x100)], .rw, 0x0, 0xFFFFFFFF, [], .none⟩, -- STY_FAST_OFFSET
  ⟨0x101024, [(16, 0x10000), (56, 0x100)], .rw, 0x0, 0xFFFFFFFF, [], .none⟩, -- STY_FAST_SEED
  ⟨0x101028, [(16, 0x10000), (56, 0x100)], .rw, 0x0, 0xFFFFFFFF, [], .none⟩, -- STY_FAST_INTEG
  ⟨0x10102C, [(16, 0x10000), (56, 0x100)], .ro, 0x0, 0xFFFFFFFF, [], .none⟩, -- STY_FAST_OUT
  ⟨0x101030, [(16, 0x10000), (56, 0x100)], .ro, 0x0, 0xFFFFFFFF, [], .none⟩, -- STY_FAST_ERR
  ⟨0x101034, [(16, 0x10000), (56, 0x100)], .ro, 0x0, 0xFFFFFFFF, [], .none⟩, -- STY_FAST_STATE
  ⟨0x101038, [(16, 0x10000), (56, 0x100)], .rw, 0x0, 0xFFFFFFFF, [], .none⟩, -- STY_FAST_SWEEP_STEP
  ⟨0x101080, [(16, 0x10000), (56, 0x100), (32, 0x4)], .rw, 0x0, 0xFFFFFFFF, [], .none⟩, -- STY_FAST_KP
  ⟨0x105000, [(16, 0x10000), (84, 0x100)], .rw, 0x0, 0xF33, [], .none⟩, -- STY_SLOW_CTL
  ⟨0x105004, [(16, 0x10000), (84, 0x100)], .rw, 0x0, 0xCFFF0FFF, [], .none⟩, -- STY_SLOW_SRC
  ⟨0x105008, [(16, 0x10000), (84, 0x100)], .rw, 0x0, 0xFFFFFFFF, [], .none⟩, -- STY_SLOW_SETPOINT
  ⟨0x10500C, [(16, 0x10000), (84, 0x100)], .rw, 0x0, 0x3FFFFFFF, [], .none⟩, -- STY_SLOW_SHIFTS
  ⟨0x105010, [(16, 0x10000), (84, 0x100)], .rw, 0x0, 0xFFFFFFFF, [], .none⟩, -- STY_SLOW_KI
  ⟨0x105014, [(16, 0x10000), (84, 0x100)], .rw, 0x0, 0xFFFFFFFF, [], .none⟩, -- STY_SLOW_KV
  ⟨0x105018, [(16, 0x10000), (84, 0x100)], .rw, 0x0, 0xFFFFFFFF, [], .none⟩, -- STY_SLOW_KH0
  ⟨0x10501C, [(16, 0x10000), (84, 0x100)], .rw, 0x0, 0xFFFFFFFF, [], .none⟩, -- STY_SLOW_KH1
  ⟨0x105020, [(16, 0x10000), (84, 0x100)], .rw, 0x0, 0xFFFFFFFF, [], .none⟩, -- STY_SLOW_OFFSET
  ⟨0x105024, [(16, 0x10000), (84, 0x100)], .rw, 0x0, 0xFFFFFFFF, [], .none⟩, -- STY_SLOW_SEED
  ⟨0x105028, [(16, 0x10000), (84, 0x100)], .rw, 0x0, 0xFFFFFFFF, [], .none⟩, -- STY_SLOW_INTEG
  ⟨0x10502C, [(16, 0x10000), (84, 0x100)], .ro, 0x0, 0xFFFFFFFF, [], .none⟩, -- STY_SLOW_OUT
  ⟨0x105030, [(16, 0x10000), (84, 0x100)], .ro, 0x0, 0xFFFFFFFF, [], .none⟩, -- STY_SLOW_ERR
  ⟨0x105034, [(16, 0x10000), (84, 0x100)], .ro, 0x0, 0xFFFFFFFF, [], .none⟩, -- STY_SLOW_STATE
  ⟨0x105038, [(16, 0x10000), (84, 0x100)], .rw, 0x0, 0xFFFFFFFF, [], .none⟩, -- STY_SLOW_SWEEP_STEP
  ⟨0x105080, [(16, 0x10000), (84, 0x100), (32, 0x4)], .rw, 0x0, 0xFFFFFFFF, [], .none⟩] -- STY_SLOW_KP

/-- The registers of the STY block, part 1. -/
def rowsSTY1 : List RegRow := [
  ⟨0x100400, [(16, 0x10000)], .ro, 0xFF, 0xFFFFFFFF, [], .none⟩, -- STY_SUP_STATUS
  ⟨0x100404, [(16, 0x10000)], .wo, 0x0, 0xFF, [], .none⟩, -- STY_SUP_RELEASE
  ⟨0x100408, [(16, 0x10000)], .rc, 0x0, 0xFFFFFFFF, [], .none⟩, -- STY_MIS_CNT
  ⟨0x10040C, [(16, 0x10000)], .rc, 0x0, 0xFFFFFFFF, [], .none⟩, -- STY_SLIP_CNT
  ⟨0x100410, [(16, 0x10000), (2, 0x4)], .ro, 0x0, 0xFFFFFFFF, [], .none⟩, -- STY_ROLL_DUE
  ⟨0x100420, [(16, 0x10000)], .wo, 0x0, 0x800000FF, [], .none⟩, -- STY_RELAY_CMD
  ⟨0x100424, [(16, 0x10000)], .rw, 0x40801F4, 0x1FFFFFFF, [], .none⟩, -- STY_RELAY_CFG
  ⟨0x100428, [(16, 0x10000)], .rw, 0x10000400, 0xFFFFFFFF, [], .none⟩, -- STY_RELAY_LIMIT
  ⟨0x10042C, [(16, 0x10000)], .ro, 0x0, 0xFFFFFFFF, [], .none⟩, -- STY_RELAY_STATUS
  ⟨0x100430, [(16, 0x10000)], .ro, 0x0, 0xFFFFFFFF, [], .none⟩, -- STY_RELAY_KU
  ⟨0x100434, [(16, 0x10000)], .ro, 0x0, 0xFFFFFFFF, [], .none⟩, -- STY_RELAY_TU
  ⟨0x100438, [(16, 0x10000)], .ro, 0x0, 0xFFFFFFFF, [], .none⟩, -- STY_RELAY_A2
  ⟨0x100440, [(16, 0x10000)], .wo, 0x0, 0x7, [], .none⟩, -- STY_TRACE_CMD
  ⟨0x100444, [(16, 0x10000)], .rw, 0x0, 0x73FFFF, [], .none⟩, -- STY_TRACE_CFG
  ⟨0x100448, [(16, 0x10000)], .rw, 0x800, 0xFFF, [], .none⟩, -- STY_TRACE_POST
  ⟨0x10044C, [(16, 0x10000)], .rw, 0x0, 0xFFFFFFFF, [], .none⟩, -- STY_TRACE_THRESH
  ⟨0x100450, [(16, 0x10000)], .rw, 0x0, 0xFFFFFFFF, [], .lo⟩, -- STY_TRACE_CT_LO
  ⟨0x100454, [(16, 0x10000)], .rw, 0x0, 0xFFFFFFFF, [], .hi⟩, -- STY_TRACE_CT_HI
  ⟨0x100458, [(16, 0x10000)], .ro, 0x0, 0xFFFFFFFF, [], .none⟩, -- STY_TRACE_STATUS
  ⟨0x10A400, [(16, 0x10000), (140, 0x20)], .rw, 0x0, 0x3FFFFF1F, [], .none⟩, -- STY_SUP_CTL
  ⟨0x10A404, [(16, 0x10000), (140, 0x20)], .rw, 0x0, 0xFFFFFFFF, [], .none⟩, -- STY_SUP_THRESH
  ⟨0x10A408, [(16, 0x10000), (140, 0x20)], .rw, 0x0, 0xFFFF, [], .none⟩, -- STY_SUP_A
  ⟨0x10A40C, [(16, 0x10000), (140, 0x20)], .rw, 0x0, 0xFFFFFFFF, [], .none⟩, -- STY_SUP_G
  ⟨0x10A410, [(16, 0x10000), (140, 0x20)], .rw, 0x0, 0xFFFFFFFF, [], .none⟩, -- STY_SUP_COUPLE
  ⟨0x10A414, [(16, 0x10000), (140, 0x20)], .rw, 0x0, 0xFFFFFFFF, [], .none⟩, -- STY_SUP_KT
  ⟨0x10A418, [(16, 0x10000), (140, 0x20)], .rw, 0x0, 0xFFFFFFFF, [], .none⟩, -- STY_SUP_FSR
  ⟨0x10B600, [(16, 0x10000), (140, 0x4)], .ro, 0x0, 0xFFFFFFFF, [], .none⟩, -- STY_SUP_RESID
  ⟨0x10C000, [(16, 0x10000), (4096, 0x4)], .ro, 0x0, 0xFFFFFFFF, [], .none⟩] -- STY_TRACE_BUF

/-- The registers of the STY block. -/
def rowsSTY : List RegRow := rowsSTY0 ++ rowsSTY1

/-- The registers of the LNK block. -/
def rowsLNK : List RegRow := [
  ⟨0x200000, [(16, 0x10000)], .ro, 0x0, 0xFFFFFFFF, [], .none⟩, -- LNK_STATUS
  ⟨0x200004, [(16, 0x10000)], .ro, 0x0, 0xFFFFFFFF, [], .none⟩, -- LNK_PEER
  ⟨0x200008, [(16, 0x10000)], .rwl, 0x8646401, 0x1FFFFF0F, [], .none⟩, -- LNK_CFG
  ⟨0x20000C, [(16, 0x10000)], .rwl, 0x840003E8, 0x8FFFFFFF, [], .none⟩, -- LNK_ROT_CFG
  ⟨0x200010, [(16, 0x10000)], .rwl, 0xD800040, 0xFFFFFFFF, [], .none⟩, -- LNK_SWEEP_CFG
  ⟨0x200014, [(16, 0x10000)], .rwl, 0x40040, 0xFFFFFF, [], .none⟩, -- LNK_LOCK_CFG
  ⟨0x200018, [(16, 0x10000)], .rwl, 0x4004000, 0xFFFFFFFF, [], .none⟩, -- LNK_FEC_CFG
  ⟨0x200020, [(16, 0x10000)], .ro, 0x0, 0xFFFFFFFF, [], .none⟩, -- LNK_ROT_STATUS
  ⟨0x200024, [(16, 0x10000)], .ro, 0x0, 0xFFFFFFFF, [], .none⟩, -- LNK_ROT_CNT
  ⟨0x200028, [(16, 0x10000)], .rc, 0x0, 0xFFFFFFFF, [], .none⟩, -- LNK_RETRY_CNT
  ⟨0x20002C, [(16, 0x10000)], .ro, 0x0, 0xFFFFFFFF, [], .none⟩, -- LNK_RETRY_STATUS
  ⟨0x200030, [(16, 0x10000)], .rc, 0x0, 0xFFFFFFFF, [], .none⟩, -- LNK_DUP_CNT
  ⟨0x200040, [(16, 0x10000)], .wo, 0x0, 0xFF00003F, [], .none⟩, -- LNK_CMD
  ⟨0x201000, [(16, 0x10000), (2, 0x400), (18, 0x20)], .ro, 0x1F0000, 0xFFFFFFFF, [], .none⟩, -- LNK_LANE_STATE
  ⟨0x201004, [(16, 0x10000), (2, 0x400), (18, 0x20)], .rc, 0x0, 0xFFFFFFFF, [], .none⟩, -- LNK_FEC_CW_CORR
  ⟨0x201008, [(16, 0x10000), (2, 0x400), (18, 0x20)], .rc, 0x0, 0xFFFFFFFF, [], .none⟩, -- LNK_FEC_SYM_CORR
  ⟨0x20100C, [(16, 0x10000), (2, 0x400), (18, 0x20)], .rc, 0x0, 0xFFFFFFFF, [], .none⟩, -- LNK_FEC_CW_UNCORR
  ⟨0x201010, [(16, 0x10000), (2, 0x400), (18, 0x20)], .ro, 0x0, 0xFFFFFFFF, [], .none⟩] -- LNK_LANE_SWAPS

/-- The registers of the PLATE block. -/
def rowsPLATE : List RegRow := [
  ⟨0x300000, [], .ro, 0x23F3F, 0xFFFFFFFF, [], .none⟩, -- PLATE_STATUS
  ⟨0x300004, [], .ro, 0x0, 0xFFFFFFFF, [], .lo⟩, -- PLATE_VALID_LO
  ⟨0x300008, [], .ro, 0x0, 0xFFFFFFFF, [], .hi⟩, -- PLATE_VALID_HI
  ⟨0x30000C, [], .ro, 0x0, 0xFFFFFFFF, [], .lo⟩, -- PLATE_MEMBER_LO
  ⟨0x300010, [], .ro, 0x0, 0xFFFFFFFF, [], .hi⟩, -- PLATE_MEMBER_HI
  ⟨0x300014, [], .ro, 0x0, 0xFFFFFFFF, [], .none⟩, -- PLATE_SECTION
  ⟨0x300018, [], .rw, 0x3F, 0x3F, [], .none⟩, -- PLATE_VIEW
  ⟨0x30001C, [], .ro, 0x0, 0xFFFFFFFF, [], .lo⟩, -- PLATE_APPLY_CT_LO
  ⟨0x300020, [], .ro, 0x0, 0xFFFFFFFF, [], .hi⟩, -- PLATE_APPLY_CT_HI
  ⟨0x301000, [(512, 0x4)], .ro, 0x0, 0xFFFFFFFF, [], .none⟩, -- PLATE_VREC
  ⟨0x302000, [(512, 0x4)], .ro, 0x0, 0xFFFFFFFF, [], .none⟩, -- PLATE_CREC
  ⟨0x308000, [(8192, 0x4)], .ro, 0x0, 0xFFFFFFFF, [], .none⟩, -- PLATE_VMAP
  ⟨0x300100, [], .ro, 0x0, 0xFFFFFFFF, [], .none⟩, -- PLATE_RP_STATUS
  ⟨0x300104, [], .ro, 0x0, 0xFFFFFFFF, [], .lo⟩, -- PLATE_RP_APPLY_CT_LO
  ⟨0x300108, [], .ro, 0x0, 0xFFFFFFFF, [], .hi⟩, -- PLATE_RP_APPLY_CT_HI
  ⟨0x30010C, [], .ro, 0x0, 0xFFFFFFFF, [], .none⟩, -- PLATE_RP_PORTS
  ⟨0x300110, [], .ro, 0x0, 0xFFFFFFFF, [], .none⟩, -- PLATE_RP_LATE
  ⟨0x300114, [], .ro, 0x0, 0xFFFFFFFF, [], .none⟩, -- PLATE_RP_CNT
  ⟨0x300120, [], .rwl, 0x6400C8, 0x1FF01FF, [(24, 16, 100, 300), (8, 0, 100, 300)], .none⟩, -- PLATE_ETCH_LEAD
  ⟨0x300124, [], .rwl, 0x1E3C0814, 0xFFFFFFFF, [(31, 24, 20, 60), (23, 16, 56, 96), (15, 8, 2, 16), (7, 0, 1, 100)], .none⟩, -- PLATE_ETCH_TIMING
  ⟨0x300128, [], .rwl, 0x140A, 0x8000FFFF, [], .none⟩, -- PLATE_ETCH_POLICY
  ⟨0x300130, [], .rwl, 0x0, 0xFFFFFFFF, [], .lo⟩, -- PLATE_HOST_ALLOW_LO
  ⟨0x300134, [], .rwl, 0x0, 0xFFFFFFFF, [], .hi⟩, -- PLATE_HOST_ALLOW_HI
  ⟨0x300140, [], .wo, 0x0, 0x80FF003F, [], .none⟩, -- PLATE_REQ
  ⟨0x300144, [], .ro, 0x0, 0xFFFFFFFF, [], .none⟩, -- PLATE_REQ_STATUS
  ⟨0x300148, [], .ro, 0x0, 0xFFFFFFFF, [], .none⟩, -- PLATE_ETCH_STATUS
  ⟨0x30014C, [], .ro, 0x0, 0xFFFFFFFF, [], .none⟩] -- PLATE_FAULT_SET

/-- The registers of the SCRIBE block. -/
def rowsSCRIBE : List RegRow := [
  ⟨0x400000, [], .ro, 0x11, 0xFFFFFFFF, [], .none⟩, -- SCRIBE_STATUS
  ⟨0x400004, [], .ro, 0x0, 0xFFFFFFFF, [], .none⟩, -- SCRIBE_EPOCH
  ⟨0x400008, [], .ro, 0x0, 0xFFFFFFFF, [], .none⟩, -- SCRIBE_SEQ
  ⟨0x40000C, [], .ro, 0x0, 0xFFFFFFFF, [], .lo⟩, -- SCRIBE_LEASE_EXP_LO
  ⟨0x400010, [], .ro, 0x0, 0xFFFFFFFF, [], .hi⟩, -- SCRIBE_LEASE_EXP_HI
  ⟨0x400014, [], .wo, 0x0, 0x3, [], .none⟩, -- SCRIBE_LEASE_CMD
  ⟨0x400018, [], .ro, 0x0, 0xFFFFFFFF, [], .none⟩, -- SCRIBE_CKPT
  ⟨0x40001C, [], .ro, 0x0, 0xFFFFFFFF, [], .none⟩, -- SCRIBE_JOURNAL
  ⟨0x400020, [], .ro, 0x0, 0xFFFFFFFF, [], .none⟩, -- SCRIBE_TAKE_CNT
  ⟨0x400024, [], .rc, 0x0, 0xFFFFFFFF, [], .none⟩, -- SCRIBE_STALE_CNT
  ⟨0x400100, [(44, 0x4)], .ro, 0x0, 0xFFFFFFFF, [], .none⟩, -- SCRIBE_RX_HIGH
  ⟨0x401000, [], .rwl, 0x0, 0x3FFF3FFF, [], .none⟩, -- CL_CFG
  ⟨0x401004, [], .ro, 0x0, 0xFFFFFFFF, [], .none⟩, -- CL_STATUS
  ⟨0x401008, [], .ro, 0x0, 0xFFFFFFFF, [], .none⟩, -- CL_EPOCH
  ⟨0x40100C, [], .ro, 0x0, 0xFFFFFFFF, [], .lo⟩, -- CL_LEASE_EXP_LO
  ⟨0x401010, [], .ro, 0x0, 0xFFFFFFFF, [], .hi⟩, -- CL_LEASE_EXP_HI
  ⟨0x401014, [], .ro, 0x0, 0xFFFFFFFF, [], .none⟩, -- CL_REACH
  ⟨0x401018, [], .ro, 0x0, 0xFFFFFFFF, [], .none⟩, -- CL_SEQ
  ⟨0x40101C, [], .ro, 0x0, 0xFFFFFFFF, [], .none⟩, -- CL_JOURNAL
  ⟨0x401020, [], .rc, 0x0, 0xFFFFFFFF, [], .none⟩] -- CL_STALE_CNT

/-- The registers of the AGREE block. -/
def rowsAGREE : List RegRow := [
  ⟨0x480000, [], .ro, 0x0, 0xFFFFFFFF, [], .none⟩, -- AGREE_STATUS
  ⟨0x480004, [], .ro, 0x0, 0xFFFFFFFF, [], .none⟩, -- AGREE_NONCE
  ⟨0x480008, [], .rwl, 0x14, 0x800000FF, [], .none⟩, -- AGREE_POLICY
  ⟨0x48000C, [], .ro, 0x0, 0xFFFFFFFF, [], .none⟩, -- AGREE_CNT
  ⟨0x480100, [(16, 0x20)], .ro, 0x0, 0xFFFFFFFF, [], .none⟩, -- AGREE_P_RESULT
  ⟨0x480104, [(16, 0x20)], .ro, 0x0, 0xFFFFFFFF, [], .none⟩, -- AGREE_P_PEER
  ⟨0x480108, [(16, 0x20)], .ro, 0x0, 0xFFFFFFFF, [], .none⟩, -- AGREE_P_VER
  ⟨0x48010C, [(16, 0x20)], .ro, 0x0, 0xFFFFFFFF, [], .none⟩, -- AGREE_P_EPOCH
  ⟨0x480110, [(16, 0x20)], .ro, 0x0, 0xFFFFFFFF, [], .lo⟩, -- AGREE_P_IMG_LO
  ⟨0x480114, [(16, 0x20)], .ro, 0x0, 0xFFFFFFFF, [], .hi⟩, -- AGREE_P_IMG_HI
  ⟨0x480118, [(16, 0x20)], .ro, 0x0, 0xFFFFFFFF, [], .none⟩, -- AGREE_P_NONCE
  ⟨0x481000, [], .ro, 0x0, 0xFFFFFFFF, [], .none⟩, -- AGREE_ETCH_STATUS
  ⟨0x481100, [(256, 0x8)], .ro, 0x0, 0xFFFFFFFF, [], .none⟩, -- AGREE_ETCH_LIST
  ⟨0x481104, [(256, 0x8)], .ro, 0x0, 0xFFFFFFFF, [], .none⟩] -- AGREE_ETCH_LIST_W1

/-- The registers of the FAB block. -/
def rowsFAB : List RegRow := [
  ⟨0x600000, [], .ro, 0x0, 0xFFFFFFFF, [], .none⟩, -- FAB_STATUS
  ⟨0x600004, [], .rwl, 0x3F64, 0x3FFF, [], .none⟩, -- FAB_CFG
  ⟨0x600008, [], .rw, 0x0, 0x3FFF, [], .none⟩, -- FAB_ROUTE_Q
  ⟨0x60000C, [], .ro, 0x0, 0xFFFFFFFF, [], .none⟩, -- FAB_ROUTE_A
  ⟨0x600010, [], .rc, 0x0, 0xFFFFFFFF, [], .none⟩, -- FAB_TIMEOUT_CNT
  ⟨0x600014, [], .rc, 0x0, 0xFFFFFFFF, [], .none⟩, -- FAB_STALE_CNT
  ⟨0x600018, [], .rc, 0x0, 0xFFFFFFFF, [], .none⟩, -- FAB_DROP_CNT
  ⟨0x60001C, [], .rc, 0x0, 0xFFFFFFFF, [], .none⟩, -- FAB_UNREACH_CNT
  ⟨0x600024, [(7, 0x4)], .ro, 0x0, 0xFFFFFFFF, [], .none⟩, -- FAB_ERR_TX
  ⟨0x600040, [(4, 0x8)], .rwl, 0x0, 0x3FFFFFC, [], .none⟩, -- FAB_RCR_BASE
  ⟨0x600044, [(4, 0x8)], .rwl, 0x0, 0x83FFFFFF, [], .none⟩, -- FAB_RCR_SIZE
  ⟨0x601000, [(16, 0x100), (6, 0x10)], .ro, 0x0, 0xFFFFFFFF, [], .lo⟩, -- FAB_VC_TX_LO
  ⟨0x601004, [(16, 0x100), (6, 0x10)], .ro, 0x0, 0xFFFFFFFF, [], .hi⟩, -- FAB_VC_TX_HI
  ⟨0x601008, [(16, 0x100), (6, 0x10)], .ro, 0x0, 0xFFFFFFFF, [], .lo⟩, -- FAB_VC_RX_LO
  ⟨0x60100C, [(16, 0x100), (6, 0x10)], .ro, 0x0, 0xFFFFFFFF, [], .hi⟩] -- FAB_VC_RX_HI

/-- The registers of the HMK block. -/
def rowsHMK : List RegRow := [
  ⟨0x700000, [], .ro, 0x0, 0xFFFFFFFF, [], .none⟩, -- HMK_STATUS
  ⟨0x700004, [], .rwl, 0x3C, 0xFF, [], .none⟩, -- HMK_CFG
  ⟨0x700008, [], .wo, 0x0, 0x8000FFFF, [], .none⟩, -- HMK_CMD
  ⟨0x700100, [(16, 0x40)], .ro, 0x0, 0xFFFFFFFF, [], .none⟩, -- HMK_P_STATUS
  ⟨0x700104, [(16, 0x40)], .ro, 0x0, 0xFFFFFFFF, [], .none⟩, -- HMK_P_MAP
  ⟨0x700108, [(16, 0x40)], .ro, 0x0, 0xFFFFFFFF, [], .lo⟩, -- HMK_P_EXP_LO
  ⟨0x70010C, [(16, 0x40)], .ro, 0x0, 0xFFFFFFFF, [], .hi⟩, -- HMK_P_EXP_HI
  ⟨0x700110, [(16, 0x40)], .ro, 0x0, 0xFFFFFFFF, [], .lo⟩, -- HMK_P_ALT_LO
  ⟨0x700114, [(16, 0x40)], .ro, 0x0, 0xFFFFFFFF, [], .hi⟩, -- HMK_P_ALT_HI
  ⟨0x700118, [(16, 0x40)], .ro, 0x0, 0xFFFFFFFF, [], .none⟩, -- HMK_P_CNT
  ⟨0x700120, [(16, 0x40), (4, 0x8)], .ro, 0x0, 0xFFFFFFFF, [], .lo⟩, -- HMK_P_ID_LO
  ⟨0x700124, [(16, 0x40), (4, 0x8)], .ro, 0x0, 0xFFFFFFFF, [], .hi⟩] -- HMK_P_ID_HI

/-- The registers of the XFE block. -/
def rowsXFE : List RegRow := [
  ⟨0x800000, [(4096, 0x40)], .rw, 0x40000, 0xFF0F07FF, [(19, 16, 4, 15)], .none⟩, -- XFE_CTL
  ⟨0x800004, [(4096, 0x40)], .ro, 0x0, 0xFFFFFFFF, [], .none⟩, -- XFE_STATE
  ⟨0x800008, [(4096, 0x40)], .rw, 0x0, 0xFFFFFFFF, [], .lo⟩, -- XFE_BASE_LO
  ⟨0x80000C, [(4096, 0x40)], .rw, 0x0, 0xFFFFFFFF, [], .hi⟩, -- XFE_BASE_HI
  ⟨0x800010, [(4096, 0x40)], .ro, 0x0, 0xFFFFFFFF, [], .none⟩, -- XFE_PTR
  ⟨0x800014, [(4096, 0x40)], .wo, 0x0, 0xFFFF, [], .none⟩, -- XFE_DB
  ⟨0x800018, [(4096, 0x40)], .rw, 0x0, 0xFF0001FF, [], .none⟩, -- XFE_RATE
  ⟨0x80001C, [(4096, 0x40)], .wo, 0x0, 0xF0000001, [], .none⟩, -- XFE_CMD
  ⟨0x800020, [(4096, 0x40)], .rw, 0x0, 0xFFFFFFFF, [], .lo⟩, -- XFE_FLAG_LO
  ⟨0x800024, [(4096, 0x40)], .rw, 0x0, 0xFFFFFFFF, [], .hi⟩, -- XFE_FLAG_HI
  ⟨0x800028, [(4096, 0x40)], .ro, 0x0, 0xFFFFFFFF, [], .lo⟩, -- XFE_BYTES_LO
  ⟨0x80002C, [(4096, 0x40)], .ro, 0x0, 0xFFFFFFFF, [], .hi⟩, -- XFE_BYTES_HI
  ⟨0x800030, [(4096, 0x40)], .ro, 0x0, 0xFFFFFFFF, [], .none⟩, -- XFE_ERR
  ⟨0x800034, [(4096, 0x40)], .ro, 0x0, 0xFFFFFFFF, [], .none⟩, -- XFE_MSG
  ⟨0x840000, [], .ro, 0x0, 0xFFFFFFFF, [], .none⟩, -- XFE_STATUS
  ⟨0x840004, [], .ro, 0x0, 0xFFFFFFFF, [], .none⟩, -- XFE_HELD
  ⟨0x840008, [], .rc, 0x0, 0xFFFFFFFF, [], .none⟩, -- XFE_DENY_CNT
  ⟨0x84000C, [], .rc, 0x0, 0xFFFFFFFF, [], .none⟩, -- XFE_NOTOWN_CNT
  ⟨0x840010, [], .rc, 0x0, 0xFFFFFFFF, [], .none⟩] -- XFE_IRQ_DROP

/-- The registers of the TKT block. -/
def rowsTKT : List RegRow := [
  ⟨0xC00000, [], .ro, 0x0, 0xFFFFFFFF, [], .none⟩, -- TKT_STATUS
  ⟨0xC00004, [], .rc, 0x0, 0xFFFFFFFF, [], .none⟩, -- TKT_IRQ_DROP
  ⟨0xC00008, [], .rc, 0x0, 0xFFFFFFFF, [], .none⟩, -- TKT_DENY_CNT
  ⟨0xC01000, [(256, 0x40)], .rw, 0x60000, 0x810F07FF, [(19, 16, 6, 15)], .none⟩, -- TKT_CFG
  ⟨0xC01004, [(256, 0x40)], .rwl, 0x0, 0x3, [], .none⟩, -- TKT_FEED
  ⟨0xC01008, [(256, 0x40)], .rw, 0x0, 0xFFFFFFFF, [], .lo⟩, -- TKT_BASE_LO
  ⟨0xC0100C, [(256, 0x40)], .rw, 0x0, 0xFFFFFFFF, [], .hi⟩, -- TKT_BASE_HI
  ⟨0xC01010, [(256, 0x40)], .rw, 0x0, 0xFFFFFFFF, [], .lo⟩, -- TKT_CQ_LO
  ⟨0xC01014, [(256, 0x40)], .rw, 0x0, 0xFFFFFFFF, [], .hi⟩, -- TKT_CQ_HI
  ⟨0xC01018, [(256, 0x40)], .wo, 0x0, 0xFFFF, [], .none⟩, -- TKT_DB
  ⟨0xC0101C, [(256, 0x40)], .ro, 0x0, 0xFFFFFFFF, [], .none⟩, -- TKT_PTR
  ⟨0xC01020, [(256, 0x40)], .ro, 0x0, 0xFFFFFFFF, [], .none⟩, -- TKT_STATE
  ⟨0xC01024, [(256, 0x40)], .wo, 0x0, 0xF0000001, [], .none⟩] -- TKT_CMD

/-- The registers of the GRV block. -/
def rowsGRV : List RegRow := [
  ⟨0x1000000, [(256, 0x1000)], .ro, 0x0, 0xFFFFFFFF, [], .none⟩, -- GRV_STATUS
  ⟨0x1000004, [(256, 0x1000)], .rwl, 0x3, 0x7F, [(6, 0, 0, 64)], .none⟩, -- GRV_HBM_SHARE
  ⟨0x1000008, [(256, 0x1000)], .ro, 0x0, 0xFFFFFFFF, [], .lo⟩, -- GRV_BAR_CT_LO
  ⟨0x100000C, [(256, 0x1000)], .ro, 0x0, 0xFFFFFFFF, [], .hi⟩, -- GRV_BAR_CT_HI
  ⟨0x1000010, [(256, 0x1000)], .ro, 0x0, 0xFFFFFFFF, [], .none⟩, -- GRV_LATE
  ⟨0x1000014, [(256, 0x1000)], .ro, 0x0, 0xFFFFFFFF, [], .none⟩, -- GRV_BAR_CNT
  ⟨0x1000018, [(256, 0x1000)], .ro, 0x0, 0xFFFFFFFF, [], .lo⟩, -- GRV_DONE_LO
  ⟨0x100001C, [(256, 0x1000)], .ro, 0x0, 0xFFFFFFFF, [], .hi⟩, -- GRV_DONE_HI
  ⟨0x1000020, [(256, 0x1000)], .ro, 0x0, 0xFFFFFFFF, [], .lo⟩, -- GRV_STALL_LO
  ⟨0x1000024, [(256, 0x1000)], .ro, 0x0, 0xFFFFFFFF, [], .hi⟩, -- GRV_STALL_HI
  ⟨0x1000028, [(256, 0x1000)], .ro, 0x0, 0xFFFFFFFF, [], .lo⟩, -- GRV_WAIT_LO
  ⟨0x100002C, [(256, 0x1000)], .ro, 0x0, 0xFFFFFFFF, [], .hi⟩, -- GRV_WAIT_HI
  ⟨0x1000030, [(256, 0x1000)], .rc, 0x0, 0xFFFFFFFF, [], .none⟩, -- GRV_CONTEND
  ⟨0x1000034, [(256, 0x1000)], .ro, 0x0, 0xFFFFFFFF, [], .none⟩] -- GRV_ERR

/-- The registers of the MEM block. -/
def rowsMEM : List RegRow := [
  ⟨0x2000000, [], .ro, 0x0, 0xFFFFFFFF, [], .none⟩, -- MEM_STATUS
  ⟨0x2000004, [], .rwl, 0x1000, 0xFFFF, [], .none⟩, -- MEM_CFG
  ⟨0x2000008, [], .rwl, 0x3C0A05A0, 0xFFFFFFFF, [], .none⟩, -- MEM_SCRUB_CFG
  ⟨0x200000C, [], .rc, 0x0, 0xFFFFFFFF, [], .none⟩, -- MEM_CE_TOTAL
  ⟨0x2000010, [], .ro, 0x0, 0xFFFFFFFF, [], .none⟩, -- MEM_UE_TOTAL
  ⟨0x2000014, [], .rc, 0x0, 0xFFFFFFFF, [], .none⟩, -- MEM_POISON_READS
  ⟨0x2000018, [], .ro, 0x0, 0xFFFFFFFF, [], .lo⟩, -- MEM_LAST_UE_LO
  ⟨0x200001C, [], .ro, 0x0, 0xFFFFFFFF, [], .hi⟩, -- MEM_LAST_UE_HI
  ⟨0x2000020, [], .ro, 0x0, 0xFFFFFFFF, [], .none⟩, -- MEM_LAST_UE_INFO
  ⟨0x2000024, [], .ro, 0x0, 0xFFFFFFFF, [], .none⟩, -- MEM_VEL_PTR
  ⟨0x2000028, [], .ro, 0x0, 0xFFFFFFFF, [], .none⟩, -- MEM_VEL_CE
  ⟨0x200002C, [], .ro, 0x0, 0xFFFFFFFF, [], .none⟩, -- MEM_VEL_UE
  ⟨0x2000030, [], .rw, 0x0, 0x80000101, [], .none⟩, -- MEM_INJECT
  ⟨0x2000034, [], .rw, 0x0, 0xFFFFFFFF, [], .lo⟩, -- MEM_INJECT_ADDR_LO
  ⟨0x2000038, [], .rw, 0x0, 0xFFFFFFFF, [], .hi⟩, -- MEM_INJECT_ADDR_HI
  ⟨0x2000100, [(8, 0x40)], .ro, 0x0, 0xFFFFFFFF, [], .none⟩, -- MEM_S_PTR
  ⟨0x2000104, [(8, 0x40)], .ro, 0x0, 0xFFFFFFFF, [], .none⟩, -- MEM_S_PASS
  ⟨0x2000108, [(8, 0x40)], .rc, 0x0, 0xFFFFFFFF, [], .none⟩, -- MEM_S_CE
  ⟨0x200010C, [(8, 0x40)], .ro, 0x0, 0xFFFFFFFF, [], .none⟩, -- MEM_S_UE
  ⟨0x2000110, [(8, 0x40)], .ro, 0x0, 0xFFFFFFFF, [], .none⟩, -- MEM_S_DIE_CE
  ⟨0x2000114, [(8, 0x40)], .ro, 0x0, 0xFFFFFFFF, [], .none⟩] -- MEM_S_FLOOR

/-- The registers of the EVT block. -/
def rowsEVT : List RegRow := [
  ⟨0x2800000, [], .ro, 0x0, 0xFFFFFFFF, [], .none⟩, -- EVT_STATUS
  ⟨0x2800004, [], .w1c, 0x0, 0x7FFFFF, [], .none⟩, -- EVT_FAULT
  ⟨0x2800008, [], .rwl, 0x100000, 0x801F0000, [(20, 16, 10, 20)], .none⟩, -- EVT_HBM_CFG
  ⟨0x280000C, [], .rwl, 0x0, 0xFFFFF000, [], .lo⟩, -- EVT_HBM_BASE_LO
  ⟨0x2800010, [], .rwl, 0x0, 0xFFFFFFFF, [], .hi⟩, -- EVT_HBM_BASE_HI
  ⟨0x2800014, [], .ro, 0x0, 0xFFFFFFFF, [], .none⟩, -- EVT_HBM_WR
  ⟨0x2800018, [], .rw, 0x0, 0xFFFFFFFF, [], .none⟩, -- EVT_HBM_RD
  ⟨0x280001C, [], .rc, 0x0, 0xFFFFFFFF, [], .none⟩, -- EVT_HBM_LOST
  ⟨0x2800020, [], .rc, 0x0, 0xFFFFFFFF, [], .none⟩, -- EVT_NVM_DROP
  ⟨0x2800024, [], .rc, 0x0, 0xFFFFFFFF, [], .none⟩, -- EVT_DROP_CNT
  ⟨0x2800028, [], .rw, 0x0, 0x7FF07FF, [], .none⟩, -- EVT_VECTOR
  ⟨0x280002C, [], .rw, 0x0, 0x7FF, [], .none⟩, -- EVT_VECTOR_N
  ⟨0x2800030, [], .ro, 0x0, 0xFFFFFFFF, [], .none⟩, -- EVT_NVM_PTR
  ⟨0x2800034, [], .rc, 0x0, 0xFFFFFFFF, [], .none⟩, -- EVT_IRQ_DROP
  ⟨0x2800040, [], .rwl, 0x0, 0x80000000, [], .none⟩, -- EVT_TEL_CTL
  ⟨0x2800044, [], .rwl, 0x0, 0xFFFF8000, [], .lo⟩, -- EVT_TEL_BASE_LO
  ⟨0x2800048, [], .rwl, 0x0, 0xFFFFFFFF, [], .hi⟩, -- EVT_TEL_BASE_HI
  ⟨0x280004C, [], .ro, 0x0, 0xFFFFFFFF, [], .none⟩, -- EVT_TEL_LAST
  ⟨0x2801000, [(512, 0x4)], .ro, 0x0, 0xFFFFFFFF, [], .none⟩, -- EVT_RECENT
  ⟨0x2802000, [(1536, 0x4)], .rwl, 0x0, 0xFFFFFFFF, [], .none⟩] -- EVT_POLICY

/-- The registers of the MGMT block. -/
def rowsMGMT : List RegRow := [
  ⟨0x3000000, [], .ro, 0x5C00, 0xFFFFFFFF, [], .none⟩, -- MGMT_STATUS
  ⟨0x3000004, [], .rwl, 0x5C, 0x17F, [], .none⟩, -- MGMT_SMB_CFG
  ⟨0x3000008, [], .rc, 0x0, 0xFFFFFFFF, [], .none⟩, -- MGMT_SMB_ERR
  ⟨0x300000C, [], .ro, 0x0, 0xFFFFFFFF, [], .none⟩, -- MGMT_ALERT
  ⟨0x3000010, [], .wo, 0x0, 0xFFFF000F, [], .none⟩, -- MGMT_FUSE_CMD
  ⟨0x3000014, [], .ro, 0x0, 0xFFFFFFFF, [], .none⟩, -- MGMT_FUSE_STATUS
  ⟨0x3000018, [], .rw, 0x0, 0x3FFF, [], .none⟩, -- MGMT_FUSE_CHIP
  ⟨0x3000040, [(12, 0x4)], .rw, 0x0, 0xFFFFFFFF, [], .none⟩, -- MGMT_FUSE_HASH
  ⟨0x3000080, [], .ro, 0x0, 0xFFFFFFFF, [], .none⟩] -- MGMT_DBG_STATUS

/-- The blocks of Table 27.2: first offset past the block, its registers. -/
def blockRows (off : Nat) : List RegRow :=
  if off < 0x10000 then rowsGLB else
  if off < 0x20000 then rowsCLK else
  if off < 0x30000 then rowsRST else
  if off < 0x40000 then rowsPWR else
  if off < 0x50000 then rowsBOOT else
  if off < 0x60000 then rowsTIME else
  if off < 0x70000 then rowsTEC else
  if off < 0x80000 then rowsLAS else
  if off < 0x100000 then rowsPROOF else
  if off < 0x200000 then rowsSTY else
  if off < 0x300000 then rowsLNK else
  if off < 0x400000 then rowsPLATE else
  if off < 0x480000 then rowsSCRIBE else
  if off < 0x600000 then rowsAGREE else
  if off < 0x700000 then rowsFAB else
  if off < 0x800000 then rowsHMK else
  if off < 0xC00000 then rowsXFE else
  if off < 0x1000000 then rowsTKT else
  if off < 0x2000000 then rowsGRV else
  if off < 0x2800000 then rowsMEM else
  if off < 0x3000000 then rowsEVT else
  if off < 0x4000000 then rowsMGMT else []

/-- Whether the remainder d of an offset past a row's base is an element of its array (R664). -/
def dimsHit : List (Nat × Nat) → Nat → Bool
  | [], d => d == 0
  | (c, st) :: ds, d => decide (d / st < c) && dimsHit ds (d % st)

/-- Whether the register row covers the offset. -/
def RegRow.hit (r : RegRow) (off : Nat) : Bool := decide (r.base ≤ off) && dimsHit r.dims (off - r.base)

/-- The row of the register at an offset, if the index lists one (R664). -/
def regRow (off : Nat) : Option RegRow := (blockRows off).find? (fun r => r.hit off)

end Sys2Proof.Machine
end

