-- ==== Sys2Proof/Machine/State.lean ====
section
/-! DEFINITION. The state of the LX16 as plain data: every register in one sparse table keyed by BAR0 offset (27 R664), the
memories as sparse byte tables, and the state the spec gives the machine outside its registers, block by block. -/

namespace Sys2Proof.Machine

open Sys2Proof

/-- Why the machine stops. -/
inductive Fault where
  /-- A command whose operands no sender can form (WellFormed.lean); raised by the meanings of commands that carry lists. Safe:
  the machine stops where no command exists. -/
  | illFormed
  deriving DecidableEq, Repr

/-- Why a command is refused. -/
inductive Refusal where
  /-- The command has no meaning yet; raised by exec's arms only. Safe. -/
  | notModelled (mnemonic : String)
  deriving DecidableEq, Repr

/-- The per-path latches of 64-bit pairs (00 R19–R22). -/
structure Access where
  /-- NAME_HI latch by path code (R20). -/
  latch : SMap Word
  /-- Held NAME_LO writes: (path code, offset of NAME_LO, value) (R22). -/
  held : List (Nat × Nat × Word)
  deriving DecidableEq, Repr

/-- The signal balls the package drives, those of one kind as one (02 R43, Table 2.3). -/
inductive Ball where
  | pcieTx | nvmSck | nvmCsN | nvmIo | smbSda | smbAlertN | tdo | sbETx | sbWTx
  | hmk (p : Fin 16)
  /-- Gate g of TEC k: GHA, GLA, GHB, GLB. -/
  | tecGate (k g : Fin 4)
  | faultN | ready
  deriving DecidableEq, Repr

/-- What a ball shows: a level, high impedance, an open drain released, the idle of its electrical standard, or what its protocol has
it send. -/
inductive BallShow where
  | low | high | hiZ | released | idle | protocol
  deriving DecidableEq, Repr

/-- Balls and straps (02). -/
structure Pins where
  /-- Balls of the switched domains that their block has driven since the reset (02 R43). -/
  driven : List Ball
  /-- PWROK is high (02 R73). -/
  pwrok : Bool
  /-- PERST_N is high, that is not asserted (03 R93). -/
  perstHigh : Bool
  /-- CFG_OPEN as sampled (02 R44). -/
  cfgOpen : Bool
  /-- BOOT_SEL as sampled (02 R44). -/
  bootSel : BitVec 2
  /-- RACK_SLOT as sampled (02 R44). -/
  rackSlot : BitVec 6
  /-- The VHTR value in use, in mV (02 R53). -/
  vhtr : Nat
  /-- The supply term of the last sample, the frame of that sample, and the term of the sample before (09 R246). -/
  vsqNew : Int
  vsqFrame : Nat
  vsqWas : Int
  /-- The last VHTR_SENSE reading lay outside 2.8–3.8 V (02 R53). -/
  vhtrOut : Bool
  /-- SMB_ALERT_N is asserted (26 R645). -/
  smbAlert : Bool
  deriving DecidableEq, Repr

/-- One direction of the sideband (02 R61–R65). -/
structure SbPort where
  /-- The descrambler: the last 58 bits received (R61). -/
  scr : BitVec 58
  /-- Validity of the last sync headers, newest first, at most 64 (R61). -/
  hdrs : List Bool
  /-- Valid headers in a row while not locked (R61). -/
  run : Nat
  lock : Bool
  /-- TRAIN blocks in a row with STATE 1 and the opposite DIR (R62). -/
  trainRun : Nat
  /-- The segment is up (R62). -/
  up : Bool
  /-- Own messages waiting, oldest first, at most 16 (R65). -/
  queue : List SbMsg
  /-- The own message last started (R65). -/
  sending : Option SbMsg
  /-- Own messages that an arriving SOF cut short and that are to be sent again from their start (R65). -/
  again : List SbMsg
  deriving DecidableEq, Repr

/-- Root PLL state that no register shows (03 R81, R83). -/
structure ClkSt where
  /-- The root has switched away from the configured source (R83). -/
  away : Bool
  /-- The source in use when holdover began: 0 rack, 1 link (R80). -/
  lost : Nat
  /-- The RX lane of the port named by LINK_PORT that supplies the link reference (R78). -/
  lane : Option Nat
  /-- HOLDOVER has been raised so often in this holdover (R82). -/
  said : Nat
  deriving DecidableEq, Repr

/-- Resets in progress (03 R93–R99). -/
structure RstSt where
  /-- A chip reset is in progress (Table 3.6). -/
  chip : Bool
  /-- The power-on reset is held, PWROK being low (02 R72). -/
  por : Bool
  /-- Domains in domain reset (R97). -/
  doms : List Nat
  deriving DecidableEq, Repr

/-- A candidate parent (04 R127). -/
structure Cand where
  /-- Discards in a row. -/
  discards : Nat
  passed : Bool
  deriving DecidableEq, Repr

/-- An exchange awaiting its TIME_RSP (04 R114). -/
structure Xchg where
  seq : Nat
  port : Nat
  t1 : FineStamp
  /-- Elapsed ticks at t1, to tell whether a step landed since (R692). -/
  tick : Nat
  deriving DecidableEq, Repr

/-- The time discipline (04). -/
structure TimeSt where
  /-- Frequency integrator facc, 0.001 ppm (R118). -/
  facc : Int
  /-- Number of the next exchange (R115). -/
  seq : Nat
  /-- Exchanges that await their TIME_RSP, oldest first: more than one where XCHG_PERIOD is below the 2 frames of R117. -/
  out : List Xchg
  /-- SEQs of exchanges already discarded, whose TIME_RSP may still come and is not counted again (R117). -/
  gone : List Nat
  /-- Accepted delays, newest first, at most 16, in 1/16 tick (R117). -/
  delays : List Int
  /-- Exchanges since the last change of parent or plate, at most 16 (R117). -/
  seeded : Nat
  /-- ACQUIRE collection: (t1, theta) oldest first, 1/16 tick (R119). -/
  acq : List (Int × Int)
  /-- The next accepted exchange ends ACQUIRE (R119). -/
  testing : Bool
  /-- Accepted exchanges in a row above STEP_THRESH (R120). -/
  run : Nat
  /-- The step called for and not yet landed, in ticks (R692). -/
  pending : Option Int
  /-- Elapsed ticks at the last landing (R692). -/
  landed : Nat
  /-- Accepted exchanges in a row within 160 ticks (R126). -/
  lockRun : Nat
  /-- PARENT, ALT1, ALT2 (R127). -/
  cands : List Cand
  /-- Candidate in use. -/
  cur : Nat
  /-- ROOT_CHIP of the last accepted exchange (R132). -/
  root : Nat
  /-- Accepted exchanges in a row from `cur` in HOLD (R127). -/
  holdRun : Nat
  /-- Elapsed ticks when the attempt timer last started; none while it is stopped (R125). -/
  attempt : Option Nat
  deriving DecidableEq, Repr

/-- A request to PWR_DOM_REQ: ON, OFF or AUTO (05 R138). -/
inductive DomAct where
  | on | off | auto
  deriving DecidableEq, Repr

/-- A planned heat note (05 R150–R152). -/
structure Note where
  die : Nat
  ring : Nat
  /-- Ring index of its ticket. -/
  idx : Nat
  lead : Nat
  decay : Nat
  /-- Predicted start CT. -/
  start : Nat
  /-- Declared power, 1/16 W; cycles of its formula; elapsed ticks at which it was planned. -/
  p : Int
  cyc : Nat
  made : Nat
  /-- Planned admitted power from the predicted start's governor step on, one value a step, 1/1024 W. -/
  vals : List Int
  /-- Steps for which the last value goes on; none: until a later power ticket of the ring replaces it (R156). -/
  rest : Option Nat
  /-- Last value delivered for it, 1/1024 W. -/
  last : Int
  /-- The LEAD 0 note of a ticket that started after its planned note had lapsed: it delivers what is admitted and is in no plan
  (R143, R153). -/
  bare : Bool
  deriving DecidableEq, Repr

/-- A lapsed note decaying (05 R152): its last value, 1/1024 W. -/
structure Lapsed where
  die : Nat
  v : Int
  k : Nat
  decay : Nat
  deriving DecidableEq, Repr

/-- A power ticket's demand (05 R156): on its ring, whole DELTA wanted and the part admitted, 1/1024 W. -/
structure PwrDemand where
  ring : Nat
  die : Nat
  want : Int
  have_ : Int
  deriving DecidableEq, Repr

/-- One die's governor (05 R145–R150). -/
structure Gov where
  /-- Admitted power of the last 100 steps, newest first (R145), 1/1024 W: exact, as d × scalable / 64 is. -/
  hist : List Int
  /-- The cap in force, 1/1024 W (R143). -/
  cap : Option Nat
  /-- S_eff in force, W per 100 µs (R149). -/
  sEff : Nat
  /-- Frame measurements, newest first, at most 200 (R142). -/
  meas : List Nat
  /-- Rises of power tickets granted since the last step, 1/1024 W (R156). -/
  given : Int
  deriving DecidableEq, Repr

/-- Power domains and the governor (05). -/
structure Pwr where
  /-- Graver pairs under AUTO (R139). -/
  auto : List Nat
  /-- Domains whose power-up waits for its rail (R137). -/
  upQ : List Nat
  /-- Requests waiting for a running sequence or a domain reset (R138, R141). -/
  waiting : List (Nat × DomAct)
  /-- Package measurements, newest first, at most 200 (R142). -/
  meas : List Nat
  /-- Frames in a row above 1,470 W, at most 20 (R144). -/
  overRun : Nat
  g0 : Gov
  g1 : Gov
  notes : List Note
  lapsed : List Lapsed
  power : List PwrDemand
  deriving DecidableEq, Repr

/-- An event record in the collector's queue (25 R622, R626). -/
structure EvRec where
  ct : Word64
  /-- Elapsed ticks when raised, to order records (R626). -/
  tick : Nat
  code : Nat
  count : Nat
  src : Nat
  args : List Nat
  deriving DecidableEq, Repr

/-- Events (25) and alerts (26). -/
structure Evt where
  /-- Records raised and not yet delivered, in the collector's order, at most 1,024 (R626). -/
  queue : List EvRec
  /-- A record was dropped since the last one delivered (R626). -/
  loss : Bool
  /-- The next SEQ (R626). -/
  seq : Nat
  /-- SEQs of HBM-routed records not written to the HBM log (R632). -/
  unwritten : List Nat
  /-- Records queued for the flash log, oldest first, at most 512 (24 R619). -/
  flashQ : List (List Word)
  /-- Alert queue of SEQs, oldest first, at most 16 (26 R645). -/
  alerts : List Nat
  /-- (code, source, interval number) of the last record of an event limited to one per interval (R624). -/
  marks : List (Nat × Nat × Nat)
  /-- The telemetry period whose snapshot is not yet written: PERIOD and FRAMES (R637). -/
  snap : Option (Nat × Nat)
  deriving DecidableEq, Repr

/-- A flash erase or page program (06 R694). -/
inductive FlashOp where
  /-- Erase a slot's first bytes, from UPD_BEGIN (06 R186). -/
  | eraseSlot (slot : Nat) (len : Nat)
  /-- Program bytes of a slot, from UPD_WRITE. -/
  | progSlot (slot : Nat) (off : Nat) (bytes : List Byte)
  /-- Program one page of log records at a slot of a log sector (24 R619). -/
  | logPage (sector : Nat) (slot : Nat) (recs : List (List Word))
  /-- Erase a log sector (24 R621). -/
  | logErase (sector : Nat)
  /-- An erase or a program whose command a chip reset has ended, and which the part still completes (06 R184). -/
  | lateErase (addr : Nat) (len : Nat)
  | lateProg (addr : Nat) (bytes : List Byte)
  deriving DecidableEq, Repr

/-- An open update session (06 R183). -/
structure Session where
  slot : Nat
  len : Nat
  written : Nat
  /-- Path code of the owner. -/
  owner : Nat
  deriving DecidableEq, Repr

/-- Fuses: kept by every reset (03 Table 3.3). -/
structure Fuses where
  rollback : Nat
  keyHash : BitVec 384
  /-- Programmed chip-number slots, lowest first, at most 4 (26 R647). -/
  chips : List (BitVec 14)
  deriving DecidableEq, Repr

/-- What discovery takes from the flash part's SFDP tables (06 R160, R694). -/
structure NvmPart where
  /-- Density in MiB. -/
  mib : Nat
  /-- The 1-4-4 fast read is there, and its dummy cycles. -/
  quad : Bool
  dummy : Nat
  /-- 4-byte addressing is there; the 4-byte read opcode, none where the part is switched to 4-byte addresses instead; the methods of
  entering 4-byte addressing it advertises. -/
  addr4 : Bool
  read4 : Option Nat
  enter4 : Nat
  /-- The Quad Enable method. -/
  quadEnable : Nat
  /-- Busy is polled in the Flag Status Register; false: in bit 0 of the Status Register, read with 0x05. -/
  flagPoll : Bool
  deriving DecidableEq, Repr

/-- Boot and mailbox (06). -/
structure BootSt where
  /-- 0 on the first slot of BOOT_SEL's order, 1 on the second (R174, R175). -/
  attempt : Nat
  /-- Dwords 0–15 of the running image's header (R163). -/
  hdr : List Word
  /-- Configuration requests are answered with Request Retry Status (R180). -/
  rrs : Bool
  /-- Mailbox arguments by 4 × path code + index (R184). -/
  args : SMap Word
  session : Option Session
  /-- The flash operation the part is busy with (R694). -/
  flash : Option FlashOp
  /-- A mailbox flash operation that waits for a log write to end (R190). -/
  flashNext : Option FlashOp
  /-- What the tables of the flash part say (R160); none before discovery. -/
  nvm : Option NvmPart
  /-- PHOTONICS waits: 0 for the TECs, 1 for the lanes' locks, 2 for the dark frames (Table 6.8, 6a–6d). -/
  photo : Nat
  deriving DecidableEq, Repr

/-- What a proof was delivered as (08 R222, R231): none, SETTLING or LIVE. -/
inductive PKind where
  | none | settling | live
  deriving DecidableEq, Repr

/-- A delivered proof: its kind, pixel words (08 R230) and the TEMP readings (R229). -/
structure ProofOut where
  kind : PKind
  /-- The count of the frame in which it was delivered: the one after the frame it was sampled in (R231). -/
  at_ : Nat
  words : SMap Word
  temps : List Int
  deriving DecidableEq, Repr

/-- One pixel's decimator output of the frame (08 R220): D, whether a sample read 0 or 4,095, whether one read 4,095, the samples. -/
structure PixOut where
  d : Nat
  rail : Bool
  sat : Bool
  raw : List Nat
  deriving DecidableEq, Repr

/-- A dark capture running (08 R224): its lane code or none for all; proofs averaged; sums of D and of stage 3. -/
structure Capture where
  lane : Option Nat
  done : Nat
  dsum : SMap Nat
  vsum : SMap Int
  /-- The frame in which it was ordered: only proofs of later frames count. -/
  since : Nat
  deriving DecidableEq, Repr

/-- Proof array and pipeline (08). -/
structure ProofSt where
  /-- Last samples of each pixel, newest first, at most 22 (R220). -/
  hist : SMap (List Nat)
  /-- Decimator outputs of the frame in progress. -/
  outs : SMap PixOut
  /-- The domain samples (R221). -/
  run : Bool
  /-- Frames begun: the model's own count, which no step correction moves (log 149); FRAME of the frame in progress and of the one
  before (Table 8.5). -/
  frame : Nat
  tag : Nat
  was : Nat
  /-- The counts of the frames in which a SETTLING proof is due (R222). -/
  settle : List Nat
  /-- A synchronising reset is due, with its cause code (25 R695). -/
  sync : Option Nat
  /-- The proof of frame f and that of frame f − 1 (R231). -/
  p0 : ProofOut
  p1 : ProofOut
  /-- Last non-defective stage-3 value (R226). -/
  good : SMap Int
  /-- (last D, counted proofs with it) of each pixel (R225). -/
  stuck : SMap (Nat × Nat)
  caps : List Capture
  /-- Lanes whose SWEEP packets have been sent while others wait (R232). -/
  swept : List Nat
  /-- Telemetry accumulators: (sum of max(v4, 0), OR of the flags), proofs, TEMP sums (R233). -/
  tsum : SMap (Nat × Nat)
  tcount : Nat
  ttemp : List Int
  /-- Pixel words of the last period (R233) and its TEMP averages. -/
  telem : SMap Word
  telemTemp : List Int
  /-- Pixel words of the last loop stream (R237). -/
  lastWords : SMap Word
  deriving DecidableEq, Repr

/-- One Stylus loop's state outside its coefficient block (09 R245–R253, 10 R264–R277). -/
structure LoopSt where
  /-- Last DAC code written (R248). -/
  dac : Nat
  /-- Last integral increment Δ (R272). -/
  dint : Int
  /-- Guard samples left (R251). -/
  guard : Nat
  /-- ROLL_DONE is due at the first sample after the guard (R251). -/
  rolling : Bool
  /-- Supervisor hold (R266) and whether R253 set it (released only by R268). -/
  hold : Bool
  wrapHold : Bool
  bad : Nat
  slip : Nat
  /-- Thermal model x, Q16.16 codes (R264). -/
  x : Int
  ma : Int
  xa : Int
  ia : Int
  /-- Re-take the anchor at the next checked sample (R265). -/
  anchor : Bool
  /-- RESEED at the next slot start (R266). -/
  reseed : Bool
  /-- Samples in a row inside MIS_THRESH under a hold (R266). -/
  good : Nat
  /-- RUN samples in a row inside LOCK_E (12 R318). -/
  lk : Nat
  /-- SLIP is latched until one sample inside SLIP_E (R269). -/
  slipped : Bool
  /-- SUP_CTL, SUP_KT and SUP_FSR as they stood at the last slot start (R287). -/
  sup : Nat × Nat × Nat
  deriving DecidableEq, Repr

/-- The state of a loop nothing has run (DESIGN CHOICE, log 8: the spec states no initial x or anchor; the anchor is re-taken). -/
def LoopSt.init : LoopSt := ⟨0, 0, 0, false, false, false, 0, 0, 0, 0, 0, 0, true, false, 0, 0, false, (0, 0, 0)⟩

/-- A relay auto-tune in progress (10 R278–R280). -/
structure Relay where
  l : Nat
  /-- Output c0 of the last sample before, and the last relay output. -/
  c0 : Int
  last : Int
  /-- A sample with s < −hyst was seen since the last rising crossing. -/
  below : Bool
  crossings : Nat
  samples : Nat
  /-- Sample number of the crossing that ended the two discarded periods. -/
  start : Nat
  /-- Sample number of the last crossing. -/
  lastCross : Nat
  mn : Option Int
  mx : Option Int
  deriving DecidableEq, Repr

/-- One engine's queue and tools. -/
structure Eng where
  /-- Write queue, oldest first, at most 128: (l, word index, value) (R254). -/
  wq : List (Nat × Nat × Word)
  relay : Option Relay
  /-- Dwords still to record after the trigger (R284). -/
  post : Nat
  /-- The CT instant at which the trace's trigger last fired (R284; 04 R122). -/
  fired : Option Nat
  deriving DecidableEq, Repr

/-- The Stylus engines (09, 10): loops by 256 × engine + l. -/
structure StySt where
  loops : SMap LoopSt
  engs : List Eng
  /-- Loops whose lane has been vacated for a scheduled roll, by 256 × engine + l (R275). -/
  vacated : List Nat
  /-- Words of an apply that the active Scribe has still to queue, oldest first: engine, l, word index, value (14 R382). -/
  todo : List (Nat × Nat × Nat × Word)
  /-- The words now written are the active Scribe's, which waits for room (14 R382). -/
  patient : Bool
  deriving DecidableEq, Repr

/-- What leaves the block: answers of reads, messages and packets sent. The model's own record of its outputs (log 4). -/
inductive Out where
  /-- The answer of a read on a path. -/
  | read (path : Path) (words : List Word)
  /-- A sideband message leaving in a direction (02 R64, R65). -/
  | sb (d : Dir) (m : SbMsg)
  /-- From now on a direction sends this control block wherever it sends no message: IDLE or TRAIN, as it stands before the scrambler
  (02 R61, R62). -/
  | sbFill (d : Dir) (block : Word64)
  /-- The READY ball's level changes (01 R33). -/
  | ready (high : Bool)
  /-- A sideband ABORT block (02 R65). -/
  | sbAbort (d : Dir)
  /-- A packet or message leaving on an optical port: its dwords (17, 04 R115). -/
  | port (p : Nat) (vc : Nat) (words : List Word)
  /-- A DATA block resent from the retry buffer: port, BSN, payload (12 R326). -/
  | block (p : Nat) (bsn : Nat) (words : List Word)
  /-- A link-control message on a port: its kind code and fields (12). -/
  | lctl (p : Nat) (kind : Nat) (fields : List Nat)
  /-- A codeword on a TX channel of a port, symbol 0 first (12 R319). -/
  | codeword (p n : Nat) (symbols : List (BitVec 10))
  /-- A probe: a shut port lights one lane for 2 ms at LAS_SAFE (11 R310). -/
  | probe (p n : Nat)
  /-- The decision the Etcher lets the Counterproof acknowledge (14 R374). -/
  | toCp (words : List Word)
  /-- A packet of the Proof output link (08 R228). -/
  | proof (words : List Word)
  /-- A memory write to the host: address, attributes (bit 0 Relaxed Ordering, bit 1 No Snoop) and bytes (22, 23). -/
  | hostWrite (addr : Nat) (attr : Nat) (bytes : List Byte)
  /-- A data write to the host with EP set: its bytes come from bad words (21 Table 21.1). -/
  | hostWriteEp (addr : Nat) (attr : Nat) (bytes : List Byte)
  /-- A memory read of the host: address, attributes, bytes, tag (22). -/
  | hostRead (addr : Nat) (attr : Nat) (len : Nat) (tag : Nat)
  /-- An MSI-X message of a vector (22 R572). -/
  | msix (vector : Nat)
  /-- A completion of a host request: tag, status, bytes (22). -/
  | cpl (tag : Nat) (status : Nat) (bytes : List Byte)
  /-- A completion with EP set: some of its bytes come from bad words (21 Table 21.1; 22 R570). -/
  | cplEp (tag : Nat) (bytes : List Byte)
  /-- A TEC's four gate outputs GHA, GLA, GHB, GLB (11). -/
  | gates (k : Nat) (gha gla ghb glb : Bool)
  /-- Bytes an SMBus transaction returns (26 R641). -/
  | smbus (bytes : List Byte)
  /-- An SMBus NACK (26 R641, R643). -/
  | smbNack
  /-- Bits a JTAG data register shifts out (26 R651). -/
  | tdo (len : Nat) (v : Nat)
  /-- A PTM request (04 R130). -/
  | ptm
  deriving DecidableEq, Repr

/-- One TEC drive (11). -/
structure TecSt where
  /-- Gates at the pins: GHA, GLA, GHB, GLB as bits 0–3 (Table 11.2's order). -/
  gates : Nat
  /-- Elapsed ticks at which each gate last went off. -/
  off : List (Option Nat)
  /-- Periods in a row above ILIM, and at large duty under 50 mA (R298). -/
  ocRun : Nat
  last : Int
  openRun : Nat
  /-- Sample of the first period of a frame, waiting for the second (R298). -/
  half : Option Int
  /-- Elapsed ticks at which bring-up began (Table 11.4). -/
  start : Nat
  /-- Samples in a row inside BAND. -/
  band : Nat
  deriving DecidableEq, Repr

/-- The laser banks and the optical interlocks (11). -/
structure LasSt where
  /-- Causes of safe power by bank, bit c for cause c (R303). -/
  safe : List Nat
  /-- Lines whose monitor was within 3 dB of target, or whose trim was below full, in some LIVE proof of the period (R306). -/
  bright : List Nat
  /-- Ports whose VOA is driven to maximum attenuation (R309). -/
  voaMax : List Nat
  /-- Lines raised to STANDBY for a PREPARE, until the next apply (14 R388). -/
  warm : List Nat
  /-- LIVE proofs in a row with the input pixel low, by port (R308). -/
  loss : List Nat
  deriving DecidableEq, Repr

/-- What a lane's sweep has found (12 R317): the readings of the pixels of its channel and of the two beside it at its first sample, the
largest departure of its own from the first that neither neighbour matches, and the code there; 0 for none yet. -/
structure Sweep where
  base : Int × Int × Int
  depth : Nat
  code : Nat
  deriving DecidableEq, Repr

/-- One lane's state outside LNK_LANE_STATE, by lane code (12). -/
structure LaneSt where
  /-- The last recorded lock point as an INTEG word: of the demux or modulator ring, and of the add ring (R316). -/
  code0 : Option Nat
  code1 : Option Nat
  /-- Failed sweeps in a row (R318). -/
  fails : Nat
  /-- The lane is in recovery (R336). -/
  recover : Bool
  /-- Its ring locks are confirmed (R318). -/
  conf : Bool
  /-- It becomes RETIRED, with this cause, once its traffic has moved (Table 12.5). -/
  retire : Nat
  /-- Uncorrectable codewords in a frame and corrected symbols in a period: (interval number, count) (R323). -/
  unc : Nat × Nat
  sym : Nat × Nat
  /-- Codewords in a row that could not be decoded (R322, R323). -/
  badRun : Nat
  /-- This end holds the lane's slot (R327). -/
  heldRx : Bool
  /-- The lane has been vacated and is unlit: its dark frame is due or under way (R336, R340; 08 R224). -/
  vac : Bool
  /-- What its sweep has found so far (R317). -/
  sweep : Option Sweep
  /-- Its selector is set to EXPRESS (07 R203). -/
  expr : Bool
  /-- Blocks sent since the lane began to send, and the block time, 85 ticks long, of the last (R319, R321). -/
  sent : Nat
  sentAt : Nat
  /-- The scrambler (R319). -/
  scr : BitVec 58
  deriving DecidableEq, Repr

/-- The state of a lane nothing has run. -/
def LaneSt.init : LaneSt := ⟨none, none, 0, false, false, 0, (0, 0), (0, 0), 0, false, false, none, false, 0, 0, 0⟩

/-- A swap in progress (R334). -/
structure Swap where
  tx : Bool
  slot : Nat
  old : Nat
  new : Nat
  /-- The sender sends the slot on both channels. -/
  dup : Bool
  /-- This end sent the SWAP_REQ; its cause (Table 12.3). -/
  own : Bool
  why : SwapWhy
  /-- Blocks received on the new channel with codeword lock, up to 4,095 (R334 step 4). -/
  got : Nat
  deriving DecidableEq, Repr

/-- A lane rotation in progress (R340): channel, spare channel, phase 1–5. -/
structure Rot where
  ch : Nat
  spare : Nat
  phase : Nat
  /-- A wear retirement: the lane does not return (Table 12.5). -/
  wear : Bool
  /-- Slots dropped for want of its spare during calibration, with their channels, oldest first (R342). -/
  owed : List (Nat × Nat)
  deriving DecidableEq, Repr

/-- A packet waiting at an egress port: buffer index 0–9 of Table 17.1 and its dwords (17 R441). -/
structure Pkt where
  buf : Nat
  words : List Word
  deriving DecidableEq, Repr

/-- One port's link block and its SDFP channel state (12, 17). -/
structure Lnk where
  /-- The next BSN to send, and the sent blocks not yet acknowledged, oldest first: BSN, lane channel, payload (R324). -/
  txBsn : Nat
  retry : List (Nat × Nat × List Word)
  /-- The next expected BSN, and the accepted blocks beyond it (R325). -/
  rxBsn : Nat
  rxHeld : List (Nat × List Word)
  /-- Blocks accepted since the last ACK (R325). -/
  sinceAck : Nat
  /-- Slots the peer holds (R327). -/
  held : List Nat
  /-- The peer's last TRAIN (R330). -/
  train : Option TrainMsg
  /-- Swaps in progress (R334). -/
  swaps : List Swap
  rot : Option Rot
  /-- The channel rotated last (R339). -/
  lastRot : Nat
  /-- Channels the peer has asked for by ROT_ASK (R339). -/
  asks : List Nat
  /-- RX channels for which this end has sent ROT_ASK, and the peer has begun no rotation yet (R328; 10 R274). -/
  rxAsks : List Nat
  /-- The peer's rotation: the RX channel vacated and the spare that carries its slot (R340). -/
  rxRot : Option (Nat × Nat)
  /-- A ROTATE_NOW waiting for the frame boundary (R344). -/
  now : Option Nat
  /-- Credential exchange: the peer's frame held, own verdict and reason, the peer's ACK held with verdict and reason (16). -/
  cred : Option (List Word)
  ownV : Nat × Nat
  peerV : Option (Nat × Nat)
  /-- Delivered flits not yet taken as packets, 16 dwords each, oldest first (17 R440). -/
  flits : List (List Word)
  /-- Packets that wait for credit, a port or a route (17 R442, R465). -/
  queue : List Pkt
  /-- Flits sent, and freed by the peer, in each of the ten buffers, modulo 2^16 (17 R443). -/
  sent : List Nat
  freed : List Nat
  /-- Flits freed here in each of the ten buffers, modulo 2^16. -/
  mine : List Nat
  /-- Since which tick the port is ACTIVE without a completed rotation or a ROT_STARVED, and the back-outs since (24 R617). -/
  starve : Nat × Nat
  deriving DecidableEq, Repr

/-- A link block at rest. -/
def Lnk.init : Lnk :=
  ⟨0, [], 0, [], 0, [], none, [], none, 0, [], [], none, none, none, (0, 0), none, [], [], List.replicate 10 0, List.replicate 10 0,
   List.replicate 10 0, (0, 0)⟩

/-- The links (12). -/
structure LnkSt where
  lanes : SMap LaneSt
  ports : SMap Lnk
  /-- Sums of the running telemetry period and of the last one (25 Table 25.5), by 3 × port + kind: 0 corrected codewords, 1
  uncorrectable codewords, 2 blocks resent. -/
  sums : SMap Nat
  period : SMap Nat
  deriving DecidableEq, Repr

/-- An open XID at a member (14 R373): its PREPARE, whether this member answered READY, whether its COMMIT is held. -/
structure Xid where
  msg : PlateMsg
  commit : Bool
  deriving DecidableEq, Repr

/-- An apply from its scheduling to its route swap (14 R381): the CT its offsets count from. -/
structure Apply where
  msg : PlateMsg
  base : Nat
  catchup : Bool
  /-- Table 14.3's step 2 has run. -/
  switched : Bool
  /-- Its step 9 has run: the disturbed lanes go back to lock, and touched ports may begin CREDENTIALS. -/
  relock : Bool
  deriving DecidableEq, Repr

/-- The Etcher's open XID (14 R374, R378). -/
structure EtchX where
  msg : PlateMsg
  cause : Nat
  /-- Participants that have not answered. -/
  waiting : List Nat
  /-- The decision: COMMIT or ABANDON; and whether it has been sent. -/
  decision : Option Bool
  sent : Bool
  /-- A COLD was answered before for this request (R388). -/
  cold : Bool
  /-- The host request it serves: chip, TAG and SLOT (R394). -/
  host : Option (Nat × Nat × Nat)
  /-- The host's result if the XID is abandoned (Table 14.4). -/
  why : Nat
  /-- What follows its ABANDON: 0 nothing, 1 a new PREPARE after COLD (R388), 2 the UNSYNC policy for the chip (R393). -/
  after : Nat × Nat
  /-- The member the fallback removes, whose answer is not awaited. -/
  skip : Option Nat
  deriving DecidableEq, Repr

/-- A request that waits on an UNSYNCED member (14 R393): target, cause, host request, the member, the elapsed ticks it began. -/
structure UnsyncWait where
  target : Nat
  cause : Nat
  host : Option (Nat × Nat × Nat)
  chip : Nat
  start : Nat
  deriving DecidableEq, Repr

/-- Replating (14). -/
structure Repl where
  open_ : Option Xid
  app : Option Apply
  /-- A plate to catch up to at the next frame boundary (R375, R377). -/
  catch_ : Option PlateMsg
  /-- The last XID this package issued as Etcher. -/
  lastXid : Nat
  etch : Option EtchX
  /-- The decision both senders repeat: its order frame, and apply_CT (R374). -/
  dec : Option (List Word × Nat)
  /-- Failed (chip, port) pairs under the plate in force (R390). -/
  pairs : List (Nat × Nat)
  /-- A COLLECT window is open. -/
  window : Bool
  /-- Pairs that PORT_UP cleared within the window. -/
  cleared : List (Nat × Nat)
  /-- A fault fell due while an apply was under way (R378). -/
  faultDue : Bool
  wait : Option UnsyncWait
  /-- Members declared unreachable and not heard since (R391). -/
  lost : List Nat
  /-- The last apply of the plate in force, for PLATE_STATE (R377). -/
  last : Option PlateMsg
  /-- PLATE_VIEW's copy of each path, by path code (13 R369). -/
  view : SMap Nat
  deriving DecidableEq, Repr

/-- A checkpoint bank (15 R405, R406): its commit record's NUMBER, EPOCH, SEQ, CT and LENGTH once written, and its state. -/
structure Bank where
  commit : Option (Nat × Nat × Nat × Nat × Nat)
  data : List Host.Cell
  deriving DecidableEq, Repr

/-- What an authority domain keeps (15). -/
structure Auth where
  /-- Accepted SEQs of each receiver's window, with its current epoch: the 44 receivers of Table 15.3, or 0 for the cluster (R400). -/
  win : SMap (Nat × List Nat)
  /-- The standby's journal: order frames, oldest first (R399, R407). -/
  journal : List (List Word)
  bank0 : Bank
  bank1 : Bank
  /-- A copy in progress: bank, NUMBER, SEQ, CT of the instant (R405). -/
  copy : Option (Nat × Nat × Nat × Nat)
  deriving DecidableEq, Repr

/-- An authority domain at reset. -/
def Auth.init : Auth := ⟨[], [], ⟨none, []⟩, ⟨none, []⟩, none⟩

/-- A heartbeat as last heard from a chip (15 R415): elapsed ticks of its arrival, HIGH, epoch, HOLDER, FENCED and SPLIT. -/
structure Heard where
  tick : Nat
  high : Nat
  epoch : Nat
  holder : Bool
  fenced : Bool
  split : Bool
  deriving DecidableEq, Repr

/-- The cluster lease and its transports (15, 17). -/
structure ClSt where
  /-- Heartbeats heard, by chip number; a DEPART removes its chip (R415). -/
  heard : SMap Heard
  /-- Elapsed ticks at which HOLDER or LEASE was last heard (R413, R416). -/
  holderTick : Nat
  /-- Elapsed ticks at which this package became READY (R413). -/
  readyTick : Nat
  /-- The last LEASE and PLATE_STATE orders sent (R431). -/
  lastLease : Option (List Word)
  lastState : Option (List Word)
  /-- CORD frames relayed: source, CRC, elapsed ticks, newest first, at most 8,192 (17 R468). -/
  relayed : List (Nat × Nat × Nat)
  deriving DecidableEq, Repr

/-- The two Scribe units (15, 26): core registers by 256 × unit + number, and halted units. -/
structure ScrSt where
  core : SMap Word
  halted : List Nat
  /-- The program both have loaded: ENTRY and the code's bytes (06 R169). -/
  prog : Option (Nat × List Byte)
  /-- Units that have started at ENTRY of that program (06 R169). -/
  started : List Nat
  /-- Units the arbiter has displaced, until a domain reset restarts them (15 R412). -/
  displaced : List Nat
  deriving DecidableEq, Repr

/-- Cluster agreement (16). -/
structure AgSt where
  /-- The Etcher's record of each chip's last SELF: its NONCE, and whether a DEPART has come since (R434). -/
  self_ : SMap (Nat × Bool)
  /-- Field differences of each READY member's SELF, as a mask by code of Table 16.2 (R436). -/
  diffs : SMap Nat
  /-- Quarantined members at the Etcher: reason and NONCE (R433). -/
  quar : SMap (Nat × Nat)
  /-- Chips under DUP_CHIP at the Etcher, with the NONCEs heard in this period (R434). -/
  dups : SMap (List Nat)
  /-- Chips this package holds under an AGREE_QUAR order, with the reason (R426, R433). -/
  known : SMap Nat
  /-- Of each chip, its ports reported in QUARANTINE (Table 16.5), and from bit 16 those reported with PEER or CABLING (R435). -/
  ports : SMap Nat
  /-- A STATE_PULL awaits its answer (R431). -/
  pull : Bool
  deriving DecidableEq, Repr

/-- A Hallmark search in progress (18 R483). -/
structure Search where
  /-- IDs of this round, in the order found, and the last fork and ID. -/
  ids : List Word64
  fork : Option Nat
  prev : Word64
  /-- The last complete round: its IDs, and whether it reported TOO_MANY. -/
  last : Option (List Word64 × Bool)
  restarts : Nat
  /-- The next RESET begins the search or a restarted round (R484). -/
  fresh : Bool
  deriving DecidableEq, Repr

/-- One Hallmark bus (18). -/
structure HmkPort where
  search : Option Search
  /-- Empty presence samples in a row (R481). -/
  empty : Nat
  /-- Abandoned: the next search comes with the retry timer (R485). -/
  retry : Bool
  deriving DecidableEq, Repr

/-- Who issued a request (17 R471): a ticket of a ring, a burst of a transfer ring, or nobody who waits (a status flag). -/
inductive Owner where
  | ticket (ring idx : Nat)
  | xfe (c burst : Nat)
  | none
  deriving DecidableEq, Repr

/-- A request for an entry of the request table (17 R454), before its TAG is known. -/
structure FabWant where
  dest : Nat
  /-- The requester's stream context (R458), and the header's STREAM. -/
  ctx : Nat
  stream : Nat
  opc : Nat
  poison : Bool
  addr : Nat
  len : Nat
  payload : List Byte
  owner : Owner
  /-- Where a response's payload goes: byte offset in the owner's transfer. -/
  at_ : Nat
  deriving DecidableEq, Repr

/-- An outstanding request of the request table (17 R454). -/
structure FabReq where
  gen : Nat
  /-- Order of injection, for R458. -/
  num : Nat
  want : FabWant
  deriving DecidableEq, Repr

/-- The fabric outside the ports (17). -/
structure FabSt where
  /-- Outstanding requests by entry. -/
  reqs : SMap FabReq
  /-- GEN of each entry (R454). -/
  gens : SMap Nat
  /-- Entries timed out and not yet reallocatable (R454). -/
  fenced : List Nat
  /-- Requests that wait at the source for an entry, and ORDER requests held by R458, in order of issue with their numbers. -/
  held : List (Nat × FabWant)
  /-- Number of the next request. -/
  num : Nat
  /-- Packets for the local target and for this package's own requests. -/
  inbox : List (List Word)
  /-- FAB_ROUTE_Q's copy of each path (R474). -/
  query : SMap Nat
  deriving DecidableEq, Repr

/-- A non-posted request of the device to the host (22 R580, 23 R601): who waits, bytes asked and received, whether a completion
carried EP, the burst offset its data goes to, and whether Bus Master Enable was cleared since. -/
structure HostRd where
  ctx : Nat
  /-- A burst's number, none for a descriptor fetch. -/
  burst : Option Nat
  len : Nat
  got : List Byte
  ep : Bool
  at_ : Nat
  lost : Bool
  deriving DecidableEq, Repr

/-- A BAR2 request that waits: its device address as translated on arrival (22 R569). -/
structure Bar2Wait where
  write : Bool
  tag : Nat
  addr : Nat
  len : Nat
  ep : Bool
  data : List (Option Byte)
  deriving DecidableEq, Repr

/-- A request of the host that waits behind an earlier posted write (22 R567). -/
inductive HostReq where
  /-- A BAR2 request, with its device address as translated on arrival; none where a write of PCIE_BAR2_BASE is held ahead (R569). -/
  | bar2 (r : Bar2Req) (addr : Option Nat)
  | read (off : Nat)
  | read2 (off : Nat)
  | write (off v : Nat)
  | write2 (off : Nat) (a b : Word)
  | msix (v : Nat) (entry : Option MsixEntry)
  deriving DecidableEq, Repr

/-- The PCI Express function outside PCIE_STATUS (22). -/
structure PcieSt where
  /-- PTM Enable (R587). -/
  ptmEn : Bool
  /-- Configuration space as written, by dword. -/
  cfg : SMap Word
  /-- Outstanding non-posted requests by tag. -/
  np : SMap HostRd
  /-- Fenced tags with the half they lie in (R581). -/
  fenced : List (Nat × Nat)
  /-- No half is active (R583). -/
  frozen : Bool
  /-- MSI-X table dwords by 4 × vector + word; an unlisted entry is masked (R574). -/
  msix : SMap Word
  /-- Pending vectors (R572). -/
  pend : List Nat
  /-- BAR2 requests that wait for their memory domain (R570). -/
  wait : List Bar2Wait
  /-- Requests held behind a waiting BAR2 write, in arrival order (R567). -/
  held : List HostReq
  deriving DecidableEq, Repr

/-- A fetched ticket (20 R524): index, 16 dwords, marked bad. -/
structure Tkt where
  idx : Nat
  dws : List Word
  bad : Bool
  deriving DecidableEq, Repr

/-- A piece of a source read from another chip or the host: offset, bytes, poisoned. -/
structure Piece where
  at_ : Nat
  bytes : List Byte
  bad : Bool
  deriving DecidableEq, Repr

/-- A started ticket (20 R526, R537). -/
structure RunT where
  t : Tkt
  /-- CT and elapsed ticks at its start. -/
  start : Nat
  tick : Nat
  wake : Nat
  /-- 0 waits for its flag, its instant or earlier tickets, 1 reads remote source data, 2 writes, 3 writes its flag, 4 done. -/
  phase : Nat
  /-- Wait cycles spent before its work began: for its flag or for earlier tickets. -/
  before : Nat
  /-- Responses outstanding. -/
  wait : Nat
  got : List Piece
  /-- The bytes to write and which of them come from bad words. -/
  data : List (Byte × Bool)
  /-- STATUS so far (Table 20.6). -/
  status : Nat
  /-- Elapsed ticks at which the last thing it waited for came. -/
  last : Nat
  /-- It ran at once with another ticket of its cluster, and one of the two writes bytes that the other reads or writes: the outcome is
  not defined (19 R517). -/
  clash : Bool
  /-- Stall cycles it waited at dispatch for a note entry or for room (05 R155, R156). -/
  hold : Nat
  /-- Cycles issued and stalled since its work began, in 64ths, up to elapsed ticks `mark` (05 R146). -/
  issued : Nat
  stalled : Nat
  mark : Nat
  /-- Ticks its writes waited for another cluster's (19 R501). -/
  cont : Nat
  deriving DecidableEq, Repr

/-- A ticket ring outside its registers (20). -/
structure Ring where
  /-- Fetched and not started, at most 64 (R524). -/
  queue : List Tkt
  run : List RunT
  /-- Elapsed ticks at which the next ticket began to wait for its Graver pair to wake (05 R139). -/
  wakeFrom : Option Nat
  /-- Wake cycles of the next ticket from waits that are over (05 R139). -/
  wake : Nat
  /-- CT and elapsed ticks at which the next ticket began to wait for a note entry or for room (05 R155, R156). -/
  heldFrom : Option (Nat × Nat)
  /-- Ring indices of queued tickets whose note has lapsed (05 R153). -/
  bare : List Nat
  /-- Elapsed ticks before which no ticket starts: 2 after what the next one waited for, 16 after a barrier (R526; 19 R509). -/
  after : Nat
  deriving DecidableEq, Repr

/-- A ring nothing has fed. -/
def Ring.init : Ring := ⟨[], [], none, 0, none, [], 0⟩

/-- Ticket rings (20) and the late barriers of the frame on each die: number, largest LATENESS (19 R511). -/
structure TktSt where
  rings : SMap Ring
  late : List (Nat × Nat)
  deriving DecidableEq, Repr

/-- A descriptor fetched (23 R597). -/
structure Desc where
  idx : Nat
  dws : List Word
  bad : Bool
  deriving DecidableEq, Repr

/-- A burst in progress (23 R601, R602): number, source offset and bytes, source pieces outstanding and received, whether it has
landed, acknowledgements outstanding, the DONE bytes it brings. -/
structure Burst where
  num : Nat
  off : Nat
  len : Nat
  wait : Nat
  got : List Piece
  landed : Bool
  acks : Nat
  gain : Nat
  deriving DecidableEq, Repr

/-- The running descriptor of a transfer ring (23 R598–R605). -/
structure XRun where
  d : Desc
  /-- Next source byte to issue. -/
  next : Nat
  /-- Source bytes landed so far, with their poison. -/
  src : List (Byte × Bool)
  /-- Groups written. -/
  groups : Nat
  bursts : List Burst
  done : Nat
  /-- First failure (Table 23.5), 0 for none; and whether poison was met. -/
  fail : Nat
  poison : Bool
  abort : Bool
  deriving DecidableEq, Repr

/-- A stream context outside its registers (23). -/
structure XCtx where
  /-- Fetched and not started, at most 16 (R597). -/
  queue : List Desc
  run : Option XRun
  /-- Rate credit in 1/327,680 byte, and the elapsed ticks it is of (R607). -/
  credit : Nat
  tick : Nat
  /-- Fetching has met a descriptor that is not owned (R597). -/
  stuck : Bool
  /-- A descriptor is being read from host memory. -/
  reading : Bool
  /-- The held status: its descriptor and DONE (R577). -/
  held : Option (Desc × Nat)
  deriving DecidableEq, Repr

/-- A context nothing has opened. -/
def XCtx.init : XCtx := ⟨[], none, 0, 0, false, false, none⟩

/-- The transfer engine (23): contexts and the number of the next burst. -/
structure XfeSt where
  ctxs : SMap XCtx
  num : Nat
  deriving DecidableEq, Repr

/-- A scrubber's schedule (21 R555–R558): whether a pass has begun, elapsed ticks at its start, ticks spent not ON, elapsed ticks
since the domain left ON, hold-off, elapsed ticks of the last burst. -/
structure Scrub where
  begun : Bool
  start : Nat
  off : Nat
  offSince : Option Nat
  hold : Bool
  burst : Option Nat
  deriving DecidableEq, Repr

/-- Memory outside its registers (21): corrections of each stack since chip reset, of each pseudo-channel in the period, and the
nine scrubbers, Vellum last. -/
structure MemSt where
  ces : List Nat
  storm : SMap Nat
  scrub : List Scrub
  deriving DecidableEq, Repr

/-- SMBus, fuses in programming, JTAG (26). -/
structure MgmtSt where
  /-- The pointer: SPACE and address (R641). -/
  space : Nat
  addr : Nat
  /-- The fuse operation in progress: OP and value. -/
  fuse : Option (Nat × Nat)
  /-- The JTAG instruction in force (R651), and the result the next Capture-DR takes: STATUS and DATA (R653). -/
  ir : Nat
  result : Nat × Word
  /-- The tick from which the SMBus logic answers: 2 ms after PWROK rose (R640). -/
  live : Nat
  /-- The tick from which SMB_ALERT_N may assert again after an Alert Response Address transaction (R646). -/
  ara : Nat
  deriving DecidableEq, Repr

/-- The machine. -/
structure State where
  /-- Commands waiting, first in, first out. -/
  pending : List Instr
  /-- Cluster time (04 R104). -/
  ct : Word64
  /-- Elapsed ticks, which no step correction moves (04 R123). -/
  ticks : Nat
  /-- Free values drawn so far: the model's own counter (log 3). -/
  free : Nat
  /-- Every register of BAR0, by offset; unlisted: its reset value (27). -/
  regs : SMap Word
  /-- HBM bytes by device address (21). -/
  hbm : List Host.Cell
  /-- Syndrome of each 8-byte HBM word by address / 8; unlisted 0 (21 R549). -/
  hbmEcc : SMap Byte
  /-- Vellum bytes by CLUSTER << 21 + ADDR (19, 26 R641). -/
  vel : List Host.Cell
  /-- Syndrome of each 8-byte Vellum word (21 R549). -/
  velEcc : SMap Byte
  /-- Flash bytes; unlisted: erased, 0xFF (06 R162). -/
  flash : List Host.Cell
  /-- Fuses (06, 26). -/
  fuses : Fuses
  /-- Latches of 64-bit pairs (00 R19–R22). -/
  acc : Access
  /-- Balls and straps (02). -/
  pins : Pins
  /-- Sideband east (02 R61). -/
  sbE : SbPort
  /-- Sideband west (02 R61). -/
  sbW : SbPort
  /-- Root reference (03). -/
  clk : ClkSt
  /-- Resets in progress (03). -/
  rst : RstSt
  /-- Time discipline (04). -/
  time : TimeSt
  /-- Power domains and the governor (05). -/
  pwr : Pwr
  /-- Boot and mailbox (06). -/
  boot : BootSt
  /-- Events and alerts (25, 26). -/
  evt : Evt
  /-- Proof array (08). -/
  proof : ProofSt
  /-- Stylus engines (09, 10). -/
  sty : StySt
  /-- What has left the block, oldest first: the model's own record (log 4). -/
  out : List Out
  /-- The 64 plate records, 512 dwords each, by 512 × slot + dword (13 R365). -/
  plates : SMap Word
  /-- The PCI Express function (22). -/
  pcie : PcieSt
  /-- The TEC drives (11). -/
  tec : List TecSt
  /-- Laser banks and optical interlocks (11). -/
  las : LasSt
  /-- Lanes and links (12). -/
  lnk : LnkSt
  /-- Replating (14). -/
  repl : Repl
  /-- The package authority domain (15). -/
  pkg : Auth
  /-- The cluster authority domain (15). -/
  clu : Auth
  /-- The cluster lease (15). -/
  cl : ClSt
  /-- The Scribes (15, 26). -/
  scr : ScrSt
  /-- Cluster agreement (16). -/
  agree : AgSt
  /-- The Hallmark buses (18). -/
  hmk : List HmkPort
  /-- The fabric's request table and route queries (17). -/
  fab : FabSt
  /-- The RINGS table of the running image: two dwords a ring loop (06 R168). -/
  rings : SMap Word
  /-- The coordinate maps of the 64 plates, by 16,384 × slot + chip (13 R347). -/
  maps : SMap (BitVec 16)
  /-- Ticket rings (20). -/
  tkt : TktSt
  /-- Stream contexts (23). -/
  xfe : XfeSt
  /-- Memory errors and scrub (21). -/
  mem : MemSt
  /-- SMBus, fuses, JTAG (26). -/
  mgmt : MgmtSt
  deriving DecidableEq, Repr

/-- A state right after a power-on reset: PWROK has risen with every strap open (02 R45), GLB_STATE reads POWER_ON. -/
def State.reset : State :=
  { pending := [],
    ct := 0,
    ticks := 0,
    free := 0,
    regs := [],
    hbm := [],
    hbmEcc := [],
    vel := [],
    velEcc := [],
    flash := [],
    fuses := ⟨0, 0, []⟩,
    acc := ⟨[], []⟩,
    pins := ⟨[], true, true, false, 0, 0, 3300, 0, 0, 0, false, false⟩,
    sbE := ⟨0, [], 0, false, 0, false, [], none, []⟩,
    sbW := ⟨0, [], 0, false, 0, false, [], none, []⟩,
    clk := ⟨false, 0, none, 0⟩,
    rst := ⟨false, false, []⟩,
    time := ⟨0, 0, [], [], [], 0, [], false, 0, none, 0, 0, [⟨0, false⟩, ⟨0, false⟩, ⟨0, false⟩], 0, 0, 0, none⟩,
    pwr := ⟨[], [], [], [], 0, ⟨[], none, 32, [], 0⟩, ⟨[], none, 32, [], 0⟩, [], [], []⟩,
    boot := ⟨0, [], true, [], none, none, none, none, 0⟩,
    evt := ⟨[], false, 0, [], [], [], [], none⟩,
    proof := ⟨[], [], false, 0, 0, 0, [], none, ⟨.none, 0, [], []⟩, ⟨.none, 0, [], []⟩, [], [], [], [], [], 0, [], [], [], []⟩,
    sty := ⟨[], List.replicate 16 ⟨[], none, 0, none⟩, [], [], false⟩,
    out := [],
    plates := [],
    pcie := ⟨false, [], [], [], false, [], [], [], []⟩,
    tec := List.replicate 4 ⟨0, [none, none, none, none], 0, 0, 0, none, 0, 0⟩,
    las := ⟨List.replicate 8 0, [], [], [], List.replicate 16 0⟩,
    lnk := ⟨[], [], [], []⟩,
    repl := ⟨none, none, none, 0, none, none, [], false, [], false, none, [], none, []⟩,
    pkg := Auth.init,
    clu := Auth.init,
    cl := ⟨[], 0, 0, none, none, []⟩,
    scr := ⟨[], [], none, [], []⟩,
    agree := ⟨[], [], [], [], [], [], false⟩,
    hmk := List.replicate 16 ⟨none, 0, false⟩,
    fab := ⟨[], [], [], [], 0, [], []⟩,
    rings := [],
    maps := [],
    tkt := ⟨[], [(0, 0), (0, 0)]⟩,
    xfe := ⟨[], 0⟩,
    mem := ⟨List.replicate 8 0, [], List.replicate 9 ⟨false, 0, 0, none, false, none⟩⟩,
    mgmt := ⟨0, 0, none, 1, (0, 0), 3200000, 0⟩ }

end Sys2Proof.Machine
end

