-- ==== Sys2Proof/Machine/Upd.lean ====
section
/-! DEFINITION. One update function for each field of the state. -/

namespace Sys2Proof.Machine

open Sys2Proof

/-- Change pending. -/
def State.uPending (s : State) (g : List Instr → List Instr) : State :=
  { s with pending := g s.pending }

/-- Change ct. -/
def State.uCt (s : State) (g : Word64 → Word64) : State :=
  { s with ct := g s.ct }

/-- Change ticks. -/
def State.uTicks (s : State) (g : Nat → Nat) : State :=
  { s with ticks := g s.ticks }

/-- Change free. -/
def State.uFree (s : State) (g : Nat → Nat) : State :=
  { s with free := g s.free }

/-- Change regs. -/
def State.uRegs (s : State) (g : SMap Word → SMap Word) : State :=
  { s with regs := g s.regs }

/-- Change hbm. -/
def State.uHbm (s : State) (g : List Host.Cell → List Host.Cell) : State :=
  { s with hbm := g s.hbm }

/-- Change hbmEcc. -/
def State.uHbmEcc (s : State) (g : SMap Byte → SMap Byte) : State :=
  { s with hbmEcc := g s.hbmEcc }

/-- Change vel. -/
def State.uVel (s : State) (g : List Host.Cell → List Host.Cell) : State :=
  { s with vel := g s.vel }

/-- Change velEcc. -/
def State.uVelEcc (s : State) (g : SMap Byte → SMap Byte) : State :=
  { s with velEcc := g s.velEcc }

/-- Change flash. -/
def State.uFlash (s : State) (g : List Host.Cell → List Host.Cell) : State :=
  { s with flash := g s.flash }

/-- Change fuses. -/
def State.uFuses (s : State) (g : Fuses → Fuses) : State :=
  { s with fuses := g s.fuses }

/-- Change acc. -/
def State.uAcc (s : State) (g : Access → Access) : State :=
  { s with acc := g s.acc }

/-- Change pins. -/
def State.uPins (s : State) (g : Pins → Pins) : State :=
  { s with pins := g s.pins }

/-- Change sbE. -/
def State.uSbE (s : State) (g : SbPort → SbPort) : State :=
  { s with sbE := g s.sbE }

/-- Change sbW. -/
def State.uSbW (s : State) (g : SbPort → SbPort) : State :=
  { s with sbW := g s.sbW }

/-- Change clk. -/
def State.uClk (s : State) (g : ClkSt → ClkSt) : State :=
  { s with clk := g s.clk }

/-- Change rst. -/
def State.uRst (s : State) (g : RstSt → RstSt) : State :=
  { s with rst := g s.rst }

/-- Change time. -/
def State.uTime (s : State) (g : TimeSt → TimeSt) : State :=
  { s with time := g s.time }

/-- Change pwr. -/
def State.uPwr (s : State) (g : Pwr → Pwr) : State :=
  { s with pwr := g s.pwr }

/-- Change boot. -/
def State.uBoot (s : State) (g : BootSt → BootSt) : State :=
  { s with boot := g s.boot }

/-- Change evt. -/
def State.uEvt (s : State) (g : Evt → Evt) : State :=
  { s with evt := g s.evt }

/-- Change proof. -/
def State.uProof (s : State) (g : ProofSt → ProofSt) : State :=
  { s with proof := g s.proof }

/-- Change sty. -/
def State.uSty (s : State) (g : StySt → StySt) : State :=
  { s with sty := g s.sty }

/-- Change out. -/
def State.uOut (s : State) (g : List Out → List Out) : State :=
  { s with out := g s.out }

/-- Change plates. -/
def State.uPlates (s : State) (g : SMap Word → SMap Word) : State :=
  { s with plates := g s.plates }

/-- Change pcie. -/
def State.uPcie (s : State) (g : PcieSt → PcieSt) : State :=
  { s with pcie := g s.pcie }

/-- Change tec. -/
def State.uTec (s : State) (g : List TecSt → List TecSt) : State :=
  { s with tec := g s.tec }

/-- Change las. -/
def State.uLas (s : State) (g : LasSt → LasSt) : State :=
  { s with las := g s.las }

/-- Change lnk. -/
def State.uLnk (s : State) (g : LnkSt → LnkSt) : State :=
  { s with lnk := g s.lnk }

/-- Change repl. -/
def State.uRepl (s : State) (g : Repl → Repl) : State :=
  { s with repl := g s.repl }

/-- Change pkg. -/
def State.uPkg (s : State) (g : Auth → Auth) : State :=
  { s with pkg := g s.pkg }

/-- Change clu. -/
def State.uClu (s : State) (g : Auth → Auth) : State :=
  { s with clu := g s.clu }

/-- Change cl. -/
def State.uCl (s : State) (g : ClSt → ClSt) : State :=
  { s with cl := g s.cl }

/-- Change scr. -/
def State.uScr (s : State) (g : ScrSt → ScrSt) : State :=
  { s with scr := g s.scr }

/-- Change agree. -/
def State.uAgree (s : State) (g : AgSt → AgSt) : State :=
  { s with agree := g s.agree }

/-- Change hmk. -/
def State.uHmk (s : State) (g : List HmkPort → List HmkPort) : State :=
  { s with hmk := g s.hmk }

/-- Change fab. -/
def State.uFab (s : State) (g : FabSt → FabSt) : State :=
  { s with fab := g s.fab }

/-- Change rings. -/
def State.uRings (s : State) (g : SMap Word → SMap Word) : State :=
  { s with rings := g s.rings }

/-- Change maps. -/
def State.uMaps (s : State) (g : SMap (BitVec 16) → SMap (BitVec 16)) : State :=
  { s with maps := g s.maps }

/-- Change tkt. -/
def State.uTkt (s : State) (g : TktSt → TktSt) : State :=
  { s with tkt := g s.tkt }

/-- Change xfe. -/
def State.uXfe (s : State) (g : XfeSt → XfeSt) : State :=
  { s with xfe := g s.xfe }

/-- Change mem. -/
def State.uMem (s : State) (g : MemSt → MemSt) : State :=
  { s with mem := g s.mem }

/-- Change mgmt. -/
def State.uMgmt (s : State) (g : MgmtSt → MgmtSt) : State :=
  { s with mgmt := g s.mgmt }

end Sys2Proof.Machine
end

