-- ==== Sys2Proof/Machine/Ops.lean ====
section
/-! DEFINITION. The shared operations: reading and writing registers and their fields, raising events, drawing free values,
memories, the sideband's messages and power-domain states. Every meaning is written over these. -/

namespace Sys2Proof.Machine

/-! Registers -/

/-- The loop ID of fast slot i of engine e (09 R240). -/
def fmapLoop (e i : Nat) : Nat := if i = 0 then 0x360 + e else if i = 1 then 0x370 + e else 54 * e + (i - 2)

/-- The loop ID of slow slot j of engine e, 0xFFF for a spare slot (09 R241). -/
def smapLoop (e j : Nat) : Nat :=
  if j < 18 then 0x7F0 + 18 * e + j
  else if j < 81 then 0x400 + 63 * e + (j - 18)
  else if j = 81 ∧ e % 4 = 0 then 0x910 + e / 4
  else 0xFFF

/-- What a register reads as until it is written: its reset value (27), Table 25.3's defaults in EVT_POLICY, the fixed
slot maps of R240 and R241. -/
def regReset (off : Nat) : Word :=
  BitVec.ofNat 32
    (if 0x2802000 ≤ off ∧ off < 0x2803800 then (if off % 4 = 0 then evPolicyReset ((off - 0x2802000) / 4) else 0)
    else match regRow off with
      | none => 0
      | some r =>
        if r.base = 0x100100 then fmapLoop ((off - 0x100000) / 0x10000) ((off % 0x10000 - 0x100) / 4)
        else if r.base = 0x100200 then smapLoop ((off - 0x100000) / 0x10000) ((off % 0x10000 - 0x200) / 4)
        else r.reset)

/-- The word a register holds, as a number. -/
def State.rd (s : State) (off : Nat) : Nat := (smGet regReset s.regs off).toNat

/-- The hardware's own write of a register. -/
def State.wr (s : State) (off v : Nat) : State := s.uRegs fun m => smSet regReset m off (BitVec.ofNat 32 v)

/-- A register's field (00 R6). -/
def State.fd (s : State) (off hi lo : Nat) : Nat := fieldOf (s.rd off) hi lo

/-- The hardware's own write of a register's field. -/
def State.fw (s : State) (off hi lo v : Nat) : State := s.wr off (fieldSet (s.rd off) hi lo v)

/-- A value held to the ranges of a register's fields (00 R15). -/
def holdRanges : List (Nat × Nat × Nat × Nat) → Nat → Nat
  | [], v => v
  | (hi, lo, mn, mx) :: rs, v => holdRanges rs (fieldSet v hi lo (max mn (min mx (fieldOf v hi lo))))

/-- What a register keeps of a written value: the bits its fields name (00 R9; in EVT_POLICY those of listed codes, 25 R628), inside
their ranges (R15): the register holds, and reads back, the nearer limit (log 135). -/
def keptBits (off v : Nat) : Nat :=
  if 0x2802000 ≤ off ∧ off < 0x2803800 ∧ off % 4 = 0 then Nat.land v (evPolicyMask ((off - 0x2802000) / 4))
  else match regRow off with
    | none => v
    | some r => holdRanges r.ranges (Nat.land v r.mask)

/-- Software's write of a register's stored fields. -/
def State.put (s : State) (off v : Nat) : State := s.wr off (keptBits off v)

/-- A field counts up by n and saturates. -/
def State.sat (s : State) (off hi lo n : Nat) : State :=
  s.fw off hi lo (satN (2 ^ (hi + 1 - lo) - 1) (s.fd off hi lo + n))

/-- A bit of a register. -/
def State.bit (s : State) (off n : Nat) : Bool := bitOf (s.rd off) n

/-- A 64-bit pair, LO at off (00 R19). -/
def State.rd64 (s : State) (off : Nat) : Nat := s.rd off + 2 ^ 32 * s.rd (off + 4)

/-- The hardware's own write of a 64-bit pair. -/
def State.wr64 (s : State) (off v : Nat) : State := (s.wr off (v % 2 ^ 32)).wr (off + 4) (v / 2 ^ 32)

/-- CT as a number. -/
def State.now (s : State) : Nat := s.ct.toNat

/-- GLB_STATE.STATE (01 R31). -/
def State.top (s : State) : Nat := s.fd R.GLB_STATE 3 0

/-- The package's chip number (01 R30). -/
def State.chip (s : State) : Nat := s.fd R.GLB_CHIP 13 0

/-- BOOT_LOCK is set (00 R18). -/
def State.locked (s : State) : Bool := s.bit R.BOOT_LOCK 0

/-! Events -/

/-- Place a record among those waiting: after every record raised before it, and among records of its tick by CODE, then
SOURCE (25 R626). -/
def evInsert : List EvRec → EvRec → List EvRec
  | [], r => [r]
  | q :: qs, r =>
    if q.tick = r.tick ∧ (r.code < q.code ∨ (r.code = q.code ∧ r.src < q.src)) then r :: q :: qs
    else q :: evInsert qs r

/-- Raise an event (25 R622–R626): a queued record of the same CODE and SOURCE is merged; a record that finds the queue of
1,024 full is dropped and counted. -/
def State.ev (s : State) (code src : Nat) (args : List Nat) : State :=
  if s.evt.queue.any (fun r => r.code == code && r.src == src) then
    s.uEvt fun e => { e with queue := e.queue.map (fun r =>
        if r.code = code ∧ r.src = src then { r with count := satN 255 (r.count + 1) } else r) }
  else if 1024 ≤ s.evt.queue.length then
    (s.uEvt fun e => { e with loss := true }).sat R.EVT_DROP_CNT 31 0 1
  else s.uEvt fun e => { e with queue := evInsert e.queue ⟨s.ct, s.ticks, code, 1, src, args⟩ }

/-- Raise an event limited to one record in each interval of CT for each key, such as a port (25 R624). -/
def State.evKey (s : State) (interval key code src : Nat) (args : List Nat) : State :=
  let n := s.now / interval
  if s.evt.marks.contains (code, key, n) then s
  else (s.uEvt fun e => { e with marks :=
    (code, key, n) :: e.marks.filter (fun m => !(m.1 == code && m.2.1 == key)) }).ev code src args

/-- Raise an event its rule limits to one record in each interval of CT (25 R624). -/
def State.evOnce (s : State) (interval code src : Nat) (args : List Nat) : State := s.evKey interval src code src args

/-- A write discarded because of its path or place raises its _DENIED event, or LOCKED_WRITE: offset, value, path code (25 R623). -/
def State.deny (s : State) (code off value : Nat) (p : Path) : State := s.ev code 0 [off, value, p.code]

/-- PCI Express, and SDFP, which follows the PCI Express path's rules (17 R448, 26 Table 26.3). -/
def hostLike (p : Path) : Bool := p == .pcie || p == .sdfp

/-! Free values -/

/-- Draw a 32-bit value the spec leaves open. -/
def State.draw (s : State) : Word × State := (Config.freeWord s.free, s.uFree (· + 1))

/-! Outputs -/

/-- Something leaves the block. -/
def State.emit (s : State) (o : Out) : State := s.uOut (· ++ [o])

/-! Power domains -/

/-- PWR_DOM_STATE of a domain: 0 OFF, 1 WAKING, 2 ON, 3 SLEEPING (05 R135). -/
def State.dom (s : State) (d : Nat) : Nat :=
  s.fd (0x30100 + 4 * (d / 16)) (2 * (d % 16) + 1) (2 * (d % 16))

/-- Set a domain's state. -/
def State.setDom (s : State) (d v : Nat) : State :=
  s.fw (0x30100 + 4 * (d / 16)) (2 * (d % 16) + 1) (2 * (d % 16)) v

/-- A domain is ON and not held in domain reset. -/
def State.domUp (s : State) (d : Nat) : Bool := s.dom d == 2 && !s.rst.doms.contains d

/-- The power domain of a BAR0 offset's block, none for the always-on domain (27 Table 27.2, R662). -/
def blockDom (off : Nat) : Option Nat :=
  if 0x8000 ≤ off ∧ off < 0x8100 then some 0xA2
  else if 0x60000 ≤ off ∧ off < 0x70000 then some 0xA6
  else if 0x80000 ≤ off ∧ off < 0x100000 then some 0xA5
  else if 0x100000 ≤ off ∧ off < 0x200000 then some (0x98 + (off - 0x100000) / 0x20000)
  else if 0x600000 ≤ off ∧ off < 0x700000 then some 0xA4
  else if 0x700000 ≤ off ∧ off < 0x800000 then some 0xA7
  else if 0x800000 ≤ off ∧ off < 0xC00000 then some 0xA3
  else none

/-- The block at an offset answers: it is always-on or its domain is ON (27 R661). -/
def State.blockOn (s : State) (off : Nat) : Bool :=
  match blockDom off with
  | none => true
  | some d => s.dom d == 2

/-! Memories -/

/-- What an unlisted byte of HBM or Vellum reads as (log 5). -/
def ramD (_ : Nat) : Byte := 0

/-- What an unlisted byte of the flash reads as: erased (25 R635). -/
def flashD (_ : Nat) : Byte := 0xFF

/-- n bytes of a byte table from address a. -/
def bytesAt (d : Nat → Byte) (m : List Host.Cell) (a n : Nat) : List Byte :=
  (List.range n).map (fun i => smGet d m (a + i))

/-- Store bytes from address a. -/
def putBytes (d : Nat → Byte) : List Host.Cell → Nat → List Byte → List Host.Cell
  | m, _, [] => m
  | m, a, b :: bs => putBytes d (smSet d m a b) (a + 1) bs

/-- The canonical form of a byte table. -/
def Memory.wf (d : Nat → Byte) (m : List Host.Cell) : Bool := smWf d m

/-- A little-endian dword of the flash. -/
def State.flashDw (s : State) (a : Nat) : Nat := bytesToNat (bytesAt flashD s.flash a 4)

/-! Sideband messages -/

/-- One bit of the CRC-32 of IEEE 802.3, reflected (log 6). -/
def crcBits : Nat → Nat → Nat
  | 0, c => c
  | n + 1, c => crcBits n (if c % 2 = 1 then xorN (c / 2) 0xEDB88320 else c / 2)

/-- CRC-32 register after a list of bytes. -/
def crcBytes : Nat → List Byte → Nat
  | c, [] => c
  | c, b :: bs => crcBytes (crcBits 8 (xorN c b.toNat)) bs

/-- CRC-32 of IEEE 802.3 over a list of bytes (02 R63, log 6). -/
def crc32 (bs : List Byte) : Nat := xorN (crcBytes 0xFFFFFFFF bs) 0xFFFFFFFF

/-- Bytes of a list of dwords (00 R7). -/
def dwBytes (ws : List Word) : List Byte := ws.flatMap (fun w => natToBytes 4 w.toNat)

/-- DIR as Table 2.7 codes it. -/
def dirCode : Dir → Nat
  | .east => 0
  | .west => 1

/-- The other direction. -/
def dirFlip : Dir → Dir
  | .east => .west
  | .west => .east

/-- The CRC of a message: over SOF bytes 1–7 and every body byte before it (02 R63). -/
def sbCrc (m : SbMsg) (body : List Word) : Nat :=
  crc32 (natToBytes 7 (m.mtype.toNat + 256 * m.len.toNat + 65536 * m.origin.toNat + 2 ^ 32 * dirCode m.dir) ++ dwBytes body)

/-- Build a message: body, zeros, CRC, in whole 8-byte blocks (02 R63). -/
def sbBuild (mtype origin : Nat) (d : Dir) (body : List Word) : SbMsg :=
  let pad := if body.length % 2 = 0 then [0] else []
  let ws := body ++ pad
  let m : SbMsg := ⟨BitVec.ofNat 8 mtype, BitVec.ofNat 8 ((ws.length + 1) / 2), BitVec.ofNat 14 origin, d, []⟩
  { m with words := ws ++ [BitVec.ofNat 32 (sbCrc m ws)] }

/-- The body of a received message: all dwords but the CRC. -/
def sbBody (m : SbMsg) : List Word := m.words.dropLast

/-- The message is whole: LEN blocks came and the CRC matches (02 R63). -/
def sbGood (m : SbMsg) : Bool :=
  m.words.length == 2 * m.len.toNat && m.words.getLast? == some (BitVec.ofNat 32 (sbCrc m (sbBody m)))

/-- The sideband port of a direction. -/
def State.sb (s : State) : Dir → SbPort
  | .east => s.sbE
  | .west => s.sbW

/-- Set the sideband port of a direction. -/
def State.setSb (s : State) (d : Dir) (p : SbPort) : State :=
  match d with
  | .east => s.uSbE fun _ => p
  | .west => s.uSbW fun _ => p

/-- A HEARTBEAT (02 Table 2.8). -/
def isBeat (m : SbMsg) : Bool := m.mtype == 0x02

/-- Remove the oldest message that is not a HEARTBEAT (02 R65). -/
def dropOther : List SbMsg → List SbMsg
  | [] => []
  | m :: ms => if isBeat m then m :: dropOther ms else ms

/-- Make room in a full queue: its oldest message that is not a HEARTBEAT goes (02 R65), or the oldest HEARTBEAT of sixteen (log 137). -/
def dropOldest (q : List SbMsg) : List SbMsg := if q.all isBeat then q.drop 1 else dropOther q

/-- A message takes its place among those that wait: a HEARTBEAT leaves at the first gap after its instant, so it stands before all
but older HEARTBEATs (02 R65). -/
def sbInsert (q : List SbMsg) (m : SbMsg) : List SbMsg :=
  if isBeat m then q.takeWhile isBeat ++ m :: q.dropWhile isBeat else q ++ [m]

/-- Queue an own message in one direction (02 R65). -/
def State.sbQueue (s : State) (d : Dir) (mtype : Nat) (body : List Word) : State :=
  let p := s.sb d
  let q := if 16 ≤ p.queue.length then dropOldest p.queue else p.queue
  s.setSb d { p with queue := sbInsert q (sbBuild mtype s.chip d body) }

/-- Queue an own message in both directions (every message travels both east and west, 02). -/
def State.sbBoth (s : State) (mtype : Nat) (body : List Word) : State :=
  (s.sbQueue .east mtype body).sbQueue .west mtype body

/-- A number as a register word. -/
def w32 (n : Nat) : Word := BitVec.ofNat 32 n

/-- The two words of a 64-bit number, low first. -/
def w64 (n : Nat) : List Word := [w32 (n % 2 ^ 32), w32 (n / 2 ^ 32)]

/-! Lane codes (07 R213) -/

/-- A lane code: DIR[9] (1 TX), PORT[8:5], CH[4:0]. -/
def laneCode (tx : Bool) (p n : Nat) : Nat := 512 * b2n tx + 32 * p + n

/-- The parts of a lane code; none where CH is reserved. -/
def laneParts (c : Nat) : Option (Bool × Nat × Nat) :=
  if fieldOf c 4 0 < 18 then some (bitOf c 9, fieldOf c 8 5, fieldOf c 4 0) else none

/-- LNK_LANE_STATE's offset of a lane. -/
def laneReg (tx : Bool) (p n : Nat) : Nat := R.LNK_LANE_STATE p (b2n tx) n

/-- LNK_LANE_STATE.STATE: 0 DARK, 1 SWEEP, 2 LOCKING, 3 LIVE, 4 EXPRESS, 5 SPARE, 6 RETIRED (12 R345). -/
def State.lane (s : State) (tx : Bool) (p n : Nat) : Nat := s.fd (laneReg tx p n) 31 28

/-- LNK_STATUS.STATE of a port (12 Table 12.4). -/
def State.port (s : State) (p : Nat) : Nat := s.fd (R.LNK_STATUS p) 3 0

/-! Plate records (13 R365) -/

/-- A dword of a slot's plate record, at a byte offset. -/
def State.recDw (s : State) (slot byte : Nat) : Nat := (smGet (fun _ => (0 : Word)) s.plates (512 * slot + byte / 4)).toNat

/-- The slot of the plate in force: PLATE_STATUS.CUR (13 R368). -/
def State.curPlate (s : State) : Nat := s.fd R.PLATE_STATUS 5 0

/-- A dword of the record of the plate in force. -/
def State.curRec (s : State) (byte : Nat) : Nat := s.recDw s.curPlate byte

/-- A meaning that runs to a next state. -/
def done (s : State) : Host.Outcome State Fault Refusal := .next s

/-- The SMBus logic runs: from 2 ms after PWROK rises (26 R640). -/
def smbLive (s : State) : Bool := !s.rst.por && decide (s.mgmt.live ≤ s.ticks)

/-- An access on a path reaches the registers: no reset holds the package, and on PCI Express the function is out of PERST_N, FLR,
Request Retry Status and D3hot (22 R573, R586, 06 R180); a Scribe runs only while its domain is up (15 R398); the SMBus logic answers
(26 R640). -/
def State.pathOpen (s : State) (p : Path) : Bool :=
  !s.rst.chip && !s.rst.por
    && (match p with
      | .pcie => s.pins.perstHigh && !s.boot.rrs && !bitOf (s.rd R.PCIE_STATUS) 3 && s.fd R.PCIE_STATUS 13 12 != 3 && s.domUp 0xA2
      | .scribeA => s.domUp 0xA0
      | .scribeB => s.domUp 0xA1
      | .smbus => smbLive s
      | _ => true)

/-- A BAR2 write waits for its memory domain: every later request of the host waits behind it, since posted writes take effect in
arrival order and no read passes one (22 R567). -/
def State.hostBlocked (s : State) : Bool := s.pcie.wait.any (·.write) || !s.pcie.held.isEmpty

/-- Hold a host request behind the write that waits. -/
def State.hold (s : State) (r : HostReq) : State := s.uPcie fun p => { p with held := p.held ++ [r] }

/-- A write that does not reach the registers is discarded; one of the host keeps its place in the order. -/
def through (p : Path) (r : HostReq) (s : State) (o : Host.Outcome State Fault Refusal) : Host.Outcome State Fault Refusal :=
  if !s.pathOpen p then done s else if p == .pcie && s.hostBlocked then done (s.hold r) else o

end Sys2Proof.Machine
end

