-- ==== Sys2Proof/Machine/Clocks.lean ====
section
/-! DEFINITION. Pins, heater-rail sense, sideband reception at block level and the root reference (02, 03). Rows PWROK_FALL,
ROOT_LOCK_TIMEOUT, ROOT_PLL_LOCK, VHTR_SENSE_SAMPLE, SB_BLOCK_LOCK, SB_TRAIN_RECEIVE, SB_MESSAGE_SEND, REF_LOST, REF_SWITCH,
HOLDOVER, REF_REVERT. -/

namespace Sys2Proof.Machine

/-- PWROK goes low; nothing else until the low has lasted 2 µs (02 R73). -/
def execPwrokFall (s : State) : Host.Outcome State Fault Refusal :=
  done (s.uPins fun p => { p with pwrok := false })

/-- What the package holds in power-on reset acts on nothing (02 R72). -/
def unlessPor (s : State) (t : State → State) : Host.Outcome State Fault Refusal := done (if s.rst.por then s else t s)

/-! Balls (02 R43) -/

/-- A block drives its balls from now on. -/
def drive (bs : List Ball) (s : State) : State := s.uPins fun p => { p with driven := p.driven ++ bs.filter fun b => !p.driven.contains b }

/-- What a ball shows (Table 2.3): its state during reset until its block first drives it, for balls of the always-on domain until
PWROK has risen; then the level the rules give it, or what its protocol has it send. READY is high exactly in READY (01 R33). -/
def ballShow (s : State) (b : Ball) : BallShow :=
  let after := fun (b0 : BallShow) => if s.rst.por then b0 else .protocol
  let driven := fun (b0 : BallShow) => if s.pins.driven.contains b then .protocol else b0
  match b with
  | .ready => if s.top = 5 ∧ !s.rst.por then .high else .low
  | .faultN => if s.bit R.EVT_STATUS 31 then .low else .released
  | .smbAlertN => if s.pins.smbAlert then .low else .released
  | .tecGate k g => if bitOf ((s.tec.getD k.val ⟨0, [], 0, 0, 0, none, 0, 0⟩).gates) g.val then .high else .low
  | .nvmSck => after .low
  | .nvmCsN => after .high
  | .nvmIo | .tdo => after .hiZ
  | .smbSda => after .released
  | .pcieTx | .sbETx | .sbWTx => driven .idle
  | .hmk _ => driven .released

/-- 10 ms without root lock: the always-on domain asserts FAULT_N and keeps retrying (02 corner, 25 R634). -/
def execRootLockTimeout (s : State) : Host.Outcome State Fault Refusal :=
  unlessPor s fun s => (if s.bit R.CLK_STATUS 0 then s else s.fw R.EVT_STATUS 30 30 1 |>.fw R.EVT_STATUS 31 31 1)

/-- Release the reference fault; FAULT_N stays asserted while EVT_FAULT has a bit set (25 R634). -/
def clearRefFault (s : State) : State :=
  (s.fw R.EVT_STATUS 30 30 0).fw R.EVT_STATUS 31 31 (b2n (s.rd R.EVT_FAULT != 0))

/-- The NONCE that each power-on and chip reset draws is free and never zero (16 R424; log 12). -/
def drawNonce (s : State) : State :=
  let n := s.draw.1.toNat
  s.draw.2.wr R.AGREE_NONCE (if n = 0 then 1 else n)

/-- Boot enters IMAGE and raises RESET_RECORD (01 R31, 25 Table 25.3 and its corner; log 15). -/
def enterImage (s : State) : State :=
  let s := drawNonce ((s.fw R.GLB_STATE 3 0 1).fw R.BOOT_STATUS 2 0 0)
  s.ev Ev.RESET_RECORD 0 [s.rd R.RST_CAUSE, s.rd R.BOOT_STATUS]

/-- The root PLL locks to REFCLK_RACK: boot proceeds to IMAGE and any reference fault is released (03 R77, 02 corner). -/
def execRootPllLock (s : State) : Host.Outcome State Fault Refusal :=
  unlessPor s fun s =>
    let s := (s.fw R.CLK_STATUS 0 0 1).fw R.CLK_STATUS 2 1 0 |>.fw R.CLK_STATUS 4 4 1
    let s := clearRefFault s
    if s.top = 0 ∧ ¬ s.rst.chip then enterImage s else s

/-- The supply term of a reading in mV: its square less 3,300², and 0 while 3.3 V stands in for it (02 R53, 09 R246). -/
def vsqOf (mv : Nat) : Int := if mv < 2800 ∨ 3800 < mv then 0 else (mv * mv : Nat) - (10890000 : Int)

/-- The frame's VHTR_SENSE reading (02 R53), which gives the next frame's slots their supply term (09 R246). -/
def execVhtrSenseSample (mv : Nat) (s : State) : Host.Outcome State Fault Refusal :=
  unlessPor s fun s =>
    let bad := mv < 2800 || 3800 < mv
    let s' := s.uPins fun p => { p with
      vhtr := if bad then 3300 else mv, vhtrOut := bad,
      vsqWas := if p.vsqFrame = s.now / 8000 then p.vsqWas else p.vsqNew, vsqNew := vsqOf mv, vsqFrame := s.now / 8000 }
    if bad != s.pins.vhtrOut then s'.ev Ev.VHTR_SENSE_RANGE 0 [mv] else s'

/-! The sideband's line (02 R60–R62) -/

/-- The control block a direction sends where it sends no message: IDLE on a segment that is up, else TRAIN with its own DIR, the CHIP
and whether it holds block lock (R61, R62, Table 2.7). -/
def sbFiller (s : State) (d : Dir) : Word64 :=
  if (s.sb d).up then 0x1E else BitVec.ofNat 64 (0x2D + 256 * dirCode d + 65536 * s.chip + 2 ^ 32 * b2n (s.sb d).lock)

/-- A direction's filler block is sent from now on. -/
def sbFill (d : Dir) (s : State) : State := s.emit (.sbFill d (sbFiller s d))

/-- The sideband block runs: both directions announce themselves (R60, R62). -/
def sbStart (s : State) : State := sbFill .west (sbFill .east (drive [.sbETx, .sbWTx] s))

/-- Set a direction's port; what it fills its line with follows. -/
def sbSet (d : Dir) (p : SbPort) (s : State) : State :=
  let t := s.setSb d p
  if p.lock = (s.sb d).lock ∧ p.up = (s.sb d).up then t else sbFill d t

/-- TYPE values of Table 2.7. -/
def sbTypes : List Nat := [0x1E, 0x2D, 0x78, 0x4B]

/-- A block's sync header is valid: 0b01, or 0b10 before a payload whose descrambled TYPE is not reserved (R61). -/
def sbValid (scr : BitVec 58) (b : SbBlk) : Bool :=
  b.hdr == 1 || (b.hdr == 2 && sbTypes.contains ((scramble false 64 scr b.bits.toNat).1 % 256))

/-- A segment that loses block lock goes down and trains again; a message in progress is lost (02 R62). -/
def sbDown (p : SbPort) : SbPort := { p with lock := false, run := 0, trainRun := 0, up := false, sending := none }

/-- One sync header (02 R61). -/
def sbHeader (p : SbPort) (valid : Bool) : SbPort :=
  let h := (valid :: p.hdrs).take 64
  let run := if valid then satN 64 (p.run + 1) else 0
  let p := { p with hdrs := h, run := run }
  if p.lock then
    if 16 ≤ (h.filter (· == false)).length then { sbDown p with hdrs := [] } else p
  else if run = 64 then { p with lock := true, hdrs := [] } else p

/-- A sideband receiver takes one block (02 R61, R62). -/
def execSbBlockLock (d : Dir) (b : SbBlk) (s : State) : Host.Outcome State Fault Refusal :=
  if !s.domUp 0xA7 then done s
  else
    let p := s.sb d
    done (sbSet d (sbHeader { p with scr := (scramble false 64 p.scr b.bits.toNat).2 } (sbValid p.scr b)) s)

/-- One TRAIN block that a receiver under block lock reads (02 R60, R62): an own DIR keeps the segment down; 16 in a row with STATE 1
bring it up; STATE 0 says that the other end holds no block lock, so the segment is not up. -/
def execSbTrainReceive (d peerDir : Dir) (locked : Bool) (s : State) : Host.Outcome State Fault Refusal :=
  let p := s.sb d
  if !s.domUp 0xA7 ∨ !p.lock then done s
  else if peerDir = d then
    done ((sbSet d { p with up := false, trainRun := 0, sending := none } s).ev Ev.SB_MISWIRE (dirCode d) [])
  else if locked then
    let run := satN 16 (p.trainRun + 1)
    done (sbSet d { p with trainRun := run, up := p.up || run == 16 } s)
  else done (sbSet d { p with trainRun := 0, up := false, sending := none } s)

/-- The own message that leaves next, and the port without it among those that wait: one cut short before those that were never sent,
but after a HEARTBEAT that has come due since (02 R65; log 137). -/
def sbNext (p : SbPort) : Option (SbMsg × SbPort) :=
  match p.queue, p.again with
  | [], [] => none
  | m :: q, [] => some (m, { p with queue := q })
  | [], a :: as => some (a, { p with again := as })
  | m :: q, a :: as => if isBeat m && !isBeat a then some (m, { p with queue := q }) else some (a, { p with again := as })

/-- A package sends its oldest own message on a direction whose segment is up (02 R65). -/
def execSbMessageSend (d : Dir) (s : State) : Host.Outcome State Fault Refusal :=
  let p := s.sb d
  if !s.domUp 0xA7 ∨ !p.up then done s
  else match sbNext p with
    | none => done (s.setSb d { p with sending := none })
    | some (m, q) => done ((s.setSb d { q with sending := some m }).emit (.sb d m))

/-! The root's references -/

/-- The lowest LIVE RX lane of the port named by LINK_PORT (03 R78). -/
def lowLive (s : State) : Option Nat := lowest 18 fun n => s.lane false (s.fd R.CLK_REF_CFG 7 4) n == 3

/-- Record the reference monitor's findings in CLK_STATUS (03 R79, R674). -/
def refMonitor (s : State) (rackOk linkOk : Bool) : State :=
  (s.fw R.CLK_STATUS 4 4 (b2n rackOk)).fw R.CLK_STATUS 5 5 (b2n (linkOk && s.clk.lane.isSome))

/-- SRC's code of a source. -/
def srcCode : RefSrc → Nat
  | .rack => 0
  | .link => 1

/-- A reference is lost (03 R79, R80): the loss is counted; the selected one brings holdover and REF_LOST. -/
def refLost (src : RefSrc) (s : State) : State :=
  let s := match src with
    | .rack => (s.fw R.CLK_STATUS 4 4 0).sat R.CLK_LOSS_CNT 15 0 1
    | .link => (s.fw R.CLK_STATUS 5 5 0).sat R.CLK_LOSS_CNT 31 16 1
  if s.fd R.CLK_STATUS 2 1 = srcCode src then
    (((s.fw R.CLK_STATUS 2 1 2).wr R.CLK_HOLD_FRAMES 0).uClk fun c => { c with lost := srcCode src, said := 0 }).ev Ev.REF_LOST (srcCode src) []
  else s

/-- The link reference comes from the lowest LIVE RX lane of its port, moved with phase build-out as lanes come and go; with the last
one the link reference is lost (03 R78, R79). -/
def linkFollow (s : State) : State :=
  let was := s.clk.lane
  let s := s.uClk fun c => { c with lane := lowLive s }
  if was.isSome && s.clk.lane.isNone then refLost .link s else s

/-- REF_LOST row (03 R80). -/
def execRefLost (src : RefSrc) (s : State) : Host.Outcome State Fault Refusal := unlessPor s (refLost src)

/-- The configured source's code (03 R100: MODE 0 RACK, 1 LINK). -/
def refConfigured (s : State) : Nat := s.fd R.CLK_REF_CFG 0 0

/-- Take a source up with phase build-out. -/
def refTake (s : State) (src : Nat) : State :=
  ((s.fw R.CLK_STATUS 2 1 src).wr R.CLK_HOLD_FRAMES 0).uClk fun c => { c with away := src != refConfigured s }

/-- Select a source, which REF_SWITCH reports (03 R81, R83). -/
def refSelect (s : State) (src : Nat) : State := (refTake s src).ev Ev.REF_SWITCH src []

/-- A source is valid. -/
def refValid (s : State) (src : Nat) : Bool := s.bit R.CLK_STATUS (4 + src)

/-- The image's clock configuration is in force (03 R77). -/
def refLoaded (s : State) : Bool := [3, 4, 5].contains s.top

/-- The root's choice at a frame boundary (03 R77, R81). In holdover it switches to the other source, if that is valid and ALT_EN is 1,
or takes the lost one up again once that is valid, without an event; outside holdover it takes up the configured source once that is
valid, where it has not switched away from it (log 48). -/
def refChoose (s : State) : State :=
  let c := refConfigured s
  if s.fd R.CLK_STATUS 2 1 = 2 then
    if s.bit R.CLK_REF_CFG 8 ∧ refValid s (1 - s.clk.lost) then refSelect s (1 - s.clk.lost)
    else if refValid s s.clk.lost then refTake s s.clk.lost
    else s
  else if !s.clk.away ∧ s.fd R.CLK_STATUS 2 1 ≠ c ∧ refLoaded s ∧ refValid s c then refTake s c
  else s

/-- REF_SWITCH: the monitor's findings at a frame boundary, and the root's choice on them (03 R79, R81). -/
def execRefSwitch (rackOk linkOk : Bool) (s : State) : Host.Outcome State Fault Refusal :=
  unlessPor s fun s => refChoose (refMonitor s rackOk linkOk)

/-- A frame begins in holdover: CLK_HOLD_FRAMES counts it (03 R100). -/
def holdFrame (s : State) : State := if s.fd R.CLK_STATUS 2 1 = 2 then s.sat R.CLK_HOLD_FRAMES 31 0 1 else s

/-- 1,000 more frames in holdover: CLK_HOLD_FRAMES has reached them (03 R82, R100; log 111). -/
def execHoldover (s : State) : Host.Outcome State Fault Refusal :=
  if s.fd R.CLK_STATUS 2 1 = 2 then
    let s := s.uClk fun c => { c with said := c.said + 1 }
    let s := s.wr R.CLK_HOLD_FRAMES (min 0xFFFFFFFF (max (s.rd R.CLK_HOLD_FRAMES) (1000 * s.clk.said)))
    done (s.ev Ev.HOLDOVER 0 [s.rd R.CLK_HOLD_FRAMES])
  else done s

/-- With REVERT_EN the root returns to the configured source once it has been valid 100 ms (03 R83). -/
def execRefRevert (rackOk linkOk : Bool) (s : State) : Host.Outcome State Fault Refusal :=
  unlessPor s fun s =>
    let s := refMonitor s rackOk linkOk
    let c := refConfigured s
    if s.bit R.CLK_REF_CFG 9 ∧ s.clk.away ∧ refValid s c then refSelect s c else s

end Sys2Proof.Machine
end

