-- ==== Sys2Proof/Machine/Crypto.lean ====
section
/-! DEFINITION. The standards 06 R163, R170 and R171 cite: SHA-384 (FIPS 180-4) and the verification of an ECDSA P-384 signature
(FIPS 186-5, on the curve P-384 of SP 800-186). Their constants are those of the standards (PRESUMED, log 142). -/

namespace Sys2Proof.Machine

open Sys2Proof

/-! SHA-384 -/

/-- A big-endian number of bytes. -/
def beNat (bs : List Byte) : Nat := bs.foldl (fun a b => 256 * a + b.toNat) 0

/-- n bytes of a number, the most significant first. -/
def beBytes : Nat → Nat → List Byte
  | 0, _ => []
  | n + 1, v => BitVec.ofNat 8 (v / 256 ^ n) :: beBytes n v

/-- The constants K of SHA-384. -/
def shaK : List Nat :=
  [0x428A2F98D728AE22, 0x7137449123EF65CD, 0xB5C0FBCFEC4D3B2F, 0xE9B5DBA58189DBBC, 0x3956C25BF348B538,
    0x59F111F1B605D019, 0x923F82A4AF194F9B, 0xAB1C5ED5DA6D8118, 0xD807AA98A3030242, 0x12835B0145706FBE,
    0x243185BE4EE4B28C, 0x550C7DC3D5FFB4E2, 0x72BE5D74F27B896F, 0x80DEB1FE3B1696B1, 0x9BDC06A725C71235,
    0xC19BF174CF692694, 0xE49B69C19EF14AD2, 0xEFBE4786384F25E3, 0x0FC19DC68B8CD5B5, 0x240CA1CC77AC9C65]
  ++ [0x2DE92C6F592B0275, 0x4A7484AA6EA6E483, 0x5CB0A9DCBD41FBD4, 0x76F988DA831153B5, 0x983E5152EE66DFAB,
    0xA831C66D2DB43210, 0xB00327C898FB213F, 0xBF597FC7BEEF0EE4, 0xC6E00BF33DA88FC2, 0xD5A79147930AA725,
    0x06CA6351E003826F, 0x142929670A0E6E70, 0x27B70A8546D22FFC, 0x2E1B21385C26C926, 0x4D2C6DFC5AC42AED,
    0x53380D139D95B3DF, 0x650A73548BAF63DE, 0x766A0ABB3C77B2A8, 0x81C2C92E47EDAEE6, 0x92722C851482353B]
  ++ [0xA2BFE8A14CF10364, 0xA81A664BBC423001, 0xC24B8B70D0F89791, 0xC76C51A30654BE30, 0xD192E819D6EF5218,
    0xD69906245565A910, 0xF40E35855771202A, 0x106AA07032BBD1B8, 0x19A4C116B8D2D0C8, 0x1E376C085141AB53,
    0x2748774CDF8EEB99, 0x34B0BCB5E19B48A8, 0x391C0CB3C5C95A63, 0x4ED8AA4AE3418ACB, 0x5B9CCA4F7763E373,
    0x682E6FF3D6B2B8A3, 0x748F82EE5DEFB2FC, 0x78A5636F43172F60, 0x84C87814A1F0AB72, 0x8CC702081A6439EC]
  ++ [0x90BEFFFA23631E28, 0xA4506CEBDE82BDE9, 0xBEF9A3F7B2C67915, 0xC67178F2E372532B, 0xCA273ECEEA26619C,
    0xD186B8C721C0C207, 0xEADA7DD6CDE0EB1E, 0xF57D4F7FEE6ED178, 0x06F067AA72176FBA, 0x0A637DC5A2C898A6,
    0x113F9804BEF90DAE, 0x1B710B35131C471B, 0x28DB77F523047D84, 0x32CAAB7B40C72493, 0x3C9EBE0A15C9BEBC,
    0x431D67C49C100D4C, 0x4CC5D4BECB3E42B6, 0x597F299CFC657E2A, 0x5FCB6FAB3AD6FAEC, 0x6C44198C4A475817]

/-- The initial hash value of SHA-384. -/
def shaInit : List Nat :=
  [0xCBBB9D5DC1059ED8, 0x629A292A367CD507, 0x9159015A3070DD17, 0x152FECD8F70E5939, 0x67332667FFC00B31,
    0x8EB44A8768581511, 0xDB0C2E0D64F98FA7, 0x47B5481DBEFA4FA4]

/-- The eight working variables of a block, as the initial hash and each intermediate one. -/
structure ShaVars where
  a : BitVec 64
  b : BitVec 64
  c : BitVec 64
  d : BitVec 64
  e : BitVec 64
  f : BitVec 64
  g : BitVec 64
  h : BitVec 64
  deriving DecidableEq, Repr

/-- A word rotated right. -/
def rotR (x : BitVec 64) (n : Nat) : BitVec 64 := (x >>> n) ||| (x <<< (64 - n))

/-- The next word of the schedule from the sixteen before it, oldest first. -/
def shaNext (w : List (BitVec 64)) : BitVec 64 :=
  let x := w.getD 1 0
  let y := w.getD 14 0
  (rotR y 19 ^^^ rotR y 61 ^^^ (y >>> 6)) + w.getD 9 0 + (rotR x 1 ^^^ rotR x 8 ^^^ (x >>> 7)) + w.headD 0

/-- The rounds of a block, one constant of K each, over a window of sixteen schedule words. -/
def shaRounds : List Nat → List (BitVec 64) → ShaVars → ShaVars
  | [], _, v => v
  | k :: ks, w, v =>
    let t1 := v.h + (rotR v.e 14 ^^^ rotR v.e 18 ^^^ rotR v.e 41) + ((v.e &&& v.f) ^^^ (~~~v.e &&& v.g)) + BitVec.ofNat 64 k + w.headD 0
    let t2 := (rotR v.a 28 ^^^ rotR v.a 34 ^^^ rotR v.a 39) + ((v.a &&& v.b) ^^^ (v.a &&& v.c) ^^^ (v.b &&& v.c))
    shaRounds ks (w.drop 1 ++ [shaNext w]) ⟨t1 + t2, v.a, v.b, v.c, v.d + t1, v.e, v.f, v.g⟩

/-- One block of 128 bytes. -/
def shaBlock (v : ShaVars) (bs : List Byte) : ShaVars :=
  let w := (List.range 16).map fun i => BitVec.ofNat 64 (beNat ((bs.drop (8 * i)).take 8))
  let u := shaRounds shaK w v
  ⟨v.a + u.a, v.b + u.b, v.c + u.c, v.d + u.d, v.e + u.e, v.f + u.f, v.g + u.g, v.h + u.h⟩

/-- n blocks. -/
def shaBlocks : Nat → ShaVars → List Byte → ShaVars
  | 0, v, _ => v
  | n + 1, v, bs => shaBlocks n (shaBlock v (bs.take 128)) (bs.drop 128)

/-- SHA-384 of bytes: 48 bytes. -/
def sha384 (bs : List Byte) : List Byte :=
  let n := (bs.length + 17 + 127) / 128
  let msg := bs ++ 0x80 :: List.replicate (128 * n - 17 - bs.length) 0 ++ beBytes 16 (8 * bs.length)
  let i := fun k => BitVec.ofNat 64 (shaInit.getD k 0)
  let v := shaBlocks n ⟨i 0, i 1, i 2, i 3, i 4, i 5, i 6, i 7⟩ msg
  [v.a, v.b, v.c, v.d, v.e, v.f].flatMap fun x => beBytes 8 x.toNat

/-! ECDSA on P-384 -/

/-- The field's prime. -/
def p384 : Nat := 2 ^ 384 - 2 ^ 128 - 2 ^ 96 + 2 ^ 32 - 1
/-- The group's order. -/
def n384 : Nat := 0xFFFFFFFFFFFFFFFFFFFFFFFFFFFFFFFFFFFFFFFFFFFFFFFFC7634D81F4372DDF581A0DB248B0A77AECEC196ACCC52973
/-- The curve's coefficient b; a is −3. -/
def b384 : Nat := 0xB3312FA7E23EE7E4988E056BE3F82D19181D9C6EFE8141120314088F5013875AC656398D8A2ED19D2A85C8EDD3EC2AEF
/-- The base point. -/
def g384 : Nat × Nat :=
  (0xAA87CA22BE8B05378EB1C71EF320AD746E1D3B628BA79B9859F741E082542A385502F25DBF55296C3A545E3872760AB7,
   0x3617DE4A96262C6F5D9E98BF9292DC29F8F41DBD289A147CE9DA3113B5F0B8C00A60B1CE1D7E819D7A431D7C90EA0E5F)

/-- x to the power of the bits, the most significant first, modulo m. -/
def powBits (x m : Nat) : List Bool → Nat
  | bs => bs.foldl (fun a b => if b then a * a % m * x % m else a * a % m) 1

/-- The 384 bits of a number, the most significant first. -/
def bits384 (v : Nat) : List Bool := ((List.range 384).map (Nat.testBit v)).reverse

/-- The inverse modulo a prime, by Fermat. -/
def invMod (x m : Nat) : Nat := powBits (x % m) m (bits384 (m - 2))

/-- A point of the curve; none is the point at infinity. -/
abbrev CurvePt := Option (Nat × Nat)

/-- The sum of two points. -/
def addPt (p q : CurvePt) : CurvePt :=
  match p, q with
  | none, q => q
  | p, none => p
  | some (x1, y1), some (x2, y2) =>
    if x1 = x2 ∧ (y1 + y2) % p384 = 0 then none
    else
      let l := if x1 = x2 then (3 * x1 * x1 + p384 - 3) % p384 * invMod (2 * y1) p384 % p384
        else (y2 + p384 - y1) % p384 * invMod (x2 + p384 - x1) p384 % p384
      let x3 := (l * l + 2 * p384 - x1 - x2) % p384
      some (x3, (l * ((x1 + p384 - x3) % p384) + p384 - y1) % p384)

/-- A multiple of a point. -/
def mulPt (k : Nat) (p : CurvePt) : CurvePt :=
  (bits384 k).foldl (fun a b => let d := addPt a a; if b then addPt d p else d) none

/-- A public key is a point of the curve. -/
def onCurve (q : Nat × Nat) : Bool :=
  decide (q.1 < p384) && decide (q.2 < p384) && q.2 * q.2 % p384 == (q.1 * q.1 * q.1 + (p384 - 3) * q.1 + b384) % p384

/-- The signature (r, s) of a message's digest verifies under the key q. -/
def ecdsaOk (digest : List Byte) (q : Nat × Nat) (r s : Nat) : Bool :=
  let w := invMod s n384
  let e := beNat digest
  onCurve q && decide (0 < r) && decide (r < n384) && decide (0 < s) && decide (s < n384) &&
    (match addPt (mulPt (e * w % n384) (some g384)) (mulPt (r * w % n384) (some q)) with
    | none => false
    | some (x, _) => x % n384 == r)

end Sys2Proof.Machine
end

