-- ==== Sys2Proof/Machine/Irq.lean ====
section
/-! DEFINITION. Interrupts to the host (22 R572, R575, R578) and what they need of the configuration space. The places of Command,
MSI-X Message Control, PMCSR and Device Control within the offsets of Table 22.3 are those of the PCI Express Base Specification
(PRESUMED, log 34). -/

namespace Sys2Proof.Machine

/-- What a dword of configuration space holds until it is written: Device Control's reset value is that of the PCI Express Base
Specification with Extended Tag set (PRESUMED, log 34; the worked example of 22 shows the 8-bit tag mode after a reset). -/
def cfgD (k : Nat) : Word := if k = 0x1A then 0x2910 else 0

/-- A dword of configuration space as written; the fields with values of their own are added where it is read (R564). -/
def State.cfg (s : State) (off : Nat) : Nat := (smGet cfgD s.pcie.cfg (off / 4)).toNat

/-- PCIE_STATUS bits: BME, MSIX_EN, FMASK, HOLD, FLR_BUSY. -/
def bme (s : State) : Bool := s.bit R.PCIE_STATUS 8

/-- DSTATE is D3hot. -/
def d3hot (s : State) : Bool := s.fd R.PCIE_STATUS 13 12 == 3

/-- The function may issue requests (R575, R586). -/
def mayIssue (s : State) : Bool := s.pins.perstHigh && bme s && !d3hot s && !s.bit R.PCIE_STATUS 3

/-- What an unlisted MSI-X table dword reads as: the vector control is masked (R574). -/
def msixD (k : Nat) : Word := if k % 4 = 3 then 1 else 0

/-- A vector is masked. -/
def msixMasked (s : State) (v : Nat) : Bool := bitOf (smGet msixD s.pcie.msix (4 * v + 3)).toNat 0

/-- A message of a vector can go now. -/
def msixClear (s : State) (v : Nat) : Bool :=
  !msixMasked s v && !s.bit R.PCIE_STATUS 10 && mayIssue s && !s.bit R.PCIE_STATUS 2

/-- An interrupt falls due (R572): discarded and counted at `drop`, held pending, or sent. -/
def irq (vector drop : Nat) (s : State) : State :=
  if !s.pins.perstHigh ∨ s.bit R.PCIE_STATUS 3 ∨ !s.bit R.PCIE_STATUS 9 then s.sat drop 31 0 1
  else if !msixClear s vector ∨ s.pcie.pend.contains vector then
    s.uPcie fun p => { p with pend := if p.pend.contains vector then p.pend else p.pend ++ [vector] }
  else s.emit (.msix vector)

/-- Pending vectors that nothing holds back any longer send one message each (R572, R578). -/
def sendPending (s : State) : State :=
  if !s.bit R.PCIE_STATUS 9 then s
  else
    let go := s.pcie.pend.filter (msixClear s)
    go.foldl (fun s v => s.emit (.msix v)) (s.uPcie fun p => { p with pend := p.pend.filter fun v => !go.contains v })

/-- Device Control (22 R565; log 34). -/
def devCtl (s : State) : Nat := s.cfg 0x68

/-- Max Payload Size in bytes (R563). -/
def maxPayload (s : State) : Nat := min 512 (128 * 2 ^ fieldOf (devCtl s) 7 5)

/-- Max Read Request Size in bytes (R563). -/
def maxRead (s : State) : Nat := min 4096 (128 * 2 ^ fieldOf (devCtl s) 14 12)

/-- Attributes a request carries: Relaxed Ordering and No Snoop as asked, where Device Control enables them (R563, 23 R599). -/
def hostAttr (s : State) (ro ns : Bool) : Nat := b2n (ro && bitOf (devCtl s) 4) + 2 * b2n (ns && bitOf (devCtl s) 11)

/-- A write to host memory. -/
def hostWrite (addr attr : Nat) (bs : List Byte) (s : State) : State := s.emit (.hostWrite addr attr bs)

/-! The tag space (R580–R583) -/

/-- The first tag and the number of tags of a half, by TAG_MODE (Table 22.7). -/
def tagHalf (mode h : Nat) : Nat × Nat :=
  match mode with
  | 2 => (256 + 384 * h, 384)
  | 1 => (128 * h, 128)
  | _ => (16 * h, 16)

/-- A tag of the active half that is free: neither outstanding nor fenced. -/
def freeTag (s : State) : Option Nat :=
  if s.pcie.frozen then none
  else
    let x := tagHalf (s.fd R.PCIE_STATUS 7 6) (s.fd R.PCIE_STATUS 0 0)
    (lowest x.2 fun i => !s.pcie.np.any (fun e => e.1 == x.1 + i) && !s.pcie.fenced.any (fun e => e.1 == x.1 + i)).map (· + x.1)

/-- How many tags are free. -/
def freeTags (s : State) : Nat :=
  if s.pcie.frozen then 0
  else
    let x := tagHalf (s.fd R.PCIE_STATUS 7 6) (s.fd R.PCIE_STATUS 0 0)
    ((List.range x.2).filter fun i => !s.pcie.np.any (fun e => e.1 == x.1 + i) && !s.pcie.fenced.any (fun e => e.1 == x.1 + i)).length

/-- PCIE_OUTSTANDING follows the tables. -/
def npCount (s : State) : State :=
  (s.fw R.PCIE_OUTSTANDING 9 0 s.pcie.np.length).fw R.PCIE_OUTSTANDING 25 16 s.pcie.fenced.length

/-- Issue a read of host memory; nothing while no tag is free. -/
def hostRead (addr attr : Nat) (rd : HostRd) (s : State) : State :=
  match freeTag s with
  | none => s
  | some t => (npCount (s.uPcie fun p => { p with np := smPut p.np t rd })).emit (.hostRead addr attr rd.len t)

end Sys2Proof.Machine
end

