-- ==== Sys2Proof/Machine/MemOps.lean ====
section
/-! DEFINITION. HBM and Vellum words with their check codes (21 R546–R553, R560): the interleave, reads that find errors, writes
that mark or clear poison, error injection. A byte that travels carries whether it comes from a bad word. -/

namespace Sys2Proof.Machine

/-- The memory a word lies in: HBM, or Vellum addressed by CLUSTER << 21 + offset (R549; 17 R447). -/
inductive Ram where
  | hbm | vel
  deriving DecidableEq, Repr

/-- A byte and whether its word was bad. -/
abbrev PByte := Byte × Bool

/-- Bytes of device HBM (R545). -/
def hbmSize : Nat := 0x6000000000

/-- Bytes of one cluster's Vellum (19 R495). -/
def velSize : Nat := 0x180000

/-! The interleave (R546) -/

/-- The pseudo-channel of a unit number. -/
def unitPc (u : Nat) : Nat := xorN (xorN (xorN (xorN u (u / 2 ^ 6)) (u / 2 ^ 12)) (u / 2 ^ 18)) (u / 2 ^ 24) % 64

/-- The pseudo-channel 0–63 of a device address. -/
def hbmPc (a : Nat) : Nat := unitPc (a / 256)

/-- The stack of a device address. -/
def hbmStack (a : Nat) : Nat := hbmPc a / 8

/-- The controller channel of a device address. -/
def hbmChan (a : Nat) : Nat := 4 * hbmStack a + hbmPc a / 2 % 4

/-- The local byte address. -/
def hbmLocal (a : Nat) : Nat := 256 * (a / 256 / 64) + a % 256

/-- The unit at a local unit number and pseudo-channel. -/
def unitAt (l pc : Nat) : Nat := 64 * l + xorN pc (unitPc (64 * l)) % 64

/-! The code (R549) -/

/-- The columns of the data bits: the 56 bytes of weight 3, then the 8 smallest of weight 5. -/
def dataCols : List Nat :=
  ((List.range 256).filter fun v => popCount 8 v == 3) ++ ((List.range 256).filter fun v => popCount 8 v == 5).take 8

/-- What a syndrome says of a word. -/
inductive Fate where
  | clean | corrected | poisoned | bad
  deriving DecidableEq, Repr

/-- R549's reading of a syndrome. -/
def fateOf (syn : Nat) : Fate :=
  if syn = 0 then .clean
  else if syn = 3 then .poisoned
  else if popCount 8 syn % 2 = 1 ∧ (popCount 8 syn = 1 ∨ dataCols.contains syn) then .corrected
  else .bad

/-- A word with the named data bit put right. -/
def fixWord (syn : Nat) (bs : List Byte) : List Byte :=
  match lowest 64 fun i => dataCols.getD i 0 == syn with
  | some i => bs.set (i / 8) (BitVec.ofNat 8 (xorN (bs.getD (i / 8) 0).toNat (2 ^ (i % 8))))
  | none => bs

/-! Words -/

/-- The stored bytes of a word. -/
def ramWord (s : State) (r : Ram) (k : Nat) : List Byte :=
  bytesAt ramD (match r with
    | .hbm => s.hbm
    | .vel => s.vel) (8 * k) 8

/-- The syndrome of a word. -/
def ramSyn (s : State) (r : Ram) (k : Nat) : Nat :=
  (smGet (fun _ => (0 : Byte)) (match r with
    | .hbm => s.hbmEcc
    | .vel => s.velEcc) k).toNat

/-- Store bytes of a word. -/
def putWord (r : Ram) (k : Nat) (bs : List Byte) (s : State) : State :=
  match r with
  | .hbm => s.uHbm fun m => putBytes ramD m (8 * k) bs
  | .vel => s.uVel fun m => putBytes ramD m (8 * k) bs

/-- Set a word's syndrome. -/
def putSyn (r : Ram) (k syn : Nat) (s : State) : State :=
  match r with
  | .hbm => s.uHbmEcc fun m => smSet (fun _ => (0 : Byte)) m k (BitVec.ofNat 8 syn)
  | .vel => s.uVelEcc fun m => smSet (fun _ => (0 : Byte)) m k (BitVec.ofNat 8 syn)

/-- The check byte a write stores: an armed injection of this word flips it and is spent (R560). -/
def writeSyn (r : Ram) (k syn : Nat) (s : State) : State :=
  let w := s.rd R.MEM_INJECT
  if bitOf w 31 ∧ bitOf w 8 = (r == .vel) ∧ s.rd64 R.MEM_INJECT_ADDR_LO / 8 = k then
    putSyn r k (xorN syn (if bitOf w 0 then 5 else 1)) (s.fw R.MEM_INJECT 31 31 0)
  else putSyn r k syn s

/-- A correction is counted and reported (R550, R559). -/
def noteCe (r : Ram) (k : Nat) (s : State) : State :=
  let a := 8 * k
  match r with
  | .vel => (s.sat R.MEM_VEL_CE 31 0 1).evKey 8000 0 Ev.VEL_CE (a / 2 ^ 21) []
  | .hbm =>
    let st := hbmStack a
    let pc := hbmPc a
    let n := satN 0xFFFFFFFF (s.mem.ces.getD st 0 + 1)
    let m := smGet (fun _ => (0 : Nat)) s.mem.storm pc + 1
    let s := s.uMem fun x => { x with ces := setAt 0 x.ces st n, storm := smSet (fun _ => (0 : Nat)) x.storm pc m }
    let s := (s.sat (R.MEM_S_CE st) 31 0 1).sat R.MEM_CE_TOTAL 31 0 1
    let s := s.evOnce 8000 Ev.MEM_CE st [n, a % 2 ^ 32, a / 2 ^ 32]
    if m = s.fd R.MEM_CFG 15 0 + 1 then s.ev Ev.MEM_CE_STORM st [hbmChan a, pc % 2] else s

/-- The first detection of an uncorrectable word: counted, reported and marked (R550, R551, R559). -/
def noteUe (src : Nat) (r : Ram) (k : Nat) (s : State) : State :=
  let a := 8 * k
  let s := match r with
    | .vel => (s.sat R.MEM_VEL_UE 31 0 1).ev Ev.VEL_UE (a / 2 ^ 21) []
    | .hbm =>
      let st := hbmStack a
      let s := ((s.sat (R.MEM_S_UE st) 31 0 1).sat R.MEM_UE_TOTAL 31 0 1).wr64 R.MEM_LAST_UE_LO a
      (s.wr R.MEM_LAST_UE_INFO (2 ^ 28 * src + 65536 * hbmPc a + 256 * hbmChan a + st)).ev Ev.MEM_UE st [a % 2 ^ 32, a / 2 ^ 32, src]
  writeSyn r k 3 s

/-- A read of a poisoned HBM word (R550); of Vellum the spec counts none (log 30). -/
def notePoison (r : Ram) (k : Nat) (s : State) : State :=
  match r with
  | .vel => s
  | .hbm => (s.sat R.MEM_POISON_READS 31 0 1).evOnce 8000 Ev.MEM_POISON_READ (hbmStack (8 * k)) []

/-- Read one word (R549): its eight bytes, and whether it is bad. -/
def readWord (src : Nat) (r : Ram) (k : Nat) (s : State) : State × List Byte × Bool :=
  let bs := ramWord s r k
  let syn := ramSyn s r k
  match fateOf syn with
  | .clean => (s, bs, false)
  | .corrected => (noteCe r k s, fixWord syn bs, false)
  | .poisoned => (notePoison r k s, bs, true)
  | .bad => (noteUe src r k s, bs, true)

/-- Read n words from word k on. -/
def readWords (src : Nat) (r : Ram) : Nat → Nat → State → State × List PByte
  | 0, _, s => (s, [])
  | n + 1, k, s =>
    let (s, bs, bad) := readWord src r k s
    let (s, rest) := readWords src r n (k + 1) s
    (s, bs.map (fun b => (b, bad)) ++ rest)

/-- Read n bytes from address a; SOURCE codes as MEM_LAST_UE_INFO's. -/
def memRead (src : Nat) (r : Ram) (a n : Nat) (s : State) : State × List PByte :=
  if n = 0 then (s, [])
  else
    let (s, bs) := readWords src r ((a + n + 7) / 8 - a / 8) (a / 8) s
    (s, (bs.drop (a % 8)).take n)

/-- A read has met a bad word. -/
def anyBad (bs : List PByte) : Bool := bs.any (·.2)

/-- Merge written bytes into a word. -/
def mergeWord : List Byte → List (Option PByte) → List Byte
  | _ :: bs, some x :: xs => x.1 :: mergeWord bs xs
  | b :: bs, none :: xs => b :: mergeWord bs xs
  | bs, [] => bs
  | [], _ => []

/-- Write bytes of one word (R551, R552, R560). -/
def writeWord (src : Nat) (r : Ram) (k : Nat) (xs : List (Option PByte)) (s : State) : State :=
  if xs.all (·.isNone) then s
  else
    let mark := xs.any fun x => match x with
      | some y => y.2
      | none => false
    let full := xs.length == 8 && xs.all (·.isSome)
    let old := ramWord s r k
    let syn := ramSyn s r k
    if full then writeSyn r k (if mark then 3 else 0) (putWord r k (mergeWord old xs) s)
    else match fateOf syn with
      | .clean => writeSyn r k (if mark then 3 else 0) (putWord r k (mergeWord old xs) s)
      | .corrected => writeSyn r k (if mark then 3 else 0) (putWord r k (mergeWord (fixWord syn old) xs) (noteCe r k s))
      | .poisoned => writeSyn r k 3 (putWord r k (mergeWord old xs) s)
      | .bad => writeSyn r k 3 (putWord r k (mergeWord old xs) (noteUe src r k s))

/-- Write words from word k on. -/
def writeWords (src : Nat) (r : Ram) : Nat → Nat → List (Option PByte) → State → State
  | 0, _, _, s => s
  | n + 1, k, xs, s => writeWords src r n (k + 1) (xs.drop 8) (writeWord src r k (xs.take 8) s)

/-- Write bytes, some of them left as they are, from address a on. -/
def memWriteOpt (src : Nat) (r : Ram) (a : Nat) (xs : List (Option PByte)) (s : State) : State :=
  if xs.isEmpty then s
  else writeWords src r ((a + xs.length + 7) / 8 - a / 8) (a / 8) (List.replicate (a % 8) none ++ xs) s

/-- Write bytes from address a on. -/
def memWrite (src : Nat) (r : Ram) (a : Nat) (xs : List PByte) (s : State) : State := memWriteOpt src r a (xs.map some) s

/-- Bytes that are not poisoned. -/
def goodBytes (bs : List Byte) : List PByte := bs.map fun b => (b, false)

end Sys2Proof.Machine
end

