-- ==== Sys2Proof/Machine/StyOps.lean ====
section
/-! DEFINITION. Shared operations on the Stylus engines (09, 10): coefficient words, the write queue, ring words. -/

namespace Sys2Proof.Machine

/-- Loop ID of loop index l of engine e: fast slot l below 56, slow slot l − 56 from there (09 R240, R241; 10 R287). -/
def loopId (e l : Nat) : Nat := if l < 56 then fmapLoop e l else smapLoop e (l - 56)

/-- The offset of word w of a loop's coefficient block (09 R262, Table 9.5). -/
def coefOff (e l w : Nat) : Nat :=
  (if l < 56 then 0x101000 + 0x10000 * e + 0x100 * l else 0x105000 + 0x10000 * e + 0x100 * (l - 56)) + 4 * w

/-- The offset of word w of a loop's supervision block (10 R287). -/
def supOff (e l w : Nat) : Nat := 0x10A400 + 0x10000 * e + 0x20 * l + 4 * w

/-- The supply term in use: that of the sample before the current frame's (09 R246). -/
def State.vsqNow (s : State) : Int := if s.pins.vsqFrame = s.now / 8000 then s.pins.vsqWas else s.pins.vsqNew

/-- A coefficient word in force. -/
def State.coef (s : State) (e l w : Nat) : Nat := s.rd (coefOff e l w)

/-- A coefficient word in force, signed. -/
def State.coefI (s : State) (e l w : Nat) : Int := sgn 32 (s.coef e l w)

/-- A loop's state. -/
def State.lp (s : State) (e l : Nat) : LoopSt := smGet (fun _ => LoopSt.init) s.sty.loops (256 * e + l)

/-- Set a loop's state. -/
def State.setLp (s : State) (e l : Nat) (x : LoopSt) : State :=
  s.uSty fun t => { t with loops := smSet (fun _ => LoopSt.init) t.loops (256 * e + l) x }

/-- An engine's queue and tools. -/
def State.eng (s : State) (e : Nat) : Eng := s.sty.engs.getD e ⟨[], none, 0, none⟩

/-- Set an engine's queue and tools. -/
def State.setEng (s : State) (e : Nat) (x : Eng) : State := s.uSty fun t => { t with engs := setAt ⟨[], none, 0, none⟩ t.engs e x }

/-- WQ_LEVEL follows the queue (09 Table 9.4). -/
def wqLevel (s : State) (e : Nat) : State := s.fw (R.STY_STATUS e) 23 16 (s.eng e).wq.length

/-- Put a word in an engine's write queue; a full queue discards it (09 R254, R256). The active Scribe waits for room (14 R382). -/
def wqPush (e l w v : Nat) (s : State) : State :=
  let g := s.eng e
  if s.sty.patient && (decide (128 ≤ g.wq.length) || s.sty.todo.any fun x => x.1 == e) then
    s.uSty fun t => { t with todo := t.todo ++ [(e, l, w, w32 v)] }
  else if 128 ≤ g.wq.length then
    (s.sat (R.STY_WQ_DROP e) 31 0 1).ev Ev.STY_WQ_FULL e [coefOff e l w]
  else wqLevel (s.setEng e { g with wq := g.wq ++ [(l, w, w32 v)] }) e

/-- Room in an engine's queue takes the oldest word the active Scribe holds for it (14 R382). -/
def wqRefill (e : Nat) (s : State) : State :=
  match s.sty.todo.find? fun x => x.1 == e with
  | some x =>
    let g := s.eng e
    if 128 ≤ g.wq.length then s
    else wqLevel ((s.setEng e { g with wq := g.wq ++ [x.2] }).uSty fun t => { t with todo := t.todo.erase x }) e
  | none => s

/-- Words that the active Scribe queues (14 R382). -/
def byScribe (f : State → State) (s : State) : State :=
  (f (s.uSty fun t => { t with patient := true })).uSty fun t => { t with patient := s.sty.patient }

/-- The fast slot of a port's ring of channel n (09 R240; 07 Table 7.6): the demux ring of an RX lane, the modulator ring of
a TX lane, the add ring of an express TX lane. -/
def ringSlot (tx express : Bool) (n : Nat) : Nat := if !tx then 2 + n else if express then 20 + n else 38 + n

/-- CTL with its MODE replaced. -/
def ctlMode (s : State) (p l mode : Nat) : Nat := fieldSet (s.coef p l 0) 1 0 mode

/-- Queue a ring's move to a point: INTEG, then CTL with MODE (14 R381). -/
def ringMove (p l integ mode : Nat) (s : State) : State :=
  wqPush p l 0 (ctlMode s p l mode) (wqPush p l 10 integ s)

/-- A dword of the RINGS table for fast slot l of engine p: 0 START and HALF, 1 PARK (06 R168). -/
def ringDw (s : State) (p l k : Nat) : Nat := (smGet (fun _ => (0 : Word)) s.rings (2 * fmapLoop p l + k)).toNat

/-- A ring's park word: its recorded lock point less the park step (12 Table 12.1); without a recorded point, that of the code the RINGS
table gives its channel (06 R168; 07 R197). -/
def parkWord (s : State) (p l : Nat) (code : Option Nat) : Nat :=
  let c := code.getD (ringDw s p l 0 / 65536 * 65536)
  wrapN 32 ((c : Int) - fieldOf (ringDw s p l 1) 15 0 * 65536)

/-- The supervisor's holds of a loop: its own, OUT_WRAP's, a TEC held off by a fault, a bank at safe power (09 R253; 10 R266;
11 R296, R303). -/
def supHeld (s : State) (e l : Nat) : Bool :=
  let x := s.lp e l
  x.hold || x.wrapHold || (l == 137 && e % 4 == 0 && s.fd R.TEC_FAULT (4 * (e / 4) + 2) (4 * (e / 4)) != 0)
    || (l == 0 && e % 2 == 0 && s.bit R.LAS_STATUS (e / 2))

/-- Release a loop from the supervisor: count cleared, anchor re-taken (10 R268). -/
def supRelease (e l : Nat) (s : State) : State :=
  s.setLp e l { s.lp e l with hold := false, wrapHold := false, bad := 0, good := 0, anchor := true }

end Sys2Proof.Machine
end

