-- ==== Sys2Proof/Machine/Framing.lean ====
section
/-! DEFINITION. What a TX lane sends (12 R319–R321, R327): lane blocks scrambled and coded, LANE and FRAME marks, IDLE blocks. -/

namespace Sys2Proof.Machine

/-! The code RS(544,514) over GF(2^10) of IEEE 802.3 clause 91 (log 146) -/

/-- A product in GF(2^10) modulo x^10 + x^3 + 1, over n bits of a factor. -/
def gfMulGo : Nat → Nat → Nat → Nat
  | 0, _, _ => 0
  | n + 1, a, b => xorN (if b % 2 = 1 then a else 0) (gfMulGo n (if a < 512 then 2 * a else xorN (2 * a) 0x409) (b / 2))

/-- A product in GF(2^10). -/
def gfMul (a b : Nat) : Nat := gfMulGo 10 a b

/-- The generator polynomial, the product of x − α^i for i = 0 to 29: its coefficients below x^30, highest power first. -/
def rsGen : List Nat :=
  [575, 552, 187, 230, 552, 1, 108, 565, 282, 249, 593, 132, 94, 720, 495, 385, 942, 503, 883, 361, 788, 610, 193, 392, 127, 185, 158,
    128, 834, 523]

/-- One message symbol enters the division. -/
def rsStep (r : List Nat) (m : Nat) : List Nat :=
  let f := xorN m (r.headD 0)
  List.zipWith (fun g x => xorN (gfMul f g) x) rsGen (r.drop 1 ++ [0])

/-- The 30 parity symbols of a message. -/
def rsParity (msg : List Nat) : List Nat := msg.foldl rsStep (List.replicate 30 0)

/-! One lane block as a codeword -/

/-- The lowest n bits of a number in the opposite order. -/
def revBits : Nat → Nat → Nat
  | 0, _ => 0
  | n + 1, v => v % 2 * 2 ^ n + revBits n (v / 2)

/-- The 5,140 bits of a lane block, the first sent lowest: the header and then the payload's bytes, each most significant bit first
(log 146). -/
def blockStream (hdr : Nat) (payload : List Word) : Nat :=
  revBits 20 hdr + 2 ^ 20 * bytesToNat ((dwBytes payload).map fun b => BitVec.ofNat 8 (revBits 8 b.toNat))

/-- Bits, the first lowest, as symbols of ten, most significant bit first (12 R319). -/
def toSymbols : Nat → Nat → List Nat
  | 0, _ => []
  | n + 1, w => revBits 10 w :: toSymbols n (w / 1024)

/-- The codeword of a lane block, and the scrambler after it (12 R319). -/
def codeword (scr : BitVec 58) (hdr : Nat) (payload : List Word) : List (BitVec 10) × BitVec 58 :=
  let r := scramble true 5140 scr (blockStream hdr payload)
  let msg := toSymbols 514 r.1
  ((msg ++ rsParity msg).map (BitVec.ofNat 10), r.2)

/-- A lane block header (12 Table 12.2): KIND 0 DATA, 1 IDLE, 2 LCTL, 3 MARK. -/
def blockHdr (kind slot low : Nat) : Nat := 2 ^ 18 * kind + 2 ^ 14 * slot + low % 2 ^ 14

/-- A list of dwords as a payload of 160. -/
def pad160 (ws : List Word) : List Word := (ws ++ List.replicate 160 0).take 160

/-- The payload of an IDLE, LCTL or MARK block. -/
def ctlPayload (kind sub : Nat) (fields : List Nat) : List Word := pad160 (Config.blockPayload kind sub fields)

/-! Lanes -/

/-- ROLE of a lane under the plate in force (12 Table 12.6). -/
def State.role (s : State) (tx : Bool) (p n : Nat) : Nat := s.fd (laneReg tx p n) 27 26

/-- SLOT of a lane; 31 for none (12 R345). -/
def State.slot (s : State) (tx : Bool) (p n : Nat) : Nat := s.fd (laneReg tx p n) 20 16

/-- A lane's state outside its register. -/
def State.ls (s : State) (tx : Bool) (p n : Nat) : LaneSt := smGet (fun _ => LaneSt.init) s.lnk.lanes (laneCode tx p n)

/-- Change a lane's state outside its register. -/
def State.uLs (s : State) (tx : Bool) (p n : Nat) (f : LaneSt → LaneSt) : State :=
  s.uLnk fun t => { t with
    lanes := smSet (fun _ => LaneSt.init) t.lanes (laneCode tx p n) (f (smGet (fun _ => LaneSt.init) t.lanes (laneCode tx p n))) }

/-- A TX lane sends a stream: it is locking or LIVE, terminated here and not vacated (12 R319, R321). -/
def sends (s : State) (p n : Nat) : Bool :=
  (s.lane true p n == 2 || s.lane true p n == 3) && s.role true p n != 2 && !(s.ls true p n).vac

/-- One block leaves on a lane. -/
def laneBlock (p n hdr : Nat) (payload : List Word) (s : State) : State :=
  let c := codeword (s.ls true p n).scr hdr payload
  (s.uLs true p n fun x => { x with sent := x.sent + 1, sentAt := s.ticks / 85, scr := c.2 }).emit (.codeword p n c.1)

/-- The lane's next block is a LANE mark: one of the first 16, and then one in every 4,096 (12 R321). -/
def markDue (x : LaneSt) : Bool := decide (x.sent < 16) || x.sent % 4096 == 0

/-- A LANE mark (12 R321): the sender's chip, port, channel and the lane's role. -/
def laneMark (p n : Nat) (s : State) : State :=
  laneBlock p n (blockHdr 3 0 0) (ctlPayload 3 0 [s.chip, p, n, s.role true p n]) s

/-- The LANE marks that are due before another block. -/
def marksGo (p n : Nat) : Nat → State → State
  | 0, s => s
  | k + 1, s => if markDue (s.ls true p n) then marksGo p n k (laneMark p n s) else s

/-- A block leaves on a lane, after the LANE marks due before it. -/
def laneSend (p n hdr : Nat) (payload : List Word) (s : State) : State := laneBlock p n hdr payload (marksGo p n 17 s)

/-- The lowest TX channel on which a port's link control leaves: LIVE, or locking while none is LIVE. -/
def ctlLane (s : State) (p : Nat) : Option Nat :=
  match lowest 18 fun n => sends s p n && s.lane true p n == 3 with
  | some n => some n
  | none => lowest 18 fun n => sends s p n

/-- A link-control message leaves (12 Table 12.3). -/
def lctl (p kind : Nat) (fields : List Nat) (s : State) : State :=
  let s := s.emit (.lctl p kind fields)
  match ctlLane s p with
  | some n => laneSend p n (blockHdr 2 0 (256 * kind)) (ctlPayload 2 kind fields) s
  | none => s

/-- The FRAME mark of a port at a frame boundary, on its lowest LIVE TX lane: its short stamp (12 R321; 04 R110). -/
def frameMark (s : State) (p : Nat) : State :=
  match lowest 18 fun n => sends s p n && s.lane true p n == 3 with
  | some n => laneSend p n (blockHdr 3 0 256) (ctlPayload 3 1 [s.now % 2 ^ 32]) s
  | none => s

/-- A lane that has sent nothing in a block time sends a LANE mark or IDLE (12 R319, R321, R327). -/
def laneFill (s : State) (c : Nat) : State :=
  let (p, n) := (c / 18, c % 18)
  let x := s.ls true p n
  if !sends s p n || s.ticks / 85 ≤ x.sentAt then s
  else if markDue x then laneMark p n s
  else laneBlock p n (blockHdr 1 0 0) (ctlPayload 1 0 []) s

/-- One tick of the TX lanes: FRAME marks at a frame boundary, and every lane's stream (12 R319, R321). -/
def lanesTick (s : State) : State :=
  let s := if s.now % 8000 = 0 then (List.range 16).foldl frameMark s else s
  if s.ticks % 85 = 0 then (List.range 288).foldl laneFill s else s

end Sys2Proof.Machine
end

