-- ==== Sys2Proof/Machine/Egress.lean ====
section
/-! DEFINITION. What leaves by the ports: the queue of packets of each port, credits and retry blocks (12 R324; 17 R440–R444), the
order frames (15 R398) and their two cluster transports (14 R370), and the Etcher's set of failed ports (14 R390). -/

namespace Sys2Proof.Machine

/-- A port's link block. -/
def State.lk (s : State) (p : Nat) : Lnk := smGet (fun _ => Lnk.init) s.lnk.ports p

/-- Change a port's link block. -/
def State.uLk (s : State) (p : Nat) (f : Lnk → Lnk) : State :=
  s.uLnk fun t => { t with ports := smSet (fun _ => Lnk.init) t.ports p (f (smGet (fun _ => Lnk.init) t.ports p)) }

/-- Flits of each of the ten buffers, in the order of Table 17.1. -/
def bufSize (b : Nat) : Nat := [64, 256, 256, 1024, 1024, 1024, 1024, 8192, 8192, 16].getD b 0

/-- The buffer of a virtual channel and class. -/
def bufOf (vc dl : Nat) : Nat := if vc = 0 then 0 else if vc = 5 then 9 else 2 * vc - 1 + dl % 2

/-- The virtual channel of a buffer. -/
def bufVc (b : Nat) : Nat := if b = 9 then 5 else (b + 1) / 2

/-- Whole flits of a packet (17 R441). -/
def flitsOf (ws : List Word) : Nat := (ws.length + 15) / 16

/-- A port an apply in progress touches, from its drain to its route swap (14 R381, R384). -/
def portHeld (s : State) (p : Nat) : Bool :=
  s.bit R.PLATE_RP_PORTS p && [3, 4, 5, 6].contains (s.fd R.PLATE_RP_STATUS 31 28)

/-- A port that carries virtual-channel traffic of a buffer (12 Table 12.4, R343; 17 R444). -/
def portTakes (s : State) (p b : Nat) : Bool :=
  !portHeld s p && !s.bit (R.LNK_STATUS p) 4
    && (s.port p == 4 || s.port p == 5 || (s.port p == 3 && b == 0))

/-- The TX channels that carry a slot: the LIVE lanes bound to it, and the new channel of a swap that sends it on both (12 R315, R334,
R340). -/
def slotLanes (s : State) (p k : Nat) : List Nat :=
  (List.range 18).filter fun n => sends s p n && s.lane true p n == 3 &&
    (s.slot true p n == k || (s.lk p).swaps.any fun w => w.tx && w.dup && w.slot == k && w.new == n)

/-- The logical slots that blocks are striped across: those carried by some lane and not held (12 R315, R327). -/
def txSlots (s : State) (p : Nat) : List Nat :=
  (List.range 16).filter fun k => !(slotLanes s p k).isEmpty && !(s.lk p).held.contains k

/-- Credits allow n more flits of a buffer (17 R442, R443). -/
def creditFor (L : Lnk) (b n : Nat) : Bool :=
  decide ((L.sent.getD b 0 + 65536 - L.freed.getD b 0) % 65536 + n ≤ bufSize b)

/-- A packet may leave now: port, credit, a LIVE slot, room in the retry buffer (12 R324, R327). -/
def canSend (s : State) (p : Nat) (k : Pkt) : Bool :=
  portTakes s p k.buf && creditFor (s.lk p) k.buf (flitsOf k.words) && decide ((s.lk p).retry.length < 2048)
    && !(txSlots s p).isEmpty

/-- LNK_RETRY_STATUS follows the retry buffer. -/
def retryStatus (p : Nat) (s : State) : State :=
  let n := (s.lk p).retry.length
  let s := s.fw (R.LNK_RETRY_STATUS p) 11 0 n
  s.fw (R.LNK_RETRY_STATUS p) 27 16 (max n (s.fd (R.LNK_RETRY_STATUS p) 27 16))

/-- Count n on a 64-bit counter. -/
def State.count64 (s : State) (off n : Nat) : State := s.wr64 off ((s.rd64 off + n) % 2 ^ 64)

/-- A block of 160 dwords: a packet's flits, then NULL flits (12 R319; 17 R440; log 18). -/
def blockOf (ws : List Word) : List Word := ws ++ List.replicate (160 - ws.length) 0

/-- A DATA block leaves on every lane of a slot (12 R320, R334). -/
def slotSend (p k bsn : Nat) (payload : List Word) (s : State) : State :=
  (slotLanes s p k).foldl (fun s n => laneSend p n (blockHdr 0 k bsn) payload s) s

/-- The next DATA block, on the slot whose turn it is, kept for retry (12 R315, R324). -/
def dataBlock (p : Nat) (payload : List Word) (s : State) : State :=
  let ks := txSlots s p
  let bsn := (s.lk p).txBsn
  let k := ks.getD (bsn % ks.length) 0
  let s := s.uLk p fun L => { L with
    txBsn := (bsn + 1) % 16384, retry := L.retry ++ [(bsn, (slotLanes s p k).headD 0, payload)] }
  slotSend p k bsn payload (retryStatus p s)

/-- Send one packet in the next DATA block (12 R324; 17 R440). -/
def sendBlock (p : Nat) (k : Pkt) (s : State) : State :=
  let n := flitsOf k.words
  let s := s.uLk p fun L => { L with sent := setAt 0 L.sent k.buf ((L.sent.getD k.buf 0 + n) % 65536) }
  let s := (s.count64 (R.FAB_VC_TX_LO p (bufVc k.buf)) n).emit (.port p (bufVc k.buf) k.words)
  dataBlock p (blockOf k.words) s

/-- Send what may be sent, in order on each buffer (17 R456). -/
def pumpGo (p : Nat) : List Pkt → List Nat → State → State × List Pkt
  | [], _, s => (s, [])
  | k :: ks, blocked, s =>
    if !blocked.contains k.buf && canSend s p k then pumpGo p ks blocked (sendBlock p k s)
    else
      let r := pumpGo p ks (k.buf :: blocked) s
      (r.1, k :: r.2)

/-- Send what the port's queue may send now. -/
def pump (p : Nat) (s : State) : State :=
  let r := pumpGo p (s.lk p).queue [] s
  r.1.uLk p fun L => { L with queue := r.2 }

/-- Put a packet at a port. -/
def sendPkt (p : Nat) (k : Pkt) (s : State) : State := pump p (s.uLk p fun L => { L with queue := L.queue ++ [k] })

/-- The ports that carry CTRL: ACTIVE, DEGRADED or QUARANTINE (14 R370). -/
def ctrlPorts (s : State) : List Nat :=
  (List.range 16).filter fun p => s.port p == 3 || s.port p == 4 || s.port p == 5

/-- A CORD packet of an order frame (17 R445, R468); its DEST, which the spec leaves open, is `dest` (log 17). -/
def cordPkt (s : State) (hops src dest : Nat) (frame : List Word) : List Word :=
  [w32 (2 ^ 20 * hops + 2 ^ 14 * 0x30 + 4 * frame.length), w32 (65536 * dest + src), 0, w32 (s.now % 2 ^ 32)] ++ frame

/-- A frame on the CTRL virtual channel of every such port but one. -/
def cordOut (hops src : Nat) (skip : Option Nat) (frame : List Word) (s : State) : State :=
  let (d, s) := s.draw
  let k : Pkt := ⟨0, cordPkt s hops src (d.toNat % 16384) frame⟩
  ((ctrlPorts s).filter fun p => skip != some p).foldl (fun s p => sendPkt p k s) s

/-- Both cluster transports: the sideband in both directions and CTRL (14 R370, 15 R397). -/
def clTransport (frame : List Word) (s : State) : State :=
  cordOut (s.fd R.FAB_CFG 13 8) s.chip none frame (s.sbBoth 0x01 frame)

/-- An order frame (15 Table 15.2). -/
def orderFrame (cluster copy resync : Bool) (dest epoch seq chip unit : Nat) (payload : List Word) : List Word :=
  let ws := [w32 (2 ^ 31 * b2n cluster + 2 ^ 30 * b2n copy + 2 ^ 29 * b2n resync + 65536 * dest + payload.length),
    w32 epoch, w32 seq, w32 (65536 * chip + unit)] ++ payload
  ws ++ [w32 (crc32 (dwBytes ws))]

/-- The Scribe unit that holds the package lease: 0 A, 1 B (15 R420). -/
def activeUnit (s : State) : Nat := s.fd R.SCRIBE_STATUS 31 31

/-- A_STATE or B_STATE of a Scribe: 0 OFF, 1 STANDBY, 2 HOLDER, 3 REBUILD (15 R420). -/
def scribeState (s : State) (u : Nat) : Nat := s.fd R.SCRIBE_STATUS (4 * u + 1) (4 * u)

/-- A standby's journal takes an order; a full one discards its oldest entry with JOURNAL_OVF (15 R407). -/
def journalAdd (cluster : Bool) (frame : List Word) (s : State) : State :=
  let a := if cluster then s.clu else s.pkg
  let full := decide (65536 ≤ a.journal.length)
  let j := (if full then a.journal.drop 1 else a.journal) ++ [frame]
  let s := if cluster then s.uClu fun x => { x with journal := j } else s.uPkg fun x => { x with journal := j }
  let s := if cluster then s.fw R.CL_JOURNAL 16 0 j.length else s.fw R.SCRIBE_JOURNAL 16 0 j.length
  if !full then s
  else if cluster then (s.fw R.CL_STATUS 25 25 1).ev Ev.JOURNAL_OVF 1 []
  else (s.fw R.SCRIBE_STATUS 22 22 1).ev Ev.JOURNAL_OVF 0 []

/-- An order on the package order bus is journalled by the standby Scribe, if there is one; a repeat of one it holds is that entry. The
copy it sends within 1,600 ticks is a duplicate at every receiver (15 R399, R400). -/
def busJournal (frame : List Word) (s : State) : State :=
  if scribeState s (1 - activeUnit s) = 1 ∧ !s.pkg.journal.contains frame then journalAdd false frame s else s

/-- A cluster order passes the package order bus as a package order before it leaves (15 R689). -/
def throughBus (frame : List Word) (s : State) : State :=
  busJournal frame (s.wr R.SCRIBE_SEQ ((s.rd R.SCRIBE_SEQ + 1) % 2 ^ 32))

/-- The Scribe that holds the package lease runs: a halted one originates no order (26 R654). -/
def scribeRuns (s : State) : Bool := decide (2 ≤ scribeState s (activeUnit s)) && !s.scr.halted.contains (activeUnit s)

/-- This package holds the cluster lease, is not fenced and may originate orders (15 R417; 26 R654). -/
def isEtcher (s : State) : Bool := s.bit R.CL_STATUS 31 && !s.bit R.CL_STATUS 29 && scribeRuns s

/-- The frame of a member's own message to the Etcher and the Counterproof; its SEQ is a free value, since R399 numbers only the
holder's orders (log 17). -/
def memberOrder (payload : List Word) (s : State) : State :=
  let (q, s) := s.draw
  clTransport (orderFrame true false false 0x3F (s.rd R.CL_EPOCH) q.toNat s.chip (activeUnit s) payload) s

/-- A receiver's window: its epoch and the accepted SEQs (15 R400). -/
def winOf (a : Auth) (k : Nat) : Nat × List Nat := smGet (fun _ => ((0 : Nat), ([] : List Nat))) a.win k

/-- A SEQ of an epoch enters a window, which restarts with a new epoch (15 R400). -/
def winPush (k e q : Nat) (a : Auth) : Auth :=
  let w := winOf a k
  let l := if w.1 = e then w.2.filter fun x => decide (q < x + 1024) else []
  { a with win := smSet (fun _ => ((0 : Nat), ([] : List Nat))) a.win k (e, q :: l) }

/-- The holder's new cluster order: SEQ one higher, sent on both transports (15 R399). `resync` marks the first order of a COLD
holder (R410). -/
def clusterOrderR (resync : Bool) (payload : List Word) (s : State) : State × List Word :=
  let q := (s.rd R.CL_SEQ + 1) % 2 ^ 32
  let f := orderFrame true false resync 0x3F (s.rd R.CL_EPOCH) q s.chip (activeUnit s) payload
  let s := s.uClu (winPush 0 (s.rd R.CL_EPOCH) q)
  (clTransport f (throughBus f (s.wr R.CL_SEQ q)), f)

/-- The holder's new cluster order. -/
def clusterOrder (payload : List Word) (s : State) : State := (clusterOrderR false payload s).1

/-! The Etcher's failed pairs (14 R390) -/

/-- PLATE_FAULT_SET follows the set and the window. -/
def faultReg (s : State) : State :=
  s.wr R.PLATE_FAULT_SET (2 ^ 31 * b2n s.repl.window + satN 65535 s.repl.pairs.length)

/-- Pairs of a chip's port bitmap. -/
def pairsOf (chip ports : Nat) : List (Nat × Nat) := ((List.range 16).filter fun p => bitOf ports p).map fun p => (chip, p)

/-- The Etcher adds failed pairs; the first addition opens a COLLECT window. -/
def addPairs (chip ports : Nat) (s : State) : State :=
  let new := (pairsOf chip ports).filter fun x => !s.repl.pairs.contains x
  if new.isEmpty then s.uRepl fun r => { r with cleared := r.cleared.filter fun x => !(pairsOf chip ports).contains x }
  else faultReg (s.uRepl fun r => { r with
    pairs := r.pairs ++ new, window := true, cleared := r.cleared.filter fun x => !(pairsOf chip ports).contains x })

/-- The Etcher notes pairs that are up again; they leave the set at the window's end, or at once when none is open. -/
def clearPairs (gone : List (Nat × Nat)) (s : State) : State :=
  if s.repl.window then s.uRepl fun r => { r with cleared := r.cleared ++ gone.filter fun x => !r.cleared.contains x }
  else faultReg (s.uRepl fun r => { r with pairs := r.pairs.filter fun x => !gone.contains x })

/-- The standby, to which the notes are addressed too, keeps the set without a window (14 R370, R390; 15 R408; log 155). -/
def standbyPairs (chip ports : Nat) (gone : List (Nat × Nat)) (s : State) : State :=
  if s.bit R.CL_STATUS 30 then
    let new := (pairsOf chip ports).filter fun x => !s.repl.pairs.contains x
    faultReg (s.uRepl fun r => { r with pairs := (r.pairs ++ new).filter fun x => !gone.contains x })
  else s

/-- Pairs of a chip that a note of its FAILED ports shows up again, but for those reported with PEER or CABLING, which only an
admitted verdict clears (16 R435). -/
def upPairs (chip ports : Nat) (s : State) : List (Nat × Nat) :=
  s.repl.pairs.filter fun x => x.1 == chip && !bitOf ports x.2 && !bitOf (smGet (fun _ => (0 : Nat)) s.agree.ports chip) (16 + x.2)

/-- The ports of this package that are FAILED, as a bitmap. -/
def failedPorts (s : State) : Nat :=
  (List.range 16).foldl (fun a p => if s.port p = 6 then a + 2 ^ p else a) 0

/-- PORT_DOWN (0x36) or PORT_UP (0x37): every port of the member that is FAILED at this moment (14 R390). -/
def portNote (op : Nat) (s : State) : State :=
  let s := memberOrder [w32 (2 ^ 24 * op + failedPorts s), w32 (65536 * s.chip + s.curPlate)] s
  if isEtcher s then
    clearPairs (upPairs s.chip (failedPorts s) s) (addPairs s.chip (failedPorts s) s)
  else standbyPairs s.chip (failedPorts s) (upPairs s.chip (failedPorts s) s) s

end Sys2Proof.Machine
end

