-- ==== Sys2Proof/Machine/LinkOps.lean ====
section
/-! DEFINITION. Shared operations on laser lines (11 R299–R305), lanes and ports (12): the meanings of chapters 8 to 14 and 18
are written over them. -/

namespace Sys2Proof.Machine

/-! Roles in plate records (13 R355) -/

/-- The lane byte of a slot's record. -/
def laneByte (s : State) (slot code : Nat) : Nat := fieldOf (s.recDw slot (0x400 + code / 4 * 4)) (8 * (code % 4) + 7) (8 * (code % 4))

/-- ROLE of a lane byte: 0 unused, 1 local, 2 express, 3 spare. -/
def roleIn (s : State) (slot : Nat) (tx : Bool) (p n : Nat) : Nat := laneByte s slot (laneCode tx p n) % 4

/-! Laser lines -/

/-- STATE of a line: 0 OFF, 1 STANDBY, 2 LIT, 3 RETIRED (11 R312). -/
def State.line (s : State) (b n : Nat) : Nat := s.fd (R.LAS_LINE b n) 31 30

/-- A port sends a channel locally: its TX lane is sweeping, locking or LIVE and not express (11 R302). -/
def litBy (s : State) (p n : Nat) : Bool := [1, 2, 3].contains (s.lane true p n) && s.role true p n != 2

/-- The fallback plates of the plate in force (13 R365). -/
def fallbackTargets (s : State) : List Nat :=
  (List.range 4).filterMap fun f =>
    let w := s.curRec (0x010 + 8 * f)
    if bitOf w 31 then some (fieldOf w 21 16) else none

/-- A channel is a spare of a port (11 R302, 14 R387), or its line is kept warm for a PREPARE (14 R388). -/
def spareOf (s : State) (p n : Nat) : Bool :=
  s.lane true p n == 5 || s.las.warm.contains (18 * (p / 2) + n) ||
    (s.role true p n == 0 && (fallbackTargets s).any fun t => roleIn s t true p n == 1 || roleIn s t true p n == 3)

/-- The TEC of a port has missed its settling bound: FAULT with no fault bit set. Its banks stay off and its ports FAILED (06 R193; 11
Table 11.4). -/
def tecOut (s : State) (p : Nat) : Bool :=
  let k := p / 4
  s.fd R.TEC_STATE (4 * k + 1) (4 * k) == 3 && s.fd R.TEC_FAULT (4 * k + 2) (4 * k) == 0

/-- The state R302 asks of a line. -/
def lineWant (s : State) (b n : Nat) : Nat :=
  if tecOut s (2 * b) then 0
  else if litBy s (2 * b) n || litBy s (2 * b + 1) n then 2
  else if spareOf s (2 * b) n || spareOf s (2 * b + 1) n then 1
  else 0

/-- A line's current in 0.1 mA, rounded down (11 R299, R302, R303). -/
def lineCurrent (s : State) (b n st : Nat) : Nat :=
  if st = 0 ∨ st = 3 then 0
  else if st = 1 ∨ s.bit R.LAS_STATUS b then s.fd R.LAS_SAFE 15 0
  else min (s.fd R.LAS_LINE_MAX 15 0) ((s.lp (2 * b) 0).dac * 800 * s.fd (R.LAS_LINE b n) 27 16 / (65536 * 2048))

/-- LAS_LINE as it reads: BIAS is the line's current now (11 R299, R312). -/
def lineWord (s : State) (b n : Nat) : Nat := fieldSet (s.rd (R.LAS_LINE b n)) 15 0 (lineCurrent s b n (s.line b n))

/-- A line takes the state R302 asks, unless it is RETIRED. -/
def updLine (b n : Nat) (s : State) : State :=
  if s.line b n = 3 then s else s.fw (R.LAS_LINE b n) 31 30 (lineWant s b n)

/-- A cause of safe power begins: 1 BRINGUP, 2 TEC, 3 RELAY, 4 FORCED (11 R303, 25 Table 25.3a). -/
def safeOn (cause b : Nat) (s : State) : State :=
  let w := s.las.safe.getD b 0
  if bitOf w cause then s
  else
    let s := s.uLas fun x => { x with safe := setAt 0 x.safe b (w + 2 ^ cause) }
    if w = 0 then (s.fw R.LAS_STATUS b b 1).ev Ev.LAS_DERATE b [cause, 1] else s

/-- A cause of safe power ends; the bank leaves safe power with the last one. -/
def safeOff (cause b : Nat) (s : State) : State :=
  let w := s.las.safe.getD b 0
  if !bitOf w cause then s
  else
    let s := s.uLas fun x => { x with safe := setAt 0 x.safe b (w - 2 ^ cause) }
    if w = 2 ^ cause then (s.fw R.LAS_STATUS b b 0).ev Ev.LAS_DERATE b [cause, 0] else s

/-! Lanes -/

/-- Lanes of a direction that hold a slot. -/
def dataLanes (s : State) (tx : Bool) (p : Nat) : List Nat := (List.range 18).filter fun n => s.slot tx p n != 31

/-- A lane usable as a spare: SPARE, and on TX its line not RETIRED (12 R334, 11 R307). -/
def isSpare (s : State) (tx : Bool) (p n : Nat) : Bool := s.lane tx p n == 5 && !(tx && s.line (p / 2) n == 3)

/-- The peer's rotation of an RX lane of this port is under way (12 R340; log 147). -/
def rxRotating (s : State) (p : Nat) : Bool :=
  (s.lk p).rxRot.isSome || (s.lk p).swaps.any fun w => !w.tx && w.why == .rotation

/-- A TX lane of this port rotates and is to return (12 R340). -/
def txRotating (s : State) (p : Nat) : Bool := match (s.lk p).rot with
  | some r => !r.wear && s.lane true p r.spare != 5
  | none => false

/-- The usable spares of a direction. The spare of a rotation counts, for a fault swap can have it (12 R342; log 19). -/
def spares (s : State) (tx : Bool) (p : Nat) : Nat :=
  ((List.range 18).filter fun n => isSpare s tx p n).length + b2n (if tx then txRotating s p else rxRotating s p)

/-- LNK_STATUS's counts of data lanes and spares. -/
def laneCounts (p : Nat) (s : State) : State :=
  let s := s.fw (R.LNK_STATUS p) 28 24 (dataLanes s false p).length
  let s := s.fw (R.LNK_STATUS p) 20 16 (dataLanes s true p).length
  let s := s.fw (R.LNK_STATUS p) 15 12 (spares s false p)
  s.fw (R.LNK_STATUS p) 11 8 (spares s true p)

/-- A port's entry into a state, with QPORTS and the event of ACTIVE and DEGRADED (12 R332, 16 R438). -/
def portSet (p st : Nat) (s : State) : State :=
  let old := s.port p
  let s := (s.fw (R.LNK_STATUS p) 3 0 st).fw R.AGREE_STATUS p p (b2n (st = 3))
  if old = st then s
  else if st = 4 then (s.uLk p fun L => { L with starve := (s.ticks, 0) }).ev Ev.PORT_ACTIVE p []
  else if st = 5 then s.ev Ev.PORT_DEGRADED p []
  else s

/-- The ACTIVE or DEGRADED a port's spares give it (12 Table 12.4). -/
def upState (s : State) (p : Nat) : Nat := if spares s true p ≠ 0 ∧ spares s false p ≠ 0 then 4 else 5

/-- Counts follow the lanes, and an ACTIVE or DEGRADED port follows its spares; waiting packets may leave. -/
def recount (p : Nat) (s : State) : State :=
  let s := laneCounts p s
  pump p (if s.port p = 4 ∨ s.port p = 5 then portSet p (upState s p) s else s)

/-- The line goes to RETIRED with its event; both sibling ports count one spare less (11 R305, R307). -/
def retireLine (b n : Nat) (s : State) : State :=
  if s.line b n = 3 then s
  else recount (2 * b + 1) (recount (2 * b) ((s.fw (R.LAS_LINE b n) 31 30 3).ev Ev.LINE_RETIRED (18 * b + n) []))

/-- A PREPARE is outstanding, or an apply has not ended (12 R341, 14 R373). -/
def replateOpen (s : State) : Bool := s.repl.open_.isSome || s.repl.app.isSome

/-- A line with WEAR_DUE retires once neither sibling port has a slot on its channel (11 R305; log 145). -/
def wearEnd (b n : Nat) (s : State) : State :=
  if s.bit (R.LAS_LINE b n) 29 && s.slot true (2 * b) n == 31 && s.slot true (2 * b + 1) n == 31 then retireLine b n s else s

/-- A lane that stops sending begins anew the next time (12 R321). -/
def sendStop (p n st : Nat) (s : State) : State :=
  if st = 2 ∨ st = 3 ∨ (s.ls true p n).sent = 0 then s else s.uLs true p n fun x => { x with sent := 0 }

/-- Set a lane's STATE; a TX lane's line follows (11 R302), and the link reference follows the RX lanes of its port (03 R78, R79). -/
def setLane (tx : Bool) (p n st : Nat) (s : State) : State :=
  let s := s.fw (laneReg tx p n) 31 28 st
  if tx then updLine (p / 2) n (sendStop p n st s) else if p = s.fd R.CLK_REF_CFG 7 4 then linkFollow s else s

/-- Set a lane's SLOT and REMAPPED. -/
def setSlot (tx : Bool) (p n slot : Nat) (remapped : Bool) (s : State) : State :=
  (s.fw (laneReg tx p n) 20 16 slot).fw (laneReg tx p n) 25 25 (b2n remapped)

/-- The ring that a lane's state tracks (07 R203, 12 R316). -/
def laneRing (s : State) (tx : Bool) (p n : Nat) : Nat := ringSlot tx (s.role tx p n == 2) n

/-- The lock point of that ring. -/
def laneCodeWord (s : State) (tx : Bool) (p n : Nat) : Option Nat :=
  if tx && s.role tx p n == 2 then (s.ls tx p n).code1 else (s.ls tx p n).code0

/-- Record the lock point of that ring: its INTEG. -/
def recordCode (tx : Bool) (p n : Nat) (s : State) : State :=
  let w := s.coef p (laneRing s tx p n) 10
  if tx && s.role tx p n == 2 then s.uLs tx p n fun x => { x with code1 := some w, fails := 0 }
  else s.uLs tx p n fun x => { x with code0 := some w, fails := 0 }

/-- Park a lane's ring (12 Table 12.1): INTEG at the park word, MODE OPEN. -/
def parkLane (tx : Bool) (p n : Nat) (s : State) : State :=
  let l := laneRing s tx p n
  ringMove p l (parkWord s p l (laneCodeWord s tx p n)) 3 s

/-- The code about which a lane's sweep looks, and half its window (12 R317): the last lock code and HALF, or at bring-up the
RINGS table's START and HALF (06 R168). -/
def sweepAim (s : State) (tx : Bool) (p n : Nat) : Nat × Nat :=
  match laneCodeWord s tx p n with
  | some c => (c / 65536, s.fd (R.LNK_SWEEP_CFG p) 31 16)
  | none => let w := ringDw s p (laneRing s tx p n) 0; (w / 65536, w % 65536)

/-- Start a lane's sweep (12 R317): from the expected code less HALF, in steps of STEP. -/
def sweepLane (tx : Bool) (p n : Nat) (s : State) : State :=
  let l := laneRing s tx p n
  let a := sweepAim s tx p n
  let s := wqPush p l 14 (s.fd (R.LNK_SWEEP_CFG p) 15 0 * 65536) s
  let s := ringMove p l (wrapN 32 (((a.1 : Int) - a.2) * 65536)) 2 s
  setLane tx p n 1 (s.uLs tx p n fun x => { x with conf := false, vac := false, sweep := none })

/-- Move a lane's ring from park to lock (14 R381): LOCKING at its recorded lock code, or SWEEP without one (12 Table 12.1; log 144). -/
def lockLane (tx : Bool) (p n : Nat) (s : State) : State :=
  match laneCodeWord s tx p n with
  | some c =>
    let s := ringMove p (laneRing s tx p n) c 1 s
    setLane tx p n 2 (s.uLs tx p n fun x => { x with conf := false, vac := false })
  | none => sweepLane tx p n s

/-- What keeps a lane of a role DARK (12 Table 12.1): on TX its port shut or, but for EXPRESS, its bank off for want of its TEC; the
port's domain off or in reset, but for EXPRESS, whose light needs no port domain (05 R133). -/
def laneBlocked (s : State) (tx : Bool) (p role : Nat) : Bool :=
  (tx && s.bit R.LAS_SHUT p) || (role != 2 && (!s.domUp (0x80 + p) || (tx && tecOut s p)))

/-- The setting of an RX lane's selector (07 Table 7.2): EXPRESS while the lane is expressed, RECEIVE otherwise. -/
def selWant (s : State) (p n : Nat) : Bool := s.role false p n == 2 && !([0, 5, 6].contains (s.lane false p n))

/-- The selectors of a port follow its lanes: the setpoint of each that changes is queued (07 R203; 14 R381, R382; log 60). -/
def selFollow (p : Nat) (s : State) : State :=
  (List.range 18).foldl (fun s n =>
    let w := selWant s p n
    if (s.ls false p n).expr = w then s
    else wqPush p (56 + n) 2 (Config.elementPoint (0x7F0 + 18 * p + n) w).toNat (s.uLs false p n fun x => { x with expr := w })) s

/-- A lane becomes SPARE: parked, with no slot. -/
def toSpare (tx : Bool) (p n : Nat) (uncal : Bool) (s : State) : State :=
  let s := parkLane tx p n s
  setLane tx p n 5 ((s.fw (laneReg tx p n) 24 24 (b2n uncal)).uLs tx p n fun x => { x with
    recover := false, conf := false, vac := false })

/-- A lane becomes RETIRED with a cause (12 Table 12.6): 1 LOCK, 2 MISMATCH, 3 LINE, 4 FEC, 5 COMMAND. -/
def toRetired (tx : Bool) (p n cause : Nat) (s : State) : State :=
  let s := parkLane tx p n s
  let s := (s.fw (laneReg tx p n) 3 0 cause).uLs tx p n fun x => { x with recover := false, conf := false, vac := false, retire := 0 }
  let s := setLane tx p n 6 s
  if tx then wearEnd (p / 2) n s else byScribe (selFollow p) s

/-- A dark capture of a lane is ordered (08 R224), unless one of it or of all pixels runs. -/
def orderDark (lane : Option Nat) (s : State) : State :=
  if s.proof.caps.any (fun c => c.lane == lane || c.lane == none) then s
  else (s.uProof fun x => { x with caps := x.caps ++ [⟨lane, 0, [], [], s.proof.frame⟩] }).fw R.PROOF_STATUS 3 3 1

/-- A lane is vacated: it sends nothing, and its dark frame is ordered (08 R224; 12 R336, R340). -/
def vacate (tx : Bool) (p n : Nat) (s : State) : State :=
  orderDark (some (laneCode tx p n)) (s.uLs tx p n fun x => { x with vac := true, conf := false })

/-- A roll that is due in a vacated lane's ring runs at the first slot from now on (10 R275; 12 R340). -/
def vacateRoll (tx : Bool) (p n : Nat) (s : State) : State :=
  let l := laneRing s tx p n
  if s.bit (R.STY_ROLL_DUE p (l / 32)) (l % 32) then
    s.uSty fun t => { t with vacated := t.vacated.filter (· != 256 * p + l) ++ [256 * p + l] }
  else s

/-- A vacated lane's sweep begins once its dark frame is captured and no roll of its ring is due or under way (12 R336, R340). -/
def vacSweep (tx : Bool) (p n : Nat) (s : State) : State :=
  let l := laneRing s tx p n
  let x := s.lp p l
  if (s.ls tx p n).vac && !s.proof.caps.any (fun c => c.lane == some (laneCode tx p n)) && !s.sty.vacated.contains (256 * p + l)
      && x.guard == 0 && !x.rolling then sweepLane tx p n s
  else s

/-- A lane goes to recovery (12 R336): its dark frame, then sweep and check (log 16). -/
def toRecovery (tx : Bool) (p n : Nat) (s : State) : State := vacate tx p n (s.uLs tx p n fun x => { x with recover := true })

/-- A faulted lane after its traffic has moved (12 Table 12.5). -/
def afterFault (tx : Bool) (p n : Nat) (s : State) : State :=
  let c := (s.ls tx p n).retire
  if c = 0 then toRecovery tx p n s else toRetired tx p n c s

/-! Ports -/

/-- The port enters FAILED (12 R332): PORT_FAILED with the cause (1 TRAIN, 2 CRED, 3 RETRY, 4 LANES, 5 SHUT), PORT_DOWN (14 R390). -/
def enterFailed (p cause : Nat) (s : State) : State :=
  if s.port p = 6 then s
  else portNote 0x36 ((portSet p 6 s).ev Ev.PORT_FAILED p [cause])

/-- The own TRAIN (12 Table 12.3). -/
def trainMsg (s : State) (p : Nat) : List Nat :=
  let bm := fun (f : Nat → Bool) => (List.range 18).foldl (fun a n => if f n then a + 2 ^ n else a) 0
  [s.chip, p, s.curPlate, bm (fun n => s.slot true p n != 31), bm (fun n => isSpare s true p n),
   bm (fun n => s.bit (laneReg false p n) 8)]

/-- Send TRAIN. -/
def sendTrain (p : Nat) (s : State) : State := lctl p 0x01 (trainMsg s p) s

/-- The port trains (12 R330): credits restart (17 R443), the exchange starts anew (R331), PORT_UP when it leaves FAILED. -/
def enterTraining (p : Nat) (s : State) : State :=
  let was := s.port p
  let s := s.uLk p fun L => { L with
    train := none, swaps := [], held := [], cred := none, ownV := (0, 0), peerV := none,
    rxRot := none, rxAsks := [], sent := List.replicate 10 0, freed := List.replicate 10 0, mine := List.replicate 10 0 }
  let s := portSet p 1 s
  let s := (List.range 18).foldl (fun s n => [true, false].foldl (fun s tx =>
    if s.slot tx p n != 31 && s.lane tx p n == 0 && !laneBlocked s tx p 1 then lockLane tx p n s else s) s) s
  let s := sendTrain p s
  if was = 6 then portNote 0x37 s else s

/-- The verdict of a port's tags (18 Table 18.5). -/
def verdict (s : State) (p : Nat) : Nat := s.fd (R.HMK_P_STATUS p) 31 28

/-- A port begins TRAINING only under MATCH, or under LOOPBACK in loopback; otherwise it is FAILED (18 R490). The cause of that
PORT_FAILED, for which Table 25.3 has no code, is a free value (log 20). A port whose domain is off stays DARK, and one whose TEC never
settled stays as it is (12 Table 12.4; 06 R193). -/
def tryTrain (p : Nat) (s : State) : State :=
  if !s.domUp (0x80 + p) ∨ tecOut s p then s
  else if verdict s p = 1 ∨ (s.bit (R.LNK_STATUS p) 4 ∧ verdict s p = 2) then enterTraining p s
  else if s.port p = 6 then s
  else
    let (c, s) := s.draw
    enterFailed p c.toNat s

/-- Own RX lanes with codeword lock on every lane the peer declares, the peer's on every own one, plates matching (12 R330). -/
def trained (s : State) (p : Nat) : Bool :=
  match (s.lk p).train with
  | none => false
  | some m => m.plate.toNat == s.curPlate && !(dataLanes s true p).isEmpty && (List.range 18).all fun n =>
      (!bitOf m.txLocal.toNat n || s.bit (laneReg false p n) 8) && (s.slot true p n == 31 || bitOf m.rxLock.toNat n)

/-- PHASE goes from SWITCH to LINK once every touched port is trained (14 Table 14.3, step 8). -/
def phaseLink (s : State) : State :=
  if s.fd R.PLATE_RP_STATUS 31 28 = 4 ∧ !((List.range 16).any fun p => s.bit R.PLATE_RP_PORTS p && s.port p == 1 && !trained s p) then
    s.fw R.PLATE_RP_STATUS 31 28 5
  else s

/-- The port enters CREDENTIALS (12 R331). -/
def enterCred (p : Nat) (s : State) : State :=
  phaseLink (portSet p 2 (s.uLk p fun L => { L with cred := none, ownV := (0, 0), peerV := none }))

/-- The port enters ACTIVE or DEGRADED. -/
def enterUp (p : Nat) (s : State) : State := pump p (portSet p (upState s p) (laneCounts p s))

/-- Training ends: CREDENTIALS, or in loopback ACTIVE or DEGRADED (12 R330, R343). -/
def trainEnd (p : Nat) (s : State) : State := if s.bit (R.LNK_STATUS p) 4 then enterUp p s else enterCred p s

/-- A touched port begins CREDENTIALS only after step 9 of its apply (14 R381). -/
def applyWaits (s : State) (p : Nat) : Bool := match s.repl.app with
  | some a => a.switched && !a.relock && s.bit R.PLATE_RP_PORTS p
  | none => false

/-- A port in TRAINING whose conditions hold ends it. -/
def trainCheck (p : Nat) (s : State) : State :=
  if s.port p ≠ 1 ∨ !trained s p then s else if applyWaits s p then phaseLink s else trainEnd p s

/-! Swaps (12 R333–R337) -/

/-- The lowest usable spare. -/
def lowSpare (s : State) (tx : Bool) (p : Nat) : Option Nat := lowest 18 fun n => isSpare s tx p n

/-- A slot is dropped for want of a spare (12 R337); below MIN_LANES the port fails with cause LANES. -/
def laneLost (tx : Bool) (p n : Nat) (s : State) : State :=
  let s := (setSlot tx p n 31 true s).ev Ev.LANE_LOST (laneCode tx p n) []
  let s := afterFault tx p n s
  let s := recount p s
  if (dataLanes s tx p).length < s.fd (R.LNK_CFG p) 28 24 then enterFailed p 4 s else s

/-- A SWAP_REQ's content (12 Table 12.3): direction, slot, old and new channel, cause (log 147). -/
def swapFields (tx : Bool) (slot old new : Nat) (why : SwapWhy) : List Nat :=
  [b2n tx, slot, old, new, match why with
    | .recover => 0
    | .mismatch => 2
    | .line => 3
    | .command => 5
    | .rotation => 6]

/-- Start a swap: the new channel's ring goes to lock and its line to LIT (12 R334). `own`: this end asks for it by SWAP_REQ. -/
def beginSwap (tx : Bool) (p slot old new : Nat) (own : Bool) (why : SwapWhy) (s : State) : State :=
  let s := if own then lctl p 0x07 (swapFields tx slot old new why) s else s
  let s := s.uLk p fun L => { L with swaps := L.swaps ++ [⟨tx, slot, old, new, false, own, why, 0⟩] }
  recount p (if s.lane tx p new = 5 then lockLane tx p new s else s)

/-- The rotation ends with ROT_DONE. -/
def rotEnd (p ch : Nat) (s : State) : State :=
  let s := s.uLk p fun L => { L with rot := none, starve := (s.ticks, 0) }
  let s := (s.fw (R.LNK_ROT_STATUS p) 31 28 0).fw (R.LNK_STATUS p) 31 31 0
  recount p ((s.sat (R.LNK_ROT_CNT p) 15 0 1).ev Ev.ROT_DONE (laneCode true p ch) [])

/-- A rotation ends before its lane has returned: by its phase, the spare or the lane becomes SPARE, at the peer too by LANE_ROLE
(12 R342; log 147). -/
def rotUndo (p : Nat) (r : Rot) (s : State) : State :=
  let s := s.uLk p fun L => { L with rot := none }
  let s := (s.fw (R.LNK_ROT_STATUS p) 31 28 0).fw (R.LNK_STATUS p) 31 31 0
  if r.phase ≤ 2 then lctl p 0x0A [1, r.spare, 5] (toSpare true p r.spare false (setSlot true p r.spare 31 false s))
  else lctl p 0x0A [1, r.ch, 5] (toSpare true p r.ch (r.phase = 3) (setSlot true p r.ch 31 true s))

/-- The rotation gives S back (12 R342); one that has returned and only parks S ends as it would (log 147). -/
def rotBack (p : Nat) (s : State) : State :=
  match (s.lk p).rot with
  | none => s
  | some r =>
    if r.phase = 5 then rotEnd p r.ch (toSpare true p r.spare false s)
    else recount p ((((rotUndo p r s).uLk p fun L => { L with starve := (L.starve.1, L.starve.2 + 1) }).sat (R.LNK_ROT_CNT p) 31 16 1).ev Ev.ROT_BACKOUT (laneCode true p r.ch) [])

/-- The peer's rotation gives its channel back at this end (12 R342; log 147). -/
def rxBack (p : Nat) (s : State) : State :=
  match (s.lk p).swaps.find? fun w => !w.tx && w.why == .rotation with
  | some w => toSpare false p w.new false (s.uLk p fun L => { L with swaps := L.swaps.filter (· != w), rxRot := none })
  | none => s

/-- A fault swap takes the channel of a rotation that holds the only spare and does not calibrate (12 R342). -/
def rotYield (tx : Bool) (p : Nat) (s : State) : State :=
  if !tx then rxBack p s
  else match (s.lk p).rot with
    | some r => if r.phase = 3 then s else rotBack p s
    | none => s

/-- A slot dropped while the port's rotation calibrates its lane is owed the lane (12 R342). -/
def oweSlot (p slot n : Nat) (s : State) : State :=
  s.uLk p fun L => { L with rot := L.rot.map fun r => if r.phase = 3 then { r with owed := r.owed ++ [(slot, n)] } else r }

/-- A lane fault on a data lane (12 R333, R337, R342): a swap already moving the lane goes on; otherwise the lowest usable spare,
the rotation's if there is no other; otherwise the slot is dropped. -/
def swapLane (tx : Bool) (p n : Nat) (why : SwapWhy) (s : State) : State :=
  if (s.lk p).swaps.any (fun w => w.tx == tx && w.old == n) then s
  else
    let s := if (lowSpare s tx p).isSome then s else rotYield tx p s
    match lowSpare s tx p with
    | some m => beginSwap tx p (s.slot tx p n) n m true why s
    | none => laneLost tx p n (if tx then oweSlot p (s.slot tx p n) n s else s)

/-- The cause a SWAP_REQ states for a RETIRE_CAUSE, and back (12 Table 12.5, Table 12.6). -/
def whyOf (retire : Nat) : SwapWhy := if retire = 2 then .mismatch else if retire = 3 then .line else if retire = 5 then .command else .recover

/-- The RETIRE_CAUSE that a SWAP_REQ's cause gives the old lane, 0 for none. -/
def retireOf : SwapWhy → Nat
  | .mismatch => 2
  | .line => 3
  | .command => 5
  | .recover => 0
  | .rotation => 0

/-- A lane fault (12 Table 12.5): `retire` is the RETIRE_CAUSE of a lane that retires, 0 for one that goes to recovery. An EXPRESS
lane re-locks in place (R338); a lane without a slot goes straight to recovery or RETIRED. -/
def faultLane (tx : Bool) (p n retire : Nat) (s : State) : State :=
  let st := s.lane tx p n
  if st = 6 ∨ ((s.ls tx p n).vac = true ∧ retire = 0) then s
  else
    let s := s.uLs tx p n fun x => { x with retire := if retire = 0 then x.retire else retire }
    if st = 4 ∧ retire = 0 then sweepLane tx p n s
    else if s.slot tx p n ≠ 31 then swapLane tx p n (whyOf retire) s
    else if st = 0 then s
    else recount p (afterFault tx p n s)

/-- What becomes of the old lane of a finished swap: recovery or RETIRED after a fault (12 Table 12.5); in the peer's rotation the lane
is vacated for its calibration, and the spare is parked when the lane has returned (12 R340, Table 12.7). -/
def swapAfter (w : Swap) (p : Nat) (s : State) : State :=
  if w.why != .rotation then afterFault w.tx p w.old s
  else if (s.lk p).rxRot == some (w.new, w.old) then toSpare w.tx p w.old false (s.uLk p fun L => { L with rxRot := none })
  else vacateRoll w.tx p w.old (vacate w.tx p w.old (s.uLk p fun L => { L with rxRot := some (w.old, w.new) }))

/-- A swap is done: the remap binds the slot to the new channel (12 R334), which no hold of the old one stops (R327). A lane whose slot had
been dropped (R342) is left as it is. -/
def swapDone (w : Swap) (p : Nat) (s : State) : State :=
  let s := s.uLk p fun L => { L with swaps := L.swaps.filter (· != w), held := if w.tx then L.held.filter (· != w.slot) else L.held }
  let s := if w.tx then s else s.uLs false p w.old fun x => { x with heldRx := false }
  let had := s.slot w.tx p w.old == w.slot
  let s := setSlot w.tx p w.new w.slot true (if had then setSlot w.tx p w.old 31 true s else s)
  let s := (s.sat (R.LNK_LANE_SWAPS p (b2n w.tx) w.old) 31 0 1).sat (R.LNK_LANE_SWAPS p (b2n w.tx) w.new) 31 0 1
  let s := s.ev Ev.LANE_SWAP (laneCode w.tx p w.old) [laneCode w.tx p w.new]
  let s := setLane w.tx p w.new 3 s
  recount p (if had then swapAfter w p s else s)

/-! Plates on a port (12 R315, R316; 14 R379) -/

/-- One lane takes its role under the plate in force. `slot`: its place among the local lanes. -/
def roleLane (tx : Bool) (p n slot : Nat) (s : State) : State :=
  let r := roleIn s s.curPlate tx p n
  let was := s.lane tx p n
  let oldRole := s.role tx p n
  let s := if was ≠ 0 ∧ was ≠ 6 ∧ ringSlot tx (oldRole == 2) n ≠ ringSlot tx (r == 2) n then parkLane tx p n s else s
  let s := s.fw (laneReg tx p n) 27 26 r
  let s := setSlot tx p n 31 false s
  if was = 6 ∧ r ≠ 0 then s
  else if r = 0 then
    let s := if was = 0 then s else parkLane tx p n s
    setLane tx p n 0 (s.fw (laneReg tx p n) 3 0 0)
  else
    let s := if r = 1 then s.fw (laneReg tx p n) 20 16 slot else s
    if laneBlocked s tx p r then setLane tx p n 0 (if was = 0 then s else parkLane tx p n s)
    else if r = oldRole ∧ (was = 3 ∨ was = 4 ∨ (was = 5 ∧ r = 3)) then setLane tx p n was s
    else lockLane tx p n s

/-- All lanes of a direction take their roles; local lanes are numbered in ascending channel order (12 R315). -/
def roleLanes (tx : Bool) (p : Nat) (s : State) : State :=
  ((List.range 18).foldl (fun (a : State × Nat) n =>
    let loc := roleIn a.1 a.1.curPlate tx p n == 1
    (roleLane tx p n a.2 a.1, if loc then a.2 + 1 else a.2)) (s, 0)).1

/-- A local lane that is RETIRED is replaced by the lowest usable spare of the new plate, or its slot is dropped (12 R315). -/
def replaceRetired (tx : Bool) (p : Nat) (s : State) : State :=
  ((List.range 18).foldl (fun (a : State × Nat) n =>
    if roleIn a.1 a.1.curPlate tx p n != 1 then a
    else
      let s := a.1
      let s := if s.lane tx p n != 6 then s
        else match lowest 18 (fun m => s.role tx p m == 3 && !([0, 6].contains (s.lane tx p m)) && s.slot tx p m == 31
            && !(tx && s.line (p / 2) m == 3)) with
          | some m => lockLane tx p m (setSlot tx p m a.2 true s)
          | none => s.ev Ev.LANE_LOST (laneCode tx p n) []
      (s, a.2 + 1)) (s, 0)).1

/-- The port's lanes take their roles under the plate in force; the remap is cleared (12 R315). -/
def rolesOnPort (p : Nat) (s : State) : State :=
  let s := s.uLk p fun L => { L with swaps := [], rot := none, asks := [], rxAsks := [], rxRot := none, now := none }
  let s := (s.fw (R.LNK_ROT_STATUS p) 31 28 0).fw (R.LNK_STATUS p) 31 31 0
  let s := s.fw (R.LNK_STATUS p) 4 4 0
  let s := replaceRetired false p (replaceRetired true p (roleLanes false p (roleLanes true p s)))
  laneCounts p (if s.repl.app.isSome then s else byScribe (selFollow p) s)

/-- The port takes its peer under the plate in force, and is DARK or trains (12 R329; 13 R352). -/
def linkOnPort (p : Nat) (s : State) : State :=
  let a := s.curRec (0x050 + 16 * p)
  let mode := fieldOf a 31 28
  let s := s.wr (R.LNK_PEER p) (if mode = 0 then 0 else 2 ^ 31 + fieldOf a 19 16 * 65536 + fieldOf a 13 0)
  if s.bit R.LAS_SHUT p then s
  else if mode = 0 ∨ !s.domUp (0x80 + p) then (if s.port p = 6 then portNote 0x37 (portSet p 0 s) else portSet p 0 s)
  else tryTrain p s

/-- The port takes the plate in force. -/
def plateOnPort (p : Nat) (s : State) : State := linkOnPort p (rolesOnPort p s)

/-! Optical interlocks (11 R308–R310) -/

/-- An open port is shut within 100 µs (11 R309); cause 0 tag, 1 input. -/
def portShut (p cause : Nat) (s : State) : State :=
  let was := s.bit R.LAS_SHUT p
  let s := s.fw R.LAS_SHUT_CAUSE (16 * cause + p) (16 * cause + p) 1
  if was then s
  else
    let s := (s.fw R.LAS_SHUT p p 1).uLas fun x => { x with voaMax := x.voaMax.filter (· != p) ++ [p] }
    let s := (List.range 18).foldl (fun s n =>
      let s := ringMove p (38 + n) (parkWord s p (38 + n) (s.ls true p n).code0) 3 s
      let s := ringMove p (20 + n) (parkWord s p (20 + n) (s.ls true p n).code1) 3 s
      if s.lane true p n = 6 then s else setLane true p n 0 s) s
    enterFailed p 5 ((laneCounts p s).ev Ev.LAS_PORT_SHUT p [cause])

/-- A DARK lane that the plate gives a role takes it up again. -/
def lightLane (tx : Bool) (p n : Nat) (s : State) : State :=
  if s.lane tx p n = 0 ∧ s.role tx p n ≠ 0 ∧ !laneBlocked s tx p (s.role tx p n) then lockLane tx p n s else s

/-- The port clears LAS_SHUT and trains (11 R310). -/
def portRestore (p : Nat) (s : State) : State :=
  if !s.bit R.LAS_SHUT p then s
  else
    let s := (s.fw R.LAS_SHUT p p 0).uLas fun x => { x with voaMax := x.voaMax.filter (· != p) }
    let s := (s.fw R.LAS_SHUT_CAUSE p p 0).fw R.LAS_SHUT_CAUSE (16 + p) (16 + p) 0
    let s := (List.range 18).foldl (fun s n => lightLane true p n s) (s.ev Ev.LAS_PORT_RESTORE p [])
    tryTrain p (laneCounts p s)

/-! Bring-up's lanes (06 Table 6.8, 6b–6d; log 11) -/

/-- A lane is still sweeping, or its lock is not yet confirmed. -/
def laneOpen (s : State) : Bool :=
  (List.range 16).any fun p => (List.range 18).any fun n => [true, false].any fun tx =>
    s.lane tx p n == 1 || (s.lane tx p n == 2 && !(s.ls tx p n).conf)

/-- In PHOTONICS, once every lane has locked or failed, the bring-up's dark frames are ordered (Table 6.8, 6c and 6d). -/
def photonicsCheck (s : State) : State :=
  if s.top = 3 ∧ s.boot.photo = 1 ∧ !laneOpen s then orderDark none (s.uBoot fun b => { b with photo := 2 }) else s

/-- In PHOTONICS, once every TEC has settled or failed, the lines come on at safe power and the rings sweep (Table 6.8, 6a to 6c). -/
def lasersOn (s : State) : State :=
  if s.top = 3 ∧ s.boot.photo = 0 ∧ (List.range 4).all (fun k => s.fd R.TEC_STATE (4 * k + 1) (4 * k) != 1) then
    photonicsCheck ((List.range 16).foldl (fun s p => rolesOnPort p s) (s.uBoot fun b => { b with photo := 1 }))
  else s

/-- The port takes the plate in force as its domain comes up: its lanes once bring-up has lit them, its link once LINKS has begun (12
Table 12.1, Table 12.4). -/
def portWake (p : Nat) (s : State) : State :=
  if s.top = 4 ∨ s.top = 5 then plateOnPort p s
  else if s.top = 3 ∧ s.boot.photo ≠ 0 then rolesOnPort p s
  else s

/-- A cause of a shut clears: 0 tag, 1 input. The port restores once both are clear (11 R310). -/
def shutClear (p cause : Nat) (s : State) : State :=
  let s := s.fw R.LAS_SHUT_CAUSE (16 * cause + p) (16 * cause + p) 0
  if s.bit R.LAS_SHUT p ∧ !s.bit R.LAS_SHUT_CAUSE p ∧ !s.bit R.LAS_SHUT_CAUSE (16 + p) then portRestore p s else s

end Sys2Proof.Machine
end

