-- ==== Sys2Proof/Machine/Proof.lean ====
section
/-! DEFINITION. The Proof array and pipeline (08), with the laser interlock that reads its proofs (11 R308). Rows CIC_OUTPUT to
TELEMETRY_PERIOD_END. -/

namespace Sys2Proof.Machine

/-! Pixels (08 R214–R217) -/

/-- Pixels of the row and residue blocks, and of all three. -/
def pixRows : Nat := 1920

/-- All pixels. -/
def pixAll : Nat := 3072

/-- Block 0 row, 1 residue, 2 plane; row; column of a pixel. -/
def pixAt (x : Nat) : Nat × Nat × Nat :=
  if x < 960 then (0, x / 20, x % 20) else if x < 1920 then (1, (x - 960) / 20, (x - 960) % 20)
  else (2, (x - 1920) / 64, (x - 1920) % 64)

/-- The pixel of a block, row and column. -/
def pixOf (blk r n : Nat) : Nat := if blk = 2 then 1920 + 64 * r + n else 960 * blk + 20 * r + n

/-- A channel pixel: columns 0–17 of the row and residue blocks. -/
def isChan (x : Nat) : Bool := let (b, _, n) := pixAt x; b != 2 && n < 18

/-- The four pixels a lane owns (08 R217). -/
def lanePix (c : Nat) : List Nat :=
  match laneParts c with
  | none => []
  | some (tx, p, n) =>
    if tx then [60 * p + 20 + n, 60 * p + 40 + n, 980 + 60 * p + n, 1000 + 60 * p + n] else [60 * p + n, 960 + 60 * p + n]

/-! Sampling (08 R219, R220) -/

/-- The CIC's coefficients (08 R220). -/
def cicH : List Nat := [1, 3, 6, 10, 15, 21, 28, 36, 42, 46, 48, 48, 46, 42, 36, 28, 21, 15, 10, 6, 3, 1]

/-- D of the newest 22 samples, newest first (08 R220). -/
def cicD (samples : List Nat) : Nat := (List.zipWith (· * ·) cicH samples).foldl (· + ·) 0 / 32

/-- CIC_OUTPUT (08 R220). -/
def execCicOutput (x : Fin 3072) (samples : List (BitVec 12)) (s : State) : Host.Outcome State Fault Refusal :=
  if samples.length ≠ 8 then .fault .illFormed
  else if !s.proof.run then done s
  else
    let ws := samples.map (·.toNat)
    let h := (ws.reverse ++ smGet (fun _ => []) s.proof.hist x).take 22
    let o : PixOut := ⟨cicD h, ws.any (fun v => v == 0 || v == 4095), ws.any (· == 4095), ws⟩
    done (s.uProof fun t => { t with
      hist := smSet (fun _ => []) t.hist x h, outs := smSet (fun _ => ⟨0, false, false, []⟩) t.outs x o })

/-! The five stages (08 R223–R227) -/

/-- A pixel is defective in either map (08 R225). -/
def defective (s : State) (x : Nat) : Bool :=
  s.bit (R.PROOF_DEFECT_IMG (x / 32)) (x % 32) || s.bit (R.PROOF_DEFECT_LIVE (x / 32)) (x % 32)

/-- A MIX coefficient, j from −2 to 2 given as j + 2 (08 Table 8.7). -/
def mixC (s : State) (blk r n j : Nat) : Int := sgn 16 (s.rd (R.PROOF_MIX (((blk * 48 + r) * 18 + n) * 5 + j)))

/-- CG of a row, zero for the plane block, which has none. -/
def clearGain (s : State) (blk r : Nat) : Nat := if blk = 2 then 0 else s.fd (R.PROOF_CLEAR_GAIN (48 * blk + r)) 15 0

/-- Stages 1 and 3 of a pixel from its D (08 R223). -/
def stage3 (s : State) (x d : Nat) : Int :=
  asr (((d : Int) - s.fd (R.PROOF_DARK x) 15 0) * s.fd (R.PROOF_SHADE x) 15 0) 14

/-- The D of a pixel in the frame being processed. -/
def pixOut (s : State) (x : Nat) : PixOut := smGet (fun _ => ⟨0, false, false, []⟩) s.proof.outs x

/-- The sum of stage-3 values of a row's channel pixels other than `skip`. -/
def rowSum (s : State) (blk r : Nat) (skip : Nat) : Int :=
  (List.range 18).foldl (fun a n => if n = skip then a else a + stage3 s (pixOf blk r n) (pixOut s (pixOf blk r n)).d) 0

/-- Defective channel pixels of a row. -/
def rowDefects (s : State) (blk r : Nat) : Nat := ((List.range 18).filter fun n => defective s (pixOf blk r n)).length

/-- The stage-3 value a pixel enters stage 4 with: itself, the balance with SUB, or its last good value with HELD (08 R226). -/
def stage3Sub (s : State) (x : Nat) : Int × Bool × Bool :=
  let (blk, r, n) := pixAt x
  if !defective s x then (stage3 s x (pixOut s x).d, false, false)
  else
    let cg := clearGain s blk r
    let held := (smGet (fun _ => (0 : Int)) s.proof.good x, false, true)
    if blk = 2 ∨ cg = 0 ∨ n = 19 then held
    else if n = 18 then
      if rowDefects s blk r = 0 then (tdivI (rowSum s blk r 18 * 16384) cg, true, false) else held
    else if rowDefects s blk r = 1 ∧ !defective s (pixOf blk r 18) then
      let c := pixOf blk r 18
      (max 0 (asr (stage3 s c (pixOut s c).d * cg) 14 - rowSum s blk r n), true, false)
    else held

/-- Stage 4 (08 R223). -/
def stage4 (s : State) (x : Nat) : Int :=
  let (blk, r, n) := pixAt x
  if !isChan x then (stage3Sub s x).1
  else asr ((List.range 5).foldl (fun a j =>
    if 2 ≤ n + j ∧ n + j ≤ 19 then a + mixC s blk r n j * (stage3Sub s (pixOf blk r (n + j - 2))).1 else a) 0) 14

/-- A curve entry. -/
def curve (s : State) (i : Nat) : Int := sgn 16 (s.rd (R.PROOF_CURVE i))

/-- Stage 5: the value in Q8.8 dBm and LOW (08 R227). -/
def stage5 (s : State) (v4 : Int) : Int × Bool :=
  let v := (clampI 0 65535 v4).toNat
  if v = 0 then (curve s 0, true)
  else
    let e := Nat.log2 v
    let sh := if 4 ≤ e then e - 4 else 0
    let idx := 16 * e + (if 4 ≤ e then v >>> sh else v <<< (4 - e)) % 16
    let f := v % 2 ^ sh
    let a := curve s idx
    let b := if idx < 255 then curve s (idx + 1) else a
    (a + asr ((b - a) * f) sh, false)

/-- A pixel word (08 R230). -/
def pixWord (value : Int) (sub sat low held : Bool) (x : Nat) : Word :=
  w32 (wrapN 16 value * 65536 + 32768 * b2n sub + 16384 * b2n sat + 8192 * b2n low + 4096 * b2n held + x)

/-- The pixel word of a LIVE proof. -/
def livePix (s : State) (x : Nat) : Word :=
  let (_, sub, held) := stage3Sub s x
  let (v, low) := stage5 s (stage4 s x)
  pixWord v sub (pixOut s x).sat low held x

/-- FRAME of the proof being delivered: CT at the start of the frame it was sampled in ÷ 8,000 (08 Table 8.5). -/
def proofFrame (s : State) : Nat := s.proof.was % 2 ^ 32

/-- A frame begins (03 R86, R89). -/
def frameBegin (s : State) : State := s.uProof fun t => { t with frame := t.frame + 1, was := t.tag, tag := s.now / 8000 }

/-- A Proof packet (08 Table 8.5). -/
def proofPkt (vc dtype line tag frame : Nat) (payload : List Word) : Out :=
  .proof ([w32 (2 ^ 28 * vc + 2 ^ 22 * dtype + 65536 * line + 4096 * tag + payload.length), w32 frame] ++ payload)

/-- The 114 row packets of a proof, LIVE or SETTLING (08 R228, R229), DTYPE 0x10 for telemetry. -/
def rowPkts (word : Nat → Word) (rowT planeT frame : Nat) : List Out :=
  (List.range 2).flatMap (fun blk => (List.range 48).map fun r =>
    proofPkt (r / 12) rowT (16 * blk + r % 12) 0 frame ((List.range 20).map fun n => word (pixOf blk r n)))
  ++ (List.range 18).map fun r => proofPkt (4 + r / 3) planeT (r % 3) 0 frame ((List.range 64).map fun t => word (pixOf 2 r t))

/-- The TEMP packet's words: reading in [31:16], j in [11:0] (08 Table 8.6). -/
def tempWords (ts : List Int) : List Word := (List.range 64).map fun j => w32 (wrapN 16 (ts.getD j 0) * 65536 + j)

/-- Lanes in SWEEP whose packets are due, lowest lane codes first: those beyond the sixteenth of a proof come in a later one (08 R232). -/
def sweepDue (s : State) : List Nat :=
  (List.range 1024).filter fun c => match laneParts c with
    | some (tx, p, n) => s.lane tx p n == 1 && !s.proof.swept.contains c
    | none => false

/-- The lanes a proof sends SWEEP packets of. -/
def sweepLanes (s : State) : List Nat := (sweepDue s).take 16

/-- The lanes sent wait for the rest, and all begin anew once none is left. -/
def sweepNext (s : State) : State :=
  let due := sweepDue s
  s.uProof fun t => { t with swept := if due.length ≤ 16 then [] else t.swept ++ due.take 16 }

/-- The words of a SWEEP packet for one lane (08 Table 8.6). -/
def sweepWords (s : State) (word : Nat → Word) (c : Nat) : List Word :=
  (lanePix c).flatMap fun x =>
    let v := (pixOut s x).raw.map fun q =>
      (clampI 0 65535 (asr (((q : Int) * 16 - s.fd (R.PROOF_DARK x) 15 0) * s.fd (R.PROOF_SHADE x) 15 0) 14)).toNat
    word x :: (List.range 4).map fun i => w32 (v.getD (2 * i) 0 + 65536 * v.getD (2 * i + 1) 0)

/-- The VC and LINE that name a lane's port group and row (08 Table 8.5). -/
def laneVc (c : Nat) : Nat := match laneParts c with
  | some (_, p, _) => p / 4
  | none => 0

/-- The pixels a capture stores (08 R224). -/
def capPix (c : Capture) : List Nat :=
  match c.lane with
  | none => List.range pixAll
  | some l => lanePix l

/-- LOW of a pixel: stage 4 gives no positive value (08 R227). -/
def pixLow (s : State) (x : Nat) : Bool := (stage5 s (stage4 s x)).2

/-- A pixel word of a DARK packet: VALUE = D, with the pixel's flags (08 R230, Table 8.6). -/
def darkWord (s : State) (x : Nat) : Word :=
  let (_, sub, held) := stage3Sub s x
  pixWord (pixOut s x).d sub (pixOut s x).sat (pixLow s x) held x

/-- DARK packets: one pixel word per pixel in capture; for all pixels, one packet a row (08 Table 8.6; log 150). -/
def darkPkts (s : State) (word : Nat → Word) (frame : Nat) : List Out :=
  s.proof.caps.flatMap fun c => match c.lane with
    | none => rowPkts word 0x04 0x04 frame
    | some l => [proofPkt (laneVc l) 0x04 0 0 frame ((lanePix l).map word)]

/-- SWEEP packets (08 R232, Table 8.6). -/
def sweepPkts (s : State) (word : Nat → Word) (frame : Nat) : List Out :=
  (sweepLanes s).map fun c => proofPkt (laneVc c) 0x05 0 0 frame (sweepWords s word c)

/-! Captures (08 R224) -/

/-- A lane is unlit: DARK, SPARE or RETIRED, or vacated (08 R224). -/
def laneUnlit (s : State) (c : Nat) : Bool := match laneParts c with
  | some (tx, p, n) => [0, 5, 6].contains (s.lane tx p n) || (s.ls tx p n).vac
  | none => true

/-- A capture takes one more LIVE proof, of a frame that begins after its order, while its lane is unlit, until it has FRAMES of them.
The bring-up's, of all pixels, takes every one (log 11). -/
def capStep (s : State) (c : Capture) : Capture :=
  if s.proof.frame ≤ c.since + 1 ∨ (c.lane.any fun l => !laneUnlit s l) ∨ max 1 (s.fd R.PROOF_DARK_CFG 3 0) ≤ c.done then c else
  let xs := capPix c
  let ns := xs.filter isChan |>.flatMap fun x => (List.range 5).filterMap fun j =>
    let (blk, r, n) := pixAt x
    if j ≠ 2 ∧ 2 ≤ n + j ∧ n + j ≤ 19 then some (pixOf blk r (n + j - 2)) else none
  { c with
    done := c.done + 1
    dsum := xs.foldl (fun m x => smSet (fun _ => 0) m x (smGet (fun _ => 0) m x + (pixOut s x).d)) c.dsum
    vsum := ns.dedup.foldl (fun m x => smSet (fun _ => (0 : Int)) m x (smGet (fun _ => (0 : Int)) m x + (stage3Sub s x).1)) c.vsum }

/-- The dark level a capture gives a pixel (08 R224). -/
def capLevel (s : State) (c : Capture) (x : Nat) : Int :=
  let k : Int := c.done
  let davg := tdivI ((smGet (fun _ => (0 : Nat)) c.dsum x : Nat) : Int) k
  if !isChan x then davg
  else
    let (blk, r, n) := pixAt x
    let t := (List.range 5).foldl (fun a j =>
      if j ≠ 2 ∧ 2 ≤ n + j ∧ n + j ≤ 19 then
        a + mixC s blk r n j * tdivI (smGet (fun _ => (0 : Int)) c.vsum (pixOf blk r (n + j - 2))) k
      else a) 0
    let m := mixC s blk r n 2
    let sh : Int := s.fd (R.PROOF_SHADE x) 15 0
    davg - (if m = 0 ∨ sh = 0 then 0 else tdivI (tdivI (-t * 16384) m) sh)

/-- Count of the live defect map (08 Table 8.7). -/
def liveDefects (s : State) : State :=
  s.fw R.PROOF_STATUS 31 24 (satN 255 ((List.range 96).foldl (fun a i => a + popCount 32 (s.rd (R.PROOF_DEFECT_LIVE i))) 0))

/-- A pixel is marked in the live defect map: reason 1 STUCK, 2 DARK_MAX (08 R225). -/
def markDefect (x reason : Nat) (s : State) : State :=
  if s.bit (R.PROOF_DEFECT_LIVE (x / 32)) (x % 32) then s
  else liveDefects ((s.fw (R.PROOF_DEFECT_LIVE (x / 32)) (x % 32) (x % 32) 1).ev Ev.PIX_DEFECT x [reason])

/-! PROOF_PROCESS -/

/-- The stuck test of one pixel (08 R225). -/
def stuckStep (s : State) (x : Nat) : State :=
  let o := pixOut s x
  let n := s.fd R.PROOF_DEFECT_CFG 15 0
  if o.rail ∨ n = 0 then s
  else
    let (d, k) := smGet (fun _ => (0, 0)) s.proof.stuck x
    let k := if k ≠ 0 ∧ d = o.d then satN 65535 (k + 1) else 1
    let s := s.uProof fun t => { t with stuck := smSet (fun _ => (0, 0)) t.stuck x (o.d, k) }
    if n ≤ k then markDefect x 1 s else s

/-- Telemetry of one pixel: v4 at least 0, and the flags ORed (08 R233). -/
def telemStep (s : State) (w : SMap Word) (m : SMap (Nat × Nat)) (x : Nat) : SMap (Nat × Nat) :=
  let (v, f) := smGet (fun _ => (0, 0)) m x
  smSet (fun _ => (0, 0)) m x
    (v + (max 0 (stage4 s x)).toNat, Nat.lor f (fieldOf (smGet (fun _ => (0 : Word)) w x).toNat 15 12))

/-- The input interlock of one port on a LIVE proof: shut at the second low reading, its cause cleared by light (11 R308–R310). -/
def inputCheck (s : State) (p : Nat) : State :=
  let v := sgn 16 (fieldOf (smGet (fun _ => (0 : Word)) s.proof.p0.words (60 * p + 18)).toNat 31 16)
  let low := decide (v < sgn 16 (s.rd R.LAS_LOS)) && (List.range 18).any (fun n => s.lane false p n == 3)
  let k := if low then satN 2 (s.las.loss.getD p 0 + 1) else 0
  let s := s.uLas fun t => { t with loss := setAt 0 t.loss p k }
  if k = 2 then portShut p 1 s
  else if s.bit R.LAS_SHUT_CAUSE (16 + p) ∧ sgn 16 (s.rd R.LAS_LOS) ≤ v then shutClear p 1 s
  else s

/-- The reserved spare paths of a port (13 R357): with its dropped-light pixel below LAS_LOS the demux and add rings of an RSV
lane are held in OPEN at their codes; at the first proof at or above it both run. -/
def rsvCheck (s : State) (p n : Nat) : State :=
  let b := laneByte s s.curPlate (laneCode false p n)
  if s.lane false p n ≠ 4 ∨ b / 4 % 2 = 0 then s
  else
    let o := b / 16
    let v := sgn 16 (fieldOf (smGet (fun _ => (0 : Word)) s.proof.p0.words (60 * p + n)).toNat 31 16)
    let mode := if v < sgn 16 (s.rd R.LAS_LOS) then 3 else 1
    let go := fun (q l : Nat) (code : Option Nat) (s : State) =>
      if s.coef q l 0 % 4 = mode then s
      else if mode = 3 then ringMove q l (code.getD (s.coef q l 10)) 3 s
      else wqPush q l 0 (ctlMode s q l 1) s
    go o (20 + n) (s.ls true o n).code1 (go p (2 + n) (s.ls false p n).code0 s)

/-- Crop windows in force (08 R234, Table 8.7): engine, stage, block, rows, columns. -/
def cropOf (s : State) (c : Nat) : Option (Nat × Nat × Nat × Nat × Nat × Nat × Nat) :=
  let w := s.rd (R.PROOF_CROP_WIN c)
  let k := s.rd (R.PROOF_CROP_CTL c)
  let blk := fieldOf k 1 0
  let (r0, r1, c0, c1) := (fieldOf w 5 0, fieldOf w 13 8, fieldOf w 21 16, fieldOf w 29 24)
  let (nr, nc) := if blk = 2 then (18, 64) else (48, 20)
  if bitOf k 31 && blk != 3 && r0 ≤ r1 && c0 ≤ c1 && r1 < nr && c1 < nc then
    some (fieldOf k 11 8, fieldOf k 5 4, blk, r0, r1, c0, c1)
  else none

/-- CROP_ON follows the windows. -/
def cropOn (s : State) : State :=
  s.fw R.PROOF_STATUS 19 16 ((List.range 4).foldl (fun a c => if (cropOf s c).isSome then a + 2 ^ c else a) 0)

/-- A crop pixel: the stage the window selects, clamped to 16 bits; every value zero in a SETTLING proof (08 R230, R234). -/
def cropWord (s : State) (live : Bool) (stage x : Nat) : Word :=
  if !live then w32 x
  else if stage = 3 then livePix s x
  else
    let v : Int := if stage = 0 then (pixOut s x).d else if stage = 1 then (stage3Sub s x).1 else stage4 s x
    let lo : Int := if stage = 0 then 0 else -32768
    let hi : Int := if stage = 0 then 65535 else 32767
    let (_, sub, held) := stage3Sub s x
    pixWord (clampI lo hi v) sub (pixOut s x).sat (pixLow s x) held x

/-! Trace buffers (10 R282–R284), to which crop packets go -/

/-- STATE of an engine's trace: 0 IDLE, 1 ARMED, 2 TRIGGERED, 3 STOPPED. -/
def trState (s : State) (e : Nat) : Nat := s.fd (R.STY_TRACE_STATUS e) 31 30

/-- Write a dword at the write pointer and move it. -/
def trWord (e : Nat) (s : State) (w : Nat) : State :=
  let p := s.fd (R.STY_TRACE_STATUS e) 11 0
  let s := s.wr (R.STY_TRACE_BUF e p) w
  let s := s.fw (R.STY_TRACE_STATUS e) 11 0 ((p + 1) % 4096)
  if p = 4095 then s.fw (R.STY_TRACE_STATUS e) 29 29 1 else s

/-- Write a record: a record never straddles the end (10 R283). After the trigger POST dwords remain; then nothing more is written,
and TRACE_POST_DONE stops the trace. -/
def trRecord (e : Nat) (ws : List Nat) (s : State) : State :=
  if trState s e ≠ 1 ∧ (trState s e ≠ 2 ∨ (s.eng e).post = 0) then s
  else
    let p := s.fd (R.STY_TRACE_STATUS e) 11 0
    let pad := if 4096 < p + ws.length then List.replicate (4096 - p) 0 else []
    let s := (pad ++ ws).foldl (trWord e) s
    if trState s e ≠ 2 then s
    else
      let g := s.eng e
      s.setEng e { g with post := g.post - (pad.length + ws.length) }

/-- A trigger (10 R284): ARMED to TRIGGERED with the position of the triggering record. -/
def trTrigger (e pos : Nat) (s : State) : State :=
  if trState s e ≠ 1 then s
  else
    let s := (s.fw (R.STY_TRACE_STATUS e) 31 30 2).fw (R.STY_TRACE_STATUS e) 27 16 pos
    s.setEng e { s.eng e with post := s.fd (R.STY_TRACE_POST e) 11 0 }

/-- The CROP packets of one window for one proof: sent on the link, and stored by its engine when CROP_EN is set (08 R234,
10 R282). -/
def cropSend (live : Bool) (s : State) (c : Nat) : State :=
  match cropOf s c with
  | none => s
  | some (e, stage, blk, r0, r1, c0, c1) =>
    (List.range (r1 + 1 - r0)).foldl (fun s i =>
      let r := r0 + i
      let vc := if blk = 2 then 4 + r / 3 else r / 12
      let line := if blk = 2 then r % 3 else 16 * blk + r % 12
      let ws := (List.range (c1 + 1 - c0)).map fun j => cropWord s live stage (pixOf blk r (c0 + j))
      let d0 := 2 ^ 28 * vc + 2 ^ 22 * 0x11 + 65536 * line + 4096 * c + ws.length
      let s := s.emit (proofPkt vc 0x11 line c (proofFrame s) ws)
      if s.bit (R.STY_TRACE_CFG e) 17 then
        trRecord e ((2 ^ 30 + proofFrame s % 2 ^ 22 * 256 + (ws.length + 1)) :: d0 :: ws.map (·.toNat)) s
      else s) s

/-- The frame's TEMP readings: the mean of eight, toward zero (08 R229). -/
def tempMeans (temps : List (List (BitVec 16))) : List Int :=
  temps.map fun rs => tdivI ((rs.map fun r => sgn 16 r.toNat).foldl (· + ·) 0) 8

/-- A new proof is in force; the one before becomes that of frame f − 1 (08 R231). Where none is delivered the last TEMP readings stay
(log 65). -/
def deliver (kind : PKind) (words : SMap Word) (temps : List Int) (s : State) : State :=
  s.uProof fun t => { t with
    p1 := t.p0, p0 := ⟨kind, t.frame, words, if kind = .none then t.p0.temps else temps⟩, outs := [],
    settle := t.settle.filter (decide <| t.frame < ·), lastWords := if kind = .none then t.lastWords else words }

/-- PROOF_STATUS: SETTLING proofs still due, and whether the domain samples (08 Table 8.7). -/
def proofStatus (s : State) : State :=
  (s.fw R.PROOF_STATUS 1 0 s.proof.settle.length).fw R.PROOF_STATUS 2 2 (b2n s.proof.run)

/-- The packets of a proof, then END (08 R228, R231). -/
def sendProof (pkts : List Out) (frame : Nat) (s : State) : State :=
  let s := pkts.foldl State.emit s
  s.emit (proofPkt 15 0x3F 0 0 frame [w32 (pkts.length + 1)])

/-- A SETTLING proof: every VALUE and flag zero (08 R222). -/
def settleProof (ts : List Int) (s : State) : State :=
  let words : SMap Word := (List.range pixAll).map fun x => (x, w32 x)
  let f := proofFrame s
  let pk := rowPkts (fun x => w32 x) 0x03 0x03 f ++ [proofPkt 10 0x06 0 0 f (tempWords ts)]
    ++ sweepPkts s (fun x => w32 x) f ++ darkPkts s (fun x => w32 x) f
  let s := sweepNext (sendProof pk f s)
  let s := (List.range 4).foldl (cropSend false) s
  proofStatus (deliver .settling words ts s)

/-- The sums the pipeline keeps of a LIVE proof: last good values, captures, telemetry (08 R224, R226, R233). -/
def liveSums (words : SMap Word) (ts : List Int) (s : State) : State :=
  let good := (List.range pixAll).foldl (fun m x =>
    if defective s x then m else smSet (fun _ => (0 : Int)) m x (stage3 s x (pixOut s x).d)) s.proof.good
  let tsum := (List.range pixAll).foldl (telemStep s words) s.proof.tsum
  let caps := s.proof.caps.map (capStep s)
  s.uProof fun t => { t with
    good := good, tsum := tsum, caps := caps, tcount := t.tcount + 1,
    ttemp := (List.range 64).map fun j => t.ttemp.getD j 0 + ts.getD j 0 }

/-- The transmit monitor of a line: that of the lower-numbered sibling port that sends its channel (11 R300). -/
def monitorPix (s : State) (b n : Nat) : Nat := 60 * (if litBy s (2 * b) n then 2 * b else 2 * b + 1) + 20 + n

/-- Lines not starved in this proof (11 R306). -/
def brightStep (s : State) (l : Nat) : State :=
  let (b, n) := (l / 18, l % 18)
  let v := sgn 16 (fieldOf (smGet (fun _ => (0 : Word)) s.proof.p0.words (monitorPix s b n)).toNat 31 16)
  if s.las.bright.contains l ∨ (s.fd (R.LAS_LINE b n) 27 16 = 4095 ∧ v < sgn 16 (s.rd R.LAS_EQ_TARGET) - 768) then s
  else s.uLas fun t => { t with bright := t.bright ++ [l] }

/-- A LIVE proof: stages, streams, stuck test, interlock (08 R223–R234, 11 R308). -/
def liveProof (ts : List Int) (s : State) : State :=
  let ws := (List.range pixAll).map fun x => (x, livePix s x)
  let f := proofFrame s
  let word := fun x => smGet (fun _ => (0 : Word)) ws x
  let pk := rowPkts word 0x01 0x02 f ++ [proofPkt 10 0x06 0 0 f (tempWords ts)]
    ++ sweepPkts s word f ++ darkPkts s (darkWord s) f
  let s := sweepNext (sendProof pk f s)
  let s := (List.range 4).foldl (cropSend true) s
  let s := liveSums ws ts s
  let s := (List.range pixAll).foldl stuckStep s
  let s := proofStatus (deliver .live ws ts s)
  let s := (List.range 144).foldl brightStep s
  let s := (List.range 16).foldl inputCheck s
  (List.range 16).foldl (fun s p => (List.range 18).foldl (fun s n => rsvCheck s p n) s) s

/-- PROOF_PROCESS (08 R222, R223). A frame whose pixels are not all sampled delivers no proof. -/
def execProofProcess (temps : List (List (BitVec 16))) (s : State) : Host.Outcome State Fault Refusal :=
  if temps.length ≠ 64 ∨ temps.any (fun r => r.length != 8) then .fault .illFormed
  else if !s.proof.run ∨ s.proof.outs.length < pixAll then done (proofStatus (deliver .none [] [] s))
  else if s.proof.settle.contains s.proof.frame then done (settleProof (tempMeans temps) s)
  else done (liveProof (tempMeans temps) s)

/-! Synchronising resets -/

/-- PROOF_SYNC (08 R236). -/
def execProofSync (path : Path) (value : Word) (s : State) : Host.Outcome State Fault Refusal :=
  through path (.write R.PROOF_SYNC value.toNat) s <|
  if hostLike path then done (s.deny Ev.PROOF_DENIED R.PROOF_SYNC value.toNat path)
  else if !bitOf value.toNat 0 ∨ !s.blockOn R.PROOF_SYNC then done s
  else done (s.uProof fun t => { t with sync := some (t.sync.getD 3) })

/-- A synchronising reset with its cause, 1 START, 2 STEP, 3 COMMAND, 4 DOMAIN_RESET (08 R221, R222): every decimator zeroed. The proof of
the frame in progress stays what it is, and those of the two frames that begin after it are SETTLING: at the start of sampling, which is
a frame boundary, the frame that begins is the first. A domain reset ends sampling. -/
def proofReset (cause : Nat) (s : State) : State :=
  let s := s.uProof fun t => { t with
    hist := [], sync := none, run := if cause = 1 then true else if cause = 4 then false else t.run,
    outs := if cause = 1 ∨ cause = 4 then [] else t.outs,
    settle := if cause = 1 then [t.frame + 1, t.frame + 2] else if cause = 4 then []
      else t.settle.filter (decide <| · ≤ t.frame + 1) ++ [t.frame + 2, t.frame + 3] }
  let s := proofStatus s
  (s.sat R.PROOF_SYNC_CNT 31 0 1).ev Ev.PROOF_SYNC_RESET 0 [cause]

/-- PROOF_SYNC_RESET (08 R221): the reset that is due happens. One that a command ordered happens only while the domain samples;
the start of sampling needs the domain up. -/
def execProofSyncReset (s : State) : Host.Outcome State Fault Refusal :=
  match s.proof.sync with
  | none => done s
  | some c =>
    if c = 3 ∧ !s.proof.run then done (s.uProof fun t => { t with sync := none })
    else if !s.domUp 0xA5 then done s
    else done (proofReset c s)

/-- The Proof domain stops: what it was sampling is lost (08 R222). -/
def proofStop (s : State) : State := proofStatus (s.uProof fun t => { t with run := false, outs := [], settle := [] })

/-! Dark captures -/

/-- A laser line is LIT or STANDBY (08 R236). -/
def anyLine (s : State) : Bool :=
  (List.range 8).any fun b => (List.range 18).any fun n => s.line b n == 1 || s.line b n == 2

/-- PROOF_DARK_CMD's refusals (08 R236). -/
def darkRefused (s : State) (v : Nat) : Bool :=
  let l := fieldOf v 9 0
  if bitOf v 16 then anyLine s || !s.proof.caps.isEmpty
  else (laneParts l).isNone || s.proof.caps.any fun c => c.lane == none || c.lane == some l

/-- Start a capture. -/
def startCapture (lane : Option Nat) (s : State) : State :=
  (s.uProof fun t => { t with caps := t.caps ++ [⟨lane, 0, [], [], t.frame⟩] }).fw R.PROOF_STATUS 3 3 1

/-- PROOF_DARK_CMD (08 R236). -/
def execProofDarkCmd (path : Path) (value : Word) (s : State) : Host.Outcome State Fault Refusal :=
  through path (.write R.PROOF_DARK_CMD value.toNat) s <|
  if hostLike path || darkRefused s value.toNat then done (s.deny Ev.PROOF_DENIED R.PROOF_DARK_CMD value.toNat path)
  else if !s.blockOn R.PROOF_DARK_CMD then done s
  else done (startCapture (if bitOf value.toNat 16 then none else some (fieldOf value.toNat 9 0)) s)

/-- A capture's end: dark levels stored and DARK_CAPTURED raised (08 R224). The levels are formed from the state at its end. -/
def endCapture (c : Capture) (s : State) : State :=
  let s := s.uProof fun t => { t with caps := t.caps.filter (· != c) }
  let s := s.fw R.PROOF_STATUS 3 3 (b2n !s.proof.caps.isEmpty)
  let vs := (capPix c).map fun x => (x, capLevel s c x)
  let (s, n) := vs.foldl (fun (a : State × Nat) p =>
    if (a.1.fd R.PROOF_DARK_CFG 31 16 : Int) < p.2 then (markDefect p.1 2 a.1, a.2)
    else (a.1.fw (R.PROOF_DARK p.1) 15 0 (max 0 p.2).toNat, a.2 + 1)) (s, 0)
  s.ev Ev.DARK_CAPTURED (c.lane.getD 0xFFFF) [n]

/-! The telemetry period -/

/-- The period's pixel word: the mean through stage 5, the flags ORed (08 R233). -/
def telemPix (s : State) (x : Nat) : Word :=
  let (v, f) := smGet (fun _ => (0, 0)) s.proof.tsum x
  let n := s.proof.tcount
  let (val, low) := if n = 0 then (curve s 0, true) else stage5 s (v / n : Nat)
  pixWord val (bitOf f 3) (bitOf f 2) low (bitOf f 0) x

/-- The period's telemetry is formed and its sums start anew (08 R233). -/
def telemEnd (s : State) : State :=
  let ws := (List.range pixAll).map fun x => (x, telemPix s x)
  let n := s.proof.tcount
  let ts := (List.range 64).map fun j => tdivI (s.proof.ttemp.getD j 0) n
  let f := proofFrame s
  let pk := rowPkts (fun x => smGet (fun _ => (0 : Word)) ws x) 0x10 0x10 f ++ [proofPkt 10 0x10 0 0 f (tempWords ts)]
  let s := pk.foldl State.emit s
  let s := s.wr R.PROOF_TELEM_CNT ((s.now / 8000000 + 65536 - 1) % 65536 * 65536 + satN 1023 n)
  s.uProof fun t => { t with telem := ws, telemTemp := ts, tsum := [], tcount := 0, ttemp := [] }

end Sys2Proof.Machine
end

