-- ==== Sys2Proof/Machine/Stylus.lean ====
section
/-! DEFINITION. The Stylus engines (09) and their tuning and supervision (10). Rows STYLUS_SLOT to TRACE_POST_DONE. -/

namespace Sys2Proof.Machine

/-! What a loop is -/

/-- A ring loop: fast slots 2–55 (09 R250). -/
def isRing (l : Nat) : Bool := decide (2 ≤ l) && decide (l < 56)

/-- The lane that owns a loop (10 R267): rings and selectors of the engine's port. -/
def loopLane (e l : Nat) : Option (Bool × Nat × Nat) :=
  if 2 ≤ l ∧ l < 20 then some (false, e, l - 2)
  else if 20 ≤ l ∧ l < 38 then some (true, e, l - 20)
  else if 38 ≤ l ∧ l < 56 then some (true, e, l - 38)
  else if 56 ≤ l ∧ l < 74 then some (false, e, l - 56)
  else none

/-- The position of a loop's slot in the frame (09 R239, R241). -/
def loopPos (l : Nat) : Nat := if l < 56 then 6 + l else (l - 56) % 6

/-- The proof a slot reads: one that begins before tick 1,024 that of the frame before the last, a later one that of the last (08 R231).
A proof that has not been delivered is none. -/
def slotProof (s : State) (l : Nat) : ProofOut :=
  let at_ := if loopPos l < 8 then s.proof.frame - 1 else s.proof.frame
  if s.proof.p0.at_ = at_ then s.proof.p0 else if s.proof.p1.at_ = at_ then s.proof.p1 else ⟨.none, at_, [], []⟩

/-- VALUE of a pixel in a proof. -/
def pixVal (o : ProofOut) (x : Nat) : Int := sgn 16 (fieldOf (smGet (fun _ => (0 : Word)) o.words x).toNat 31 16)

/-- The lit output channels of a port by the lane roles in force: local and express TX lanes (07 R204). -/
def litChannels (s : State) (p : Nat) : Nat :=
  ((List.range 18).filter fun n => s.role true p n == 1 || s.role true p n == 2).length

/-- 10 log10 n in Q8.8 dB, to the nearest, for n from 0 to 18; 0 for none (log 151). -/
def litDb (n : Nat) : Int :=
  [0, 0, 771, 1221, 1541, 1789, 1992, 2163, 2312, 2443, 2560, 2666, 2763, 2852, 2934, 3011, 3083, 3150, 3213].getD n 0

/-- A loop's measurement m (09 R244); a VOA loop's power is that of one lit channel in the mean (07 R204; log 151). -/
def measure (s : State) (e l : Nat) : Int :=
  let o := slotProof s l
  let w := s.coef e l 1
  let a := pixVal o (fieldOf w 11 0) - if l = 1 then litDb (litChannels s e) else 0
  match fieldOf w 31 30 with
  | 0 => a
  | 1 => a - pixVal o (fieldOf w 27 16)
  | _ => o.temps.getD (fieldOf w 5 0) 0

/-- CTL.MODE; FORM 3 makes the loop OFF (09 R244, R247). -/
def loopMode (s : State) (e l : Nat) : Nat := if fieldOf (s.coef e l 1) 31 30 = 3 then 0 else fieldOf (s.coef e l 0) 1 0

/-- The causes that hold a sample: CTL.HOLD, no LIVE proof in RUN, the supervisor (09 R248). -/
def holdCauses (s : State) (e l : Nat) : Bool × Bool × Bool :=
  (s.bit (coefOff e l 0) 4, loopMode s e l == 1 && (slotProof s l).kind != .live, supHeld s e l)

/-! The law (09 R245) -/

/-- A product shifted right, taken as int32 (09 R245). -/
def mulShift (k x : Int) (sh : Nat) : Int := i32 (asr (k * x) sh)

/-- v and the two heat-note terms of a sample. -/
def lawVH (s : State) (e l : Nat) : Int × Int × Int :=
  let sh := s.coef e l 3
  (mulShift (s.coefI e l 5) s.vsqNow (fieldOf sh 14 10),
   mulShift (s.coefI e l 6) (sgn 32 (s.rd (R.STY_HN_G e 0))) (fieldOf sh 19 15),
   mulShift (s.coefI e l 7) (sgn 32 (s.rd (R.STY_HN_G e 1))) (fieldOf sh 24 20))

/-- p of a sample with error err. -/
def lawP (s : State) (e l : Nat) (err : Int) : Int :=
  let sh := s.coef e l 3
  let idx := min 31 (wrapN 32 (if err < 0 then i32 (-err) else err) >>> fieldOf sh 29 25)
  mulShift (s.coefI e l (32 + idx)) err (fieldOf sh 4 0)

/-- The integral increment of a sample. -/
def lawD (s : State) (e l : Nat) (err : Int) : Int := mulShift (s.coefI e l 4) err (fieldOf (s.coef e l 3) 9 5)

/-- i + v + h + offset. -/
def lawBase (s : State) (e l : Nat) (i : Int) : Int :=
  let (v, h0, h1) := lawVH s e l
  i32 (i + v + h0 + h1 + s.coefI e l 8)

/-- The DAC code of an output. -/
def dacOf (out : Int) : Nat := wrapN 32 out / 65536

/-! Registers that follow the loops -/

/-- The STATE word: GUARD and HOLD_CAUSE (09 Table 9.5). -/
def loopState (e l : Nat) (h : Bool × Bool × Bool) (s : State) : State :=
  s.wr (coefOff e l 13) ((s.lp e l).guard % 16 * 65536 + 256 * b2n h.1 + 512 * b2n h.2.1 + 1024 * b2n h.2.2)

/-- STY_HOLD_MAP's bit of a slot (09 Table 9.4). -/
def holdMap (e l : Nat) (held : Bool) (s : State) : State :=
  let (j, b) := if l < 56 then (l / 32, l % 32) else (2 + (l - 56) / 32, (l - 56) % 32)
  s.fw (R.STY_HOLD_MAP e j) b b (b2n held)

/-- The STATE word and STY_HOLD_MAP show the causes in force (09 R248). -/
def holdShow (e l : Nat) (h : Bool × Bool × Bool) (s : State) : State := holdMap e l (h.1 || h.2.1 || h.2.2) (loopState e l h s)

/-- STY_STATUS.ROLLING and STY_SUP_STATUS.HELD of an engine. -/
def engineCounts (e : Nat) (s : State) : State :=
  let s := s.fw (R.STY_STATUS e) 15 8 ((List.range 54).filter fun i => (s.lp e (2 + i)).guard != 0).length
  s.fw (R.STY_SUP_STATUS e) 31 24 ((List.range 140).filter fun l => supHeld s e l).length

/-- STY_SUP_RESID of a loop (10 R287). -/
def residReg (e l : Nat) (r : Int) (s : State) : State :=
  let x := s.lp e l
  let off := R.STY_SUP_RESID e l
  let s := (s.fw off 31 16 (wrapN 16 (clampI (-32768) 32767 r))).fw off 15 8 x.bad
  (s.fw off 1 1 (b2n x.slipped)).fw off 0 0 (b2n (x.hold || x.bad != 0 && decide (max 1 (s.fd (supOff e l 0) 15 8) ≤ x.bad)))

/-! One word of the queue (09 R254, R258) -/

/-- The oldest queued word of a loop, and the queue without it. -/
def takeWord (l : Nat) : List (Nat × Nat × Word) → Option (Nat × Word) × List (Nat × Nat × Word)
  | [] => (none, [])
  | q :: qs => if q.1 = l then (some (q.2.1, q.2.2), qs) else let r := takeWord l qs; (r.1, q :: r.2)

/-- The bits of a register that hold something (00 R9). -/
def maskOf (off : Nat) : Nat := match regRow off with
  | some r => r.mask
  | none => 0

/-- Apply the oldest queued word of the loop; the room takes a word that waits for it. -/
def applyWord (e l : Nat) (s : State) : State :=
  let g := s.eng e
  match takeWord l g.wq with
  | (some (w, v), q) =>
    wqRefill e (wqLevel ((s.setEng e { g with wq := q }).wr (coefOff e l w) (Nat.land v.toNat (maskOf (coefOff e l w)))) e)
  | (none, _) => s

/-! Order rolls (09 R250–R253; 10 R273–R277) -/

/-- The adjacent order can be reached (10 R273). -/
def reachable (s : State) (e l : Nat) : Bool :=
  let c := (s.lp e l).dac
  let k := s.rd (supOff e l 6) / 65536
  decide (k ≤ c) || decide (c ≤ 65535 - k)

/-- The first slot after the loop's lane was vacated with a roll due. -/
def rollSlot (s : State) (e l : Nat) : Bool := s.sty.vacated.contains (256 * e + l)

/-- The vacated lane's sweep, which a due roll comes before (12 R340). -/
def rollSweep (e l : Nat) (s : State) : State :=
  match loopLane e l with
  | some (tx, p, n) => if laneRing s tx p n = l then vacSweep tx p n s else s
  | none => s

/-- The rotation that a loop's lane was to have is withdrawn (10 R277): an RX lane's that the peer was asked for. A TX lane's own request is
its ring's ROLL_DUE bit (12 R339). -/
def rotWithdraw (e l : Nat) (s : State) : State :=
  match loopLane e l with
  | some (false, p, n) => s.uLk p fun L => { L with rxAsks := L.rxAsks.filter (· != n) }
  | _ => s

/-- A scheduled roll: INTEG := SEED at the first slot after the lane was vacated, unless the order cannot be reached or a PREPARE
touches the port (10 R275, R276): then the sweep comes at once. -/
def scheduledRoll (e l : Nat) (s : State) : State :=
  if !rollSlot s e l then s
  else
    let s := s.uSty fun t => { t with vacated := t.vacated.filter (· != 256 * e + l) }
    if loopMode s e l == 1 && reachable s e l && s.repl.open_.isNone && s.repl.app.isNone then
      (s.wr (coefOff e l 10) (s.coef e l 9)).ev Ev.ROLL_SCHEDULED (loopId e l) []
    else rollSweep e l s

/-- A wrap (09 R251): SEED where it lies in the right half, the guard, ORDER_ROLL. `i` and `out` are the sample's values; answers
those the sample keeps. -/
def orderRoll (e l : Nat) (down : Bool) (i out : Int) (s : State) : State × Int × Int :=
  let seed := s.coefI e l 9
  let ok := s.bit (coefOff e l 0) 5 && (decide (seed < 0) != down)
  let (i, out) := if ok then (seed, lawBase s e l seed) else (i, out)
  let x := s.lp e l
  let step : Int := ((dacOf out : Int) - x.dac) * 65536
  let s := if ok then s else s.ev Ev.ROLL_UNSEEDED (loopId e l) []
  let s := s.ev Ev.ORDER_ROLL (loopId e l) [b2n (!down), x.dac, dacOf out]
  let s := if down then s.sat (R.STY_ROLL_CNT e) 31 16 1 else s.sat (R.STY_ROLL_CNT e) 15 0 1
  let s := s.setLp e l { x with
    guard := fieldOf (s.coef e l 0) 11 8, rolling := true, x := x.x + step, xa := x.xa + step }
  let s := s.fw (R.STY_ROLL_DUE e ((l) / 32)) (l % 32) (l % 32) 0
  (rotWithdraw e l (s.fw (R.STY_SUP_RESID e l) 2 2 0), i, out)

/-! The supervisor (10 R264–R270) -/

/-- A field whose value 0 is taken as 1. -/
def nz (n : Nat) : Nat := if n = 0 then 1 else n

/-- The residual r of a sample with measurement m (10 R264). -/
def residual (s : State) (e l : Nat) (m : Int) : Int :=
  let x := s.lp e l
  i32 (m - i32 (x.ma + i32 (asr (sgn 32 (s.rd (supOff e l 3)) * (x.x - x.xa)) 32)))

/-- The anchor takes the sample. -/
def takeAnchor (e l : Nat) (m : Int) (s : State) : State :=
  let x := s.lp e l
  s.setLp e l { x with ma := m, xa := x.x, ia := s.coefI e l 10, bad := 0, anchor := false }

/-- The lane a loop's event names. -/
def laneArg (e l : Nat) : Nat := match loopLane e l with
  | some (tx, p, n) => laneCode tx p n
  | none => 0xFFFFFFFF

/-- The N-th sample outside MIS_THRESH (10 R266, R267). -/
def mismatch (e l : Nat) (r : Int) (s : State) : State :=
  let act := s.fd (supOff e l 0) 1 0
  let s := (s.sat (R.STY_MIS_CNT e) 31 0 1).ev Ev.MODEL_MISMATCH (loopId e l) [laneArg e l, wrapN 32 r, act]
  let x := s.lp e l
  match act with
  | 0 => s
  | 2 => s.setLp e l { x with reseed := true }
  | 1 => s.setLp e l { x with hold := true, good := 0 }
  | _ =>
    let s := s.setLp e l { x with hold := true, good := 0 }
    match loopLane e l with
    | some (tx, p, n) => if s.slot tx p n ≠ 31 ∧ spares s tx p = 0 then s else faultLane tx p n 2 s
    | none => s

/-- The check of one sample (10 R264–R266). Answers r and whether MODEL_MISMATCH was raised. -/
def supCheck (e l : Nat) (m : Int) (s : State) : State × Int × Bool :=
  let x := s.lp e l
  if x.anchor then (takeAnchor e l m s, 0, false)
  else
    let r := residual s e l m
    let n := nz (s.fd (supOff e l 0) 15 8)
    if r.natAbs ≤ s.fd (supOff e l 1) 15 0 then
      let s := takeAnchor e l m s
      let x := s.lp e l
      if x.hold then
        if n ≤ x.good + 1 then
          ((s.setLp e l { x with hold := false, good := 0 }).ev Ev.MISMATCH_CLEAR (loopId e l) [], r, false)
        else (s.setLp e l { x with good := x.good + 1 }, r, false)
      else (s, r, false)
    else
      let b := if 255 ≤ x.bad ∨ (s.fd (supOff e l 0) 1 0 = 0 ∧ n ≤ x.bad) then x.bad else x.bad + 1
      let s := s.setLp e l { x with bad := b, good := 0 }
      if x.bad < b ∧ b = n then (mismatch e l r s, r, true) else (s, r, false)

/-- DAC code of a ring's neighbour on its port: same kind, channel n + d − 2; 0 where none exists (10 R264). -/
def neighbour (s : State) (e l d : Nat) : Int :=
  let k := (l - 2) / 18
  let n := (l - 2) % 18 + d
  if 2 ≤ n ∧ n < 20 then ((s.lp e (2 + 18 * k + (n - 2))).dac : Int) else 0

/-- The model's update after the output (10 R264). The temperature of a proof that has not been delivered is a free value (log 65). -/
def supUpdate (e l : Nat) (s : State) : State :=
  let x := s.lp e l
  let c := s.rd (supOff e l 4)
  let nb := if isRing l then
      sgn 8 (c / 2 ^ 24) * neighbour s e l 0 + sgn 8 (c / 2 ^ 16) * neighbour s e l 1
        + sgn 8 (c / 2 ^ 8) * neighbour s e l 3 + sgn 8 c * neighbour s e l 4
    else 0
  let (fv, s) := if (slotProof s l).kind = .none then s.draw else (0, s)
  let t := if (slotProof s l).kind = .none then sgn 16 (wrapN 16 fv.toNat) else (slotProof s l).temps.getD (s.fd (supOff e l 0) 29 24) 0
  let u := (x.dac : Int) * 65536 + nb * 256 + sgn 16 (s.rd (supOff e l 5)) * t
  s.setLp e l { x with x := x.x + asr ((u - x.x) * s.fd (supOff e l 2) 15 0) 16 }

/-- A sample that does not qualify ends a run of slipping samples (10 R269). -/
def slipNone (e l : Nat) (s : State) : State :=
  if (s.lp e l).slip = 0 then s else s.setLp e l { s.lp e l with slip := 0 }

/-- STATE of the lane a loop's ring tracks; 0 for any other loop. -/
def loopLaneSt (s : State) (e l : Nat) : Nat := match loopLane e l with
  | some (tx, p, n) => s.lane tx p n
  | none => 0

/-- Lock slip of a ring loop's sample whose lane stood in `st` before the check (10 R269, R270). -/
def slipCheck (e l st : Nat) (err : Int) (mis : Bool) (s : State) : State :=
  match loopLane e l with
  | none => s
  | some (tx, p, n) =>
    let x := s.lp e l
    if !isRing l then s
    else if !(st == 3 || st == 4) then slipNone e l s
    else if err.natAbs ≤ s.fd (supOff e l 1) 31 16 then s.setLp e l { x with slip := 0, slipped := false }
    else if x.slipped then s
    else
      let k := x.slip + 1
      if k < nz (s.fd (supOff e l 0) 23 16) then s.setLp e l { x with slip := k }
      else
        let s := s.setLp e l { x with slip := k, slipped := true }
        let s := (s.sat (R.STY_SLIP_CNT e) 31 0 1).ev Ev.LOCK_SLIP (loopId e l) [laneCode tx p n, wrapN 32 err, b2n mis]
        if mis ∧ s.fd (supOff e l 0) 1 0 = 3 then s else faultLane tx p n 0 s

/-- Lock samples of a ring in RUN (12 R318). -/
def lockCount (e l : Nat) (err : Int) (s : State) : State :=
  let x := s.lp e l
  s.setLp e l { x with lk := if err.natAbs ≤ s.fd (R.LNK_LOCK_CFG e) 15 0 then satN 255 (x.lk + 1) else 0 }

/-- Samples of a TEC loop inside BAND in a row (11 Table 11.4). -/
def bandCount (e l : Nat) (err : Int) (s : State) : State :=
  if l ≠ 137 ∨ e % 4 ≠ 0 then s
  else
    let k := e / 4
    let ok := err.natAbs ≤ s.fd (R.TEC_SETTLE k) 15 0
    s.uTec fun t =>
      let y := t.getD k ⟨0, [none, none, none, none], 0, 0, 0, none, 0, 0⟩
      setAt ⟨0, [none, none, none, none], 0, 0, 0, none, 0, 0⟩ t k { y with band := if ok then satN 65535 (y.band + 1) else 0 }

/-! Relay auto-tune (10 R278–R280) -/

/-- STY_RELAY_STATUS at the end of a relay, and the end of the banks' RELAY cause. -/
def relayEnd (e result : Nat) (s : State) : State :=
  match (s.eng e).relay with
  | none => s
  | some r =>
    let s := s.setEng e { s.eng e with relay := none }
    let s := (s.fw (R.STY_RELAY_STATUS e) 31 31 0).fw (R.STY_RELAY_STATUS e) 26 24 result
    if r.l = 137 then safeOff 3 (e / 4 * 2 + 1) (safeOff 3 (e / 4 * 2) s) else safeOff 3 (e / 2) s

/-- RELAY_FAIL with its reason: 3 AMPLITUDE, 4 TIMEOUT, 5 HOLD, 6 STATE. -/
def relayFail (e reason : Nat) (s : State) : State :=
  match (s.eng e).relay with
  | none => s
  | some r => (relayEnd e reason s).ev Ev.RELAY_FAIL (loopId e r.l) [reason]

/-- Lanes of a port range that are LOCKING, LIVE or EXPRESS (10 R278). -/
def lanesBusy (s : State) (lo n : Nat) : Bool :=
  (List.range n).any fun i => (List.range 18).any fun c => [true, false].any fun tx => [2, 3, 4].contains (s.lane tx (lo + i) c)

/-- The loop is in maintenance (10 R278). -/
def inMaint (s : State) (e l : Nat) : Bool :=
  if l = 137 then s.bit R.LAS_STATUS (e / 2) && s.bit R.LAS_STATUS (e / 2 + 1) && !lanesBusy s e 4
  else s.bit R.LAS_STATUS (e / 2) && !lanesBusy s (e / 2 * 2) 2

/-- A sample of a relay's loop is counted, whatever the loop's mode (10 R280). -/
def relayCount (e l : Nat) (s : State) : State :=
  match (s.eng e).relay with
  | some r => if r.l = l then s.setEng e { s.eng e with relay := some { r with samples := r.samples + 1 } } else s
  | none => s

/-- The relay's law and bookkeeping for one sample: the output, and the state after (10 R279). -/
def relaySample (e : Nat) (r : Relay) (m err : Int) (s : State) : State × Int :=
  let cfg := s.rd (R.STY_RELAY_CFG e)
  let h := fieldOf cfg 15 0
  let hyst : Int := fieldOf cfg 23 16
  let cycles := nz (fieldOf cfg 27 24)
  let sv := if bitOf cfg 28 then i32 (-err) else err
  let out := if hyst < sv then i32 (r.c0 + h * 65536) else if sv < -hyst then i32 (r.c0 - h * 65536) else r.last
  let cross := r.below && decide (hyst < sv)
  let k := r.crossings + b2n cross
  let meas := decide (2 ≤ k)
  let n := r.samples
  let r2 : Relay := { r with
    last := out, below := if sv < -hyst then true else if cross then false else r.below, crossings := k,
    start := if cross && k == 2 then n else r.start, lastCross := if cross then n else r.lastCross,
    mn := if meas then some (min m (r.mn.getD m)) else none, mx := if meas then some (max m (r.mx.getD m)) else none }
  let s := s.setEng e { s.eng e with relay := some r2 }
  let s := s.fw (R.STY_RELAY_STATUS e) 19 16 (k - 2)
  let a2 := (r2.mx.getD 0 - r2.mn.getD 0).toNat
  if s.fd (R.STY_RELAY_LIMIT e) 15 0 < a2 then (relayFail e 3 s, out)
  else if cross && k == cycles + 2 then
    let (fv, s) := if a2 = 0 then s.draw else (0, s)
    let ku := if a2 = 0 then fv.toNat else h * 166886 / a2
    let tu := (n - r2.start) * 256 / cycles
    let s := ((s.wr (R.STY_RELAY_KU e) ku).wr (R.STY_RELAY_TU e) tu).wr (R.STY_RELAY_A2 e) a2
    ((relayEnd e 1 s).ev Ev.RELAY_DONE (loopId e r.l) [ku, tu, a2], out)
  else (s, out)

/-! One sample -/

/-- The nodes of a sample (10 R282). -/
structure Nodes where
  m : Int
  e : Int
  p : Int
  i : Int
  v : Int
  h0 : Int
  h1 : Int
  out : Int
  r : Int

/-- Write the sample's output: i, OUT, ERR and the DAC code. -/
def writeOut (e l : Nat) (i out : Int) (err : Option Int) (s : State) : State :=
  let s := (s.wr (coefOff e l 10) (wrapN 32 i)).wr (coefOff e l 11) (wrapN 32 out)
  let s := match err with
    | some v => s.wr (coefOff e l 12) (wrapN 32 v)
    | none => s
  s.setLp e l { s.lp e l with dac := dacOf out }

/-- The node values shared by every sample. -/
def baseNodes (s : State) (e l : Nat) (m err : Int) : Nodes :=
  let (v, h0, h1) := lawVH s e l
  ⟨m, err, 0, s.coefI e l 10, v, h0, h1, s.coefI e l 11, 0⟩

/-- A sample in RUN that nothing holds (09 R245, R250–R253; 10 R279). Answers the nodes and whether a roll or OUT_WRAP came. -/
def runSample (e l : Nat) (m err : Int) (s : State) : State × Nodes × Bool :=
  let nd := baseNodes s e l m err
  let x := s.lp e l
  match (s.eng e).relay.filter (·.l == l) with
  | some r =>
    let (s, out) := relaySample e r m err s
    (writeOut e l nd.i out (some err) s, { nd with out := out }, false)
  | none =>
    let guarded := x.guard != 0
    let d := if guarded then 0 else lawD s e l err
    let p := if guarded then 0 else lawP s e l err
    let i := i32 (nd.i + d)
    let out := i32 (lawBase s e l i + p)
    let new := dacOf out
    let jump := decide (0x8000 < ((new : Int) - x.dac).natAbs)
    if jump && !isRing l then
      let s := s.setLp e l { x with wrapHold := true }
      (s.ev Ev.OUT_WRAP (loopId e l) [], { nd with out := s.coefI e l 11 }, true)
    else
      let s := s.setLp e l { x with guard := x.guard - 1, dint := if guarded then x.dint else d }
      let s := if !guarded && x.rolling then
          rollSweep e l ((s.setLp e l { s.lp e l with rolling := false }).ev Ev.ROLL_DONE (loopId e l) [wrapN 32 err])
        else s
      if jump then
        let (s, i2, out2) := orderRoll e l (decide (new < x.dac)) i out s
        (writeOut e l i2 out2 (some err) s, { nd with p := 0, i := i2, out := out2 }, true)
      else (writeOut e l i out (some err) s, { nd with p := p, i := i, out := out }, false)

/-- A sweep's record after a sample: the code with the deepest departure of the lane's channel pixel, within the window about the code
expected, that neither neighbour's pixel matches (12 R317; log 152). -/
def sweepNote (a : Nat × Nat) (code : Nat) (v : Int × Int × Int) : Option Sweep → Sweep
  | none => ⟨v, 0, 0⟩
  | some w =>
    let d := (v.1 - w.base.1).natAbs
    let near := decide ((sgn 16 (wrapN 16 ((code : Int) - a.1))).natAbs ≤ a.2)
    if near && w.depth < d && (v.2.1 - w.base.2.1).natAbs < d && (v.2.2 - w.base.2.2).natAbs < d then { w with depth := d, code := code }
    else w

/-- What a sweeping lane's ring shows in one sample (12 R317): the readings of its channel's pixel and of those beside it. -/
def sweepSee (e l : Nat) (s : State) : State :=
  match loopLane e l with
  | none => s
  | some (tx, p, n) =>
    let o := slotProof s l
    if s.lane tx p n ≠ 1 ∨ laneRing s tx p n ≠ l ∨ o.kind ≠ .live then s
    else
      let x := (lanePix (laneCode tx p n)).headD 0
      let v := (pixVal o x, if n = 0 then 0 else pixVal o (x - 1), if n = 17 then 0 else pixVal o (x + 1))
      s.uLs tx p n fun y => { y with sweep := some (sweepNote (sweepAim s tx p n) (s.coef e l 10 / 65536) v y.sweep) }

/-- A sample in OFF, SWEEP or OPEN (09 R247). -/
def plainSample (e l mode : Nat) (s : State) : State × Nodes :=
  let s := if mode = 2 then sweepSee e l s else s
  let nd := baseNodes s e l 0 0
  let i := if mode = 2 then i32 (nd.i + s.coefI e l 14) else nd.i
  let out := if mode = 0 then 0 else lawBase s e l i
  (writeOut e l i out none s, { nd with i := i, out := out })

/-- A node record and the triggers of the traced loop (10 R282–R284). -/
def traceSample (e l : Nat) (nd : Nodes) (special : Bool) (s : State) : State :=
  let cfg := s.rd (R.STY_TRACE_CFG e)
  if fieldOf cfg 7 0 ≠ l ∨ (trState s e ≠ 1 ∧ trState s e ≠ 2) then s
  else
    let all := [nd.m, nd.e, nd.p, nd.i, nd.v, nd.h0, nd.h1, nd.out, nd.r]
    let ws := ((List.range 9).filter fun b => bitOf cfg (8 + b)).map fun b => wrapN 32 (all.getD b 0)
    let at_ := s.fd (R.STY_TRACE_STATUS e) 11 0
    let pos := if 4096 < at_ + ws.length + 1 then 0 else at_
    let s := trRecord e ((s.now / 8000 % 2 ^ 22 * 256 + ws.length) :: ws) s
    let trig := fieldOf cfg 22 20
    if (trig = 1 ∧ special) ∨ (trig = 2 ∧ s.rd (R.STY_TRACE_THRESH e) < nd.e.natAbs) then trTrigger e pos s else s

/-- RESEED at the slot start (10 R266). -/
def reseed (e l : Nat) (s : State) : State :=
  let x := s.lp e l
  if x.reseed then
    (s.wr (coefOff e l 10) (wrapN 32 x.ia)).setLp e l { x with reseed := false, x := x.xa, bad := 0 }
  else s

/-- The words of the supervision block that the housekeeping uses, as they stand at the slot start (10 R287). -/
def supTake (e l : Nat) (s : State) : State :=
  s.setLp e l { s.lp e l with sup := (s.rd (supOff e l 0), s.rd (supOff e l 5), s.rd (supOff e l 6)) }

/-- What a slot does before its sample: a reseed, one queued word, a scheduled roll, the end of a relay whose loop has lost maintenance
(09 R254; 10 R266, R275, R280). -/
def slotStart (e l : Nat) (s : State) : State :=
  let s := relayCount e l (scheduledRoll e l (supTake e l (reseed e l (applyWord e l s))))
  if ((s.eng e).relay.map (·.l)) = some l ∧ !inMaint s e l then relayFail e 6 s else s

/-- The supervisor's check at slot start (10 R264, R265): r, and whether MODEL_MISMATCH was raised. -/
def slotCheck (e l : Nat) (m : Int) (s : State) : State × Int × Bool :=
  let h := holdCauses s e l
  let live := (slotProof s l).kind == .live
  let en := s.bit (supOff e l 0) 2
  if loopMode s e l = 1 ∧ en then
    if h.1 || h.2.1 || (s.lp e l).guard != 0 || !live then (s.setLp e l { s.lp e l with anchor := true }, 0, false)
    else supCheck e l m s
  else if en && live then (takeAnchor e l m s, 0, false)
  else (s.setLp e l { s.lp e l with anchor := true }, 0, false)

/-- The sample: a held one writes the previous code again (09 R245, R247, R248). Answers the nodes and whether a roll or OUT_WRAP came. -/
def slotLaw (e l : Nat) (held : Bool) (m err : Int) (s : State) : State × Nodes × Bool :=
  let mode := loopMode s e l
  if held then
    let x := s.lp e l
    (s.setLp e l { x with guard := x.guard - 1, lk := 0 }, baseNodes s e l m err, false)
  else if mode = 1 then runSample e l m err s
  else
    let (s, nd) := plainSample e l mode s
    (s.setLp e l { s.lp e l with lk := 0 }, nd, false)

/-- One slot of one loop (09 R242–R258; 10 R264–R284). -/
def slotSample (e l : Nat) (s : State) : State :=
  let first := rollSlot s e l
  let s := slotStart e l s
  let run := loopMode s e l == 1
  let h0 := holdCauses s e l
  let guarded := (s.lp e l).guard != 0
  let st := loopLaneSt s e l
  let m := measure s e l
  let err := i32 (s.coefI e l 2 - m)
  let en := s.bit (supOff e l 0) 2
  let (s, r, mis) := slotCheck e l m s
  let h := holdCauses s e l
  let held := h.1 || h.2.1 || h.2.2
  let (s, nd, roll) := slotLaw e l held m err s
  let s := if held ∧ ((s.eng e).relay.map (·.l)) = some l then relayFail e 5 s else s
  let slipBefore := (s.lp e l).slipped
  let s := if first && !roll then rollSweep e l s else s
  let s := if run && !held then bandCount e l err (lockCount e l err s) else s
  let s := if run && !(held && (h0.1 || h0.2.1 || h0.2.2)) && !guarded then slipCheck e l st err mis s else slipNone e l s
  let slip := !slipBefore && (s.lp e l).slipped
  let s := if run && en then supUpdate e l s else s
  let s := traceSample e l { nd with r := r } (mis || roll || slip) s
  let s := if en then residReg e l r s else s.fw (R.STY_SUP_RESID e l) 1 1 (b2n (s.lp e l).slipped)
  engineCounts e (holdShow e l (holdCauses s e l) s)

/-- The engine runs: its domain is up and its clock gate open (09 Table 9.4). -/
def engineRuns (s : State) (e : Nat) : Bool := s.domUp (0x98 + e / 2) && s.bit (R.STY_STATUS e) 0

/-- STYLUS_SLOT (09 R242). -/
def execStylusSlot (e : Fin 16) (l : Fin 140) (s : State) : Host.Outcome State Fault Refusal :=
  if !engineRuns s e ∨ loopId e l = 0xFFF then done s else done (slotSample e l s)

/-- ROLL_DONE (09 R251): the first sample after the guard, which is a slot of the loop. -/
def execRollDone (e : Fin 16) (l : Fin 140) (s : State) : Host.Outcome State Fault Refusal :=
  let x := s.lp e l
  if !engineRuns s e ∨ !x.rolling ∨ x.guard ≠ 0 then done s else done (slotSample e l s)

/-! Coefficient writes (09 R254–R258) -/

/-- Engine, loop index and word of an offset in a coefficient block. -/
def coefAt (off : Nat) : Option (Nat × Nat × Nat) :=
  let e := (off - 0x100000) / 0x10000
  let o := off % 0x10000
  if off < 0x100000 ∨ 0x200000 ≤ off then none
  else if 0x1000 ≤ o ∧ o < 0x4800 then some (e, (o - 0x1000) / 0x100, o % 0x100 / 4)
  else if 0x5000 ≤ o ∧ o < 0xA400 then some (e, 56 + (o - 0x5000) / 0x100, o % 0x100 / 4)
  else none

/-- A coefficient write: into the queue; OUT, ERR, STATE and spare slots discard it (09 R254, R258). -/
def coefWrite (off value : Nat) (s : State) : State :=
  match coefAt off with
  | none => s
  | some (e, l, w) =>
    if !s.blockOn off ∨ loopId e l = 0xFFF ∨ w = 11 ∨ w = 12 ∨ w = 13 ∨ (14 < w ∧ w < 32) then s else wqPush e l w value s

/-- STY_COEF_WRITE (09 R254). -/
def execStyCoefWrite (path : Path) (off : Nat) (value : Word) (s : State) : Host.Outcome State Fault Refusal :=
  through path (.write off value.toNat) s <|
  done (coefWrite off value.toNat s)

/-! Housekeeping (10 R271–R274) -/

/-- Low and high margin of a ring (10 R271). -/
def lowMargin (s : State) (e l : Nat) : Nat := (s.lp e l).dac / 256

/-- The high margin. -/
def highMargin (s : State) (e l : Nat) : Nat := (0xFFFF - (s.lp e l).dac) / 256

/-- A ring whose lane is LOCKING, LIVE or EXPRESS (10 R271). -/
def carries (s : State) (e l : Nat) : Bool := match loopLane e l with
  | some (tx, p, n) => [2, 3, 4].contains (s.lane tx p n) && ringSlot tx (s.role tx p n == 2) n == l
  | none => false

/-- Rings of an engine in the order of their loop IDs. -/
def ringIdx : List Nat := (List.range 54).map (· + 2)

/-- The smaller of two margins with their loops; the first of equal ones. -/
def lessMargin (a : Option (Nat × Nat)) (b : Nat × Nat) : Option (Nat × Nat) :=
  match a with
  | some x => if b.1 < x.1 then some b else a
  | none => some b

/-- An engine's smallest low margin and its loop; none if no ring loop qualifies (10 R271). -/
def headroom (s : State) (e : Nat) : Option (Nat × Nat) :=
  ringIdx.foldl (fun a l => if carries s e l then lessMargin a (lowMargin s e l, loopId e l) else a) none

/-- SEED of a ring with SEED_AUTO (10 R272). -/
def refreshSeed (e l : Nat) (s : State) : State :=
  let x := s.lp e l
  if !bitOf x.sup.1 3 then s
  else
    let f := sgn 32 x.sup.2.2
    let base := s.coefI e l 10 + x.dint
    s.wr (coefOff e l 9) (wrapN 32 (if 0x8000 ≤ x.dac then base - f else base + f))

/-- ROLL_DUE of a ring (10 R274): raised once, and a rotation asked for on a non-EXPRESS lane of a port with a spare: of the peer for an RX
lane; the rotation of a TX lane goes by the ring's bit itself (12 R339). -/
def rollDue (e l : Nat) (s : State) : State :=
  let kt := (s.lp e l).sup.2.1
  let hi := decide (highMargin s e l ≤ fieldOf kt 31 24)
  let lo := decide (lowMargin s e l ≤ fieldOf kt 23 16)
  if !bitOf (s.lp e l).sup.1 4 || !(hi || lo) || s.bit (R.STY_ROLL_DUE e (l / 32)) (l % 32) then s
  else match loopLane e l with
    | none => s
    | some (tx, p, n) =>
      let s := (s.fw (R.STY_ROLL_DUE e (l / 32)) (l % 32) (l % 32) 1).fw (R.STY_SUP_RESID e l) 2 2 1
      let s := s.ev Ev.ROLL_DUE (loopId e l) [laneCode tx p n, b2n (!hi)]
      if tx || s.lane tx p n == 4 || spares s tx p == 0 then s
      else lctl p 0x09 [n] (s.uLk p fun L => { L with rxAsks := L.rxAsks.filter (· != n) ++ [n] })

/-- The housekeeping of one engine. -/
def keepEngine (s : State) (e : Nat) : State :=
  if !engineRuns s e then s
  else
    let s := ringIdx.foldl (fun s l => rollDue e l (refreshSeed e l s)) s
    let (h, l) := (headroom s e).getD (255, 0)
    (s.fw (R.STY_SUP_STATUS e) 7 0 h).fw (R.STY_SUP_STATUS e) 19 8 l

/-- The package's H and its loop: the smallest of the engines', the lowest loop ID among equals (10 R271). -/
def packageHeadroom (s : State) : Nat × Nat :=
  ((List.range 16).foldl (fun a e =>
    match if engineRuns s e then headroom s e else none with
    | some b => lessMargin a b
    | none => a) none).getD (255, 0)

/-- STYLUS_HOUSEKEEPING (10 R271–R274). -/
def execStylusHousekeeping (s : State) : Host.Outcome State Fault Refusal :=
  let s := (List.range 16).foldl keepEngine s
  let (h, l) := packageHeadroom s
  done ((s.fw R.PWR_HEADROOM 7 0 h).fw R.PWR_HEADROOM 25 16 l)

/-- STY_SUP_RELEASE (10 R268). -/
def execStySupRelease (path : Path) (e : Fin 16) (value : Word) (s : State) : Host.Outcome State Fault Refusal :=
  through path (.write (R.STY_SUP_RELEASE e) value.toNat) s <|
  if hostLike path then done (s.deny Ev.SUP_DENIED (R.STY_SUP_RELEASE e) value.toNat path)
  else if !s.blockOn (R.STY_SUP_RELEASE e) ∨ 140 ≤ fieldOf value.toNat 7 0 then done s
  else
    let l := fieldOf value.toNat 7 0
    let s := supRelease e l s
    let st := s.rd (coefOff e l 13)
    done (engineCounts e (holdShow e l (bitOf st 8, bitOf st 9, supHeld s e l) s))

/-! Relay commands -/

/-- Refuse a relay: RESULT 2 with the reason (10 R278). -/
def relayRefuse (e l reason : Nat) (s : State) : State :=
  let s := (s.fw (R.STY_RELAY_STATUS e) 26 24 2).fw (R.STY_RELAY_STATUS e) 21 20 reason
  s.ev Ev.RELAY_REFUSED (if l < 140 then loopId e l else 0xFFF) [reason]

/-- The loops a relay can tune: a TEC loop or a bank's wavelength loop (10 R278). -/
def relayEligible (e l : Nat) : Bool := (l == 137 && e % 4 == 0) || (l == 0 && e % 2 == 1)

/-- RELAY_START (10 R278). -/
def execRelayStart (path : Path) (e : Fin 16) (value : Word) (s : State) : Host.Outcome State Fault Refusal :=
  through path (.write (R.STY_RELAY_CMD e) value.toNat) s <|
  let e := e.val
  let l := fieldOf value.toNat 7 0
  if !bitOf value.toNat 31 ∨ !s.blockOn (R.STY_RELAY_CMD e) then done s
  else if hostLike path then done (relayRefuse e l 3 s)
  else if !relayEligible e l then done (relayRefuse e l 0 s)
  else if !inMaint s e l then done (relayRefuse e l 1 s)
  else if (s.eng e).relay.isSome then done (relayRefuse e l 2 s)
  else
    let c0 := s.coefI e l 11
    let s := s.setEng e { s.eng e with relay := some ⟨l, c0, c0, false, 0, 0, 0, 0, none, none⟩ }
    let s := s.wr (R.STY_RELAY_STATUS e) (2 ^ 31 + l)
    done (if l = 137 then safeOn 3 (e / 4 * 2 + 1) (safeOn 3 (e / 4 * 2) s) else safeOn 3 (e / 2) s)

/-- RELAY_TIMEOUT (10 R280). -/
def execRelayTimeout (e : Fin 16) (s : State) : Host.Outcome State Fault Refusal :=
  match (s.eng e).relay with
  | none => done s
  | some r => if r.samples < s.fd (R.STY_RELAY_LIMIT e) 31 16 then done s else done (relayFail e 4 s)

/-! Traces -/

/-- TRACE_ARM (10 R284): recording starts in state ARMED. -/
def execTraceArm (path : Path) (e : Fin 16) (s : State) : Host.Outcome State Fault Refusal :=
  through path (.write (R.STY_TRACE_CMD e) 1) s <|
  if !s.blockOn (R.STY_TRACE_CMD e) then done s
  else done ((s.wr (R.STY_TRACE_STATUS e) (2 ^ 30)).setEng e { s.eng e with post := 0 })

/-- TRACE_FORCE (10 R284). -/
def execTraceForce (path : Path) (e : Fin 16) (s : State) : Host.Outcome State Fault Refusal :=
  through path (.write (R.STY_TRACE_CMD e) 2) s <|
  if !s.blockOn (R.STY_TRACE_CMD e) then done s
  else done (trTrigger e (s.fd (R.STY_TRACE_STATUS e) 11 0) s)

/-- TRACE_STOP (10 R284). -/
def execTraceStop (path : Path) (e : Fin 16) (s : State) : Host.Outcome State Fault Refusal :=
  through path (.write (R.STY_TRACE_CMD e) 4) s <|
  if !s.blockOn (R.STY_TRACE_CMD e) ∨ (trState s e ≠ 1 ∧ trState s e ≠ 2) then done s
  else done (s.fw (R.STY_TRACE_STATUS e) 31 30 3)

/-- TRACE_CT_TRIGGER (10 R284; 04 R122): CT has reached the instant, which fires once, whatever steps follow. -/
def execTraceCtTrigger (e : Fin 16) (s : State) : Host.Outcome State Fault Refusal :=
  let at_ := s.rd64 (R.STY_TRACE_CT_LO e)
  if s.fd (R.STY_TRACE_CFG e) 22 20 ≠ 3 ∨ !s.blockOn (R.STY_TRACE_CMD e) ∨ s.now < at_ ∨ (s.eng e).fired = some at_ then done s
  else done (trTrigger e (s.fd (R.STY_TRACE_STATUS e) 11 0) (s.setEng e { s.eng e with fired := some at_ }))

/-- TRACE_POST_DONE (10 R284): POST dwords have been recorded. -/
def execTracePostDone (e : Fin 16) (s : State) : Host.Outcome State Fault Refusal :=
  if trState s e = 2 ∧ (s.eng e).post = 0 then done (s.fw (R.STY_TRACE_STATUS e) 31 30 3) else done s

end Sys2Proof.Machine
end

