-- ==== Sys2Proof/Machine/TimeSync.lean ====
section
/-! DEFINITION. Cluster time (04): the two-way exchange, the servo, candidates, states and PTM. Rows TIME_REQ_SEND to PTM_TIMEOUT. -/

namespace Sys2Proof.Machine

/-- TIME_STATE (04 Table 4.3). -/
def State.tst (s : State) : Nat := s.fd R.TIME_STATUS 2 0

/-- Set TIME_STATE. -/
def State.setTst (s : State) (v : Nat) : State := s.fw R.TIME_STATUS 2 0 v

/-- A TIME_CFG field of 0 is treated as 1 (04 R132). -/
def orOne (n : Nat) : Nat := if n = 0 then 1 else n

/-- A fine stamp in 1/16 tick (04 R110). -/
def fine (f : FineStamp) : Int := (f.ct.toNat : Int) * 16 + f.frac.toNat

/-- Dword 2 of the record: PARENT, ALT1, ALT2 with their valid bits (13 R358, R365): the port of candidate i, if valid. -/
def candPort (s : State) (i : Nat) : Option Nat :=
  let w := s.curRec 0x008
  let k := 31 - 8 * i
  if bitOf w k then some (fieldOf w (k - 4) (k - 7)) else none

/-- The signed asymmetry ASYM_p of a port, 1/16 tick (13 R359, R365). -/
def portAsym (s : State) (p : Nat) : Int := sgn 16 (s.curRec (0x030 + 4 * (p / 2)) >>> (16 * (p % 2)))

/-- A port that can carry exchanges: ACTIVE or DEGRADED and not in loopback (04 R127). -/
def portCarries (s : State) (p : Nat) : Bool := (s.port p == 4 || s.port p == 5) && !s.bit (R.LNK_STATUS p) 4

/-- Candidate i's record. -/
def candAt (s : State) (i : Nat) : Cand := s.time.cands.getD i ⟨0, false⟩

/-- Set candidate i's record. -/
def setCand (s : State) (i : Nat) (c : Cand) : State := (s.uTime fun t => { t with cands := setAt ⟨0, false⟩ s.time.cands i c })

/-- Candidate i is usable (04 R127). -/
def candUsable (s : State) (i : Nat) : Bool :=
  match candPort s i with
  | none => false
  | some p => portCarries s p && !(candAt s i).passed

/-- Candidate i's port is ACTIVE or DEGRADED, the test HOLD makes (04 R127). -/
def candUp (s : State) (i : Nat) : Bool :=
  match candPort s i with
  | none => false
  | some p => portCarries s p

/-- Seeding starts anew after a change of parent or plate (04 R117). -/
def reseedDelay (s : State) : State := (s.uTime fun t => { t with delays := [], seeded := 0 })

/-- Exchanges still open are discarded, each counted once: those with a parent that the member leaves (04 R117; log 139). -/
def dropOpen (s : State) : State :=
  (s.sat R.TIME_XCHG_DROP 31 0 s.time.out.length).uTime fun t => { t with gone := t.out.map (·.seq) ++ t.gone, out := [] }

/-- The member disciplines to candidate i on port p (04 R127). A change of port raises TIME_PARENT_CHANGE and restarts the seeding of the
delay mean (R117); it also ends the run of R120 and begins an ACQUIRE collection anew, which is of exchanges from one parent (Table 4.3;
log 139). -/
def takeParent (s : State) (i p : Nat) (changed : Bool) : State :=
  let s := (s.fw R.TIME_STATUS 7 4 p).fw R.TIME_STATUS 3 3 (b2n (i != 0))
  let s := s.uTime fun t => { t with cur := i }
  if changed then
    let s := reseedDelay ((dropOpen s).uTime fun t => { t with holdRun := 0, run := 0, acq := [] })
    s.ev Ev.TIME_PARENT_CHANGE p []
  else s

/-- The first candidate in order that passes a test. -/
def firstCand (f : Nat → Bool) : Option Nat := lowest 3 f

/-- HOLD: no parent, so none that is an alternate (04 R127, R132); the first candidate whose port is up is tried first. -/
def toHold (s : State) : State :=
  ((s.setTst 3).fw R.TIME_STATUS 3 3 0).uTime fun t => { t with holdRun := 0, cur := (firstCand (candUp s)).getD 0 }

/-- Choose the parent (04 R127): the first usable candidate; none brings HOLD with TIME_HOLD. An UNSYNCED member stays
UNSYNCED (log 16). -/
def chooseParent (s : State) : State :=
  if s.tst = 1 ∨ s.tst = 2 ∨ s.tst = 4 then
    match firstCand (candUsable s) with
    | some i =>
      let p := (candPort s i).getD 0
      if i = s.time.cur ∧ p = s.fd R.TIME_STATUS 7 4 then s else takeParent s i p (p != s.fd R.TIME_STATUS 7 4)
    | none => if s.tst = 4 then s else (toHold s).ev Ev.TIME_HOLD 0 []
  else s

/-- The candidate that a member without a usable one sends to: the one in use while its port is up, else the first whose port is up
(04 R127). -/
def holdAim (s : State) : State :=
  if candUp s s.time.cur then s
  else match firstCand (candUp s) with
    | some i => s.uTime fun t => { t with cur := i, holdRun := 0 }
    | none => s

/-- The exchange's candidate is charged with a discard; the eighth in a row passes it over (04 R117, R127). -/
def chargeDiscard (s : State) : State :=
  let s := s.sat R.TIME_XCHG_DROP 31 0 1
  let i := s.time.cur
  let c := candAt s i
  let n := c.discards + 1
  if s.tst = 3 then
    let s := (s.uTime fun t => { t with holdRun := 0 })
    if 8 ≤ n then
      let next := (firstCand (fun k => i < k && candUp s k)).getD ((firstCand (candUp s)).getD i)
      (setCand s i { c with discards := 0 }).uTime fun t => { t with cur := next }
    else setCand s i { c with discards := n }
  else if 8 ≤ n then chooseParent (setCand s i ⟨0, true⟩)
  else setCand s i { c with discards := n }

/-- A non-root member sends TIME_REQ to its parent at a frame boundary and records t1 (04 R114, R115). -/
def execTimeReqSend (t1 : FineStamp) (s : State) : Host.Outcome State Fault Refusal :=
  let s := chooseParent s
  let s := if s.tst = 3 ∨ (s.tst = 4 ∧ candUsable s s.time.cur = false) then holdAim s else s
  if s.tst = 0 ∨ s.tst = 5 ∨ candUp s s.time.cur = false then done s
  else
    match candPort s s.time.cur with
    | none => done s
    | some p =>
      let q := s.time.seq
      let s := s.uTime fun t => { t with
        out := t.out ++ [⟨q, p, t1, s.ticks⟩], seq := (q + 1) % 65536, gone := t.gone.filter (· != q) }
      done (s.emit (.port p 5 ([w32 q] ++ [w32 (t1.ct.toNat / 2 ^ 32), w32 (t1.ct.toNat % 2 ^ 32), w32 t1.frac.toNat])))

/-- The root this member reports (04 R115, R132). -/
def rootChip (s : State) : Nat := if s.tst = 5 then s.chip else s.fd R.TIME_STATUS 29 16

/-- A parent answers TIME_REQ with TIME_RSP: t1 echoed, t2 its receive and t3 its transmit stamp (04 R114, R115). -/
def execTimeReqReceive (port : Fin 16) (seq : BitVec 16) (t1 t2 t3 : FineStamp) (s : State) :
    Host.Outcome State Fault Refusal :=
  let st (f : FineStamp) : List Word := [w32 (f.ct.toNat / 2 ^ 32), w32 (f.ct.toNat % 2 ^ 32)]
  done (s.emit (.port port.val 5
    ([w32 (s.tst * 2 ^ 29 + s.fd R.TIME_STATUS 12 8 * 2 ^ 24 + seq.toNat), w32 (rootChip s)] ++ st t1 ++ st t2 ++ st t3 ++
      [w32 (t3.frac.toNat * 256 + t2.frac.toNat * 16 + t1.frac.toNat)])))

/-- The mean of the accepted delays, 1/16 tick (04 R117). -/
def delayMean (ds : List Int) : Int := if ds = [] then 0 else tdivI ds.sum ds.length

/-- Insert into an ascending list. -/
def insI (x : Int) : List Int → List Int
  | [] => [x]
  | y :: ys => if x ≤ y then x :: y :: ys else y :: insI x ys

/-- Sort ascending. -/
def sortI (l : List Int) : List Int := l.foldr insI []

/-- The median θ of R119: the middle value, or the mean of the two middle ones rounded toward zero. -/
def medianI (l : List Int) : Int :=
  let m := sortI l
  let n := m.length
  if n % 2 = 1 then m.getD (n / 2) 0 else tdivI (m.getD (n / 2 - 1) 0 + m.getD (n / 2) 0) 2

/-- The frequency preset of R119: the slope of the collected offsets in 0.001 ppm, clamped to ±200 ppm. -/
def acqSlope (l : List (Int × Int)) : Int :=
  match l.head?, l.getLast? with
  | some a, some b =>
    if b.1 = a.1 then 0 else clampI (-200000) 200000 (tdivI ((b.2 - a.2) * 1000000000) (b.1 - a.1))
  | _, _ => 0

/-- The servo's update of the trim (04 R118). -/
def servo (s : State) (th : Int) : State :=
  let kp : Int := s.fd R.TIME_SERVO_CFG 7 0
  let ki : Int := s.fd R.TIME_SERVO_CFG 15 8
  let slew : Int := s.fd R.TIME_SERVO_CFG 23 16
  let last := sgn 32 (s.rd R.CLK_ROOT_TRIM)
  let facc := clampI (-200000) 200000 (s.time.facc + th * ki)
  let want := clampI (-200000) 200000 (facc + th * kp)
  let trim := last + clampI (-(slew * 1000)) (slew * 1000) (want - last)
  (s.wr R.CLK_ROOT_TRIM (wrapN 32 trim)).uTime fun t => { t with facc := facc }

/-- STEP_THRESH in 1/16 tick (04 R120). -/
def stepThresh (s : State) : Int := (s.fd R.TIME_STEP_CFG 15 0 : Int) * 16

/-- Absolute value of an integer. -/
def absI (x : Int) : Int := if x < 0 then -x else x

/-- What ACQUIRE does with an accepted exchange (04 R119). -/
def acquire (s : State) (t1 th : Int) : State :=
  if s.time.testing then
    let s := (s.uTime fun t => { t with testing := false, acq := [] })
    if absI th ≤ stepThresh s then s.setTst 2 else s
  else
    let l := s.time.acq ++ [(t1, th)]
    if orOne (s.fd R.TIME_CFG 7 4) ≤ l.length then
      (s.uTime fun t => { t with acq := [], testing := true, facc := acqSlope l,
                                     pending := some (tdivI (medianI (l.map (·.2))) 16) })
    else (s.uTime fun t => { t with acq := l })

/-- TRACK and UNSYNCED: the servo, the run of R120 and the run of R126. -/
def track (s : State) (th : Int) : State :=
  let s := servo s th
  let run := if stepThresh s < absI th then s.time.run + 1 else 0
  let s := if run = 3 ∧ s.time.pending.isNone
    then (s.uTime fun t => { t with run := 0, pending := some (tdivI th 16) })
    else (s.uTime fun t => { t with run := satN 3 run })
  if s.tst = 4 then
    let k := if absI th ≤ 2560 then s.time.lockRun + 1 else 0
    if orOne (s.fd R.TIME_CFG 15 8) ≤ k then
      let s := ((s.setTst 2).uTime fun t => { t with lockRun := 0 })
      (s.fw R.GLB_STATE 8 8 0).ev Ev.TIME_SYNCED 0 []
    else (s.uTime fun t => { t with lockRun := k })
  else s

/-- HOLD: three accepted exchanges in a row from one candidate make it the parent, through TRACK (04 R127). -/
def holdAccept (s : State) : State :=
  let n := s.time.holdRun + 1
  if n = 3 then
    let i := s.time.cur
    takeParent ((setCand s i ⟨0, false⟩).setTst 2) i ((candPort s i).getD 0) true
  else (s.uTime fun t => { t with holdRun := n })

/-- TIME_OFFSET, ROOT_CHIP and DEPTH after an accepted exchange, one that is set aside too (04 R132). -/
def acceptRegs (s : State) (r : TimeRsp) (th : Int) : State :=
  let s := s.wr R.TIME_OFFSET (wrapN 32 (clampI (-2147483648) 2147483647 th))
  let s := if s.tst = 5 then s else (s.fw R.TIME_STATUS 29 16 r.root.toNat).fw R.TIME_STATUS 12 8 (r.depth.toNat + 1)
  s.uTime fun t => { t with root := r.root.toNat }

/-- The attempt timer restarts on an exchange within 1,600 ticks (04 R125). -/
def attemptRestart (s : State) (th : Int) : State :=
  if absI th ≤ 25600 ∧ s.time.attempt.isSome then s.uTime fun t => { t with attempt := some s.ticks } else s

/-- What each state does with an accepted exchange. -/
def acceptByState (s : State) (t1 th : Int) : State :=
  if s.tst = 1 then acquire s t1 th
  else if s.tst = 3 then holdAccept s
  else if s.tst = 2 ∨ s.tst = 4 then track s th
  else s

/-- An accepted exchange (04 R116–R127); one that measured the offset before a pending or landed step is set aside (R692), and then
enters neither the delay mean nor the runs of R126 and of HOLD (log 139). -/
def acceptXchg (s : State) (x : Xchg) (r : TimeRsp) (th d : Int) : State :=
  let s0 := acceptRegs (setCand s s.time.cur { candAt s s.time.cur with discards := 0 }) r th
  if s.time.pending.isSome ∨ x.tick < s.time.landed then s0
  else
    let ds := (d :: s.time.delays).take 16
    let s0 := s0.wr R.TIME_DELAY (wrapN 32 (delayMean ds))
    acceptByState (attemptRestart (s0.uTime fun t => { t with delays := ds, seeded := satN 16 (t.seeded + 1) }) th) (fine x.t1) th

/-- A TIME_RSP passes the checks of R117 that do not concern its delay. -/
def rspGood (s : State) (x : Xchg) (port : Nat) (r : TimeRsp) : Bool :=
  x.port == port && x.seq == r.seq.toNat &&
  (r.root.toNat == s.fd R.CL_CFG 13 0 || r.root.toNat == s.fd R.CL_CFG 29 16) &&
  !(r.state.toNat == 0 || r.state.toNat == 1 || r.state.toNat == 4)

/-- The exchange that a TIME_RSP ends: the one whose SEQ it echoes, or the oldest open one, which then fails on its SEQ (04 R117). -/
def rspXchg (s : State) (seq : Nat) : Option Xchg :=
  match s.time.out.find? fun x => x.seq == seq with
  | some x => some x
  | none => s.time.out.head?

/-- A child receives TIME_RSP (04 R116, R117): θ and D in 1/16 tick, then accepted or discarded; that of an exchange discarded before is
discarded again and not counted. -/
def execTimeRspReceive (port : Fin 16) (r : TimeRsp) (t4 : FineStamp) (s : State) : Host.Outcome State Fault Refusal :=
  if s.time.gone.contains r.seq.toNat then done (s.uTime fun t => { t with gone := t.gone.filter (· != r.seq.toNat) })
  else match rspXchg s r.seq.toNat with
  | none => done s
  | some x =>
    let s := s.uTime fun t => { t with out := t.out.filter (· != x) }
    let a := fine r.t2 - fine x.t1
    let b := fine t4 - fine r.t3
    let th := tdivI (a - b - portAsym s port.val) 2
    let d := tdivI (a + b) 2
    let near := decide (s.time.seeded < 16) ||
      decide (absI (d - delayMean s.time.delays) ≤ (s.fd R.TIME_CFG 23 16 : Int))
    if rspGood s x port.val r && near then done (acceptXchg s x r th d) else done (chargeDiscard s)

/-- No TIME_RSP within 2 frames: the oldest open exchange is discarded (04 R117). -/
def execTimeXchgTimeout (s : State) : Host.Outcome State Fault Refusal :=
  match s.time.out with
  | [] => done s
  | x :: xs => done (chargeDiscard (s.uTime fun t => { t with out := xs, gone := x.seq :: t.gone }))

/-- A passed-over candidate becomes usable again (04 R127). -/
def execParentCandidateReinstate (c : Fin 3) (s : State) : Host.Outcome State Fault Refusal :=
  done (setCand s c.val ⟨0, false⟩)

/-- 100 ms on the attempt timer: the member becomes UNSYNCED (04 R125). -/
def execTimeUnsynced (s : State) : Host.Outcome State Fault Refusal :=
  if s.tst = 1 ∨ s.tst = 2 ∨ s.tst = 3 then
    done ((((s.setTst 4).uTime fun t => { t with lockRun := 0 }).fw R.GLB_STATE 8 8 1).ev Ev.TIME_UNSYNCED 0 [])
  else done s

/-- The plate in force gives the member a parent port. -/
def hasParent (s : State) : Bool := (candPort s 0).isSome || (candPort s 1).isSome || (candPort s 2).isSome

/-- A member that the plate gives no parent port is FREE: no exchange, its attempt timer stopped; one that was UNSYNCED is so no more
(04 R124, R125; log 139). -/
def timeFree (s : State) : State :=
  ((((dropOpen s).setTst 0).fw R.TIME_STATUS 3 3 0).fw R.GLB_STATE 8 8 0).uTime fun t => { t with attempt := none, acq := [], testing := false }

/-- A member with a parent port leaves FREE for ACQUIRE, and its attempt timer starts (04 R125): at the start of LINKS, or at a later
apply. -/
def timeStart (s : State) : State :=
  if s.tst = 0 ∧ hasParent s = true then
    let i := (firstCand (fun k => (candPort s k).isSome)).getD 0
    let s := ((s.setTst 1).uTime fun t => { t with attempt := some s.ticks, acq := [], testing := false, cur := i })
    ((s.fw R.TIME_STATUS 7 4 ((candPort s i).getD 0)).fw R.TIME_STATUS 3 3 (b2n (i != 0)))
  else s

/-- A plate's candidates come into force (13 R358; 04 R124, R125, R127; 14 R385): a root stays ROOT; a member without a parent port is
FREE, and one that gains a parent port in LINKS or later leaves FREE. -/
def timePlate (s : State) : State :=
  let s := reseedDelay (s.uTime fun t => { t with cands := t.cands.map fun _ => ⟨0, false⟩ })
  if s.tst = 5 then s
  else if !hasParent s then timeFree s
  else if s.tst = 0 then
    (if [4, 5].contains s.top then let s := timeStart s; s.ev Ev.TIME_PARENT_CHANGE (s.fd R.TIME_STATUS 7 4) [] else s)
  else chooseParent s

/-- A member that takes the Etcher lease enters ROOT with no step (04 R128). One called for before still lands (R692; log 139). -/
def enterRoot (s : State) : State :=
  let was := s.tst
  let s := ((dropOpen s).setTst 5).fw R.TIME_STATUS 29 16 s.chip |>.fw R.TIME_STATUS 12 8 0
  let s := (s.fw R.TIME_STATUS 3 3 0).uTime fun t => { t with attempt := none }
  if was = 4 then (s.fw R.GLB_STATE 8 8 0).ev Ev.TIME_SYNCED 0 [] else s

/-- An Etcher that fences itself reports HOLD; its attempt timer starts at zero (04 R128). Given a parent by the winner's plate, it leaves
HOLD as any member does, and tries its candidates in their order (R127; log 139). -/
def rootToHold (s : State) : State :=
  if s.tst = 5 then ((toHold s).fw R.TIME_STATUS 29 16 s.time.root).uTime fun t => { t with attempt := some s.ticks } else s

/-- A PTM dialogue starts; it completes with PTM_RESPONSE (04 R130). -/
def ptmStart (s : State) : State :=
  if s.pcie.ptmEn then (if s.bit R.TIME_PTM_STATUS 2 then s else (s.fw R.TIME_PTM_STATUS 2 2 1).emit .ptm)
  else s.ev Ev.PTM_DISABLED 0 []

/-- A write of TIME_PTM_CTL: AUTO is stored, GO runs one dialogue or is discarded with PTM_DISABLED (04 R130, 22 R587). -/
def ptmCtlWrite (v : Nat) (s : State) : State :=
  let s := s.wr R.TIME_PTM_CTL (fieldOf v 15 8 * 256)
  if bitOf v 0 then ptmStart s else s

/-- TIME_PTM_GO row (04 R130). -/
def execTimePtmGo (path : Path) (value : Word) (s : State) : Host.Outcome State Fault Refusal :=
  through path (.write R.TIME_PTM_CTL value.toNat) s <|
  done (ptmCtlWrite value.toNat s)

/-- Every AUTO ms a dialogue starts while PTM Enable is set (04 R130). -/
def execPtmAutoTrigger (s : State) : Host.Outcome State Fault Refusal :=
  if s.fd R.TIME_PTM_CTL 15 8 ≠ 0 ∧ s.pcie.ptmEn then done (ptmStart s) else done s

/-- A PTM dialogue completes with a CT and host-time pair (04 R130, R131). -/
def execPtmResponse (ct host : Word64) (s : State) : Host.Outcome State Fault Refusal :=
  if s.bit R.TIME_PTM_STATUS 2 then
    done (((s.wr64 R.TIME_PTM_CT_LO ct.toNat).wr64 R.TIME_PTM_HOST_LO host.toNat).wr R.TIME_PTM_STATUS 1)
  else done s

/-- A dialogue without a response in 10 ms ends without storing a pair (22 R587). -/
def execPtmTimeout (s : State) : Host.Outcome State Fault Refusal :=
  if s.bit R.TIME_PTM_STATUS 2 then done ((s.fw R.TIME_PTM_STATUS 2 2 0).ev Ev.PTM_TIMEOUT 0 []) else done s

/-- The deadlines the package keeps as CT values move with a step (04 R123): a lease it holds, not the expiry it heard of another's (R122). -/
def shiftDeadlines (d : Int) (s : State) : State :=
  let mv (off : Nat) (t : State) : State := if t.rd64 off = 0 then t else t.wr64 off (wrapN 64 ((t.rd64 off : Int) + d))
  mv R.SCRIBE_LEASE_EXP_LO (if s.bit R.CL_STATUS 31 then mv R.CL_LEASE_EXP_LO s else s)

end Sys2Proof.Machine
end

