-- ==== Sys2Proof/Machine/TecLas.lean ====
section
/-! DEFINITION. TEC drives and laser banks (11), and the steps of bring-up that chapters 6, 8 and 11 share: the start of PHOTONICS,
the bring-up's dark capture and the start of LINKS. Rows PWM_PERIOD to LINE_HOURS_RECORD, and DARK_CAPTURED. -/

namespace Sys2Proof.Machine

/-! The gates and their interlock (11 R290–R295) -/

/-- A TEC drive's state. -/
def State.tk (s : State) (k : Nat) : TecSt := s.tec.getD k ⟨0, [none, none, none, none], 0, 0, 0, none, 0, 0⟩

/-- Change a TEC drive's state. -/
def State.uTk (s : State) (k : Nat) (f : TecSt → TecSt) : State := s.uTec fun t => setAt ⟨0, [none, none, none, none], 0, 0, 0, none, 0, 0⟩ t k (f (s.tk k))

/-- TEC_STATE.STATE: 0 OFF, 1 SOFTSTART, 2 RUN, 3 FAULT. -/
def tecState (s : State) (k : Nat) : Nat := s.fd R.TEC_STATE (4 * k + 1) (4 * k)

/-- D of a TEC: DEAD within 16 to 256 (11 R293). The register keeps what was written (log 135). -/
def deadTime (s : State) (k : Nat) : Nat := max 16 (min 256 (s.fd (R.TEC_CFG k) 8 0))

/-- Drive the four gates; each gate that goes off keeps its tick. -/
def driveGates (k g tick : Nat) (s : State) : State :=
  let t := s.tk k
  let off := (List.range 4).map fun b => if bitOf t.gates b && !bitOf g b then some tick else t.off.getD b none
  (s.uTk k fun t => { t with gates := g, off := off }).emit (.gates k (bitOf g 0) (bitOf g 1) (bitOf g 2) (bitOf g 3))

/-- Gate b of a request turns on too soon after its partner c (11 R294). -/
def tooSoon (t : TecSt) (d g tick b c : Nat) : Bool :=
  bitOf g b && !bitOf t.gates b && (bitOf t.gates c || match t.off.getD c none with
    | some o => decide (tick < o + d)
    | none => false)

/-- The leg (0 A, 1 B) of a request that violates the interlock (11 R294). -/
def violation (t : TecSt) (d g tick : Nat) : Option Nat :=
  lowest 2 fun leg =>
    (bitOf g (2 * leg) && bitOf g (2 * leg + 1)) || tooSoon t d g tick (2 * leg) (2 * leg + 1)
      || tooSoon t d g tick (2 * leg + 1) (2 * leg)

/-- The response of R295: gates low, the fault latched, STATE FAULT, the banks at safe power; its event with SOURCE k. In bring-up the
lasers wait for that TEC no longer (06 Table 6.8). -/
def tecFault (k bit code : Nat) (args : List Nat) (s : State) : State :=
  let s := driveGates k 0 s.ticks s
  let s := (s.fw R.TEC_FAULT (4 * k + bit) (4 * k + bit) 1).ev code k args
  let s := (s.fw R.TEC_STATE (4 * k + 1) (4 * k) 3).fw R.TEC_STATE (4 * k + 3) (4 * k + 3) 0
  let s := s.fw (R.TEC_DUTY k) 27 16 0
  lasersOn (safeOn 2 (2 * k + 1) (safeOn 2 (2 * k) s))

/-- A gate request through the interlock (11 R294, R295); `force`: its source is TECk_FORCE. -/
def gateRequest (k g tick : Nat) (force : Bool) (s : State) : State :=
  match violation (s.tk k) (deadTime s k) g tick with
  | some leg => tecFault k 0 Ev.TEC_SHOOT [leg, b2n force, g] s
  | none => driveGates k g tick s

/-- A request of a period, unless the TEC has faulted within it. -/
def pwmEdge (k : Nat) (s : State) (x : Nat × Nat) : State :=
  if tecState s k = 3 then s else gateRequest k x.1 (s.ticks + x.2) false s

/-- The effective DUTY_MAX: the soft-start ramp over 100 ms (11 Table 11.4). -/
def dutyMax (s : State) (k : Nat) : Nat :=
  let m := s.fd (R.TEC_DUTY_MAX k) 14 0
  if tecState s k = 1 then m * min (s.ticks - (s.tk k).start) 160000000 / 160000000 else m

/-- The signed duty of a TEC's loop code (11 R288). -/
def tecCode (s : State) (k : Nat) : Int := ((s.lp (4 * k) 137).dac : Int) - 0x8000

/-- The duty from TECk_PA to TECk_PB: POLARITY swaps the two meanings (11 R288). -/
def tecQ (s : State) (k : Nat) : Int := if s.bit (R.TEC_CFG k) 12 then -tecCode s k else tecCode s k

/-- On-time of a magnitude (11 R290). -/
def onTicks (s : State) (k mag : Nat) : Nat := min (mag * 4000 / 32768) (4000 - 2 * deadTime s k - 160)

/-- The gate requests of a period with their ticks (11 R291): leg A switches for a positive duty. -/
def pwmEdges (q : Int) (d t : Nat) : List (Nat × Nat) :=
  if q = 0 then [(10, 0)]
  else
    let (gh, gl, other) := if 0 < q then (1, 2, 8) else (4, 8, 2)
    [(other, 0)] ++ (if t = 0 then [] else [(other + gh, d), (other, d + t)]) ++ [(other + gl, 2 * d + t)]

/-- Current counters of a period (11 R298): I above ILIM, which is taken as at most 3,900 (log 135), and under 50 mA while |q|, here
`mag`, is large; the frame mean of two samples. -/
def currentSample (k : Nat) (ma : Int) (mag : Nat) (s : State) : State :=
  let t := s.tk k
  let lim := min 3900 (s.fd (R.TEC_ILIM k) 11 0)
  let s := s.uTk k fun _ => { t with
    last := ma
    ocRun := if lim < ma.natAbs then satN 4 (t.ocRun + 1) else 0
    openRun := if ma.natAbs < 50 ∧ 8192 ≤ mag then satN 1000 (t.openRun + 1) else 0
    half := match t.half with
      | some _ => none
      | none => some ma }
  match t.half with
  | some a => s.wr (R.TEC_ISNS k) (wrapN 32 (tdivI (a + ma) 2))
  | none => s

/-- PWM_PERIOD (11 R290–R292, R298). -/
def execPwmPeriod (k : Fin 4) (ma : BitVec 16) (s : State) : Host.Outcome State Fault Refusal :=
  let st := tecState s k
  if !s.domUp 0xA6 then done s
  else if st = 1 ∨ st = 2 then
    let q := tecQ s k
    let mag := min q.natAbs (dutyMax s k)
    let q : Int := if q < 0 then -(mag : Int) else mag
    let t := onTicks s k mag
    let code := tecCode s k
    let s := (s.wr (R.TEC_DUTY k) (65536 * t + wrapN 16 code))
    let s := (pwmEdges q (deadTime s k) t).foldl (pwmEdge k) s
    done (currentSample k (sgn 16 ma.toNat) code.natAbs s)
  else done (currentSample k (sgn 16 ma.toNat) 0 s)

/-- TEC_OVERCURRENT (11 R298). -/
def execTecOvercurrent (k : Fin 4) (s : State) : Host.Outcome State Fault Refusal :=
  let t := s.tk k
  if s.bit R.TEC_FAULT (4 * k + 1) ∨ (t.ocRun < 4 ∧ t.last.natAbs ≤ 3900) then done s
  else done (tecFault k 1 Ev.TEC_OVERCURRENT [] s)

/-- TEC_OPEN (11 R298). -/
def execTecOpen (k : Fin 4) (s : State) : Host.Outcome State Fault Refusal :=
  if s.bit R.TEC_FAULT (4 * k + 2) ∨ (s.tk k).openRun < 1000 then done s
  else done (tecFault k 2 Ev.TEC_OPEN [] s)

/-- The TEC bring-up begins (11 Table 11.4, R297): SOFTSTART, the loop in RUN with i at code 0x8000, FORCE.EN cleared and what it drove
off, the banks at safe power. -/
def tecBringup (k : Nat) (s : State) : State :=
  let s := if s.bit (R.TEC_FORCE k) 31 then driveGates k 0 s.ticks s else s
  let s := (s.fw R.TEC_STATE (4 * k + 1) (4 * k) 1).fw R.TEC_STATE (4 * k + 3) (4 * k + 3) 0
  let s := s.fw (R.TEC_FORCE k) 31 31 0
  let s := s.uTk k fun t => { t with start := s.ticks, band := 0, ocRun := 0, openRun := 0, last := 0 }
  let s := (s.wr (coefOff (4 * k) 137 10) 0x80000000).wr (coefOff (4 * k) 137 0) (ctlMode s (4 * k) 137 1)
  safeOn 2 (2 * k + 1) (safeOn 2 (2 * k) s)

/-- A TEC whose last fault bit has just been cleared (11 R296). -/
def faultCleared (before : State) (s : State) (k : Nat) : State :=
  if before.fd R.TEC_FAULT (4 * k + 2) (4 * k) ≠ 0 ∧ s.fd R.TEC_FAULT (4 * k + 2) (4 * k) = 0 then
    tecBringup k (supRelease (4 * k) 137 s)
  else s

/-- TEC_FAULT_CLEAR (11 R296, R297). -/
def execTecFaultClear (path : Path) (value : Word) (s : State) : Host.Outcome State Fault Refusal :=
  through path (.write R.TEC_FAULT value.toNat) s <|
  if hostLike path then done (s.deny Ev.TEC_DENIED R.TEC_FAULT value.toNat path)
  else if !s.blockOn R.TEC_FAULT then done s
  else
    let f := s.rd R.TEC_FAULT
    let t := s.wr R.TEC_FAULT (f - Nat.land f value.toNat)
    done ((List.range 4).foldl (faultCleared s) t)

/-- TECK_FORCE_WRITE (11 R295, R297): acts only while the TEC is OFF; the request passes the interlock. -/
def execTeckForceWrite (path : Path) (k : Fin 4) (value : Word) (s : State) : Host.Outcome State Fault Refusal :=
  through path (.write (R.TEC_FORCE k) value.toNat) s <|
  let v := Nat.land value.toNat 0x8000000F
  if hostLike path then done (s.deny Ev.TEC_DENIED (R.TEC_FORCE k) value.toNat path)
  else if !s.blockOn (R.TEC_FORCE k) ∨ (bitOf v 31 ∧ tecState s k ≠ 0) then done s
  else
    let s := s.wr (R.TEC_FORCE k) v
    if tecState s k ≠ 0 then done s
    else done (gateRequest k (if bitOf v 31 then v % 16 else 0) s.ticks true s)

/-- TEC_SETTLED (11 Table 11.4, R296). -/
def execTecSettled (k : Fin 4) (s : State) : Host.Outcome State Fault Refusal :=
  if tecState s k ≠ 1 ∨ (s.tk k).band < s.fd (R.TEC_SETTLE k) 31 16 then done s
  else
    let s := (s.fw R.TEC_STATE (4 * k + 1) (4 * k) 2).fw R.TEC_STATE (4 * k + 3) (4 * k + 3) 1
    done (lasersOn (safeOff 2 (2 * k + 1) (safeOff 2 (2 * k) (s.ev Ev.TEC_SETTLED k []))))

/-- What a lane whose bank is off leaves: its TX lanes but EXPRESS go DARK, their rings parked (12 Table 12.1; log 121). -/
def bankOff (p : Nat) (s : State) : State :=
  laneCounts p ((List.range 18).foldl (fun s n =>
    if [0, 4, 6].contains (s.lane true p n) then s else setLane true p n 0 (parkLane true p n s)) s)

/-- TEC_SETTLE_FAIL (11 Table 11.4; 06 R193): the TEC's banks stay off, its ports go FAILED; PORT_FAILED's cause, for which Table 25.3
has no code, is a free value (log 20). -/
def execTecSettleFail (k : Fin 4) (s : State) : Host.Outcome State Fault Refusal :=
  if tecState s k ≠ 1 then done s
  else
    let (c, s) := s.draw
    let s := driveGates k 0 s.ticks (s.fw R.TEC_STATE (4 * k + 1) (4 * k) 3)
    let s := (s.fw (R.TEC_DUTY k) 27 16 0).ev Ev.TEC_SETTLE_FAIL k []
    let s := (List.range 4).foldl (fun s i => enterFailed (4 * k + i) c.toNat (bankOff (4 * k + i) s)) s
    done (lasersOn ((List.range 36).foldl (fun s l => updLine (2 * k + l / 18) (l % 18) s) s))

/-! Laser banks -/

/-- LAS_CTL_WRITE (11 R303, R312). -/
def execLasCtlWrite (path : Path) (value : Word) (s : State) : Host.Outcome State Fault Refusal :=
  through path (.write R.LAS_CTL value.toNat) s <|
  if hostLike path then done (s.deny Ev.LAS_DENIED R.LAS_CTL value.toNat path)
  else
    let v := value.toNat % 256
    done ((List.range 8).foldl (fun s b => if bitOf v b then safeOn 4 b s else safeOff 4 b s) (s.wr R.LAS_CTL v))

/-- The lane that a probe lights: the lowest the plate gives a local role (11 R310; log 132). -/
def probeLane (s : State) (p : Nat) : Nat := (lowest 18 fun n => s.role true p n == 1 && s.lane true p n != 6).getD 0

/-- SHUT_PORT_PROBE (11 R310): a port shut for input loss alone sends its probe; light during it restores the port. -/
def execShutPortProbe (p : Fin 16) (light : Bool) (s : State) : Host.Outcome State Fault Refusal :=
  if s.bit R.LAS_SHUT p ∧ s.bit R.LAS_SHUT_CAUSE (16 + p) ∧ !s.bit R.LAS_SHUT_CAUSE p then
    let s := s.emit (.probe p (probeLane s p))
    done (if light then portRestore p s else s)
  else done s

/-- One LINE_HOURS record of four lines (25 R635). -/
def hoursRecord (s : State) (i : Nat) : State :=
  s.ev Ev.LINE_HOURS (4 * i) ((List.range 4).map fun j => s.rd (R.LAS_LINE_HOURS ((4 * i + j) / 18) ((4 * i + j) % 18)))

/-- LINE_HOURS_RECORD (25 R635): the records of all 144 lines. -/
def execLineHoursRecord (s : State) : Host.Outcome State Fault Refusal := done ((List.range 36).foldl hoursRecord s)

/-- The second counted on every LIT or STANDBY line (11 R312). -/
def lineSecond (s : State) : State :=
  (List.range 144).foldl (fun s l =>
    if s.line (l / 18) (l % 18) = 1 ∨ s.line (l / 18) (l % 18) = 2 then s.sat (R.LAS_LINE_HOURS (l / 18) (l % 18)) 31 0 1 else s) s

/-- One step of a line's TRIM toward LAS_EQ_TARGET (11 R300), from the average of its monitor over the period just ended. -/
def equalise (s : State) (l : Nat) : State :=
  let (b, n) := (l / 18, l % 18)
  if s.line b n ≠ 2 ∨ s.bit R.LAS_STATUS b then s
  else
    let v := sgn 16 (fieldOf (smGet (fun _ => (0 : Word)) s.proof.telem (monitorPix s b n)).toNat 31 16)
    let g := sgn 16 (s.rd R.LAS_EQ_TARGET)
    let t := s.fd (R.LAS_LINE b n) 27 16
    s.fw (R.LAS_LINE b n) 27 16 (if v < g then min 4095 (t + 1) else if g < v then t - 1 else t)

/-- LINE_WEAR (11 R305): 85 % of LAS_LINE_MAX on a LIT line. WEAR_DUE asks both ports to move off its channel; a line whose channel
neither uses retires, unless a PREPARE is outstanding or an apply has not ended. -/
def wearCheck (s : State) (l : Nat) : State :=
  let (b, n) := (l / 18, l % 18)
  let off := R.LAS_LINE b n
  let s := if s.line b n ≠ 2 ∨ s.bit off 29 ∨ lineCurrent s b n 2 * 100 < 85 * s.fd R.LAS_LINE_MAX 15 0 then s
    else (s.fw off 29 29 1).ev Ev.LINE_WEAR l []
  if replateOpen s then s else wearEnd b n s

/-- LINE_FAILING (11 R306): a LIT or STANDBY line at 95 %, or a LIT one starved at full trim; it retires at once, and both TX lanes on
its channel move as fault swaps. `starved`: its monitor was low at full trim in every LIVE proof of the period. -/
def failCheck (starved : Nat → Bool) (s : State) (l : Nat) : State :=
  let (b, n) := (l / 18, l % 18)
  let off := R.LAS_LINE b n
  let st := s.line b n
  let high := decide (95 * s.fd R.LAS_LINE_MAX 15 0 ≤ lineCurrent s b n st * 100)
  if !(st == 1 || st == 2) ∨ s.bit off 28 ∨ !(high || (st == 2 && starved l)) then s
  else
    let s := retireLine b n ((s.fw off 28 28 1).ev Ev.LINE_FAILING l [])
    [2 * b, 2 * b + 1].foldl (fun s p => if s.slot true p n = 31 then s else faultLane true p n 3 s) s

/-- The laser checks of a telemetry period's end (11 R300, R305, R306), after its telemetry is formed; `counted`: it had a LIVE proof. -/
def lasPeriod (counted : Bool) (s : State) : State :=
  let bright := s.las.bright
  let s := if counted then (List.range 144).foldl equalise s else s
  let s := (List.range 144).foldl wearCheck s
  let s := (List.range 144).foldl (failCheck fun l => counted && !bright.contains l) s
  s.uLas fun t => { t with bright := [] }

/-! Bring-up (06 Table 6.8) -/

/-- PHOTONICS begins (06 Table 6.8, 6a; 11 R295, R303, Table 11.4): bring-up of each TEC no fault holds off, banks at safe power. What
follows waits for the TECs. -/
def photonicsStart (s : State) : State :=
  let s := (s.fw R.GLB_STATE 3 0 3).uBoot fun b => { b with photo := 0 }
  let s := (List.range 8).foldl (fun s b => safeOn 1 b s) s
  let s := (List.range 4).foldl (fun s k => if s.fd R.TEC_FAULT (4 * k + 2) (4 * k) = 0 then tecBringup k s else s) s
  lasersOn s

/-- LINKS begins: banks leave the BRINGUP cause, ports train, the time discipline starts (04 R125; 11 R303; 12 R330). -/
def linksStart (s : State) : State :=
  let s := s.fw R.GLB_STATE 3 0 4
  let s := (List.range 8).foldl (fun s b => safeOff 1 b s) s
  timeStart ((List.range 16).foldl (fun s p => linkOnPort p s) s)

/-- DARK_CAPTURED (08 R224): a capture that has its FRAMES proofs ends. That of a vacated lane lets its sweep begin (12 R336, R340); the
bring-up's, of all pixels, ends PHOTONICS (06 Table 6.8, 6d; log 11). -/
def execDarkCaptured (lane : Option (BitVec 10)) (s : State) : Host.Outcome State Fault Refusal :=
  let l := lane.map (·.toNat)
  match s.proof.caps.find? (fun c => c.lane == l) with
  | none => done s
  | some c =>
    if c.done < nz (s.fd R.PROOF_DARK_CFG 3 0) then done s
    else
      let s := endCapture c s
      match l.bind laneParts with
      | some (tx, p, n) => done (vacSweep tx p n s)
      | none => done (if l = none ∧ s.top = 3 ∧ s.boot.photo = 2 then linksStart s else s)

end Sys2Proof.Machine
end

