-- ==== Sys2Proof/Machine/EventLog.lean ====
section
/-! DEFINITION. The event collector, its routes and logs (25), the flash log (24 R619–R621), its replay at boot (25 R636), and the
telemetry snapshot (R637). Rows FLASH_LOG_WRITE to TELEMETRY_SNAPSHOT. -/

namespace Sys2Proof.Machine

/-! The collector (R626–R630) -/

/-- The policy byte of a code, with the forced route bits (R628, R629). -/
def policyByte (s : State) (code : Nat) : Nat :=
  Nat.lor (fieldOf (s.rd (R.EVT_POLICY (code / 4))) (8 * (code % 4) + 7) (8 * (code % 4))) (evForced code)

/-- The record's dwords (Table 25.1). -/
def evDws (r : EvRec) (sev seq : Nat) (loss : Bool) : List Word :=
  [w32 (r.ct.toNat % 2 ^ 32), w32 (r.ct.toNat / 2 ^ 32),
    w32 (65536 * r.code + 16384 * sev + 8192 * b2n loss + r.count), w32 (65536 * seq + r.src)]
  ++ (List.range 4).map fun i => w32 (r.args.getD i 0)

/-- EVT_STATUS.FAULT_N follows EVT_FAULT and the reference fault (R634). -/
def faultSync (s : State) : State := s.fw R.EVT_STATUS 31 31 (b2n (s.rd R.EVT_FAULT != 0 || s.bit R.EVT_STATUS 30))

/-- NVM_QUEUE follows the flash queue. -/
def nvmSync (s : State) : State := s.fw R.EVT_STATUS 25 16 (min 512 s.evt.flashQ.length)

/-- MGMT_ALERT follows the alert queue (26 R645, R646). -/
def alertSync (s : State) : State :=
  let q := s.evt.alerts
  let s := (s.fw R.MGMT_ALERT 20 16 q.length).fw R.MGMT_ALERT 15 0 (q.headD 0)
  if q.isEmpty then (s.fw R.MGMT_ALERT 31 31 0).uPins fun p => { p with smbAlert := false } else s

/-- LOG2SIZE of the HBM log. -/
def logSize (s : State) : Nat := max 10 (min 20 (s.fd R.EVT_HBM_CFG 20 16))

/-- Where the next HBM log record goes. -/
def logAddr (s : State) : Nat := s.rd64 R.EVT_HBM_BASE_LO + 32 * (s.rd R.EVT_HBM_WR % 2 ^ logSize s)

/-- The HBM log is writable: enabled, inside HBM, and its stack is up (R632). -/
def logOn (s : State) : Bool :=
  s.bit R.EVT_HBM_CFG 31 && decide (logAddr s + 32 ≤ hbmSize) && s.domUp (0x90 + hbmStack (logAddr s))

/-- Write a record to the HBM log, dword 0 last; a record not yet read is given up and counted (R631). -/
def hbmLogPut (ds : List Word) (s : State) : State :=
  let w := s.rd R.EVT_HBM_WR
  let rd := s.rd R.EVT_HBM_RD
  let s := if w ≠ rd ∧ (w + 2 ^ 32 - rd) % 2 ^ logSize s = 0
    then (s.wr R.EVT_HBM_RD ((rd + 1) % 2 ^ 32)).sat R.EVT_HBM_LOST 31 0 1 else s
  let a := logAddr s
  let s := memWrite 0 .hbm a (goodBytes (dwBytes (ds.take 1))) (memWrite 0 .hbm (a + 4) (goodBytes (dwBytes (ds.drop 1))) s)
  s.wr R.EVT_HBM_WR ((w + 1) % 2 ^ 32)

/-- EVT_RECENT's record of a SEQ. -/
def recentDws (s : State) (seq : Nat) : List Word := (List.range 8).map fun i => w32 (s.rd (R.EVT_RECENT (8 * (seq % 64) + i)))

/-- Write the HBM-routed records still held in EVT_RECENT; those lost are counted (R632). -/
def hbmBacklog (s : State) : State :=
  if !logOn s then s
  else
    let s' := s.uEvt fun e => { e with unwritten := [] }
    s.evt.unwritten.foldl (fun t q =>
      if (s.evt.seq + 65536 - q) % 65536 ≤ 64 then hbmLogPut (recentDws s q) t else t.sat R.EVT_HBM_LOST 31 0 1) s'

/-- The HBM route. -/
def routeHbm (ds : List Word) (seq : Nat) (s : State) : State :=
  if logOn s then hbmLogPut ds (hbmBacklog s) else s.uEvt fun e => { e with unwritten := e.unwritten ++ [seq] }

/-- The vector of a severity. -/
def evVector (s : State) (sev : Nat) : Nat :=
  if sev = 3 then s.fd R.EVT_VECTOR 26 16 else if sev = 2 then s.fd R.EVT_VECTOR 10 0 else s.fd R.EVT_VECTOR_N 10 0

/-- The FLASH route (24 R619, R620). -/
def routeFlash (ds : List Word) (s : State) : State :=
  if 512 ≤ s.evt.flashQ.length then s.sat R.EVT_NVM_DROP 31 0 1
  else nvmSync (s.uEvt fun e => { e with flashQ := e.flashQ ++ [ds] })

/-- The ALERT route (26 R645); ALERT_OVERFLOW is itself not queued. -/
def routeAlert (code seq : Nat) (s : State) : State :=
  if s.evt.alerts.length < 16 then
    alertSync ((s.uEvt fun e => { e with alerts := e.alerts ++ [seq] }).uPins fun p => { p with smbAlert := true })
  else if code = Ev.ALERT_OVERFLOW then s
  else (s.fw R.MGMT_ALERT 31 31 1).ev Ev.ALERT_OVERFLOW 0 []

/-- Deliver one record: number it, write EVT_RECENT, route it; answers its dwords. The flash route can be left to the caller. -/
def deliver1 (flash : Bool) (r : EvRec) (s : State) : State × List Word :=
  let p := policyByte s r.code
  let sev := p / 64 % 4
  let seq := s.evt.seq
  let ds := evDws r sev seq s.evt.loss
  let s := s.uEvt fun e => { e with seq := (e.seq + 1) % 65536, loss := false }
  let s := (ds.zip (List.range 8)).foldl (fun s x => s.wr (R.EVT_RECENT (8 * (seq % 64) + x.2)) x.1.toNat) s
  let s := if bitOf p 0 then routeHbm ds seq s else s
  let s := if bitOf p 1 then irq (evVector s sev) R.EVT_IRQ_DROP s else s
  let s := if bitOf p 2 ∧ flash then routeFlash ds s else s
  let s := if bitOf p 3 then faultSync (s.wr R.EVT_FAULT (Nat.lor (s.rd R.EVT_FAULT) (2 ^ (r.code / 256)))) else s
  (if bitOf p 4 then routeAlert r.code seq s else s, ds)

/-- EVENT_COLLECT (R626). -/
def execEventCollect (s : State) : Host.Outcome State Fault Refusal :=
  match s.evt.queue with
  | [] => done s
  | r :: rs => done (deliver1 true r (s.uEvt fun e => { e with queue := rs })).1

/-- HBM_LOG_BACKLOG (R632). -/
def execHbmLogBacklog (s : State) : Host.Outcome State Fault Refusal := done (hbmBacklog s)

/-- EVT_FAULT's write of ones (R634). -/
def faultClear (p : Path) (v : Nat) (s : State) : State :=
  if hostLike p then s.deny Ev.EVT_DENIED R.EVT_FAULT v p
  else faultSync (s.wr R.EVT_FAULT (s.rd R.EVT_FAULT - Nat.land (s.rd R.EVT_FAULT) v))

/-- EVT_FAULT_CLEAR (R634). -/
def execEvtFaultClear (path : Path) (value : Word) (s : State) : Host.Outcome State Fault Refusal :=
  through path (.write R.EVT_FAULT value.toNat) s <|
  done (faultClear path value.toNat s)

/-! The flash log -/

/-- Where a sector of the log begins (06 Table 6.1; R635). -/
def logSector (k : Nat) : Nat := 0x4000000 + 65536 * k

/-- A range of flash is all ones: nothing is listed in it. -/
def flashBlank (s : State) (a n : Nat) : Bool := !s.flash.any fun e => decide (a ≤ e.1) && decide (e.1 < a + n)

/-- The sector and the next record slot. -/
def nvmSector (s : State) : Nat := s.fd R.EVT_NVM_PTR 23 16
/-- SLOT. -/
def nvmSlot (s : State) : Nat := s.fd R.EVT_NVM_PTR 10 0

/-- The log goes on at the next page, of the next sector after the last one. -/
def nvmNext (s : State) : State :=
  let n := nvmSlot s / 8 * 8 + 8
  if n < 2048 then s.fw R.EVT_NVM_PTR 10 0 n
  else (s.fw R.EVT_NVM_PTR 10 0 0).fw R.EVT_NVM_PTR 23 16 ((nvmSector s + 1) % 256)

/-- A dword of a log slot. -/
def slotDw (s : State) (k slot i : Nat) : Nat := s.flashDw (logSector k + 32 * slot + 4 * i)

/-- CODE of a log slot. -/
def slotCode (s : State) (k slot : Nat) : Nat := slotDw s k slot 2 / 65536

/-- The pass number of a sector: of the EVT_SECTOR record it begins with. -/
def sectorPass (s : State) (k : Nat) : Option Nat := if slotCode s k 0 = Ev.EVT_SECTOR then some (slotDw s k 0 4) else none

/-- A line is RETIRED. -/
def lineGone (s : State) (l : Nat) : Bool := s.line (l / 18) (l % 18) == 3

/-- The three dwords of a RETIRED_MAP record's half. -/
def retiredWords (s : State) (h : Nat) : List Nat :=
  (List.range 3).map fun i => (List.range 32).foldl (fun a j =>
    let k := 32 * i + j
    if k < 72 ∧ lineGone s (72 * h + k) then a + 2 ^ j else a) 0

/-- The records each sector begins with (R635). -/
def sectorHead (s : State) : List EvRec :=
  let pass := match sectorPass s ((nvmSector s + 255) % 256) with
    | some n => (n + 1) % 2 ^ 32
    | none => 1
  let one := fun code src args => (⟨s.ct, s.ticks, code, 1, src, args⟩ : EvRec)
  [one Ev.EVT_SECTOR (nvmSector s) [pass], one Ev.RETIRED_MAP 0 (retiredWords s 0), one Ev.RETIRED_MAP 1 (retiredWords s 1)]
  ++ (List.range 36).map fun i => one Ev.LINE_HOURS (4 * i)
    ((List.range 4).map fun j => s.rd (R.LAS_LINE_HOURS ((4 * i + j) / 18) ((4 * i + j) % 18)))

/-- The records at a sector's start go ahead of every queued one; they pass the collector like any other. -/
def headFirst (s : State) : State :=
  let y := (sectorHead s).foldl (fun (a : State × List (List Word)) r =>
    let x := deliver1 false r a.1
    (x.1, a.2 ++ [x.2])) (s, [])
  nvmSync (y.1.uEvt fun e => { e with flashQ := y.2 ++ e.flashQ })

/-- An image read or a mailbox flash operation holds the log back (R619): IMAGE and CONFIG. -/
def nvmMay (s : State) : Bool := decide (3 ≤ s.top) && s.boot.flash.isNone && s.boot.flashNext.isNone

/-- The rest of the current sector is erased. -/
def pageBlank (s : State) : Bool := flashBlank s (logSector (nvmSector s) + 32 * nvmSlot s) 256

/-- FLASH_LOG_WRITE (24 R619): one page program of up to eight records begins. -/
def execFlashLogWrite (s : State) : Host.Outcome State Fault Refusal :=
  if !nvmMay s ∨ s.evt.flashQ.isEmpty ∨ !pageBlank s then done s
  else
    let s := if nvmSlot s = 0 then headFirst s else s
    let now := s.evt.flashQ.take 8
    let s := nvmSync (s.uEvt fun e => { e with flashQ := e.flashQ.drop 8 })
    done (s.uBoot fun b => { b with flash := some (.logPage (nvmSector s) (nvmSlot s) now) })

/-- FLASH_LOG_ERASE (24 R621). -/
def execFlashLogErase (s : State) : Host.Outcome State Fault Refusal :=
  let k := (nvmSector s + 1) % 256
  if !nvmMay s ∨ s.boot.session.isSome ∨ nvmSlot s = 0 ∨ flashBlank s (logSector k) 65536 then done s
  else done (s.uBoot fun b => { b with flash := some (.logErase k) })

/-! The replay at boot (R307, R636) -/

/-- The newest sector: the one with the highest pass number. -/
def newestSector (s : State) : Option Nat :=
  ((List.range 256).foldl (fun (a : Option (Nat × Nat)) k =>
    match sectorPass s k, a with
    | some n, none => some (k, n)
    | some n, some b => if b.2 < n then some (k, n) else a
    | none, _ => a) none).map (·.1)

/-- The end of a sector's log: the page after the last one that holds any byte. -/
def sectorEnd (s : State) (k : Nat) : Nat :=
  (List.range 256).foldl (fun a i => if flashBlank s (logSector k + 256 * i) 256 then a else 8 * (i + 1)) 0

/-- Line hours a log slot carries (R636). -/
def replayHours (k : Nat) (s : State) (slot : Nat) : State :=
  let src := slotDw s k slot 3 % 65536
  if slotCode s k slot = Ev.LINE_HOURS then
    (List.range 4).foldl (fun s j =>
      let l := src + j
      if l < 144 then s.wr (R.LAS_LINE_HOURS (l / 18) (l % 18)) (slotDw s k slot (4 + j)) else s) s
  else s

/-- What a log slot of the newest sector says of the lines, replayed. -/
def replaySlot (k : Nat) (s : State) (slot : Nat) : State :=
  let c := slotCode s k slot
  let src := slotDw s k slot 3 % 65536
  let arg := fun i => slotDw s k slot (4 + i)
  if c = Ev.RETIRED_MAP then
    (List.range 72).foldl (fun s j =>
      let l := 72 * (src % 2) + j
      if bitOf (arg (j / 32)) (j % 32) then s.fw (R.LAS_LINE (l / 18) (l % 18)) 31 30 3 else s) s
  else if c = Ev.LINE_RETIRED ∧ src < 144 then s.fw (R.LAS_LINE (src / 18) (src % 18)) 31 30 3
  else replayHours k s slot

/-- The sectors in the order they were filled, the newest last. -/
def sectorOrder (s : State) (k : Nat) : List Nat :=
  ((List.range 255).map fun i => (k + 1 + i) % 256).filter fun j => (sectorPass s j).isSome

/-- The replay: line states from the newest sector, each line's newest hours, and the place new records begin. -/
def replayLog (s : State) : State :=
  match newestSector s with
  | none => s.wr R.EVT_NVM_PTR 0
  | some k =>
    let e := sectorEnd s k
    let s := (sectorOrder s k).foldl (fun s j => (List.range (sectorEnd s j)).foldl (replayHours j) s) s
    let s := (List.range e).foldl (replaySlot k) s
    if e < 2048 then s.wr R.EVT_NVM_PTR (65536 * k + e) else s.wr R.EVT_NVM_PTR (65536 * ((k + 1) % 256))

/-! The telemetry snapshot (R637) -/

/-- The snapshot's parts: offset and dwords, header dword 0 last. -/
def snapParts (s : State) (period frames : Nat) : List (Nat × List Word) :=
  let rd := fun o => w32 (s.rd o)
  let sum := fun p k => w32 (smGet (fun _ => (0 : Nat)) s.lnk.period (3 * p + k))
  [(0x0004, [w32 frames] ++ w64 (8000000 * period % 2 ^ 64)),
    (0x0040, [rd R.PWR_PKG_MEAS, rd (R.PWR_DIE_MEAS_G 0), rd (R.PWR_DIE_MEAS_G 1), rd R.PWR_HEADROOM]
      ++ (List.range 4).map (fun k => rd (R.TEC_ISNS k)) ++ (List.range 4).map fun k => rd (R.TEC_DUTY k)),
    (0x0080, (List.range 16).flatMap fun p => [rd (R.LNK_STATUS p), sum p 0, sum p 1, sum p 2]),
    (0x0180, (List.range 144).map fun l => w32 (lineWord s (l / 18) (l % 18))),
    (0x0400, tempWords s.proof.telemTemp),
    (0x1000, (List.range pixAll).map fun x => smGet (fun _ => (0 : Word)) s.proof.telem x),
    (0x0000, [w32 period])]

/-- TELEMETRY_SNAPSHOT (R637): of the last period, once. -/
def execTelemetrySnapshot (s : State) : Host.Outcome State Fault Refusal :=
  match s.evt.snap with
  | none => done s
  | some (period, frames) =>
    let a := s.rd64 R.EVT_TEL_BASE_LO + 16384 * (period % 2)
    if !s.bit R.EVT_TEL_CTL 31 ∨ hbmSize < a + 16384 ∨ !(List.range 8).all (fun k => s.domUp (0x90 + k)) then done s
    else
      let s := (snapParts s period frames).foldl (fun s x => memWrite 0 .hbm (a + x.1) (goodBytes (dwBytes x.2)) s) s
      done ((s.uEvt fun e => { e with snap := none }).wr R.EVT_TEL_LAST period)

end Sys2Proof.Machine
end

