-- ==== Sys2Proof/Machine/Sfdp.lean ====
section
/-! DEFINITION. SFDP discovery (06 R159–R161, R694): the tables of JESD216, whose layout is that standard's (PRESUMED, log 143). -/

namespace Sys2Proof.Machine

/-- A byte of the SFDP space; what the part does not answer reads erased. -/
def sfdpB (bs : List Byte) (a : Nat) : Nat := (bs.getD a 0xFF).toNat

/-- A little-endian number of n bytes of the SFDP space. -/
def sfdpN (bs : List Byte) (a n : Nat) : Nat := bytesToNat ((List.range n).map fun i => bs.getD (a + i) 0xFF)

/-- A parameter table as its header places it: address and length in dwords. -/
abbrev SfdpTable := Nat × Nat

/-- The parameter table with an ID: that of the first header that names it. -/
def sfdpFind (bs : List Byte) (id : Nat) : Option SfdpTable :=
  ((List.range (sfdpB bs 6 + 1)).find? fun i => sfdpB bs (8 * i + 8) + 256 * sfdpB bs (8 * i + 15) == id).map fun i =>
    (sfdpN bs (8 * i + 12) 3, sfdpB bs (8 * i + 11))

/-- Dword i of a table, from 0; a table that is absent or ends before it has 0 there. -/
def sfdpDw (bs : List Byte) (t : Option SfdpTable) (i : Nat) : Nat :=
  match t with
  | some (a, n) => if i < n then sfdpN bs (a + 4 * i) 4 else 0
  | none => 0

/-- Density in MiB: the number of bits less one, or a power of two of bits; below 2^62 bits. -/
def sfdpMib (d : Nat) : Nat := (if bitOf d 31 then 2 ^ min 62 (d % 2 ^ 31) else d + 1) / 2 ^ 23

/-- What the Basic Flash Parameter Table and, if present, the 4-byte Address Instruction Table say; none without the SFDP signature. -/
def sfdpRead (bs : List Byte) : Option NvmPart :=
  if sfdpN bs 0 4 ≠ 0x50444653 then none
  else
    let b := sfdpDw bs (sfdpFind bs 0xFF00)
    let i4 := sfdpDw bs (sfdpFind bs 0xFF84) 0
    let quad := bitOf (b 0) 21
    let read4 := if quad && bitOf i4 5 then some 0xEC else if bitOf i4 0 then some 0x13 else none
    some { mib := sfdpMib (b 1), quad := quad, dummy := fieldOf (b 2) 4 0, addr4 := fieldOf (b 0) 18 17 != 0 || read4.isSome,
           read4 := read4, enter4 := fieldOf (b 15) 31 24, quadEnable := fieldOf (b 14) 22 20, flagPoll := bitOf (b 13) 3 }

/-- The part is read in 1-1-1 mode at 25 MHz (R161). -/
def nvmSlow (n : NvmPart) : Bool := !(n.quad && n.addr4)

/-- The part cannot address the whole flash map, which ends at 0x04FF_FFFF (R161, R162): it is smaller, or takes 3-byte addresses only. -/
def nvmShort (n : NvmPart) : Bool := !n.addr4 || decide (n.mib < 80)

end Sys2Proof.Machine
end

