-- ==== Sys2Proof/Machine/BootOps.lean ====
section
/-! DEFINITION. Slots, their sections and the image checks (06 R159–R173), and how an update session ends (06 R184). -/

namespace Sys2Proof.Machine

/-- Where a slot begins (Table 6.1): 0 primary, 1 backup. -/
def slotBase (k : Nat) : Nat := 0x2000000 * k

/-- Dword i of a slot's header (Table 6.2). -/
def hdrDw (s : State) (k i : Nat) : Nat := s.flashDw (slotBase k + 4 * i)

/-- Bits of a pack of n entries with a common value, and the entries of the section table: TYPE, OFFSET, LENGTH (Table 6.3). -/
def sectionEntry (s : State) (k i : Nat) : Nat × Nat × Nat :=
  (hdrDw s k (16 + 16 * i) % 256, hdrDw s k (17 + 16 * i), hdrDw s k (18 + 16 * i))

/-- SECTIONS of a slot. -/
def sectionCount (s : State) (k : Nat) : Nat := hdrDw s k 2 % 256

/-- Where a slot's section of a type lies: flash address and length; none unless exactly one has the type (R165). -/
def findSection (s : State) (k ty : Nat) : Option (Nat × Nat) :=
  match ((List.range (sectionCount s k)).map (sectionEntry s k)).filter fun e => e.1 == ty with
  | [e] => some (slotBase k + e.2.1, e.2.2)
  | _ => none

/-- A dword of a section at flash address b. -/
def secDw (s : State) (b i : Nat) : Nat := s.flashDw (b + 4 * i)

/-- A section lies where R164 allows: on a 4,096-byte boundary after the header, within IMAGE_LEN. -/
def sectionPlaced (len : Nat) (e : Nat × Nat × Nat) : Bool :=
  decide (e.2.1 % 4096 = 0) && decide (4096 ≤ e.2.1) && decide (e.2.1 + e.2.2 ≤ len)

/-- No two sections share a byte. -/
def disjointAll : List (Nat × Nat × Nat) → Bool
  | [] => true
  | e :: es => es.all (fun x => decide (e.2.1 + e.2.2 ≤ x.2.1) || decide (x.2.1 + x.2.2 ≤ e.2.1)) && disjointAll es

/-- The section table obeys R163 and R164 (check 3); `limit` is what an update session has written. -/
def tableOk (s : State) (k : Nat) (limit : Option Nat) : Bool :=
  let len := hdrDw s k 4
  let n := sectionCount s k
  let es := (List.range (min n 16)).map (sectionEntry s k)
  decide (4096 ≤ len) && decide (len ≤ 33554432) && decide (1 ≤ n) && decide (n ≤ 16)
    && (match limit with
      | some w => decide (len ≤ w)
      | none => true)
    && es.all (sectionPlaced len) && disjointAll es
    && (List.range 256).all fun i => decide (i < 16 * n) || hdrDw s k (16 + i) == 0

/-- Bytes of the flash. -/
def flashBytes (s : State) (a n : Nat) : List Byte := bytesAt flashD s.flash a n

/-- SHA-384 of a slot's signed region, bytes 0x000–0xEFF (R163, R170). -/
def regionHash (s : State) (k : Nat) : List Byte := sha384 (flashBytes s (slotBase k) 0xF00)

/-- Check 4: SHA-384 of the public key is the key hash in fuses, which is not blank (R173). -/
def keyOk (s : State) (k : Nat) : Bool :=
  s.fuses.keyHash != 0 && bytesToNat (sha384 (flashBytes s (slotBase k + 0x440) 96)) == s.fuses.keyHash.toNat

/-- Check 5: the signature verifies under the header's public key. -/
def sigOk (s : State) (k : Nat) : Bool :=
  let n := fun i => beNat (flashBytes s (slotBase k + i) 48)
  ecdsaOk (regionHash s k) (n 0x440, n 0x470) (n 0xF00) (n 0xF30)

/-- Check 7: every section matches its DIGEST. -/
def digestsOk (s : State) (k : Nat) : Bool :=
  (List.range (sectionCount s k)).all fun i =>
    let e := sectionEntry s k i
    sha384 (flashBytes s (slotBase k + e.2.1) e.2.2) == flashBytes s (slotBase k + 0x50 + 64 * i) 48

/-- Checks 1–7 of a slot (R171–R173): the reason code of the first failure, 0 for none; `late`: the flash did not respond in time. -/
def imageCheck (s : State) (k : Nat) (late : Bool) (limit : Option Nat) : Nat :=
  if late then 9
  else if hdrDw s k 0 ≠ 0x4C4D4E31 ∨ hdrDw s k 1 ≠ 0x00011000 then 2
  else if hdrDw s k 2 / 256 ≠ 0x1608B0 then 3
  else if !tableOk s k limit then 8
  else if !s.pins.cfgOpen && !keyOk s k then 4
  else if !s.pins.cfgOpen && !sigOk s k then 5
  else if !s.pins.cfgOpen && decide (hdrDw s k 3 % 128 < s.fuses.rollback) then 6
  else if !digestsOk s k then 7
  else 0

/-- A slot's VALID flag. -/
def imgValid (s : State) (k : Nat) : Bool := s.bit R.BOOT_STATUS (17 - k)

/-- Set a slot's VALID flag. -/
def setValid (k : Nat) (v : Bool) (s : State) : State := s.fw R.BOOT_STATUS (17 - k) (17 - k) (b2n v)

/-- A check of a slot has ended: VALID and the last reason code (R185, R191). -/
def noteCheck (k reason : Nat) (s : State) : State :=
  let s := setValid k (reason == 0) s
  if k = 0 then s.fw R.BOOT_STATUS 15 12 reason else s.fw R.BOOT_STATUS 11 8 reason

/-- What BOOT_FUSE shows of the fuses (R191; 26 R647: the chip number in force is that of the highest programmed slot). -/
def fuseWord (s : State) : Nat :=
  2 ^ 31 * b2n (s.fuses.keyHash != 0) + 2 ^ 30 * b2n (!s.fuses.chips.isEmpty) + 65536 * s.fuses.rollback + (s.fuses.chips.getLastD 0).toNat

/-- The slot of the attempt under way (R174). -/
def attemptSlot (s : State) : Nat := (s.pins.bootSel.toNat + s.boot.attempt) % 2

/-- The running image's registers (R170, R191). -/
def imageRegs (k : Nat) (s : State) : State :=
  let plates := (List.range (sectionCount s k)).find? fun i => (sectionEntry s k i).1 == 5
  let dig := match plates with
    | some i => hdrDw s k (20 + 16 * i) + 2 ^ 32 * hdrDw s k (21 + 16 * i)
    | none => 0
  let w := hdrDw s k 3
  let s := s.wr R.BOOT_IMAGE_ID (65536 * (w / 65536) + 256 * (hdrDw s k 5 % 4) + w % 128)
  let s := ((s.wr64 R.BOOT_DIGEST_LO (bytesToNat ((regionHash s k).take 8))).wr64 R.BOOT_PLATESET_LO dig).wr64 R.BOOT_CLUSTER_LO
    (hdrDw s k 8 + 2 ^ 32 * hdrDw s k 9)
  s.uBoot fun b => { b with hdr := (List.range 16).map fun i => w32 (hdrDw s k i) }

/-! Flash operations (R694) -/

/-- Erase n bytes. -/
def eraseFlash (a n : Nat) (s : State) : State := s.uFlash fun m => m.filter fun e => !(decide (a ≤ e.1) && decide (e.1 < a + n))

/-- Program bytes of the flash: the log and the update regions are erased before. -/
def progFlash (a : Nat) (bs : List Byte) (s : State) : State := s.uFlash fun m => putBytes flashD m a bs

/-- n free bytes from address a: what a failed operation leaves (log 3). -/
def freeFlash (a n : Nat) (s : State) : State :=
  s.draw.2.uFlash fun m => putBytes flashD m a ((List.range n).map (Config.freeByte s.free))

/-- The bytes a failed operation may have touched: address and count. -/
def flashSpan : FlashOp → Nat × Nat
  | .eraseSlot k n => (slotBase k, (n + 65535) / 65536 * 65536)
  | .progSlot k off bs => (slotBase k + off, bs.length)
  | .logPage k slot recs => (logSector k + 32 * slot, 32 * recs.length)
  | .logErase k => (logSector k, 65536)
  | .lateErase a n => (a, n)
  | .lateProg a bs => (a, bs.length)

/-! Mailbox ends (R182, R184) -/

/-- A mailbox command ends: RESULT, BUSY, MB_DONE. -/
def mbEnd (p op result : Nat) (s : State) : State :=
  let s := ((s.fw R.BOOT_MB_STATUS 15 8 result).fw R.BOOT_MB_STATUS 7 0 op).fw R.BOOT_MB_STATUS 31 31 0
  s.ev Ev.MB_DONE 0 [op, result, p]

/-- The session closes; its slot stays as it is. -/
def sessionClose (s : State) : State := (s.uBoot fun b => { b with session := none }).fw R.BOOT_MB_STATUS 24 24 0

/-- A session whose owner satisfies `who` ends as UPD_ABORT would end it, with SESSION_ENDED (R184). A flash operation under way goes
on: BUSY reads 1 until it ends. -/
def sessionEnd (who : Nat → Bool) (s : State) : State :=
  match s.boot.session with
  | none => s
  | some x =>
    if !who x.owner then s
    else
      let busy := s.fd R.BOOT_MB_STATUS 31 31
      (mbEnd x.owner 0x13 0x0A (sessionClose s)).fw R.BOOT_MB_STATUS 31 31 busy

end Sys2Proof.Machine
end

