-- ==== Sys2Proof/Machine/Plates.lean ====
section
/-! DEFINITION. The PLATES section and its loader (13 R347–R368): records and coordinate maps built from the flash, the checks of
Table 13.5 that the loader makes, the codes of Table 13.7. `b` is where the section begins in the flash. -/

namespace Sys2Proof.Machine

/-- A dword of the section. -/
def plDw (s : State) (b off : Nat) : Nat := s.flashDw (b + off)

/-- A dword of a slot's directory entry. -/
def dirDw (s : State) (b k i : Nat) : Nat := plDw s b (0x20 + 128 * k + 4 * i)

/-- A plate as its directory entry and member map give it: SAFE, its members' chips and shapes, its groups, its fallback dwords. -/
structure PlateDir where
  safe : Bool
  members : List (Nat × Nat)
  groups : List (Nat × Nat)
  fall : List (Nat × Nat)
  deriving DecidableEq, Repr

/-- NSHAPES. -/
def shapeCount (s : State) (b : Nat) : Nat := plDw s b 8 % 2 ^ 14

/-- The valid slots. -/
def plateSlots (s : State) (b : Nat) : List Nat := (List.range 64).filter fun k => bitOf (dirDw s b k 0) 31

/-- Read a plate. -/
def plateDir (s : State) (b k : Nat) : PlateDir :=
  let m := dirDw s b k 2
  { safe := bitOf (dirDw s b k 0) 29,
    members := (List.range (dirDw s b k 0 % 2 ^ 14)).map fun i =>
      (plDw s b (m + 4 * i) % 2 ^ 14, fieldOf (plDw s b (m + 4 * i)) 28 16),
    groups := (List.range (dirDw s b k 1 % 32)).map fun g => (fieldOf (dirDw s b k (12 + g)) 28 16, dirDw s b k (12 + g) % 2 ^ 14),
    fall := (List.range 4).map fun f => (dirDw s b k (4 + 2 * f), dirDw s b k (5 + 2 * f)) }

/-- A dword of a shape. -/
def shapeDw (s : State) (b i byte : Nat) : Nat := plDw s b (plDw s b 0x10 + 2048 * i + byte)

/-! Structure (R364) -/

/-- The section's header, offsets and sizes. -/
def plHeaderOk (s : State) (b len : Nat) : Bool :=
  decide (0x2020 ≤ len) && plDw s b 0 == 0x504C5431 && plDw s b 4 / 65536 == 1
    && decide (1 ≤ plDw s b 8) && decide (plDw s b 8 ≤ 8192)
    && decide (plDw s b 0xC + 32 * 16384 ≤ len) && decide (plDw s b 0x10 + 2048 * shapeCount s b ≤ len)

/-- A valid slot's sizes. -/
def plSlotOk (s : State) (b len k : Nat) : Bool :=
  let n := dirDw s b k 0 % 2 ^ 14
  decide (1 ≤ n) && decide (n ≤ 8192) && decide (dirDw s b k 2 + 4 * n ≤ len)
    && (plateDir s b k).members.all fun m => decide (m.2 < shapeCount s b)

/-- No chip twice (R349). -/
def noTwice : List (Nat × Nat) → Bool
  | [] => true
  | m :: ms => !ms.any (fun x => x.1 == m.1) && noTwice ms

/-- Groups cover every coordinate once (R350). -/
def groupsOk (d : PlateDir) : Bool :=
  decide (1 ≤ d.groups.length) && decide (d.groups.length ≤ 16)
    && (List.range d.members.length).all (fun c =>
      (d.groups.filter fun g => decide (g.1 ≤ c) && decide (c < g.1 + g.2)).length == 1)
    && d.groups.all fun g => decide (1 ≤ g.2) && decide (g.1 + g.2 ≤ d.members.length)

/-! Records (R352, R366) -/

/-- Parity of a number's low 13 bits. -/
def parity (x : Nat) : Bool := popCount 13 x % 2 == 1

/-- c′ of a peer rule (Table 13.1); none outside the group. -/
def peerPlace (mode c v mask t gs : Nat) : Option Nat :=
  let x := match mode with
    | 1 => if mask = 0 then (c + v) % max 1 gs else c - Nat.land c mask + Nat.land (c + v) mask
    | 2 => xorN c v
    | _ => xorN (xorN c v) (if parity (Nat.land c mask) then t else 0)
  if x < gs then some x else none

/-- The coordinate of a chip. -/
def coordOf (d : PlateDir) (chip : Nat) : Option Nat := d.members.findIdx? fun m => m.1 == chip

/-- The group of a coordinate. -/
def groupAt (d : PlateDir) (c : Nat) : Nat × Nat :=
  (d.groups.find? fun g => decide (g.1 ≤ c) && decide (c < g.1 + g.2)).getD (0, 0)

/-- The chip a rule of mode 1–3 names from a coordinate: peer dwords a–d. -/
def ruleChip (d : PlateDir) (c a vv mask t : Nat) : Nat :=
  let g := groupAt d c
  match peerPlace (fieldOf a 31 28) (c - g.1) (vv % 8192) (mask % 8192) (t % 8192) g.2 with
  | some x => (d.members.getD (g.1 + x) (0, 0)).1
  | none => 0

/-- A dword of the record that slot k gets for a chip (R365, R366). -/
def recWord (s : State) (b k chip : Nat) (d : PlateDir) (c : Option Nat) (byte : Nat) : Nat :=
  if byte = 0 then
    match c with
    | some x => 2 ^ 31 + 2 ^ 30 + 2 ^ 29 * b2n d.safe + 65536 * k + x
    | none => 2 ^ 31 + 65536 * k
  else if byte = 0x0C then 65536 * d.groups.length + d.members.length
  else if 0x10 ≤ byte ∧ byte < 0x30 then
    let f := d.fall.getD ((byte - 0x10) / 8) (0, 0)
    if byte % 8 = 0 then f.1 else f.2
  else if 0x30 ≤ byte ∧ byte < 0x50 then plDw s b (plDw s b 0xC + 32 * chip + (byte - 0x30))
  else match c with
    | none => 0
    | some x =>
      let sh := (d.members.getD x (0, 0)).2
      let w := shapeDw s b sh byte
      if byte = 4 then 65536 * (groupAt d x).1 + (groupAt d x).2
      else if 0x50 ≤ byte ∧ byte < 0x150 ∧ byte % 16 = 0 ∧ 1 ≤ fieldOf w 31 28 ∧ fieldOf w 31 28 ≤ 3 then
        fieldSet w 13 0 (ruleChip d x w (shapeDw s b sh (byte + 4)) (shapeDw s b sh (byte + 8)) (shapeDw s b sh (byte + 12)))
      else w

/-! The checks on a record (Table 13.5): `r` gives its dwords -/

/-- A lane byte. -/
def recLane (r : Nat → Nat) (tx : Bool) (p n : Nat) : Nat :=
  let c := laneCode tx p n
  fieldOf (r (0x400 + c / 4 * 4)) (8 * (c % 4) + 7) (8 * (c % 4))

/-- ROLE of a lane. -/
def recRole (r : Nat → Nat) (tx : Bool) (p n : Nat) : Nat := recLane r tx p n % 4

/-- MODE of a port. -/
def recMode (r : Nat → Nat) (p : Nat) : Nat := fieldOf (r (0x50 + 16 * p)) 31 28

/-- The wire that a wire leaving stage t enters stage t + 1 on (R205). -/
def nextWire (t w : Nat) : Nat :=
  let k := if t < 3 then 16 >>> t else 16 >>> (5 - t)
  let base := w - w % k
  let q := w % k
  if t < 3 then base + q / 2 + q % 2 * (k / 2) else base + 2 * (q % (k / 2)) + q / (k / 2)

/-- A plane element is CROSS (R356). -/
def crossed (r : Nat → Nat) (n t j : Nat) : Bool :=
  if t < 4 then bitOf (r (0x200 + 8 * n)) (8 * t + j) else bitOf (r (0x204 + 8 * n)) (8 * (t - 4) + j)

/-- Follow a wire through the stages from t on. -/
def planeGo (r : Nat → Nat) (n : Nat) : Nat → Nat → Nat → Nat
  | 0, _, w => w
  | k + 1, t, w =>
    let w := if crossed r n t (w / 2) then xorN w 1 else w
    planeGo r n k (t + 1) (if t < 6 then nextWire t w else w)

/-- The output a plane input reaches. -/
def planeOut (r : Nat → Nat) (n i : Nat) : Nat := planeGo r n 7 0 i

/-- Plane settings of slot k against lane bytes (R206, R356). Plate 63 carries no express light and has every plane bit zero (R362), which
leads every input to its own output (log 41). -/
def planeBad (k : Nat) (r : Nat → Nat) : Bool :=
  (List.range 18).any fun n =>
    let ins := (List.range 16).filter fun i => recRole r false i n == 2
    let outs := (List.range 16).filter fun o => recRole r true o n == 2
    (k != 63 && (List.range 16).any fun i => planeOut r n i == i)
      || ins.any (fun i =>
        let o := recLane r false i n / 16
        planeOut r n i != o || recRole r true o n != 2 || recLane r true o n / 16 != i)
      || outs.any fun o =>
        let i := recLane r true o n / 16
        recRole r false i n != 2 || recLane r false i n / 16 != o

/-- Lane bytes (R355): RSV marks express lanes only (R357). -/
def laneBad (r : Nat → Nat) : Bool :=
  (List.range 1024).any fun c =>
    let x := fieldOf (r (0x400 + c / 4 * 4)) (8 * (c % 4) + 7) (8 * (c % 4))
    if 18 ≤ c % 32 then x != 0 else bitOf x 3 || (x % 4 != 2 && Nat.land x 0xF4 != 0)

/-- A rule keeps the limits of R353. -/
def ruleOk (mode v mask t gs : Nat) : Bool :=
  let pow := gs == 2 ^ Nat.log2 gs
  match mode with
  | 1 => mask == 0 || (Nat.land mask (mask + 1) == 0 && gs % (mask + 1) == 0)
  | 2 => pow && decide (v < gs) && decide (mask < gs) && decide (t < gs)
  | 3 => pow && decide (v < gs) && decide (mask < gs) && decide (t < gs) && !parity (Nat.land v mask) && !parity (Nat.land t mask)
  | _ => true

/-- Every chip some plate lists. -/
def listedAnywhere (ds : List (Nat × PlateDir)) (chip : Nat) : Bool := ds.any fun d => (coordOf d.2 chip).isSome

/-- The peer's shape at the peer's coordinate resolves back to this chip and port (R353). -/
def resolvesBack (s : State) (b : Nat) (d : PlateDir) (chip p g gs x pp : Nat) : Bool :=
  let sh := (d.members.getD (g + x) (0, 0)).2
  let dw := fun i => shapeDw s b sh (0x50 + 16 * pp + 4 * i)
  let m := fieldOf (dw 0) 31 28
  let back := if m = 4 then some (dw 0 % 2 ^ 14)
    else if 1 ≤ m ∧ m ≤ 3 ∧ ruleOk m (dw 1 % 8192) (dw 2 % 8192) (dw 3 % 8192) gs = true then
      (peerPlace m x (dw 1 % 8192) (dw 2 % 8192) (dw 3 % 8192) gs).map fun y => (d.members.getD (g + y) (0, 0)).1
    else none
  back == some chip && fieldOf (dw 0) 19 16 == p

/-- One port's peer (R353 for own ports, R354). -/
def portBad (s : State) (b : Nat) (ds : List (Nat × PlateDir)) (d : PlateDir) (chip c : Nat) (r : Nat → Nat) (p : Nat) : Bool :=
  let dw := fun i => r (0x50 + 16 * p + 4 * i)
  let m := recMode r p
  let role := fieldOf (dw 0) 25 24
  let pc := dw 0 % 2 ^ 14
  let pp := fieldOf (dw 0) 19 16
  let g := groupAt d c
  let rx := (List.range 18).any fun n => recRole r false p n == 1
  let tx := (List.range 18).any fun n => recRole r true p n == 1
  let limits := if p < 12 then decide (m ≤ 4) && role == 0
    else m == 0 || (m == 5 && role == (if p < 14 then 1 else 2))
  if !limits then true
  else if m = 0 then rx || tx
  else if !rx ∨ !tx then true
  else if m = 5 then listedAnywhere ds pc
  else
    let x := if m = 4 then
        (match coordOf d pc with
        | some y => if g.1 ≤ y ∧ y < g.1 + g.2 then some (y - g.1) else none
        | none => none)
      else if ruleOk m (dw 1 % 8192) (dw 2 % 8192) (dw 3 % 8192) g.2 then
        peerPlace m (c - g.1) (dw 1 % 8192) (dw 2 % 8192) (dw 3 % 8192) g.2
      else none
    match x with
    | none => true
    | some y => !resolvesBack s b d chip p g.1 g.2 y pp

/-- Fallback targets of a plate. -/
def fallTargets (d : PlateDir) : List Nat := (d.fall.filter fun f => bitOf f.1 31).map fun f => fieldOf f.1 21 16

/-- A plate can be reached again from one of `ts` within n steps of the fallback graph. -/
def fallReach (ds : List (Nat × PlateDir)) (k : Nat) : Nat → List Nat → Bool
  | 0, _ => false
  | n + 1, ts =>
    ts.contains k || fallReach ds k n ((ts.flatMap fun t => (ds.filter fun d => d.1 == t).flatMap fun d => fallTargets d.2).dedup)

/-- Fallback targets and cycles (R361). -/
def fallBad (ds : List (Nat × PlateDir)) (k : Nat) (d : PlateDir) : Bool :=
  let ts := fallTargets d
  ts.any (fun t => t == k || !ds.any fun x => x.1 == t) || fallReach ds k 64 ts

/-- DEPTH and named ports (R358). -/
def treeBad (r : Nat → Nat) : Bool :=
  let w := r 8
  let named := fun v sh => bitOf w v && !(decide (1 ≤ recMode r (fieldOf w (sh + 3) sh)) && decide (recMode r (fieldOf w (sh + 3) sh) ≤ 4))
  decide (20 < w % 32) || named 31 24 || named 23 16 || named 15 8

/-- The safe plate's own record (R362). -/
def safeBad (ds : List (Nat × PlateDir)) (d : PlateDir) (c : Option Nat) (r : Nat → Nat) : Bool :=
  c.isNone || !d.safe || ds.any (fun x => x.2.members.any fun m => (coordOf d m.1).isNone) || !(fallTargets d).isEmpty
    || (List.range 36).any (fun i => r (0x200 + 4 * i) != 0)
    || (List.range 16).any fun p =>
      let m := recMode r p
      !(m == 0 || m == (if p < 12 then 4 else 5))
        || [true, false].any fun tx => (List.range 18).any fun n =>
          recLane r tx p n != (if m = 0 then 0 else if n < 16 then 1 else 3)

/-- The first failure of a slot's record. -/
def recordBad (s : State) (b chip : Nat) (ds : List (Nat × PlateDir)) (k : Nat) (d : PlateDir) : Option Nat :=
  let c := coordOf d chip
  let r := recWord s b k chip d c
  if k = 63 ∧ safeBad ds d c r = true then some 3
  else if c.isSome ∧ planeBad k r = true then some 6
  else if c.isSome ∧ laneBad r = true then some 7
  else if (match c with
    | some x => (List.range 16).any (portBad s b ds d chip x r)
    | none => false) then some 8
  else if fallBad ds k d then some 9
  else if c.isSome ∧ treeBad r = true then some 0xA
  else none

/-- The first failure of the section: slot and code (Table 13.7), in the order of Table 13.9 (log 42). -/
def platesBad (s : State) (b len chip : Nat) : Option (Nat × Nat) :=
  if !plHeaderOk s b len then some (0, 1)
  else
    let ks := plateSlots s b
    match ks.find? fun k => !plSlotOk s b len k with
    | some k => some (k, 1)
    | none =>
      if !ks.contains 63 then some (63, 2)
      else
        let ds := ks.map fun k => (k, plateDir s b k)
        match ds.find? fun d => !noTwice d.2.members || !groupsOk d.2 with
        | some d => some (d.1, if noTwice d.2.members then 5 else 4)
        | none => ds.findSome? fun d => (recordBad s b chip ds d.1 d.2).map fun e => (d.1, e)

/-! Loading (R366) -/

/-- Slots of a list as a pair of dwords. -/
def slotBits (ks : List Nat) : Nat := ks.foldl (fun a k => a + 2 ^ k) 0

/-- Write plate SRAM and the registers that describe it. -/
def platesStore (s : State) (b chip : Nat) : State :=
  let ds := (plateSlots s b).map fun k => (k, plateDir s b k)
  let recs := ds.flatMap fun d =>
    let c := coordOf d.2 chip
    (((List.range 512).map fun i => (512 * d.1 + i, w32 (recWord s b d.1 chip d.2 c (4 * i)))).filter fun e => e.2 != 0)
  let maps := ds.foldl (fun (m : SMap (BitVec 16)) d =>
    (d.2.members.zip (List.range d.2.members.length)).foldl (fun m e =>
      smPut m (16384 * d.1 + e.1.1) (BitVec.ofNat 16 (32768 + e.2))) m) []
  let mine := (ds.filter fun d => (coordOf d.2 chip).isSome).map (·.1)
  let s := (s.uPlates fun _ => recs).uMaps fun _ => maps
  let s := (s.wr64 R.PLATE_VALID_LO (slotBits (ds.map (·.1)))).wr64 R.PLATE_MEMBER_LO (slotBits mine)
  s.wr R.PLATE_SECTION (65536 * shapeCount s b + ds.length)

/-- Load the section: false where it is rejected. -/
def platesLoad (b len : Nat) (s : State) : State × Bool :=
  match platesBad s b len s.chip with
  | some e => (s.ev Ev.PLATE_REJECT e.1 [e.2], false)
  | none => (platesStore s b s.chip, true)

end Sys2Proof.Machine
end

