-- ==== Sys2Proof/Machine/Links.lean ====
section
/-! DEFINITION. Lanes and links (12): rows LANE_SWEEP_DONE to LOOP_OFF. -/

namespace Sys2Proof.Machine

/-! Lock (12 R317, R318) -/

/-- A swap that brings a lane into use. -/
def swapInto (s : State) (tx : Bool) (p n : Nat) : Option Swap := (s.lk p).swaps.find? fun w => w.tx == tx && w.new == n

/-- The rotation of a port uses a TX channel. -/
def rotUses (s : State) (tx : Bool) (p n : Nat) : Bool := tx && match (s.lk p).rot with
  | some r => r.ch == n || r.spare == n
  | none => false

/-- The code a lane's sweep has found (12 R317). -/
def sweepFound (s : State) (tx : Bool) (p n : Nat) : Option Nat :=
  match (s.ls tx p n).sweep with
  | some w => if w.depth = 0 then none else some w.code
  | none => none

/-- LANE_SWEEP_DONE (12 R317): INTEG takes the code found, MODE RUN, LOCKING. A code the sweep has not found is none. -/
def execLaneSweepDone (tx : Bool) (p : Fin 16) (n : Fin 18) (code : BitVec 16) (s : State) : Host.Outcome State Fault Refusal :=
  let l := laneRing s tx p n
  if s.lane tx p n ≠ 1 ∨ sweepFound s tx p n ≠ some code.toNat then done s
  else
    let s := ringMove p l (code.toNat * 65536) 1 s
    done (setLane tx p n 2 (s.setLp p l { s.lp p l with lk := 0 }))

/-- A lane whose lock is confirmed moves on (12 R316, R318, R334, R340). -/
def lockConfirmed (tx : Bool) (p n : Nat) (s : State) : State :=
  let s := (recordCode tx p n s).uLs tx p n fun x => { x with conf := true }
  let cw := s.bit (laneReg tx p n) 8
  if s.role tx p n = 2 then byScribe (selFollow p) (setLane tx p n 4 s)
  else if (s.ls tx p n).recover then s
  else if !tx ∧ (s.lk p).rxRot.map (·.1) = some n ∧ (swapInto s tx p n).isNone then s
  else match swapInto s tx p n with
    | some w => if tx then setLane tx p n 3 s
        else
          let s := lctl p 0x08 [0, w.slot, w.new] s
          if cw then setLane tx p n 3 s else s
    | none =>
      if rotUses s tx p n then
        match (s.lk p).rot with
        | some r => if r.spare = n then setLane tx p n 3 s else s
        | none => s
      else if s.slot tx p n ≠ 31 then (if tx || cw then setLane tx p n 3 s else s)
      else toSpare tx p n (s.bit (laneReg tx p n) 24) s

/-- LOCK_CONFIRM (12 R318). -/
def execLockConfirm (tx : Bool) (p : Fin 16) (n : Fin 18) (s : State) : Host.Outcome State Fault Refusal :=
  if s.lane tx p n ≠ 2 ∨ (s.lp p (laneRing s tx p n)).lk < s.fd (R.LNK_LOCK_CFG p) 23 16 then done s
  else
    let s := recount p (lockConfirmed tx p n s)
    done (photonicsCheck (trainCheck p (if s.port p = 1 then sendTrain p s else s)))

/-- A lane retires for want of a lock (12 R318): a swap onto it goes to the next usable spare, a rotation backs out. -/
def lockLost (tx : Bool) (p n : Nat) (s : State) : State :=
  let s := if rotUses s tx p n then rotBack p s else s
  match swapInto s tx p n with
  | some w =>
    let s := toRetired tx p n 1 (s.uLk p fun L => { L with swaps := L.swaps.filter (· != w) })
    swapLane tx p w.old w.why s
  | none => faultLane tx p n 1 s

/-- LOCK_FAIL (12 R318): another sweep, RETIRED with cause LOCK after three failures. -/
def execLockFail (tx : Bool) (p : Fin 16) (n : Fin 18) (s : State) : Host.Outcome State Fault Refusal :=
  if s.lane tx p n ≠ 1 ∧ s.lane tx p n ≠ 2 then done s
  else
    let s := s.uLs tx p n fun x => { x with fails := x.fails + 1 }
    if 3 ≤ (s.ls tx p n).fails then done (photonicsCheck (recount p (lockLost tx p n s))) else done (sweepLane tx p n s)

/-! Codeword lock (12 R322, R327) -/

/-- The mark is the one the plate expects (12 R322; in loopback the port's own, R343). -/
def markOk (s : State) (p n : Nat) (m : LaneMark) : Bool :=
  let (c, q) := if s.bit (R.LNK_STATUS p) 4 then (s.chip, p) else (s.fd (R.LNK_PEER p) 13 0, s.fd (R.LNK_PEER p) 19 16)
  m.chip.toNat == c && m.port.toNat == q && m.ch.toNat == n

/-- An apply's window is open (14 R383). -/
def inApply (s : State) : Bool := match s.repl.app with
  | some a => a.switched
  | none => false

/-- A held lane decodes again: LANE_RESUME for its slot (12 R327). -/
def laneResumeSend (p n : Nat) (s : State) : State :=
  if !(s.ls false p n).heldRx then s
  else
    let s := s.uLs false p n fun x => { x with heldRx := false }
    if s.slot false p n ≠ 31 then lctl p 0x06 [1, s.slot false p n] s else s

/-- LANE_HOLD for a lane's slot (12 R327). -/
def laneHoldSend (p n : Nat) (s : State) : State :=
  if s.slot false p n = 31 then s
  else lctl p 0x06 [0, s.slot false p n] (s.uLs false p n fun x => { x with heldRx := true })

/-- CODEWORD_LOCK (12 R322, R327). -/
def execCodewordLock (p : Fin 16) (n : Fin 18) (mark : LaneMark) (s : State) : Host.Outcome State Fault Refusal :=
  if s.lane false p n = 0 ∨ s.lane false p n = 6 then done s
  else if !markOk s p n mark then
    let s := s.ev Ev.LANE_MISROUTE (laneCode false p n) []
    match swapInto s false p n with
    | some w => done (swapLane false p w.old w.why (s.uLk p fun L => { L with swaps := L.swaps.filter (· != w) }))
    | none => done s
  else
    let s := (s.fw (laneReg false p n) 8 8 1).uLs false p n fun x => { x with badRun := 0 }
    let use := s.slot false p n != 31 || (swapInto s false p n).isSome
    let s := if s.lane false p n = 2 ∧ (s.ls false p n).conf ∧ use then setLane false p n 3 s else s
    let s := recount p (laneResumeSend p n s)
    done (trainCheck p (if s.port p = 1 then sendTrain p s else s))

/-- Add to a port's sum of the telemetry period (25 R637): 0 corrected codewords, 1 uncorrectable ones, 2 blocks resent. -/
def telemAdd (p kind n : Nat) (s : State) : State :=
  let k := 3 * p + kind
  s.uLnk fun l => { l with sums := smSet (fun _ => 0) l.sums k (smGet (fun _ => 0) l.sums k + n) }

/-- Uncorrectable codewords of a lane are counted (12 R323). -/
def countUnc (p n k : Nat) (s : State) : State :=
  let f := s.now / 8000
  (telemAdd p 1 k (s.sat (R.LNK_FEC_CW_UNCORR p 0 n) 31 0 k)).uLs false p n fun x =>
    { x with unc := (f, if x.unc.1 = f then x.unc.2 + k else k) }

/-- CODEWORD_LOCK_LOSS (12 R322, R327): LANE_HOLD for the slot; those of the 8 codewords that have not been counted are. A lane reported lost again has been without it for a frame, and
outside an apply window is a lane fault (12 Table 12.5; 14 R383; log 21). -/
def execCodewordLockLoss (p : Fin 16) (n : Fin 18) (s : State) : Host.Outcome State Fault Refusal :=
  if s.bit (laneReg false p n) 8 then
    let s := countUnc p n (8 - (s.ls false p n).badRun) (s.fw (laneReg false p n) 8 8 0)
    done (laneHoldSend p n (s.uLs false p n fun x => { x with badRun := 0 }))
  else if s.lane false p n = 3 ∧ !inApply s then done (faultLane false p n 0 s)
  else done s

/-- LANE_BAD (12 R323; 14 R383). -/
def execLaneBad (p : Fin 16) (n : Fin 18) (s : State) : Host.Outcome State Fault Refusal :=
  let x := s.ls false p n
  let bad := (x.unc.1 == s.now / 8000 && decide (s.fd (R.LNK_FEC_CFG p) 31 24 ≤ x.unc.2))
    || (x.sym.1 == s.now / 8000000 && decide (s.fd (R.LNK_FEC_CFG p) 23 0 < x.sym.2))
  if !bad ∨ inApply s ∨ s.lane false p n ≠ 3 then done s
  else done (faultLane false p n 0 (s.ev Ev.LANE_BAD (laneCode false p n) []))

/-! Retry (12 R324–R327) -/

/-- Offset of a BSN from the next expected one, modulo 2^14. -/
def bsnOff (base b : Nat) : Nat := (b + 16384 - base) % 16384

/-- The flits of a block. -/
def toFlits : Nat → List Word → List (List Word)
  | 0, _ => []
  | n + 1, ws => ws.take 16 :: toFlits n (ws.drop 16)

/-- Deliver held blocks in BSN order. -/
def deliverBlocks (p : Nat) : Nat → State → State
  | 0, s => s
  | k + 1, s =>
    let L := s.lk p
    match L.rxHeld.find? fun b => b.1 == L.rxBsn with
    | none => s
    | some b => deliverBlocks p k (s.uLk p fun L => { L with
        rxBsn := (L.rxBsn + 1) % 16384, rxHeld := L.rxHeld.filter (·.1 != b.1), flits := L.flits ++ toFlits 10 b.2 })

/-- Symbols a codeword had corrected are counted (12 R323). -/
def countCorr (p n k : Nat) (s : State) : State :=
  if k = 0 then s
  else
    let f := s.now / 8000000
    (telemAdd p 0 1 ((s.sat (R.LNK_FEC_CW_CORR p 0 n) 31 0 1).sat (R.LNK_FEC_SYM_CORR p 0 n) 31 0 k)).uLs false p n fun x =>
      { x with sym := (f, if x.sym.1 = f then x.sym.2 + k else k) }

/-- A block on the new channel of a swap is counted (12 R334 step 4). -/
def swapCount (p n : Nat) (s : State) : State :=
  if (swapInto s false p n).isNone then s
  else s.uLk p fun L => { L with swaps := L.swaps.map fun w => if !w.tx && w.new == n then { w with got := satN 4095 (w.got + 1) } else w }

/-- DATA_BLOCK_RECEIVE (12 R320, R323, R325, R327): a decoded lane block of any kind. Its corrections are counted, a held lane resumes,
and the payload of a DATA block is taken by its BSN. What IDLE, LCTL and MARK blocks say comes as commands of their own. -/
def execDataBlockReceive (p : Fin 16) (n : Fin 18) (hdr : BitVec 20) (corrected : BitVec 5) (payload : List Word) (s : State) :
    Host.Outcome State Fault Refusal :=
  let bsn : BitVec 14 := BitVec.ofNat 14 hdr.toNat
  if payload.length ≠ 160 then .fault .illFormed
  else if !s.bit (laneReg false p n) 8 then done s
  else
    let s := countCorr p n corrected.toNat s
    let s := if (s.ls false p n).badRun = 0 then s else s.uLs false p n fun x => { x with badRun := 0 }
    let s := swapCount p n (laneResumeSend p n s)
    let L := s.lk p
    if fieldOf hdr.toNat 19 18 ≠ 0 then done s
    else if bsnOff L.rxBsn bsn.toNat ≤ 2047 ∧ !L.rxHeld.any (fun b => b.1 == bsn.toNat) then
      let s := s.uLk p fun L => { L with rxHeld := L.rxHeld ++ [(bsn.toNat, payload)], sinceAck := L.sinceAck + 1 }
      done (deliverBlocks p (L.rxHeld.length + 1) s)
    else done (s.sat (R.LNK_DUP_CNT p) 31 0 1)

/-- ACK_SEND (12 R325). -/
def execAckSend (p : Fin 16) (s : State) : Host.Outcome State Fault Refusal :=
  done (lctl p 0x04 [(s.lk p).rxBsn] (s.uLk p fun L => { L with sinceAck := 0 }))

/-- ACK_RECEIVE (12 R324): every block before the peer's next expected BSN leaves the retry buffer. -/
def execAckReceive (p : Fin 16) (bsn : BitVec 14) (s : State) : Host.Outcome State Fault Refusal :=
  let s := s.uLk p fun L => { L with
    retry := L.retry.filter fun b => !(decide (1 ≤ bsnOff b.1 bsn.toNat) && decide (bsnOff b.1 bsn.toNat ≤ 2048)) }
  done (pump p (retryStatus p s))

/-- The gaps before the highest held block, as (first, last) offsets, at most eight; the next block when there is none. -/
def gapsGo (L : Lnk) : Nat → Nat → List (Nat × Nat) → List (Nat × Nat)
  | 0, _, acc => acc
  | k + 1, o, acc =>
    if L.rxHeld.any (fun b => bsnOff L.rxBsn b.1 == o) then gapsGo L k (o + 1) acc
    else match acc.getLast? with
      | some (a, z) => if z + 1 = o then gapsGo L k (o + 1) (acc.dropLast ++ [(a, o)]) else gapsGo L k (o + 1) (acc ++ [(o, o)])
      | none => gapsGo L k (o + 1) [(o, o)]

/-- A gap has persisted for 64 accepted blocks beyond it (12 R326). -/
def gapOld (L : Lnk) (r : Nat × Nat) : Bool := decide (64 ≤ (L.rxHeld.filter fun b => decide (r.2 < bsnOff L.rxBsn b.1)).length)

/-- The ranges a RETRY_REQ lists: for a block that could not be decoded every gap, or the next block where there is none; otherwise the
gaps that have persisted. -/
def retryRanges (undecodable : Bool) (L : Lnk) : List (Nat × Nat) :=
  let top := L.rxHeld.foldl (fun a b => max a (bsnOff L.rxBsn b.1)) 0
  let g := gapsGo L top 0 []
  let next := top + b2n (!L.rxHeld.isEmpty)
  ((if undecodable then (if g = [] then [(next, next)] else g) else g.filter (gapOld L)).take 8).map fun r =>
    ((L.rxBsn + r.1) % 16384, (L.rxBsn + r.2) % 16384)

/-- Blocks in a list of ranges. -/
def rangeCount (rs : List (Nat × Nat)) : Nat := rs.foldl (fun a r => a + bsnOff r.1 r.2 + 1) 0

/-- RETRY_REQ_SEND (12 R326, R327). -/
def execRetryReqSend (p : Fin 16) (n : Fin 18) (undecodable : Bool) (s : State) : Host.Outcome State Fault Refusal :=
  let s := if undecodable then
      laneHoldSend p n ((countUnc p n 1 s).uLs false p n fun x => { x with badRun := satN 8 (x.badRun + 1) })
    else s
  let rs := retryRanges undecodable (s.lk p)
  if rs.isEmpty then done s
  else
    let s := lctl p 0x05 (rs.flatMap fun r => [r.1, r.2]) s
    done (s.evKey 8000 p Ev.LINK_RETRY (laneCode false p n) [rangeCount rs])

/-- A block of the retry buffer leaves again, on the lowest LIVE lane that carries a slot (12 R326; log 146). -/
def resend (p : Nat) (s : State) (b : Nat × Nat × List Word) : State :=
  let s := s.emit (.block p b.1 b.2.2)
  match lowest 18 fun n => sends s p n && s.lane true p n == 3 && s.slot true p n != 31 with
  | some n => laneSend p n (blockHdr 0 (s.slot true p n) b.1) b.2.2 s
  | none => s

/-- A LIVE TX lane of a port. -/
def anyLive (s : State) (p : Nat) : Bool := (List.range 18).any fun n => sends s p n && s.lane true p n == 3

/-- RETRY_REQ_RECEIVE (12 R326): the listed blocks are resent on a LIVE lane; with none LIVE nothing is. -/
def execRetryReqReceive (p : Fin 16) (ranges : List (BitVec 14 × BitVec 14)) (s : State) : Host.Outcome State Fault Refusal :=
  let hit := (s.lk p).retry.filter fun b => ranges.any fun r => decide (bsnOff r.1.toNat b.1 ≤ bsnOff r.1.toNat r.2.toNat)
  match hit with
  | [] => done s
  | h :: _ =>
    if !anyLive s p then done s else
    let s := hit.foldl (resend p) s
    let s := telemAdd p 2 hit.length (s.sat (R.LNK_RETRY_CNT p) 31 0 hit.length)
    done (s.evKey 8000 p Ev.LINK_RETRY (laneCode true p h.2.1) [hit.length])

/-- LANE_HOLD (12 R327). -/
def execLaneHold (p : Fin 16) (slot : BitVec 5) (s : State) : Host.Outcome State Fault Refusal :=
  done (s.uLk p fun L => { L with held := L.held.filter (· != slot.toNat) ++ [slot.toNat] })

/-- LANE_RESUME (12 R327). -/
def execLaneResume (p : Fin 16) (slot : BitVec 5) (s : State) : Host.Outcome State Fault Refusal :=
  done (pump p (s.uLk p fun L => { L with held := L.held.filter (· != slot.toNat) }))

/-- RETRY_TIMEOUT (12 R327): an unacknowledged block for 1 ms. -/
def execRetryTimeout (p : Fin 16) (s : State) : Host.Outcome State Fault Refusal :=
  if (s.lk p).retry.isEmpty ∨ !(s.port p == 3 || s.port p == 4 || s.port p == 5) then done s
  else done (enterFailed p 3 s)

/-- A lane that a swap of this end's asks for has not yet answered: the peer's SWAP_READY at the sender, codeword lock at the receiver. -/
def swapOpen (s : State) (p : Nat) (w : Swap) : Bool := if w.tx then !w.dup else !s.bit (laneReg false p w.new) 8

/-- The messages that a port repeats each µs until they are answered (12 R328, Table 12.3; log 147): SWAP_REQ, SWAP_READY, ROT_ASK, and
RETRY_REQ while a gap persists. -/
def repeatPort (s : State) (p : Nat) : State :=
  let L := s.lk p
  let s := L.swaps.foldl (fun s w =>
    if !swapOpen s p w then s
    else
      let s := if w.own then lctl p 0x07 (swapFields w.tx w.slot w.old w.new w.why) s else s
      if !w.tx && (s.ls false p w.new).conf then lctl p 0x08 [0, w.slot, w.new] s else s) s
  let s := match L.rot with
    | some r => if r.phase = 1 then
        lctl p 0x07 (swapFields true (s.slot true p r.ch) r.ch r.spare (if r.wear then .line else .rotation)) s else s
    | none => s
  let s := L.rxAsks.foldl (fun s n => lctl p 0x09 [n] s) s
  let rs := retryRanges false L
  if rs.isEmpty then s else lctl p 0x05 (rs.flatMap fun r => [r.1, r.2]) s

/-- The repetitions of a µs. -/
def repeats (s : State) : State := if s.ticks % 1600 = 0 then (List.range 16).foldl repeatPort s else s

/-! Training and credentials (12 R330–R332) -/

/-- TRAIN_RECEIVE (12 R330). -/
def execTrainReceive (p : Fin 16) (m : TrainMsg) (s : State) : Host.Outcome State Fault Refusal :=
  done (trainCheck p (s.uLk p fun L => { L with train := some m }))

/-- The data lanes of a direction that are up: codeword lock here on RX, reported by the peer on TX. -/
def upLanes (s : State) (tx : Bool) (p : Nat) : List Nat :=
  (dataLanes s tx p).filter fun n =>
    if tx then match (s.lk p).train with
      | some m => bitOf m.rxLock.toNat n
      | none => false
    else s.bit (laneReg false p n) 8

/-- TRAIN_TIMEOUT (12 R330). -/
def execTrainTimeout (p : Fin 16) (s : State) : Host.Outcome State Fault Refusal :=
  if s.port p ≠ 1 then done s
  else
    let m := s.fd (R.LNK_CFG p) 28 24
    if m ≤ (upLanes s true p).length ∧ m ≤ (upLanes s false p).length then
      let miss := fun tx => (dataLanes s tx p).filter fun n => !(upLanes s tx p).contains n
      let mt := miss true
      let mr := miss false
      let s := mt.foldl (fun s n => swapLane true p n .recover s) s
      let s := mr.foldl (fun s n => swapLane false p n .recover s) s
      done (if s.port p = 1 then trainEnd p s else s)
    else done (enterFailed p 1 (s.ev Ev.LINK_TRAIN_FAIL p []))

/-- The own credential frame (16 Table 16.1). -/
def credFrame (s : State) (p : Nat) : List Word :=
  let g := s.rd R.GLB_STATE
  let ws := [w32 (2 ^ 28 + 2 ^ 23 * b2n (bitOf g 5) + 2 ^ 22 * b2n (bitOf g 4) + 2 ^ 21 * b2n (s.bit R.AGREE_STATUS 31)
      + 65536 * s.fd R.TIME_STATUS 2 0 + s.chip),
    w32 (0x16080000 + 0xB000 + p),
    w32 (s.fd R.BOOT_IMAGE_ID 31 16 * 65536 + 256 * s.curPlate + s.pins.rackSlot.toNat), w32 (s.rd R.CL_EPOCH)]
    ++ w64 (s.rd64 R.BOOT_DIGEST_LO) ++ w64 (s.rd64 R.BOOT_PLATESET_LO) ++ w64 (s.rd64 R.BOOT_CLUSTER_LO)
    ++ [w32 (s.rd R.AGREE_NONCE)]
  ws ++ [w32 (crc32 (dwBytes ws))]

/-- CRED_SEND (12 R331): until both the peer's CRED and the CRED_ACK of the own one are held. -/
def execCredSend (p : Fin 16) (s : State) : Host.Outcome State Fault Refusal :=
  if s.port p ≠ 2 ∨ ((s.lk p).cred.isSome ∧ (s.lk p).peerV.isSome) then done s
  else done (lctl p 0x02 ((credFrame s p).map (·.toNat)) s)

/-- CRED_TIMEOUT (12 R331). -/
def execCredTimeout (p : Fin 16) (s : State) : Host.Outcome State Fault Refusal :=
  if s.port p ≠ 2 then done s else done (enterFailed p 2 s)

/-- PORT_RETRAIN_TIMER (12 R332). -/
def execPortRetrainTimer (p : Fin 16) (s : State) : Host.Outcome State Fault Refusal :=
  if s.port p ≠ 6 ∨ s.bit R.LAS_SHUT p then done s else done (tryTrain p s)

/-! Swaps (12 R334–R336) -/

/-- SWAP_REQ (12 R334, R340, Table 12.5): the peer's trigger, with what it makes of the old lane; a swap of that slot already under way
goes on. A rotation's return names the lane that has been calibrated, and so does the swap of a slot dropped during it (R342). -/
def execSwapReq (p : Fin 16) (tx : Bool) (slot : BitVec 5) (old : Fin 18) (new : SwapTo) (s : State) : Host.Outcome State Fault Refusal :=
  let has := s.slot tx p old == slot.toNat
  if (s.lk p).swaps.any (fun w => w.tx == tx && w.slot == slot.toNat) || slot.toNat == 31 ||
      (!has && (List.range 18).any fun n => s.slot tx p n == slot.toNat) then done s
  else
    let c := retireOf new.why
    let s := if c = 0 then s else s.uLs tx p old fun x => { x with retire := c }
    let s := s.uLk p fun L => { L with rxAsks := L.rxAsks.filter (· != old.val) }
    let s := if tx && !isSpare s tx p new.ch && rotUses s tx p new.ch then rotYield tx p s else s
    if isSpare s tx p new.ch then done (beginSwap tx p slot.toNat old new.ch false new.why s)
    else if !tx ∧ (s.lk p).rxRot.map (·.1) = some new.ch.val ∧ (s.ls false p new.ch).conf then
      let s := if new.why = .rotation then s else s.uLk p fun L => { L with rxRot := none }
      done (lctl p 0x08 [0, slot.toNat, new.ch] (beginSwap tx p slot.toNat old new.ch false new.why s))
    else if new.why = .rotation then done s
    else match lowSpare s tx p with
      | some m => done (beginSwap tx p slot.toNat old m false new.why s)
      | none => done (if has then laneLost tx p old s else s)

/-- SWAP_READY (12 R334): the sender sends the slot on both channels. -/
def execSwapReady (p : Fin 16) (slot : BitVec 5) (new : Fin 18) (s : State) : Host.Outcome State Fault Refusal :=
  done (s.uLk p fun L => { L with swaps := L.swaps.map fun w =>
    if w.tx ∧ w.slot = slot.toNat ∧ w.new = new.val then { w with dup := true } else w })

/-- The receiver may send SWAP_DONE (12 R334 step 4): OVERLAP blocks have come with codeword lock, or the old lane is held. -/
def swapReadyRx (s : State) (p : Nat) (w : Swap) : Bool :=
  decide (s.fd (R.LNK_ROT_CFG p) 27 16 ≤ w.got) || (s.ls false p w.old).heldRx || !s.bit (laneReg false p w.old) 8

/-- LANE_SWAP_COMPLETE (12 R334): SWAP_DONE received at the sender, or sent by the receiver once the new lane carries. -/
def execLaneSwapComplete (p : Fin 16) (tx : Bool) (slot : BitVec 5) (new : Fin 18) (s : State) : Host.Outcome State Fault Refusal :=
  match (s.lk p).swaps.find? fun w => w.tx == tx && w.slot == slot.toNat && w.new == new.val with
  | none => done s
  | some w =>
    if s.lane tx p new ≠ 3 ∨ (tx ∧ !w.dup) ∨ (!tx ∧ !swapReadyRx s p w) then done s
    else done (swapDone w p (if tx then s else lctl p 0x08 [1, w.slot, w.new] s))

/-- SWAP_FAIL (12 R335): the slot is dropped; the new lane goes to recovery. -/
def execSwapFail (p : Fin 16) (tx : Bool) (slot : BitVec 5) (s : State) : Host.Outcome State Fault Refusal :=
  match (s.lk p).swaps.find? fun w => w.tx == tx && w.slot == slot.toNat with
  | none => done s
  | some w =>
    let s := s.uLk p fun L => { L with swaps := L.swaps.filter (· != w) }
    let s := toRecovery tx p w.new s
    let s := (setSlot tx p w.old 31 true s).ev Ev.SWAP_FAIL (laneCode tx p w.old) []
    let s := recount p (afterFault tx p w.old s)
    done (if (dataLanes s tx p).length < s.fd (R.LNK_CFG p) 28 24 then enterFailed p 4 s else s)

/-- LANE_RECOVERED (12 R336): swept, dark-captured and checked; SPARE at both ends through LANE_ROLE. -/
def execLaneRecovered (tx : Bool) (p : Fin 16) (n : Fin 18) (s : State) : Host.Outcome State Fault Refusal :=
  let x := s.ls tx p n
  if !x.recover ∨ !x.conf ∨ s.proof.caps.any (fun c => c.lane == some (laneCode tx p n)) then done s
  else
    let s := (toSpare tx p n false s).fw (laneReg tx p n) 25 25 (b2n (s.role tx p n == 1))
    let s := lctl p 0x0A [b2n tx, n, 5] s
    done (recount p (s.ev Ev.LANE_RECOVERED (laneCode tx p n) []))

/-- RECOVERY_TIMEOUT (12 R336). -/
def execRecoveryTimeout (tx : Bool) (p : Fin 16) (n : Fin 18) (lock : Bool) (s : State) : Host.Outcome State Fault Refusal :=
  if !(s.ls tx p n).recover then done s
  else done (recount p (lctl p 0x0A [b2n tx, n, 6] (toRetired tx p n (if lock then 1 else 4) s)))

/-- LANE_ROLE (12 R336, Table 12.3). A rotation that backs out names its spare or its lane, whose swap here ends with it (log 147). -/
def execLaneRole (p : Fin 16) (tx : Bool) (n : Fin 18) (retired : Bool) (s : State) : Host.Outcome State Fault Refusal :=
  let back := (s.lk p).swaps.any (fun w => w.why == .rotation && w.tx == tx && w.new == n.val)
    || (!tx && (s.lk p).rxRot.map (·.1) == some n.val)
  let uncal := !tx && (s.lk p).rxRot.map (·.1) == some n.val && !(s.ls tx p n).conf
  let s := if !back then s else s.uLk p fun L => { L with
    swaps := L.swaps.filter fun w => !(w.why == .rotation && w.tx == tx && w.new == n.val),
    rxRot := if !tx && L.rxRot.map (·.1) == some n.val then none else L.rxRot }
  if s.slot tx p n ≠ 31 ∨ s.lane tx p n = 6 ∨ s.lane tx p n = 0 ∨ (swapInto s tx p n).isSome then done s
  else if retired then done (recount p (toRetired tx p n 0 s))
  else
    let s := (toSpare tx p n uncal s).fw (laneReg tx p n) 25 25 (b2n (s.role tx p n == 1))
    done (recount p (if back then s else s.ev Ev.LANE_RECOVERED (laneCode tx p n) []))

/-! Rotation (12 R339–R342) -/

/-- ROT_ASK (12 R339). -/
def execRotAsk (p : Fin 16) (n : Fin 18) (s : State) : Host.Outcome State Fault Refusal :=
  done (s.uLk p fun L => { L with asks := L.asks.filter (· != n.val) ++ [n.val] })

/-- A line due for a wear retirement (11 R305). -/
def wearDue (s : State) (p n : Nat) : Bool := s.bit (R.LAS_LINE (p / 2) n) 29 && s.line (p / 2) n != 3

/-- A local TX data lane. -/
def txData (s : State) (p n : Nat) : Bool := s.slot true p n != 31 && s.lane true p n == 3

/-- The next local data lane after the one rotated last, in channel order. -/
def nextRot (s : State) (p : Nat) : Option Nat :=
  (lowest 18 fun i => txData s p (((s.lk p).lastRot + 1 + i) % 18)).map fun i => ((s.lk p).lastRot + 1 + i) % 18

/-- The sender ring of a TX lane has ROLL_DUE (12 R339). -/
def rollBit (s : State) (p n : Nat) : Bool := let l := laneRing s true p n; s.bit (R.STY_ROLL_DUE p (l / 32)) (l % 32)

/-- The lane a rotation takes (12 R339), and whether it is a wear retirement. -/
def rotChoice (s : State) (p : Nat) : Option (Nat × Bool) :=
  match lowest 18 fun n => txData s p n && wearDue s p n with
  | some n => some (n, true)
  | none => match lowest 18 fun n => txData s p n && (rollBit s p n || (s.lk p).asks.contains n) with
    | some n => some (n, false)
    | none => (nextRot s p).map fun n => (n, false)

/-- Why no rotation starts (12 R341, 25 Table 25.3). -/
def rotStopped (s : State) (p : Nat) : Option Nat :=
  if !s.bit (R.LNK_ROT_CFG p) 31 then some 1
  else if s.port p ≠ 4 then some 2
  else if lowSpare s true p = none then some 3
  else if replateOpen s then some 4
  else none

/-- A rotation of channel ch starts: the spare's ring goes to lock, and SWAP_REQ asks the same of the peer (12 R334, R340, Table 12.7; log
147). -/
def rotBegin (p ch sp : Nat) (wear : Bool) (s : State) : State :=
  let s := s.uLk p fun L => { L with
    rot := some ⟨ch, sp, 1, wear, []⟩, lastRot := if L.now = some ch then L.lastRot else ch, now := none, asks := L.asks.filter (· != ch) }
  let s := s.wr (R.LNK_ROT_STATUS p) (2 ^ 28 + 65536 * laneCode true p ch + laneCode true p sp)
  let s := (s.fw (R.LNK_STATUS p) 31 31 1).ev Ev.ROT_START (laneCode true p ch) []
  let s := lctl p 0x07 (swapFields true (s.slot true p ch) ch sp (if wear then .line else .rotation)) s
  recount p (lockLane true p sp s)

/-- ROTATION_START (12 R339, R341, R344). -/
def execRotationStart (p : Fin 16) (s : State) : Host.Outcome State Fault Refusal :=
  if (s.lk p).rot.isSome then done s
  else match rotStopped s p with
    | some why => done ((s.uLk p fun L => { L with now := none }).ev Ev.ROT_STOPPED p [why])
    | none =>
      let pick := match (s.lk p).now with
        | some n => some (n, false)
        | none => rotChoice s p
      match pick, lowSpare s true p with
      | some (ch, wear), some sp => done (rotBegin p ch sp wear s)
      | _, _ => done s

/-- PHASE of LNK_ROT_STATUS. -/
def setPhase (p k : Nat) (s : State) : State :=
  (s.uLk p fun L => { L with rot := L.rot.map fun r => { r with phase := k } }).fw (R.LNK_ROT_STATUS p) 31 28 k

/-- The vacated lane is calibrated (12 R340): its dark frame, then the sweep. A roll that is due runs in the ring's slots from now on, and
the sweep waits for it. -/
def calibrate (p ch : Nat) (s : State) : State := vacateRoll true p ch (vacate true p ch s)

/-- One phase of a rotation ends (12 R340, Table 12.7). A slot dropped meanwhile takes the lane calibrated as a fault swap (R342). -/
def rotNext (p : Nat) (r : Rot) (s : State) : State :=
  let slotL := s.slot true p r.ch
  match r.phase with
  | 1 => if s.lane true p r.spare ≠ 3 then s else setPhase p 2 (setSlot true p r.spare slotL true s)
  | 2 =>
    let s := setSlot true p r.ch 31 true s
    if r.wear then rotEnd p r.ch (toRetired true p r.ch 3 s) else setPhase p 3 (calibrate p r.ch s)
  | 3 =>
    if s.lane true p r.ch ≠ 2 ∨ !(s.ls true p r.ch).conf then s
    else
      let s := setLane true p r.ch 3 (s.fw (laneReg true p r.ch) 24 24 0)
      match r.owed with
      | x :: _ => rotEnd p r.ch (beginSwap true p x.1 x.2 r.ch true .recover s)
      | [] =>
        let s := lctl p 0x07 (swapFields true (s.slot true p r.spare) r.spare r.ch .rotation) s
        setPhase p 4 (setSlot true p r.ch (s.slot true p r.spare) false s)
  | 4 => setPhase p 5 (setSlot true p r.spare 31 false s)
  | _ => rotEnd p r.ch (toSpare true p r.spare false s)

/-- ROTATION_PHASE_DONE (12 R340). -/
def execRotationPhaseDone (p : Fin 16) (s : State) : Host.Outcome State Fault Refusal :=
  match (s.lk p).rot with
  | none => done s
  | some r => done (recount p (rotNext p r s))

/-- ROT_BACKOUT (12 R342): a PREPARE that touches the port is open, or a fault swap needs the spare. -/
def execRotBackout (p : Fin 16) (s : State) : Host.Outcome State Fault Refusal := done (rotBack p s)

/-- The port's interval of 4 × PERIOD, in 10 ms each, has passed without a completed rotation (24 R617). -/
def rotStarving (s : State) (p : Nat) : Bool :=
  s.bit (R.LNK_ROT_CFG p) 31 && s.port p == 4
    && decide ((s.lk p).starve.1 + 4 * (16000000 * s.fd (R.LNK_ROT_CFG p) 15 0) ≤ s.ticks)

/-- ROT_STARVED (24 R617): the port and the interval's back-outs; the next interval begins. -/
def execRotStarved (p : Fin 16) (s : State) : Host.Outcome State Fault Refusal :=
  if !rotStarving s p then done s
  else done ((s.ev Ev.ROT_STARVED p [(s.lk p).starve.2]).uLk p fun L => { L with starve := (s.ticks, 0) })

/-! Port commands (12 R343, R344) -/

/-- Refuse a port command: 1 OP, 2 LANE, 3 STATE. -/
def cmdRefused (p value why : Nat) (s : State) : State := s.ev Ev.LNK_CMD_REFUSED p [value, why]

/-- LNK_CMD on the PCI Express path (R345), or while the port's domain is not ON (27 R662), is discarded; otherwise the command runs
with its DIR and CH. -/
def lnkCmd (path : Path) (p : Nat) (value : Word) (f : Bool → Nat → State → State) (s : State) : Host.Outcome State Fault Refusal :=
  if hostLike path || s.dom (0x80 + p) != 2 then done (s.deny Ev.LNK_DENIED (R.LNK_CMD p) value.toNat path)
  else done (f (bitOf value.toNat 5) (fieldOf value.toNat 4 0) s)

/-- LNK_RETRAIN (12 R344). A port without a link, or shut, has nothing to train. -/
def execLnkRetrain (path : Path) (p : Fin 16) (value : Word) (s : State) : Host.Outcome State Fault Refusal :=
  through path (.write (R.LNK_CMD p) value.toNat) s <|
  lnkCmd path p value (fun _ _ s =>
    if s.bit R.LAS_SHUT p ∨ (!s.bit (R.LNK_PEER p) 31 ∧ !s.bit (R.LNK_STATUS p) 4) then s else tryTrain p s) s

/-- LNK_ROTATE_NOW (12 R344). -/
def execLnkRotateNow (path : Path) (p : Fin 16) (value : Word) (s : State) : Host.Outcome State Fault Refusal :=
  through path (.write (R.LNK_CMD p) value.toNat) s <|
  lnkCmd path p value (fun dir ch s =>
    if !dir ∨ 17 < ch ∨ s.slot true p ch = 31 then cmdRefused p value.toNat 2 s
    else s.uLk p fun L => { L with now := some ch }) s

/-- A local data lane that LNK_CMD names is moved as a fault swap; `retire` is its RETIRE_CAUSE or 0. -/
def cmdSwap (p value retire : Nat) (dir : Bool) (ch : Nat) (s : State) : State :=
  if 17 < ch ∨ s.slot dir p ch = 31 then cmdRefused p value 2 s else recount p (faultLane dir p ch retire s)

/-- LNK_SWAP (12 R344). -/
def execLnkSwap (path : Path) (p : Fin 16) (value : Word) (s : State) : Host.Outcome State Fault Refusal :=
  through path (.write (R.LNK_CMD p) value.toNat) s <|
  lnkCmd path p value (fun dir ch s => cmdSwap p value.toNat 0 dir ch s) s

/-- LNK_RETIRE (12 R344). -/
def execLnkRetire (path : Path) (p : Fin 16) (value : Word) (s : State) : Host.Outcome State Fault Refusal :=
  through path (.write (R.LNK_CMD p) value.toNat) s <|
  lnkCmd path p value (fun dir ch s => cmdSwap p value.toNat 5 dir ch s) s

/-- LOOP_ON (12 R343; 18 R490): LOOPBACK passes the cabling check of a port shut for tag loss alone (11 R310). -/
def execLoopOn (path : Path) (p : Fin 16) (value : Word) (s : State) : Host.Outcome State Fault Refusal :=
  through path (.write (R.LNK_CMD p) value.toNat) s <|
  lnkCmd path p value (fun _ _ s =>
    if !(s.port p == 0 || s.port p == 6) ∨ verdict s p ≠ 2 ∨ (s.bit R.LAS_SHUT p ∧ s.bit R.LAS_SHUT_CAUSE (16 + p)) then
      cmdRefused p value.toNat 3 s
    else if s.bit R.LAS_SHUT p then portRestore p (s.fw (R.LNK_STATUS p) 4 4 1)
    else enterTraining p (s.fw (R.LNK_STATUS p) 4 4 1)) s

/-- LOOP_OFF (12 R343): DARK or FAILED as the plate gives it. -/
def execLoopOff (path : Path) (p : Fin 16) (value : Word) (s : State) : Host.Outcome State Fault Refusal :=
  through path (.write (R.LNK_CMD p) value.toNat) s <|
  lnkCmd path p value (fun _ _ s =>
    if !s.bit (R.LNK_STATUS p) 4 then s
    else
      let s := s.fw (R.LNK_STATUS p) 4 4 0
      if !s.bit (R.LNK_PEER p) 31 then portSet p 0 s
      else
        let (c, s) := s.draw
        enterFailed p c.toNat s) s

end Sys2Proof.Machine
end

