-- ==== Sys2Proof/Machine/Route.lean ====
section
/-! DEFINITION. The router (17 R460–R466): the route a plate gives a destination, the packet header (R445), forwarding, and what
happens to packets that cannot go on (R465). -/

namespace Sys2Proof.Machine

/-! Packet headers (17 Table 17.2) -/

/-- A dword of a packet. -/
def pkW (ws : List Word) (i : Nat) : Nat := (ws.getD i 0).toNat

/-- VC of a packet. -/
def pkVc (ws : List Word) : Nat := fieldOf (pkW ws 0) 31 28
/-- DL of a packet. -/
def pkDl (ws : List Word) : Nat := fieldOf (pkW ws 0) 27 27
/-- POISON of a packet. -/
def pkPoison (ws : List Word) : Bool := bitOf (pkW ws 0) 26
/-- HOPS of a packet. -/
def pkHops (ws : List Word) : Nat := fieldOf (pkW ws 0) 25 20
/-- OPC of a packet. -/
def pkOpc (ws : List Word) : Nat := fieldOf (pkW ws 0) 19 14
/-- LEN of a packet. -/
def pkLen (ws : List Word) : Nat := fieldOf (pkW ws 0) 9 0
/-- DEST of a packet. -/
def pkDest (ws : List Word) : Nat := fieldOf (pkW ws 1) 29 16
/-- SRC of a packet. -/
def pkSrc (ws : List Word) : Nat := fieldOf (pkW ws 1) 13 0
/-- TAG of a packet. -/
def pkTag (ws : List Word) : Nat := fieldOf (pkW ws 2) 31 16
/-- STATUS of a response. -/
def pkStatus (ws : List Word) : Nat := fieldOf (pkW ws 2) 15 12
/-- STREAM of a packet. -/
def pkStream (ws : List Word) : Nat := fieldOf (pkW ws 2) 11 0

/-- Words of a list of bytes, lowest byte first, padded with zeros (00 R7). -/
def bytesDw : Nat → List Byte → List Word
  | 0, _ => []
  | n + 1, bs => w32 (bytesToNat (bs.take 4)) :: bytesDw n (bs.drop 4)

/-- The virtual channel of an opcode, none where Table 17.3 lists none (17 R446). -/
def opcVc (o : Nat) : Option Nat :=
  if [1, 2, 3, 4].contains o then some 2
  else if o = 0x10 then some 4
  else if o = 0x18 ∨ o = 0x19 then some 1
  else if 0x20 ≤ o ∧ o ≤ 0x23 then some 3
  else if o = 0x30 then some 0
  else if o = 0x34 ∨ o = 0x35 then some 5
  else none

/-- An opcode that carries an address (17 Table 17.3). -/
def opcAddr (o : Nat) : Bool := [1, 2, 3, 4, 0x10, 0x18].contains o

/-- A request opcode. -/
def opcReq (o : Nat) : Bool := [1, 2, 3, 4, 0x10, 0x18, 0x19].contains o

/-- The response opcode of a request (17 Table 17.3); WACK for any other. -/
def opcRsp (o : Nat) : Nat := if o = 1 then 0x20 else if o = 3 ∨ o = 4 then 0x22 else if o = 0x19 then 0x23 else 0x21

/-- A packet as its source injects it: class 0, HOPS 63, STAMP (17 R445). -/
def mkPkt (s : State) (opc : Nat) (poison : Bool) (dest tag status stream len : Nat) (rest : List Word) : List Word :=
  [w32 (2 ^ 28 * (opcVc opc).getD 0 + 2 ^ 26 * b2n poison + 2 ^ 20 * 63 + 2 ^ 14 * opc + len),
   w32 (2 ^ 16 * dest + s.chip), w32 (2 ^ 16 * tag + 2 ^ 12 * status + stream), w32 (s.now % 2 ^ 32)] ++ rest

/-- A response to a request packet; an error response carries no data (17 R446, R469). -/
def rspPkt (s : State) (req : List Word) (status : Nat) (poison : Bool) (bytes : List Byte) : List Word :=
  let bytes := if status = 0 then bytes else []
  mkPkt s (opcRsp (pkOpc req)) poison (pkSrc req) (pkTag req) status (pkStream req) bytes.length
    (bytesDw ((bytes.length + 3) / 4) bytes)

/-! Routes (17 R461, R462) -/

/-- The plate whose ROUTE tables are in force: between an apply and its route swap, the one left (14 R384). -/
def routePlate (s : State) : Nat :=
  match s.repl.app with
  | some a => if a.switched then s.fd R.PLATE_STATUS 13 8 else s.curPlate
  | none => s.curPlate

/-- A dword of the record whose ROUTE is in force. -/
def routeDw (s : State) (byte : Nat) : Nat := s.recDw (routePlate s) byte

/-- Entry of a plate's coordinate map (13 R347). -/
def coordIn (s : State) (slot chip : Nat) : Option Nat :=
  let e := (smGet (fun _ => (0 : BitVec 16)) s.maps (16384 * slot + chip)).toNat
  if bitOf e 15 then some (e % 8192) else none

/-- The chips of a plate (13 R349). -/
def membersOf (s : State) (slot : Nat) : List Nat :=
  s.maps.filterMap fun e => if e.1 / 16384 = slot ∧ bitOf e.2.toNat 15 then some (e.1 % 16384) else none

/-- MODE of a port under the route's plate. -/
def routeMode (s : State) (p : Nat) : Nat := fieldOf (routeDw s (0x050 + 16 * p)) 31 28

/-- A destination as a member's coordinate and, for an endpoint, its port there (17 R466). -/
def destOf (s : State) (dest : Nat) : Option (Nat × Option Nat) :=
  match coordIn s (routePlate s) dest with
  | some t => some (t, none)
  | none =>
    (lowest 4 fun k =>
      let w := routeDw s (0x304 + 4 * k)
      bitOf w 31 && decide (w % 16384 ≤ dest) && decide (dest - w % 16384 < routeDw s 0x00C % 16384)).map
      fun k => (dest - routeDw s (0x304 + 4 * k) % 16384, some (12 + k))

/-- One dimension's choice for group coordinates c and t: egress port and class of the next link, none when it does not apply
(17 R462, R463). -/
def dimStep (s : State) (d c t : Nat) : Option (Nat × Nat) :=
  let a := routeDw s (0x320 + 8 * d)
  let b := routeDw s (0x324 + 8 * d)
  let kind := fieldOf a 31 30
  if kind = 1 then
    let stride := b % 8192
    let size := a % 16384
    let x := (c / stride) % size
    let y := (t / stride) % size
    if x = y then none
    else
      let f := (y + size - x) % size
      let pos := bitOf a 29 && (!bitOf a 28 || decide (2 * f ≤ size))
      if pos then some (fieldOf a 27 24, b2n (x + 1 == size)) else some (fieldOf a 23 20, b2n (x == 0))
  else if kind ≠ 0 ∧ bitOf (xorN c t) (b % 16) then some (fieldOf a 27 24, 0)
  else none

/-- The first dimension that applies: dimension, port, class. -/
def dimFrom (s : State) (c t : Nat) : Nat → Nat → Option (Nat × Nat × Nat)
  | 0, _ => none
  | n + 1, d =>
    match dimStep s d c t with
    | some (p, k) => some (d, p, k)
    | none => dimFrom s c t n (d + 1)

/-- The own group coordinate under the route's plate. -/
def ownCoord (s : State) : Nat := routeDw s 0x000 % 8192

/-- The egress for a destination other than the own chip: port, dimension if any, class of the next link (17 R462, R466). -/
def egress (s : State) (dest : Nat) : Option (Nat × Option Nat × Nat) :=
  let alg := fieldOf (routeDw s 0x300) 31 30
  let ep := fun p => if routeMode s p = 5 then some (p, (none : Option Nat), 0) else none
  if alg = 1 then
    (lowest 16 fun p => (routeMode s p == 4 || routeMode s p == 5) && routeDw s (0x050 + 16 * p) % 16384 == dest).map
      fun p => (p, none, 0)
  else
    match destOf s dest with
    | none => none
    | some (t, port) =>
      if t = ownCoord s then port.bind ep
      else if alg ≠ 2 then none
      else
        let gb := fieldOf (routeDw s 0x004) 28 16
        let gs := routeDw s 0x004 % 16384
        if t < gb ∨ gb + gs ≤ t then none
        else (dimFrom s (ownCoord s - gb) (t - gb) (fieldOf (routeDw s 0x300) 27 24) 0).map fun x => (x.2.1, some x.1, x.2.2)

/-- The dimension a port belongs to. -/
def portDim (s : State) (p : Nat) : Option Nat :=
  lowest (fieldOf (routeDw s 0x300) 27 24) fun d =>
    let a := routeDw s (0x320 + 8 * d)
    fieldOf a 31 30 != 0 && (fieldOf a 27 24 == p || (fieldOf a 31 30 == 1 && fieldOf a 23 20 == p))

/-- The class a packet takes on its next link (17 R463): it keeps class 1 while it stays on the dimension it arrived on. -/
def nextClass (s : State) (ingress : Option Nat) (dl : Nat) (dim : Option Nat) (k : Nat) : Nat :=
  match dim, ingress with
  | some d, some p => if dl = 1 ∧ portDim s p = some d then 1 else k
  | _, _ => k

/-! Forwarding (17 R460, R465) -/

/-- A packet with its class and HOPS for the next link. -/
def hopPkt (dl hops : Nat) (ws : List Word) : List Word :=
  match ws with
  | [] => []
  | w :: rest => w32 (fieldSet (fieldSet w.toNat 27 27 dl) 25 20 hops) :: rest

/-- Raise FAB_UNREACHABLE, at most once per frame (17 R465). -/
def noteUnreach (dest : Nat) (s : State) : State :=
  (s.sat R.FAB_UNREACH_CNT 31 0 1).evOnce 8000 Ev.FAB_UNREACHABLE 0 [dest]

/-- A packet whose HOPS is 0 is dropped (17 R460). -/
def hopsExpired (ingress : Option Nat) (s : State) : State :=
  (s.sat R.FAB_DROP_CNT 23 16 1).ev Ev.FAB_HOPS_EXPIRED (ingress.getD 0) []

/-- Send a packet toward a destination; what cannot go on is given to `stuck`. `dec` is 1 where HOPS is still to be decremented. -/
def forwardBy (stuck : State → State) (ingress : Option Nat) (dec : Nat) (ws : List Word) (s : State) : State :=
  if pkHops ws = 0 ∧ dec = 1 then hopsExpired ingress s
  else
    match egress s (pkDest ws) with
    | none => stuck s
    | some (p, dim, k) =>
      if portHeld s p ∨ ((s.port p = 4 ∨ s.port p = 5) ∧ !s.bit (R.LNK_STATUS p) 4) then
        let dl := nextClass s ingress (pkDl ws) dim k
        sendPkt p ⟨bufOf (pkVc ws) dl, hopPkt dl (pkHops ws - dec) ws⟩ s
      else stuck s

/-- Give a packet to the local target (17 R460). -/
def toLocal (ws : List Word) (s : State) : State := s.uFab fun f => { f with inbox := f.inbox ++ [ws] }

/-- Send a response: one that cannot go on is discarded (17 R465). -/
def sendRsp (ws : List Word) (s : State) : State :=
  if pkDest ws = s.chip then toLocal ws s else forwardBy (noteUnreach (pkDest ws)) none 1 ws s

/-- Count an error status sent (17 R470). -/
def countErr (status : Nat) (s : State) : State :=
  if status = 0 ∨ 7 < status then s else s.sat (R.FAB_ERR_TX (status - 1)) 31 0 1

/-- Answer a request packet (17 R469, R470). -/
def answer (req : List Word) (status : Nat) (bytes : List Byte) (s : State) : State :=
  sendRsp (rspPkt s req status false bytes) (countErr status s)

/-- Forward a packet that is not for the own chip: a request that cannot go on is answered UNREACHABLE, a response discarded. -/
def forward (ingress : Option Nat) (dec : Nat) (ws : List Word) (s : State) : State :=
  forwardBy (fun s =>
    let s := noteUnreach (pkDest ws) s
    if opcReq (pkOpc ws) then answer ws 4 [] s else s) ingress dec ws s

/-- Inject a packet of the own package (17 R460). -/
def inject (ws : List Word) (s : State) : State := if pkDest ws = s.chip then toLocal ws s else forward none 1 ws s

/-- Packets a port held for an apply are looked up again (14 R384); CTRL packets stay. Their HOPS is already counted, and the port
they came in on is no longer known, so they take the class of an injected packet (log 22). -/
def reroute (p : Nat) (s : State) : State :=
  let held := (s.lk p).queue
  let s := s.uLk p fun L => { L with queue := held.filter fun k => bufVc k.buf == 0 || bufVc k.buf == 5 }
  (held.filter fun k => !(bufVc k.buf == 0 || bufVc k.buf == 5)).foldl (fun s k => forward none 0 k.words s) s

/-! The route query (17 R474) -/

/-- The group coordinate of the peer on a port, by its peer rule (13 R352). -/
def peerCoord (s : State) (p c : Nat) : Option Nat :=
  let a := routeDw s (0x050 + 16 * p)
  let v := routeDw s (0x054 + 16 * p) % 8192
  let m := routeDw s (0x058 + 16 * p) % 8192
  let t := routeDw s (0x05C + 16 * p) % 8192
  let gs := routeDw s 0x004 % 16384
  let mode := fieldOf a 31 28
  if mode = 1 then some (if m = 0 then (c + v) % gs else (c - Nat.land c m) + Nat.land (c + v) m)
  else if mode = 2 then some (xorN c v)
  else if mode = 3 then some (xorN (xorN c v) (if popCount 13 (Nat.land c m) % 2 = 1 then t else 0))
  else none

/-- Router hops from group coordinate c to t; none where a dimension's port leads nowhere. Any pair takes at most 62 (17 R464). -/
def hopsTo (s : State) (t : Nat) : Nat → Nat → Nat → Option Nat
  | 0, _, _ => none
  | n + 1, c, k =>
    if c = t then some k
    else
      match dimFrom s c t (fieldOf (routeDw s 0x300) 27 24) 0 with
      | none => none
      | some (_, p, _) =>
        match peerCoord s p c with
        | none => none
        | some c' => hopsTo s t n c' (k + 1)

/-- DIST: router hops to a destination (17 Table 17.7). The last hop to an endpoint counts (log 23). -/
def distOf (s : State) (dest : Nat) : Nat :=
  if fieldOf (routeDw s 0x300) 31 30 = 1 then 1
  else
    match destOf s dest with
    | none => 0
    | some (t, port) =>
      let gb := fieldOf (routeDw s 0x004) 28 16
      (hopsTo s (t - gb) 64 (ownCoord s - gb) 0).getD 0 + b2n port.isSome

/-- FAB_ROUTE_A's answer for a destination. -/
def routeAnswer (s : State) (dest : Nat) : Nat :=
  if dest = s.chip then 2 ^ 31 + 2 ^ 30
  else
    match egress s dest with
    | none => 2 ^ 31 + 2 ^ 29
    | some (p, dim, k) => 2 ^ 31 + 2 ^ 28 * k + 2 ^ 16 * p + 2 ^ 8 * dim.getD 0 + distOf s dest % 256

/-- FAB_STATUS's ALG, NDIM and EP_VALID follow the ROUTE in force. -/
def routeStatus (s : State) : State :=
  let w := routeDw s 0x300
  let s' := (s.fw R.FAB_STATUS 31 30 (fieldOf w 31 30)).fw R.FAB_STATUS 27 24 (fieldOf w 27 24)
  s'.fw R.FAB_STATUS 19 16 ((List.range 4).foldl (fun a k => a + 2 ^ k * b2n (bitOf (routeDw s (0x304 + 4 * k)) 31)) 0)

end Sys2Proof.Machine
end

