-- ==== Sys2Proof/Machine/Replate.lean ====
section
/-! DEFINITION. Replating and fault rerouting (14): rows PREPARE_ISSUE to PLATE_REQ_TIMEOUT. The Etcher's side takes the issue of a
further PREPARE as a parameter, so that an answer of its own that leads to another PREPARE is a recursion on a count. -/

namespace Sys2Proof.Machine

/-! What a plate changes (14 R379, R380) -/

/-- Slot valid in plate SRAM (13 R368). -/
def slotValid (s : State) (slot : Nat) : Bool := s.bit (R.PLATE_VALID_LO + 4 * (slot / 32)) (slot % 32)

/-- This chip is a member of a slot (13 R368). -/
def slotMember (s : State) (slot : Nat) : Bool := s.bit (R.PLATE_MEMBER_LO + 4 * (slot / 32)) (slot % 32)

/-- The planes of a channel differ between two slots. -/
def planeDiff (s : State) (a b n : Nat) : Bool :=
  s.recDw a (0x200 + 8 * n) != s.recDw b (0x200 + 8 * n) || s.recDw a (0x204 + 8 * n) != s.recDw b (0x204 + 8 * n)

/-- A port is touched by an apply from one slot to another (R379). -/
def portTouched (s : State) (a b p : Nat) : Bool :=
  (List.range 4).any (fun i => s.recDw a (0x050 + 16 * p + 4 * i) != s.recDw b (0x050 + 16 * p + 4 * i))
    || (List.range 18).any (fun n => laneByte s a (laneCode true p n) != laneByte s b (laneCode true p n)
        || laneByte s a (laneCode false p n) != laneByte s b (laneCode false p n))
    || (s.port p == 0 && fieldOf (s.recDw b (0x050 + 16 * p)) 31 28 != 0)

/-- An express TX lane is disturbed (R380). -/
def laneDisturbed (s : State) (a b p n : Nat) : Bool :=
  roleIn s a true p n == 2 && roleIn s b true p n == 2
    && laneByte s a (laneCode true p n) / 16 == laneByte s b (laneCode true p n) / 16 && planeDiff s a b n

/-- PLATE_RP_PORTS of an apply. -/
def applyPorts (s : State) (a b : Nat) : Nat :=
  (List.range 16).foldl (fun w p =>
    w + 2 ^ p * b2n (portTouched s a b p) + 2 ^ (16 + p) * b2n ((List.range 18).any fun n => laneDisturbed s a b p n)) 0

/-- A numeral of a message field. -/
def pmT (m : PlateMsg) : Nat := m.target.toNat

/-- XID of a message. -/
def pmX (m : PlateMsg) : Nat := m.xid.toNat

/-- The payload COMMIT, ABANDON and DECIDE_ACK share (Table 14.1). -/
def decWords (op : Nat) (m : PlateMsg) : List Word :=
  [w32 (2 ^ 24 * op + 256 * pmT m + m.from_.toNat), w32 (2 ^ 24 * m.drain.toNat + 65536 * m.routeAt.toNat + pmX m)]
    ++ w64 m.applyCt.toNat

/-! The member's side -/

/-- PLATE_RP_STATUS.PHASE (R396). -/
def setRpPhase (k : Nat) (s : State) : State := s.fw R.PLATE_RP_STATUS 31 28 k

/-- The TX lines a slot needs that are OFF (R388). -/
def coldLines (s : State) (slot : Nat) : List Nat :=
  (List.range 144).filter fun l => s.line (l / 18) (l % 18) == 0 &&
    [2 * (l / 18), 2 * (l / 18) + 1].any fun p => roleIn s slot true p (l % 18) == 1 || roleIn s slot true p (l % 18) == 3

/-- The first reason of Table 14.2 that applies, 0 for none. -/
def prepReason (s : State) (m : PlateMsg) (digest : Word64) (cold : Bool) : Nat :=
  if s.top ≠ 5 then 1
  else if s.fd R.TIME_STATUS 2 0 = 4 then 2
  else if digest.toNat ≠ s.rd64 R.BOOT_PLATESET_LO then 3
  else if !slotValid s (pmT m) then 4
  else if m.from_.toNat ≠ s.curPlate then 5
  else if s.repl.app.isSome || (match s.repl.open_ with
    | some o => o.msg.xid != m.xid
    | none => false) then 6
  else if m.applyCt.toNat % 8000 ≠ 0 ∨ m.applyCt.toNat < s.now + 320000 then 7
  else if cold then 8
  else 0

/-- This package takes part in a replate (R372). -/
def participant (s : State) (target : Nat) : Bool := slotMember s s.curPlate || slotMember s target

/-- PLATE_RP_STATUS of an answer. -/
def rpAnswer (m : PlateMsg) (reason : Nat) (s : State) : State :=
  if reason = 6 then s
  else
    (s.wr R.PLATE_RP_STATUS (2 ^ 28 * b2n (reason = 0) + 2 ^ 26 * (if reason = 0 then 1 else 2) + 2 ^ 22 * reason
      + 2 ^ 16 * pmT m + pmX m)).wr64 R.PLATE_RP_APPLY_CT_LO m.applyCt.toNat

/-- A member gets a PREPARE (R372, R373, R388, R411): its answer's reason, none where it gives no answer. -/
def memberPrepare (m : PlateMsg) (digest : Word64) (s : State) : State × Option Nat :=
  if !participant s (pmT m) then (s, none)
  else
    let cold := if slotValid s (pmT m) then coldLines s (pmT m) else []
    let reason := prepReason s m digest (!cold.isEmpty)
    let s := s.uLas fun x => { x with warm := x.warm ++ cold.filter fun l => !x.warm.contains l }
    let s := cold.foldl (fun s l => updLine (l / 18) (l % 18) s) s
    if s.bit R.SCRIBE_STATUS 23 then (s, none) else
    let s := rpAnswer m reason s
    let s := if reason ≠ 0 then s
      else
        let s := s.uRepl fun r => { r with open_ := some ⟨m, false⟩ }
        (List.range 16).foldl (fun s p => if (s.lk p).rot.isSome then rotBack p s else s) s
    (memberOrder [w32 (2 ^ 24 * (if reason = 0 then 0x31 else 0x32) + reason), w32 (65536 * s.chip + pmX m)] s, some reason)

/-- A member gets a COMMIT (R375). -/
def memberCommit (m : PlateMsg) (s : State) : State :=
  match s.repl.open_ with
  | none => s
  | some o =>
    if o.msg.xid ≠ m.xid ∨ o.commit ∨ s.repl.app.isSome then s
    else
      let s := s.uRepl fun r => { r with open_ := some ⟨m, true⟩ }
      if s.now < m.applyCt.toNat then setRpPhase 2 s
      else setRpPhase 2 (s.uRepl fun r => { r with catch_ := some m })

/-- A member gets an ABANDON before it applies (R375). -/
def memberAbandon (m : PlateMsg) (s : State) : State :=
  match s.repl.open_ with
  | none => s
  | some o =>
    if o.msg.xid ≠ m.xid ∨ s.repl.app.isSome then s
    else
      let s := s.uRepl fun r => { r with open_ := none, catch_ := none }
      ((setRpPhase 0 s).sat R.PLATE_RP_CNT 31 16 1).ev Ev.REPLATE_ABANDONED (pmT m) [pmX m]

/-- A package gets a PLATE_STATE (R377). -/
def memberState (m : PlateMsg) (s : State) : State :=
  let cur := pmT m
  let same := match s.repl.open_ with
    | some o => o.msg.xid == m.xid
    | none => true
  if cur = s.curPlate ∨ !same ∨ s.repl.app.isSome ∨ !slotValid s cur then s
  else s.uRepl fun r => { r with catch_ := some { m with from_ := BitVec.ofNat 6 s.curPlate } }

/-- Touched and disturbed ports of the coming apply. -/
def rpPorts (m : PlateMsg) (s : State) : State := s.wr R.PLATE_RP_PORTS (applyPorts s s.curPlate (pmT m))

/-- The add rings of disturbed lanes are parked (R380). -/
def parkDisturbed (a b : Nat) (s : State) : State :=
  (List.range 16).foldl (fun s p => (List.range 18).foldl (fun s n =>
    if laneDisturbed s a b p n then parkLane true p n s else s) s) s

/-- Disturbed lanes return to lock: their rings at the recorded code, MODE RUN (R381). -/
def relockDisturbed (a b : Nat) (s : State) : State :=
  (List.range 16).foldl (fun s p => (List.range 18).foldl (fun s n =>
    if laneDisturbed s a b p n then
      match laneCodeWord s true p n with
      | some c => ringMove p (laneRing s true p n) c 1 s
      | none => s
    else s) s) s

/-- Lines with WEAR_DUE whose channel the plate leaves unsent on both ports (11 R305; 24 R618). -/
def wearByPlate (s : State) : State := (List.range 144).foldl (fun s l => wearEnd (l / 18) (l % 18) s) s

/-- The Beneš elements that differ between two slots take their new setpoints, after the ring words; selectors likewise (14 R381 step 4,
R382; log 60). -/
def elementWords (a b : Nat) (s : State) : State :=
  let s := (List.range 16).foldl (fun s p => selFollow p s) s
  (List.range 1008).foldl (fun s i =>
    let (n, t, j) := (i / 56, i % 56 / 8, i % 8)
    let x := crossed (s.recDw b) n t j
    if crossed (s.recDw a) n t j = x then s
    else wqPush (i / 63) (74 + i % 63) 2 (Config.elementPoint (0x400 + i) x).toNat s) s

/-- The time servo takes the plate's parent and alternates (R385; 04 R127). -/
def applyParents (s : State) : State := timePlate s

/-- PLATE_STATUS at an apply. -/
def plateStatus (m : PlateMsg) (s : State) : State :=
  let t := pmT m
  s.wr R.PLATE_STATUS (2 ^ 18 + 2 ^ 17 * b2n (bitOf (s.recDw t 0) 29) + 2 ^ 16 * b2n (slotMember s t) + 256 * s.curPlate + t)

/-- The plate takes effect (R381 step 2): `base` is the CT the offsets count from. -/
def doApply (m : PlateMsg) (base : Nat) (catchup : Bool) (s : State) : State :=
  let a := s.curPlate
  let answered := s.repl.open_.any fun o => o.msg.xid == m.xid
  let s := (if answered then s else s.fw R.PLATE_RP_STATUS 27 22 0).wr64 R.PLATE_RP_APPLY_CT_LO m.applyCt.toNat
  let s := rpPorts m s
  let s := byScribe (parkDisturbed a (pmT m)) s
  let s := plateStatus m s
  let s := s.wr64 R.PLATE_APPLY_CT_LO base
  let s := s.uRepl fun r => { r with
    app := some ⟨{ m with from_ := BitVec.ofNat 6 a }, base, catchup, true, false⟩, catch_ := none,
    last := some { m with applyCt := BitVec.ofNat 64 base } }
  let s := setRpPhase (if catchup then 6 else 4) s
  let s := s.fw R.PLATE_RP_STATUS 21 16 (pmT m) |>.fw R.PLATE_RP_STATUS 15 0 (pmX m)
  let s := byScribe (fun s => elementWords a (pmT m)
    ((List.range 16).foldl (fun s p => if s.bit R.PLATE_RP_PORTS p then plateOnPort p s else s) s)) s
  let s := applyParents s
  let s := wearByPlate (s.uLas fun x => { x with warm := [] })
  phaseLink ((List.range 144).foldl (fun s l => updLine (l / 18) (l % 18) s) s)

/-! The Etcher's side -/

/-- A host request ends with a result at its own package (R395). -/
def reqDone (tag slot result : Nat) (s : State) : State :=
  let s := (s.fw R.PLATE_REQ_STATUS 31 31 0).fw R.PLATE_REQ_STATUS 27 24 result
  s.ev Ev.PLATE_REQ_DONE slot [result, tag]

/-- PLATE_ANSWER from the Etcher (R394); its own package's request ends at once. -/
def hostDone (host : Option (Nat × Nat × Nat)) (result : Nat) (s : State) : State :=
  match host with
  | none => s
  | some (chip, tag, slot) =>
    let s := clusterOrder [w32 (2 ^ 24 * 0x39 + 65536 * tag + 256 * result + slot), w32 (65536 * chip)] s
    if chip = s.chip ∧ s.bit R.PLATE_REQ_STATUS 31 then reqDone tag slot result s else s

/-- The Etcher's view of quarantined members (16 R433, R434). -/
def quarantined (s : State) (chip : Nat) : Bool := s.agree.quar.any fun x => x.1 == chip

/-- A further PREPARE: target, cause, the member it leaves out, COLD before, host request. -/
abbrev Reissue := Nat → Nat → Option Nat → Bool → Option (Nat × Nat × Nat) → State → State

/-- The first entry of the plate in force that matches (13 R360): entry, target, the chip a KIND 1 entry removes. -/
def fallbackMatch (s : State) (pairs : List (Nat × Nat)) (gone : List Nat) : Option (Nat × Nat × Option Nat) :=
  (lowest 4 fun f =>
    let a := s.curRec (0x010 + 8 * f)
    let chip := a % 16384
    bitOf a 31 &&
      (if bitOf a 30 then gone.contains chip && (coordIn s s.curPlate chip).isSome
      else pairs.any fun x => bitOf (s.curRec (0x014 + 8 * f)) x.2 && (bitOf a 29 || x.1 == chip)
        && (coordIn s s.curPlate x.1).isSome)).map
    fun f =>
      let a := s.curRec (0x010 + 8 * f)
      (f, fieldOf a 21 16, if bitOf a 30 then some (a % 16384) else none)

/-- Evaluate fallback entries and issue (R390, R391). -/
def faultEval (re : Reissue) (pairs : List (Nat × Nat)) (gone : List Nat) (s : State) : State :=
  match fallbackMatch s pairs gone with
  | some (f, t, chip) => re t (if chip.isSome then 3 else 2) chip false none (s.ev Ev.FALLBACK_CHOSEN t [s.curPlate, f])
  | none => s.ev Ev.FALLBACK_NONE s.curPlate []

/-- A fault that waited is evaluated (R378). -/
def faultDue (re : Reissue) (s : State) : State :=
  if s.repl.faultDue ∧ s.repl.etch.isNone then
    let s := s.uRepl fun r => { r with faultDue := false }
    let gone := s.repl.lost ++ s.agree.quar.map (·.1)
    if s.repl.pairs.isEmpty ∧ gone.isEmpty then s else faultEval re s.repl.pairs gone s
  else s

/-- TARGET's first KIND 1 entry for a chip (R393). -/
def dropTarget (s : State) (slot chip : Nat) : Option Nat :=
  (lowest 4 fun f => let a := s.recDw slot (0x010 + 8 * f); bitOf a 31 && bitOf a 30 && a % 16384 == chip).map
    fun f => fieldOf (s.recDw slot (0x010 + 8 * f)) 21 16

/-- A member refused while UNSYNCED: DROP or WAIT (R393). -/
def unsyncPolicy (re : Reissue) (x : EtchX) (chip : Nat) (s : State) : State :=
  match (if s.bit R.PLATE_ETCH_POLICY 31 then dropTarget s (pmT x.msg) chip else none) with
  | some t => re t 4 (some chip) false none (hostDone x.host 6 s)
  | none =>
    let start := match s.repl.wait with
      | some w => if w.target = pmT x.msg ∧ w.chip = chip then w.start else s.ticks
      | none => s.ticks
    s.uRepl fun r => { r with wait := some ⟨pmT x.msg, x.cause, x.host, chip, start⟩ }

/-- The Etcher's XID ends with its ABANDON. -/
def closeEtch (re : Reissue) (s : State) : State :=
  match s.repl.etch with
  | none => s
  | some x =>
    let s := (s.uRepl fun r => { r with etch := none }).fw R.PLATE_ETCH_STATUS 29 16 0
    let s := if x.after.1 = 1 then re (pmT x.msg) x.cause x.skip true x.host s
      else if x.after.1 = 2 then unsyncPolicy re x x.after.2 s
      else hostDone x.host x.why s
    faultDue re s

/-- The decision is sent, acted on locally and repeated (R374). -/
def sendDecision (re : Reissue) (commit : Bool) (s : State) : State :=
  match s.repl.etch with
  | none => s
  | some x =>
    let (s, f) := clusterOrderR false (decWords (if commit then 0x33 else 0x34) x.msg) s
    let s := s.uRepl fun r => { r with
      dec := some (f, x.msg.applyCt.toNat), etch := some { x with decision := some commit, sent := true } }
    if commit then memberCommit x.msg (s.uRepl fun r => { r with wait := none })
    else closeEtch re (memberAbandon x.msg s)

/-- The Etcher decides; the Counterproof acknowledges first, unless it is lost (R374; 15 R419). -/
def decide_ (re : Reissue) (commit : Bool) (s : State) : State :=
  match s.repl.etch with
  | none => s
  | some x =>
    if x.decision.isSome then s
    else
      let s := s.uRepl fun r => { r with etch := some { x with decision := some commit } }
      if s.bit R.CL_STATUS 27 then sendDecision re commit s
      else s.emit (.toCp (decWords (if commit then 0x33 else 0x34) x.msg))

/-- The Etcher collects an answer (R374, R388, R393). -/
def etchAnswer (re : Reissue) (chip xid reason : Nat) (s : State) : State :=
  match s.repl.etch with
  | none => s
  | some x =>
    if !isEtcher s ∨ pmX x.msg ≠ xid ∨ x.decision.isSome ∨ !x.waiting.contains chip then s
    else
      let x := { x with waiting := x.waiting.filter (· != chip) }
      let x := if reason = 8 ∧ !x.cold then { x with after := (1, 0) } else if reason = 2 then { x with after := (2, chip) } else x
      let s := (s.uRepl fun r => { r with etch := some x }).fw R.PLATE_ETCH_STATUS 29 16 x.waiting.length
      if reason = 0 then (if x.waiting.isEmpty then decide_ re true s else s)
      else
        let s := if reason = 8 ∧ x.cold then s.ev Ev.REPLATE_COLD (pmT x.msg) [xid] else s
        decide_ re false s

/-- The next frame boundary at or after a CT. -/
def ceilFrame (ct : Nat) : Nat := (ct + 7999) / 8000 * 8000

/-- apply_CT of a PREPARE issued now (R371, R388). -/
def applyAt (s : State) (cause : Nat) (cold : Bool) : Nat :=
  let lead := 8000 * (if cause ≤ 1 then s.fd R.PLATE_ETCH_LEAD 8 0 else s.fd R.PLATE_ETCH_LEAD 24 16)
  ceilFrame (s.now + (if cold then max lead 9600000 else lead))

/-- Participants whose answers are awaited (R372), but for a member the plate change removes. -/
def participants (s : State) (target : Nat) (skip : Option Nat) : List Nat :=
  let a := membersOf s s.curPlate
  (a ++ (membersOf s target).filter fun c => !a.contains c).filter fun c => skip != some c

/-- The Etcher issues a PREPARE (R371), and takes part in it itself. A plate that needs a quarantined member is not prepared, but
for a KIND 1 entry's target (16 R435). -/
def issueGo : Nat → Reissue
  | 0 => fun _ _ _ _ _ s => s
  | n + 1 => fun target cause skip cold host s =>
    if !isEtcher s ∨ s.bit R.CL_STATUS 26 ∨ s.repl.etch.isSome then s
    else
      let parts := participants s target skip
      match (if skip.isSome then none else parts.find? (quarantined s)) with
      | some q => hostDone host 6 (s.ev Ev.AGREE_BLOCKED target [q])
      | none =>
        let xid := (s.repl.lastXid + 1) % 65536
        let m : PlateMsg := ⟨BitVec.ofNat 6 target, BitVec.ofNat 6 s.curPlate, BitVec.ofNat 8 (s.fd R.PLATE_ETCH_TIMING 15 8),
          BitVec.ofNat 8 (s.fd R.PLATE_ETCH_TIMING 23 16), BitVec.ofNat 16 xid, BitVec.ofNat 64 (applyAt s cause cold)⟩
        let digest := BitVec.ofNat 64 (s.rd64 R.BOOT_PLATESET_LO)
        let s := s.uRepl fun r => { r with
          lastXid := xid, etch := some ⟨m, cause, parts, none, false, cold, host, 6, (0, 0), skip⟩ }
        let s := s.wr R.PLATE_ETCH_STATUS (65536 * (parts.length % 16384) + xid)
        let w := decWords 0x30 m
        let w := w32 ((w.getD 0 0).toNat + 2 ^ 20 * cause) :: w.drop 1
        let s := clusterOrder (w ++ w64 digest.toNat) s
        match memberPrepare m digest s with
        | (s, some r) => etchAnswer (issueGo n) s.chip xid r s
        | (s, none) => if parts.isEmpty then decide_ (issueGo n) true s else s

/-- A chain of further PREPAREs ends after at most 63 fallback plates (13 R361) and one COLD each. -/
def reissue : Reissue := issueGo 130

/-- A fault falls due at the Etcher (R378): evaluated now, or once the XID that stands in its way has ended. -/
def faultNow (pairs : List (Nat × Nat)) (gone : List Nat) (s : State) : State :=
  match s.repl.etch with
  | none => faultEval reissue pairs gone s
  | some x =>
    let s := s.uRepl fun r => { r with faultDue := true }
    if x.decision.isNone ∧ x.cause ≤ 1 then
      decide_ reissue false (s.uRepl fun r => { r with etch := some { x with why := 8 } })
    else s

/-- A member becomes a KIND 1 key at once (R391; 16 R435). -/
def memberKey (chip : Nat) (s : State) : State :=
  if isEtcher s ∧ (coordIn s s.curPlate chip).isSome then faultNow [] [chip] s else s

/-! Rows -/

/-- PREPARE_ISSUE (R371). -/
def execPrepareIssue (cause : Fin 5) (target : Fin 64) (s : State) : Host.Outcome State Fault Refusal :=
  done (reissue target cause none false none s)

/-- PREPARE_RECEIVE (R372). The standby notes the Etcher's open XID (R374). -/
def prepareOrder (m : PlateMsg) (cause : Nat) (digest : Word64) (s : State) : State :=
  let s := if s.bit R.CL_STATUS 30 then
      s.uRepl fun r => { r with etch := some ⟨m, cause, [], none, false, false, none, 6, (0, 0), none⟩, lastXid := pmX m }
    else s
  (memberPrepare m digest s).1

/-- PREPARE_RECEIVE row. -/
def execPrepareReceive (m : PlateMsg) (cause : BitVec 4) (digest : Word64) (s : State) : Host.Outcome State Fault Refusal :=
  done (prepareOrder m cause.toNat digest s)

/-- ANSWER_RECEIVE (R374). -/
def execAnswerReceive (chip : BitVec 14) (xid : BitVec 16) (reason : BitVec 4) (s : State) : Host.Outcome State Fault Refusal :=
  done (etchAnswer reissue chip.toNat xid.toNat reason.toNat s)

/-- DECISION_DEADLINE (R374): missing answers, or a missing acknowledgement, make it ABANDON. -/
def execDecisionDeadline (s : State) : Host.Outcome State Fault Refusal :=
  match s.repl.etch with
  | none => done s
  | some x =>
    if !isEtcher s ∨ x.sent then done s
    else if x.decision.isNone then done (decide_ reissue false s |> fun s => match s.repl.etch with
      | some y => if y.sent ∨ y.msg.xid ≠ x.msg.xid then s else sendDecision reissue false s
      | none => s)
    else done (sendDecision reissue false s)

/-- The Counterproof acknowledges a decision (R374), or the Etcher gets the acknowledgement and sends it. -/
def decideAck (commit : Bool) (m : PlateMsg) (s : State) : State :=
  match s.repl.etch with
  | some x =>
    if isEtcher s then
      if x.msg.xid = m.xid ∧ x.decision = some commit ∧ !x.sent then sendDecision reissue commit s else s
    else if s.bit R.CL_STATUS 30 ∧ x.msg.xid = m.xid ∧ !x.sent then
      memberOrder (decWords 0x35 m) (s.uRepl fun r => { r with etch := some { x with decision := some commit } })
    else s
  | none =>
    if s.bit R.CL_STATUS 30 then
      memberOrder (decWords 0x35 m) (s.uRepl fun r => { r with
        etch := some ⟨m, 0, [], some commit, false, false, none, 6, (0, 0), none⟩ })
    else s

/-- DECIDE_ACK row. -/
def execDecideAck (commit : Bool) (m : PlateMsg) (s : State) : Host.Outcome State Fault Refusal := done (decideAck commit m s)

/-- DECISION_REPEAT (R374): the decision goes out again each frame until apply_CT + 1 ms. -/
def execDecisionRepeat (s : State) : Host.Outcome State Fault Refusal :=
  match s.repl.dec with
  | none => done s
  | some (f, ct) =>
    if ct + 1600000 ≤ s.now then done (s.uRepl fun r => { r with dec := none })
    else done (clTransport f s)

/-- A standby follows the decision the holder sent, to repeat it (R374). -/
def standbyDecision (commit : Bool) (m : PlateMsg) (frame : List Word) (s : State) : State :=
  if s.bit R.CL_STATUS 30 then
    s.uRepl fun r => { r with dec := some (frame, m.applyCt.toNat), etch := if commit then r.etch.map fun x =>
      { x with decision := some true, sent := true } else none }
  else s

/-- COMMIT_RECEIVE (R375). -/
def execCommitReceive (m : PlateMsg) (s : State) : Host.Outcome State Fault Refusal := done (memberCommit m s)

/-- ABANDON_RECEIVE (R375). -/
def execAbandonReceive (m : PlateMsg) (s : State) : Host.Outcome State Fault Refusal := done (memberAbandon m s)

/-- REPLATE_DRAIN (R381 step 1). -/
def execReplateDrain (s : State) : Host.Outcome State Fault Refusal :=
  match s.repl.open_ with
  | some o => if o.commit ∧ s.repl.app.isNone ∧ s.repl.catch_.isNone then done (setRpPhase 3 (rpPorts o.msg s)) else done s
  | none => done s

/-- REPLATE_APPLY (R381 step 2). -/
def execReplateApply (s : State) : Host.Outcome State Fault Refusal :=
  match s.repl.open_ with
  | some o =>
    if o.commit ∧ s.repl.app.isNone ∧ s.repl.catch_.isNone then done (doApply o.msg o.msg.applyCt.toNat false s) else done s
  | none => done s

/-- Step 9 of an apply (R381): the disturbed lanes' rings go back to lock, and touched ports that are trained begin CREDENTIALS. -/
def applyRelock (s : State) : State :=
  match s.repl.app with
  | none => s
  | some a =>
    if a.relock ∨ !a.switched then s
    else
      let s := byScribe (relockDisturbed a.msg.from_.toNat (pmT a.msg)) (s.uRepl fun r => { r with app := some { a with relock := true } })
      (List.range 16).foldl (fun s p => if s.bit R.PLATE_RP_PORTS p then trainCheck p s else s) s

/-- Step 9 comes 230 µs after the apply (Table 14.3; log 154). -/
def applyTick (s : State) : State :=
  match s.repl.app with
  | some a => if a.base + 368000 ≤ s.now then applyRelock s else s
  | none => s

/-- Lanes still without codeword lock at the route swap count as lost for a frame (R383). -/
def afterWindow (s : State) : State :=
  (List.range 16).foldl (fun s p => (List.range 18).foldl (fun s n =>
    if s.slot false p n ≠ 31 ∧ s.lane false p n = 3 ∧ !s.bit (laneReg false p n) 8 then faultLane false p n 0 s else s) s) s

/-- The Etcher's apply has ended: the host's result, and a fault that waited (R378, R395). -/
def etchApplied (xid : Nat) (s : State) : State :=
  match s.repl.etch with
  | some x =>
    if pmX x.msg = xid ∧ x.sent then
      let s := s.uRepl fun r => { r with etch := none }
      if isEtcher s then faultDue reissue (hostDone x.host 1 s) else s
    else s
  | none => s

/-- ROUTE_SWAP (R384). A decision taken SOLO is marked in ARG2 of REPLATE_APPLIED (15 R419; log 24). -/
def execRouteSwap (s : State) : Host.Outcome State Fault Refusal :=
  match s.repl.app with
  | none => done s
  | some a =>
    let s := applyRelock s
    let touched := s.fd R.PLATE_RP_PORTS 15 0
    let late := (List.range 16).foldl (fun w p =>
      if bitOf touched p ∧ !(s.port p == 3 || s.port p == 4 || s.port p == 5) then w + 2 ^ p else w) 0
    let s := s.uRepl fun r => { r with app := none, open_ := none }
    let s := setRpPhase 0 ((s.fw R.PLATE_STATUS 18 18 0).wr R.PLATE_RP_LATE late)
    let s := routeStatus s
    let s := (List.range 16).foldl (fun s p => if bitOf touched p then pump p (reroute p s) else s) s
    let solo := isEtcher s && s.bit R.CL_STATUS 27
    let s := (s.sat R.PLATE_RP_CNT 15 0 1).ev Ev.REPLATE_APPLIED (pmT a.msg) [pmX a.msg, a.msg.from_.toNat, b2n solo]
    done (etchApplied (pmX a.msg) (afterWindow s))

/-- REPLATE_NO_DECISION (R376). -/
def execReplateNoDecision (s : State) : Host.Outcome State Fault Refusal :=
  match s.repl.open_ with
  | some o => if !o.commit then done (s.ev Ev.REPLATE_NO_DECISION (pmT o.msg) [pmX o.msg]) else done s
  | none => done s

/-- REPLATE_ORPHAN (R376). -/
def execReplateOrphan (s : State) : Host.Outcome State Fault Refusal :=
  match s.repl.open_ with
  | some o =>
    if !o.commit then
      done ((setRpPhase 0 (s.uRepl fun r => { r with open_ := none })).ev Ev.REPLATE_ORPHAN (pmT o.msg) [pmX o.msg])
    else done s
  | none => done s

/-- PLATE_STATE_RECEIVE (R377). -/
def execPlateStateReceive (m : PlateMsg) (s : State) : Host.Outcome State Fault Refusal := done (memberState m s)

/-- REPLATE_CATCHUP (R375, R377): at the next frame boundary, with every offset counted from there. -/
def execReplateCatchup (s : State) : Host.Outcome State Fault Refusal :=
  match s.repl.catch_ with
  | none => done s
  | some m =>
    if s.repl.app.isSome then done s
    else done (doApply m s.now true (s.ev Ev.REPLATE_CATCHUP (pmT m) [pmX m]))

/-- PORT_DOWN names every FAILED port of its chip (R390). -/
def portDown (chip ports : Nat) (s : State) : State :=
  if isEtcher s then clearPairs (upPairs chip ports s) (addPairs chip ports s)
  else standbyPairs chip ports (upPairs chip ports s) s

/-- PORT_UP: the chip's pairs it does not name are up (R390). -/
def portUp (chip ports : Nat) (s : State) : State :=
  if isEtcher s then clearPairs (upPairs chip ports s) s else standbyPairs chip 0 (upPairs chip ports s) s

/-- PORT_DOWN_RECEIVE (R390). The pairs are those under the plate in force: a note under another plate is not taken. -/
def execPortDownReceive (chip : BitVec 14) (ports : BitVec 16) (cur : BitVec 6) (s : State) : Host.Outcome State Fault Refusal :=
  if cur.toNat = s.curPlate then done (portDown chip.toNat ports.toNat s) else done s

/-- PORT_UP_RECEIVE (R390). -/
def execPortUpReceive (chip : BitVec 14) (ports : BitVec 16) (_cur : BitVec 6) (s : State) : Host.Outcome State Fault Refusal :=
  done (portUp chip.toNat ports.toNat s)

/-- FAULT_WINDOW_END (R390, R391). -/
def execFaultWindowEnd (s : State) : Host.Outcome State Fault Refusal :=
  if !isEtcher s ∨ !s.repl.window then done s
  else
    let s := faultReg (s.uRepl fun r => { r with
      window := false, pairs := r.pairs.filter fun x => !r.cleared.contains x, cleared := [] })
    let gone := s.repl.lost ++ s.agree.quar.map (·.1)
    if s.repl.pairs.isEmpty ∧ gone.isEmpty then done s else done (faultNow s.repl.pairs gone s)

/-- MEMBER_UNREACHABLE (R391). -/
def execMemberUnreachable (chip : BitVec 14) (s : State) : Host.Outcome State Fault Refusal :=
  let c := chip.toNat
  if !isEtcher s ∨ c = s.chip ∨ (coordIn s s.curPlate c).isNone then done s
  else done (memberKey c (s.uRepl fun r => { r with lost := c :: r.lost.filter (· != c) }))

/-- UNSYNC_WAIT_RETRY (R393). -/
def execUnsyncWaitRetry (s : State) : Host.Outcome State Fault Refusal :=
  match s.repl.wait with
  | none => done s
  | some w =>
    if !isEtcher s ∨ s.repl.etch.isSome then done s
    else if s.fd R.PLATE_ETCH_POLICY 7 0 * 160000000 ≤ s.ticks - w.start then
      done (hostDone w.host 6 ((s.uRepl fun r => { r with wait := none }).ev Ev.REPLATE_UNSYNCED w.target [w.chip]))
    else done (reissue w.target w.cause none false w.host s)

/-! Host requests (R394, R395) -/

/-- The Etcher judges a request (R394, R395; 15 R411); a second copy of a request it serves changes nothing. -/
def plateAsk (chip tag slot : Nat) (s : State) : State :=
  let host := some (chip, tag, slot)
  if !isEtcher s ∨ (s.repl.etch.bind (·.host)) = host ∨ (s.repl.wait.bind (·.host)) = host then s
  else if s.bit R.CL_STATUS 26 then hostDone host 7 s
  else if !s.bit (R.PLATE_HOST_ALLOW_LO + 4 * (slot / 32)) (slot % 32) then hostDone host 2 s
  else if s.repl.etch.isSome ∨ s.repl.wait.isSome then hostDone host 3 s
  else if !slotValid s slot then hostDone host 4 s
  else if slot = s.curPlate then hostDone host 5 s
  else reissue slot 1 none false host s

/-- The local view has an unfenced Etcher and no split (R395; 15 R416). -/
def etcherSeen (s : State) : Bool :=
  !s.bit R.CL_STATUS 28 && !s.cl.heard.any (fun x => x.2.split && decide (s.ticks - x.2.tick ≤ 1200000)) &&
    (isEtcher s || (decide (s.now < s.rd64 R.CL_LEASE_EXP_LO) && s.fd R.CL_STATUS 13 0 != s.chip &&
      !s.cl.heard.any (fun x => x.1 == s.fd R.CL_STATUS 13 0 && x.2.fenced)))

/-- The plate doorbell (R394). -/
def plateReq (p : Path) (v : Nat) (s : State) : State :=
  let tag := fieldOf v 23 16
  let slot := v % 64
  if !bitOf v 31 then s
  else if s.bit R.PLATE_REQ_STATUS 31 then s.ev Ev.PLATE_REQ_DONE slot [3, tag]
  else
    let s := s.wr R.PLATE_REQ_STATUS (2 ^ 31 + 65536 * tag + 256 * p.code + slot)
    if !etcherSeen s then reqDone tag slot 7 s
    else if isEtcher s then plateAsk s.chip tag slot s
    else memberOrder [w32 (2 ^ 24 * 0x38 + 65536 * tag + slot), w32 (65536 * s.chip)] s

/-- PLATE_REQ row. -/
def execPlateReq (path : Path) (value : Word) (s : State) : Host.Outcome State Fault Refusal :=
  through path (.write R.PLATE_REQ value.toNat) s <| done (plateReq path value.toNat s)

/-- PLATE_ASK_RECEIVE (R394). -/
def execPlateAskReceive (chip : BitVec 14) (tag : Byte) (slot : BitVec 6) (s : State) : Host.Outcome State Fault Refusal :=
  done (plateAsk chip.toNat tag.toNat slot.toNat s)

/-- PLATE_ANSWER at the requesting package (R394, R395). -/
def plateAnswer (chip tag slot result : Nat) (s : State) : State :=
  if chip = s.chip ∧ s.bit R.PLATE_REQ_STATUS 31 ∧ s.fd R.PLATE_REQ_STATUS 23 16 = tag ∧ s.fd R.PLATE_REQ_STATUS 5 0 = slot then
    reqDone tag slot result s
  else s

/-- PLATE_ANSWER_RECEIVE (R395). -/
def execPlateAnswerReceive (chip : BitVec 14) (tag : Byte) (slot : BitVec 6) (result : BitVec 4) (s : State) :
    Host.Outcome State Fault Refusal :=
  done (plateAnswer chip.toNat tag.toNat slot.toNat result.toNat s)

/-- PLATE_REQ_TIMEOUT (R395). -/
def execPlateReqTimeout (s : State) : Host.Outcome State Fault Refusal :=
  if s.bit R.PLATE_REQ_STATUS 31 then done (reqDone (s.fd R.PLATE_REQ_STATUS 23 16) (s.fd R.PLATE_REQ_STATUS 5 0) 9 s) else done s

end Sys2Proof.Machine
end

