-- ==== Sys2Proof/Machine/Agree.lean ====
section
/-! DEFINITION. Cluster agreement (16): rows CRED_RECEIVE to DUP_CLEAR_EXPIRY, and the exchange's shared operations. -/

namespace Sys2Proof.Machine

/-! Notes to the Etcher (R433, R437) -/

/-- A chip's ports as the Etcher holds them: reported in QUARANTINE, and from bit 16 with PEER or CABLING. -/
def agPorts (s : State) (chip : Nat) : Nat := smGet (fun _ => (0 : Nat)) s.agree.ports chip

/-- Chips in the Etcher's list: quarantined members with their reasons, in ascending chip number (log 26). -/
def etchList (s : State) : State :=
  let q := s.agree.quar
  let full := decide (256 ≤ q.length)
  let s' := s.wr R.AGREE_ETCH_STATUS (2 ^ 31 * b2n (s.bit R.AGREE_ETCH_STATUS 31) + 2 ^ 30 * b2n full + 65536 * satN 16383 q.length
    + satN 16383 s.agree.dups.length)
  let s' := (List.range 256).foldl (fun t i =>
    match q[i]? with
    | some (c, r, _) => (t.wr (R.AGREE_ETCH_LIST i) (2 ^ 31 + 2 ^ 24 * r + c)).wr (R.AGREE_ETCH_LIST_W1 i) (agPorts s c % 65536)
    | none => (t.wr (R.AGREE_ETCH_LIST i) 0).wr (R.AGREE_ETCH_LIST_W1 i) 0) s'
  if full ∧ !s.bit R.AGREE_ETCH_STATUS 30 then s'.ev Ev.AGREE_LIST_FULL 0 [] else s'

/-- An AGREE_NOTE's payload: KIND, verdict, reason and port, the peer, DIFF and the peer's NONCE (Table 16.4). -/
def noteWords (s : State) (kind verdict reason port peer diff peerNonce : Nat) : List Word :=
  [w32 (2 ^ 24 * 0x3C + 2 ^ 23 * kind + 2 ^ 22 * b2n (s.bit R.GLB_STATE 5) + 2 ^ 20 * verdict + 2 ^ 16 * reason + 256 * port),
    w32 (65536 * peer + s.chip), w32 (s.rd R.AGREE_NONCE), w32 (65536 * 0x1608 + s.fd R.BOOT_IMAGE_ID 31 16)]
    ++ w64 (s.rd64 R.BOOT_PLATESET_LO) ++ w64 (s.rd64 R.BOOT_CLUSTER_LO) ++ [w32 diff, w32 peerNonce]

/-- AGREE_QUAR or AGREE_CLEAR from the Etcher (Table 16.4). -/
def agreeOrder (op chip nonce reason : Nat) (s : State) : State :=
  clusterOrder [w32 (2 ^ 24 * op + 65536 * reason + chip), w32 nonce] s

/-! A port's exchange (R426–R430; 12 R331) -/

/-- Send CRED again on a port in QUARANTINE: the exchange starts anew (R430). -/
def credRepeat (p : Nat) (s : State) : State :=
  if s.port p ≠ 3 then s
  else
    let s := s.uLk p fun L => { L with cred := none, ownV := (0, 0), peerV := none }
    lctl p 0x02 ((credFrame s p).map (·.toNat)) s

/-- The peer's chip and port the plate gives a port. -/
def peerOf (s : State) (p : Nat) : Nat × Nat := (s.fd (R.LNK_PEER p) 13 0, s.fd (R.LNK_PEER p) 19 16)

/-- The tests of Table 16.2 that a frame fails, by code, in order (R426); a tag mismatch forces the verdict first (18 R490). -/
def credTests (s : State) (p : Nat) (f : List Word) : List Nat :=
  let o := credFrame s p
  let a := pkW f 0
  let ext := fieldOf (s.curRec (0x050 + 16 * p)) 31 28 == 5
  let chip := a % 16384
  let peer := peerOf s p
  let known := s.agree.known.find? fun x => x.1 == chip
  let fails : List (Nat × Bool) := [
    (11, s.bit (R.AGREE_P_RESULT p) 15),
    (1, fieldOf a 31 28 != 1),
    (2, fieldOf (pkW f 1) 31 16 != 0x1608),
    (3, f.getD 8 0 != o.getD 8 0 || f.getD 9 0 != o.getD 9 0),
    (4, f.getD 6 0 != o.getD 6 0 || f.getD 7 0 != o.getD 7 0),
    (5, fieldOf (pkW f 2) 31 24 != fieldOf (pkW o 2) 31 24),
    (6, bitOf a 23 && !s.bit R.AGREE_POLICY 31),
    (7, chip == s.chip || (known.map (·.2)) == some 7),
    (8, chip != peer.1 || (!ext && pkW f 1 % 16 != peer.2)),
    (9, pkW f 3 != s.rd R.CL_EPOCH),
    (10, bitOf a 21 || (match known with
      | some x => x.2 != 7
      | none => false))]
  (fails.filter fun x => x.2 && (!ext || [1, 3, 8, 11].contains x.1)).map (·.1)

/-- DIFF (R427): bit r for a failed test of code 1–9, and the differences that are admitted and noted. -/
def credDiff (s : State) (p : Nat) (f : List Word) (fails : List Nat) : Nat :=
  let o := credFrame s p
  let notes : List (Nat × Bool) := [
    (10, fieldOf (pkW f 2) 23 16 != fieldOf (pkW o 2) 23 16),
    (11, fieldOf (pkW f 1) 15 8 != fieldOf (pkW o 1) 15 8),
    (12, f.getD 4 0 != o.getD 4 0 || f.getD 5 0 != o.getD 5 0),
    (13, fieldOf (pkW f 0) 18 16 == 4),
    (14, bitOf (pkW f 0) 22)]
  (fails.filter (· < 10)).foldl (fun d r => d + 2 ^ r) 0 + notes.foldl (fun d x => d + 2 ^ x.1 * b2n x.2) 0

/-- Every SELF and PORT note adds the NONCE it carries for a chip under DUP_CHIP (R434). -/
def dupHeard (chip nonce : Nat) (s : State) : State :=
  match s.agree.dups.find? (fun x => x.1 == chip) with
  | none => s
  | some x => s.uAgree fun g => { g with dups := smPut g.dups chip (nonce :: x.2.filter (· != nonce)) }

/-- The first fault reason of a port whose verdict is QUARANTINE: its own, or its peer's. -/
def portReason (s : State) (p : Nat) : Nat :=
  let r := s.fd (R.AGREE_P_RESULT p) 27 24
  if s.fd (R.AGREE_P_RESULT p) 29 28 = 2 ∧ r ≠ 0 then r else s.fd (R.AGREE_P_RESULT p) 23 20


/-! What AGREE_QUAR does at a package (R433, R434) -/

/-- The PORT note of a port whose verdict is taken (R433). -/
def portNoteWords (s : State) (p verdict reason : Nat) : List Word :=
  noteWords s 1 verdict reason p (s.fd (R.AGREE_P_PEER p) 13 0) (s.fd (R.AGREE_P_RESULT p) 14 0) (s.rd (R.AGREE_P_NONCE p))

/-- A verdict is counted. -/
def countVerdict (quar : Bool) (s : State) : State :=
  if quar then s.sat R.AGREE_CNT 31 16 1 else s.sat R.AGREE_CNT 15 0 1

/-- A port enters QUARANTINE: CRED_QUARANTINE with the reason and DIFF (R428). The note to the Etcher is `note`. -/
def portQuar (note : List Word → State → State) (p reason : Nat) (s : State) : State :=
  let s := countVerdict true ((portSet p 3 s).ev Ev.CRED_QUARANTINE p [reason, s.fd (R.AGREE_P_RESULT p) 14 0])
  note (portNoteWords s p 2 reason) s

/-- The standby keeps the Etcher's list as the orders it journals say (R437; 15 R408). -/
def standbyQuar (chip nonce reason : Nat) (s : State) : State :=
  if s.bit R.CL_STATUS 30 then
    s.uAgree fun g => { g with
      quar := smPut g.quar chip (reason, nonce), dups := if reason = 7 then smPut g.dups chip [] else g.dups }
  else s

/-- A package takes an AGREE_QUAR: the named package quarantines every port, a peer of it the port to it. -/
def memberQuar (note : List Word → State → State) (chip nonce reason : Nat) (s : State) : State :=
  let s := standbyQuar chip nonce reason s
  let s := s.uAgree fun g => { g with known := smPut g.known chip reason }
  let me := chip == s.chip && (reason == 7 || nonce == s.rd R.AGREE_NONCE)
  let s := if me then (s.fw R.AGREE_STATUS 31 31 1).fw R.AGREE_STATUS 27 24 reason else s
  let why := if reason = 7 then 7 else 10
  (List.range 16).foldl (fun s p =>
    if (s.port p == 4 || s.port p == 5) && (me || (bitOf (s.rd (R.LNK_PEER p)) 31 && (peerOf s p).1 == chip)) then
      let s := s.fw (R.AGREE_P_RESULT p) 29 28 2 |>.fw (R.AGREE_P_RESULT p) 27 24 why |>.fw (R.AGREE_P_RESULT p) 31 31 1
      portQuar note p why s
    else s) s

/-- A package takes an AGREE_CLEAR: the exchange repeats on the ports quarantined for that chip (R430). -/
def memberClear (chip : Nat) (s : State) : State :=
  let s := s.uAgree fun g => { g with known := smErase g.known chip }
  let s := if s.bit R.CL_STATUS 30 then s.uAgree fun g => { g with quar := smErase g.quar chip, dups := smErase g.dups chip } else s
  let me := chip == s.chip
  let s := if me then (s.fw R.AGREE_STATUS 31 31 0).fw R.AGREE_STATUS 27 24 0 else s
  (List.range 16).foldl (fun s p =>
    if (portReason s p == 7 || portReason s p == 10) && (me || (peerOf s p).1 == chip) then credRepeat p s else s) s

/-! The Etcher's judgement of notes (R433–R436) -/

/-- The identity fields of a SELF that differ from the Etcher's, as a mask by code of Table 16.2 (R433). DEDUCED: OPEN is compared
with the Etcher's own, as the other fields are (log 55). -/
def selfMask (s : State) (w : List Word) : Nat :=
  let o := noteWords s 0 0 0 0 0 0 0
  let d := fun (a : Nat) => w.getD a 0 != o.getD a 0
  4 * b2n (fieldOf (pkW w 3) 31 16 != 0x1608) + 8 * b2n (d 6 || d 7) + 16 * b2n (d 4 || d 5)
    + 32 * b2n (fieldOf (pkW w 3) 15 8 != fieldOf (pkW o 3) 15 8) + 64 * b2n (bitOf (pkW w 0) 22 != bitOf (pkW o 0) 22 && !s.bit R.AGREE_POLICY 31)

/-- A field in which more than half of the members whose SELF is held differ from the Etcher (R436). -/
def oddField (s : State) (r : Nat) : Bool :=
  let ms := s.agree.self_.filter fun x => (coordIn s s.curPlate x.1).isSome
  let own := if ms.any (fun x => x.1 == s.chip) then 0 else 1
  decide (ms.length + own < 2 * (ms.filter fun x => bitOf (smGet (fun _ => (0 : Nat)) s.agree.diffs x.1) r).length)

/-- ODD follows the fields (R436). -/
def oddCheck (s : State) : State :=
  match [2, 3, 4, 5, 6].find? (oddField s) with
  | some r => if s.bit R.AGREE_ETCH_STATUS 31 then s else (s.fw R.AGREE_ETCH_STATUS 31 31 1).ev Ev.AGREE_SELF_ODD 0 [r]
  | none => s.fw R.AGREE_ETCH_STATUS 31 31 0

/-- The Etcher quarantines a member: the list, the event, AGREE_QUAR, and a KIND 1 key at once (R433–R435). -/
def declareQuar (note : List Word → State → State) (event chip nonce reason : Nat) (s : State) : State :=
  let s := s.uAgree fun g => { g with quar := smPut g.quar chip (reason, nonce) }
  let s := agreeOrder 0x3D chip nonce reason (etchList (s.ev event 0 [chip]))
  memberKey chip (memberQuar note chip nonce reason s)

/-- A duplicate chip number at the Etcher (R434). -/
def dupDeclare (note : List Word → State → State) (chip : Nat) (s : State) : State :=
  if s.agree.dups.any (fun x => x.1 == chip) then s
  else declareQuar note Ev.CHIP_DUPLICATE chip 0 7 (s.uAgree fun g => { g with dups := smPut g.dups chip [] })

/-- A chip is cleared at the Etcher (R433, R434). -/
def clearMember (chip nonce reason : Nat) (s : State) : State :=
  let s := s.uAgree fun g => { g with quar := smErase g.quar chip, dups := smErase g.dups chip }
  memberClear chip (agreeOrder 0x3E chip nonce reason (etchList s))

/-- A SELF at the Etcher (R433, R434, R436). -/
def selfNoted (note : List Word → State → State) (w : List Word) (s : State) : State :=
  let chip := pkW w 1 % 16384
  let nonce := pkW w 2
  let before := s.agree.self_.find? fun x => x.1 == chip
  let dup := match before with
    | some x => x.2.1 != nonce && !x.2.2
    | none => false
  let mask := selfMask s w
  let s := s.uAgree fun g => { g with
    self_ := smPut g.self_ chip (nonce, false), diffs := smSet (fun _ => (0 : Nat)) g.diffs chip mask }
  let s := oddCheck (dupHeard chip nonce s)
  if dup then dupDeclare note chip s
  else
    match [2, 3, 4, 5, 6].find? (fun r => bitOf mask r && !oddField s r), s.agree.quar.find? (fun x => x.1 == chip) with
    | some r, some q => if q.2.1 = 7 ∨ q.2.2 = nonce then s else declareQuar note Ev.MEMBER_QUARANTINE chip nonce r s
    | some r, none => declareQuar note Ev.MEMBER_QUARANTINE chip nonce r s
    | none, some q =>
      if mask = 0 ∧ q.2.1 ≠ 7 ∧ q.2.2 ≠ nonce then
        (clearMember chip nonce q.2.1 s).ev Ev.MEMBER_CLEAR 0 [chip]
      else s
    | none, none => s

/-- A PORT note at the Etcher (R434, R435). -/
def portNoted (note : List Word → State → State) (w : List Word) (s : State) : State :=
  let chip := pkW w 1 % 16384
  let peer := fieldOf (pkW w 1) 29 16
  let peerNonce := pkW w 9
  let port := fieldOf (pkW w 0) 11 8
  let quar := decide (fieldOf (pkW w 0) 21 20 = 2)
  let reason := fieldOf (pkW w 0) 19 16
  let bad := quar && (reason == 8 || reason == 11)
  let dup := match s.agree.self_.find? fun x => x.1 == peer with
    | some x => peerNonce != 0 && x.2.1 != peerNonce && !x.2.2
    | none => false
  let m := fieldSet (fieldSet (agPorts s chip) port port (b2n quar)) (16 + port) (16 + port) (b2n bad)
  let was := bitOf (agPorts s chip) (16 + port)
  let s := s.uAgree fun g => { g with ports := smSet (fun _ => (0 : Nat)) g.ports chip m }
  let s := etchList (dupHeard peer peerNonce (dupHeard chip (pkW w 2) s))
  let s := if bad then addPairs chip (2 ^ port) s else if was ∧ !quar then clearPairs [(chip, port)] s else s
  if dup then dupDeclare note peer s else s

/-- The standby, to which a note is addressed too, keeps what it says (R437; 15 R408; log 155). -/
def standbyNoted (w : List Word) (s : State) : State :=
  let chip := pkW w 1 % 16384
  let port := fieldOf (pkW w 0) 11 8
  let quar := decide (fieldOf (pkW w 0) 21 20 = 2)
  let reason := fieldOf (pkW w 0) 19 16
  let bad := quar && (reason == 8 || reason == 11)
  if !s.bit R.CL_STATUS 30 then s
  else if !bitOf (pkW w 0) 23 then
    let mask := selfMask s w
    s.uAgree fun g => { g with
      self_ := smPut g.self_ chip (pkW w 2, false), diffs := smSet (fun _ => (0 : Nat)) g.diffs chip mask }
  else
    let m := fieldSet (fieldSet (agPorts s chip) port port (b2n quar)) (16 + port) (16 + port) (b2n bad)
    let was := bitOf (agPorts s chip) (16 + port)
    let s := s.uAgree fun g => { g with ports := smSet (fun _ => (0 : Nat)) g.ports chip m }
    if bad then standbyPairs chip (2 ^ port) [] s else if was ∧ !quar then standbyPairs chip 0 [(chip, port)] s else s

/-- An AGREE_NOTE at the Etcher, with what an answer of its own leads to. -/
def agreeNoteGo : Nat → List Word → State → State
  | 0 => fun _ s => s
  | n + 1 => fun w s =>
    if !isEtcher s then standbyNoted w s
    else if bitOf (pkW w 0) 23 then portNoted (fun w s => agreeNoteGo n w (memberOrder w s)) w s
    else selfNoted (fun w s => agreeNoteGo n w (memberOrder w s)) w s

/-- An AGREE_NOTE at the Etcher. A note of its own may follow from each of its sixteen ports. -/
def agreeNote : List Word → State → State := agreeNoteGo 4

/-- Send an AGREE_NOTE (R437); the Etcher takes its own at once. -/
def sendNote (w : List Word) (s : State) : State := agreeNote w (memberOrder w s)

/-- Send a SELF (R433). -/
def selfNote (s : State) : State := sendNote (noteWords s 0 0 0 0 0 0 0) s

/-- STATE_PULL to the Etcher with the ports quarantined for EPOCH (R431). -/
def sendPull (s : State) : State :=
  let ports := (List.range 16).foldl (fun a p => if s.port p = 3 ∧ portReason s p = 9 then a + 2 ^ p else a) 0
  memberOrder [w32 (2 ^ 24 * 0x3F), w32 (65536 * s.chip + ports)] (s.uAgree fun g => { g with pull := true })

/-- CL_EPOCH has changed (R430, R431, R433): a SELF once READY, and a new exchange on ports in QUARANTINE for EPOCH. -/
def epochAdopted (s : State) : State :=
  let s := s.uAgree fun g => { g with pull := false }
  let s := if s.top = 5 then selfNote s else s
  (List.range 16).foldl (fun s p => if portReason s p = 9 then credRepeat p s else s) s

/-- The port takes the more restrictive verdict once it holds both (R428). -/
def credTake (p : Nat) (s : State) : State :=
  let L := s.lk p
  match L.peerV with
  | none => s
  | some v =>
    if L.cred.isNone ∨ (s.port p ≠ 2 ∧ s.port p ≠ 3) then s
    else
      let own := L.ownV
      let was := s.port p
      let wasReason := portReason s p
      let diff := s.fd (R.AGREE_P_RESULT p) 14 0
      let s := s.fw (R.AGREE_P_RESULT p) 23 20 v.2
      let s := s.uLk p fun L => { L with cred := none, ownV := (0, 0), peerV := none }
      if own.1 = 1 ∧ v.1 = 1 then
        let s := countVerdict false (enterUp p s)
        let s := if diff ≠ 0 then s.ev Ev.CRED_NOTED p [] else s
        sendNote (portNoteWords s p 1 0) s
      else
        let reason := if own.1 = 2 then own.2 else v.2
        if was = 3 ∧ wasReason = reason then countVerdict true s else portQuar sendNote p reason s

/-! Rows -/

/-- CRED_RECEIVE (R425–R427, R431, R434). -/
def execCredReceive (p : Fin 16) (frame : List Word) (s : State) : Host.Outcome State Fault Refusal :=
  let crc := w32 (crc32 (dwBytes (frame.take 11)))
  if frame.length ≠ 12 ∨ frame.getD 11 0 ≠ crc ∨ (s.port p ≠ 2 ∧ s.port p ≠ 3) then done s
  else
    let seen := (s.lk p).cred == some frame
    let fails := credTests s p frame
    let reason := fails.headD 0
    let verdict := if reason = 0 then 1 else 2
    let a := pkW frame 0
    let chip := a % 16384
    let s := s.wr (R.AGREE_P_RESULT p) (2 ^ 31 + 2 ^ 28 * verdict + 2 ^ 24 * reason
      + 2 ^ 20 * s.fd (R.AGREE_P_RESULT p) 23 20 + 2 ^ 15 * b2n (s.bit (R.AGREE_P_RESULT p) 15) + credDiff s p frame fails)
    let s := s.wr (R.AGREE_P_PEER p) (2 ^ 31 * b2n (bitOf a 23) + 2 ^ 30 * b2n (bitOf a 22) + 2 ^ 24 * fieldOf a 18 16
      + 65536 * (pkW frame 1 % 16) + chip)
    let s := s.wr (R.AGREE_P_VER p) (fieldOf (pkW frame 2) 31 16 * 65536 + fieldOf (pkW frame 1) 15 8 * 256)
    let s := (s.wr (R.AGREE_P_EPOCH p) (pkW frame 3)).wr (R.AGREE_P_IMG_LO p) (pkW frame 4)
    let s := (s.wr (R.AGREE_P_IMG_HI p) (pkW frame 5)).wr (R.AGREE_P_NONCE p) (pkW frame 10)
    let s := s.uLk p fun L => { L with cred := some frame, ownV := (verdict, reason) }
    let s := lctl p 0x03 [crc.toNat, 2 ^ 28 * verdict + 2 ^ 24 * reason] s
    let s := if s.port p = 3 ∧ !seen ∧ (s.lk p).peerV.isNone then lctl p 0x02 ((credFrame s p).map (·.toNat)) s else s
    let s := if chip = s.chip ∧ !seen then s.ev Ev.CHIP_DUPLICATE 0 [chip] else s
    let s := credTake p s
    done (if reason = 9 ∧ !seen ∧ s.rd R.CL_EPOCH < pkW frame 3 then sendPull s else s)

/-- CRED_ACK_RECEIVE (R425, R428): a digest of another frame is not an acknowledgement of the own one. -/
def execCredAckReceive (p : Fin 16) (d0 d1 : Word) (s : State) : Host.Outcome State Fault Refusal :=
  if (s.port p ≠ 2 ∧ s.port p ≠ 3) ∨ (credFrame s p).getLast? ≠ some d0 then done s
  else
    let v := (fieldOf d1.toNat 29 28, fieldOf d1.toNat 27 24)
    done (credTake p (s.uLk p fun L => { L with peerV := some v }))

/-- The Etcher answers STATE_PULL with its last LEASE and PLATE_STATE (R431). -/
def statePull (s : State) : State :=
  if !isEtcher s then s
  else
    let send := fun (f : Option (List Word)) (s : State) => match f with
      | some f => clTransport f s
      | none => s
    send s.cl.lastState (send s.cl.lastLease s)

/-- STATE_PULL row. -/
def execStatePull (_chip : BitVec 14) (_ports : BitVec 16) (s : State) : Host.Outcome State Fault Refusal := done (statePull s)

/-- STATE_PULL_RETRY (R431). -/
def execStatePullRetry (s : State) : Host.Outcome State Fault Refusal := done (if s.agree.pull then sendPull s else s)

/-- AGREE_SELF_TIMER (R433). -/
def execAgreeSelfTimer (s : State) : Host.Outcome State Fault Refusal := done (if s.bit R.AGREE_STATUS 31 then selfNote s else s)

/-- AGREE_NOTE_RECEIVE (R433–R436). -/
def execAgreeNoteReceive (words : List Word) (s : State) : Host.Outcome State Fault Refusal := done (agreeNote words s)

/-- AGREE_QUAR_RECEIVE (R433, R434). -/
def execAgreeQuarReceive (chip : BitVec 14) (nonce : Word) (reason : BitVec 4) (s : State) : Host.Outcome State Fault Refusal :=
  done (memberQuar sendNote chip.toNat nonce.toNat reason.toNat s)

/-- AGREE_CLEAR_RECEIVE (R430). -/
def execAgreeClearReceive (chip : BitVec 14) (_nonce : Word) (_reason : BitVec 4) (s : State) : Host.Outcome State Fault Refusal :=
  done (memberClear chip.toNat s)

/-- DUP_CLEAR_EXPIRY (R434): a period with one NONCE clears the chip; otherwise another period begins. -/
def execDupClearExpiry (chip : BitVec 14) (s : State) : Host.Outcome State Fault Refusal :=
  let c := chip.toNat
  match s.agree.dups.find? (fun x => x.1 == c) with
  | none => done s
  | some x =>
    if !isEtcher s then done s
    else if x.2.length ≤ 1 then
      let s := s.uAgree fun g => { g with self_ := match x.2 with
        | [n] => smPut g.self_ c (n, false)
        | _ => g.self_ }
      done (clearMember c 0 7 s)
    else done (s.uAgree fun g => { g with dups := smPut g.dups c [] })

end Sys2Proof.Machine
end

