-- ==== Sys2Proof/Machine/Hallmark.lean ====
section
/-! DEFINITION. The Hallmark bus (18): presence, the tag search by triplets, verdicts and what they do. Rows HMK_PRESENCE_RESET,
HMK_CMD, HMK_PERIOD_SEARCH, SEARCH_PASS, HMK_RETRY_TIMER. -/

namespace Sys2Proof.Machine

/-- A port's bus. -/
def hp (s : State) (p : Nat) : HmkPort := s.hmk.getD p ⟨none, 0, false⟩

/-- Change a port's bus. -/
def uHp (p : Nat) (f : HmkPort → HmkPort) (s : State) : State := s.uHmk fun l => setAt ⟨none, 0, false⟩ l p (f (l.getD p ⟨none, 0, false⟩))

/-- One bit into the CRC-8 of polynomial 0x07. -/
def crc8Bit (c : Nat) (b : Bool) : Nat := if bitOf c 7 != b then xorN (2 * c % 256) 7 else 2 * c % 256

/-- CRC-8 over the n bytes of a number, least significant byte first, each most significant bit first (R475). -/
def crc8 (n v : Nat) : Nat :=
  (List.range n).foldl (fun c i => (List.range 8).foldl (fun c j => crc8Bit c (bitOf v (8 * i + 7 - j))) c) 0

/-- A tag ID is valid. -/
def idValid (id : Nat) : Bool := crc8 8 id == 0

/-- KIND of a port's cabling entry (R487). -/
def mapKind (s : State) (p : Nat) : Nat := s.fd (R.HMK_P_MAP p) 31 30

/-- VERDICT of a port (Table 18.5). -/
def hmkVerdict (s : State) (p : Nat) : Nat := s.fd (R.HMK_P_STATUS p) 31 28

/-- The bus's logic runs (05 Table 5.1). -/
def hmkOn (s : State) : Bool := s.domUp 0xA7

/-- A search starts, unless one is running (R482). -/
def hmkSearch (p : Nat) (s : State) : State :=
  if (hp s p).search.isSome then s
  else
    let s := uHp p (fun h => { h with search := some ⟨[], none, 0, none, 0, true⟩, retry := false }) (drive [.hmk (Fin.ofNat 16 p)] s)
    let s := ((s.fw (R.HMK_P_STATUS p) 27 27 1).fw (R.HMK_P_STATUS p) 11 8 0).fw R.HMK_STATUS p p 1
    s.sat (R.HMK_P_CNT p) 31 16 1

/-- A search is over. -/
def hmkIdle (p : Nat) (s : State) : State :=
  ((uHp p (fun h => { h with search := none }) s).fw (R.HMK_P_STATUS p) 27 27 0).fw R.HMK_STATUS p p 0

/-- MISMATCH on a port that is not shut: its credential verdict is QUARANTINE with reason CABLING (R490). -/
def cablingQuar (p : Nat) (s : State) : State :=
  if s.bit R.LAS_SHUT p then s
  else
    let s := (s.fw (R.AGREE_P_RESULT p) 15 15 1).fw (R.AGREE_P_RESULT p) 31 31 1
    let s := (s.fw (R.AGREE_P_RESULT p) 29 28 2).fw (R.AGREE_P_RESULT p) 27 24 11
    let s := s.uLk p fun L => if L.cred.isSome then { L with ownV := (2, 11) } else L
    if s.port p = 4 ∨ s.port p = 5 then portQuar sendNote p 11 s else s

/-- MATCH: the tag cause of a shut clears, a port shut for it alone restores (11 R310); a port that waits for its tags trains
(R490). -/
def tagGood (p : Nat) (s : State) : State :=
  if s.bit R.LAS_SHUT p then shutClear p 0 s
  else if s.port p = 6 ∧ bitOf (s.rd (R.LNK_PEER p)) 31 then tryTrain p s
  else s

/-- A verdict is set and acts (R490). MATCH clears CABLING, whatever verdicts stood between MISMATCH and it (log 90). -/
def hmkSet (p v : Nat) (s : State) : State :=
  let old := hmkVerdict s p
  let s := s.fw (R.HMK_P_STATUS p) 31 28 v
  match v with
  | 1 =>
    let s := s.fw (R.AGREE_P_RESULT p) 15 15 0
    let s := if old = 3 ∨ old = 6 then credRepeat p s else s
    if old = 1 then s else tagGood p s
  | 3 => if old = 3 then s else cablingQuar p s
  | 4 => portShut p 0 s
  | _ => s

/-- Write the IDs found of the last search, in the order found. -/
def hmkIds (p : Nat) (ids : List Word64) (s : State) : State :=
  (List.range 4).foldl (fun s k => s.wr64 (R.HMK_P_ID_LO p k) (ids.getD k 0).toNat) s

/-- Presence is lost (R481). -/
def hmkLost (p : Nat) (s : State) : State :=
  let was := s.bit (R.HMK_P_STATUS p) 26
  let s := (s.fw (R.HMK_P_STATUS p) 26 26 0).fw R.HMK_STATUS (16 + p) (16 + p) 0
  let s := hmkIds p [] (s.fw (R.HMK_P_STATUS p) 18 16 0)
  let s := if was then s.ev Ev.HMK_REMOVED p [] else s
  hmkSet p (if mapKind s p = 0 then 5 else 4) s

/-- One presence sample (R480, R481). -/
def hmkSample (p : Nat) (seen : Bool) (s : State) : State :=
  if seen then
    ((uHp p (fun h => { h with empty := 0 }) s).fw (R.HMK_P_STATUS p) 26 26 1).fw R.HMK_STATUS (16 + p) (16 + p) 1
  else
    let n := satN 2 ((hp s p).empty + 1)
    let lost := n = 2 ∧ (hp s p).empty = 1
    let s := uHp p (fun h => { h with empty := n }) s
    if lost then hmkLost p s else s

/-- The search is abandoned at its eighth restart (R485). -/
def hmkAbandon (p : Nat) (s : State) : State :=
  let s := ((hmkIdle p s).sat (R.HMK_P_CNT p) 15 0 1).ev Ev.HMK_UNSTABLE p []
  let s := uHp p (fun h => { h with retry := true }) s
  if (hmkVerdict s p = 0 ∨ hmkVerdict s p = 4) ∧ s.bit (R.HMK_P_STATUS p) 26 then hmkSet p 6 s else s

/-- A restart (R484): a new first round, or the end of the search at the eighth. -/
def hmkRestart (p cause : Nat) (s : State) : State :=
  let n := match (hp s p).search with
    | some x => x.restarts + 1
    | none => 1
  let s := (s.fw (R.HMK_P_STATUS p) 11 8 n).fw (R.HMK_P_STATUS p) 3 0 cause
  if 8 ≤ n then hmkAbandon p s else uHp p (fun h => { h with search := some ⟨[], none, 0, none, n, true⟩ }) s

/-- A search ends with a found set (R489). -/
def hmkEnd (p : Nat) (ids : List Word64) (many : Bool) (s : State) : State :=
  let tag := s.rd64 (R.HMK_P_EXP_LO p)
  let alt := s.rd64 (R.HMK_P_ALT_LO p)
  let only := match ids with
    | [x] => if many then none else some x.toNat
    | _ => none
  let v := if only = some tag ∧ (mapKind s p = 1 ∨ mapKind s p = 2) then 1
    else if only = some alt ∧ alt ≠ 0 then 2 else 3
  let s := hmkIds p ids ((hmkIdle p s).fw (R.HMK_P_STATUS p) 18 16 ids.length)
  hmkSet p v (s.ev Ev.HMK_VERDICT p [v, ids.length])

/-- A round ends (R483): the second of two that agree ends the search. -/
def hmkRound (p : Nat) (ids : List Word64) (many : Bool) (s : State) : State :=
  match (hp s p).search with
  | none => s
  | some x =>
    match x.last with
    | none => uHp p (fun h => { h with search := some { x with ids := [], fork := none, prev := 0, last := some (ids, many), fresh := false } }) s
    | some l =>
      let same := (many && l.2) || (many == l.2 && ids.length == l.1.length && ids.all fun i => l.1.contains i)
      if same then hmkEnd p ids many s else hmkRestart p 6 s

/-- What one pass of 64 triplets finds: the ID and its last fork where 0 was taken, none at an impossible pair (R479, R483). -/
def tripletGo (prev : Nat) (forkLast : Option Nat) : Nat → Nat → List Nat → Nat → Option Nat → Option (Nat × Option Nat)
  | 0, _, _, id, fork => some (id, fork)
  | n + 1, b, active, id, fork =>
    let ones := active.filter fun t => bitOf t b
    let zeros := active.filter fun t => !bitOf t b
    if active.isEmpty then none
    else
      let clash := !ones.isEmpty && !zeros.isEmpty
      let bit := if !clash then !ones.isEmpty
        else match forkLast with
          | none => false
          | some f => if b < f then bitOf prev b else b == f
      tripletGo prev forkLast n (b + 1) (if bit then ones else zeros) (id + 2 ^ b * b2n bit)
        (if clash && !bit then some b else fork)

/-- One pass after a RESET with presence. -/
def hmkPass (p : Nat) (tags : List Word64) (s : State) : State :=
  match (hp s p).search with
  | none => s
  | some x =>
    match tripletGo x.prev.toNat x.fork 64 0 (tags.map (·.toNat)) 0 none with
    | none => hmkRestart p 1 (hmkSample p false s)
    | some (id, fork) =>
      let w := BitVec.ofNat 64 id
      if !idValid id then hmkRestart p 4 s
      else if x.ids.contains w then hmkRestart p 5 s
      else
        let ids := x.ids ++ [w]
        if fork.isNone ∨ 4 ≤ ids.length then hmkRound p ids fork.isSome s
        else uHp p (fun h => { h with search := some { x with ids := ids, fork := fork, prev := w, fresh := false } }) s

/-! Rows -/

/-- HMK_PRESENCE_RESET (R480, R481): a RESET outside a search. -/
def execHmkPresenceReset (p : Fin 16) (seen : Presence) (s : State) : Host.Outcome State Fault Refusal :=
  if !hmkOn s ∨ (hp s p).search.isSome then done s
  else match seen with
    | .none => done (hmkSample p false s)
    | .short => done (hmkSample p true s)
    | .long => done (hmkSearch p ((hmkSample p true s).ev Ev.HMK_ATTACH p []))

/-- A write of HMK_CMD (R482, R491). -/
def hmkCommand (v : Nat) (s : State) : State :=
  if bitOf v 31 then (List.range 16).foldl (fun s p => if bitOf v p then hmkSearch p s else s) s else s

/-- HMK_CMD. -/
def execHmkCmd (path : Path) (value : Word) (s : State) : Host.Outcome State Fault Refusal :=
  through path (.write R.HMK_CMD value.toNat) s <|
  done (if hmkOn s then hmkCommand value.toNat s else s)

/-- HMK_PERIOD_SEARCH (R482); PERIOD 0 is off. -/
def execHmkPeriodSearch (s : State) : Host.Outcome State Fault Refusal :=
  done (if hmkOn s ∧ s.fd R.HMK_CFG 7 0 ≠ 0 then (List.range 16).foldl (fun s p => hmkSearch p s) s else s)

/-- SEARCH_PASS (R479, R483, R484). -/
def execSearchPass (p : Fin 16) (seen : Presence) (tags : List Word64) (s : State) : Host.Outcome State Fault Refusal :=
  match (hp s p).search with
  | none => done s
  | some x =>
    if !hmkOn s then done s
    else match seen with
      | .none => done (hmkRestart p 3 (hmkSample p false s))
      | .short => done (hmkPass p tags (hmkSample p true s))
      | .long =>
        if x.fresh then done (hmkPass p tags (hmkSample p true s))
        else done (hmkRestart p 2 (hmkSample p true s))

/-- HMK_RETRY_TIMER (R485): one second after an abandoned search. -/
def execHmkRetryTimer (p : Fin 16) (s : State) : Host.Outcome State Fault Refusal :=
  done (if hmkOn s ∧ (hp s p).retry then hmkSearch p s else s)

end Sys2Proof.Machine
end

