-- ==== Sys2Proof/Machine/Arith.lean ====
section
/-! DEFINITION. The number formats of the Graver clusters (19 R502–R505): exact dyadic values, FP32 rounding, MX elements and
scales, conversion out of FP32, and the arithmetic of matrix, vector and reduce tickets (20 R529–R531). -/

namespace Sys2Proof.Machine

/-- A value: NaN, an infinity by sign, or ± m × 2^e exactly. -/
inductive Num where
  | nan
  | inf (neg : Bool)
  | fin (neg : Bool) (m : Nat) (e : Int)
  deriving DecidableEq, Repr

/-- A power of two, for a non-negative exponent. -/
def pow2 (e : Int) : Nat := 2 ^ e.toNat

/-! FP32 -/

/-- Round m × 2^e to a multiple of 2^q, ties to even, as that multiple's count (19 R504). -/
def roundAt (m : Nat) (e q : Int) : Nat :=
  if q ≤ e then m * pow2 (e - q)
  else
    let d := pow2 (q - e)
    let n := m / d
    let r := m % d
    if d < 2 * r ∨ (d = 2 * r ∧ n % 2 = 1) then n + 1 else n

/-- The code of m × 2^e in a format of `mb` mantissa bits whose least step is 2^qmin, to nearest even, without its sign. -/
def encodeMag (mb : Nat) (qmin : Int) (m : Nat) (e : Int) : Nat :=
  if m = 0 then 0
  else
    let q := max ((Nat.log2 m : Int) + e - mb) qmin
    (q - qmin).toNat * 2 ^ mb + roundAt m e q

/-- Sign bit of a word of n bits. -/
def signBit (n : Nat) (neg : Bool) : Nat := 2 ^ (n - 1) * b2n neg

/-- Some NaN of FP32 with the fraction and sign of a word. -/
def forceNaN (w : BitVec 32) : BitVec 32 :=
  let f := w.toNat % 2 ^ 23
  BitVec.ofNat 32 (signBit 32 (bitOf w.toNat 31) + 0x7F800000 + (if f = 0 then 1 else f))

/-- FP32 of a value, to nearest even; overflow gives an infinity; the bits of a NaN are `nan` (19 R504). -/
def toF32 (nan : BitVec 32) : Num → BitVec 32
  | .nan => forceNaN nan
  | .inf n => BitVec.ofNat 32 (signBit 32 n + 0x7F800000)
  | .fin n m e => BitVec.ofNat 32 (signBit 32 n + min 0x7F800000 (encodeMag 23 (-149) m e))

/-- The value of a code with `eb` exponent bits, `mb` mantissa bits and least step 2^qmin, specials apart. -/
def decodeMag (neg : Bool) (mb : Nat) (qmin : Int) (code : Nat) : Num :=
  let x := code / 2 ^ mb
  let f := code % 2 ^ mb
  if x = 0 then .fin neg f qmin else .fin neg (2 ^ mb + f) (qmin + x - 1)

/-- The value of an FP32 word. -/
def ofF32 (w : BitVec 32) : Num :=
  let v := w.toNat
  let neg := bitOf v 31
  let c := v % 2 ^ 31
  if c = 0x7F800000 then .inf neg else if 0x7F800000 < c then .nan else decodeMag neg 23 (-149) c

/-! Exact arithmetic -/

/-- A finite value as a signed integer and an exponent. -/
def intOf (neg : Bool) (m : Nat) : Int := if neg then -(m : Int) else m

/-- The exact sum of two finite values; an exact zero is +0 (19 R504). -/
def finAdd (n1 : Bool) (m1 : Nat) (e1 : Int) (n2 : Bool) (m2 : Nat) (e2 : Int) : Num :=
  let e := min e1 e2
  let x := intOf n1 m1 * pow2 (e1 - e) + intOf n2 m2 * pow2 (e2 - e)
  .fin (decide (x < 0)) x.natAbs e

/-- The exact sum. -/
def numAdd : Num → Num → Num
  | .nan, _ => .nan
  | _, .nan => .nan
  | .inf a, .inf b => if a = b then .inf a else .nan
  | .inf a, .fin _ _ _ => .inf a
  | .fin _ _ _, .inf b => .inf b
  | .fin n1 m1 e1, .fin n2 m2 e2 =>
    if m1 = 0 ∧ m2 = 0 ∧ n1 = true ∧ n2 = true then .fin true 0 0 else finAdd n1 m1 e1 n2 m2 e2

/-- The exact product. -/
def numMul : Num → Num → Num
  | .nan, _ => .nan
  | _, .nan => .nan
  | .inf a, .inf b => .inf (a != b)
  | .inf a, .fin n m _ => if m = 0 then .nan else .inf (a != n)
  | .fin n m _, .inf b => if m = 0 then .nan else .inf (n != b)
  | .fin n1 m1 e1, .fin n2 m2 e2 => .fin (n1 != n2) (m1 * m2) (e1 + e2)

/-- A value times a power of two. -/
def numScale (x : Num) (k : Int) : Num :=
  match x with
  | .fin n m e => .fin n m (e + k)
  | y => y

/-- Whether a value is zero. -/
def numZero : Num → Bool
  | .fin _ m _ => m == 0
  | _ => false

/-- The first value is at most the second, both numbers. -/
def numLe : Num → Num → Bool
  | .inf n, y => n || y == .inf false
  | x, .inf n => !n || x == .inf true
  | .fin n1 m1 e1, .fin n2 m2 e2 =>
    let e := min e1 e2
    decide (intOf n1 m1 * pow2 (e1 - e) ≤ intOf n2 m2 * pow2 (e2 - e))
  | _, _ => false

/-! Formats (19 Table 19.2; codes of 20 R528) -/

/-- Bits of an element; 0 for a reserved code. -/
def fmtBits (f : Nat) : Nat := [32, 16, 4, 8, 8, 8, 4].getD f 0

/-- A format with a scale plane. -/
def fmtMx (f : Nat) : Bool := decide (2 ≤ f) && decide (f ≤ 6)

/-- Bytes of n elements. -/
def fmtBytes (f n : Nat) : Nat := (n * fmtBits f + 7) / 8

/-- The value of an element's code. -/
def elemVal (f code : Nat) : Num :=
  match f with
  | 0 => ofF32 (BitVec.ofNat 32 code)
  | 1 => ofF32 (BitVec.ofNat 32 (65536 * code))
  | 2 => decodeMag (bitOf code 3) 1 (-1) (code % 8)
  | 3 => if code % 128 = 127 then .nan else decodeMag (bitOf code 7) 3 (-9) (code % 128)
  | 4 => let c := code % 128
    if c = 124 then .inf (bitOf code 7) else if 124 < c then .nan else decodeMag (bitOf code 7) 2 (-16) c
  | 5 => let x := sgn 8 code
    .fin (decide (x < 0)) x.natAbs (-6)
  | _ => let x := sgn 4 code
    .fin (decide (x < 0)) x.natAbs 0

/-- The value of an E8M0 scale code: its exponent, none for NaN. -/
def scaleExp (c : Nat) : Option Int := if c = 255 then none else some ((c : Int) - 127)

/-- A scaled element. -/
def scaled (x : Num) (c : Nat) : Num :=
  match scaleExp c with
  | some k => numScale x k
  | none => .nan

/-- Element i of an element plane (R503). -/
def elemCode (f : Nat) (bs : List (BitVec 8)) (i : Nat) : Nat :=
  if fmtBits f = 4 then ((bs.getD (i / 2) 0).toNat >>> (4 * (i % 2))) % 16
  else bytesToNat ((bs.drop (i * fmtBits f / 8)).take (fmtBits f / 8))

/-- Element i of an operand as a value: its element plane and scale plane (R503). -/
def operandVal (f : Nat) (el sc : List (BitVec 8)) (i : Nat) : Num :=
  let x := elemVal f (elemCode f el i)
  if fmtMx f then scaled x (sc.getD (i / 32) 0).toNat else x

/-- Element i of an operand as FP32. -/
def operandF32 (f : Nat) (el sc : List (BitVec 8)) (i : Nat) : BitVec 32 :=
  if f = 0 then BitVec.ofNat 32 (elemCode f el i)
  else
    let c := BitVec.ofNat 32 (elemCode f el i)
    toF32 (Config.opBits 0 [BitVec.ofNat 32 f, c, BitVec.ofNat 32 (sc.getD (i / 32) 0).toNat]) (operandVal f el sc i)

/-! Matrix tickets (R504; 20 R529) -/

/-- The exact sum of products of a block's elements. -/
def dotSum : List Num → List Num → Num
  | a :: as, b :: bs => numAdd (numMul a b) (dotSum as bs)
  | _, _ => .fin false 0 0

/-- Add one block's contribution, rounded to FP32, to the accumulator, rounded again (R504). The sign of a zero sum is +. -/
def accBlock (acc : BitVec 32) (sum : Num) : BitVec 32 :=
  let c := toF32 (Config.opBits 1 [acc]) sum
  let r := toF32 (Config.opBits 2 [acc, c]) (numAdd (ofF32 acc) (ofF32 c))
  if r = 0x80000000 then 0 else r

/-- One output element: blocks of 32 along K in ascending order (R504). -/
def dotBlocks (va vb : Nat → Num) (sa sb : Nat → Option Int) : Nat → Nat → BitVec 32 → BitVec 32
  | 0, _, acc => acc
  | n + 1, j, acc =>
    let ks := (List.range 32).map (· + 32 * j)
    let sum := dotSum (ks.map va) (ks.map vb)
    let c := match sa j, sb j with
      | some x, some y => numScale sum (x + y)
      | _, _ => .nan
    dotBlocks va vb sa sb n (j + 1) (accBlock acc c)

/-- The scale of block j of an operand from element position `base` on. -/
def blockScale (f : Nat) (sc : List (BitVec 8)) (base j : Nat) : Option Int :=
  if fmtMx f then scaleExp (sc.getD (base / 32 + j) 0).toNat else some 0

/-- C = A × B + C0 as M × N FP32 words, row by row (20 R529). -/
def matrixWords (fa fb m n k : Nat) (ae asc be bsc : List (BitVec 8)) (c0 : Nat → BitVec 32) : List (BitVec 32) :=
  (List.range (m * n)).map fun i =>
    let r := i / n * k
    let c := i % n * k
    dotBlocks (fun t => elemVal fa (elemCode fa ae (r + t))) (fun t => elemVal fb (elemCode fb be (c + t)))
      (blockScale fa asc r) (blockScale fb bsc c) (k / 32) 0 (c0 i)

/-- MACs per cycle as q of 20 R529, none where the formats form no pair of Table 19.3. -/
def pairQ (a b : Nat) : Option Nat :=
  let fp := fun f => f == 2 || f == 3 || f == 4
  let int := fun f => f == 5 || f == 6
  if (a = 2 ∧ b = 2) ∨ (a = 6 ∧ b = 6) then some 1
  else if (fp a && fp b) || (int a && int b) then some 2
  else if a = 1 ∧ b = 1 then some 4
  else none

/-! Vector tickets (20 Table 20.4) -/

/-- The larger of two FP32 words; NaN and zeros of two signs are left open. -/
def maxF32 (op : Nat) (a b : BitVec 32) : BitVec 32 :=
  let x := ofF32 a
  let y := ofF32 b
  if x = .nan ∨ y = .nan then Config.opBits op [a, b]
  else if numZero x ∧ numZero y ∧ a ≠ b then BitVec.ofNat 32 (signBit 32 (bitOf (Config.opBits op [a, b]).toNat 31))
  else if numLe x y then b else a

/-- FP32 addition. -/
def addF32 (a b : BitVec 32) : BitVec 32 := toF32 (Config.opBits 3 [a, b]) (numAdd (ofF32 a) (ofF32 b))

/-- FP32 multiplication. -/
def mulF32 (a b : BitVec 32) : BitVec 32 := toF32 (Config.opBits 4 [a, b]) (numMul (ofF32 a) (ofF32 b))

/-- A × S + T: rounded once or twice, which the spec does not say; open where the two differ (log 32). -/
def scaleF32 (a s t : BitVec 32) : BitVec 32 :=
  let once := toF32 (Config.opBits 5 [a, s, t]) (numAdd (numMul (ofF32 a) (ofF32 s)) (ofF32 t))
  let twice := addF32 (mulF32 a s) t
  if ofF32 once = .nan then once else if once = twice then once
  else if bitOf (Config.opBits 6 [a, s, t]).toNat 0 then once else twice

/-! EXP, SILU and RSQRT, within 2 ulp of the exact result (20 R530). A value v ≥ 0 is held as the whole part of 2^320 v, with whether
anything is left over. -/

/-- The scale of these values. -/
def fixOne : Nat := 2 ^ 320

/-- The terms of the exponential series from the k-th on. -/
def expTerms (x : Nat) : Nat → Nat → Nat → Nat
  | 0, _, _ => 0
  | n + 1, k, t => t + expTerms x n (k + 1) (t * x / (k * fixOne))

/-- Square n times. -/
def fixSquares : Nat → Nat → Nat
  | 0, y => y
  | n + 1, y => fixSquares n (y * y / fixOne)

/-- e^v of a value below 128, to about 290 bits. -/
def fixExp (v : Nat) : Nat := fixSquares 8 (expTerms (v / 256) 64 1 fixOne)

/-- The whole square root of x, by its bits below 2^n. -/
def sqrtGo (x : Nat) : Nat → Nat → Nat
  | 0, v => v
  | n + 1, v => sqrtGo x n (if (v + 2 ^ n) * (v + 2 ^ n) ≤ x then v + 2 ^ n else v)

/-- The FP32 code at or next below a value, and whether the value is that code's. -/
def fixCode (v : Nat) (more : Bool) : Nat × Bool :=
  let q := max (Nat.log2 v - 23) 171
  ((q - 171) * 2 ^ 23 + v / 2 ^ q, v % 2 ^ q == 0 && !more)

/-- A result within 2 ulp of a signed exact value, which of them the free bits say; overflow gives an infinity. -/
def nearF32 (free : BitVec 32) (neg : Bool) (v : Nat) (more : Bool) : BitVec 32 :=
  let c := fixCode v more
  if 0x7F800000 ≤ c.1 then BitVec.ofNat 32 (signBit 32 neg + 0x7F800000)
  else
    let p : Int := if neg then (if c.2 then -(c.1 : Int) else -(c.1 : Int) - 1) else c.1
    let d : Int := if c.2 then (free.toNat % 5 : Nat) - 2 else (free.toNat % 4 : Nat) - 1
    let r := clampI (-0x7F800000) 0x7F800000 (p + d)
    let sign := if r = 0 then bitOf free.toNat 31 else decide (r < 0)
    BitVec.ofNat 32 (signBit 32 sign + r.natAbs)

/-- e^A; of an infinity or a NaN the result is free. -/
def expF32 (a : BitVec 32) : BitVec 32 :=
  let free := Config.fnBits 5 a
  match ofF32 a with
  | .fin neg m e =>
    let v := m * pow2 (e + 320)
    if 128 * fixOne ≤ v then nearF32 free false (if neg then 0 else 2 ^ 460) true
    else if neg then nearF32 free false (fixOne * fixOne / fixExp v) (m != 0)
    else nearF32 free false (fixExp v) (m != 0)
  | _ => free

/-- A / (1 + e^−A); of an infinity or a NaN the result is free. -/
def siluF32 (a : BitVec 32) : BitVec 32 :=
  let free := Config.fnBits 6 a
  match ofF32 a with
  | .fin neg m e =>
    let v := m * pow2 (e + 320)
    if m = 0 then nearF32 free false 0 false
    else if 128 * fixOne ≤ v then nearF32 free neg (if neg then 0 else v - 1) true
    else
      let x := fixExp v
      nearF32 free neg (v * (if neg then fixOne else x) / (x + fixOne)) true
  | _ => free

/-- 1 / √A; of a value that is not above zero, an infinity or a NaN the result is free. -/
def rsqrtF32 (a : BitVec 32) : BitVec 32 :=
  let free := Config.fnBits 7 a
  match ofF32 a with
  | .fin false m e =>
    if m = 0 then free
    else
      let x := pow2 (640 - e) / m
      let v := sqrtGo x 400 0
      nearF32 free false v (v * v * m != pow2 (640 - e))
  | _ => free

/-- One element of a vector ticket. -/
def vectorF32 (op : Nat) (a b s t : BitVec 32) : BitVec 32 :=
  match op with
  | 0 => addF32 a b
  | 1 => mulF32 a b
  | 2 => scaleF32 a s t
  | 3 => maxF32 7 a b
  | 4 => maxF32 8 a 0
  | 5 => expF32 a
  | 6 => siluF32 a
  | 7 => rsqrtF32 a
  | 8 => a
  | _ => mulF32 a b

/-! Conversion out of FP32 (R505) -/

/-- The largest exponent of an element format (MX specification; for INT4 that of 7, log 33). -/
def fmtEmax (f : Nat) : Int :=
  match f with
  | 2 => 2
  | 3 => 8
  | 4 => 15
  | 5 => 0
  | _ => 2

/-- The exponent of a finite value. -/
def numExp : Num → Option Int
  | .fin _ m e => if m = 0 then none else some ((Nat.log2 m : Int) + e)
  | _ => none

/-- The largest of a list. -/
def maxI : List Int → Option Int
  | [] => none
  | x :: xs => match maxI xs with
    | some y => some (max x y)
    | none => some x

/-- An integer element: to nearest even, clamped. -/
def intCode (bits : Nat) (neg : Bool) (m : Nat) (e : Int) : Nat :=
  wrapN bits (clampI (-(2 ^ (bits - 1) : Nat)) ((2 ^ (bits - 1) : Nat) - 1) (intOf neg (roundAt m e 0)))

/-- An element's code of a finite value already divided by its scale; it saturates (R505). -/
def elemOf (f : Nat) (neg : Bool) (m : Nat) (e : Int) : Nat :=
  match f with
  | 2 => signBit 4 neg + min 7 (encodeMag 1 (-1) m e)
  | 3 => signBit 8 neg + min 0x7E (encodeMag 3 (-9) m e)
  | 4 => signBit 8 neg + min 0x7B (encodeMag 2 (-16) m e)
  | 5 => intCode 8 neg m (e + 6)
  | _ => intCode 4 neg m e

/-- A NaN's code in E4M3 or E5M2. -/
def nanCode (f : Nat) (w : Nat) : Nat :=
  if f = 3 then 128 * (w / 128) + 127 else 128 * (w / 128) + 124 + (if w % 4 = 0 then 1 else w % 4)

/-- One block of 32 FP32 words to an MX format: its scale code and element codes (R505). -/
def mxBlock (f : Nat) (ws : List (BitVec 32)) : Nat × List Nat :=
  let xs := ws.map ofF32
  let free := fun i => (Config.mxBits f ws i).toNat
  let isInf := fun x => x == Num.inf true || x == Num.inf false
  if xs.any isInf then (free 32, (List.range ws.length).map fun i => free i % 2 ^ fmtBits f)
  else if f = 2 ∧ xs.contains .nan then (255, (List.range ws.length).map fun i => free i % 16)
  else
    let sc : Nat := match maxI (xs.filterMap numExp) with
      | some k => (clampI 0 254 (k - fmtEmax f + 127)).toNat
      | none => free 32
    let k : Int := (sc : Int) - 127
    (sc, (xs.zip (List.range ws.length)).map fun x =>
      match x.1 with
      | .fin n m e => elemOf f n m (e - k)
      | _ => if f = 3 ∨ f = 4 then nanCode f (free x.2) else free x.2 % 2 ^ fmtBits f)

/-- BF16 of an FP32 word, to nearest even (R505). -/
def toBf16 (w : BitVec 32) : Nat :=
  match ofF32 w with
  | .nan =>
    let v := (Config.opBits 9 [w]).toNat
    signBit 16 (bitOf v 15) + 0x7F80 + (if v % 128 = 0 then 1 else v % 128)
  | .inf n => signBit 16 n + 0x7F80
  | .fin n m e => signBit 16 n + min 0x7F80 (encodeMag 7 (-133) m e)

/-- 4-bit codes two to a byte, 8-bit codes one (R503). -/
def packCodes (bits : Nat) : List Nat → List (BitVec 8)
  | [] => []
  | [a] => [BitVec.ofNat 8 a]
  | a :: b :: cs => if bits = 4 then BitVec.ofNat 8 (a + 16 * b) :: packCodes bits cs
    else BitVec.ofNat 8 a :: BitVec.ofNat 8 b :: packCodes bits cs

/-- The blocks of a list of n × 32 words. -/
def blocksOf : Nat → List (BitVec 32) → List (List (BitVec 32))
  | 0, _ => []
  | n + 1, ws => ws.take 32 :: blocksOf n (ws.drop 32)

/-- FP32 words in an output format: the element plane and the scale plane (R503, R505). -/
def toFmt (f : Nat) (ws : List (BitVec 32)) : List (BitVec 8) × List (BitVec 8) :=
  if f = 0 then (ws.flatMap fun w => natToBytes 4 w.toNat, [])
  else if f = 1 then (ws.flatMap fun w => natToBytes 2 (toBf16 w), [])
  else
    let bs := (blocksOf (ws.length / 32) ws).map (mxBlock f)
    (packCodes (fmtBits f) (bs.flatMap (·.2)), bs.map fun b => BitVec.ofNat 8 b.1)

/-! Reduce tickets (20 R531) -/

/-- One row's result: MAX and MIN of numbers are order-free; SUM and SUMSQ have the fixed order the spec does not print. -/
def reduceRow (op : Nat) (row : List (BitVec 32)) : BitVec 32 :=
  let xs := row.map ofF32
  let open_ := Config.reduceBits op row
  if op = 1 ∨ op = 2 then
    match row with
    | [] => open_
    | w :: ws =>
      let best := ws.foldl (fun a b => if (if op = 1 then numLe (ofF32 a) (ofF32 b) else numLe (ofF32 b) (ofF32 a)) then b else a) w
      if xs.contains .nan then open_
      else if numZero (ofF32 best) then
        let zs := row.filter fun z => numZero (ofF32 z)
        if zs.all (· == best) then best else BitVec.ofNat 32 (signBit 32 (bitOf open_.toNat 31))
      else best
  else open_

end Sys2Proof.Machine
end

