-- ==== Sys2Proof/Machine/FabOps.lean ====
section
/-! DEFINITION. The requester's side of the fabric (17 R454, R458) and global addresses as tickets and descriptors class them (17
R447; 19 R498; 20 R528). -/

namespace Sys2Proof.Machine

/-- CHIP, SPACE and OFFSET of a global address (R447). -/
def gaChip (a : Nat) : Nat := a / 2 ^ 50 % 2 ^ 14
/-- SPACE. -/
def gaSpace (a : Nat) : Nat := a / 2 ^ 48 % 4
/-- OFFSET. -/
def gaOff (a : Nat) : Nat := a % 2 ^ 48

/-- A placement class with what reaches it: a memory and a byte key, or a global address elsewhere (19 Table 19.1). -/
inductive Place where
  | own (key : Nat)
  | peer (key : Nat)
  | peerX (key : Nat)
  | hbm (addr : Nat)
  | remote (addr : Nat)
  | bad
  deriving DecidableEq, Repr

/-- A range wholly inside a Vellum, as its cluster and key. -/
def velKey (off len : Nat) : Option (Nat × Nat) :=
  if off / 2 ^ 29 = 0 ∧ off % 2 ^ 21 + len ≤ velSize then some (off / 2 ^ 21, off) else none

/-- Class an operand of a cluster (R498, R528): a cluster of 256 or more stands for no cluster, for the transfer engine. -/
def placeOf (s : State) (cluster a len : Nat) : Place :=
  if gaChip a ≠ s.chip then (if gaOff a + len ≤ 2 ^ 48 then .remote a else .bad)
  else if gaSpace a = 0 then (if gaOff a + len ≤ hbmSize then .hbm (gaOff a) else .bad)
  else if gaSpace a = 1 then
    match velKey (gaOff a) len with
    | none => .bad
    | some (c, k) => if c = cluster then .own k else if c / 128 = cluster / 128 then .peer k else .peerX k
  else .bad

/-- The memory a local place lies in. -/
def placeRam : Place → Option (Ram × Nat)
  | .own k => some (.vel, k)
  | .peer k => some (.vel, k)
  | .peerX k => some (.vel, k)
  | .hbm a => some (.hbm, a)
  | _ => none

/-- Read a local place. -/
def placeRead (src : Nat) (p : Place) (n : Nat) (s : State) : State × List PByte :=
  match placeRam p with
  | some (r, a) => memRead src r a n s
  | none => (s, [])

/-- Write a local place, from an offset in it. -/
def placeWrite (src : Nat) (p : Place) (off : Nat) (bs : List PByte) (s : State) : State :=
  match placeRam p with
  | some (r, a) => memWrite src r (a + off) bs s
  | none => s

/-- TAGS_USED follows the table; timed-out entries count until they may be reallocated (log 35). -/
def tagsUsed (s : State) : State := s.fw R.FAB_STATUS 14 0 (s.fab.reqs.length + s.fab.fenced.length)

/-- Requests that hold back an ORDER packet (R458). -/
def isTracked (o : Nat) : Bool := [2, 3, 4, 0x10, 0x18, 0x19].contains o

/-- An ORDER packet. -/
def isOrder (o : Nat) : Bool := o == 0x18 || o == 0x19

/-- An earlier request of the same context and destination awaits its response (R458). -/
def mustHold (s : State) (earlier : List (Nat × FabWant)) (w : FabWant) : Bool :=
  let same := fun (x : FabWant) => x.ctx == w.ctx && x.dest == w.dest && isTracked x.opc
  isOrder w.opc && (s.fab.reqs.any (fun r => same r.2.want) || earlier.any fun e => same e.2)

/-- The lowest free entry of the request table, none while it is full (R454). -/
def freeEntry (s : State) : Option Nat :=
  if 16384 ≤ s.fab.reqs.length + s.fab.fenced.length then none
  else lowest 16384 fun e => !s.fab.reqs.any (fun r => r.1 == e) && !s.fab.fenced.contains e

/-- A request's packet. -/
def wantPkt (s : State) (w : FabWant) (tag : Nat) : List Word :=
  mkPkt s w.opc w.poison w.dest tag 0 w.stream w.len
    ((if opcAddr w.opc then w64 w.addr else []) ++ bytesDw ((w.payload.length + 3) / 4) w.payload)

/-- Inject a request in an entry. -/
def injectWant (n : Nat) (w : FabWant) (e : Nat) (s : State) : State :=
  let g := smGet (fun _ => (0 : Nat)) s.fab.gens e
  let pk := wantPkt s w (16384 * g + e)
  inject pk (tagsUsed (s.uFab fun f => { f with reqs := smPut f.reqs e ⟨g, n, w⟩ }))

/-- Inject the requests that may go, in order of issue; the rest wait at the source. -/
def pumpReqs : List (Nat × FabWant) → List (Nat × FabWant) → State → State
  | [], kept, s => s.uFab fun f => { f with held := kept }
  | x :: xs, kept, s =>
    if mustHold s kept x.2 then pumpReqs xs (kept ++ [x]) s
    else match freeEntry s with
      | none => pumpReqs xs (kept ++ [x]) s
      | some e => pumpReqs xs kept (injectWant x.1 x.2 e s)

/-- Try the waiting requests again. -/
def pumpHeld (s : State) : State := pumpReqs s.fab.held [] s

/-- Issue a request. -/
def issueReq (w : FabWant) (s : State) : State :=
  pumpHeld (s.uFab fun f => { f with held := f.held ++ [(f.num, w)], num := f.num + 1 })

/-- Issue several requests in order. -/
def issueReqs (ws : List FabWant) (s : State) : State := ws.foldl (fun s w => issueReq w s) s

/-- Split a range at 512 bytes and at 4 KiB boundaries of the address (R449): (offset, length) pieces. -/
def splitGo (a lim : Nat) : Nat → Nat → Nat → List (Nat × Nat)
  | 0, _, _ => []
  | n + 1, off, len =>
    if len = 0 then []
    else
      let k := min (min lim len) (4096 - (a + off) % 4096)
      (off, k) :: splitGo a lim n (off + k) (len - k)

/-- The pieces of a remote transfer of len bytes. -/
def splitReq (a len : Nat) : List (Nat × Nat) := splitGo (gaOff a) 512 len 0 len

/-- Space 10 takes RD, WR and OWR only (R448): its writes go by WR (log 36). -/
def bulkOpc (a : Nat) : Nat := if gaSpace a = 2 then 2 else 0x10

/-- Read requests of a remote range. -/
def remoteReads (ctx : Nat) (o : Owner) (a len base : Nat) : List FabWant :=
  (splitReq a len).map fun p => ⟨gaChip a, ctx, ctx, 1, false, a + p.1, p.2, [], o, base + p.1⟩

/-- Write requests of a remote range; a piece with bad bytes carries POISON (R472). -/
def remoteWrites (ctx : Nat) (o : Owner) (a : Nat) (bs : List PByte) (base : Nat) : List FabWant :=
  (splitReq a bs.length).map fun p =>
    let x := (bs.drop p.1).take p.2
    ⟨gaChip a, ctx, ctx, bulkOpc a, anyBad x, a + p.1, p.2, x.map (·.1), o, base + p.1⟩

/-- An ordered write of some bytes. -/
def orderedWrite (ctx : Nat) (o : Owner) (a : Nat) (bs : List Byte) : FabWant :=
  ⟨gaChip a, ctx, ctx, 0x18, false, a, bs.length, bs, o, 0⟩

/-- A stream context is open as a fabric flow (23 Table 23.1). -/
def isFlow (s : State) (c : Nat) : Bool := s.fd (R.XFE_CTL c) 31 30 == 2

/-- Bytes of a flow's tickets, and their error statuses (23 R593). -/
def flowBytes (c n : Nat) (s : State) : State := if isFlow s c then s.count64 (R.XFE_BYTES_LO c) n else s

/-- A flow's last error status. -/
def flowErr (c status index : Nat) (s : State) : State :=
  if isFlow s c then s.wr (R.XFE_ERR c) (2 ^ 24 * status + index) else s

end Sys2Proof.Machine
end

