-- ==== Sys2Proof/Machine/Plan.lean ====
section
/-! DEFINITION. Declared power and the plan of heat notes (05 R145–R156; 20 R535, R536): the demand of a die, a note's planned
admitted power, its lapse, the pending entries. -/

namespace Sys2Proof.Machine

/-- A ticket ring outside its registers. -/
def ringOf (s : State) (r : Nat) : Ring := smGet (fun _ => Ring.init) s.tkt.rings r

/-- Change a ring. -/
def uRing (r : Nat) (f : Ring → Ring) (s : State) : State :=
  s.uTkt fun t => { t with rings := smSet (fun _ => Ring.init) t.rings r (f (smGet (fun _ => Ring.init) t.rings r)) }

/-- A dword of a ticket. -/
def tktDw (t : Tkt) (i : Nat) : Nat := (t.dws.getD i 0).toNat
/-- KIND of a ticket (20 Table 20.2). -/
def tKind (t : Tkt) : Nat := fieldOf (tktDw t 0) 31 28
/-- OP of a ticket. -/
def tOp (t : Tkt) : Nat := fieldOf (tktDw t 0) 27 24

/-- The die of a ring's cluster. -/
def dieOf (r : Nat) : Nat := r / 128

/-- A die's governor. -/
def govOf (s : State) (g : Nat) : Gov := if g = 0 then s.pwr.g0 else s.pwr.g1

/-- Change a die's governor. -/
def uGov (g : Nat) (f : Gov → Gov) (s : State) : State :=
  s.uPwr fun p => if g = 0 then { p with g0 := f p.g0 } else { p with g1 := f p.g1 }

/-- The lowest admitted value of the previous 100 steps; steps before the first count as zero (R145). -/
def lowest100 (h : List Int) : Int := if h.length < 100 then 0 else (h.take 100).foldl min (h.headD 0)

/-- A power of 1/16 W in the governor's unit, 1/1024 W. -/
def pu (x : Int) : Int := 64 * x

/-- S_eff as a step of the ceiling (R145). -/
def seffU (s : State) (g : Nat) : Int := pu (16 * (govOf s g).sEff)

/-- A ceiling under the cap in force. -/
def capped (c : Option Nat) (x : Int) : Int :=
  match c with
  | some c => min x c
  | none => x

/-- The idle demand of a die's pairs that are not OFF (R145). -/
def pairIdle (s : State) (g : Nat) : Nat :=
  s.fd R.PWR_PAIR_IDLE_W 15 0 * ((List.range 64).filter fun i => s.dom (64 * g + i) != 0).length

/-- The power a running ticket declares (R145, R535), 1/16 W. -/
def declared (s : State) (t : Tkt) : Nat :=
  match tKind t with
  | 1 => fieldOf (tktDw t 2) 15 0
  | 5 => 0
  | 6 => 0
  | k => s.fd (R.PWR_KIND_W (k % 8)) 15 0

/-- A ticket the duty throttles (R146). -/
def throttled (t : Tkt) : Bool := tKind t != 5 && tKind t != 6

/-- The started tickets of a die that the duty throttles, with their rings. -/
def throttledOn (s : State) (g : Nat) : List (Nat × RunT) :=
  s.tkt.rings.flatMap fun e =>
    if dieOf e.1 = g then (e.2.run.filter fun x => throttled x.t).map fun x => (e.1, x) else []

/-! Notes -/

/-- The note of a ticket. -/
def noteOf (s : State) (r idx : Nat) : Option Note := s.pwr.notes.find? fun n => n.ring == r && n.idx == idx

/-- A power ticket's note: its last value goes on. -/
def powerNote (n : Note) : Bool := n.rest.isNone && !n.bare

/-- The first governor step at or after a CT instant. -/
def stepOf (ct : Nat) : Nat := (ct + 1599) / 1600

/-- A note's planned admitted power at a governor step. -/
def noteAt (n : Note) (step : Nat) : Int :=
  let k := step - stepOf n.start
  if step < stepOf n.start then 0
  else if k < n.vals.length then n.vals.getD k 0
  else match n.rest with
    | none => n.vals.getLast?.getD 0
    | some m => if k < n.vals.length + m then n.vals.getLast?.getD 0 else 0

/-- The step from which a note's plan is over, none where it goes on. -/
def noteEnd (n : Note) : Option Nat := n.rest.map fun m => stepOf n.start + n.vals.length + m

/-- The planned power of a die's notes at a step. -/
def notesAt (ns : List Note) (g step : Nat) : Int :=
  ns.foldl (fun a n => if n.die = g then a + noteAt n step else a) 0

/-- Demand of power tickets in force that no note describes. -/
def powerHeld (s : State) (g : Nat) : Int :=
  s.pwr.power.foldl (fun a p =>
    if p.die = g ∧ !s.pwr.notes.any (fun n => n.ring == p.ring && powerNote n) then a + p.have_ else a) 0

/-- The governor's history, newest first, as integers. -/
def histI (s : State) (g : Nat) : List Int := (govOf s g).hist

/-- The planned total of a die at a step under some of its notes. -/
def planTotal (s : State) (ns : List Note) (g step : Nat) : Int :=
  pu (pairIdle s g) + powerHeld s g + notesAt ns g step

/-- The planned totals of the 100 steps before a step, newest first. -/
def windowBefore (s : State) (ns : List Note) (g step : Nat) : List Int :=
  let cur := stepOf s.now
  let ahead := (List.range (min 100 (step - cur))).map fun i => planTotal s ns g (step - 1 - i)
  (ahead ++ histI s g).take 100

/-- A ticket in planning: 1,600-cycle steps to its start, its power, cycles left × 64, and its values so far, latest first. -/
structure PlanT where
  wait : Nat
  p : Int
  left : Int
  vals : List Int
  deriving DecidableEq, Repr

/-- One planned step of tickets under a common duty (R146). -/
def planOne (d : Int) (x : PlanT) : PlanT :=
  if 0 < x.wait then { x with wait := x.wait - 1 }
  else if x.left ≤ 0 then x
  else { x with left := x.left - 1600 * d, vals := d * x.p :: x.vals }

/-- The ticket issues in this step. -/
def planLive (x : PlanT) : Bool := x.wait == 0 && decide (0 < x.left)

/-- The duty the room leaves a scalable power (R145). -/
def dutyOf (room scal : Int) : Int := if scal ≤ 0 then 64 else clampI 0 64 (room / scal)

/-- Extend a die's plan for tickets that enter the look-ahead window together (R150): step by step, under the ceiling over the
100 totals before, until all have ended, or have stood at full duty for 100 steps. -/
def planGo (base : Nat → Int) (sEff : Int) (cap : Option Nat) :
    Nat → Nat → List Int → Nat → List PlanT → List PlanT
  | 0, _, _, _, xs => xs
  | n + 1, step, win, same, xs =>
    if xs.all (fun x => decide (x.wait = 0)) ∧ (100 ≤ same ∨ xs.all fun x => decide (x.left ≤ 0)) then xs
    else
      let scal := xs.foldl (fun a x => if planLive x then a + x.p else a) 0
      let room := capped cap (lowest100 win + sEff) - base step
      let d := dutyOf room scal
      planGo base sEff cap n (step + 1) (((base step + d * scal) :: win).take 100) (if d = 64 ∧ 0 < scal then same + 1 else 0)
        (xs.map (planOne d))

/-- A ramp toward a power from a step on (R156), latest value first: until it has stood at the power for 100 steps. -/
def rampGo (base : Nat → Int) (sEff : Int) (cap : Option Nat) (p : Int) :
    Nat → Nat → List Int → Nat → List Int → List Int
  | 0, _, _, _, acc => acc
  | n + 1, step, win, same, acc =>
    if 100 ≤ same then acc
    else
      let room := capped cap (lowest100 win + sEff) - base step
      let v := if p ≤ 0 then p else max (acc.headD 0) (min p room)
      rampGo base sEff cap p n (step + 1) (((base step + v) :: win).take 100) (if v = p then same + 1 else 0) (v :: acc)

/-- Plan a power note. -/
def planRamp (s : State) (ns : List Note) (n : Note) : Note :=
  let n0 := stepOf n.start
  { n with
    vals := (rampGo (planTotal s ns n.die) (seffU s n.die) (govOf s n.die).cap (pu n.p) 110000 n0
      (windowBefore s ns n.die n0) 0 []).reverse,
    rest := none }

/-- Plan the notes of tickets that entered the window together, over the other notes. -/
def planMatrix (s : State) (others : List Note) (g : Nat) (xs : List Note) : List Note :=
  let n0 := xs.foldl (fun a n => min a (stepOf n.start)) (stepOf (xs.headD ⟨0, 0, 0, 0, 0, 0, 0, 0, 0, [], none, 0, false⟩).start)
  let ts := planGo (planTotal s others g) (seffU s g) (govOf s g).cap 110000 n0 (windowBefore s others g n0) 0
    (xs.map fun n => ⟨stepOf n.start - n0, n.p, 64 * n.cyc, []⟩)
  (xs.zip ts).map fun y => { y.1 with vals := y.2.vals.reverse, rest := some ((y.2.left + 102399) / 102400).toNat }

/-- A note waits for its ticket to start. -/
def notePending (s : State) (n : Note) : Bool := (ringOf s n.ring).queue.any fun t => t.idx == n.idx

/-- The distinct predicted start frames with notes pending on a die (R155). -/
def pendingFrames (s : State) (g : Nat) : List Nat :=
  ((s.pwr.notes.filter fun n => n.die == g && notePending s n).map fun n => n.start / 8000).dedup

/-- PWR_HN_PENDING follows the notes. -/
def hnPending (s : State) : State :=
  s.wr R.PWR_HN_PENDING (256 * (pendingFrames s 1).length + (pendingFrames s 0).length)

/-- A note for a start frame finds an entry (R155). -/
def noteRoom (s : State) (g start : Nat) : Bool :=
  let fs := pendingFrames s g
  fs.contains (start / 8000) || decide (fs.length < 16)

/-- A power note of the ring ends where the next one begins. -/
def endPowerNote (ring start : Nat) (n : Note) : Note :=
  if n.ring = ring ∧ powerNote n then
    let k := stepOf start - stepOf n.start
    { n with vals := n.vals.take k, rest := some (k - n.vals.length) }
  else n

/-- The notes of matrix tickets planned at this tick on a die: one extension serves them all (log 38). -/
def sameEntry (s : State) (g : Nat) (n : Note) : Bool := n.die == g && !powerNote n && n.made == s.ticks && notePending s n

/-- Plan a ticket's note from a CT with a lead (R150, R535). -/
def noteAdd (r : Nat) (t : Tkt) (cycles start lead : Nat) (s : State) : State :=
  let g := dieOf r
  let pw := tKind t == 6
  let p : Int := if pw then sgn 16 (tktDw t 2) else fieldOf (tktDw t 2) 15 0
  let decay := fieldOf (tktDw t 2) 29 24
  let n : Note := ⟨g, r, t.idx, lead, if decay = 0 then 64 else decay, start, p, cycles, s.ticks, [], if pw then none else some 0, 0, false⟩
  let s := if pw then s.uPwr fun x => { x with notes := x.notes.map (endPowerNote r start) } else s
  let old := s.pwr.notes
  let new := if pw then old ++ [planRamp s old n]
    else
      let others := old.filter fun m => !sameEntry s g m
      others ++ planMatrix s others g (old.filter (sameEntry s g) ++ [n])
  hnPending (s.uPwr fun x => { x with notes := new })

/-- A ticket whose note had lapsed starts: its new note has LEAD 0 and stands in no plan (R143, R153). A power ticket's goes on until
the next power ticket of its ring starts. -/
def noteBare (r : Nat) (t : Tkt) (s : State) : State :=
  let pw := tKind t == 6
  let p : Int := if pw then sgn 16 (tktDw t 2) else fieldOf (tktDw t 2) 15 0
  let decay := fieldOf (tktDw t 2) 29 24
  s.uPwr fun x => { x with
    notes := x.notes ++ [⟨dieOf r, r, t.idx, 0, if decay = 0 then 64 else decay, s.now, p, 0, s.ticks, [], if pw then none else some 0, 0, true⟩] }

/-- A power ticket has replaced the demand of its ring: the bare note of the one before is over. -/
def dropBare (r : Nat) (s : State) : State :=
  s.uPwr fun x => { x with notes := x.notes.filter fun n => !(n.ring == r && n.bare && n.rest.isNone) }

/-- A ticket of a ring that waits without its note. -/
def loseNote (r idx : Nat) (s : State) : State := uRing r (fun q => { q with bare := q.bare ++ [idx] }) s

/-- Notes lapse (R152): each leaves the plan, its last delivered value decays, HEAT_NOTE_LAPSE names the cause; a ticket that has not
started waits without it. -/
def notesLapse (cause : Nat) (which : Note → Bool) (s : State) : State :=
  let gone := s.pwr.notes.filter which
  let s := s.uPwr fun x => { x with
    notes := x.notes.filter fun n => !which n,
    lapsed := x.lapsed ++ gone.map fun n => ⟨n.die, n.last, 0, n.decay⟩ }
  hnPending (gone.foldl (fun s n => (if notePending s n then loseNote n.ring n.idx s else s).ev Ev.HEAT_NOTE_LAPSE n.ring [cause]) s)

/-! Power tickets (R156) -/

/-- A ring's power demand, 1/1024 W. -/
def powerOf (s : State) (r : Nat) : Int :=
  match s.pwr.power.find? fun p => p.ring == r with
  | some p => p.have_
  | none => 0

/-- The ceiling of the next governor step leaves room, beside the rises granted since the last, for a rise: for all of it, or for S_eff
of a larger one. -/
def riseFits (s : State) (g : Nat) (rise : Int) : Bool :=
  let h := histI s g
  decide (min rise (seffU s g) ≤ capped (govOf s g).cap (lowest100 h + seffU s g) - h.headD 0 - (govOf s g).given)

/-- A power ticket starts: its DELTA, in 1/16 W, replaces its ring's demand; a rise above S_eff is a ramp. The room it takes is given. -/
def powerStart (r : Nat) (delta : Int) (s : State) : State :=
  let rise := pu delta - powerOf s r
  let have_ := if rise ≤ seffU s (dieOf r) then pu delta else powerOf s r
  let s := uGov (dieOf r) (fun g => { g with given := g.given + max 0 (min rise (seffU s (dieOf r))) }) s
  s.uPwr fun x => { x with power := x.power.filter (fun p => p.ring != r) ++ [⟨r, dieOf r, pu delta, have_⟩] }

end Sys2Proof.Machine
end

