-- ==== Sys2Proof/Machine/Tickets.lean ====
section
/-! DEFINITION. Work tickets (19, 20): the fetch check, cycle formulas, what a ticket of each kind does, completion records, stops,
aborts, doorbells and ring configuration. The rows stand in TktRows.lean. -/

namespace Sys2Proof.Machine

/-! Fields -/

/-- A 64-bit address or value of a ticket. -/
def tAddr (t : Tkt) (i : Nat) : Nat := tktDw t i + 2 ^ 32 * tktDw t (i + 1)

/-- LOG2SIZE of a ring (20 R542). -/
def ringLog (s : State) (r : Nat) : Nat := max 6 (min 15 (s.fd (R.TKT_CFG r) 19 16))

/-- TKT_Rr_STATE.STATE: 0 DISABLED, 1 IDLE, 2 RUN, 3 STOPPED. -/
def ringState (s : State) (r : Nat) : Nat := s.fd (R.TKT_STATE r) 31 28

/-- HEAD: the ring index of the next ticket to start. -/
def ringHead (s : State) (r : Nat) : Nat := s.fd (R.TKT_PTR r) 15 0

/-- TAIL. -/
def ringTail (s : State) (r : Nat) : Nat := s.fd (R.TKT_PTR r) 31 16

/-- The unit of a ticket: 0 MATRIX, 1 VECTOR, 2 MOVE, none for sync and power tickets (19 R493). -/
def tUnit (t : Tkt) : Option Nat :=
  match tKind t with
  | 0 => some 2
  | 1 => some 0
  | 2 => some 1
  | 3 => some 1
  | 4 => some 2
  | _ => none

/-- A barrier. -/
def isBarrier (t : Tkt) : Bool := tKind t == 5 && tOp t == 0

/-- A FENCE. -/
def isFence (t : Tkt) : Bool := tKind t == 5 && tOp t == 1

/-- CTX of a ticket (20 Table 20.3). -/
def tCtx (t : Tkt) : Nat := if tKind t = 0 then tktDw t 3 % 4096 else fieldOf (tktDw t 2) 27 16

/-! The fetch check (R524, R527, R528) -/

/-- The bits dwords 2 and up may have set, by KIND and OP; none where KIND or OP is reserved (Tables 20.2, 20.3). -/
def ticketMask (k op : Nat) : Option (List Nat) :=
  let f := 0xFFFFFFFF
  let v := 0x1FFFFF
  match k with
  | 0 => if op ≤ 1 then some [0x7FFFFFF, 0xFFF, f, f, f, f] else none
  | 1 => if op = 0 then some [0x3F0FFFFF, 0xFF100000, 0x1FFF1FFF, 0x1FFFF, v, v, v, v, v] else none
  | 2 => if op ≤ 9 then some [f, f, f, v, v, v, v, v, v] else none
  | 3 => if op ≤ 3 then some [0xF0000000, 0x7FFF, 0x1FFFF, v, v] else none
  | 4 => if op ≤ 2 then some [f, 0x3FFFFFF, v, v, f, f, f, f, f, f, f, f, f, f] else none
  | 5 => match op with
    | 0 => some [1, 0, f, f]
    | 1 => some []
    | 2 => some [0xFFF0000, 0, f, f, f, f]
    | 3 => some [0xFF, 0xFFFF]
    | _ => none
  | 6 => if op = 0 then some [0x3F0FFFFF] else none
  | _ => none

/-- Words have no bits outside their masks. -/
def insideMasks : List Nat → List Word → Bool
  | _, [] => true
  | [], w :: ws => w == 0 && insideMasks [] ws
  | m :: ms, w :: ws => Nat.land w.toNat m == w.toNat && insideMasks ms ws

/-- No reserved KIND, OP or bit (R527). -/
def fieldsOk (t : Tkt) : Bool :=
  Nat.land (tktDw t 0) 0xFFC0FFFF == tktDw t 0 &&
    (match ticketMask (tKind t) (tOp t) with
    | none => false
    | some ms => insideMasks ms (t.dws.drop 2))

/-- A Vellum operand inside the cluster. -/
def velIn (x : Nat × Nat) : Bool := decide (x.1 + x.2 ≤ velSize)

/-- SHARE of a cluster. -/
def shareOf (s : State) (r : Nat) : Nat := s.fd (R.GRV_HBM_SHARE r) 6 0

/-- An addressed operand of a class its kind allows (R498, R499, R528); space 10 only at the given sizes. -/
def placeOk (s : State) (r a len : Nat) (sp10 : List Nat) : Bool :=
  match placeOf s r a len with
  | .bad => false
  | .hbm _ => shareOf s r != 0
  | .remote _ => gaSpace a != 2 || sp10.contains len
  | _ => true

/-- The planes of a matrix operand: elements, scales (19 R503). -/
def planes (f el sc n : Nat) : List (Nat × Nat) := (el, fmtBytes f n) :: (if fmtMx f then [(sc, n / 32)] else [])

/-- The row length of a ROWSCALE: T, a whole number of at least 1, as FP32. -/
def rowLen (w : BitVec 32) : Option Nat :=
  match ofF32 w with
  | .fin false m e =>
    if 0 ≤ e then (if m = 0 then none else some (m * pow2 e))
    else if m % pow2 (-e) = 0 ∧ m ≠ 0 then some (m / pow2 (-e)) else none
  | _ => none

/-- A vector ticket reads B as A's format. -/
def vecHasB (op : Nat) : Bool := op == 0 || op == 1 || op == 3

/-- Vellum regions a matrix, vector or reduce ticket reads: offset and bytes. -/
def velIns (t : Tkt) : List (Nat × Nat) :=
  let d := tktDw t
  match tKind t with
  | 1 =>
    let m := d 4 % 8192
    let n := fieldOf (d 4) 28 16
    let k := d 5
    planes (fieldOf (d 3) 31 28) (d 6) (d 7) (m * k) ++ planes (fieldOf (d 3) 27 24) (d 8) (d 9) (n * k)
      ++ (if bitOf (d 3) 20 then [(d 10, 4 * m * n)] else [])
  | 2 =>
    let f := fieldOf (d 2) 31 28
    let e := d 2 % 2 ^ 24
    planes f (d 5) (d 6) e ++ (if vecHasB (tOp t) then planes f (d 7) (d 8) e else [])
      ++ (if tOp t = 9 then [(d 7, 4 * (e / (rowLen (t.dws.getD 4 0)).getD 1))] else [])
  | 3 => [(d 5, fmtBytes (fieldOf (d 2) 31 28) (d 3 * d 4))]
  | _ => []

/-- Vellum regions it writes. -/
def velOuts (t : Tkt) : List (Nat × Nat) :=
  let d := tktDw t
  match tKind t with
  | 1 => [(d 10, 4 * (d 4 % 8192) * fieldOf (d 4) 28 16)]
  | 2 => planes (fieldOf (d 2) 27 24) (d 9) (d 10) (d 2 % 2 ^ 24)
  | 3 => [(d 6, 4 * d 3)]
  | _ => []

/-- Two regions share a byte. -/
def regionsMeet (a b : Nat × Nat) : Bool := decide (a.1 < b.1 + b.2) && decide (b.1 < a.1 + a.2)

/-- Bytes of a collective's data: LEN bytes of a SEND, LEN elements of an ARSEG. -/
def collBytes (t : Tkt) : Nat :=
  if tOp t = 2 then tktDw t 3 * (if fieldOf (tktDw t 2) 31 28 = 0 then 4 else 2) else tktDw t 3

/-- The limits of each kind (R499, R528–R534). -/
def limitsOk (s : State) (r : Nat) (t : Tkt) : Bool :=
  let d := tktDw t
  match tKind t with
  | 0 =>
    decide (1 ≤ d 2) && decide (d 2 ≤ 2 ^ 26) && placeOk s r (tAddr t 6) (d 2) [4, 8]
      && (tOp t == 1 || placeOk s r (tAddr t 4) (d 2) [4, 8])
  | 1 =>
    let m := d 4 % 8192
    let n := fieldOf (d 4) 28 16
    (pairQ (fieldOf (d 3) 31 28) (fieldOf (d 3) 27 24)).isSome
      && decide (1 ≤ m) && decide (m ≤ 4096) && decide (1 ≤ n) && decide (n ≤ 4096)
      && decide (d 5 % 32 = 0) && decide (32 ≤ d 5) && decide (d 5 ≤ 65536)
      && (velIns t ++ velOuts t).all velIn
      && (planes (fieldOf (d 3) 31 28) (d 6) (d 7) (m * d 5) ++ planes (fieldOf (d 3) 27 24) (d 8) (d 9) (n * d 5)).all
          fun x => !regionsMeet x (d 10, 4 * m * n)
  | 2 =>
    let fi := fieldOf (d 2) 31 28
    let fo := fieldOf (d 2) 27 24
    let e := d 2 % 2 ^ 24
    decide (fi ≤ 6) && decide (fo ≤ 6) && (!(fmtMx fi || fmtMx fo) || decide (e % 32 = 0))
      && (tOp t != 9 || (match rowLen (t.dws.getD 4 0) with
          | none => false
          | some w => decide (e % w = 0)))
      && (velIns t ++ velOuts t).all velIn
  | 3 =>
    decide (fieldOf (d 2) 31 28 ≤ 1) && decide (1 ≤ d 3) && decide (d 3 ≤ 16384) && decide (1 ≤ d 4) && decide (d 4 ≤ 65536)
      && (velIns t ++ velOuts t).all velIn
  | 4 =>
    let b := collBytes t
    let sends := placeOk s r (tAddr t 6) b [] && placeOk s r (tAddr t 8) b [] && placeOk s r (tAddr t 10) 8 []
    match tOp t with
    | 0 => sends
    | 1 => velIn (d 4, 8)
    | _ => velIn (d 4, 8) && decide (fieldOf (d 2) 31 28 ≤ 1) && velIn (d 5, b) && sends
  | 5 =>
    match tOp t with
    | 2 => placeOk s r (tAddr t 4) 8 [8]
    | 3 => s.fd (R.TKT_FEED (d 2)) 1 0 == 2
    | _ => true
  | _ => true

/-- A ticket passes the check it gets as it is fetched. -/
def tktGood (s : State) (r : Nat) (t : Tkt) : Bool := fieldsOk t && limitsOk s r t

/-! Cycle formulas (R529–R534) -/

/-- Division rounded up. -/
def ceilDiv (a b : Nat) : Nat := (a + b - 1) / b

/-- 256-byte units a range touches (R500). -/
def unitsOf (a len : Nat) : Nat := if len = 0 then 0 else (a + len - 1) / 256 - a / 256 + 1

/-- Ticks of n units at a share. -/
def hbmTicks (s : State) (r n : Nat) : Nat := ceilDiv (512 * n) (25 * max 1 (shareOf s r))

/-- L of a side (R532). -/
def placeLat : Place → Nat
  | .own _ => 4
  | .peer _ => 24
  | .peerX _ => 96
  | .hbm _ => 320
  | _ => 0

/-- C of a side of n bytes (R532). -/
def placeTicks (s : State) (r : Nat) (p : Place) (n : Nat) : Nat :=
  match p with
  | .own _ => ceilDiv n 256
  | .peer _ => ceilDiv n 32
  | .peerX _ => ceilDiv n 16
  | .hbm a => hbmTicks s r (unitsOf a n)
  | .remote _ => ceilDiv n 64
  | .bad => 0

/-- T of a COPY. -/
def copyTicks (s : State) (r : Nat) (a b : Place) (n : Nat) : Nat :=
  match a, b with
  | .hbm x, .hbm y => 320 + hbmTicks s r (unitsOf x n + unitsOf y n)
  | a, b => max (placeLat a) (placeLat b) + max (placeTicks s r a n) (placeTicks s r b n)

/-- The cycle formula of a ticket. -/
def tktCycles (s : State) (r : Nat) (t : Tkt) : Nat :=
  let d := tktDw t
  match tKind t with
  | 0 =>
    let dst := placeOf s r (tAddr t 6) (d 2)
    if tOp t = 1 then placeLat dst + placeTicks s r dst (d 2) else copyTicks s r (placeOf s r (tAddr t 4) (d 2)) dst (d 2)
  | 1 =>
    64 + ceilDiv (d 4 % 8192) 128 * ceilDiv (fieldOf (d 4) 28 16) 64
      * (d 5 * (pairQ (fieldOf (d 3) 31 28) (fieldOf (d 3) 27 24)).getD 0 + 16)
  | 2 => 16 + ceilDiv (d 2 % 2 ^ 24) (if 5 ≤ tOp t ∧ tOp t ≤ 7 then 16 else 64)
  | 3 => 16 + d 3 * (ceilDiv (d 4) 64 + 8)
  | 4 =>
    let b := collBytes t
    match tOp t with
    | 0 =>
      let src := placeOf s r (tAddr t 6) b
      placeLat src + max (placeTicks s r src b) (ceilDiv b 64) + 8
    | 1 => 8
    | _ => 8 + 16 + ceilDiv (d 3) 64 + ceilDiv b 64 + 8
  | 5 => if tOp t = 2 then 8 + placeLat (placeOf s r (tAddr t 4) 8) else 8
  | _ => 8

/-! Memory domains under a ticket's operands (21 R554) -/

/-- The HBM ranges a ticket's operands lie in. -/
def hbmOperands (s : State) (r : Nat) (t : Tkt) : List (Nat × Nat) :=
  let one := fun a n => match placeOf s r a n with
    | .hbm x => [(x, n)]
    | _ => []
  match tKind t with
  | 0 => one (tAddr t 6) (tktDw t 2) ++ (if tOp t = 0 then one (tAddr t 4) (tktDw t 2) else [])
  | 4 => if tOp t = 1 then [] else one (tAddr t 6) (collBytes t)
  | 5 => if tOp t = 2 then one (tAddr t 4) 8 else []
  | _ => []

/-- The stacks a range of HBM touches: 128 units in a row touch all eight. -/
def stacksOf (x : Nat × Nat) : List Nat :=
  let n := unitsOf x.1 x.2
  if 128 ≤ n then List.range 8 else ((List.range n).map fun i => hbmStack (x.1 + 256 * i)).dedup

/-- Every stack under a ticket's operands is ON and not in reset. -/
def memReady (s : State) (r : Nat) (t : Tkt) : Bool :=
  (hbmOperands s r t).all fun x => (stacksOf x).all fun k => s.domUp (0x90 + k)

/-! Ring state -/

/-- A started ticket of a ring. -/
def runOf (s : State) (r idx : Nat) : Option RunT := (ringOf s r).run.find? fun x => x.t.idx == idx

/-- Change a started ticket. -/
def uRun (r idx : Nat) (f : RunT → RunT) (s : State) : State :=
  uRing r (fun q => { q with run := q.run.map fun x => if x.t.idx = idx then f x else x }) s

/-- GRV_STATUS of a cluster (19 Table 19.5). -/
def grvStatus (s : State) (r : Nat) : Nat :=
  let q := ringOf s r
  let st := if s.dom (r / 2) ≠ 2 then 0
    else if ringState s r = 3 then 5
    else if q.run.any (fun x => isBarrier x.t && x.phase == 1) then 3
    else if q.run.any (fun x => isFence x.t) then 4
    else if ringState s r = 2 then 2 else 1
  let busy := fun u => b2n (q.run.any fun x => tUnit x.t == some u)
  2 ^ 28 * st + 2 ^ 8 * ringHead s r + busy 0 + 2 * busy 1 + 4 * busy 2

/-- TKT_Rr_STATE, GRV_STATUS and TKT_STATUS follow a ring. -/
def ringSync (r : Nat) (s : State) : State :=
  let q := ringOf s r
  let st := ringState s r
  let st := if st = 1 ∨ st = 2 then (if ringHead s r ≠ ringTail s r ∨ !q.run.isEmpty then 2 else 1) else st
  let s := (s.fw (R.TKT_STATE r) 31 28 st).fw (R.TKT_STATE r) 22 16 q.queue.length
  let s := s.wr (R.GRV_STATUS r) (grvStatus s r)
  s.fw R.TKT_STATUS 8 0 (s.tkt.rings.filter fun e => !e.2.queue.isEmpty || !e.2.run.isEmpty).length

/-- Withdraw the queued tickets of a ring: their notes lapse (R536), HEAD stays at the first of them. -/
def withdraw (r : Nat) (s : State) : State :=
  let s := notesLapse 1 (fun n => n.ring == r && notePending s n) s
  hnPending (uRing r (fun q => { q with queue := [], wakeFrom := none, wake := 0, heldFrom := none, bare := [] }) s)

/-- A ring enters STOPPED with a cause (R542). -/
def stopRing (r cause : Nat) (s : State) : State :=
  if ringState s r = 3 then s
  else
    let s := withdraw r s
    let s := ((s.fw (R.TKT_STATE r) 31 28 3).fw (R.TKT_STATE r) 27 24 cause).fw R.TKT_STATUS 24 16 (s.fd R.TKT_STATUS 24 16 + 1)
    ringSync r (s.ev Ev.TKT_STOPPED r [cause, ringHead s r])

/-! Duty (05 R146, R147) -/

/-- A ticket that waits for its flag. -/
def flagWaits (x : RunT) : Bool := tKind x.t == 4 && tOp x.t != 0 && x.phase == 0

/-- The duty in force for a ticket, in 64ths. -/
def dutyNow (s : State) (r : Nat) (t : Tkt) : Nat := if throttled t then s.fd (R.PWR_GOV_STATUS_G (dieOf r)) 22 16 else 64

/-- Count the cycles a ticket of t cycles has issued and stalled under duty d up to a tick: it issues until its cycles are done, and
its wait for a flag counts as neither (R146; the spread inside a 64-cycle window: log 140). -/
def countCycles (now d t : Nat) (x : RunT) : RunT :=
  let dt := now - x.mark
  let need := 64 * t - x.issued
  if flagWaits x then { x with mark := now }
  else if dt * d < need then { x with mark := now, issued := x.issued + dt * d, stalled := x.stalled + dt * (64 - d) }
  else { x with mark := now, issued := x.issued + need, stalled := x.stalled + (64 * ceilDiv need d - need) }

/-- A started ticket of a ring with its cycles counted up to now. -/
def accrued (s : State) (r : Nat) (x : RunT) : RunT := countCycles s.ticks (dutyNow s r x.t) (tktCycles s r x.t) x

/-- The stall cycles of a ticket so far (R147): those of its dispatch (R155, R156) and those of the duty. -/
def stallOf (x : RunT) : Nat := satN 0xFFFFFFFF (x.hold + x.stalled / 64)

/-- Before a die's duty changes, the cycles of its started tickets are counted. -/
def accrueDie (g : Nat) (s : State) : State :=
  s.uTkt fun t => { t with rings := t.rings.map fun e =>
    (e.1, if dieOf e.1 = g then { e.2 with run := e.2.run.map (accrued s e.1) } else e.2) }

/-! Completion (R537, R538) -/

/-- What a completion record says beside its ticket. -/
structure Fin20 where
  status : Nat
  stall : Nat
  cont : Nat
  wait : Nat
  /-- LATENESS of a barrier. -/
  late : Nat
  endCt : Nat
  step : Bool
  uns : Bool
  deriving DecidableEq, Repr

/-- The completion record's dwords (Table 20.5). -/
def recordDws (s : State) (r : Nat) (x : RunT) (f : Fin20) : List Word :=
  let i := x.t.idx
  [w32 (2 ^ 31 * (1 - (i >>> ringLog s r) % 2) + 2 ^ 30 * b2n f.step + 2 ^ 29 * b2n f.uns + 2 ^ 24 * tKind x.t
      + 2 ^ 16 * f.status + i),
    w32 (tktDw x.t 1), w32 f.stall, w32 x.wake, w32 f.cont, w32 (if isBarrier x.t then f.late else f.wait), w32 x.start, w32 f.endCt]

/-- Write the record to its completion slot, dword 0 last. A slot outside HBM takes none (log 37). -/
def writeRecord (r : Nat) (x : RunT) (f : Fin20) (s : State) : State :=
  let a := s.rd64 (R.TKT_CQ_LO r) + 32 * (x.t.idx % 2 ^ ringLog s r)
  let ds := recordDws s r x f
  if a + 32 ≤ hbmSize then
    memWrite 1 .hbm a (goodBytes (dwBytes (ds.take 1))) (memWrite 1 .hbm (a + 4) (goodBytes (dwBytes (ds.drop 1))) s)
  else s

/-- A ticket that needs a stream context (R528). -/
def needsCtx (s : State) (t : Tkt) : Bool :=
  match tKind t with
  | 0 => gaChip (tAddr t 6) != s.chip || (tOp t == 0 && gaChip (tAddr t 4) != s.chip)
  | 4 => tOp t != 1
  | 5 => tOp t == 2 && gaChip (tAddr t 4) != s.chip
  | _ => false

/-- The counters of a completion (19 Table 19.5; 05 R147; 23 R593). -/
def countDone (r : Nat) (x : RunT) (f : Fin20) (s : State) : State :=
  let s := (s.count64 (R.GRV_DONE_LO r) 1).count64 (R.GRV_STALL_LO r) f.stall
  let s := (s.count64 (R.GRV_WAIT_LO r) f.wait).sat (R.GRV_CONTEND r) 31 0 f.cont
  let s := s.count64 (R.PWR_GOV_STALL_G_LO (dieOf r)) f.stall
  let s := s.fw (R.TKT_STATE r) 15 8 f.status
  let s := if 2 ≤ f.status then s.wr (R.GRV_ERR r) (2 ^ 24 * f.status + 2 ^ 8 * x.t.idx) else s
  if f.status ≠ 0 ∧ needsCtx s x.t = true then flowErr (tCtx x.t) f.status x.t.idx s else s

/-- The cause with which a completion stops its ring (Table 20.6), none where it does not. -/
def stopCause (s : State) (r : Nat) (x : RunT) (status : Nat) : Option Nat :=
  if status = 1 then (if bitOf (tktDw x.t 2) 0 then some 2 else none)
  else if status = 2 then some 5
  else if status = 4 then some 6
  else if status = 5 then some 3
  else if status = 6 then some 1
  else if 7 ≤ status ∧ s.bit (R.TKT_CFG r) 24 then some 1
  else none

/-- The next ticket of a ring waits for a started one: for its unit, or by its WAIT field (R526). -/
def nextWaits (q : Ring) (u : Tkt) : Bool :=
  match q.queue with
  | [] => true
  | t :: _ => ((tUnit t).isSome && tUnit t == tUnit u) || bitOf (tktDw t 0) 22
      || (List.range 16).any fun k => bitOf (tktDw t 0) k && u.idx == (t.idx + 65535 - k) % 65536

/-- The dispatch latency after a completion: 16 ticks after a barrier, 2 for a ticket that waited for another (R526; 19 R509). -/
def dispatchAfter (now : Nat) (t : Tkt) (q : Ring) : Ring :=
  if isBarrier t then { q with after := max q.after (now + 16) }
  else if nextWaits q t then { q with after := max q.after (now + 2) } else q

/-- A started ticket completes: its record, counters and interrupt; tickets that waited for it; the stop its status brings. -/
def finish (r : Nat) (x : RunT) (f : Fin20) (s : State) : State :=
  let s := uRing r (fun q => dispatchAfter s.ticks x.t { q with run := q.run.filter fun y => y.t.idx != x.t.idx }) s
  let s := uRing r (fun q => { q with run := q.run.map fun y => if y.phase = 0 ∧ (isFence y.t ∨ isBarrier y.t)
    then { y with last := s.ticks } else y }) s
  let s := countDone r x f (writeRecord r x f s)
  let s := if bitOf (tktDw x.t 0) 23 then irq (s.fd (R.TKT_CFG r) 10 0) R.TKT_IRQ_DROP s else s
  let s := match stopCause s r x f.status with
    | some c => stopRing r c s
    | none => s
  ringSync r s

/-- Wait cycles: those before the work began, and those from the end of the formula to the last response. -/
def waitCycles (x : RunT) (t stall cont : Nat) : Nat := x.before + (x.last - (x.tick + x.before + t + stall + cont))

/-- A completion that took t cycles by its formula. -/
def finishAt (r : Nat) (x : RunT) (t status stall cont : Nat) (s : State) : State :=
  let w := waitCycles x t stall cont
  finish r x ⟨status, stall, cont, w, 0, x.start + t + stall + cont + w, false, false⟩ s

/-- A completion at this tick, with the given wait and stall cycles. -/
def finishNow (r : Nat) (x : RunT) (status stall cont wait : Nat) (s : State) : State :=
  finish r x ⟨status, stall, cont, wait, 0, s.now, false, false⟩ s

/-! What tickets do -/

/-- Bytes of a Vellum region of the ring's cluster. -/
def velRead (r : Nat) (x : Nat × Nat) (s : State) : State × List PByte := memRead 1 .vel (2 ^ 21 * r + x.1) x.2 s

/-- Write a Vellum region of the ring's cluster. -/
def velWrite (r a : Nat) (bs : List PByte) (s : State) : State := memWrite 1 .vel (2 ^ 21 * r + a) bs s

/-- FP32 words of bytes. -/
def wordsOf : Nat → List Byte → List (BitVec 32)
  | 0, _ => []
  | n + 1, bs => BitVec.ofNat 32 (bytesToNat (bs.take 4)) :: wordsOf n (bs.drop 4)

/-- Bytes without their poison. -/
def plain (bs : List PByte) : List Byte := bs.map (·.1)

/-- The values of a matrix ticket's C (R529). -/
def matrixOut (s : State) (r : Nat) (t : Tkt) : List Byte :=
  let d := tktDw t
  let fa := fieldOf (d 3) 31 28
  let fb := fieldOf (d 3) 27 24
  let m := d 4 % 8192
  let n := fieldOf (d 4) 28 16
  let k := d 5
  let rd := fun a c => plain (velRead r (a, c) s).2
  let c0 := wordsOf (m * n) (if bitOf (d 3) 20 then rd (d 10) (4 * m * n) else [])
  (matrixWords fa fb m n k (rd (d 6) (fmtBytes fa (m * k))) (if fmtMx fa then rd (d 7) (m * k / 32) else [])
    (rd (d 8) (fmtBytes fb (n * k))) (if fmtMx fb then rd (d 9) (n * k / 32) else []) fun i => c0.getD i 0).flatMap
    fun w => natToBytes 4 w.toNat

/-- The two planes of a vector ticket's D (R530). -/
def vectorOut (s : State) (r : Nat) (t : Tkt) : List Byte × List Byte :=
  let d := tktDw t
  let f := fieldOf (d 2) 31 28
  let e := d 2 % 2 ^ 24
  let rd := fun a c => plain (velRead r (a, c) s).2
  let ae := rd (d 5) (fmtBytes f e)
  let asc := if fmtMx f then rd (d 6) (e / 32) else []
  let be := if vecHasB (tOp t) then rd (d 7) (fmtBytes f e) else []
  let bsc := if vecHasB (tOp t) ∧ fmtMx f then rd (d 8) (e / 32) else []
  let row := (rowLen (t.dws.getD 4 0)).getD 1
  let rows := if tOp t = 9 then wordsOf (e / row) (rd (d 7) (4 * (e / row))) else []
  toFmt (fieldOf (d 2) 27 24) ((List.range e).map fun i =>
    let b := if tOp t = 9 then rows.getD (i / row) 0 else if vecHasB (tOp t) then operandF32 f be bsc i else 0
    vectorF32 (tOp t) (operandF32 f ae asc i) b (t.dws.getD 3 0) (t.dws.getD 4 0))

/-- The values of a reduce ticket's D (R531). -/
def reduceOut (s : State) (r : Nat) (t : Tkt) : List Byte :=
  let d := tktDw t
  let f := fieldOf (d 2) 31 28
  let el := plain (velRead r (d 5, fmtBytes f (d 3 * d 4)) s).2
  (List.range (d 3)).flatMap fun i =>
    natToBytes 4 (reduceRow (tOp t) ((List.range (d 4)).map fun j => operandF32 f el [] (i * d 4 + j))).toNat

/-- What a matrix, vector or reduce ticket writes: offsets and bytes. -/
def computeOut (s : State) (r : Nat) (t : Tkt) : List (Nat × List Byte) :=
  match tKind t with
  | 1 => [(tktDw t 10, matrixOut s r t)]
  | 2 =>
    let o := vectorOut s r t
    (tktDw t 9, o.1) :: (if fmtMx (fieldOf (tktDw t 2) 27 24) then [(tktDw t 10, o.2)] else [])
  | _ => [(tktDw t 6, reduceOut s r t)]

/-- Run a matrix, vector or reduce ticket: a bad operand word marks the whole output region (21 R553). -/
def compute (r : Nat) (t : Tkt) (s : State) : State × Bool :=
  let outs := computeOut s r t
  let (s, bad) := (velIns t).foldl (fun (a : State × Bool) x =>
    let y := velRead r x a.1
    (y.1, a.2 || anyBad y.2)) (s, false)
  (outs.foldl (fun s o => velWrite r o.1 (o.2.map fun b => (b, bad)) s) s, bad)

/-- n free bytes. -/
def freeBytes (n : Nat) (s : State) : State × List Byte :=
  ((s.draw).2, (List.range n).map (Config.freeByte s.free))

/-- The bytes of a FILL: its pattern from DST on. -/
def fillBytes (t : Tkt) : List Byte :=
  let p := natToBytes 8 (tAddr t 4)
  (List.range (tktDw t 2)).map fun i => p.getD (i % 8) 0

/-- Bytes of an HBM source on a stack that was reset while they were read are bad (21 R554). -/
def strike (x : RunT) (p : Place) (bs : List PByte) : List PByte :=
  match p with
  | .hbm a =>
    if x.got.isEmpty then bs
    else (bs.zip (List.range bs.length)).map fun y => (y.1.1, y.1.2 || x.got.any fun g => g.at_ == hbmStack (a + y.2))
  | _ => bs

/-- The data of a MOVE to a local destination, at its completion. -/
def moveData (r : Nat) (x : RunT) (s : State) : State × List PByte :=
  let n := tktDw x.t 2
  if tOp x.t = 1 then (s, goodBytes (fillBytes x.t))
  else match placeOf s r (tAddr x.t 4) n with
    | .remote _ => (s, x.data)
    | p =>
      let y := placeRead 1 p n s
      (y.1, strike x p y.2)

/-- Doorbell: TAIL makes tickets available, or is an overrun (R522). -/
def doorbell (r tail : Nat) (s : State) : State :=
  let ahead := fun v => (v + 65536 - ringHead s r) % 65536
  if 2 ^ ringLog s r < ahead tail ∨ ahead tail < ahead (ringTail s r) then
    (s.sat R.TKT_DENY_CNT 31 0 1).ev Ev.TKT_DB_OVERRUN r []
  else ringSync r (s.fw (R.TKT_PTR r) 31 16 tail)

/-- The output regions of a matrix, vector or reduce ticket hold free bytes. -/
def freeOuts (r : Nat) (t : Tkt) (s : State) : State :=
  (velOuts t).foldl (fun s o =>
    let y := freeBytes o.2 s
    velWrite r o.1 (goodBytes y.2) y.1) s

/-! Tickets of one cluster that run at once on the same bytes (19 R517) -/

/-- Bytes of a local place: memory, key, length. -/
def placeSpan (s : State) (r a n : Nat) : List (Ram × Nat × Nat) :=
  match placeRam (placeOf s r a n) with
  | some (m, k) => [(m, k, n)]
  | none => []

/-- Regions of the ring's own Vellum. -/
def velSpans (r : Nat) (xs : List (Nat × Nat)) : List (Ram × Nat × Nat) := xs.map fun x => (.vel, 2 ^ 21 * r + x.1, x.2)

/-- What a ticket reads in this package, flags apart. -/
def spansIn (s : State) (r : Nat) (t : Tkt) : List (Ram × Nat × Nat) :=
  match tKind t with
  | 0 => if tOp t = 1 then [] else placeSpan s r (tAddr t 4) (tktDw t 2)
  | 4 => (if tOp t = 1 then [] else placeSpan s r (tAddr t 6) (collBytes t)) ++ (if tOp t = 2 then velSpans r [(tktDw t 5, collBytes t)] else [])
  | _ => velSpans r (velIns t)

/-- What a ticket writes in this package, flags apart. -/
def spansOut (s : State) (r : Nat) (t : Tkt) : List (Ram × Nat × Nat) :=
  match tKind t with
  | 0 => placeSpan s r (tAddr t 6) (tktDw t 2)
  | 4 => (if tOp t = 2 then placeSpan s r (tAddr t 6) (collBytes t) else []) ++ (if tOp t = 1 then [] else placeSpan s r (tAddr t 8) (collBytes t))
  | 5 => if tOp t = 2 then placeSpan s r (tAddr t 4) 8 else []
  | _ => velSpans r (velOuts t)

/-- Two spans share a byte. -/
def spansMeet (a b : Ram × Nat × Nat) : Bool := a.1 == b.1 && regionsMeet a.2 b.2

/-- One of two tickets writes bytes that the other reads or writes. -/
def clashes (s : State) (r : Nat) (t u : Tkt) : Bool :=
  (spansOut s r t).any (fun a => (spansIn s r u ++ spansOut s r u).any (spansMeet a)) || (spansOut s r u).any fun a => (spansIn s r t).any (spansMeet a)

/-- A ticket that has started, and those that run with it, are marked where they clash. -/
def markClash (r : Nat) (t : Tkt) (s : State) : State :=
  let meets := fun (y : RunT) => y.t.idx != t.idx && clashes s r t y.t
  uRing r (fun q => { q with run := q.run.map fun x =>
    { x with clash := x.clash || (if x.t.idx = t.idx then q.run.any meets else meets x) } }) s

/-- What a ticket writes is free where the outcome is not defined. -/
def blur (x : RunT) (bs : List PByte) (s : State) : State × List PByte :=
  if x.clash then
    let y := freeBytes bs.length s
    (y.1, y.2.zip (bs.map (·.2)))
  else (s, bs)

/-- The work a ticket does at its completion, and whether it met bad data. -/
def localWork (r : Nat) (x : RunT) (s : State) : State × Bool :=
  let t := x.t
  match tKind t with
  | 0 =>
    match placeOf s r (tAddr t 6) (tktDw t 2) with
    | .remote _ => (s, false)
    | p =>
      let y := moveData r x s
      let z := blur x y.2 y.1
      (placeWrite 1 p 0 z.2 z.1, anyBad y.2)
  | 4 => (s, false)
  | 5 =>
    if tOp t = 2 then
      match placeOf s r (tAddr t 4) 8 with
      | .remote _ => (s, false)
      | p =>
        let z := blur x (goodBytes (natToBytes 8 (tAddr t 6))) s
        (placeWrite 1 p 0 z.2 z.1, false)
    else if tOp t = 3 then (doorbell (tktDw t 2) (tktDw t 3) s, false)
    else (s, false)
  | 6 => (s, false)
  | _ =>
    let y := compute r t s
    if x.clash then (freeOuts r t y.1, y.2) else y

/-! Reads of bytes that running tickets write (19 R518) -/

/-- Started tickets whose work, done now, would write bytes of a range: ring and ticket. -/
def midWriters (s : State) (m : Ram) (k n : Nat) : List (Nat × RunT) :=
  s.tkt.rings.flatMap fun e =>
    (e.2.run.filter fun x => x.phase == 4 && (spansOut s e.1 x.t).any (spansMeet (m, k, n))).map fun x => (e.1, x)

/-- A read of PCI Express, the transfer engine or SDFP: of bytes that a running ticket writes it brings the old or the new value of each
aligned 8-byte word, which of them is free (19 R518). -/
def midRead (src : Nat) (m : Ram) (k n : Nat) (s : State) : State × List PByte :=
  let y := memRead src m k n s
  let ws := midWriters s m k n
  if ws.isEmpty then y
  else
    let news := ws.map fun w => (memRead src m k n (localWork w.1 w.2 s).1).2
    (y.1.draw.2, (y.2.zip (List.range n)).map fun b =>
      let c := (Config.freeByte y.1.free ((k + b.2) / 8 - k / 8)).toNat % (news.length + 1)
      if c = 0 then b.1 else (news.getD (c - 1) []).getD b.2 b.1)

/-! Data over the fabric (R532, R533, R690) -/

/-- The address a collective or move reads from, and its bytes. -/
def srcOf (t : Tkt) : Nat × Nat := if tKind t = 0 then (tAddr t 4, tktDw t 2) else (tAddr t 6, collBytes t)

/-- The first failure of a request over the fabric decides the status; an abort stands. -/
def failWith (st : Nat) (x : RunT) : RunT := if st = 0 ∨ x.status = 5 ∨ 0x10 ≤ x.status then x else { x with status := 0x10 + st }

/-- Mark a ticket whose local operand was bad. -/
def failPoison (bad : Bool) (x : RunT) : RunT := if bad ∧ x.status = 0 then { x with status := 3 } else x

/-- Write the flag of a SEND or ARSEG, after its data and only if all of it went well (R690). -/
def flagPhase (r idx : Nat) (s : State) : State :=
  match runOf s r idx with
  | none => s
  | some x =>
    if tKind x.t ≠ 4 ∨ 5 ≤ x.status then uRun r idx (fun y => { y with phase := 4 }) s
    else issueReq (orderedWrite (tCtx x.t) (.ticket r idx) (tAddr x.t 10) (natToBytes 8 (tAddr x.t 12)))
      (uRun r idx (fun y => { y with phase := 3, wait := 1 }) s)

/-- Send a ticket's data over the fabric: to DST, and an ARSEG's result to a REMOTE SRC too. -/
def writePhase (r idx : Nat) (data : List PByte) (s : State) : State :=
  match runOf s r idx with
  | none => s
  | some x =>
    let dst := if tKind x.t = 0 then tAddr x.t 6 else tAddr x.t 8
    let z := blur x data s
    let s := z.1
    let data := z.2
    let ws := remoteWrites (tCtx x.t) (.ticket r idx) dst data 0
    let back := if tKind x.t = 4 ∧ tOp x.t = 2 ∧ gaChip (tAddr x.t 6) ≠ s.chip
      then remoteWrites (tCtx x.t) (.ticket r idx) (tAddr x.t 6) data 0 else []
    let ws := back ++ ws
    if ws.isEmpty then flagPhase r idx s
    else issueReqs ws (uRun r idx (fun y => { y with phase := 2, wait := ws.length }) s)

/-- Sum of two elements of FMT. -/
def addElem (f : Nat) (a b : List PByte) : List PByte :=
  let bad := anyBad a || anyBad b
  let v := fun (x : List PByte) => BitVec.ofNat 32 ((if f = 0 then 1 else 65536) * bytesToNat (plain x))
  let r := addF32 (v a) (v b)
  (if f = 0 then natToBytes 4 r.toNat else natToBytes 2 (toBf16 r)).map fun x => (x, bad)

/-- Sums of n elements. -/
def addElems (f : Nat) : Nat → List PByte → List PByte → List PByte
  | 0, _, _ => []
  | n + 1, a, b =>
    let k := if f = 0 then 4 else 2
    addElem f (a.take k) (b.take k) ++ addElems f n (a.drop k) (b.drop k)

/-- An ARSEG's sum of A and RBUF (R533). -/
def arsegSum (r idx : Nat) (a : List PByte) (s : State) : State :=
  match runOf s r idx with
  | none => s
  | some x =>
    let y := velRead r (tktDw x.t 5, collBytes x.t) s
    let d := addElems (fieldOf (tktDw x.t 2) 31 28) (tktDw x.t 3) a y.2
    let s := uRun r idx (failPoison (anyBad a || anyBad y.2)) y.1
    let z := blur x d s
    let s := placeWrite 1 (placeOf s r (tAddr x.t 6) (collBytes x.t)) 0 z.2 z.1
    writePhase r idx z.2 s

/-- The source's data has come: what the ticket does with it. -/
def withSource (r idx : Nat) (data : List PByte) (s : State) : State :=
  match runOf s r idx with
  | none => s
  | some x =>
    let s := uRun r idx (failPoison (anyBad data)) s
    if tKind x.t = 0 ∧ gaChip (tAddr x.t 6) = s.chip then uRun r idx (fun y => { y with phase := 4, data := data }) s
    else if tKind x.t = 4 ∧ tOp x.t = 2 then arsegSum r idx data s
    else writePhase r idx data s

/-- Read a ticket's source: at once where it is local and its memory is up, over the fabric otherwise. -/
def sourcePhase (r idx : Nat) (s : State) : State :=
  match runOf s r idx with
  | none => s
  | some x =>
    let (a, n) := srcOf x.t
    if gaChip a ≠ s.chip then
      let ws := remoteReads (tCtx x.t) (.ticket r idx) a n 0
      if ws.isEmpty then withSource r idx [] s
      else issueReqs ws (uRun r idx (fun y => { y with phase := 1, wait := ws.length }) s)
    else if memReady s r x.t then
      let y := placeRead 1 (placeOf s r a n) n s
      withSource r idx y.2 y.1
    else uRun r idx (fun y => { y with phase := 1, wait := 0 }) s

/-- The pieces of a remote source in order. -/
def piecesOf (x : RunT) : List PByte :=
  (splitReq (srcOf x.t).1 (srcOf x.t).2).flatMap fun p =>
    match x.got.find? fun g => g.at_ == p.1 with
    | some g => goodBytes g.bytes
    | none => []

/-- All responses of a phase are in (R471, R690). -/
def phaseDone (r idx : Nat) (s : State) : State :=
  match runOf s r idx with
  | none => s
  | some x =>
    if x.status = 5 then
      let k := stallOf (accrued s r x)
      finishNow r x 5 k x.cont (s.ticks - x.tick - k - x.cont) s
    else match x.phase with
      | 1 =>
        if 0x10 ≤ x.status then
          uRun r idx (fun y => { y with phase := 4, data := piecesOf x }) s
        else withSource r idx (piecesOf x) s
      | 2 => flagPhase r idx s
      | _ => uRun r idx (fun y => { y with phase := 4 }) s

/-- A response to a ticket's request (R471): the bytes a failed read would have brought are free. -/
def tktResponse (r idx : Nat) (w : FabWant) (status : Nat) (bytes : List Byte) (s : State) : State :=
  match runOf s r idx with
  | none => s
  | some x =>
    let data := x.phase == 1 || x.phase == 2
    let s := if status = 0 ∧ data = true then flowBytes (tCtx x.t) w.len s else s
    let y := if status = 0 ∨ x.phase ≠ 1 then (s, bytes) else freeBytes w.len s
    let s := uRun r idx (fun z => failWith status { z with
      wait := z.wait - 1, last := s.ticks,
      got := if z.phase = 1 then z.got ++ [⟨w.at_, y.2, false⟩] else z.got }) y.1
    if x.wait ≤ 1 then phaseDone r idx s else s

/-! Dispatch (R526) -/

/-- A started ticket begins its work. -/
def tktGo (r : Nat) (t : Tkt) (s : State) : State :=
  let work := fun s => uRun r t.idx (fun y => { y with phase := 4 }) s
  match tKind t with
  | 0 =>
    if tOp t = 1 then
      (if gaChip (tAddr t 6) = s.chip then work s else writePhase r t.idx (goodBytes (fillBytes t)) s)
    else if gaChip (tAddr t 4) = s.chip ∧ gaChip (tAddr t 6) = s.chip then work s
    else sourcePhase r t.idx s
  | 4 => if tOp t = 0 then sourcePhase r t.idx s else s
  | 5 =>
    if tOp t ≤ 1 then s
    else if tOp t = 2 ∧ gaChip (tAddr t 4) ≠ s.chip then
      issueReq (orderedWrite (tCtx t) (.ticket r t.idx) (tAddr t 4) (natToBytes 8 (tAddr t 6)))
        (uRun r t.idx (fun y => { y with phase := 3, wait := 1 }) s)
    else work s
  | 6 => powerStart r (sgn 16 (tktDw t 2)) (work s)
  | _ => work s

/-- Earlier tickets a ticket waits for have completed (R526). -/
def waitsOver (q : Ring) (t : Tkt) : Bool :=
  if bitOf (tktDw t 0) 22 then q.run.isEmpty
  else (List.range 16).all fun k =>
    !bitOf (tktDw t 0) k || !q.run.any fun x => x.t.idx == (t.idx + 65535 - k) % 65536

/-- A ticket whose note has lapsed. -/
def isBare (s : State) (r : Nat) (t : Tkt) : Bool := (ringOf s r).bare.contains t.idx

/-- A ticket that carries a note finds one planned or an entry for it (R155); one whose note has lapsed needs none (R153). -/
def noteFits (s : State) (r : Nat) (t : Tkt) : Bool :=
  t.bad || (tKind t != 1 && tKind t != 6) || isBare s r t || (noteOf s r t.idx).isSome || noteRoom s (dieOf r) s.now

/-- A power ticket's rise finds room (R156). -/
def powerFits (s : State) (r : Nat) (t : Tkt) : Bool :=
  t.bad || tKind t != 6 || riseFits s (dieOf r) (pu (sgn 16 (tktDw t 2)) - powerOf s r)

/-- A domain joins those whose power-up waits for its rail (05 R137). -/
def queueUp (d : Nat) (s : State) : State :=
  if s.pwr.upQ.contains d then s else s.uPwr fun p => { p with upQ := p.upQ ++ [d] }

/-- The next ticket waits at dispatch for its pair: AUTO wakes it (05 R139). -/
def waitForPair (r : Nat) (s : State) : State :=
  let s := uRing r (fun q => { q with wakeFrom := some (q.wakeFrom.getD s.ticks) }) s
  if s.dom (r / 2) = 0 ∧ s.pwr.auto.contains (r / 2) then queueUp (r / 2) s else s

/-- The wake cycles of a ring's next ticket (05 R139). -/
def wakeCycles (s : State) (r : Nat) : Nat :=
  (ringOf s r).wake + (match (ringOf s r).wakeFrom with
    | some k => s.ticks - k
    | none => 0)

/-- A pair is ON: the wake cycles of the tickets that waited for it are over (05 R139). -/
def wakeOver (r : Nat) (s : State) : State := uRing r (fun q => { q with wake := wakeCycles s r, wakeFrom := none }) s

/-- The next ticket waits at dispatch for a note entry or for room (05 R155, R156). -/
def holdTicket (r : Nat) (s : State) : State := uRing r (fun q => { q with heldFrom := some (q.heldFrom.getD (s.now, s.ticks)) }) s

/-- The note of a ticket that enters the look-ahead window, with a shorter lead where it comes late (R150, R154). -/
def noteEnter (r : Nat) (t : Tkt) (start : Nat) (s : State) : State :=
  let lead := fieldOf (tktDw t 2) 19 16
  let room := (start - s.now) / 8000
  let s := if room < lead then s.sat R.PWR_HN_SHORT_CNT 31 0 1 else s
  noteAdd r t (tktCycles s r t) start (min lead room) s

/-- A ticket that starts has its note: the one planned, one planned only now, or after a lapse one outside the plan (R150, R153). -/
def noteStart (r : Nat) (t : Tkt) (bare : Bool) (s : State) : State :=
  if tKind t ≠ 1 ∧ tKind t ≠ 6 then s
  else
    let s := if tKind t = 6 then dropBare r s else s
    if bare then noteBare r t s
    else if (noteOf s r t.idx).isSome then s
    else noteEnter r t s.now s

/-- Start a ticket that nothing holds back. The cycles it was held at dispatch count as stall cycles, so its START lies before them. -/
def tktBegin (r : Nat) (t : Tkt) (s : State) : State :=
  let bare := isBare s r t
  let from_ := (ringOf s r).heldFrom.getD (s.now, s.ticks)
  let x : RunT := ⟨t, from_.1, from_.2, wakeCycles s r, 0, 0, 0, [], [], 0, s.ticks, false, s.ticks - from_.2, 0, 0, s.ticks, 0⟩
  let s := uRing r (fun q => { q with
    queue := q.queue.drop 1, run := q.run ++ [x], wakeFrom := none, wake := 0, heldFrom := none, bare := q.bare.filter (· != t.idx),
    after := s.ticks + 2 }) s
  let s := hnPending (s.fw (R.TKT_PTR r) 15 0 ((t.idx + 1) % 65536))
  if t.bad then finish r x ⟨6, 0, 0, 0, 0, s.now, false, false⟩ s
  else if needsCtx s t ∧ !isFlow s (tCtx t) then finish r x ⟨8, 0, 0, 0, 0, s.now, false, false⟩ s
  else
    ringSync r (tktGo r t (markClash r t (noteStart r t bare s)))

/-- Start the next ticket of a ring if all it waits for has come and the dispatch latency is over (R493, R508, R526; 05 R139, R155,
R156). -/
def tktStart (r : Nat) (s : State) : State :=
  let q := ringOf s r
  if ringState s r ≠ 1 ∧ ringState s r ≠ 2 then s
  else match q.queue with
    | [] => s
    | t :: _ =>
      if q.run.any (fun x => isBarrier x.t) ∨ s.ticks < q.after then s
      else if (tUnit t).isSome ∧ q.run.any (fun x => tUnit x.t == tUnit t) then s
      else if !waitsOver q t then s
      else if !s.domUp (r / 2) then waitForPair r s
      else if !noteFits s r t ∨ !powerFits s r t then holdTicket r s
      else tktBegin r t s

/-! Fetch (R524) -/

/-- Sixteen dwords of bytes. -/
def tktWords (bs : List Byte) : List Word := wordsOf 16 bs

/-- Fetch the next ticket made available, if the queue has room. -/
def tktFetch (r : Nat) (s : State) : State :=
  let q := ringOf s r
  let i := (ringHead s r + q.queue.length) % 65536
  if (ringState s r ≠ 1 ∧ ringState s r ≠ 2) ∨ 64 ≤ q.queue.length ∨ i = ringTail s r then s
  else
    let a := s.rd64 (R.TKT_BASE_LO r) + 64 * (i % 2 ^ ringLog s r)
    if !(stacksOf (a, 64)).all fun k => s.domUp (0x90 + k) then s
    else
    let y := if a + 64 ≤ hbmSize then memRead 1 .hbm a 64 s else (s, List.replicate 64 (0, true))
    let t : Tkt := ⟨i, tktWords (plain y.2), false⟩
    let bad := anyBad y.2 || !tktGood s r t
    ringSync r (uRing r (fun q => { q with queue := q.queue ++ [{ t with bad := bad }] }) y.1)

/-! Barriers, fences, flags -/

/-- RELEASE_CT of a barrier less CT, as a signed number. -/
def barrierAhead (s : State) (t : Tkt) : Int := sgn 64 (wrapN 64 ((tAddr t 4 : Int) - s.now))

/-- TIME_STATE is UNSYNCED (04). -/
def unsynced (s : State) : Bool := s.fd R.TIME_STATUS 2 0 == 4

/-- A barrier completes at this tick (19 R509, R510). -/
def barrierEnd (r : Nat) (x : RunT) (status late : Nat) (s : State) : State :=
  let step := decide (s.time.landed = s.ticks) && decide (s.ticks ≠ 0)
  finish r x ⟨status, 0, 0, 0, late, s.now, step, unsynced s⟩ s

/-- A barrier takes effect: it waits, is late or out of range (19 R508, R510, R512). -/
def barrierEffect (r : Nat) (x : RunT) (s : State) : State :=
  let s := s.wr64 (R.GRV_BAR_CT_LO r) (tAddr x.t 4)
  let d := barrierAhead s x.t
  if 2 ^ 34 < d then barrierEnd r x 2 0 (s.ev Ev.BARRIER_RANGE r [])
  else if d < 0 then
    let late := satN 0xFFFFFFFF d.natAbs
    let s := (s.wr (R.GRV_LATE r) late).sat (R.GRV_BAR_CNT r) 31 16 1
    let g := dieOf r
    let s := s.uTkt fun t => { t with late := setAt (0, 0) t.late g ((t.late.getD g (0, 0)).1 + 1, max (t.late.getD g (0, 0)).2 late) }
    barrierEnd r x 1 late s
  else ringSync r (uRun r x.t.idx (fun y => { y with phase := 1 }) s)

/-- The barrier that is a ring's only started ticket and has not yet taken effect. -/
def barrierDue (s : State) (r : Nat) : Option RunT :=
  match (ringOf s r).run with
  | [x] => if isBarrier x.t ∧ x.phase = 0 then some x else none
  | _ => none

/-- BARRIER_TAKE_EFFECT: a barrier at the front starts first if nothing is started before it. -/
def barrierTake (r : Nat) (s : State) : State :=
  let q := ringOf s r
  let front := match q.queue with
    | t :: _ => isBarrier t && !t.bad
    | [] => false
  let s := if q.run.isEmpty && front then tktStart r s else s
  match barrierDue s r with
  | some x => barrierEffect r x s
  | none => s

/-- A waiting barrier whose instant CT has reached completes OK (19 R509, 04 R122). -/
def barrierOut (r : Nat) (s : State) : State :=
  match (ringOf s r).run.find? fun x => isBarrier x.t && x.phase == 1 with
  | none => s
  | some x => if 0 < barrierAhead s x.t then s else barrierEnd r x 0 0 (s.sat (R.GRV_BAR_CNT r) 15 0 1)

/-- The first FENCE of a ring with no earlier ticket still running completes, 8 ticks after the last of them (19 R515). -/
def fenceOut (r : Nat) (s : State) : State :=
  match (ringOf s r).run with
  | x :: _ => if isFence x.t ∧ max x.tick x.last + 8 ≤ s.ticks then finishAt r { x with before := x.last - x.tick, last := x.tick } 8 0 0 0 s else s
  | [] => s

/-- The flag a RECV or ARSEG waits for has come: the word at LFLAG, read good, has reached LVAL (R533). -/
def flagCame (r : Nat) (x : RunT) (s : State) : State × Bool :=
  let y := velRead r (tktDw x.t 4, 8) s
  (y.1, !anyBad y.2 && decide (0 ≤ sgn 64 (wrapN 64 ((bytesToNat (plain y.2) : Int) - tAddr x.t 14))))

/-- A flag arrives. -/
def flagArrive (r idx : Nat) (s : State) : State :=
  match runOf s r idx with
  | none => s
  | some x =>
    if !flagWaits x then s
    else
      let y := flagCame r x s
      if y.2 then
        let s := uRun r idx (fun z => { z with before := s.ticks - z.tick, phase := 4, mark := s.ticks }) y.1
        ringSync r (if tOp x.t = 2 then sourcePhase r idx s else s)
      else y.1

/-- A flag wait that has lasted LIMIT (R533) ends: LIMIT µs of wait cycles. -/
def waitOut (r idx : Nat) (s : State) : State :=
  match runOf s r idx with
  | none => s
  | some x =>
    let lim := tktDw x.t 2 % 65536
    if flagWaits x ∧ lim ≠ 0 ∧ x.tick + 1600 * lim ≤ s.ticks then finishAt r { x with before := 1600 * lim } 0 7 0 0 s else s

/-- A ticket's time has come: it completes if its responses are in, its memory is up and its cycles have been issued. The stall cycles
the event reports are those the duty and its dispatch gave it (05 R147), and its contention cycles those its writes waited (19 R501): one
that reports others, or comes before its cycles are over, is no completion of this ticket (log 140). -/
def tktComplete (r idx stall cont : Nat) (s : State) : State :=
  match runOf s r idx with
  | none => s
  | some y =>
    let t := tktCycles s r y.t
    let x := accrued s r y
    if x.phase ≠ 4 ∨ isBarrier x.t ∨ isFence x.t ∨ !memReady s r x.t then s
    else if x.issued < 64 * t ∨ stall ≠ stallOf x ∨ cont ≠ satN 0xFFFFFFFF x.cont ∨ s.ticks < x.tick + x.before + t + stall + cont then s
    else
      let y := localWork r x s
      finishAt r x t (failPoison y.2 x).status stall cont y.1

/-! Two moves into one Vellum (19 R501) -/

/-- The cluster into whose Vellum a started move of a ring writes by PEER or PEER_X in the tick that begins now. -/
def moveInto (s : State) (r : Nat) (x : RunT) : Option Nat :=
  if tKind x.t ≠ 0 ∨ x.phase ≠ 4 then none
  else
    let n := tktDw x.t 2
    let dst := placeOf s r (tAddr x.t 6) n
    let lat := if tOp x.t = 1 then placeLat dst else max (placeLat (placeOf s r (tAddr x.t 4) n)) (placeLat dst)
    let issued := (accrued s r x).issued
    if issued < 64 * lat ∨ 64 * tktCycles s r x.t ≤ issued then none
    else match dst with
      | .peer k => some (k / 2 ^ 21)
      | .peerX k => some (k / 2 ^ 21)
      | _ => none

/-- A tick of the moves that write into other clusters' Vellum: of those that write into one, the lowest-numbered cluster's proceeds and the
others wait: this tick they neither issue nor stall (05 R146). -/
def contendTick (s : State) : State :=
  let ws := s.tkt.rings.flatMap fun e => e.2.run.filterMap fun x => (moveInto s e.1 x).map fun c => (e.1, x.t.idx, c)
  ws.foldl (fun s w => if ws.any fun v => decide (v.1 < w.1) && v.2.2 == w.2.2 then
    uRun w.1 w.2.1 (fun x => { accrued s w.1 x with cont := x.cont + 1, mark := s.ticks + 1 }) s
    else s) s

/-! Abort, restart, resets (R540, R541, R96; 03 Table 3.4) -/

/-- A value below n, free. -/
def drawBelow (n : Nat) (s : State) : Nat × State := (s.draw.1.toNat % max 1 n, s.draw.2)

/-- A move that is ended has written whole 256-byte units, how many is free. -/
def partMove (r : Nat) (x : RunT) (s : State) : State :=
  let n := tktDw x.t 2
  match placeOf s r (tAddr x.t 6) n with
  | .remote _ => s
  | p =>
    let d := drawBelow (unitsOf (tAddr x.t 6) n + 1) s
    let k := if d.1 = 0 then 0 else min n (256 * d.1 - tAddr x.t 6 % 256)
    let y := moveData r x d.2
    let z := blur x (y.2.take k) y.1
    placeWrite 1 p 0 z.2 z.1

/-- An ended EVENT or DOORBELL may have acted or not. -/
def maybeWork (r : Nat) (x : RunT) (s : State) : State :=
  let d := drawBelow 2 s
  if d.1 = 0 then d.2 else (localWork r x d.2).1

/-- What an ended ticket leaves behind. -/
def partWork (r : Nat) (x : RunT) (s : State) : State :=
  if x.phase ≠ 4 then s
  else match tKind x.t with
    | 0 => partMove r x s
    | 4 => s
    | 5 => maybeWork r x s
    | 6 => s
    | _ => freeOuts r x.t s

/-- End one started ticket at once with a status and the stall cycles it has had. -/
def endTicket (r status : Nat) (x : RunT) (s : State) : State :=
  let s := partWork r x s
  if x.phase = 0 then finishNow r x status 0 0 (if isBarrier x.t then 0 else s.ticks - x.tick) s
  else finishNow r x status (stallOf (accrued s r x)) x.cont 0 s

/-- ABORT ends one started ticket: one with requests outstanding completes with its last response. -/
def abortTicket (r idx : Nat) (s : State) : State :=
  match runOf s r idx with
  | none => s
  | some x =>
    if x.wait ≠ 0 then uRun r idx (fun y => { y with status := 5 }) s else endTicket r 5 x s

/-- The notes of a ring's started tickets lapse. -/
def lapseRun (r : Nat) (s : State) : State :=
  notesLapse 1 (fun n => n.ring == r && (runOf s r n.idx).isSome) s

/-- ABORT (R540). -/
def abortRing (r : Nat) (s : State) : State :=
  if ringState s r = 0 then s
  else
    let s := lapseRun r (stopRing r 3 s)
    ringSync r ((ringOf s r).run.foldl (fun s x => abortTicket r x.t.idx s) s)

/-- RESTART (R541). -/
def restartRing (r : Nat) (skip : Bool) (s : State) : State :=
  if ringState s r ≠ 3 then s
  else
    let s := if skip then s.fw (R.TKT_PTR r) 15 0 (ringTail s r) else s
    let s := ((s.fw (R.TKT_STATE r) 31 28 1).fw (R.TKT_STATE r) 27 24 0).fw R.TKT_STATUS 24 16 (s.fd R.TKT_STATUS 24 16 - 1)
    ringSync r s

/-- Rings in IDLE or RUN. -/
def ringGoes (s : State) (r : Nat) : Bool := ringState s r == 1 || ringState s r == 2

/-- Host-fed rings stop (R96; 22 R575). -/
def stopHostRings (s : State) : State :=
  ((List.range 256).filter fun r => s.fd (R.TKT_FEED r) 1 0 == 0 && ringGoes s r).foldl (fun s r => stopRing r 4 s) s

/-- A domain reset of a Graver pair: started tickets complete with RESET, the rings with tickets stop (03 Table 3.4; Table 20.6). -/
def pairReset (p : Nat) (s : State) : State :=
  [2 * p, 2 * p + 1].foldl (fun s r =>
    let q := ringOf s r
    if q.queue.isEmpty ∧ q.run.isEmpty then s
    else
      let s := lapseRun r (stopRing r 6 s)
      ringSync r ((ringOf s r).run.foldl (fun s x => endTicket r 4 x s) s)) s

/-- A memory domain is back: tickets that waited for it go on, and their wait ends (21 R554). -/
def memBack (k : Nat) (s : State) : State :=
  let hit := fun r (t : Tkt) => (hbmOperands s r t).any fun x => (stacksOf x).contains k
  let all := s.tkt.rings.flatMap fun e => (e.2.run.filter fun x => hit e.1 x.t).map fun x => (e.1, x)
  all.foldl (fun s y =>
    let s := uRun y.1 y.2.t.idx (fun x => { x with last := s.ticks }) s
    if y.2.phase = 1 ∧ y.2.wait = 0 ∧ !isBarrier y.2.t then sourcePhase y.1 y.2.t.idx s else s) s

/-- A memory domain reset begins: moves that are reading the stack take poison (21 R554). -/
def memStrike (k : Nat) (s : State) : State :=
  let hit := fun r (t : Tkt) => tKind t == 0 && tOp t == 0 && (match placeOf s r (tAddr t 4) (tktDw t 2) with
    | .hbm a => (stacksOf (a, tktDw t 2)).contains k
    | _ => false)
  let all := s.tkt.rings.flatMap fun e => (e.2.run.filter fun x => x.phase == 4 && hit e.1 x.t).map fun x => (e.1, x.t.idx)
  all.foldl (fun s y => uRun y.1 y.2 (fun x => { x with got := x.got ++ [⟨k, [], true⟩] }) s) s

/-! Doorbells and configuration by path (R521–R523) -/

/-- A path that may write any ring's registers. -/
def ringMaster (p : Path) : Bool := !hostLike p

/-- Discard a write with TKT_DENIED. -/
def tktDeny (p : Path) (off v : Nat) (s : State) : State := (s.sat R.TKT_DENY_CNT 31 0 1).deny Ev.TKT_DENIED off v p

/-- FEED lets a path ring the doorbell (Table 20.1). -/
def mayRing (s : State) (p : Path) (r : Nat) : Bool :=
  ringMaster p || (p == .pcie && s.fd (R.TKT_FEED r) 1 0 == 0) || (p == .sdfp && s.fd (R.TKT_FEED r) 1 0 == 1)

/-- A write of TKT_Rr_DB. -/
def doorbellWrite (p : Path) (r v : Nat) (s : State) : State :=
  if mayRing s p r then doorbell r (v % 65536) s else tktDeny p (R.TKT_DB r) v s

/-- A write of a ring's CFG, BASE or CQ dword (R523, R542). -/
def ringConfig (p : Path) (off v : Nat) (s : State) : State :=
  let r := (off - 0xC01000) / 0x40 % 256
  let st := ringState s r
  let en := bitOf v 31
  if !(ringMaster p || (p == .pcie && s.fd (R.TKT_FEED r) 1 0 == 0)) then tktDeny p off v s
  else if off = R.TKT_CFG r then
    if st = 0 then
      let s := s.put off v
      if en then ringSync r ((s.wr (R.TKT_PTR r) 0).fw (R.TKT_STATE r) 31 28 1) else s
    else if st = 3 then
      let s := s.put off v
      if en then s
      else ringSync r (((s.fw (R.TKT_STATE r) 31 28 0).fw (R.TKT_STATE r) 27 24 0).fw R.TKT_STATUS 24 16 (s.fd R.TKT_STATUS 24 16 - 1))
    else if st = 1 ∧ !en then ringSync r ((s.put off v).fw (R.TKT_STATE r) 31 28 0)
    else tktDeny p off v s
  else if st = 0 ∨ st = 3 then s.put off v
  else tktDeny p off v s

/-- A write of TKT_Rr_FEED that the access rules let through: FEED 3 is reserved (R521). -/
def feedWrite (p : Path) (off v : Nat) (s : State) : State :=
  if hostLike p ∨ v % 4 = 3 then tktDeny p off v s else s.put off v

/-- A write of GRV_HBM_SHARE that the access rules let through (19 R499). -/
def shareWrite (p : Path) (off v : Nat) (s : State) : State :=
  let c := (off - 0x1000000) / 0x1000
  let new := fieldOf (keptBits off v) 6 0
  let sum := (List.range 256).foldl (fun a k => a + shareOf s k) 0
  let old := shareOf s c
  let q := ringOf s c
  let uses := (q.queue ++ q.run.map (·.t)).any fun t => !t.bad && !(hbmOperands s c t).isEmpty
  if hostLike p ∨ (old < new ∧ 960 < sum - old + new) ∨ (new = 0 ∧ uses = true) then s.deny Ev.GRV_SHARE_DENIED off v p
  else s.put off v

end Sys2Proof.Machine
end

