-- ==== Sys2Proof/Machine/XfeOps.lean ====
section
/-! DEFINITION. The transfer engine (23): contexts, descriptor rings, bursts and their landing, the reshuffle modes, statuses, the
rate limiter, host events. The rows stand in XfeRows.lean. -/

namespace Sys2Proof.Machine

/-! Contexts -/

/-- A stream context outside its registers. -/
def ctxOf (s : State) (c : Nat) : XCtx := smGet (fun _ => XCtx.init) s.xfe.ctxs c

/-- Change a context. -/
def uCtx (c : Nat) (f : XCtx → XCtx) (s : State) : State :=
  s.uXfe fun x => { x with ctxs := smSet (fun _ => XCtx.init) x.ctxs c (f (smGet (fun _ => XCtx.init) x.ctxs c)) }

/-- Change the running descriptor. -/
def uXRun (c : Nat) (f : XRun → XRun) (s : State) : State := uCtx c (fun x => { x with run := x.run.map f }) s

/-- KIND of a context (Table 23.1). -/
def ctxKind (s : State) (c : Nat) : Nat := s.fd (R.XFE_CTL c) 31 30
/-- FEED of a context (Table 23.2). -/
def ctxFeed (s : State) (c : Nat) : Nat := s.fd (R.XFE_CTL c) 29 28
/-- STATE of a context: 0 CLOSED, 1 IDLE, 2 RUN, 3 STOPPED. -/
def ctxState (s : State) (c : Nat) : Nat := s.fd (R.XFE_STATE c) 31 28
/-- LOG2SIZE of a context. -/
def ctxLog (s : State) (c : Nat) : Nat := max 4 (min 15 (s.fd (R.XFE_CTL c) 19 16))
/-- HEAD: the next descriptor to start; of an MSG_RX, the next message. -/
def ctxHead (s : State) (c : Nat) : Nat := s.fd (R.XFE_PTR c) 15 0
/-- TAIL; of an MSG_RX, the released index. -/
def ctxTail (s : State) (c : Nat) : Nat := s.fd (R.XFE_PTR c) 31 16

/-- An open host-fed ring. -/
def hostRing (s : State) (c : Nat) : Bool := ctxKind s c == 1 && ctxFeed s c == 0

/-- XFE_Cc_STATE follows a ring: RUN while a descriptor runs. -/
def ctxSync (c : Nat) (s : State) : State :=
  let x := ctxOf s c
  let st := ctxState s c
  let st := if st = 1 ∨ st = 2 then (if x.run.isSome then 2 else 1) else st
  let s := (s.fw (R.XFE_STATE c) 31 28 st).fw (R.XFE_STATE c) 20 16 x.queue.length
  s.fw (R.XFE_STATE c) 23 23 (b2n (x.held.isSome && st != 0))

/-- A ring enters STOPPED with a cause (R604). -/
def ctxStop (c cause : Nat) (s : State) : State :=
  if ctxState s c = 3 then s
  else
    let s := (s.fw (R.XFE_STATE c) 31 28 3).fw (R.XFE_STATE c) 27 24 cause
    ctxSync c (s.ev Ev.XFE_STOPPED c [cause, ctxHead s c])

/-- OPEN and HOST_OPEN count a context in or out. -/
def countOpen (c : Nat) (up : Bool) (s : State) : State :=
  let n := fun v => if up then v + 1 else v - 1
  let h := hostRing s c
  let s := s.fw R.XFE_STATUS 12 0 (n (s.fd R.XFE_STATUS 12 0))
  if h then s.fw R.XFE_STATUS 26 16 (n (s.fd R.XFE_STATUS 26 16)) else s

/-- XFE_HELD and PCIE_STATUS.HOLD follow the held statuses of open rings (22 R577). -/
def heldSync (s : State) : State :=
  let n := (s.xfe.ctxs.filter fun e => e.2.held.isSome && ctxKind s e.1 != 0).length
  (s.wr R.XFE_HELD n).fw R.PCIE_STATUS 2 2 (b2n (n != 0))

/-! Descriptors (R599, R600) -/

/-- A dword of a descriptor. -/
def dDw (d : Desc) (i : Nat) : Nat := (d.dws.getD i 0).toNat
/-- SRC. -/
def dSrc (d : Desc) : Nat := dDw d 0 + 2 ^ 32 * dDw d 1
/-- DST. -/
def dDst (d : Desc) : Nat := dDw d 2 + 2 ^ 32 * dDw d 3
/-- MODE. -/
def dMode (d : Desc) : Nat := fieldOf (dDw d 4) 31 28
/-- PARAM. -/
def dParam (d : Desc) : Nat := fieldOf (dDw d 4) 27 24
/-- LENGTH. -/
def dLen (d : Desc) : Nat := dDw d 4 % 2 ^ 24
/-- Bytes of a unit of the interleave modes. -/
def dUnit (d : Desc) : Nat := 2 ^ fieldOf (dDw d 5) 18 16
/-- SRC is a host address. -/
def srcHost (d : Desc) : Bool := bitOf (dDw d 5) 8
/-- DST is a host address. -/
def dstHost (d : Desc) : Bool := bitOf (dDw d 5) 9

/-- Where a global address lies for the transfer engine, which belongs to no cluster. -/
def xPlace (s : State) (a n : Nat) : Place := if 2 ≤ gaSpace a then .bad else placeOf s 256 a n

/-- Source bytes of a group (Table 23.6). -/
def groupBytes (d : Desc) : Nat :=
  let e := if dParam d = 0 then 17 else 33
  match dMode d with
  | 0 => 1
  | 1 => e
  | 2 => e
  | 3 => 2
  | 4 => 4
  | _ => dParam d * dUnit d

/-- MODE, PARAM, GRAIN and LENGTH are within the mode's limits (R609). -/
def modeOk (d : Desc) : Bool :=
  let p := dParam d
  (match dMode d with
    | 0 => p == 0
    | 1 => decide (p ≤ 1)
    | 2 => decide (p ≤ 1)
    | 3 => decide (p ≤ 1)
    | 4 => decide (p ≤ 1)
    | 5 => decide (2 ≤ p) && decide (p ≤ 8) && decide (fieldOf (dDw d 5) 18 16 ≤ 6)
    | 6 => decide (2 ≤ p) && decide (p ≤ 8) && decide (fieldOf (dDw d 5) 18 16 ≤ 6)
    | _ => false) && decide (dLen d % max 1 (groupBytes d) = 0)

/-- A side's address is one its ring may use and lies wholly in a mapped range (R600). -/
def sideOk (s : State) (c : Nat) (host : Bool) (a n : Nat) : Bool :=
  if host then ctxFeed s c == 0 && decide (a + n ≤ 2 ^ 64) else xPlace s a n != .bad

/-- A descriptor is not bad (R600). -/
def descOk (s : State) (c : Nat) (d : Desc) : Bool :=
  !(srcHost d && dstHost d) && decide (1 ≤ dLen d) && modeOk d
    && sideOk s c (srcHost d) (dSrc d) (dLen d) && sideOk s c (dstHost d) (dDst d) (dLen d)
    && Nat.land (dDw d 5) 0xC007030F == dDw d 5 && Nat.land (dDw d 7) 0x80000000 == dDw d 7

/-! The reshuffle modes (R609) -/

/-- Whole groups whose source bytes are among the first n, the source being read in order. -/
def groupsIn (d : Desc) (n : Nat) : Nat :=
  let len := dLen d
  let g := max 1 (groupBytes d)
  let t := len / g
  match dMode d with
  | 2 => min t (n - t * (g - 1))
  | 3 => if dParam d = 0 then n / 2 else min t (n - len / 2)
  | 4 => if dParam d = 0 then n / 4 else min t (n - 3 * (len / 4))
  | 5 => min t ((n - (dParam d - 1) * (len / dParam d)) / dUnit d)
  | _ => n / g

/-- A byte with the poison of those it is made of. -/
def mixByte (v : Nat) (xs : List PByte) : PByte := (BitVec.ofNat 8 v, xs.any (·.2))

/-- Source byte i. -/
def sb (src : List PByte) (i : Nat) : PByte := src.getD i (0, false)

/-- Bit b of eight elements, element j at bit j: the elements are the eight 4-bit halves of four bytes. -/
def planeByte (xs : List PByte) (b : Nat) : PByte :=
  let v := bytesToNat (xs.map (·.1))
  mixByte ((List.range 8).foldl (fun a j => a + 2 ^ j * b2n (bitOf v (4 * j + b))) 0) xs

/-- Four bytes of eight elements from four plane bytes. -/
def unplane (xs : List PByte) : List PByte :=
  let bit := fun b j => bitOf ((xs.getD b (0, false)).1.toNat) j
  let v := (List.range 8).foldl (fun a j => a + 16 ^ j * (List.range 4).foldl (fun a b => a + 2 ^ b * b2n (bit b j)) 0) 0
  (List.range 4).map fun i => mixByte (v / 256 ^ i % 256) xs

/-- Output regions for groups g to g + n − 1: offsets from DST and bytes, each region's bytes in order. -/
def outRegions (d : Desc) (src : List PByte) (g n : Nat) : List (Nat × List PByte) :=
  let len := dLen d
  let w := max 1 (groupBytes d)
  let t := len / w
  let gs := (List.range n).map (· + g)
  let slice := fun a k => (src.drop a).take k
  match dMode d with
  | 0 => [(g, slice g n)]
  | 1 => [(g * (w - 1), gs.flatMap fun i => slice (i * w + 1) (w - 1)), (t * (w - 1) + g, gs.map fun i => sb src (i * w))]
  | 2 => [(g * w, gs.flatMap fun i => sb src (t * (w - 1) + i) :: slice (i * (w - 1)) (w - 1))]
  | 3 =>
    if dParam d = 0 then
      let half := fun h => gs.map fun i =>
        let a := sb src (2 * i)
        let b := sb src (2 * i + 1)
        mixByte (a.1.toNat / 16 ^ h % 16 + 16 * (b.1.toNat / 16 ^ h % 16)) [a, b]
      [(g, half 0), (len / 2 + g, half 1)]
    else
      [(2 * g, gs.flatMap fun i =>
        let e := sb src i
        let o := sb src (len / 2 + i)
        [mixByte (e.1.toNat % 16 + 16 * (o.1.toNat % 16)) [e, o], mixByte (e.1.toNat / 16 + 16 * (o.1.toNat / 16)) [e, o]])]
  | 4 =>
    if dParam d = 0 then (List.range 4).map fun b => (b * (len / 4) + g, gs.map fun i => planeByte (slice (4 * i) 4) b)
    else [(4 * g, gs.flatMap fun i => unplane ((List.range 4).map fun b => sb src (b * (len / 4) + i)))]
  | 5 =>
    let k := dParam d
    let u := dUnit d
    [(g * k * u, gs.flatMap fun i => (List.range k).flatMap fun j => slice (j * (len / k) + i * u) u)]
  | _ =>
    let k := dParam d
    let u := dUnit d
    (List.range k).map fun j => (j * (len / k) + g * u, gs.flatMap fun i => slice (i * k * u + j * u) u)

/-! The rate limiter (R607) -/

/-- The counter's ceiling: 8,192 bytes, in 1/327,680 byte. -/
def creditMax : Nat := 8192 * 327680

/-- GT/s × 10 of a RATE code. -/
def rate10 (r : Nat) : Nat := [0, 25, 50, 80, 160, 320, 640].getD r 0

/-- Credit a tick brings, in 1/327,680 byte; none where the ring is not limited. -/
def creditRate (s : State) (c rclass : Nat) : Option Nat :=
  let w := s.rd (R.XFE_RATE c)
  let sh := min 256 (w % 512)
  let e := max 1 (sh / 2 ^ rclass)
  match fieldOf w 31 28 with
  | 1 => if sh = 0 then none else some (e * s.fd R.PCIE_STATUS 20 16 * rate10 (s.fd R.PCIE_STATUS 26 24) * 10)
  | 2 => if sh = 0 then none else some (e * s.fd R.PCIE_STATUS 20 16 * rate10 (s.fd R.PCIE_STATUS 26 24) * 10)
  | 3 => if sh = 0 then none else some (e * 50 * 327680)
  | 4 => if sh = 0 then none else some (e * (txSlots s (fieldOf w 27 24)).length * 9635)
  | _ => none

/-- RCLASS of the running descriptor, 0 while none runs. -/
def runClass (x : XCtx) : Nat :=
  match x.run with
  | some k => fieldOf (dDw k.d 5) 31 30
  | none => 0

/-- Bring a ring's credit up to this tick. -/
def accrue (c : Nat) (s : State) : State :=
  match creditRate s c (runClass (ctxOf s c)) with
  | none => uCtx c (fun x => { x with tick := s.ticks }) s
  | some k => uCtx c (fun x => { x with credit := min creditMax (x.credit + (s.ticks - x.tick) * k), tick := s.ticks }) s

/-! Status (R603, R604) -/

/-- Where a ring's descriptor lies. -/
def descAddr (s : State) (c idx : Nat) : Nat := s.rd64 (R.XFE_BASE_LO c) + 32 * (idx % 2 ^ ctxLog s c)

/-- Write words of a descriptor back, in HBM or in host memory. -/
def descWrite (c : Nat) (d : Desc) (dw : Nat) (ws : List Word) (s : State) : State :=
  let a := descAddr s c d.idx + 4 * dw
  if s.bit (R.XFE_CTL c) 27 then hostWrite a (hostAttr s false (bitOf (dDw d 5) 3)) (dwBytes ws) s
  else if a + 4 * ws.length ≤ hbmSize then memWrite 2 .hbm a (goodBytes (dwBytes ws)) s
  else s

/-- CDATA to the flag address. -/
def flagWrite (c : Nat) (d : Desc) (s : State) : State :=
  let a := s.rd64 (R.XFE_FLAG_LO c)
  let bs := natToBytes 4 (dDw d 6)
  if s.bit (R.XFE_CTL c) 26 then hostWrite a (hostAttr s false (bitOf (dDw d 5) 3)) bs s
  else issueReq (orderedWrite c .none a bs) s

/-- Write a descriptor's status: dwords 4–6, dword 7, the flag, the interrupt; record an error. -/
def writeStatus (c : Nat) (d : Desc) (st don : Nat) (s : State) : State :=
  let s := descWrite c d 4 [w32 (2 ^ 28 * dMode d + 2 ^ 24 * dParam d + don), w32 (2 ^ 24 * st + (dLen d - don)),
    w32 (s.now % 2 ^ 32)] s
  let s := descWrite c d 7 [w32 d.idx] s
  let s := if bitOf (dDw d 5) 1 then flagWrite c d s else s
  let s := if bitOf (dDw d 5) 0 ∨ st = 1 then irq (s.fd (R.XFE_CTL c) 10 0) R.XFE_IRQ_DROP s else s
  let s := s.fw (R.XFE_STATE c) 15 8 st
  if st = 0 then s else s.wr (R.XFE_ERR c) (2 ^ 24 * st + d.idx)

/-- The cause with which a status stops its ring (Table 23.5). -/
def ctxCause (s : State) (c st : Nat) : Option Nat :=
  if st = 0 then none
  else if st = 1 then some 2
  else if st = 2 then some 3
  else if st = 4 then some 1
  else if s.bit (R.XFE_CTL c) 24 then some 1 else none

/-- The running descriptor ends with a status. -/
def endDesc (c : Nat) (d : Desc) (st don : Nat) (s : State) : State :=
  let s := writeStatus c d st don (uCtx c (fun x => { x with run := none }) s)
  let s := match ctxCause s c st with
    | some k => ctxStop c k s
    | none => s
  ctxSync c s

/-! Fetch and start (R596–R598) -/

/-- The index the next fetch takes. -/
def fetchIdx (s : State) (c : Nat) : Nat := (ctxHead s c + (ctxOf s c).queue.length) % 65536

/-- A fetched descriptor joins the queue, or ends fetching where its OWN is 0. -/
def descArrive (c : Nat) (bs : List PByte) (s : State) : State :=
  let s := uCtx c (fun x => { x with reading := false }) s
  let d : Desc := ⟨fetchIdx s c, (List.range 8).map fun i => w32 (bytesToNat (((bs.map (·.1)).drop (4 * i)).take 4)), false⟩
  if !bitOf (dDw d 7) 31 then
    (uCtx c (fun x => { x with stuck := true }) (s.sat R.XFE_NOTOWN_CNT 31 0 1)).evKey 8000 c Ev.XFE_NOT_OWNED c []
  else
    let bad := anyBad bs || !descOk s c d
    ctxSync c (uCtx c (fun x => { x with queue := x.queue ++ [{ d with bad := bad }] }) s)

/-- A ring takes up new work: it is IDLE or RUN and no ABORT is under way. -/
def ctxGoes (s : State) (c : Nat) : Bool :=
  ctxKind s c == 1 && (ctxState s c == 1 || ctxState s c == 2) && (match (ctxOf s c).run with
    | some r => !r.abort
    | none => true)

/-- Every stack a range of HBM touches is ON and not in reset: an access waits until it is (21 R554). -/
def hbmUp (s : State) (a n : Nat) : Bool :=
  n == 0 || (List.range (min 128 ((a + n - 1) / 256 - a / 256 + 1))).all fun i => s.domUp (0x90 + hbmStack (a + 256 * i))

/-- The memory a global range lies in is up. -/
def srcReady (s : State) (a n : Nat) : Bool :=
  match xPlace s a n with
  | .hbm x => hbmUp s x n
  | _ => true

/-- Fetch the next available descriptor. -/
def descFetch (c : Nat) (s : State) : State :=
  let x := ctxOf s c
  let i := fetchIdx s c
  if !ctxGoes s c ∨ x.stuck ∨ x.reading ∨ 16 ≤ x.queue.length ∨ i = ctxTail s c then s
  else
    let a := descAddr s c i
    if s.bit (R.XFE_CTL c) 27 then
      if !mayIssue s ∨ freeTags s = 0 then s
      else hostRead a (hostAttr s false false) ⟨c, none, 32, [], false, 0, false⟩ (uCtx c (fun x => { x with reading := true }) s)
    else if !hbmUp s a 32 then s
    else
      let y := if a + 32 ≤ hbmSize then memRead 2 .hbm a 32 s else (s, List.replicate 31 (0, true) ++ [(0x80, true)])
      descArrive c y.2 y.1

/-- Start the next descriptor; a bad one completes at once (R598, R600). -/
def descStart (c : Nat) (s : State) : State :=
  let x := ctxOf s c
  if !ctxGoes s c ∨ x.run.isSome ∨ x.held.isSome then s
  else match x.queue with
    | [] => s
    | d :: q =>
      if s.bit (R.XFE_CTL c) 27 ∧ !mayIssue s then s
      else
        let s := (uCtx c (fun x => { x with queue := q }) s).fw (R.XFE_PTR c) 15 0 ((d.idx + 1) % 65536)
        if d.bad then endDesc c d 4 0 s
        else
          let s := accrue c s
          ctxSync c (uCtx c (fun x => { x with run := some ⟨d, 0, [], 0, [], 0, 0, false, false⟩ }) s)

/-! Bursts (R601, R602) -/

/-- Source bytes of the next burst: at most 4,096, crossing no 4 KiB boundary of SRC or DST. -/
def burstLen (k : XRun) : Nat :=
  min (min 4096 (dLen k.d - k.next)) (min (4096 - (dSrc k.d + k.next) % 4096) (4096 - (dDst k.d + k.next) % 4096))

/-- Read requests of a host range at Max Read Request Size: (offset, length). -/
def hostSplit (s : State) (n : Nat) : List (Nat × Nat) :=
  let m := maxRead s
  (List.range ((n + m - 1) / m)).map fun i => (i * m, min m (n - i * m))

/-- Read a burst's source: at once from local memory, over the fabric or from the host otherwise. -/
def burstRead (c : Nat) (d : Desc) (num off n : Nat) (s : State) : State :=
  let a := dSrc d + off
  let add := fun w (got : List Piece) (s : State) =>
    uXRun c (fun k => { k with next := off + n, bursts := k.bursts ++ [⟨num, off, n, w, got, false, 0, 0⟩] }) s
  if srcHost d then
    let ps := hostSplit s n
    ps.foldl (fun s p => hostRead (a + p.1) (hostAttr s (bitOf (dDw d 5) 2) (bitOf (dDw d 5) 3))
      ⟨c, some num, p.2, [], false, p.1, false⟩ s) (add ps.length [] s)
  else match xPlace s a n with
    | .remote _ =>
      let ws := remoteReads c (.xfe c num) a n 0
      issueReqs ws (add ws.length [] s)
    | p =>
      let y := match placeRam p with
        | some (m, k) => midRead 2 m k n s
        | none => (s, [])
      add 0 (y.2.map fun b => ⟨0, [b.1], b.2⟩) (uXRun c (fun k => { k with poison := k.poison || anyBad y.2 }) y.1)

/-- Issue the next burst when the credit covers it, and its source can be asked. -/
def burstIssue (c : Nat) (s : State) : State :=
  match (ctxOf s c).run with
  | none => s
  | some k =>
    let n := burstLen k
    let a := dSrc k.d + k.next
    let s := accrue c s
    let lim := creditRate s c (runClass (ctxOf s c))
    if !ctxGoes s c ∨ k.fail ≠ 0 ∨ k.next = dLen k.d then s
    else if lim.isSome ∧ (ctxOf s c).credit < n * 327680 then s
    else if srcHost k.d = true ∧ (!mayIssue s ∨ freeTags s < (hostSplit s n).length) then s
    else if srcHost k.d = false ∧ !srcReady s a n then s
    else
      let s := if lim.isSome then uCtx c (fun x => { x with credit := x.credit - n * 327680 }) s else s
      let num := s.xfe.num
      burstRead c k.d num k.next n (s.uXfe fun x => { x with num := num + 1 })

/-- Write bytes to host memory in TLPs of at most Max Payload Size that cross no 4 KiB boundary; one with bad bytes has EP set
(R601; 21 Table 21.1). -/
def hostWrites (a attr : Nat) (bs : List PByte) (s : State) : State :=
  (splitGo a (maxPayload s) bs.length 0 bs.length).foldl (fun s p =>
    let x := (bs.drop p.1).take p.2
    s.emit (if anyBad x then .hostWriteEp (a + p.1) attr (x.map (·.1)) else .hostWrite (a + p.1) attr (x.map (·.1)))) s

/-- Write one output region; answers how many acknowledgements it needs. -/
def regionWrite (c : Nat) (d : Desc) (num : Nat) (x : Nat × List PByte) (s : State) : State × Nat :=
  let a := dDst d + x.1
  if x.2.isEmpty then (s, 0)
  else if dstHost d then
    (hostWrites a (hostAttr s (bitOf (dDw d 5) 2) (bitOf (dDw d 5) 3)) x.2 s, 0)
  else match xPlace s a x.2.length with
    | .remote _ =>
      let ws := remoteWrites c (.xfe c num) a x.2 0
      (issueReqs ws s, ws.length)
    | p => (placeWrite 2 p 0 x.2 s, 0)

/-- DONE grows: also the bytes of the context. -/
def doneAdd (c n : Nat) (s : State) : State :=
  (uXRun c (fun k => { k with done := k.done + n }) s).count64 (R.XFE_BYTES_LO c) n

/-- A burst's bytes in order, each with the poison of its source word. -/
def burstBytes (k : XRun) (b : Burst) (s : State) : List PByte :=
  let one := fun (g : Piece) => g.bytes.map fun x => (x, g.bad)
  match (if srcHost k.d then Place.bad else xPlace s (dSrc k.d + b.off) b.len) with
  | .bad => (hostSplit s b.len).flatMap fun p => ((b.got.find? fun g => g.at_ == p.1).map one).getD []
  | .remote _ =>
    (splitReq (dSrc k.d + b.off) b.len).flatMap fun p => ((b.got.find? fun g => g.at_ == p.1).map one).getD []
  | _ => b.got.flatMap one

/-- Drop the bursts that have landed and been acknowledged. -/
def dropBursts (c : Nat) (s : State) : State :=
  uXRun c (fun k => { k with bursts := k.bursts.filter fun b => !(b.landed && b.acks == 0) }) s

/-- The oldest burst that has not landed. -/
def nextBurst (k : XRun) : Option Burst := k.bursts.find? fun b => !b.landed

/-- Land the oldest burst once its source is in and its destination's memory is up: write its whole groups (R602). After a failure nothing more is written. -/
def burstLand (c : Nat) (s : State) : State :=
  match (ctxOf s c).run with
  | none => s
  | some k =>
    match nextBurst k with
    | none => s
    | some b =>
      if b.wait ≠ 0 then s
      else if k.fail ≠ 0 then
        dropBursts c (uXRun c (fun k => { k with bursts := k.bursts.map fun y => if y.num = b.num then { y with landed := true } else y }) s)
      else
        let src := k.src ++ burstBytes k b s
        let g := groupsIn k.d src.length
        let gain := (g - k.groups) * groupBytes k.d
        let out := outRegions k.d src k.groups (g - k.groups)
        if !dstHost k.d && out.any fun x => !srcReady s (dDst k.d + x.1) x.2.length then s
        else
        let y := out.foldl (fun (a : State × Nat) x =>
          let z := regionWrite c k.d b.num x a.1
          (z.1, a.2 + z.2)) (s, 0)
        let s := uXRun c (fun k => { k with src := src, groups := g, bursts := k.bursts.map fun q =>
          if q.num = b.num then { q with landed := true, acks := y.2, gain := gain } else q }) y.1
        if y.2 = 0 then dropBursts c (doneAdd c gain s) else s

/-- The descriptor ends once nothing is outstanding and it is whole, failed or aborted. -/
def descComplete (c : Nat) (s : State) : State :=
  match (ctxOf s c).run with
  | none => s
  | some k =>
    if !k.bursts.isEmpty ∨ (k.next ≠ dLen k.d ∧ k.fail = 0 ∧ !k.abort) then s
    else
      let st := if k.abort then 1 else if k.fail ≠ 0 then k.fail else if k.poison then 3 else 0
      endDesc c k.d st k.done s

/-- A failure of the running descriptor: the first one stands. -/
def xFail (c st : Nat) (s : State) : State := uXRun c (fun k => { k with fail := if k.fail = 0 then st else k.fail }) s

/-- A piece of a burst's source arrives. -/
def xPiece (c num at_ : Nat) (bs : List Byte) (bad : Bool) (s : State) : State :=
  uXRun c (fun k => { k with
    poison := k.poison || bad,
    bursts := k.bursts.map fun b => if b.num = num then { b with wait := b.wait - 1, got := b.got ++ [⟨at_, bs, bad⟩] } else b }) s

/-- A response to a request of a burst (17 R471). -/
def xfeResponse (c num : Nat) (w : FabWant) (status : Nat) (bytes : List Byte) (s : State) : State :=
  if w.opc = 1 then
    xPiece c num w.at_ bytes false (if status = 0 then s else xFail c (0x10 + status) s)
  else
    let s := if status = 0 then s else xFail c (0x10 + status) s
    match (ctxOf s c).run.bind fun k => k.bursts.find? fun b => b.num == num with
    | none => s
    | some b =>
      let gain := if status = 0 then b.gain else 0
      let s := uXRun c (fun k => { k with bursts := k.bursts.map fun q =>
        if q.num = num then { q with acks := q.acks - 1, gain := gain } else q }) s
      if b.acks ≤ 1 then dropBursts c (doneAdd c gain s) else s

/-- A host read's completion (22 R576; Table 23.5): status 0 success, 5 HOST_ERR, 6 HOST_TIMEOUT. -/
def hostArrive (rd : HostRd) (st : Nat) (s : State) : State :=
  match rd.burst with
  | none =>
    if st = 0 then descArrive rd.ctx (rd.got.map fun b => (b, rd.ep)) s
    else
      let d : Desc := ⟨fetchIdx s rd.ctx, [], true⟩
      let s := (uCtx rd.ctx (fun x => { x with reading := false }) s).wr (R.XFE_ERR rd.ctx) (2 ^ 24 * st + d.idx)
      if s.bit (R.XFE_CTL rd.ctx) 24 then ctxStop rd.ctx 1 s
      else uCtx rd.ctx (fun x => { x with stuck := true }) s
  | some num =>
    let s := if st = 0 then s else xFail rd.ctx st s
    xPiece rd.ctx num rd.at_ rd.got rd.ep s

/-! Writes of a context's registers by path (R590–R592) -/

/-- Discard a write with XFE_DENIED. -/
def xfeDeny (p : Path) (off v : Nat) (s : State) : State := (s.sat R.XFE_DENY_CNT 31 0 1).deny Ev.XFE_DENIED off v p

/-- A path may write a context: the host-like paths only host-fed rings among contexts 0–1,023. -/
def mayCtx (s : State) (p : Path) (c : Nat) : Bool := !hostLike p || (p == .pcie && decide (c < 1024) && hostRing s c)

/-- A CTL value the kinds allow: no ring with FEED 3, host memory and a host flag only with FEED HOST (R592, R595, R603). -/
def ctlOk (v : Nat) : Bool :=
  let ring := fieldOf v 31 30 == 1
  !(ring && fieldOf v 29 28 == 3) && !(ring && fieldOf v 29 28 != 0 && (bitOf v 27 || bitOf v 26))

/-- Open a closed context. -/
def ctxOpen (p : Path) (c v : Nat) (s : State) : State :=
  let off := R.XFE_CTL c
  let hostOk := p == .pcie && decide (c < 1024) && fieldOf v 31 30 == 1 && fieldOf v 29 28 == 0
  if (hostLike p = true ∧ !hostOk) ∨ !ctlOk v then xfeDeny p off v s
  else
    let s := (s.put off v).wr (R.XFE_STATE c) (2 ^ 28)
    let s := ((s.wr (R.XFE_PTR c) 0).wr64 (R.XFE_BYTES_LO c) 0)
    countOpen c true (uCtx c (fun _ => { XCtx.init with credit := creditMax, tick := s.ticks }) s)

/-- Requests a context still has in the fabric. -/
def ctxBusy (s : State) (c : Nat) : Bool :=
  s.fab.reqs.any (fun r => r.2.want.ctx == c) || s.fab.held.any fun w => w.2.ctx == c

/-- Close a context whatever it does. -/
def ctxShut (c : Nat) (s : State) : State :=
  if ctxKind s c = 0 then s
  else
    let s := countOpen c false s
    let s := (s.fw (R.XFE_CTL c) 31 30 0).wr (R.XFE_STATE c) 0
    heldSync (uCtx c (fun _ => XCtx.init) s)

/-- Write KIND 0 (R591). -/
def ctxClose (p : Path) (c v : Nat) (s : State) : State :=
  let k := ctxKind s c
  let off := R.XFE_CTL c
  if !mayCtx s p c then xfeDeny p off v s
  else if k = 0 then s.put off v
  else if (k = 1 ∧ ctxState s c = 2) ∨ (k = 2 ∧ ctxBusy s c) then xfeDeny p off v s
  else (ctxShut c s).put off v

/-- Another write of CTL, BASE or FLAG: of an open context only while IDLE or STOPPED (R591). -/
def ctxWrite (p : Path) (off v : Nat) (s : State) : State :=
  let c := (off - 0x800000) / 0x40 % 4096
  let ctl := off == R.XFE_CTL c
  let v0 := ctl && fieldOf v 31 30 == 0
  let hostOk := !ctl || (fieldOf v 31 30 == 1 && fieldOf v 29 28 == 0)
  if ctl && ctxKind s c == 0 && !v0 then ctxOpen p c v s
  else if v0 then ctxClose p c v s
  else if !mayCtx s p c ∨ (hostLike p = true ∧ !hostOk) ∨ (ctl = true ∧ !ctlOk v) then xfeDeny p off v s
  else if ctxKind s c ≠ 0 ∧ ctxState s c = 2 then xfeDeny p off v s
  else if ctl then countOpen c true ((countOpen c false s).put off v)
  else s.put off v

/-- A write of XFE_Cc_RATE (R607). -/
def rateWrite (p : Path) (c v : Nat) (s : State) : State :=
  let off := R.XFE_RATE c
  if !mayCtx s p c ∨ 5 ≤ fieldOf v 31 28 then xfeDeny p off v s
  else (accrue c s).put off (fieldSet v 8 0 (min 256 (v % 512)))

/-- A path may ring a ring's doorbell (Table 23.2). -/
def mayDoor (s : State) (p : Path) (c : Nat) : Bool :=
  !hostLike p || (p == .pcie && decide (c < 1024) && hostRing s c) || (p == .sdfp && ctxKind s c == 1 && ctxFeed s c == 1)

/-- A write of XFE_Cc_DB: TAIL of a ring (R596), the released index of an MSG_RX (R594). -/
def xDoorbell (p : Path) (c v : Nat) (s : State) : State :=
  let v := v % 65536
  if !mayDoor s p c then xfeDeny p (R.XFE_DB c) v s
  else if ctxKind s c = 3 then s.fw (R.XFE_PTR c) 31 16 v
  else if ctxKind s c ≠ 1 then s
  else
    let ahead := fun t => (t + 65536 - ctxHead s c) % 65536
    if 2 ^ ctxLog s c < ahead v ∨ ahead v < ahead (ctxTail s c) then s.ev Ev.XFE_DB_OVERRUN c []
    else uCtx c (fun x => { x with stuck := false }) (s.fw (R.XFE_PTR c) 31 16 v)

/-- ABORT (R605). -/
def xAbort (p : Path) (c v : Nat) (s : State) : State :=
  if !mayCtx s p c then xfeDeny p (R.XFE_CMD c) v s
  else if ctxKind s c ≠ 1 ∨ (ctxState s c ≠ 1 ∧ ctxState s c ≠ 2) then s
  else
    let s := uCtx c (fun x => { x with queue := [] }) s
    if (ctxOf s c).run.isSome then ctxSync c (uXRun c (fun k => { k with abort := true }) s)
    else ctxStop c 2 s

/-- RESTART (R606). -/
def xRestart (p : Path) (c v : Nat) (skip : Bool) (s : State) : State :=
  if !mayCtx s p c then xfeDeny p (R.XFE_CMD c) v s
  else if ctxKind s c ≠ 1 ∨ ctxState s c ≠ 3 then s
  else
    let s := uCtx c (fun x => { x with queue := [], stuck := false }) s
    let s := if skip then s.fw (R.XFE_PTR c) 15 0 (ctxTail s c) else s
    ctxSync c ((s.fw (R.XFE_STATE c) 31 28 1).fw (R.XFE_STATE c) 27 24 0)

/-! Messages (R594) -/

/-- Store an SDFP MSG in a receive ring; answers its STATUS: 0, UNMAPPED 2 where no MSG_RX is open or its slot lies outside HBM,
NO_SPACE 5. -/
def msgStore (c src stampCt : Nat) (bs : List Byte) (poison : Bool) (s : State) : State × Nat :=
  if ctxKind s c ≠ 3 then (s, 2)
  else
    let i := ctxHead s c
    let a := s.rd64 (R.XFE_BASE_LO c) + 544 * (i % 2 ^ ctxLog s c)
    if 2 ^ ctxLog s c ≤ (i + 65536 - ctxTail s c) % 65536 then (s.sat (R.XFE_MSG c) 31 16 1, 5)
    else if hbmSize < a + 544 then (s, 2)
    else
      let s := memWrite 3 .hbm (a + 32) (bs.map fun b => (b, poison)) s
      let h := [w32 (2 ^ 31 * (1 - (i >>> ctxLog s c) % 2) + bs.length), w32 src, w32 (expandStamp s.now stampCt), w32 i]
      let s := (memWrite 3 .hbm a (goodBytes (dwBytes h)) s).fw (R.XFE_PTR c) 15 0 ((i + 1) % 65536)
      let s := s.sat (R.XFE_MSG c) 15 0 1
      (if s.bit (R.XFE_CTL c) 25 then irq (s.fd (R.XFE_CTL c) 10 0) R.XFE_IRQ_DROP s else s, 0)

/-! Host events and resets (R610, R611) -/

/-- Open contexts, in ascending order: CTL's reset value has KIND 0, so an open context's CTL is listed. -/
def openCtxs (s : State) : List Nat :=
  ((s.regs.filter fun e => decide (0x800000 ≤ e.1) && decide (e.1 < 0x840000) && e.1 % 0x40 == 0).map fun e => (e.1 - 0x800000) / 0x40).filter
    fun c => ctxKind s c != 0

/-- Contexts that are open host-fed rings, in ascending order. -/
def hostRings (s : State) : List Nat := (openCtxs s).filter fun c => hostRing s c

/-- PERST_N, FLR or the host side's block reset: every host-fed ring is closed, held statuses are discarded. -/
def xHostReset (s : State) : State := (hostRings s).foldl (fun s c => ctxShut c s) s

/-- Bus Master Enable is lost: every host-fed ring stops, the running descriptor's status is held (22 R577). -/
def xBmeLost (s : State) : State :=
  heldSync ((hostRings s).foldl (fun s c =>
    let s := uCtx c (fun x => { x with
      held := (match x.run with
        | some k => some (k.d, k.done)
        | none => x.held),
      run := none, reading := false }) s
    ctxSync c (ctxStop c 3 s)) s)

/-- Bus Master Enable is back: held statuses are written, rings in ascending order (22 R578). -/
def xBmeBack (s : State) : State :=
  heldSync ((hostRings s).foldl (fun s c =>
    match (ctxOf s c).held with
    | none => s
    | some h => ctxSync c (writeStatus c h.1 2 h.2 (uCtx c (fun x => { x with held := none }) s))) s)

/-- A domain reset of the engine begins: every context closes; the running descriptor of each FABRIC or LOCAL ring in HBM is kept for
its RESET status (R611). -/
def xDomainReset (s : State) : State :=
  (openCtxs s).foldl (fun s c =>
    let keep := match (ctxOf s c).run with
      | some k => if ctxKind s c = 1 ∧ ctxFeed s c ≠ 0 ∧ !s.bit (R.XFE_CTL c) 27 then some (k.d, k.done) else none
      | none => none
    uCtx c (fun x => { x with held := keep }) (ctxShut c s)) s

/-- The reset is released: status RESET with its residue. -/
def xDomainRelease (s : State) : State :=
  (s.xfe.ctxs.map (·.1)).foldl (fun s c =>
    match (ctxOf s c).held with
    | some h => if ctxKind s c = 0 then writeStatus c h.1 7 h.2 (uCtx c (fun _ => XCtx.init) s) else s
    | none => s) s

/-- A memory domain reset: source bytes a burst has read there and not yet landed are poisoned (21 R554). -/
def xStrike (k : Nat) (s : State) : State :=
  (s.xfe.ctxs.map (·.1)).foldl (fun s c => uXRun c (fun r =>
    let hit := fun (b : Burst) => !b.landed && !srcHost r.d && (match xPlace s (dSrc r.d + b.off) b.len with
      | .hbm a => (List.range (b.len / 256 + 2)).any fun i => decide (256 * (a / 256 + i) < a + b.len) && hbmStack (256 * (a / 256 + i)) == k
      | _ => false)
    { r with poison := r.poison || r.bursts.any hit,
             bursts := r.bursts.map fun b => if hit b then { b with got := b.got.map fun g => { g with bad := true } } else b }) s) s

end Sys2Proof.Machine
end

