-- ==== Sys2Proof/Machine/HostReset.lean ====
section
/-! DEFINITION. What PERST_N, FLR and a reset or power-off of the PCI Express domain clear of the host-facing side (03 R95, R96; 22
R574, R579, R581; 23 R610, R611), and Bus Master Enable (22 R575–R578). -/

namespace Sys2Proof.Machine

/-- A dword of the AER capability, whose sticky bits survive PERST_N and FLR (03 Table 3.3; 22 Table 22.3). -/
def isAer (k : Nat) : Bool := decide (0x41 ≤ k) && decide (k < 0x52)

/-- Configuration space at its reset values, BARs and the MSI-X table with it; the bits PCIE_STATUS shows of it follow (R574). -/
def cfgReset (s : State) : State :=
  let s := s.uPcie fun p => { p with cfg := p.cfg.filter (fun e => isAer e.1), ptmEn := false, msix := [], pend := [] }
  (((s.fw R.PCIE_STATUS 10 8 0).fw R.PCIE_STATUS 13 12 0).fw R.PCIE_STATUS 7 6 1).wr R.PCIE_BAR2_BASE 0

/-- The per-path state of one path returns to reset (R95): latches, held writes, PLATE_VIEW, FAB_ROUTE_Q, mailbox arguments. -/
def pathClear (c : Nat) (s : State) : State :=
  let s := s.uAcc fun a => { latch := smErase a.latch c, held := a.held.filter fun h => h.1 != c }
  let s := s.uRepl fun r => { r with view := smErase r.view c }
  let s := s.uFab fun f => { f with query := smErase f.query c }
  s.uBoot fun b => { b with args := b.args.filter fun e => e.1 / 4 != c }

/-- The host side of the transfer engine and of the rings: host-fed ticket rings stop, host-fed transfer rings close, held statuses
are discarded (R96, R579, R610). -/
def hostSide (s : State) : State := stopHostRings (xHostReset s)

/-- What PERST_N and FLR share: host-side state is discarded and configuration space returns to reset values; the stored PTM pair is
stale and a dialogue under way ends (04 R131). -/
def hostReset (s : State) : State :=
  let s := hostSide s
  let s := pathClear 0 (cfgReset s)
  let s := (s.fw R.TIME_PTM_STATUS 1 1 1).fw R.TIME_PTM_STATUS 2 2 0
  s.uPcie fun p => { p with wait := [], held := [] }

/-- Outstanding reads whose completions are no longer wanted. -/
def dropReads (s : State) : State := s.uPcie fun p => { p with np := p.np.map fun e => (e.1, { e.2 with lost := true }) }

/-- The function is held in reset: PERST_N asserted, the PCI Express domain in reset or off (Table 3.4). -/
def functionReset (s : State) : State :=
  let s := dropReads (hostReset s)
  ((s.fw R.PCIE_STATUS 31 31 0).fw R.PCIE_STATUS 3 3 0).fw R.CLK_STATUS 16 16 0

/-- The function comes out of reset: its PLL locks, and configuration requests get Request Retry Status until it is ready (R573,
06 R180). -/
def functionStart (s : State) : State := ((drive [.pcieTx] s).fw R.CLK_STATUS 16 16 1).uBoot fun b => { b with rrs := true }

/-! Tags (R580–R583) -/

/-- A half holds a fenced tag. -/
def halfFenced (s : State) (h : Nat) : Bool := s.pcie.fenced.any fun e => e.2 == h

/-- FENCE0, FENCE1 and PCIE_OUTSTANDING follow; with no half active, the first half without a fenced tag becomes active (R583). -/
def fenceSync (s : State) : State :=
  let s := npCount (s.fw R.PCIE_STATUS 5 4 (b2n (halfFenced s 0) + 2 * b2n (halfFenced s 1)))
  if !s.pcie.frozen ∨ (halfFenced s 0 ∧ halfFenced s 1) then s
  else (s.fw R.PCIE_STATUS 0 0 (b2n (halfFenced s 0))).uPcie fun p => { p with frozen := false }

/-- An FLR fences every outstanding tag, all of the active half, and makes the other half active, or none (R581, R583). -/
def fenceAll (s : State) : State :=
  let h := s.fd R.PCIE_STATUS 0 0
  let other := halfFenced s (1 - h)
  let s := s.uPcie fun p => { p with
    fenced := p.fenced ++ p.np.map (fun e => (e.1, h)), np := [], frozen := p.frozen || other }
  fenceSync (if other then s else s.fw R.PCIE_STATUS 0 0 (1 - h))

/-! Bus Master Enable -/

/-- Requests stop (R575–R577). -/
def bmeLost (s : State) : State := dropReads (xBmeLost s)

/-- Requests start again: held statuses, then pending messages (R578). -/
def bmeBack (s : State) : State := sendPending (xBmeBack s)

/-- A write of Command or PMCSR changes whether the function may issue: the right one of the two follows. -/
def issueEdge (was : Bool) (s : State) : State :=
  let is_ := bme s && !d3hot s
  if was && !is_ then bmeLost s else if !was && is_ then bmeBack s else s

end Sys2Proof.Machine
end

