-- ==== Sys2Proof/Machine/Memory.lean ====
section
/-! DEFINITION. Patrol scrub and injection (21): rows HBM_SCRUB_PASS_START, HBM_SCRUB_BURST, SCRUB_HOLDOFF_END,
VELLUM_SCRUB_BURST, MEM_INJECT, and the telemetry period's end. Scrubber 8 is Vellum's. -/

namespace Sys2Proof.Machine

/-- A scrubber's schedule. -/
def scrubAt (s : State) (i : Nat) : Scrub := s.mem.scrub.getD i ⟨false, 0, 0, none, false, none⟩

/-- Change a scrubber's schedule. -/
def setScrub (i : Nat) (f : Scrub → Scrub) (s : State) : State :=
  s.uMem fun m => { m with scrub := setAt ⟨false, 0, 0, none, false, none⟩ m.scrub i (f (m.scrub.getD i ⟨false, 0, 0, none, false, none⟩)) }

/-- Bursts of a pass (R555, R559). -/
def passBursts (i : Nat) : Nat := if i = 8 then 6291456 else 25165824

/-- A scrub field of 0 is taken as 1. -/
def one (n : Nat) : Nat := if n = 0 then 1 else n

/-- A scrubber's period in ticks (R555, R559). -/
def scrubPeriod (s : State) (i : Nat) : Nat :=
  96000000000 * one (if i = 8 then s.fd R.MEM_SCRUB_CFG 23 16 else s.fd R.MEM_SCRUB_CFG 15 0)

/-- target(t) of R555. -/
def scrubTarget (s : State) (i : Nat) : Nat :=
  let x := scrubAt s i
  passBursts i * (s.ticks - x.start - x.off) / scrubPeriod s i

/-- A scrubber's pointer in bursts. -/
def scrubPtr (s : State) (i : Nat) : Nat :=
  if i = 8 then s.fd R.MEM_VEL_PTR 28 21 * 24576 + s.fd R.MEM_VEL_PTR 20 0 / 64 else s.fd (R.MEM_S_PTR i) 24 0

/-- The BEHIND bit of a scrubber. -/
def behindBit (i : Nat) : Nat := if i = 8 then 23 else 24 + i

/-- BEHIND follows the pointer and the target (R556). -/
def behindCheck (i : Nat) (s : State) : State :=
  let gap := scrubTarget s i - scrubPtr s i
  let lag := one (s.fd R.MEM_SCRUB_CFG 31 24) * 1600000000
  if s.bit R.MEM_STATUS (behindBit i) then
    if gap = 0 then (s.fw R.MEM_STATUS (behindBit i) (behindBit i) 0).ev Ev.SCRUB_CAUGHT_UP i [] else s
  else if lag * passBursts i < gap * scrubPeriod s i then (s.fw R.MEM_STATUS (behindBit i) (behindBit i) 1).ev Ev.SCRUB_BEHIND i []
  else s

/-- Scrub one word (R551, R557): a correction is written back, a new uncorrectable word is marked. -/
def scrubWord (r : Ram) (k : Nat) (s : State) : State :=
  let syn := ramSyn s r k
  match fateOf syn with
  | .clean => s
  | .poisoned => s
  | .corrected => writeSyn r k 0 (putWord r k (fixWord syn (ramWord s r k)) (noteCe r k s))
  | .bad => noteUe 0 r k s

/-- The domain of a memory stack. -/
def memDom (i : Nat) : Nat := 0x90 + i

/-- A power-off request for a memory domain is pending (R558). -/
def offPending (s : State) (d : Nat) : Bool := s.pwr.waiting.any fun w => w.1 == d && w.2 == DomAct.off

/-- HBM_SCRUB_PASS_START (R555). -/
def execHbmScrubPassStart (stack : Fin 8) (s : State) : Host.Outcome State Fault Refusal :=
  let i := stack.val
  let x := scrubAt s i
  if !s.bit R.MEM_STATUS i ∨ (x.begun ∧ scrubPtr s i < passBursts i) then done s
  else
    let start := if x.begun then x.start + scrubPeriod s i + x.off else s.ticks
    done ((setScrub i (fun x => { x with begun := true, start := start, off := 0 }) s).fw (R.MEM_S_PTR i) 24 0 0)

/-- HBM_SCRUB_BURST (R555–R558): the eight units of one local unit. -/
def execHbmScrubBurst (stack : Fin 8) (s : State) : Host.Outcome State Fault Refusal :=
  let i := stack.val
  let x := scrubAt s i
  let s := behindCheck i s
  let l := scrubPtr s i
  if !x.begun ∨ x.hold ∨ !s.domUp (memDom i) ∨ offPending s (memDom i) ∨ passBursts i ≤ l ∨ scrubTarget s i ≤ l then done s
  else
    let units := (List.range 8).map fun j => unitAt l (8 * i + j)
    let ws := units.flatMap fun u => (s.hbmEcc.filter fun e => e.1 / 32 == u).map (·.1)
    let s := ws.foldl (fun s k => scrubWord .hbm k s) s
    let s := if s.bit R.MEM_STATUS (behindBit i) then s.sat (R.MEM_S_FLOOR i) 31 0 1 else s
    let s := (setScrub i (fun x => { x with burst := some s.ticks }) s).fw (R.MEM_S_PTR i) 24 0 (l + 1)
    let s := behindCheck i s
    done (if l + 1 = passBursts i then (s.sat (R.MEM_S_PASS i) 31 0 1).ev Ev.SCRUB_PASS_DONE i [] else s)

/-- SCRUB_HOLDOFF_END (R558). -/
def execScrubHoldoffEnd (stack : Fin 8) (s : State) : Host.Outcome State Fault Refusal :=
  done (setScrub stack.val (fun x => { x with hold := false }) s)

/-- The Vellum scrubber's next burst: its cluster's next 64 bytes, or the next cluster where the pair is not ON (R559). -/
def velNext (s : State) (c o : Nat) : Nat × Nat :=
  if s.dom (c / 2) ≠ 2 ∨ velSize ≤ o + 64 then (c + 1, 0) else (c, o + 64)

/-- VELLUM_SCRUB_BURST (R559). -/
def execVellumScrubBurst (s : State) : Host.Outcome State Fault Refusal :=
  let s := if (scrubAt s 8).begun then s else setScrub 8 (fun x => { x with begun := true, start := s.ticks }) s
  let s := behindCheck 8 s
  if scrubTarget s 8 ≤ scrubPtr s 8 then done s
  else
    let c := s.fd R.MEM_VEL_PTR 28 21
    let o := s.fd R.MEM_VEL_PTR 20 0
    let lo := (c * 2 ^ 21 + o) / 8
    let s := if s.dom (c / 2) ≠ 2 then s
      else ((s.velEcc.filter fun e => decide (lo ≤ e.1) && decide (e.1 < lo + 8)).map (·.1)).foldl
        (fun s k => scrubWord .vel k s) s
    let (c', o') := velNext s c o
    if c' = 256 then
      let p := scrubPeriod s 8
      let s := setScrub 8 (fun x => { x with start := x.start + p }) s
      done (behindCheck 8 ((s.wr R.MEM_VEL_PTR 0).ev Ev.SCRUB_PASS_DONE 8 []))
    else done (behindCheck 8 (s.wr R.MEM_VEL_PTR (c' * 2 ^ 21 + o')))

/-- A write of MEM_INJECT or of its address on the PCI Express path needs CFG_OPEN (R560). -/
def injectDenied (s : State) (p : Path) : Bool := hostLike p && !s.bit R.GLB_STATE 5

/-- MEM_INJECT arms one injection (R560). -/
def injectWrite (p : Path) (value : Nat) (s : State) : State :=
  if injectDenied s p then s.deny Ev.MEM_DENIED R.MEM_INJECT value p
  else s.wr R.MEM_INJECT (2 ^ 31 + 2 ^ 8 * fieldOf value 8 8 + fieldOf value 0 0)

/-- MEM_INJECT row. -/
def execMemInject (path : Path) (value : Word) (s : State) : Host.Outcome State Fault Refusal :=
  through path (.write R.MEM_INJECT value.toNat) s <|
  done (injectWrite path value.toNat s)

/-- The stacks' own error reporting is read (R550): what they report is a free value (log 31). -/
def readDieCe (s : State) : State :=
  (List.range 8).foldl (fun s i => if s.bit R.MEM_STATUS i then (s.draw.2).wr (R.MEM_S_DIE_CE i) s.draw.1.toNat else s) s

/-- TELEMETRY_PERIOD_END (08 R233; 11 R300, R306; R550). -/
def execTelemetryPeriodEnd (s : State) : Host.Outcome State Fault Refusal :=
  let counted := s.proof.tcount != 0
  let snap := ((s.now / 8000000 + 2 ^ 32 - 1) % 2 ^ 32, s.proof.tcount)
  let s := (s.uEvt fun e => { e with snap := some snap }).uLnk fun l => { l with period := l.sums, sums := [] }
  let s := lasPeriod counted (telemEnd s)
  done (readDieCe (s.uMem fun m => { m with storm := [] }))

end Sys2Proof.Machine
end

