-- ==== Sys2Proof/Machine/Scribe.lean ====
section
/-! DEFINITION. Scribes, Etcher and Counterproof (15): leases, checkpoints, takeovers, renewals and heartbeats, rows LEASE_RENEW to
HEARTBEAT_RECEIVE. -/

namespace Sys2Proof.Machine

/-- Set A_STATE or B_STATE. -/
def setScribe (u st : Nat) (s : State) : State := s.fw R.SCRIBE_STATUS (4 * u + 1) (4 * u) st

/-- The unit of a Scribe's path. -/
def pathUnit : Path → Option Nat
  | .scribeA => some 0
  | .scribeB => some 1
  | _ => none

/-- The package lease's expiry. -/
def pkgExp (s : State) : Nat := s.rd64 R.SCRIBE_LEASE_EXP_LO

/-- RENEW's expiry (R402). -/
def pkgRenew (s : State) : State := s.wr64 R.SCRIBE_LEASE_EXP_LO (s.now + 320000)

/-! Checkpoints (R405–R408) -/

/-- A domain's authority. -/
def State.auth (s : State) : ADom → Auth
  | .package => s.pkg
  | .cluster => s.clu

/-- Change a domain's authority. -/
def State.uAuth (s : State) (d : ADom) (f : Auth → Auth) : State :=
  match d with
  | .package => s.uPkg f
  | .cluster => s.uClu f

/-- A domain's number: 0 package, 1 cluster (25 Table 25.3). -/
def domNo : ADom → Nat
  | .package => 0
  | .cluster => 1

/-- The epoch of a domain. -/
def domEpoch (s : State) : ADom → Nat
  | .package => s.rd R.SCRIBE_EPOCH
  | .cluster => s.rd R.CL_EPOCH

/-- The largest state a checkpoint of a domain may hold (Table 15.1). -/
def ckptLimit : ADom → Nat
  | .package => 1048576
  | .cluster => 65536

/-- A bank with a valid commit record: NUMBER and SEQ (R406). -/
def bankValid (s : State) (d : ADom) (b : Bank) : Option (Nat × Nat) :=
  match b.commit with
  | some (n, e, q, _, l) => if l ≤ ckptLimit d ∧ e ≤ domEpoch s d then some (n, q) else none
  | none => none

/-- The last committed bank: its index, NUMBER and SEQ (R406). -/
def lastBank (s : State) (d : ADom) : Option (Nat × Nat × Nat) :=
  match bankValid s d (s.auth d).bank0, bankValid s d (s.auth d).bank1 with
  | some a, some b => if a.1 < b.1 then some (1, b) else some (0, a)
  | some a, none => some (0, a)
  | none, some b => some (1, b)
  | none, none => none

/-- SCRIBE_STATUS, SCRIBE_CKPT, SCRIBE_JOURNAL and CL_JOURNAL follow the banks and journals. -/
def ckptRegs (s : State) : State :=
  let v := fun (b : Bank) => b2n (bankValid s .package b).isSome
  let s' := (s.fw R.SCRIBE_STATUS 20 20 (v s.pkg.bank0)).fw R.SCRIBE_STATUS 21 21 (v s.pkg.bank1)
  let s' := s'.wr R.SCRIBE_CKPT (match lastBank s .package with
    | some (i, n, _) => 256 * (n % 2 ^ 24) + i
    | none => 0)
  (s'.fw R.SCRIBE_JOURNAL 16 0 s.pkg.journal.length).fw R.CL_JOURNAL 16 0 s.clu.journal.length

/-- Set one of the banks. -/
def setBank (i : Nat) (b : Bank) (a : Auth) : Auth := if i = 0 then { a with bank0 := b } else { a with bank1 := b }

/-- The bank the next copy goes to: the one that does not hold the newest committed checkpoint (R405). -/
def nextBank (s : State) (d : ADom) : Nat × Nat :=
  match lastBank s d with
  | some (i, n, _) => (1 - i, n + 1)
  | none => (0, 1)

/-- SEQ of an order frame. -/
def frameSeq (f : List Word) : Nat := pkW f 2

/-- A commit record takes effect: entries whose SEQ it includes are freed, JOURNAL_OVF clears (R406, R407). -/
def commitBank (d : ADom) (i : Nat) (rec_ : Nat × Nat × Nat × Nat × Nat) (data : List Host.Cell) (s : State) : State :=
  let s := s.uAuth d fun a => { setBank i ⟨some rec_, data⟩ a with copy := none }
  match bankValid s d ⟨some rec_, data⟩ with
  | none => ckptRegs s
  | some (_, q) =>
    let s := s.uAuth d fun a => { a with journal := a.journal.filter fun f => decide (q < frameSeq f) }
    let s := match d with
      | .package => s.fw R.SCRIBE_STATUS 22 22 0
      | .cluster => s.fw R.CL_STATUS 25 25 0
    ckptRegs s

/-- A copy into a bank begins (R405): the state and the SEQ of the last order before the instant. -/
def ckptInto (i n : Nat) (d : ADom) (s : State) : State :=
  let q := match d with
    | .package => s.rd R.SCRIBE_SEQ
    | .cluster => s.rd R.CL_SEQ
  ckptRegs (s.uAuth d fun a => { setBank i ⟨none, []⟩ a with copy := some (i, n, q, s.now) })

/-- A checkpoint starts (R405). -/
def ckptStart (d : ADom) (s : State) : State := ckptInto (nextBank s d).1 (nextBank s d).2 d s

/-- The standby named with the holder. -/
def otherNamed (s : State) : Nat :=
  if s.fd R.CL_CFG 13 0 = s.chip then s.fd R.CL_CFG 29 16 else s.fd R.CL_CFG 13 0

/-- Chips heard within the last 750 µs (R415). -/
def heardNow (s : State) : List (Nat × Heard) := s.cl.heard.filter fun x => decide (s.ticks - x.2.tick ≤ 1200000)

/-- The other named chip is reachable (R415). -/
def otherHeard (s : State) : Bool := (heardNow s).any fun x => x.1 == otherNamed s

/-- A domain's holder has a standby to copy to: a Scribe in STANDBY; the other named chip, which CP_LOST must not say is absent unless it
is heard again (R405, R412, R419). -/
def hasStandby (s : State) : ADom → Bool
  | .package => scribeState s (1 - activeUnit s) == 1 && decide (2 ≤ scribeState s (activeUnit s))
  | .cluster => isEtcher s && (!s.bit R.CL_STATUS 27 || otherHeard s)

/-- CHECKPOINT_START (R405). -/
def execCheckpointStart (dom : ADom) (s : State) : Host.Outcome State Fault Refusal :=
  if hasStandby s dom ∧ (s.auth dom).copy.isNone then done (ckptStart dom s) else done s

/-- A word whose bits the spec leaves to the Scribe program. -/
def State.drawN (s : State) : State × Nat := (s.draw.2, s.draw.1.toNat)

/-- The last CKPT message of a cluster checkpoint: its chunk ends with the commit record (02 Table 2.8; Table 15.4). The state and
so its CRC are the Scribe program's, free values (log 27). -/
def sendCkpt (n q ct len : Nat) (s : State) : State :=
  let e := s.rd R.CL_EPOCH
  let (s, crc) := s.drawN
  let rec_ := [w32 0x434B5054, w32 n, w32 e, w32 q] ++ w64 ct ++ [w32 len, w32 crc]
  s.sbBoth 0x03 ([w32 (otherNamed s), w32 n, w32 len, w32 32] ++ rec_)

/-- A copy that ends without its commit record (R405). -/
def ckptAbandon (dom : ADom) (s : State) : State :=
  if (s.auth dom).copy.isNone then s
  else (s.uAuth dom fun a => { a with copy := none }).ev Ev.CKPT_FAIL (domNo dom) []

/-- CHECKPOINT_COMMIT (R405, R406, R412, R419). A copy that has not ended within 1,600,000 ticks of its instant leaves no commit record. -/
def execCheckpointCommit (dom : ADom) (len : Word) (s : State) : Host.Outcome State Fault Refusal :=
  match (s.auth dom).copy with
  | none => done s
  | some (i, n, q, ct) =>
    if ct + 1600000 < s.now then done (ckptAbandon dom s) else
    let ok := decide (len.toNat ≤ ckptLimit dom)
    match dom with
    | .package =>
      let s := commitBank .package i (n, s.rd R.SCRIBE_EPOCH, q, ct, len.toNat) [] s
      done (if ok then s.fw R.SCRIBE_STATUS 24 24 0 else s)
    | .cluster =>
      let s := sendCkpt n q ct len.toNat (s.uClu fun a => { a with copy := none })
      let s := commitBank .cluster i (n, s.rd R.CL_EPOCH, q, ct, len.toNat) [] s
      done (if ok && otherHeard s then s.fw R.CL_STATUS 27 27 0 else s)

/-- CKPT_FAIL (R405). -/
def execCkptFail (dom : ADom) (s : State) : Host.Outcome State Fault Refusal :=
  done (ckptAbandon dom s)

/-- CKPT_RECEIVE (R408; 02 Table 2.8): a chunk of the bank, and the commit record when the chunk ends with one that checks. -/
def ckptReceive (body : List Word) (s : State) : State :=
  let off := pkW body 2
  let len := pkW body 3
  let bytes := (dwBytes (body.drop 4)).take len
  if pkW body 0 % 16384 ≠ s.chip ∨ !s.bit R.CL_STATUS 30 ∨ len = 0 ∨ 224 < len ∨ bytes.length < len then s
  else
    let n := pkW body 1
    let (i, _) := nextBank s .cluster
    let old := if i = 0 then s.clu.bank0 else s.clu.bank1
    let same := match s.clu.copy with
      | some c => c.2.1 == n
      | none => false
    let data := putBytes ramD (if same then old.data else []) off bytes
    let s := s.uClu fun a => { setBank i ⟨none, data⟩ a with copy := some (i, n, 0, 0) }
    let dw := fun k => bytesToNat (bytesAt ramD data (off + len - 32 + 4 * k) 4)
    let slen := off + len - 32
    let good := decide (32 ≤ len) && dw 0 == 0x434B5054 && dw 1 == n && dw 6 == slen && decide (slen ≤ 65536)
      && dw 7 == crc32 (bytesAt ramD data 0 (slen + 28))
    if good then commitBank .cluster i (n, dw 2, dw 3, dw 4 + 2 ^ 32 * dw 5, slen) data s else ckptRegs s

/-- CKPT_RECEIVE row. -/
def execCkptReceive (body : List Word) (s : State) : Host.Outcome State Fault Refusal := done (ckptReceive body s)

/-! The package lease (R402–R404, R409) -/

/-- A unit takes the package lease: epoch + 1, the expiry of a RENEW; a Scribe it displaces is OFF until a domain reset restarts it
(R402, R412). -/
def pkgTake (u st : Nat) (s : State) : State :=
  let was := decide (2 ≤ scribeState s (1 - u))
  let s := s.uScr fun x => { x with displaced := (if was then [1 - u] else []) ++ x.displaced.filter (· != u) }
  let s := setScribe (1 - u) 0 (setScribe u st s)
  let s := (s.fw R.SCRIBE_STATUS 31 31 u).fw R.GLB_STATE 9 9 u
  ckptRegs (pkgRenew (s.wr R.SCRIBE_EPOCH (s.rd R.SCRIBE_EPOCH + 1)))

/-- The Scribes that are ON and hold their program run from ENTRY (06 R169). -/
def scribesRun (s : State) : State :=
  s.uScr fun x => { x with started := if x.prog.isSome then [0, 1].filter fun u => s.domUp (0xA0 + u) else [] }

/-- A displaced Scribe restarts with its domain (R412). -/
def scribeRestart (u : Nat) (s : State) : State := s.uScr fun x => { x with displaced := x.displaced.filter (· != u) }

/-- Scribe A takes the lease with epoch 1 once both Scribe domains are ON; Scribe B starts as standby (R404). -/
def scribeStart (s : State) : State :=
  let s := scribesRun s
  if s.rd R.SCRIBE_EPOCH = 0 ∧ s.dom 0xA0 = 2 ∧ s.dom 0xA1 = 2 then setScribe 1 1 (pkgTake 0 2 s) else s

/-- SCRIBE_LEASE_CMD (R402, R403): any other path is denied; a halted Scribe writes nothing (26 R654). -/
def leaseCmd (p : Path) (value op : Nat) (s : State) : State :=
  match pathUnit p with
  | none => s.deny Ev.SCRIBE_DENIED R.SCRIBE_LEASE_CMD value p
  | some u =>
    let holder := decide (activeUnit s = u ∧ 2 ≤ scribeState s u)
    if s.scr.halted.contains u then s
    else if op = 1 then (if holder then pkgRenew s else s.ev Ev.LEASE_LOST 0 [])
    else if op = 2 then (if !holder ∧ pkgExp s ≤ s.now then pkgTake u 2 s else s)
    else if op = 3 then (if holder then s.wr64 R.SCRIBE_LEASE_EXP_LO s.now else s.ev Ev.LEASE_LOST 0 [])
    else s

/-- LEASE_RENEW (R402). -/
def execLeaseRenew (path : Path) (value : Word) (s : State) : Host.Outcome State Fault Refusal :=
  through path (.write R.SCRIBE_LEASE_CMD value.toNat) s <| done (leaseCmd path value.toNat 1 s)

/-- LEASE_TAKE (R402). -/
def execLeaseTake (path : Path) (value : Word) (s : State) : Host.Outcome State Fault Refusal :=
  through path (.write R.SCRIBE_LEASE_CMD value.toNat) s <| done (leaseCmd path value.toNat 2 s)

/-- LEASE_RELEASE (R402). -/
def execLeaseRelease (path : Path) (value : Word) (s : State) : Host.Outcome State Fault Refusal :=
  through path (.write R.SCRIBE_LEASE_CMD value.toNat) s <|
  done (leaseCmd path value.toNat 3 s)

/-- The last SEQ a standby knows: of its journal, or of its last committed bank. -/
def lastSeq (s : State) (d : ADom) : Nat :=
  match (s.auth d).journal.getLast? with
  | some f => frameSeq f
  | none => match lastBank s d with
    | some (_, _, q) => q
    | none => 0

/-- The cause of a COLD takeover, 0 for a warm one, and who was ahead (R409). -/
def coldCause (s : State) (d : ADom) (ovf : Bool) (ahead : Option Nat) : Nat × Nat :=
  if (lastBank s d).isNone then (1, 0) else if ovf then (2, 0) else match ahead with
    | some r => (3, r)
    | none => (0, 0)

/-- A bank in progress is discarded at a takeover (R409). -/
def discardCopy (d : ADom) (s : State) : State :=
  if (s.auth d).copy.isNone then s else (s.uAuth d fun a => { a with copy := none }).ev Ev.CKPT_DISCARDED (domNo d) []

/-- SCRIBE_TAKEOVER (R409, R410). After a warm one the cluster SEQ continues (R689). -/
def execScribeTakeover (s : State) : Host.Outcome State Fault Refusal :=
  let u := 1 - activeUnit s
  if scribeState s u ≠ 1 ∨ s.scr.halted.contains u ∨ s.now < pkgExp s then done s
  else
    let s := discardCopy .package s
    let last := lastSeq s .package
    let c := coldCause s .package (s.bit R.SCRIBE_STATUS 22) (lowest 44 fun r => decide (last < s.rd (R.SCRIBE_RX_HIGH r)))
    if c.1 = 0 then
      let s := pkgTake u 2 (s.wr R.SCRIBE_SEQ last)
      done ((s.sat R.SCRIBE_TAKE_CNT 15 0 1).ev Ev.SCRIBE_TAKEOVER 0 [s.rd R.SCRIBE_EPOCH])
    else
      let high := (List.range 44).foldl (fun m r => max m (s.rd (R.SCRIBE_RX_HIGH r))) 0
      let s := (pkgTake u 3 (s.wr R.SCRIBE_SEQ high)).fw R.SCRIBE_STATUS 23 23 1
      done ((s.sat R.SCRIBE_TAKE_CNT 31 16 1).ev Ev.SCRIBE_COLD 0 [c.1, c.2])

/-- COLD_DONE (R410). -/
def execColdDone (dom : ADom) (s : State) : Host.Outcome State Fault Refusal :=
  match dom with
  | .package =>
    if s.bit R.SCRIBE_STATUS 23 then
      done ((setScribe (activeUnit s) 2 (s.fw R.SCRIBE_STATUS 23 23 0)).ev Ev.COLD_DONE 0 [])
    else done s
  | .cluster => if s.bit R.CL_STATUS 26 then done ((s.fw R.CL_STATUS 26 26 0).ev Ev.COLD_DONE 1 []) else done s

/-- The Counterproof is lost: a decision that waits for its acknowledgement is sent directly (R419). -/
def cpLost (s : State) : State :=
  if s.bit R.CL_STATUS 27 then s
  else
    let s := ckptAbandon .cluster ((s.fw R.CL_STATUS 27 27 1).ev Ev.CP_LOST 0 [])
    match s.repl.etch with
    | some x => match x.decision with
      | some c => if x.sent then s else sendDecision reissue c s
      | none => s
    | none => s

/-- The holder's Scribe is alone (R412). -/
def scribeSolo (s : State) : State :=
  if s.bit R.SCRIBE_STATUS 24 ∨ scribeState s (activeUnit s) < 2 then s
  else ckptAbandon .package ((setScribe (1 - activeUnit s) 0 (s.fw R.SCRIBE_STATUS 24 24 1)).ev Ev.SCRIBE_SOLO 0 [])

/-- The other named chip has been heard within one lease length (R412). -/
def cpHeard (s : State) : Bool := s.cl.heard.any fun x => x.1 == otherNamed s && decide (s.ticks - x.2.tick < 1600000)

/-- STANDBY_ABSENT (R412): a Counterproof heard within one lease length is not absent. -/
def execStandbyAbsent (dom : ADom) (s : State) : Host.Outcome State Fault Refusal :=
  match dom with
  | .package => done (scribeSolo s)
  | .cluster => done (if isEtcher s && !cpHeard s then cpLost s else s)

/-- A Scribe joins as standby with nothing committed, and is checkpointed to at once; a displaced one restarts first (R412). -/
def scribeJoin (s : State) : State :=
  let u := 1 - activeUnit s
  if scribeState s u ≠ 0 ∨ scribeState s (activeUnit s) < 2 ∨ !s.domUp (0xA0 + u) ∨ s.scr.displaced.contains u then s
  else
    let n := (nextBank s .package).2
    let s := setScribe u 1 s
    let s := s.uPkg fun a => { a with bank0 := ⟨none, []⟩, bank1 := ⟨none, []⟩, journal := [] }
    ckptInto 0 n .package (s.fw R.SCRIBE_STATUS 22 22 0)

/-- STANDBY_JOIN (R412). -/
def execStandbyJoin (dom : ADom) (s : State) : Host.Outcome State Fault Refusal :=
  match dom with
  | .package => done (scribeJoin s)
  | .cluster => done (if isEtcher s then ckptStart .cluster s else s)

/-! The cluster lease (R413–R418) -/

/-- A member of the plate in force. -/
def isMember (s : State) (chip : Nat) : Bool := (coordIn s s.curPlate chip).isSome

/-- Members the package counts as reachable: itself always (R415). -/
def reach (s : State) : Nat := 1 + ((heardNow s).filter fun x => x.1 != s.chip && isMember s x.1).length

/-- Members of the plate in force. -/
def memberCount (s : State) : Nat := (membersOf s s.curPlate).length

/-- Twice the reachable count exceeds the member count (R415). -/
def majority (s : State) : Bool := decide (memberCount s < 2 * reach s)

/-- CL_REACH follows. -/
def reachReg (s : State) : State := s.wr R.CL_REACH (65536 * (memberCount s % 16384) + reach s % 16384)

/-- This package is named in CL_CFG. -/
def isNamed (s : State) : Bool := s.fd R.CL_CFG 13 0 == s.chip || s.fd R.CL_CFG 29 16 == s.chip

/-- The cluster roles (R413). -/
def setRole (holder standby : Bool) (s : State) : State :=
  let s := (s.fw R.CL_STATUS 31 31 (b2n holder)).fw R.CL_STATUS 30 30 (b2n standby)
  (s.fw R.GLB_STATE 10 10 (b2n holder)).fw R.GLB_STATE 11 11 (b2n standby)

/-- PLATE_STATE's payload: the plate in force and its apply (14 R377). -/
def stateWords (s : State) : List Word :=
  let m : PlateMsg := s.repl.last.getD ⟨BitVec.ofNat 6 s.curPlate, 0, BitVec.ofNat 8 (s.fd R.PLATE_ETCH_TIMING 15 8),
    BitVec.ofNat 8 (s.fd R.PLATE_ETCH_TIMING 23 16), 0, BitVec.ofNat 64 (s.rd64 R.PLATE_APPLY_CT_LO)⟩
  [w32 (2 ^ 24 * 0x3A + s.curPlate), w32 (2 ^ 24 * m.drain.toNat + 65536 * m.routeAt.toNat + pmX m)] ++ w64 m.applyCt.toNat

/-- The renewal: LEASE, then PLATE_STATE with the next SEQ (R416). -/
def clRenew (resync : Bool) (s : State) : State :=
  let e := s.now + 1600000
  let s := (s.wr64 R.CL_LEASE_EXP_LO e).fw R.CL_STATUS 13 0 s.chip
  let (s, f) := clusterOrderR resync ([w32 (2 ^ 24 * 0x3B + s.chip)] ++ w64 e) s
  let (s, g) := clusterOrderR false (stateWords s) s
  s.uCl fun c => { c with lastLease := some f, lastState := some g }

/-- The open XID is settled by the new holder (14 R374; corner of 14): what the Counterproof has acknowledged, else ABANDON. -/
def settleXid (s : State) : State :=
  match s.repl.etch with
  | none => s
  | some x =>
    if x.sent then s
    else
      let c := x.decision.getD false
      sendDecision reissue c (s.uRepl fun r => { r with etch := some { x with decision := some c } })

/-- What the standby has kept of the failed pairs and the quarantined members becomes the Etcher's: the pairs it holds open a window
(14 R390; 16 R433; log 155). -/
def keptTake (s : State) : State :=
  oddCheck (etchList (faultReg (s.uRepl fun r => { r with window := !r.pairs.isEmpty })))

/-- A package takes the cluster lease (R409, R413, R416; 04 R128). -/
def clTake (epoch : Nat) (cold : Bool) (s : State) : State :=
  let s := setRole true false (s.wr R.CL_EPOCH epoch)
  let s := (s.fw R.CL_STATUS 29 29 0).fw R.CL_STATUS 28 28 0 |>.fw R.CL_STATUS 27 27 0 |>.fw R.CL_STATUS 26 26 (b2n cold)
  epochAdopted (settleXid (keptTake (clRenew cold (enterRoot s))))

/-- A candidate without the majority sets SPLIT (R416). -/
def clSplit (s : State) : State :=
  if s.bit R.CL_STATUS 28 then s else (s.fw R.CL_STATUS 28 28 1).ev Ev.CLUSTER_SPLIT 0 [reach s, memberCount s]

/-- A fenced holder whose lease has expired holds it no more (R417; log 28). -/
def fencedOut (s : State) : State :=
  setRole false true (s.uClu fun a => { a with bank0 := ⟨none, []⟩, bank1 := ⟨none, []⟩, journal := [], copy := none })

/-- A higher epoch has been heard (R417). -/
def higherHeard (s : State) : Bool := s.cl.heard.any fun x => decide (s.rd R.CL_EPOCH < x.2.epoch)

/-- CLUSTER_RENEWAL (R416, R417). -/
def execClusterRenewal (s : State) : Host.Outcome State Fault Refusal :=
  if !s.bit R.CL_STATUS 31 ∨ !scribeRuns s then done s
  else
    let s := reachReg s
    if s.bit R.CL_STATUS 29 then
      if s.rd64 R.CL_LEASE_EXP_LO ≤ s.now then done (fencedOut s)
      else if majority s ∧ !higherHeard s then done (clRenew false (enterRoot (s.fw R.CL_STATUS 29 29 0)))
      else done s
    else if majority s then done (clRenew false s)
    else done (rootToHold ((s.fw R.CL_STATUS 29 29 1).ev Ev.ETCHER_FENCED 0 []))

/-- A candidate's first two conditions of R416. -/
def clExpired (s : State) : Bool :=
  let exp := s.rd64 R.CL_LEASE_EXP_LO
  exp != 0 && decide (exp + 80000 ≤ s.now)
    && !s.cl.heard.any fun x => x.2.holder && decide (s.rd R.CL_EPOCH ≤ x.2.epoch) && decide (s.ticks - x.2.tick ≤ s.now - exp)

/-- A chip whose heartbeat's HIGH exceeds a SEQ, among those heard over the last 750 µs (R409). -/
def clAhead (s : State) (last : Nat) : Option Nat := ((heardNow s).find? fun x => decide (last < x.2.high)).map (·.1)

/-- ETCHER_TAKEOVER (R409, R410, R416). -/
def execEtcherTakeover (s : State) : Host.Outcome State Fault Refusal :=
  if !isNamed s ∨ s.bit R.CL_STATUS 31 ∨ !scribeRuns s ∨ !clExpired s then done s
  else
    let s := reachReg s
    if !majority s then done (clSplit s)
    else
      let s := discardCopy .cluster s
      let last := lastSeq s .cluster
      let c := coldCause s .cluster (s.bit R.CL_STATUS 25) (clAhead s last)
      let e := s.rd R.CL_EPOCH + 1
      if c.1 = 0 then done (clTake e false ((s.wr R.CL_SEQ last).ev Ev.ETCHER_TAKEOVER 0 []))
      else
        let high := (heardNow s).foldl (fun m x => max m x.2.high) (s.rd R.CL_SEQ)
        done (clTake e true ((s.wr R.CL_SEQ high).ev Ev.ETCHER_COLD 0 [c.1, c.2]))

/-- CLUSTER_START (R413). -/
def execClusterStart (s : State) : Host.Outcome State Fault Refusal :=
  let quiet := fun n => decide (s.cl.holderTick + n ≤ s.ticks)
  let etcher := s.fd R.CL_CFG 13 0 == s.chip && quiet 3200000
  let cp := s.fd R.CL_CFG 29 16 == s.chip && quiet 16000000 && decide (s.cl.readyTick + 16000000 ≤ s.ticks)
  if s.top ≠ 5 ∨ s.bit R.CL_STATUS 31 ∨ s.rd R.CL_EPOCH ≠ 0 ∨ !scribeRuns s ∨ !(etcher || cp) then done s
  else
    let s := reachReg s
    if !majority s then done (clSplit s)
    else if etcher then done (clTake 1 false s)
    else done (clTake 1 false (s.ev Ev.ETCHER_TAKEOVER 0 []))

/-- HEARTBEAT_SEND (R414). -/
def execHeartbeatSend (s : State) : Host.Outcome State Fault Refusal :=
  if s.top ≠ 5 then done s
  else
    let s := reachReg s
    let c := s.rd R.CL_STATUS
    let ws := [w32 (2 ^ 24 * 0x48 + 2 ^ 23 * b2n (bitOf c 31) + 2 ^ 22 * b2n (bitOf c 29) + 2 ^ 21 * b2n (bitOf c 28)
        + 65536 * s.tst + s.curPlate), w32 s.chip, w32 (s.rd R.CL_EPOCH), w32 (s.rd R.CL_SEQ), w32 (reach s % 16384)] ++ w64 s.now
    done (s.sbBoth 0x02 (ws ++ [w32 (crc32 (dwBytes ws))]))

/-- A holder of a higher epoch, or of the same epoch and a lower chip number, is heard: the holder yields (R418). The request for
the winner's checkpoint, for which the spec gives no message, is left out (log 29). -/
def yieldCheck (epoch chip : Nat) (s : State) : State :=
  let own := s.rd R.CL_EPOCH
  if s.bit R.CL_STATUS 31 ∧ chip ≠ s.chip ∧ (own < epoch ∨ (own = epoch ∧ chip < s.chip)) then
    let s := s.uClu fun a => { a with bank0 := ⟨none, []⟩, bank1 := ⟨none, []⟩, journal := [], copy := none }
    let s := s.uRepl fun r => { r with etch := none, dec := none, wait := none, window := false, pairs := [], cleared := [] }
    let s := (setRole false true s).fw R.CL_STATUS 13 0 chip |>.fw R.CL_STATUS 29 29 0 |>.fw R.CL_STATUS 27 27 0
    rootToHold (ckptRegs (faultReg (s.fw R.CL_STATUS 26 26 0 |>.ev Ev.LEASE_YIELD 1 [])))
  else s

/-- A held lease is heard: the other named chip is the standby, fenced no more (R413, R417; log 28). -/
def leaseHeard (chip : Nat) (s : State) : State :=
  let s := s.uCl fun c => { c with holderTick := s.ticks }
  if s.bit R.CL_STATUS 31 ∨ chip = s.chip then s
  else
    let s := (s.fw R.CL_STATUS 13 0 chip).fw R.CL_STATUS 29 29 0
    if isNamed s then setRole false true s else s

/-- A heartbeat (R415, R418). One whose CRC or TYPE is wrong is discarded. -/
def heartbeat (w : List Word) (s : State) : State :=
  let a := pkW w 0
  let chip := pkW w 1 % 16384
  if w.length ≠ 8 ∨ fieldOf a 31 24 ≠ 0x48 ∨ w.getD 7 0 ≠ w32 (crc32 (dwBytes (w.take 7))) ∨ chip = s.chip then s
  else
    let h : Heard := ⟨s.ticks, pkW w 3, pkW w 2, bitOf a 23, bitOf a 22, bitOf a 21⟩
    let s := s.uCl fun c => { c with heard := smPut c.heard chip h }
    let s := s.uRepl fun r => { r with lost := r.lost.filter (· != chip) }
    let s := if h.holder then leaseHeard chip (yieldCheck h.epoch chip s) else s
    reachReg s

/-- HEARTBEAT_RECEIVE. -/
def execHeartbeatReceive (words : List Word) (s : State) : Host.Outcome State Fault Refusal := done (heartbeat words s)

end Sys2Proof.Machine
end

