-- ==== Sys2Proof/Machine/Power.lean ====
section
/-! DEFINITION. Power domains, package power and the slew governor (05). Rows PWR_DOM_ON to HEAT_NOTE_LAPSE. -/

namespace Sys2Proof.Machine

/-! In use (Table 5.1) -/

/-- A ring holds tickets. -/
def ringBusy (s : State) (r : Nat) : Bool := !(ringOf s r).queue.isEmpty || !(ringOf s r).run.isEmpty

/-- A range of device HBM touches a stack. -/
def touches (k : Nat) (x : Nat × Nat) : Bool := (stacksOf x).contains k

/-- A running descriptor's source or destination lies in a stack. -/
def descTouches (s : State) (k : Nat) (d : Desc) : Bool :=
  let hit := fun host a => !host && (match xPlace s a (dLen d) with
    | .hbm x => touches k (x, dLen d)
    | _ => false)
  hit (srcHost d) (dSrc d) || hit (dstHost d) (dDst d)

/-- A scrub burst is in progress on a stack: for the 320 ticks its reads take (21, One HBM scrub burst; log 39). -/
def scrubbing (s : State) (k : Nat) : Bool :=
  match (scrubAt s k).burst with
  | some t => decide (s.ticks - t < 320)
  | none => false

/-- A BAR2 request, ticket operand or descriptor transfer in flight touches a stack. -/
def memInUse (s : State) (k : Nat) : Bool :=
  s.pcie.wait.any (fun w => touches k (w.addr, w.len))
  || s.tkt.rings.any (fun e => e.2.run.any fun x => (hbmOperands s e.1 x.t).any (touches k))
  || s.xfe.ctxs.any fun e => match e.2.run with
    | some r => descTouches s k r.d
    | none => false

/-- An engine has an enabled loop. -/
def loopsOn (s : State) (e : Nat) : Bool := (List.range 140).any fun l => loopMode s e l != 0

/-- Power-off of a domain is refused (Table 5.1). -/
def domInUse (s : State) (d : Nat) : Bool :=
  if d < 0x80 then ringBusy s (2 * d) || ringBusy s (2 * d + 1)
  else if d < 0x90 then (List.range 18).any fun n => [true, false].any fun tx => !List.contains [0, 4, 5, 6] (s.lane tx (d - 0x80) n)
  else if d < 0x98 then memInUse s (d - 0x90) || scrubbing s (d - 0x90)
  else if d < 0xA0 then loopsOn s (2 * (d - 0x98)) || loopsOn s (2 * (d - 0x98) + 1)
  else if d < 0xA2 then activeUnit s == d - 0xA0 && decide (2 ≤ scribeState s (d - 0xA0))
  else if d = 0xA2 then false
  else if d = 0xA3 then s.fd R.XFE_STATUS 12 0 != 0
  else [3, 4, 5].contains s.top

/-! What a domain's leaving ON and its return change -/

/-- GRV_STATUS of a pair's clusters follows. -/
def pairSync (d : Nat) (s : State) : State := ringSync (2 * d + 1) (ringSync (2 * d) s)

/-- The pair's Vellum reads zero (R134, R97). -/
def zeroVellum (d : Nat) (s : State) : State :=
  let lo := 2 ^ 22 * d
  let hi := 2 ^ 22 * (d + 1)
  (s.uVel fun m => m.filter fun e => decide (e.1 < lo) || decide (hi ≤ e.1)).uVelEcc fun m =>
    m.filter fun e => decide (8 * e.1 < lo) || decide (hi ≤ 8 * e.1)

/-- A pair's engines run, or stop with their loop clock's gate (03 R92). -/
def styGate (i : Nat) (on : Bool) (s : State) : State :=
  let s := s.fw R.CLK_LOOP_RUN i i (b2n on)
  (s.fw (R.STY_STATUS (2 * i)) 0 0 (b2n on)).fw (R.STY_STATUS (2 * i + 1)) 0 0 (b2n on)

/-- A Scribe stops: its update session ends, and its standby is absent or it has lost the lease (06 R184, 15 R412). -/
def scribeGone (u : Nat) (s : State) : State :=
  let s := sessionEnd (fun o => o == u + 1) s
  let s := setScribe u 0 (s.uScr fun x => { x with halted := x.halted.filter (· != u), started := x.started.filter (· != u) })
  if activeUnit s = u then s else scribeSolo s

/-- Both sideband segments go down (02 R62). -/
def sidebandDown (s : State) : State :=
  sbSet .west { sbDown s.sbW with hdrs := [] } (sbSet .east { sbDown s.sbE with hdrs := [] } s)

/-- Hallmark buses search again (18 R482). -/
def searchAll (s : State) : State := if [3, 4, 5].contains s.top then (List.range 16).foldl (fun s p => hmkSearch p s) s else s

/-- A stack leaves or enters self-refresh with its PHY's PLL stopped or locked (03 R100, 21 R544). -/
def memSelf (k : Nat) (on : Bool) (s : State) : State :=
  (s.fw R.MEM_STATUS (8 + k) (8 + k) (b2n on)).fw R.CLK_STATUS (8 + k) (8 + k) (b2n (!on && s.bit R.MEM_STATUS k))

/-- A domain quiesces for power-down (R136). -/
def domDown (d : Nat) (s : State) : State :=
  if d < 0x80 then pairSync d s
  else if d < 0x90 then portSet (d - 0x80) 0 s
  else if d < 0x98 then
    let k := d - 0x90
    setScrub k (fun x => { x with offSince := some (x.offSince.getD s.ticks) }) (memSelf k true s)
  else if d < 0xA0 then styGate (d - 0x98) false s
  else if d < 0xA2 then scribeGone (d - 0xA0) s
  else if d = 0xA2 then functionReset s
  else if d = 0xA4 then s.uFab fun f => { f with inbox := [] }
  else if d = 0xA5 then proofStop s
  else if d = 0xA6 then (List.range 4).foldl (fun s k => driveGates k 0 s.ticks s) s
  else if d = 0xA7 then sidebandDown s
  else s

/-- A domain has come ON. -/
def domBack (d : Nat) (s : State) : State :=
  if d < 0x80 then pairSync d (wakeOver (2 * d + 1) (wakeOver (2 * d) (zeroVellum d s)))
  else if d < 0x90 then portWake (d - 0x80) s
  else if d < 0x98 then
    let k := d - 0x90
    let x := scrubAt s k
    let lost := match x.offSince with
      | some t => s.ticks - t
      | none => 0
    memBack k (setScrub k (fun x => { x with off := x.off + lost, offSince := none }) (memSelf k false s))
  else if d < 0xA0 then styGate (d - 0x98) true s
  else if d < 0xA2 then scribeStart (scribeRestart (d - 0xA0) s)
  else if d = 0xA2 then (if s.pins.perstHigh then functionStart s else s)
  else if d = 0xA5 then s.uProof fun p => { p with sync := some 1 }
  else if d = 0xA7 then searchAll (sbStart s)
  else s

/-! Requests (R138) -/

/-- The request that PWR_DOM_RESULT still names ends. -/
def domResult (d r : Nat) (s : State) : State :=
  if s.rd R.PWR_DOM_RESULT = 256 + d then s.wr R.PWR_DOM_RESULT (256 * r + d) else s

/-- AUTO of a pair on or off. -/
def setAuto (d : Nat) (on : Bool) (s : State) : State :=
  s.uPwr fun p => { p with auto := if on then d :: p.auto.filter (· != d) else p.auto.filter (· != d) }

/-- WAKING counts the domains in WAKING. -/
def wakingCount (s : State) : State :=
  s.fw R.PWR_STATUS 7 0 ((List.range 168).filter fun d => s.dom d == 1).length

/-- A domain begins to power down. -/
def sleepStart (d : Nat) (s : State) : State := domDown d (s.setDom d 3)

/-- A request on a domain whose sequence has ended is acted on. -/
def domAct (d : Nat) (a : DomAct) (s : State) : State :=
  let off := s.dom d == 0
  match a with
  | .on =>
    let s := setAuto d false s
    if off then queueUp d s else domResult d 0 s
  | .off =>
    if off then domResult d 0 (setAuto d false (s.uPwr fun p => { p with upQ := p.upQ.filter (· != d) }))
    else if domInUse s d then
      let s := if 0x90 ≤ d ∧ d < 0x98 ∧ scrubbing s (d - 0x90) = true then setScrub (d - 0x90) (fun x => { x with hold := true }) s else s
      (domResult d 2 s).ev Ev.PWR_REFUSED d []
    else sleepStart d (setAuto d false s)
  | .auto =>
    let s := domResult d 0 (setAuto d true s)
    let calls := (ringOf s (2 * d)).wakeFrom.isSome || (ringOf s (2 * d + 1)).wakeFrom.isSome
    if off && calls then queueUp d s else s

/-- A request of a path (R138, R141). -/
def domReq (p : Path) (d : Nat) (a : DomAct) (s : State) : State :=
  let code := match a with
    | .on => 1
    | .off => 2
    | .auto => 3
  if hostLike p then (s.wr R.PWR_DOM_RESULT (768 + d)).deny Ev.PWR_DENIED R.PWR_DOM_REQ (256 * code + d) p
  else if 0xA8 ≤ d ∨ (a = .auto ∧ 0x80 ≤ d) then s.wr R.PWR_DOM_RESULT (1024 + d)
  else
    let s := s.wr R.PWR_DOM_RESULT (256 + d)
    if s.dom d = 1 ∨ s.dom d = 3 ∨ s.rst.doms.contains d then
      s.uPwr fun x => { x with waiting := x.waiting.filter (fun w => w.1 != d) ++ [(d, a)] }
    else domAct d a s

/-- The request that waited for a domain is acted on. -/
def domNext (d : Nat) (s : State) : State :=
  match s.pwr.waiting.find? fun w => w.1 == d with
  | some w => domAct d w.2 (s.uPwr fun x => { x with waiting := x.waiting.filter fun w => w.1 != d })
  | none => s

/-- A domain's sequence has ended: the request that waited for it is acted on and reports its own outcome; where none waits, the request
that began the sequence is done (R138). -/
def domDone (d : Nat) (s : State) : State :=
  if s.pwr.waiting.any (fun w => w.1 == d) then domNext d s else domResult d 0 s

/-- A write of PWR_DOM_REQ. -/
def domReqWrite (p : Path) (v : Nat) (s : State) : State :=
  match fieldOf v 9 8 with
  | 1 => domReq p (v % 256) .on s
  | 2 => domReq p (v % 256) .off s
  | 3 => domReq p (v % 256) .auto s
  | _ => if hostLike p then (s.wr R.PWR_DOM_RESULT (768 + v % 256)).deny Ev.PWR_DENIED R.PWR_DOM_REQ v p else s

/-- PWR_DOM_ON (R138). -/
def execPwrDomOn (path : Path) (dom : Byte) (s : State) : Host.Outcome State Fault Refusal :=
  through path (.write R.PWR_DOM_REQ (256 + dom.toNat)) s <| done (domReq path dom.toNat .on s)

/-- PWR_DOM_OFF (R138). -/
def execPwrDomOff (path : Path) (dom : Byte) (s : State) : Host.Outcome State Fault Refusal :=
  through path (.write R.PWR_DOM_REQ (512 + dom.toNat)) s <| done (domReq path dom.toNat .off s)

/-- PWR_DOM_AUTO (R138). -/
def execPwrDomAuto (path : Path) (dom : Byte) (s : State) : Host.Outcome State Fault Refusal :=
  through path (.write R.PWR_DOM_REQ (768 + dom.toNat)) s <| done (domReq path dom.toNat .auto s)

/-- The rail of a domain (R137). -/
def railOf (d : Nat) : Rail := if d < 0x40 then .grv0 else if d < 0x80 then .grv1 else .ctl

/-- POWER_UP_START (R137): the lowest OFF domain waiting for its rail. A domain held in domain reset waits (R141). -/
def execPowerUpStart (rail : Rail) (s : State) : Host.Outcome State Fault Refusal :=
  match lowest 168 fun d => railOf d == rail && s.pwr.upQ.contains d && s.dom d == 0 && !s.rst.doms.contains d with
  | none => done s
  | some d => done (wakingCount ((s.uPwr fun p => { p with upQ := p.upQ.filter (· != d) }).setDom d 1))

/-- A domain comes ON. -/
def wakeDone (d : Nat) (s : State) : State :=
  domDone d (domBack d (wakingCount (s.setDom d 2)))

/-- DOMAIN_WAKE_DONE (R136). -/
def execDomainWakeDone (dom : Fin 168) (s : State) : Host.Outcome State Fault Refusal :=
  done (if s.dom dom.val = 1 then wakeDone dom.val s else s)

/-- DOMAIN_SLEEP_DONE (R136). A pair in AUTO whose ticket came meanwhile wakes again (R139). -/
def execDomainSleepDone (dom : Fin 168) (s : State) : Host.Outcome State Fault Refusal :=
  let d := dom.val
  if s.dom d ≠ 3 then done s
  else
    let s := domDone d (s.setDom d 0)
    let s := if d < 0x80 then pairSync d s else s
    let calls := (ringOf s (2 * d)).wakeFrom.isSome || (ringOf s (2 * d + 1)).wakeFrom.isSome
    done (if s.dom d = 0 ∧ s.pwr.auto.contains d ∧ calls = true then queueUp d s else s)

/-- AUTO_IDLE_POWER_OFF (R139; 19 R513). -/
def execAutoIdlePowerOff (pair : Fin 128) (s : State) : Host.Outcome State Fault Refusal :=
  let d := pair.val
  if s.pwr.auto.contains d ∧ s.domUp d = true ∧ domInUse s d = false then done (sleepStart d s) else done s

/-! Package power (R142–R144) -/

/-- The average of measurements, in 1/16 W. -/
def measMean (l : List Nat) : Nat := if l.isEmpty then 0 else l.sum / l.length

/-- PWR_PKG_LIMIT in 1/16 W, at most 1,400 W; a write stores that limit (log 135). -/
def pkgLimit (s : State) : Nat := 16 * min 1400 (s.fd R.PWR_PKG_LIMIT 10 0)

/-- A die's current admitted power, 1/1024 W. -/
def admitted (s : State) (g : Nat) : Int := (histI s g).headD 0

/-- Record one frame's measurements and their averages (R142). -/
def measTake (pkg g0 g1 : Nat) (s : State) : State :=
  let s := s.uPwr fun p => { p with meas := (pkg :: p.meas).take 200 }
  let s := uGov 1 (fun g => { g with meas := (g1 :: g.meas).take 200 }) (uGov 0 (fun g => { g with meas := (g0 :: g.meas).take 200 }) s)
  let top := 2 ^ 20 - 1
  let s := s.wr R.PWR_PKG_MEAS (satN top (measMean s.pwr.meas))
  (s.wr (R.PWR_DIE_MEAS_G 0) (satN top (measMean s.pwr.g0.meas))).wr (R.PWR_DIE_MEAS_G 1) (satN top (measMean s.pwr.g1.meas))

/-- The cap comes, follows the excess, or is lifted (R143). A die's share of the excess is rounded up to 1/1024 W (log 40). -/
def capTake (s : State) : State :=
  let avg := measMean s.pwr.meas
  let lim := pkgLimit s
  let was := s.bit R.PWR_STATUS 8
  if lim < avg then
    let a := fun g => (admitted s g).toNat
    let share := fun g => ceilDiv (64 * (avg - lim) * a g) (a 0 + a 1)
    let c0 := a 0 - share 0
    let c1 := a 1 - share 1
    let s := uGov 1 (fun g => { g with cap := some c1 }) (uGov 0 (fun g => { g with cap := some c0 }) s)
    if was then s else notesLapse 3 (fun n => !n.bare) ((s.fw R.PWR_STATUS 8 8 1).ev Ev.PWR_CAP 0 [])
  else if was ∧ avg ≤ lim - 28 * 16 then
    (uGov 1 (fun g => { g with cap := none }) (uGov 0 (fun g => { g with cap := none }) s)).fw R.PWR_STATUS 8 8 0
  else s

/-- The overload's run of frames, and its release: admitted power restarts from the measured level (R144). -/
def overTake (pkg g0 g1 : Nat) (s : State) : State :=
  let s := s.uPwr fun p => { p with overRun := if 23520 < pkg then min 20 (p.overRun + 1) else 0 }
  if s.bit R.PWR_STATUS 9 ∧ pkg ≤ pkgLimit s then
    let s := s.fw R.PWR_STATUS 9 9 0
    uGov 1 (fun g => { g with hist := List.replicate 100 (pu g1) }) (uGov 0 (fun g => { g with hist := List.replicate 100 (pu g0) }) s)
  else s

/-- The I² × R of the four TECs, from the frame means of their currents in mA and their resistances in mΩ, in 1/16 W rounded down (R142;
11 R298; log 141). -/
def tecPower (s : State) : Nat :=
  (List.range 4).foldl (fun a k => a + (sgn 32 (s.rd (R.TEC_ISNS k))).natAbs ^ 2 * s.fd (R.TEC_RES k) 15 0) 0 / 62500000

/-- Package power of a frame (R142): the rails that the monitors read, VDD_GRV0 and VDD_GRV1 among them, and the TECs. -/
def pkgPower (m : Rails) (g0 g1 : Nat) (s : State) : Nat := m.ctl + g0 + g1 + m.hbm + m.vhtr + m.vlas + tecPower s

/-- PACKAGE_POWER_MEASURE (R142–R144): what the rail monitors read in this frame. -/
def execPackagePowerMeasure (rails : Rails) (g0 g1 : Nat) (s : State) : Host.Outcome State Fault Refusal :=
  let pkg := pkgPower rails g0 g1 s
  done (capTake (overTake pkg g0 g1 (measTake pkg g0 g1 s)))

/-- PWR_OVERLOAD (R144). -/
def execPwrOverload (s : State) : Host.Outcome State Fault Refusal :=
  if s.pwr.overRun < 20 ∨ s.bit R.PWR_STATUS 9 then done s
  else
    let s := ((accrueDie 1 (accrueDie 0 s)).fw R.PWR_STATUS 9 9 1).ev Ev.PWR_OVERLOAD 0 []
    let s := (s.fw (R.PWR_GOV_STATUS_G 0) 22 16 0).fw (R.PWR_GOV_STATUS_G 1) 22 16 0
    done (notesLapse 4 (fun n => !n.bare) s)

/-! The governor (R145–R149) -/

/-- S of a die, 4 to 256 (R148). The register keeps what was written (log 135). -/
def slewOf (s : State) (g : Nat) : Nat := max 4 (min 256 (s.fd (R.PWR_GOV_CFG_G g) 8 0))

/-- S_eff for a headroom (R149). -/
def seffOf (s : State) (g : Nat) : Nat :=
  let h := s.fd R.PWR_HEADROOM 7 0
  let k := s.fd (R.PWR_GOV_CFG_G g) 23 16
  if k ≤ h then slewOf s g else max 4 (slewOf s g * h / k)

/-- The ceiling of a die's next step. -/
def ceilOf (s : State) (g : Nat) : Int := capped (govOf s g).cap (lowest100 (histI s g) + seffU s g)

/-- A power ticket's demand at a step as its note describes it (R156); a fall is admitted at once. -/
def powerNoted (s : State) (g step : Nat) (p : PwrDemand) : PwrDemand :=
  if p.die ≠ g then p
  else if p.want ≤ p.have_ then { p with have_ := p.want }
  else match s.pwr.notes.find? fun n => n.ring == p.ring && powerNote n && decide (stepOf n.start ≤ step) with
    | some n => { p with have_ := max p.have_ (min p.want (noteAt n step)) }
    | none => p

/-- The ramps of a die that no note describes rise, one after the other, into the room that is left (R156). -/
def rampStep (s : State) (g step : Nat) (x : Int × List PwrDemand) (p : PwrDemand) : Int × List PwrDemand :=
  if p.die ≠ g ∨ p.want ≤ p.have_ ∨ s.pwr.notes.any (fun n => n.ring == p.ring && powerNote n && decide (stepOf n.start ≤ step)) then
    (x.1, x.2 ++ [p])
  else
    let up := clampI 0 (p.want - p.have_) x.1
    (x.1 - up, x.2 ++ [{ p with have_ := p.have_ + up }])

/-- A running ticket's planned admitted power while its plan runs; a note outside the plan gives none (R153). -/
def plannedOf (s : State) (step : Nat) (x : Nat × RunT) : Option Int :=
  match noteOf s x.1 x.2.t.idx with
  | some n =>
    if !n.bare ∧ stepOf n.start ≤ step ∧ step < (noteEnd n).getD 0 then some (min (noteAt n step) (pu (declared s x.2.t))) else none
  | none => none

/-- The power of a die that every step counts in full: its pairs' idle power and its power tickets' demand. -/
def fixedOf (s : State) (g : Nat) : Int := s.pwr.power.foldl (fun a p => if p.die = g then a + p.have_ else a) (pu (pairIdle s g))

/-- What a die's throttled tickets draw before any rise at this step: the plan, and under the last step's duty those that ran then. -/
def drawnOf (s : State) (g step : Nat) : Int :=
  (throttledOn s g).foldl (fun a x => a + (match plannedOf s step x with
    | some v => v
    | none => if stepOf x.2.start < step then (s.fd (R.PWR_GOV_STATUS_G g) 22 16 : Int) * declared s x.2.t else 0)) 0

/-- The power tickets of a die at a step (R156): as their notes say, then the ramps in the room that is left of the ceiling, ahead of any
rise of the throttled tickets. -/
def powerStep (g step : Nat) (s : State) : State :=
  let s := s.uPwr fun p => { p with power := p.power.map (powerNoted s g step) }
  s.uPwr fun p => { p with power := (p.power.foldl (rampStep s g step) (ceilOf s g - fixedOf s g - drawnOf s g step, [])).2 }

/-- One die's step. -/
def govStep (g : Nat) (s : State) : State :=
  let step := stepOf s.now
  let s := accrueDie g s
  let s := if s.now % 8000 < 1600 then uGov g (fun x => { x with sEff := seffOf s g }) s else s
  let s := powerStep g step s
  let ts := throttledOn s g
  let scal : Int := ts.foldl (fun a x => a + (declared s x.2.t : Int)) 0
  let fixed := fixedOf s g
  let planned := ts.foldl (fun a x => a + (plannedOf s step x).getD 0) 0
  let bare := ts.foldl (fun a x => a + (if (plannedOf s step x).isSome then 0 else pu (declared s x.2.t))) 0
  let a := capped (govOf s g).cap (fixed + planned + min bare (max 0 (ceilOf s g - fixed - planned)))
  let d := if s.bit R.PWR_STATUS 9 then 0 else dutyOf (a - fixed) scal
  let s := uGov g (fun x => { x with hist := ((fixed + d * scal) :: x.hist).take 100, given := 0 }) s
  s.wr (R.PWR_GOV_STATUS_G g)
    (2 ^ 31 * b2n (decide ((govOf s g).sEff < slewOf s g)) + 2 ^ 30 * b2n (govOf s g).cap.isSome + 65536 * d.toNat + (govOf s g).sEff)

/-- GOVERNOR_STEP (R145). -/
def execGovernorStep (s : State) : Host.Outcome State Fault Refusal := done (govStep 1 (govStep 0 s))

/-! Heat notes (R150–R155, 20 R525) -/

/-- What a prediction carries along: when each unit is free, the end of each earlier ticket, of all, the last start, and the end of
the barrier just ahead. -/
structure Pred where
  free : List Nat
  ends : List (Nat × Nat)
  all : Nat
  last : Option Nat
  bar : Option Nat
  deriving DecidableEq, Repr

/-- A predicted end joins. -/
def predEnd (t : Tkt) (start stop : Nat) (bar : Option Nat) (p : Pred) : Pred :=
  { free := match tUnit t with
      | some u => setAt 0 p.free u stop
      | none => p.free,
    ends := (t.idx, stop) :: p.ends, all := max p.all stop, last := some start, bar := bar }

/-- A running ticket's predicted end. -/
def predRun (s : State) (r : Nat) (p : Pred) (x : RunT) : Pred :=
  let stop := if isBarrier x.t then max s.now (tAddr x.t 4) else s.now + (tktCycles s r x.t + x.hold - (s.ticks - x.tick))
  predEnd x.t x.start stop (if isBarrier x.t then some stop else p.bar) p

/-- A queued ticket's predicted start. -/
def predStart (now : Nat) (p : Pred) (t : Tkt) : Nat :=
  if isBarrier t then max now p.all
  else match p.bar with
    | some b => max now (b + 16)
    | none =>
      let unit := match tUnit t with
        | some u => p.free.getD u 0
        | none => 0
      let waits := (p.ends.filter fun e => bitOf (tktDw t 0) 22 || (List.range 16).any fun k =>
        bitOf (tktDw t 0) k && e.1 == (t.idx + 65535 - k) % 65536).foldl (fun a e => max a e.2) 0
      let after := max unit (max waits (p.last.getD 0))
      if after = 0 then now else max now (after + 2)

/-- Predicted starts of a ring's queued tickets, in order (20 R525). -/
def predGo (s : State) (r : Nat) : Pred → List Tkt → List (Tkt × Nat)
  | _, [] => []
  | p, t :: ts =>
    let st := predStart s.now p t
    let stop := if isBarrier t then max st (tAddr t 4) else if isFence t then max st p.all + 8 else st + tktCycles s r t
    (t, st) :: predGo s r (predEnd t st stop (if isBarrier t then some stop else none) p) ts

/-- Predicted starts. -/
def predict (s : State) (r : Nat) : List (Tkt × Nat) :=
  predGo s r ((ringOf s r).run.foldl (predRun s r) ⟨[0, 0, 0], [], 0, none, none⟩) (ringOf s r).queue

/-- Plan the note of one ticket in the look-ahead window (R150, R154). One whose note has lapsed gets its next as it starts (R153). -/
def lookPlan (r : Nat) (s : State) (x : Tkt × Nat) : State :=
  let t := x.1
  if t.bad ∨ (tKind t ≠ 1 ∧ tKind t ≠ 6) ∨ isBare s r t ∨ (noteOf s r t.idx).isSome ∨ s.now + 128000 < x.2 ∨ !noteRoom s (dieOf r) x.2 then s
  else noteEnter r t x.2 s

/-- LOOKAHEAD_ENTRY (R150). -/
def execLookaheadEntry (ring : Fin 256) (s : State) : Host.Outcome State Fault Refusal :=
  done ((predict s ring.val).foldl (lookPlan ring.val) s)

/-- What a lapsed note still delivers, 1/16 W (R152). -/
def lapsedValue (x : Lapsed) : Int := tdivI (x.v * ((x.decay : Int) - x.k)) (64 * x.decay)

/-- What a note outside the plan delivers: its ticket's power as it is admitted now, 1/1024 W (R153). -/
def bareValue (s : State) (n : Note) : Int :=
  if n.rest.isNone then powerOf s n.ring
  else if (runOf s n.ring n.idx).isSome then s.fd (R.PWR_GOV_STATUS_G n.die) 22 16 * n.p else 0

/-- What a note delivers at frame boundary f, 1/1024 W (R151). -/
def noteValue (s : State) (f : Nat) (n : Note) : Int := if n.bare then bareValue s n else noteAt n (5 * (f + n.lead))

/-- HN_g at frame f (R151). -/
def hnValue (s : State) (g f : Nat) : Int :=
  let notes := s.pwr.notes.foldl (fun a n => if n.die = g then a + noteValue s f n else a) 0
  notes / 64 + s.pwr.lapsed.foldl (fun a x => if x.die = g then a + lapsedValue x else a) 0

/-- A note whose last step has been delivered and whose ticket no longer waits. -/
def noteOver (s : State) (f : Nat) (n : Note) : Bool :=
  !notePending s n && (if n.bare then n.rest.isSome && (runOf s n.ring n.idx).isNone else match noteEnd n with
    | some e => decide (e ≤ 5 * (f + n.lead)) && decide (e ≤ 5 * f)
    | none => false)

/-- A die's value goes to all 16 engines. -/
def hnSend (g : Nat) (v : Int) (s : State) : State :=
  let w := wrapN 32 v
  let s := s.wr (R.PWR_HN_G g) w
  (List.range 16).foldl (fun s e => s.wr (R.STY_HN_G e g) w) s

/-- HEAT_NOTE_DELIVERY (R151): at frame boundary f. -/
def execHeatNoteDelivery (s : State) : Host.Outcome State Fault Refusal :=
  let f := s.now / 8000
  let s := s.uPwr fun p => { p with
    lapsed := (p.lapsed.map fun x => { x with k := x.k + 1 }).filter fun x => decide (x.k < x.decay) }
  let v0 := hnValue s 0 f
  let v1 := hnValue s 1 f
  let s := hnSend 1 v1 (hnSend 0 v0 s)
  done (s.uPwr fun p => { p with
    notes := (p.notes.filter fun n => !noteOver s f n).map fun n => { n with last := noteValue s f n } })

/-- HEAT_NOTE_LAPSE (R152): the notes of a ring whose tickets have not started in time lapse; the other causes lapse where they
arise. -/
def execHeatNoteLapse (ring : Fin 256) (cause : Fin 5) (s : State) : Host.Outcome State Fault Refusal :=
  if cause.val ≠ 2 then done s
  else done (notesLapse 2 (fun n => n.ring == ring.val && notePending s n && decide ((n.start / 8000 + 3) * 8000 ≤ s.now)) s)

end Sys2Proof.Machine
end

