-- ==== Sys2Proof/Machine/Resets.lean ====
section
/-! DEFINITION. Resets (03 R93–R103, 02 R72–R75) and the step correction (03 R88–R90). Rows PWROK_RISE, POWER_LOSS_CONFIRMED,
ROOT_UNLOCK to FLR_COMPLETE. -/

namespace Sys2Proof.Machine

/-! Power-on and chip reset -/

/-- DEPART leaves on both directions whose segment is up: chip number and cause bits (02 R74, Table 2.8). -/
def departSend (cause : Nat) (s : State) : State :=
  [Dir.east, Dir.west].foldl (fun s d =>
    if (s.sb d).up then s.emit (.sb d (sbBuild 0x04 s.chip d [w32 s.chip, w32 cause])) else s) s

/-- Laser currents, heater DACs and TEC gates go to zero (02 R74, 03 Table 3.6): the gates at their pins; the rest with the state
that the reset clears. -/
def gatesOff (s : State) : State := (List.range 4).foldl (fun s k => driveGates k 0 s.ticks s) s

/-- The READY ball goes low as the package leaves READY (01 R33; 03 Table 3.6). -/
def readyDrop (s : State) : State := if s.top = 5 then s.emit (.ready false) else s

/-- Registers that a chip reset keeps (Table 3.3): RST, the event collector's and HBM log's, alerts, fuses in programming. -/
def chipKeeps (off : Nat) : Bool :=
  (decide (0x20000 ≤ off) && decide (off < 0x20024))
  || off == R.BOOT_FUSE || off == R.PCIE_LINK_CNT || off == R.EVT_STATUS || off == R.EVT_FAULT
  || (decide (0x2800014 ≤ off) && decide (off < 0x2800028)) || off == R.EVT_IRQ_DROP
  || (decide (0x2801000 ≤ off) && decide (off < 0x2801800))
  || off == R.MGMT_ALERT || off == R.MGMT_SMB_ERR || off == R.MGMT_FUSE_STATUS

/-- Parts of registers that a chip reset keeps: straps, references, the root's lock; a narrower reset is absorbed (R99). -/
def chipFields (old s : State) : State :=
  let s := (s.fw R.GLB_STATE 5 5 (old.fd R.GLB_STATE 5 5)).fw R.GLB_CHIP 21 16 (old.fd R.GLB_CHIP 21 16)
  let s := (s.fw R.BOOT_STATUS 25 24 (old.fd R.BOOT_STATUS 25 24)).fw R.BOOT_STATUS 3 3 (old.fd R.BOOT_STATUS 3 3)
  ((s.fw R.CLK_STATUS 0 0 (old.fd R.CLK_STATUS 0 0)).fw R.CLK_STATUS 4 4 (old.fd R.CLK_STATUS 4 4)).fw R.RST_BUSY 2 0 0

/-- The part completes what it has begun through a chip reset, which ends an update's session and command (06 R184, R694; log 138). -/
def FlashOp.late : FlashOp → FlashOp
  | .eraseSlot k n => .lateErase (slotBase k) ((n + 65535) / 65536 * 65536)
  | .progSlot k off bs => .lateProg (slotBase k + off) bs
  | op => op

/-- A chip reset takes hold (Table 3.3, Table 3.6): what it keeps stays, all else is at its reset value. -/
def chipClear (s : State) : State :=
  chipFields s { State.reset with
    pending := s.pending, ct := s.ct, ticks := s.ticks, free := s.free, out := s.out,
    regs := s.regs.filter fun e => chipKeeps e.1,
    hbm := s.hbm, hbmEcc := s.hbmEcc, flash := s.flash, fuses := s.fuses, pins := { s.pins with driven := [] },
    evt := { s.evt with marks := s.evt.marks, snap := none },
    boot := { State.reset.boot with flash := s.boot.flash.map FlashOp.late },
    mgmt := s.mgmt,
    rst := ⟨true, false, []⟩ }

/-- A chip reset with a cause bit of RST_CAUSE (R93, Table 3.6); one under way goes on. -/
def chipReset (bit : Nat) (s : State) : State :=
  if s.rst.chip ∨ s.rst.por then s
  else
    let s := departSend (2 ^ bit) (gatesOff (readyDrop s))
    (chipClear (s.fw R.RST_CAUSE bit bit 1)).sat R.RST_CHIP_CNT 31 0 1

/-- EXTEST holds the chip reset (26 R652). -/
def extestHolds (s : State) : Bool := s.mgmt.ir == 3

/-- The package leaves a chip reset: the Scribes and PCI Express are powered, IMAGE begins once the root is locked (Table 3.6). -/
def execChipResetRelease (s : State) : Host.Outcome State Fault Refusal :=
  if !s.rst.chip ∨ extestHolds s = true then done s
  else
    let s := s.uRst fun r => { r with chip := false }
    let s := if s.pins.perstHigh then functionStart s else s
    done (if s.bit R.CLK_STATUS 0 then enterImage s else s)

/-- ROOT_UNLOCK (R84). -/
def execRootUnlock (s : State) : Host.Outcome State Fault Refusal := done (chipReset 4 (s.fw R.CLK_STATUS 0 0 0))

/-- The cause bit of a path, for those that may reset the chip. -/
def causeBit : Path → Nat
  | .smbus => 2
  | .jtag => 3
  | _ => 1

/-- A reset write that its path may not make (R94). -/
def rstDeny (p : Path) (off v : Nat) (s : State) : State := (s.sat R.RST_DENY_CNT 31 0 1).deny Ev.RST_DENIED off v p

/-- A write of RST_CHIP (R94, R102). -/
def rstChipWrite (p : Path) (v : Nat) (s : State) : State :=
  if hostLike p then rstDeny p R.RST_CHIP v s else if v = 0xA5C3 then chipReset (causeBit p) s else s

/-- RST_CHIP row. -/
def execRstChip (path : Path) (value : Word) (s : State) : Host.Outcome State Fault Refusal :=
  through path (.write R.RST_CHIP value.toNat) s <|
  done (rstChipWrite path value.toNat s)

/-- POWER_LOSS_CONFIRMED (02 R73, R74): the shutdown, and the package holds in power-on reset. What an interrupted flash operation leaves
are free values (log 138). -/
def execPowerLossConfirmed (s : State) : Host.Outcome State Fault Refusal :=
  if s.pins.pwrok then done s
  else
    let s := departSend 0 (gatesOff (readyDrop s))
    let s := (match s.boot.flash with
      | some op => freeFlash (flashSpan op).1 (flashSpan op).2 s
      | none => s)
    done { State.reset with
      pending := s.pending, ticks := s.ticks, free := s.free, out := s.out, flash := s.flash, fuses := s.fuses,
      pins := { State.reset.pins with pwrok := false, perstHigh := s.pins.perstHigh },
      rst := ⟨false, true, []⟩ }

/-- PWROK_RISE (02 R44; 03 R101): straps sampled, the power-on reset ends. A low that the machine has ignored ends with nothing done
(R73). -/
def execPwrokRise (cfgOpen : Bool) (bootSel : BitVec 2) (rackSlot : BitVec 6) (s : State) : Host.Outcome State Fault Refusal :=
  let s := s.uPins fun p => { p with pwrok := true }
  if !s.rst.por then done s
  else
    let s := (s.uPins fun p => { p with cfgOpen := cfgOpen, bootSel := bootSel, rackSlot := rackSlot }).uRst fun r => { r with por := false }
    let s := ((s.uCt fun _ => 0).fw R.GLB_STATE 5 5 (b2n cfgOpen)).fw R.GLB_CHIP 21 16 rackSlot.toNat
    let s := s.uMgmt fun m => { m with live := s.ticks + 3200000 }
    let s := (s.fw R.BOOT_STATUS 25 24 bootSel.toNat).fw R.BOOT_STATUS 3 3 (b2n cfgOpen)
    done (if s.pins.perstHigh then functionStart s else s.fw R.RST_BUSY 3 3 1)

/-! Domain reset (R97, Table 3.4) -/

/-- A port's lanes go DARK, their rings parked (12 Table 12.1); light expressed through it stays (05 R133). -/
def portDark (p : Nat) (s : State) : State :=
  let s := (List.range 18).foldl (fun s n => [true, false].foldl (fun s tx =>
    if [0, 4, 6].contains (s.lane tx p n) then s else setLane tx p n 0 (parkLane tx p n s)) s) s
  portSet p 0 (laneCounts p (s.uLk p fun _ => Lnk.init))

/-- A word that a record of LOOPS writes, stored directly where it belongs to engine e's coefficient blocks (09 R254, R261). -/
def reloadPut (e off v : Nat) (s : State) : State :=
  match coefAt off with
  | some (e', l, _) => if e' = e ∧ loopId e l ≠ 0xFFF then s.put off v else s
  | none => s

/-- Engine e's words from the register-load records at flash address b, from dword i on (06 Table 6.4b). -/
def reloadRecs (e b : Nat) : Nat → Nat → State → State
  | 0, _, s => s
  | k + 1, i, s =>
    let d0 := secDw s b i
    let off := secDw s b (i + 1)
    let cnt := fieldOf d0 27 16
    match d0 / 2 ^ 28 with
    | 1 => reloadRecs e b k (i + 2 + cnt) ((List.range cnt).foldl (fun s j => reloadPut e (off + 4 * j) (secDw s b (i + 2 + j)) s) s)
    | 2 => reloadRecs e b k (i + 3) ((List.range cnt).foldl (fun s j => reloadPut e (off + 4 * j) (secDw s b (i + 2)) s) s)
    | _ => reloadRecs e b k (i + 2 + off) s

/-- The coefficient words of a loop that software may write return to their reset values (09 Table 9.5). -/
def coefClear (e l : Nat) (s : State) : State :=
  (List.range 64).foldl (fun s w => if w = 11 ∨ w = 12 ∨ w = 13 then s else s.wr (coefOff e l w) 0) s

/-- A loop restarts: held, and seeded so that its first output with p = 0 is the held DAC code (09 R261). -/
def loopSeed (e l : Nat) (s : State) : State :=
  let dac := (s.lp e l).dac
  let s := (s.setLp e l { LoopSt.init with dac := dac }).fw (coefOff e l 0) 4 4 1
  s.wr (coefOff e l 10) (wrapN 32 (65536 * dac - lawBase s e l 0))

/-- A Stylus engine restarts: an empty queue, every coefficient block reloaded from the running image's LOOPS section (09 R261). -/
def engineRestart (e : Nat) (s : State) : State :=
  let s := wqLevel ((s.setEng e ⟨[], none, 0, none⟩).uSty fun t => { t with todo := t.todo.filter (·.1 != e) }) e
  let ls := (List.range 140).filter fun l => loopId e l != 0xFFF
  let s := ls.foldl (fun s l => coefClear e l s) s
  let s := (match findSection s (s.fd R.BOOT_STATUS 20 20) 4 with
    | some (b, _) => reloadRecs e b (secDw s b 1 % 65536) 2 s
    | none => s)
  ls.foldl (fun s l => loopSeed e l s) s

/-- Packets in flight in the router are dropped; their links resend them. -/
def routerDrop (s : State) : State :=
  (List.range 16).foldl (fun s p => s.uLk p fun L => { L with flits := [], queue := [] }) (s.uFab fun f => { f with inbox := [] })

/-- What a domain reset does as it begins. -/
def domHold (d : Nat) (s : State) : State :=
  if d < 0x80 then zeroVellum d (pairReset d s)
  else if d < 0x90 then portDark (d - 0x80) s
  else if d < 0x98 then
    let k := d - 0x90
    xStrike k (memStrike k (memSelf k true s))
  else if d < 0xA0 then s
  else if d < 0xA2 then scribeGone (d - 0xA0) s
  else if d = 0xA2 then sessionEnd (· == 0) (functionReset s)
  else if d = 0xA3 then xDomainReset s
  else if d = 0xA4 then routerDrop s
  else if d = 0xA5 then proofReset 4 s
  else if d = 0xA6 then (List.range 8).foldl (fun s b => safeOn 2 b s) (gatesOff s)
  else (sidebandDown s).uHmk fun l => l.map fun h => { h with search := none }

/-- What a domain reset does as it is released. -/
def domRelease (d : Nat) (s : State) : State :=
  if d < 0x80 then pairSync d s
  else if d < 0x90 then portWake (d - 0x80) s
  else if d < 0x98 then memBack (d - 0x90) (memSelf (d - 0x90) false s)
  else if d < 0xA0 then
    let i := d - 0x98
    engineRestart (2 * i + 1) (engineRestart (2 * i) s)
  else if d < 0xA2 then scribeStart (scribeRestart (d - 0xA0) s)
  else if d = 0xA2 then (if s.pins.perstHigh then functionStart s else s)
  else if d = 0xA3 then xDomainRelease s
  else if d = 0xA5 then s.uProof fun p => { p with sync := some 1 }
  else if d = 0xA6 then (if [3, 4, 5].contains s.top then (List.range 4).foldl (fun s k => tecBringup k s) s else s)
  else if d = 0xA7 then searchAll (sbStart s)
  else s

/-- RST_BUSY.DOMAIN_BUSY follows. -/
def rstBusy (s : State) : State := s.fw R.RST_BUSY 0 0 (b2n (!s.rst.doms.isEmpty))

/-- A write of RST_DOMAIN (R94, R97, R99, R102; 05 R141). -/
def rstDomainWrite (p : Path) (v : Nat) (s : State) : State :=
  let d := v % 256
  if hostLike p then rstDeny p R.RST_DOMAIN v s
  else if 0xA8 ≤ d ∨ s.dom d ≠ 2 ∨ s.rst.doms.contains d ∨ s.rst.chip ∨ s.rst.por then s
  else rstBusy (domHold d (s.uRst fun r => { r with doms := r.doms ++ [d] }))

/-- RST_DOMAIN row. -/
def execRstDomain (path : Path) (value : Word) (s : State) : Host.Outcome State Fault Refusal :=
  through path (.write R.RST_DOMAIN value.toNat) s <|
  done (rstDomainWrite path value.toNat s)

/-- DOMAIN_RESET_RELEASE (R97): then a power request that waited is acted on (05 R141). -/
def execDomainResetRelease (dom : Fin 168) (s : State) : Host.Outcome State Fault Refusal :=
  let d := dom.val
  if !s.rst.doms.contains d then done s
  else
    let s := rstBusy (s.uRst fun r => { r with doms := r.doms.filter (· != d) })
    done (domNext d (domRelease d s))

/-! Block reset (R98, R103) -/

/-- LNK block p: retry state and counters; a rotation under way ends; the link trains again, unless the port is DARK or shut. -/
def lnkBlockReset (p : Nat) (s : State) : State :=
  let s := (match (s.lk p).rot with
    | some r => recount p (rotUndo p r s)
    | none => s)
  let s := s.uLk p fun L => { L with asks := [], now := none, lastRot := 0, txBsn := 0, retry := [], rxBsn := 0, rxHeld := [], sinceAck := 0, held := [] }
  let s := ((s.wr (R.LNK_RETRY_CNT p) 0).wr (R.LNK_RETRY_STATUS p) 0).wr (R.LNK_DUP_CNT p) 0
  let s := s.wr (R.LNK_ROT_CNT p) 0
  let s := (List.range 18).foldl (fun s n => [0, 1].foldl (fun s t =>
    let o := R.LNK_LANE_STATE p t n
    (((s.wr (o + 4) 0).wr (o + 8) 0).wr (o + 12) 0).wr (o + 16) 0) s) s
  if s.port p == 0 || s.bit R.LAS_SHUT p then s else if s.port p == 6 then tryTrain p s else enterTraining p s

/-- Proof telemetry and crop outputs. -/
def telemReset (s : State) : State :=
  (s.uProof fun t => { t with tsum := [], tcount := 0, ttemp := [] }).wr R.PROOF_TELEM_CNT 0

/-- A block's reset. -/
def blockReset (b : Nat) (s : State) : State :=
  if b < 0x10 then lnkBlockReset b s
  else if b < 0x20 then
    let p := b - 0x10
    let s := (uHp p (fun _ => ⟨none, 0, false⟩) s).wr (R.HMK_P_CNT p) 0
    if hmkOn s then hmkSearch p s else hmkIdle p s
  else if b = 0x20 then (s.wr R.EVT_HBM_WR 0).wr R.EVT_HBM_RD 0
  else if b = 0x21 then xHostReset s
  else if b = 0x22 then stopHostRings s
  else if b = 0x23 then telemReset s
  else s

/-- A write of RST_BLOCK (R94, R98, R103). -/
def rstBlockWrite (p : Path) (v : Nat) (s : State) : State :=
  let b := v % 256
  if hostLike p ∧ b ≠ 0x21 ∧ b ≠ 0x22 then rstDeny p R.RST_BLOCK v s
  else if s.rst.chip ∨ s.rst.por then s
  else blockReset b s

/-- RST_BLOCK row. -/
def execRstBlock (path : Path) (value : Word) (s : State) : Host.Outcome State Fault Refusal :=
  through path (.write R.RST_BLOCK value.toNat) s <|
  done (rstBlockWrite path value.toNat s)

/-! PERST_N and FLR (R95, R96; 22 R573–R584) -/

/-- The PCI Express domain runs, outside a chip or power-on reset. -/
def functionPowered (s : State) : Bool := s.domUp 0xA2 && !s.rst.chip && !s.rst.por

/-- PERST_N_ASSERT (Table 3.7): an FLR in progress is absorbed (R99). -/
def execPerstNAssert (s : State) : Host.Outcome State Fault Refusal :=
  if !s.pins.perstHigh then done s
  else
    let s := s.uPins fun p => { p with perstHigh := false }
    let s := (s.fw R.RST_BUSY 3 2 2).sat R.RST_PERST_CNT 31 0 1
    done (sessionEnd (· == 0) (functionReset s))

/-- PERST_N_RELEASE (22 R573). -/
def execPerstNRelease (s : State) : Host.Outcome State Fault Refusal :=
  if s.pins.perstHigh then done s
  else
    let s := (s.uPins fun p => { p with perstHigh := true }).fw R.RST_BUSY 3 3 0
    done (if functionPowered s then functionStart s else s)

/-- An FLR begins (22 R581, R583, R584). -/
def flrStart (s : State) : State :=
  if !s.pins.perstHigh ∨ s.bit R.PCIE_STATUS 3 ∨ !functionPowered s then s
  else
    let s := sessionEnd (· == 0) (fenceAll (hostReset s))
    let s := (s.fw R.PCIE_STATUS 3 3 1).fw R.RST_BUSY 2 2 1
    s.sat R.RST_FLR_CNT 31 0 1

/-- FUNCTION_LEVEL_RESET row. -/
def execFunctionLevelReset (s : State) : Host.Outcome State Fault Refusal := done (flrStart s)

/-- FLR_COMPLETE (22 R584). -/
def execFlrComplete (s : State) : Host.Outcome State Fault Refusal :=
  done (if s.bit R.PCIE_STATUS 3 then ((s.fw R.PCIE_STATUS 3 3 0).fw R.RST_BUSY 2 2 0).sat R.PCIE_FLR_CNT 31 0 1 else s)

/-! The step correction (R88–R90; 04 R119–R123, R692) -/

/-- STEP_CORRECTION_APPLY: CT moves, and with it every deadline kept as a CT value; a step of more than 8 ticks resets the
decimators. -/
def execStepCorrectionApply (s : State) : Host.Outcome State Fault Refusal :=
  match s.time.pending with
  | none => done s
  | some d =>
    let s := { s with ct := BitVec.ofInt 64 ((s.now : Int) + d) }
    let s := s.uTime fun t => { t with pending := none, landed := s.ticks }
    let s := hnPending (s.uPwr fun p => { p with notes := p.notes.map fun n => { n with start := ((n.start : Int) + d).toNat } })
    let w := wrapN 64 d
    let s := (shiftDeadlines d s).wr64 R.TIME_LAST_STEP_LO w
    let s := (s.sat R.TIME_STEP_CNT 31 0 1).ev Ev.TIME_STEP 0 [w % 2 ^ 32, w / 2 ^ 32]
    done (if 8 < d.natAbs ∧ s.domUp 0xA5 then proofReset 2 s else s)

end Sys2Proof.Machine
end

