-- ==== Sys2Proof/Machine/Mailbox.lean ====
section
/-! DEFINITION. The mailbox and image update, the flash operations, the boot lock, Request Retry Status and entry into READY
(06 R178–R194). -/

namespace Sys2Proof.Machine

/-! The mailbox (R182–R190) -/

/-- An argument as the path's own copy holds it (R184). -/
def mbArg (s : State) (p i : Nat) : Nat := (smGet (fun _ => (0 : Word)) s.boot.args (4 * p + i)).toNat

/-- Another path owns the open session (R183). -/
def mbOwned (s : State) (p : Nat) : Bool :=
  match s.boot.session with
  | some x => x.owner != p
  | none => false

/-- A flash operation of a command begins, after a log write in progress (R190): BUSY until it ends. -/
def startFlash (op : FlashOp) (s : State) : State :=
  (s.fw R.BOOT_MB_STATUS 31 31 1).uBoot fun b => if b.flash.isNone then { b with flash := some op } else { b with flashNext := some op }

/-- Bytes of BOOT_MB_BUF from its start. -/
def mbBuf (s : State) (n : Nat) : List Byte :=
  ((List.range ((n + 3) / 4)).flatMap fun i => natToBytes 4 (s.rd (R.BOOT_MB_BUF i))).take n

/-- QUERY: 16 dwords of each slot's header (Table 6.6). -/
def mbQuery (p : Nat) (s : State) : State :=
  mbEnd p 1 0 ((List.range 32).foldl (fun s i => s.wr (R.BOOT_MB_BUF i) (hdrDw s (i / 16) (i % 16))) s)

/-- UPD_BEGIN. -/
def mbBegin (p : Nat) (s : State) : State :=
  let k := mbArg s p 0
  let n := mbArg s p 1
  if mbOwned s p then mbEnd p 0x10 2 s
  else if 1 < k then mbEnd p 0x10 4 s
  else if !imgValid s (1 - k) ∧ s.top ≠ 6 then mbEnd p 0x10 3 s
  else if n < 4096 ∨ 33554432 < n then mbEnd p 0x10 4 s
  else startFlash (.eraseSlot k n) (((setValid k false s).fw R.BOOT_MB_STATUS 18 16 p).fw R.BOOT_MB_STATUS 7 0 0x10)

/-- UPD_WRITE; with no session open it is held to a session of length 0 (DEDUCED). -/
def mbWrite (p : Nat) (s : State) : State :=
  let off := mbArg s p 0
  let n := mbArg s p 1
  let x := s.boot.session.getD ⟨0, 0, 0, p⟩
  if mbOwned s p then mbEnd p 0x11 2 s
  else if off ≠ x.written then mbEnd p 0x11 5 s
  else if 32768 < n ∨ (n % 256 ≠ 0 ∧ off + n ≠ x.len) ∨ x.len < off + n then mbEnd p 0x11 4 s
  else if n = 0 then mbEnd p 0x11 0 s
  else startFlash (.progSlot x.slot off (mbBuf s n)) (s.fw R.BOOT_MB_STATUS 7 0 0x11)

/-- UPD_VERIFY; with no session open nothing is written and check 3 fails (DEDUCED). -/
def mbVerify (p : Nat) (late : Bool) (s : State) : State :=
  if mbOwned s p then mbEnd p 0x12 2 s
  else match s.boot.session with
    | none => mbEnd p 0x12 0x18 s
    | some x =>
      let r := imageCheck s x.slot late (some x.written)
      let s := sessionClose ((noteCheck x.slot r s).wr R.BOOT_MB_PROGRESS x.written)
      if r = 0 then (mbEnd p 0x12 0 s).ev Ev.IMAGE_UPDATED x.slot [] else mbEnd p 0x12 (0x10 + r) s

/-- UPD_ABORT. -/
def mbAbort (p : Nat) (s : State) : State :=
  if mbOwned s p then mbEnd p 0x13 2 s else mbEnd p 0x13 0 (sessionClose s)

/-- RESTART (R187): RESTART_POLICY in the running image's header. -/
def mbRestart (p : Nat) (s : State) : State :=
  if s.top = 6 ∨ fieldOf (s.boot.hdr.getD 5 0).toNat 5 4 = 1 then chipReset 1 (mbEnd p 0x20 0 s) else mbEnd p 0x20 6 s

/-- ROLLBACK_ADVANCE (R188). -/
def mbRollback (p : Nat) (s : State) : State :=
  let n := mbArg s p 0
  if s.pins.cfgOpen ∨ n ≤ s.fuses.rollback ∨ 64 < n ∨ !imgValid s 0 ∨ !imgValid s 1
      ∨ hdrDw s 0 3 % 128 < n ∨ hdrDw s 1 3 % 128 < n then mbEnd p 0x21 7 s
  else mbEnd p 0x21 0 ((s.uFuses fun f => { f with rollback := n }).ev Ev.ROLLBACK_ADVANCED 0 [n])

/-- A command by its opcode. -/
def mbRun (p op : Nat) (late : Bool) (s : State) : State :=
  match op with
  | 0x01 => mbQuery p s
  | 0x10 => mbBegin p s
  | 0x11 => mbWrite p s
  | 0x12 => mbVerify p late s
  | 0x13 => mbAbort p s
  | 0x20 => mbRestart p s
  | 0x21 => mbRollback p s
  | _ => mbEnd p op 9 s

/-- A write of BOOT_MB_CMD (R182). -/
def mbCommand (p op : Nat) (late : Bool) (s : State) : State :=
  if s.bit R.BOOT_MB_STATUS 31 then s.ev Ev.MB_CONFLICT 0 [] else mbRun p op late (s.wr R.BOOT_MB_PROGRESS 0)

/-- A write of BOOT_MB_CMD by any other row: whether the flash responds in time as UPD_VERIFY reads it is free (log 3). -/
def mbWriteCmd (p op : Nat) (s : State) : State :=
  if op = 0x12 then
    let d := drawBelow 2 s
    mbCommand p op (d.1 == 1) d.2
  else mbCommand p op false s

/-- QUERY. -/
def execQuery (path : Path) (s : State) : Host.Outcome State Fault Refusal :=
  through path (.write R.BOOT_MB_CMD 0x01) s <| done (mbCommand path.code 0x01 false s)
/-- UPD_BEGIN. -/
def execUpdBegin (path : Path) (s : State) : Host.Outcome State Fault Refusal :=
  through path (.write R.BOOT_MB_CMD 0x10) s <| done (mbCommand path.code 0x10 false s)
/-- UPD_WRITE. -/
def execUpdWrite (path : Path) (s : State) : Host.Outcome State Fault Refusal :=
  through path (.write R.BOOT_MB_CMD 0x11) s <| done (mbCommand path.code 0x11 false s)
/-- UPD_VERIFY. -/
def execUpdVerify (path : Path) (late : Bool) (s : State) : Host.Outcome State Fault Refusal :=
  through path (.write R.BOOT_MB_CMD 0x12) s <| done (mbCommand path.code 0x12 late s)
/-- UPD_ABORT. -/
def execUpdAbort (path : Path) (s : State) : Host.Outcome State Fault Refusal :=
  through path (.write R.BOOT_MB_CMD 0x13) s <| done (mbCommand path.code 0x13 false s)
/-- RESTART. -/
def execRestart (path : Path) (s : State) : Host.Outcome State Fault Refusal :=
  through path (.write R.BOOT_MB_CMD 0x20) s <| done (mbCommand path.code 0x20 false s)
/-- ROLLBACK_ADVANCE. -/
def execRollbackAdvance (path : Path) (s : State) : Host.Outcome State Fault Refusal :=
  through path (.write R.BOOT_MB_CMD 0x21) s <| done (mbCommand path.code 0x21 false s)

/-- An opcode Table 6.6 does not list: UNKNOWN_OP. -/
def execMbUnknownOp (path : Path) (opcode : Byte) (s : State) : Host.Outcome State Fault Refusal :=
  through path (.write R.BOOT_MB_CMD opcode.toNat) s <| done (mbWriteCmd path.code opcode.toNat s)

/-- UPD_SESSION_TIMEOUT (R184): the owner issued no command for 10 s. -/
def execUpdSessionTimeout (s : State) : Host.Outcome State Fault Refusal := done (sessionEnd (fun _ => true) s)

/-! Flash operations (R694) -/

/-- Where the bytes of a page of records go. -/
def pageBytes (recs : List (List Word)) : List Byte := recs.flatMap dwBytes

/-- A flash operation has taken effect (R186, 24 R619, R621). -/
def flashDone (op : FlashOp) (s : State) : State :=
  match op with
  | .eraseSlot k n =>
    let s := eraseFlash (slotBase k) ((n + 65535) / 65536 * 65536) s
    let p := s.fd R.BOOT_MB_STATUS 18 16
    let s := (s.uBoot fun b => { b with session := some ⟨k, n, 0, p⟩ }).wr R.BOOT_MB_PROGRESS ((n + 65535) / 65536 * 65536)
    mbEnd p 0x10 0 (s.fw R.BOOT_MB_STATUS 24 24 1)
  | .progSlot k off bs =>
    let s := (progFlash (slotBase k + off) bs s).wr R.BOOT_MB_PROGRESS bs.length
    match s.boot.session with
    | none => s.fw R.BOOT_MB_STATUS 31 31 0
    | some x => mbEnd x.owner 0x11 0 (s.uBoot fun b => { b with session := some { x with written := x.written + bs.length } })
  | .logPage k slot recs => nvmNext (progFlash (logSector k + 32 * slot) (pageBytes recs) s)
  | .logErase k => eraseFlash (logSector k) 65536 s
  | .lateErase a n => eraseFlash a n s
  | .lateProg a bs => progFlash a bs s

/-- A flash operation failed (R694). -/
def flashFail (op : FlashOp) (s : State) : State :=
  let s := freeFlash (flashSpan op).1 (flashSpan op).2 s
  match op with
  | .eraseSlot _ _ => mbEnd (s.fd R.BOOT_MB_STATUS 18 16) 0x10 8 s
  | .progSlot _ _ _ =>
    match s.boot.session with
    | none => s.fw R.BOOT_MB_STATUS 31 31 0
    | some x => mbEnd x.owner 0x11 8 s
  | .logPage _ _ recs => nvmNext (s.sat R.EVT_NVM_DROP 31 0 recs.length)
  | .logErase _ | .lateErase .. | .lateProg .. => s

/-- The operation that waited begins. -/
def flashTurn (s : State) : State := s.uBoot fun b => { b with flash := b.flashNext, flashNext := none }

/-- FLASH_OP_DONE: the part reports ready. -/
def execFlashOpDone (s : State) : Host.Outcome State Fault Refusal :=
  match s.boot.flash with
  | none => done s
  | some op => done (flashDone op (flashTurn s))

/-- FLASH_OP_TIMEOUT: the part is not ready in time. -/
def execFlashOpTimeout (s : State) : Host.Outcome State Fault Refusal :=
  match s.boot.flash with
  | none => done s
  | some op => done (flashFail op (flashTurn s))

/-! Boot -/

/-- BACKGROUND_AUTHENTICATION (R185): the slot that is not running, once. -/
def execBackgroundAuthentication (late : Bool) (s : State) : Host.Outcome State Fault Refusal :=
  if s.top ≠ 5 ∨ !scribeRuns s ∨ s.bit R.BOOT_STATUS 19 then done s
  else
    let k := 1 - s.fd R.BOOT_STATUS 20 20
    done ((noteCheck k (imageCheck s k late none) s).fw R.BOOT_STATUS 19 19 1)

/-- A write of BOOT_LOCK (R178). -/
def bootLock (p : Path) (v : Nat) (s : State) : State :=
  if s.top ≤ 2 then s.deny Ev.LOCKED_WRITE R.BOOT_LOCK v p
  else if bitOf v 0 then s.wr R.BOOT_LOCK 1
  else if p = .jtag ∧ s.pins.cfgOpen then s.wr R.BOOT_LOCK 0
  else s

/-- BOOT_LOCK_WRITE. -/
def execBootLockWrite (path : Path) (value : Word) (s : State) : Host.Outcome State Fault Refusal :=
  through path (.write R.BOOT_LOCK value.toNat) s <| done (bootLock path value.toNat s)

/-- READY (R193; 16 R433: a package announces itself): its ball goes high (01 R33). -/
def readyGo (s : State) : State :=
  let s := ((s.emit (.ready true)).fw R.GLB_STATE 3 0 5).wr64 R.BOOT_READY_CT_LO s.now
  selfNote (s.uCl fun c => { c with readyTick := s.ticks })

/-- A port the safe plate terminates. -/
def safeTerminates (s : State) (p : Nat) : Bool := recMode (s.recDw 63) p != 0

/-- Every port that the safe plate terminates is ACTIVE, DEGRADED or in QUARANTINE, and TIME_STATE is TRACK or ROOT (R193). -/
def readyNow (s : State) : Bool :=
  (List.range 16).all (fun p => !safeTerminates s p || [3, 4, 5].contains (s.port p)) && (s.tst == 2 || s.tst == 5)

/-- READY_ENTRY. -/
def execReadyEntry (s : State) : Host.Outcome State Fault Refusal := done (if s.top = 4 ∧ readyNow s then readyGo s else s)

/-- BOOT_LINK_WAIT_EXPIRY: BOOT_LINK_WAIT has elapsed since LINKS began. -/
def execBootLinkWaitExpiry (s : State) : Host.Outcome State Fault Refusal := done (if s.top = 4 then readyGo s else s)

/-- RRS_TIMEOUT (R180): 1 s after the release. -/
def execRrsTimeout (s : State) : Host.Outcome State Fault Refusal := done (s.uBoot fun b => { b with rrs := false })

end Sys2Proof.Machine
end

