-- ==== Sys2Proof/Machine/Access.lean ====
section
/-! DEFINITION. Register access on every path: what a write of any BAR0 offset does and what a read returns (00 R14–R24, R693; 17
R448; 27 R660–R664), with the rows of the register-access family and the fuse commands (26 R647–R650). -/

namespace Sys2Proof.Machine

/-- The state an outcome goes on to. -/
def outState (s : State) : Host.Outcome State Fault Refusal → State
  | .next t => t
  | _ => s

/-! Fuses (26 R647–R650) -/

/-- A path that may program fuses (R650). -/
def mayFuse (p : Path) : Bool := p == .smbus || p == .jtag

/-- The key hash that MGMT_FUSE_HASH0–11 hold, HASH0 its bytes 0–3 (R648). -/
def fuseHash (s : State) : Nat := (List.range 12).foldl (fun a i => a + 2 ^ (32 * i) * s.rd (R.MGMT_FUSE_HASH i)) 0

/-- A refused fuse operation, or one whose verify failed: RESULT and FUSE_FAIL (R649). -/
def fuseFail (op result : Nat) (s : State) : State := (s.wr R.MGMT_FUSE_STATUS (2 ^ 24 * result)).ev Ev.FUSE_FAIL op [result]

/-- A fuse operation begins: BUSY. -/
def fuseStart (op v : Nat) (s : State) : State := (s.wr R.MGMT_FUSE_STATUS (2 ^ 31)).uMgmt fun m => { m with fuse := some (op, v) }

/-- A write of MGMT_FUSE_CMD; OP other than 1 and 2 names no operation. -/
def fuseCommand (p : Path) (v : Nat) (s : State) : State :=
  if !mayFuse p then s.deny Ev.MGMT_DENIED R.MGMT_FUSE_CMD v p
  else if s.mgmt.fuse.isSome ∨ v / 65536 % 65536 ≠ 0x5AF0 then s
  else if v % 16 = 1 then
    if 4 ≤ s.fuses.chips.length then fuseFail 1 1 s else fuseStart 1 (s.fd R.MGMT_FUSE_CHIP 13 0) s
  else if v % 16 = 2 then
    if s.fuses.keyHash ≠ 0 then fuseFail 2 2 s
    else if fuseHash s = 0 then fuseFail 2 3 s
    else fuseStart 2 (fuseHash s) s
  else s

/-- FUSE_PROGRAM_CHIP (R647): the write of MGMT_FUSE_CMD with OP 1. -/
def execFuseProgramChip (path : Path) (value : Word) (s : State) : Host.Outcome State Fault Refusal :=
  through path (.write R.MGMT_FUSE_CMD value.toNat) s <| done (fuseCommand path value.toNat s)

/-- FUSE_PROGRAM_KEY_HASH (R648): the write of MGMT_FUSE_CMD with OP 2. -/
def execFuseProgramKeyHash (path : Path) (value : Word) (s : State) : Host.Outcome State Fault Refusal :=
  through path (.write R.MGMT_FUSE_CMD value.toNat) s <| done (fuseCommand path value.toNat s)

/-- What a failed fuse operation leaves: the fuses it was blowing are free values (log 43). -/
def fuseSpoiled (op : Nat) (s : State) : State :=
  let w := s.draw.1.toNat
  let bytes := (List.range 48).map (Config.freeByte s.free)
  s.draw.2.uFuses fun f =>
    if op = 1 then (if bitOf w 31 then { f with chips := f.chips ++ [BitVec.ofNat 14 w] } else f)
    else { f with keyHash := BitVec.ofNat 384 (bytesToNat bytes) }

/-- FUSE_OP_DONE (R649). -/
def execFuseOpDone (ok : Bool) (s : State) : Host.Outcome State Fault Refusal :=
  match s.mgmt.fuse with
  | none => done s
  | some (op, v) =>
    let s := s.uMgmt fun m => { m with fuse := none }
    if !ok then done (fuseFail op 4 (fuseSpoiled op s))
    else
      let slot := if op = 1 then s.fuses.chips.length else 0
      let s := s.uFuses fun f => if op = 1 then { f with chips := f.chips ++ [BitVec.ofNat 14 v] } else { f with keyHash := BitVec.ofNat 384 v }
      done ((s.wr R.MGMT_FUSE_STATUS 0).ev Ev.FUSE_PROGRAMMED op [if op = 1 then v else s.fuses.keyHash.toNat % 2 ^ 32, slot])

/-! Reads -/

/-- What a register reads as on a path, its RC clearing and the latches aside. -/
def regValue (p : Path) (off : Nat) (s : State) : Nat :=
  if off < 0x100000 then
    if off = R.TIME_CT_LO then s.now % 2 ^ 32
    else if off = R.TIME_CT_HI then s.now / 2 ^ 32
    else if off = R.CLK_PORT_LOCK then
      (List.range 16).foldl (fun a q => if s.dom (0x80 + q) = 2 ∧ s.bit R.CLK_STATUS 0 then a + 2 ^ q else a) 0
    else if off = R.BOOT_FUSE then fuseWord s
    else if R.BOOT_MB_ARG 0 ≤ off ∧ off ≤ R.BOOT_MB_ARG 2 then mbArg s p.code ((off - R.BOOT_MB_ARG 0) / 4)
    else if R.PROOF_LIVE 0 ≤ off ∧ off < R.PROOF_LIVE 3072 then
      (smGet (fun _ => (0 : Word)) s.proof.lastWords ((off - R.PROOF_LIVE 0) / 4)).toNat
    else if R.LAS_LINE 0 0 ≤ off ∧ off < R.LAS_LINE 8 0 then lineWord s ((off - R.LAS_LINE 0 0) / 128) ((off - R.LAS_LINE 0 0) % 128 / 4)
    else if R.PROOF_TELEM 0 ≤ off ∧ off < R.PROOF_TELEM 3072 then
      (smGet (fun _ => (0 : Word)) s.proof.telem ((off - R.PROOF_TELEM 0) / 4)).toNat
    else s.rd off
  else if off < 0x200000 ∧ off % 0x10000 = 0x14 then wrapN 32 s.vsqNow
  else if 0x300000 ≤ off ∧ off < 0x400000 then
    let view := smGet (fun _ => 63) s.repl.view p.code
    if off = R.PLATE_VIEW then view
    else if R.PLATE_VREC 0 ≤ off ∧ off < R.PLATE_VREC 512 then s.recDw view (off - R.PLATE_VREC 0)
    else if R.PLATE_CREC 0 ≤ off ∧ off < R.PLATE_CREC 512 then s.curRec (off - R.PLATE_CREC 0)
    else if R.PLATE_VMAP 0 ≤ off ∧ off < R.PLATE_VMAP 8192 then
      let x := (off - R.PLATE_VMAP 0) / 2
      let e := fun i => (smGet (fun _ => (0 : BitVec 16)) s.maps (16384 * view + i)).toNat
      e x + 65536 * e (x + 1)
    else s.rd off
  else if R.AGREE_ETCH_STATUS ≤ off ∧ off < 0x481900 ∧ !s.bit R.CL_STATUS 31 then 0
  else if off = R.CL_REACH then 65536 * (memberCount s % 16384) + reach s % 16384
  else if off = R.FAB_ROUTE_Q then smGet (fun _ => 0) s.fab.query p.code
  else if off = R.FAB_ROUTE_A then
    match s.fab.query.find? fun e => e.1 == p.code with
    | some e => routeAnswer s e.2
    | none => 0
  else if off = R.EVT_STATUS then s.rd off / 2 * 2 + b2n (logOn s)
  else if off = R.MGMT_STATUS then
    2 ^ 31 * b2n s.pins.cfgOpen + 2 ^ 30 * s.fd off 30 30 + 2 ^ 29 * b2n (extestHolds s) + 256 * s.fd R.MGMT_SMB_CFG 6 0 + s.fd off 3 0
  else if off = R.MGMT_FUSE_STATUS then
    s.rd off + 65536 * s.fuses.chips.length + 256 * b2n (s.fuses.keyHash != 0)
  else if off = R.MGMT_DBG_STATUS then b2n (s.scr.halted.contains 0) + 2 * b2n (s.scr.halted.contains 1)
  else s.rd off

/-- A pair's whole value at one instant (00 R19). -/
def pairValue (p : Path) (off : Nat) (s : State) : Nat := regValue p off s + 2 ^ 32 * regValue p (off + 4) s

/-- A 32-bit read on a path: 0 where nothing is mapped (00 R17), in a block whose domain is not ON (27 R661) and of a WO register; a
read of NAME_LO latches the upper half and NAME_HI returns the latch (00 R19–R21), but over SDFP, which has no latch and clears no RC
register (17 R448). A NAME_LO read that no block answers latches nothing (log 136). -/
def regRead (p : Path) (off : Nat) (s : State) : Nat × State :=
  match regRow off with
  | none => (0, s)
  | some r =>
    if !s.blockOn off ∨ r.acc = .wo then (0, s)
    else match r.half with
      | .lo =>
        let v := pairValue p off s
        (v % 2 ^ 32, if p = .sdfp then s
          else s.uAcc fun a => { a with latch := smSet (fun _ => (0 : Word)) a.latch p.code (w32 (v / 2 ^ 32)) })
      | .hi => (if p = .sdfp then 0 else (smGet (fun _ => (0 : Word)) s.acc.latch p.code).toNat, s)
      | .none => (regValue p off s, if r.acc = .rc ∧ p ≠ .sdfp then s.wr off 0 else s)

/-! Writes -/

/-- Block and index of an engine, context or ring register. -/
def unitOf (off base stride : Nat) : Nat := (off - base) / stride

/-- A write of LNK_CMD by its OP (12 R344); others are refused with reason 1. -/
def lnkCmdWrite (p : Path) (n : Nat) (v : Word) (s : State) : State :=
  let q := Fin.ofNat 16 n
  outState s (match fieldOf v.toNat 31 24 with
    | 1 => execLnkRetrain p q v s
    | 2 => execLnkRotateNow p q v s
    | 3 => execLnkSwap p q v s
    | 4 => execLnkRetire p q v s
    | 5 => execLoopOn p q v s
    | 6 => execLoopOff p q v s
    | _ => lnkCmd p n v (fun _ _ s => cmdRefused n v.toNat 1 s) s)

/-- A write of STY_TRACE_CMD: each bit set, lowest first (10 R284; the order of several is DEDUCED). -/
def traceCmdWrite (p : Path) (n v : Nat) (s : State) : State :=
  let e := Fin.ofNat 16 n
  let s := if bitOf v 0 then outState s (execTraceArm p e s) else s
  let s := if bitOf v 1 then outState s (execTraceForce p e s) else s
  if bitOf v 2 then outState s (execTraceStop p e s) else s

/-- A write inside the STY block. -/
def styWrite (p : Path) (off : Nat) (v : Word) (s : State) : State :=
  let n := unitOf off 0x100000 0x10000
  let o := off % 0x10000
  if o = 0x404 then outState s (execStySupRelease p (Fin.ofNat 16 n) v s)
  else if o = 0x420 then outState s (execRelayStart p (Fin.ofNat 16 n) v s)
  else if o = 0x440 then traceCmdWrite p n v.toNat s
  else if (coefAt off).isSome then coefWrite off v.toNat s
  else s.put off v.toNat

/-- A write of a command register by OP: 1 ABORT, 2 RESTART with SKIP (20 R540, R541; 23 R605, R606). -/
def opWrite (v : Nat) (abort : State → State) (restart : Bool → State → State) (s : State) : State :=
  if fieldOf v 31 28 = 1 then abort s else if fieldOf v 31 28 = 2 then restart (bitOf v 0) s else s

/-- A write inside the XFE context registers (23 R590–R607). -/
def xfeWrite (p : Path) (off : Nat) (v : Nat) (s : State) : State :=
  let c := unitOf off 0x800000 0x40
  let o := off % 0x40
  if o = 0x14 then xDoorbell p c v s
  else if o = 0x18 then rateWrite p c v s
  else if o = 0x1C then
    if !mayCtx s p c then xfeDeny p off v s else opWrite v (xAbort p c v) (fun skip => xRestart p c v skip) s
  else ctxWrite p off v s

/-- A write inside the ticket ring registers (20 R521–R541); TKT_Rr_CMD acts from every path. -/
def tktWrite (p : Path) (off : Nat) (v : Nat) (s : State) : State :=
  let r := unitOf off 0xC01000 0x40
  let o := off % 0x40
  if o = 0x18 then doorbellWrite p r v s
  else if o = 0x24 then opWrite v (abortRing r) (restartRing r) s
  else if o = 0x04 then feedWrite p off v s
  else ringConfig p off v s

/-- BOOT_MB_BUF takes writes of every path, of the owner alone while a session is open (06 R183). -/
def bufWrite (p : Path) (off v : Nat) (s : State) : State := if mbOwned s p.code then s else s.wr off v

/-- A write below the STY block: GLB, CLK, RST, PWR, BOOT, TIME, TEC, LAS, PROOF. -/
def lowWrite (p : Path) (off : Nat) (v : Word) (s : State) : State :=
  let n := v.toNat
  if off = R.RST_CHIP then rstChipWrite p n s
  else if off = R.RST_DOMAIN then rstDomainWrite p n s
  else if off = R.RST_BLOCK then rstBlockWrite p n s
  else if off = R.RST_CAUSE then s.wr off (s.rd off - Nat.land (s.rd off) n)
  else if off = R.CLK_REF_CFG then linkFollow (s.put off n)
  else if off = R.PWR_DOM_REQ then domReqWrite p n s
  else if off = R.BOOT_LOCK then bootLock p n s
  else if off = R.BOOT_MB_CMD then mbWriteCmd p.code (n % 256) s
  else if R.BOOT_MB_ARG 0 ≤ off ∧ off ≤ R.BOOT_MB_ARG 2 then
    s.uBoot fun b => { b with args := smSet (fun _ => (0 : Word)) b.args (4 * p.code + (off - R.BOOT_MB_ARG 0) / 4) v }
  else if R.BOOT_MB_BUF 0 ≤ off ∧ off < R.BOOT_MB_BUF 8192 then bufWrite p off n s
  else if off = R.TIME_PTM_CTL then ptmCtlWrite n s
  else if off = R.TEC_FAULT then outState s (execTecFaultClear p v s)
  else if (List.range 4).any (fun k => off == R.TEC_FORCE k) then
    outState s (execTeckForceWrite p (Fin.ofNat 4 (unitOf off (R.TEC_FORCE 0) 0x40)) v s)
  else if off = R.LAS_CTL then outState s (execLasCtlWrite p v s)
  else if off = R.PROOF_SYNC then outState s (execProofSync p v s)
  else if off = R.PROOF_DARK_CMD then outState s (execProofDarkCmd p v s)
  else if R.PROOF_DEFECT_LIVE 0 ≤ off ∧ off < R.PROOF_DEFECT_LIVE 96 then liveDefects (s.wr off (s.rd off - Nat.land (s.rd off) n))
  else if R.PROOF_CROP_WIN 0 ≤ off ∧ off ≤ R.PROOF_CROP_CTL 3 then cropOn (s.put off n)
  else if off = R.PCIE_BAR2_BASE then
    if 320 < n % 512 then s.deny Ev.PCIE_WIN_DENIED off n p else s.put off n
  else s.put off n

/-- A write above the STY block. -/
def highWrite (p : Path) (off : Nat) (v : Word) (s : State) : State :=
  let n := v.toNat
  if off < 0x300000 then (if off % 0x10000 = 0x40 then lnkCmdWrite p (unitOf off 0x200000 0x10000) v s else s.put off n)
  else if off = R.PLATE_VIEW then s.uRepl fun r => { r with view := smSet (fun _ => 63) r.view p.code (n % 64) }
  else if off = R.PLATE_REQ then plateReq p n s
  else if off = R.SCRIBE_LEASE_CMD then leaseCmd p n (n % 4) s
  else if off = R.FAB_ROUTE_Q then s.uFab fun f => { f with query := smSet (fun _ => 0) f.query p.code (n % 16384) }
  else if off = R.HMK_CMD then hmkCommand n s
  else if 0x800000 ≤ off ∧ off < 0x840000 then xfeWrite p off n s
  else if 0xC01000 ≤ off ∧ off < 0xC05000 then tktWrite p off n s
  else if 0x1000000 ≤ off ∧ off < 0x1100000 ∧ off % 0x1000 = 4 then shareWrite p off n s
  else if off = R.MEM_INJECT then injectWrite p n s
  else if off = R.MEM_INJECT_ADDR_LO ∨ off = R.MEM_INJECT_ADDR_HI then
    if injectDenied s p then s.deny Ev.MEM_DENIED off n p else s.put off n
  else if off = R.EVT_FAULT then faultClear p n s
  else if off = R.MGMT_FUSE_CMD then fuseCommand p n s
  else if off = R.MGMT_FUSE_CHIP ∨ (R.MGMT_FUSE_HASH 0 ≤ off ∧ off ≤ R.MGMT_FUSE_HASH 11) then
    if mayFuse p then s.put off n else s.deny Ev.MGMT_DENIED off n p
  else s.put off n

/-- A write that reaches a register that takes it. -/
def regAct (p : Path) (off : Nat) (v : Word) (s : State) : State :=
  if off < 0x100000 then lowWrite p off v s else if off < 0x200000 then styWrite p off v s else highWrite p off v s

/-- GRV_HBM_SHARE, whose path rule comes before the lock (00 R18, 19 R499). -/
def isShare (off : Nat) : Bool := decide (0x1000000 ≤ off) && decide (off < 0x1100000) && off % 0x1000 == 4

/-- TKT_Rr_FEED, likewise (20 R521). -/
def isFeed (off : Nat) : Bool := decide (0xC01000 ≤ off) && decide (off < 0xC05000) && off % 0x40 == 4

/-- A pair's write is taken: neither the lock nor a rule of its block discards it. -/
def pairTakes (p : Path) (r : RegRow) (off : Nat) (s : State) : Bool :=
  if r.acc = .rwl then !s.locked
  else if 0x800000 ≤ off ∧ off < 0x840000 then
    let c := unitOf off 0x800000 0x40
    mayCtx s p c && !(ctxKind s c != 0 && ctxState s c == 2)
  else if 0xC01000 ≤ off ∧ off < 0xC05000 then
    let q := unitOf off 0xC01000 0x40
    (ringMaster p || (p == .pcie && s.fd (R.TKT_FEED q) 1 0 == 0)) && (ringState s q == 0 || ringState s q == 3)
  else if off = R.MEM_INJECT_ADDR_LO ∨ off = R.MEM_INJECT_ADDR_HI then !injectDenied s p
  else true

/-- A write that is not taken: LOCKED_WRITE, or what the block's rule raises. -/
def pairRefused (p : Path) (r : RegRow) (off : Nat) (v : Word) (s : State) : State :=
  if r.acc = .rwl then s.deny Ev.LOCKED_WRITE off v.toNat p else regAct p off v s

/-- The NAME_LO write a path holds for a pair (00 R22). -/
def heldLo (s : State) (p : Path) (lo : Nat) : Option Word :=
  (s.acc.held.find? fun h => h.1 == p.code && h.2.1 == lo).map (·.2.2)

/-- Drop what a path holds for a pair. -/
def dropHeld (p : Path) (lo : Nat) (s : State) : State :=
  s.uAcc fun a => { a with held := a.held.filter fun h => !(h.1 == p.code && h.2.1 == lo) }

/-- A 32-bit write on a path (00 R14–R18, R22; 27 R661, R664). A NAME_LO value held when the lock refuses its NAME_HI stays held (log
136). -/
def regWrite (p : Path) (off : Nat) (v : Word) (s : State) : State :=
  match regRow off with
  | none => s
  | some r =>
    if !s.blockOn off ∨ r.acc = .ro ∨ r.acc = .rc then s
    else match r.half with
      | .none =>
        if r.acc = .rwl ∧ s.locked ∧ !((isShare off || isFeed off) && hostLike p) then s.deny Ev.LOCKED_WRITE off v.toNat p
        else regAct p off v s
      | .lo =>
        if p = .sdfp then s
        else if pairTakes p r off s then (dropHeld p off s).uAcc fun a => { a with held := a.held ++ [(p.code, off, v)] }
        else pairRefused p r off v s
      | .hi =>
        if p = .sdfp then s
        else if pairTakes p r off s then
          let lo := off - 4
          let t := (match heldLo s p lo with
            | some w => s.put lo w.toNat
            | none => s)
          dropHeld p lo (t.put off v.toNat)
        else pairRefused p r off v s

/-- An 8-byte SDFP write at NAME_LO: the whole pair at one instant (17 R448). One that is refused raises one event, with NAME_LO's offset
and value (log 136). -/
def pairWrite (p : Path) (off : Nat) (lo hi : Word) (s : State) : State :=
  match regRow off with
  | none => s
  | some r =>
    if !s.blockOn off ∨ r.acc = .ro ∨ r.acc = .rc then s
    else if pairTakes p r off s then (s.put off lo.toNat).put (off + 4) hi.toNat
    else pairRefused p r off lo s

/-- The offset is a NAME_LO. -/
def isLo (off : Nat) : Bool :=
  match regRow off with
  | some r => r.half == .lo
  | none => false

/-- Two dwords in order (00 R24, 27 R663), or a pair over SDFP (17 R448). -/
def read2 (p : Path) (off : Nat) (s : State) : List Word × State :=
  if p = .sdfp ∧ isLo off then
    let v := if s.blockOn off then pairValue p off s else 0
    ([w32 (v % 2 ^ 32), w32 (v / 2 ^ 32)], s)
  else
    let a := regRead p off s
    let b := regRead p (off + 4) a.2
    ([w32 a.1, w32 b.1], b.2)

/-- Two dwords written in order, or a pair over SDFP. -/
def write2 (p : Path) (off : Nat) (a b : Word) (s : State) : State :=
  if p = .sdfp ∧ isLo off then pairWrite p off a b s else regWrite p (off + 4) b (regWrite p off a s)

/-! What a path rule discards (17 R448): answered with DENIED over SDFP -/

/-- Registers no write of the host-like paths reaches: the rule each names it by. -/
def hostNever (off : Nat) : Bool :=
  off == R.RST_CHIP || off == R.RST_DOMAIN || off == R.PWR_DOM_REQ || off == R.TEC_FAULT
    || (List.range 4).any (fun k => off == R.TEC_FORCE k) || off == R.LAS_CTL || off == R.PROOF_SYNC || off == R.PROOF_DARK_CMD
    || (decide (0x100000 ≤ off) && decide (off < 0x200000) && (off % 0x10000 == 0x404 || off % 0x10000 == 0x420))
    || (decide (0x200000 ≤ off) && decide (off < 0x300000) && off % 0x10000 == 0x40)
    || off == R.SCRIBE_LEASE_CMD || isShare off || off == R.EVT_FAULT || off == R.MGMT_FUSE_CMD || off == R.MGMT_FUSE_CHIP
    || (decide (R.MGMT_FUSE_HASH 0 ≤ off) && decide (off ≤ R.MGMT_FUSE_HASH 11))

/-- A path rule discards this write. -/
def pathDenies (p : Path) (off v : Nat) (s : State) : Bool :=
  hostLike p && (hostNever off
    || (off == R.RST_BLOCK && !([0x21, 0x22].contains (v % 256)))
    || ((off == R.MEM_INJECT || off == R.MEM_INJECT_ADDR_LO || off == R.MEM_INJECT_ADDR_HI) && injectDenied s p)
    || (decide (0x800000 ≤ off) && decide (off < 0x840000) &&
        (if off % 0x40 = 0x14 then !mayDoor s p (unitOf off 0x800000 0x40) else !mayCtx s p (unitOf off 0x800000 0x40)))
    || (decide (0xC01000 ≤ off) && decide (off < 0xC05000) &&
        (if off % 0x40 = 0x18 then !mayRing s p (unitOf off 0xC01000 0x40)
         else isFeed off || (off % 0x40 != 0x24
           && !(p == .pcie && s.fd (R.TKT_FEED (unitOf off 0xC01000 0x40)) 1 0 == 0)))))

/-! The rows -/

/-- A read's answer; where the function does not take reads, Unsupported Request: no data (22 R573, R586). -/
def readThrough (p : Path) (r : HostReq) (s : State) (f : State → List Word × State) : Host.Outcome State Fault Refusal :=
  if s.pathOpen p then through p r s <|
    let x := f s
    done (x.2.emit (.read p x.1))
  else if p = .pcie then done (s.emit (.read p []))
  else done s

/-- One dword's read. -/
def read1 (p : Path) (off : Nat) (s : State) : List Word × State :=
  let x := regRead p off s
  ([w32 x.1], x.2)

/-- REGISTER_WRITE. -/
def execRegisterWrite (path : Path) (off : Nat) (value : Word) (s : State) : Host.Outcome State Fault Refusal :=
  through path (.write off value.toNat) s <| done (regWrite path off value s)

/-- NAME_LO_READ. -/
def execNameLoRead (path : Path) (off : Nat) (s : State) : Host.Outcome State Fault Refusal := readThrough path (.read off) s (read1 path off)
/-- NAME_HI_READ. -/
def execNameHiRead (path : Path) (off : Nat) (s : State) : Host.Outcome State Fault Refusal := readThrough path (.read off) s (read1 path off)
/-- RC_READ. -/
def execRcRead (path : Path) (off : Nat) (s : State) : Host.Outcome State Fault Refusal := readThrough path (.read off) s (read1 path off)

/-- NAME_LO_WRITE. -/
def execNameLoWrite (path : Path) (off : Nat) (value : Word) (s : State) : Host.Outcome State Fault Refusal :=
  through path (.write off value.toNat) s <| done (regWrite path off value s)
/-- NAME_HI_WRITE. -/
def execNameHiWrite (path : Path) (off : Nat) (value : Word) (s : State) : Host.Outcome State Fault Refusal :=
  through path (.write off value.toNat) s <| done (regWrite path off value s)

/-- TWO_DWORD_ACCESS. -/
def execTwoDwordAccess (path : Path) (off : Nat) (data : Option (Word × Word)) (s : State) : Host.Outcome State Fault Refusal :=
  match data with
  | none => readThrough path (.read2 off) s (read2 path off)
  | some (a, b) => through path (.write2 off a b) s <| done (write2 path off a b s)

/-- BAD_REGISTER_ACCESS (00 R693): not carried out. A read returns zero; JTAG shows BAD_ACC. The other paths answer as their own
rules say: BAR_BAD_ACCESS, SMBus READ and WRITE, SDFP requests. -/
def execBadRegisterAccess (path : Path) (isWrite : Bool) (_off : Nat) (_value : Word) (s : State) : Host.Outcome State Fault Refusal :=
  if !s.pathOpen path then done s
  else
    let s := if isWrite then s else s.emit (.read path [0])
    done (if path = .jtag then s.uMgmt fun m => { m with result := (4, 0) } else s)

end Sys2Proof.Machine
end

