-- ==== Sys2Proof/Machine/BootAttempt.lean ====
section
/-! DEFINITION. Boot attempts, how they fail, and SAFE (06 R171–R176). Row IMAGE_SLOT_ATTEMPT. -/

namespace Sys2Proof.Machine

/-- Every domain that CONFIG powered returns to OFF, its block quiesced as by any power-down: only the domains of R140 stay (R175). -/
def domainsOff (s : State) : State :=
  let s := (List.range 168).foldl (fun s d => if s.dom d = 0 ∨ (0xA0 ≤ d ∧ d ≤ 0xA2) then s else (domDown d s).setDom d 0) s
  wakingCount (s.uPwr fun p => { p with auto := [], upQ := [], waiting := [] })

/-- GLB_CHIP holds no chip number: VALID and CHIP_NUM read 0 (01 R30). -/
def chipUnset (s : State) : State := (s.fw R.GLB_CHIP 31 31 0).fw R.GLB_CHIP 13 0 0

/-- SAFE (R32, R175, R176): Request Retry Status ends (R180). -/
def enterSafe (s : State) : State :=
  let s := replayLog (domainsOff s)
  let s := chipUnset ((s.fw R.GLB_STATE 3 0 6).fw R.BOOT_STATUS 2 0 6)
  (s.uBoot fun b => { b with rrs := false }).ev Ev.BOOT_SAFE 0 []

/-- An attempt has failed (R175). -/
def bootFail (reason : Nat) (s : State) : State :=
  let k := attemptSlot s
  let s := ((noteCheck k reason s).uScr fun x => { x with prog := none }).ev Ev.BOOT_FAIL k [reason]
  if s.boot.attempt = 0 then
    let s := (chipUnset (domainsOff s)).uBoot fun b => { b with attempt := 1 }
    (s.fw R.GLB_STATE 3 0 1).fw R.BOOT_STATUS 2 0 0
  else enterSafe s

/-- What an attempt on a slot comes to: the reason code of its first failure, 0 for none (R160, R161, R171). -/
def attemptReason (f : SlotFind) (s : State) : Nat :=
  if f.timedOut then 9
  else match sfdpRead f.sfdp with
    | none => 1
    | some n => if nvmShort n then 8 else imageCheck s (attemptSlot s) false none

/-- What discovery leaves in the registers: the part's ID and density, and NVM_SLOW (R160, R161, R191). -/
def nvmFound (f : SlotFind) (s : State) : State :=
  if f.timedOut then s
  else match sfdpRead f.sfdp with
    | none => s
    | some n =>
      let s := (s.wr R.BOOT_NVM_ID f.jedec.toNat).wr R.BOOT_NVM_SIZE (satN 0xFFFFFFFF n.mib)
      let s := (s.uBoot fun b => { b with nvm := some n }).fw R.BOOT_STATUS 4 4 (b2n (nvmSlow n))
      if nvmSlow n then s.ev Ev.NVM_SLOW 0 [] else s

/-- BOOT_OPEN is raised on every boot with CFG_OPEN, at its first attempt (R172). -/
def bootOpen (s : State) : State := if s.pins.cfgOpen && s.boot.attempt == 0 then s.ev Ev.BOOT_OPEN 0 [] else s

/-- IMAGE_SLOT_ATTEMPT (R160, R161, R171–R175). -/
def execImageSlotAttempt (f : SlotFind) (s : State) : Host.Outcome State Fault Refusal :=
  if s.top ≠ 1 then done s
  else if 2 ≤ s.pins.bootSel.toNat then done (enterSafe (bootOpen s))
  else
    let k := attemptSlot s
    let r := attemptReason f s
    let s := nvmFound f (bootOpen s)
    if r ≠ 0 then done (bootFail r s)
    else
      let s := imageRegs k (noteCheck k 0 s)
      let s := (s.fw R.GLB_STATE 3 0 2).fw R.BOOT_STATUS 2 0 4
      done (s.uBoot fun b => { b with rrs := false })

end Sys2Proof.Machine
end

