-- ==== Sys2Proof/Machine/ConfigLoad.lean ====
section
/-! DEFINITION. CONFIG: the section loaders (06 R165–R169, 13 R366, 18 R487–R488, 25 R628), power policy, HBM training (21 R544),
the chip number and the end of CONFIG (06 R177–R179). Row CONFIG_LOAD. The order of the steps is log 45. -/

namespace Sys2Proof.Machine

/-! Records (Table 6.4a, Table 6.4b) -/

/-- MAGIC of each section type (Table 6.4a; 13, 18, 25). -/
def secMagic : Nat → Nat
  | 1 => 0x434C4B31
  | 2 => 0x50575231
  | 3 => 0x50524631
  | 4 => 0x4C505331
  | 7 => 0x41475231
  | 8 => 0x53435231
  | 9 => 0x45565031
  | _ => 0

/-- A register that a section's records may write (Table 6.4a; 25 R628 for the event policy). -/
def secMay (ty off : Nat) : Bool :=
  let within := fun lo hi => decide (lo ≤ off) && decide (off < hi)
  match ty with
  | 1 => within 0x10000 0x20000 || within 0x50000 0x60000 || off == R.BOOT_LINK_WAIT
  | 2 => within 0x30000 0x40000 || isShare off || (within 0xC01000 0xC05000 && off % 0x40 == 4) || off == R.MEM_CFG || off == R.MEM_SCRUB_CFG
  | 3 => within 0x80000 0x100000
  | 4 => within 0x100000 0x200000 || within 0x60000 0x80000 || within 0x200000 0x300000
  | 7 => within 0x480000 0x600000 || off == R.CL_CFG || off == R.PLATE_ETCH_LEAD || off == R.PLATE_ETCH_TIMING
      || off == R.PLATE_ETCH_POLICY || off == R.PLATE_HOST_ALLOW_LO || off == R.PLATE_HOST_ALLOW_HI || off == R.FAB_CFG
      || (List.range 8).any (fun w => off == R.FAB_RCR_BASE w || off == R.FAB_RCR_SIZE w) || off == R.HMK_CFG || off == R.MGMT_SMB_CFG
  | 9 => within 0x2800000 0x3000000
  | _ => false

/-- A record may write this value here (R167): RW or RWL, no reserved bit, every field in its range. -/
def loadOk (ty off v : Nat) : Bool :=
  match regRow off with
  | none => false
  | some r => secMay ty off && (r.acc == .rw || r.acc == .rwl) && keptBits off v == v

/-- A record's write: a Scribe path's, with no event; it reaches the register whatever its domain's state (log 44), a coefficient
word directly. -/
def loadPut (off v : Nat) (s : State) : State :=
  match regRow off with
  | none => s
  | some r =>
    let w := w32 v
    let t := match r.half with
      | .lo => (dropHeld .scribeA off s).uAcc fun a => { a with held := a.held ++ [(1, off, w)] }
      | .hi =>
        let t := (match heldLo s .scribeA (off - 4) with
          | some x => s.put (off - 4) x.toNat
          | none => s)
        dropHeld .scribeA (off - 4) (t.put off v)
      | .none =>
        match coefAt off with
        | some (e, l, _) => if loopId e l = 0xFFF then s else s.put off v
        | none => regAct .scribeA off w s
    (t.uEvt fun _ => s.evt).wr R.EVT_DROP_CNT (s.rd R.EVT_DROP_CNT)

/-- Values of a record at consecutive offsets; false at the first that R167 rejects. -/
def loadRun (ty : Nat) (val : Nat → Nat) : Nat → Nat → Nat → State → Bool × State
  | 0, _, _, s => (true, s)
  | n + 1, i, off, s => if loadOk ty off (val i) then loadRun ty val n (i + 1) (off + 4) (loadPut off (val i) s) else (false, s)

/-- LENGTH of a parameter table its section lists (R168). -/
def paramLen (ty tbl : Nat) : Option Nat :=
  if ty = 2 ∧ tbl = 1 then some 42 else if ty = 4 ∧ tbl = 2 then some 1728 else none

/-- A byte of DOMAINS at dword position i. -/
def domPolicy (s : State) (b i d : Nat) : Nat := secDw s b (i + d / 4) / 2 ^ (8 * (d % 4)) % 256

/-- DOMAINS obeys R168. -/
def domainsOk (s : State) (b i : Nat) : Bool :=
  (List.range 168).all fun d =>
    let p := domPolicy s b i d
    decide (p < 3) && (p != 2 || decide (d < 0x80)) && (!(decide (0xA0 ≤ d) && decide (d ≤ 0xA2)) || p == 1)

/-- RINGS reserves the upper half of odd dwords. -/
def ringsOk (s : State) (b i : Nat) : Bool := (List.range 864).all fun x => decide (secDw s b (i + 2 * x + 1) < 65536)

/-- What loading has found so far: whether every record was accepted, the position of DOMAINS, the tables seen. -/
structure Loaded where
  ok : Bool
  doms : Option (Nat × Nat)
  seen : List Nat

/-- Take a parameter table in: RINGS into its memory, DOMAINS remembered (R168). -/
def loadParam (ty b i tbl : Nat) (a : Loaded) (s : State) : Loaded × State :=
  if ty = 2 then ({ a with ok := domainsOk s b i, doms := some (b, i), seen := tbl :: a.seen }, s)
  else ({ a with ok := ringsOk s b i, seen := tbl :: a.seen },
    s.uRings fun m => (List.range 1728).foldl (fun m j => smSet (fun _ => (0 : Word)) m j (w32 (secDw s b (i + j)))) m)

/-- The records of a section from dword i on; `n` dwords lie in it. -/
def loadRecs (ty b n : Nat) : Nat → Nat → Loaded → State → Loaded × State
  | 0, _, a, s => (a, s)
  | k + 1, i, a, s =>
    let d0 := secDw s b i
    let d1 := secDw s b (i + 1)
    let cnt := fieldOf d0 27 16
    let bad := ({ a with ok := false }, s)
    if !a.ok then (a, s)
    else if n < i + 2 then bad
    else match d0 / 2 ^ 28 with
      | 1 =>
        if cnt = 0 ∨ n < i + 2 + cnt then bad
        else
          let r := loadRun ty (fun j => secDw s b (i + 2 + j)) cnt 0 d1 s
          loadRecs ty b n k (i + 2 + cnt) { a with ok := r.1 } r.2
      | 2 =>
        if cnt = 0 ∨ n < i + 3 then bad
        else
          let r := loadRun ty (fun _ => secDw s b (i + 2)) cnt 0 d1 s
          loadRecs ty b n k (i + 3) { a with ok := r.1 } r.2
      | 3 =>
        let tbl := d0 % 65536
        if paramLen ty tbl ≠ some d1 ∨ a.seen.contains tbl ∨ n < i + 2 + d1 then bad
        else
          let r := loadParam ty b (i + 2) tbl a s
          loadRecs ty b n k (i + 2 + d1) r.1 r.2
      | _ => bad

/-- A register-load section (R166): every table it lists must be there. -/
def loadSection (ty b len : Nat) (a : Loaded) (s : State) : Loaded × State :=
  let d1 := secDw s b 1
  if len < 8 ∨ secDw s b 0 ≠ secMagic ty ∨ d1 / 65536 ≠ 1 then ({ a with ok := false }, s)
  else
    let r := loadRecs ty b (len / 4) (d1 % 65536) 2 { a with seen := [] } s
    ({ r.1 with ok := r.1.ok && (ty != 2 || r.1.seen.contains 1) && (ty != 4 || r.1.seen.contains 2) }, r.2)

/-! The other sections -/

/-- SCRIBE_CODE's header (R169). -/
def scribeCodeOk (s : State) (b len : Nat) : Bool :=
  let n := secDw s b 3
  decide (16 ≤ len) && secDw s b 0 == secMagic 8 && secDw s b 1 / 65536 == 1 && decide (n ≤ 4194304) && decide (secDw s b 2 < n)
    && decide (16 + n ≤ len)

/-- Both Scribes load the code (R169). -/
def scribeLoad (b : Nat) (s : State) : State :=
  s.uScr fun x => { x with prog := some (secDw s b 2, flashBytes s (b + 16) (secDw s b 3)) }

/-- A policy entry: the code's byte in EVT_POLICY (25 R628). -/
def policySet (code entry : Nat) (s : State) : State :=
  s.fw (R.EVT_POLICY (code / 4)) (8 * (code % 4) + 7) (8 * (code % 4)) (Nat.land entry 0xDF)

/-- EVENT_POLICY's entries; false at one for a reserved code. -/
def policyRun (b : Nat) : Nat → Nat → State → Bool × State
  | 0, _, s => (true, s)
  | n + 1, i, s =>
    let d := secDw s b i
    if (evRow (d / 65536)).isNone then (false, s) else policyRun b n (i + 1) (policySet (d / 65536) (d % 256) s)

/-- EVENT_POLICY (25 R628). -/
def loadPolicy (b len : Nat) (a : Loaded) (s : State) : Loaded × State :=
  let n := secDw s b 1 % 65536
  let dws := len / 4
  if dws < n + 3 ∨ secDw s b 0 ≠ secMagic 9 then ({ a with ok := false }, s)
  else
    let r := policyRun b n 2 s
    if !r.1 then ({ a with ok := false }, r.2)
    else loadRecs 9 b dws (secDw s b (n + 2) % 65536) (n + 3) { a with seen := [] } r.2

/-- The own entry of port p in CABLING at byte offset e of the section. -/
def cabDw (s : State) (b e p i : Nat) : Nat := s.flashDw (b + e + 32 * p + 4 * i)

/-- A tag field: zero or a valid ID. -/
def tagOk (s : State) (b e p i : Nat) : Bool :=
  let id := cabDw s b e p i + 2 ^ 32 * cabDw s b e p (i + 1)
  id == 0 || idValid id

/-- The peer that plate 63 gives port p is the far end the map gives it; a port it leaves unconnected has none (13 R362). -/
def farOk (s : State) (b e p : Nat) : Bool :=
  let a := s.recDw 63 (0x50 + 16 * p)
  let c := cabDw s b e p 0
  if c / 2 ^ 30 = 0 then fieldOf a 31 28 == 0
  else fieldOf a 31 28 != 0 && a % 16384 == c % 16384 && fieldOf a 19 16 == fieldOf c 19 16

/-- CABLING (18 R487, R488): false where it is rejected. -/
def loadCabling (b len : Nat) (s : State) : State × Bool :=
  let idx := secDw s b 2
  let ent := secDw s b 3
  let x := s.flashDw (b + idx + 4 * s.chip)
  let e := ent + 32 * (x % 2 ^ 24)
  let reject := (s.ev Ev.CABLING_REJECT 0 [], false)
  if len < 16 ∨ secDw s b 0 ≠ 0x43424C31 ∨ secDw s b 1 / 65536 ≠ 1 ∨ len ≤ idx ∨ len ≤ ent then reject
  else if secDw s b 1 % 16384 ≤ s.chip ∨ len < idx + 4 * s.chip + 4 ∨ !bitOf x 31 ∨ len < e + 512 then reject
  else if !(List.range 16).all (fun p => tagOk s b e p 1 && tagOk s b e p 3 && farOk s b e p) then reject
  else
    ((List.range 16).foldl (fun t p =>
      ((t.wr (R.HMK_P_MAP p) (cabDw s b e p 0)).wr64 (R.HMK_P_EXP_LO p) (cabDw s b e p 1 + 2 ^ 32 * cabDw s b e p 2)).wr64
        (R.HMK_P_ALT_LO p) (cabDw s b e p 3 + 2 ^ 32 * cabDw s b e p 4)) s, true)

/-! All sections -/

/-- Load one section by type. -/
def loadType (k ty : Nat) (a : Loaded) (s : State) : Loaded × State :=
  if !a.ok then (a, s)
  else match findSection s k ty with
    | none => ({ a with ok := false }, s)
    | some (b, len) =>
      match ty with
      | 5 => ({ a with ok := (platesLoad b len s).2 }, (platesLoad b len s).1)
      | 6 => ({ a with ok := (loadCabling b len s).2 }, (loadCabling b len s).1)
      | 8 => if scribeCodeOk s b len then (a, scribeLoad b s) else ({ a with ok := false }, s)
      | 9 => loadPolicy b len a s
      | _ => loadSection ty b len a s

/-- Every section, in the order of their types; an image of another count has one that R165 does not name. -/
def loadAll (k : Nat) (s : State) : Loaded × State :=
  let r := [1, 2, 3, 4, 5, 6, 7, 8, 9].foldl (fun (x : Loaded × State) ty => loadType k ty x.1 x.2)
    (⟨sectionCount s k == 9, none, []⟩, s)
  (r.1, r.2.uAcc fun a => { a with held := a.held.filter fun h => h.1 != 1 })

/-! Chip number, domains, HBM -/

/-- The number CHIP_MODE gives (R177). -/
def chipNumber (s : State) (k : Nat) : Option Nat :=
  match hdrDw s k 5 % 4 with
  | 0 => if s.fuses.chips.isEmpty then none else some (s.fuses.chips.getLastD 0).toNat
  | 1 =>
    let n := hdrDw s k 6 % 16384 + s.pins.rackSlot.toNat
    if n < 16384 then some n else none
  | _ => none

/-- A domain as the power policy states, whatever was asked of it before; the domains of R140 are on already. -/
def domainSet (b i : Nat) (s : State) (d : Nat) : State :=
  if 0xA0 ≤ d ∧ d ≤ 0xA2 then s
  else
    let was := s.dom d
    let s := s.uPwr fun p => { p with upQ := p.upQ.filter (· != d), waiting := p.waiting.filter fun w => w.1 != d }
    let off := fun s => if was = 0 then s else domDown d (s.setDom d 0)
    match domPolicy s b i d with
    | 1 => if was = 2 then s else domBack d (s.setDom d 2)
    | 2 => setAuto d true (off s)
    | _ => off s

/-- Every Vellum cluster reads zero (R192 step 5). -/
def vellumZero (s : State) : State := (s.uVel fun _ => []).uVelEcc fun _ => []

/-- HBM training (21 R544): every powered stack, by the attempts it needed; false where one failed. -/
def trainHbm (tries : List Nat) (s : State) : State × Bool :=
  (List.range 8).foldl (fun (x : State × Bool) i =>
    let s := x.1
    if s.dom (0x90 + i) ≠ 2 then x
    else
      let n := tries.getD i 0
      if n = 0 ∨ 3 < n then (s.ev Ev.MEM_TRAIN_FAIL i [3], false)
      else ((s.fw R.MEM_STATUS i i 1).fw R.CLK_STATUS (8 + i) (8 + i) 1, x.2)) (s, true)

/-- The end of CONFIG (R178, R179; 15 R404): plate 63 in force, the lock, both Scribes start, PHOTONICS. -/
def configEnd (k : Nat) (s : State) : State :=
  let s := replayLog s
  let s := routeStatus ((s.wr R.PLATE_STATUS 0x33F3F).wr64 R.PLATE_APPLY_CT_LO s.now)
  let s := ((s.wr R.BOOT_LOCK 1).fw R.BOOT_STATUS 2 0 5).fw R.BOOT_STATUS 20 20 k
  let s := s.fw R.GLB_STATE 4 4 k
  let s := if s.boot.attempt = 1 then s.ev Ev.BOOT_BACKUP 0 [] else s
  searchAll (photonicsStart (scribeStart s))

/-- CONFIG_LOAD. -/
def execConfigLoad (hbmTries : List Nat) (s : State) : Host.Outcome State Fault Refusal :=
  if s.top ≠ 2 then done s
  else
    let k := attemptSlot s
    match chipNumber s k with
    | none => done (bootFail 0xB s)
    | some c =>
      let r := loadAll k ((s.fw R.GLB_CHIP 13 0 c).fw R.GLB_CHIP 31 31 1)
      match r.1.ok, r.1.doms with
      | true, some (b, i) =>
        let t := trainHbm hbmTries (wakingCount ((List.range 168).foldl (domainSet b i) r.2))
        if t.2 then done (configEnd k (vellumZero t.1)) else done (bootFail 0xC t.1)
      | _, _ => done (bootFail 0xA r.2)

end Sys2Proof.Machine
end

