-- ==== Sys2Proof/Machine/Orders.lean ====
section
/-! DEFINITION. Order frames at their receivers (15 R398–R400, R418): row ORDER_RECEIVE. -/

namespace Sys2Proof.Machine

/-- What a receiver makes of an order (R400). -/
inductive Admit where
  | stale | dup | new
  deriving DecidableEq, Repr

/-- Judge (EPOCH, SEQ) at a receiver of epoch E and highest SEQ H with the accepted SEQs of its window (R400). -/
def admission (e0 high : Nat) (seen : List Nat) (e q : Nat) : Admit :=
  if e < e0 then .stale
  else if e0 < e then .new
  else if seen.contains q ∨ q + 1024 ≤ high then .dup
  else .new

/-- LEN, the CRC and the frame's length agree (Table 15.2). -/
def frameOk (f : List Word) : Bool :=
  let n := pkW f 0 % 16
  decide (1 ≤ n) && decide (n ≤ 11) && f.length == n + 5 && f.getLast? == some (w32 (crc32 (dwBytes (f.take (n + 4)))))

/-- EPOCH of a frame. -/
def frameEpoch (f : List Word) : Nat := pkW f 1

/-- OP of a frame's payload. -/
def frameOp (f : List Word) : Nat := fieldOf (pkW f 4) 31 24

/-- One package-domain receiver takes an order: whether it found it stale (R400). -/
def pkgReceiver (r e q : Nat) (s : State) : State × Bool :=
  let w := winOf s.pkg r
  let high := s.rd (R.SCRIBE_RX_HIGH r)
  match admission w.1 high w.2 e q with
  | .stale => (s, true)
  | .dup => (s, false)
  | .new =>
    let s := s.uPkg (winPush r e q)
    (s.wr (R.SCRIBE_RX_HIGH r) (if w.1 < e then q else max high q), false)

/-- The block of a receiver: its first offset and its size (Table 15.3; 27 Table 27.2). -/
def receiverBlock (r : Nat) : Nat × Nat :=
  if r < 16 then (0x100000 + 0x10000 * r, 0x10000)
  else if r < 32 then (0x200000 + 0x10000 * (r - 16), 0x10000)
  else [(0x600000, 0x100000), (0x300000, 0x100000), (0x30000, 0x10000), (0x80000, 0x80000), (0x70000, 0x10000), (0x60000, 0x10000),
    (0x50000, 0x10000), (0x2000000, 0x800000), (0x800000, 0x400000), (0xC00000, 0x400000), (0x2800000, 0x800000),
    (0x700000, 0x100000)].getD (r - 32) (0, 0)

/-- The register writes of an accepted order's payload that lie in one receiver's block, on the sending Scribe's path (R398). Which offsets
and values a payload names is free (log 25). -/
def orderWrites (f : List Word) (r : Nat) (s : State) : State :=
  let pl := (f.drop 4).take (pkW f 0 % 16)
  let b := receiverBlock r
  let path : Path := if pkW f 3 % 4 = 1 then .scribeB else .scribeA
  if 1 ≤ frameOp f ∧ frameOp f < 0x30 then
    ((Config.orderWrites pl).take 10).foldl (fun s x => if b.1 ≤ x.1 ∧ x.1 < b.1 + b.2 then regWrite path x.1 x.2 s else s) s
  else s

/-- A receiver takes an order and applies it once (R400). -/
def receiverTakes (f : List Word) (r : Nat) (s : State) : State × Bool :=
  let x := pkgReceiver r (frameEpoch f) (frameSeq f) s
  (match admission (winOf s.pkg r).1 (s.rd (R.SCRIBE_RX_HIGH r)) (winOf s.pkg r).2 (frameEpoch f) (frameSeq f) with
    | .new => orderWrites f r x.1
    | _ => x.1, x.2)

/-- A package order on the order bus (R399, R400): each addressed receiver judges it, and applies the register writes of one it accepts; the
standby journals what the holder sends. -/
def pkgOrder (f : List Word) (s : State) : State :=
  let d := fieldOf (pkW f 0) 21 16
  let rs := if d = 63 then List.range 44 else if d < 44 then [d] else []
  let (s, stale) := rs.foldl (fun (a : State × Bool) r =>
    let x := receiverTakes f r a.1
    (x.1, a.2 || x.2)) (s, false)
  let s := if stale then s.sat R.SCRIBE_STALE_CNT 31 0 1 else s
  if bitOf (pkW f 0) 30 ∨ frameEpoch f < s.rd R.SCRIBE_EPOCH then s
  else busJournal f (s.wr R.SCRIBE_SEQ (max (s.rd R.SCRIBE_SEQ) (frameSeq f)))

/-- The plate message of dwords 0–3 of a payload (14 Table 14.1). -/
def plateMsgOf (p : List Word) : PlateMsg :=
  ⟨BitVec.ofNat 6 (fieldOf (pkW p 0) 13 8), BitVec.ofNat 6 (pkW p 0), BitVec.ofNat 8 (fieldOf (pkW p 1) 31 24),
    BitVec.ofNat 8 (fieldOf (pkW p 1) 23 16), BitVec.ofNat 16 (pkW p 1), BitVec.ofNat 64 (pkW p 2 + 2 ^ 32 * pkW p 3)⟩

/-- A LEASE order: the last expiry heard and the holder (R416). -/
def leaseOrder (p : List Word) (s : State) : State :=
  let chip := pkW p 0 % 16384
  leaseHeard chip ((s.wr64 R.CL_LEASE_EXP_LO (pkW p 1 + 2 ^ 32 * pkW p 2)).fw R.CL_STATUS 28 28 0)

/-- A member's message to the Etcher and the Counterproof, which carries no SEQ of the holder's (R399; log 17). -/
def memberOp (op : Nat) : Bool := [0x31, 0x32, 0x35, 0x36, 0x37, 0x38, 0x3C, 0x3F].contains op

/-- A cluster order takes effect (14 Table 14.1; 16 Table 16.4; R416). -/
def clusterApply (f : List Word) (s : State) : State :=
  let p := (f.drop 4).take (pkW f 0 % 16)
  let a := pkW p 0
  let b := pkW p 1
  let m := plateMsgOf p
  match frameOp f with
  | 0x30 => prepareOrder m (fieldOf a 23 20) (BitVec.ofNat 64 (pkW p 4 + 2 ^ 32 * pkW p 5)) s
  | 0x31 => etchAnswer reissue (fieldOf b 29 16) (b % 65536) 0 s
  | 0x32 => etchAnswer reissue (fieldOf b 29 16) (b % 65536) (a % 16) s
  | 0x33 => standbyDecision true m f (memberCommit m s)
  | 0x34 => standbyDecision false m f (memberAbandon m s)
  | 0x35 => if isEtcher s then (match s.repl.etch.bind (·.decision) with
      | some c => decideAck c m s
      | none => s) else s
  | 0x36 => if b % 64 = s.curPlate then portDown (fieldOf b 29 16) (a % 65536) s else s
  | 0x37 => portUp (fieldOf b 29 16) (a % 65536) s
  | 0x38 => plateAsk (fieldOf b 29 16) (fieldOf a 23 16) (a % 64) s
  | 0x39 => plateAnswer (fieldOf b 29 16) (fieldOf a 23 16) (a % 64) (fieldOf a 11 8) s
  | 0x3A => memberState { m with target := BitVec.ofNat 6 a } s
  | 0x3B => leaseOrder p s
  | 0x3C => agreeNote p s
  | 0x3D => memberQuar sendNote (a % 16384) b (fieldOf a 19 16) s
  | 0x3E => memberClear (a % 16384) s
  | 0x3F => statePull s
  | _ => s

/-- The standby journals a new order of the holder and sends it again at once with COPY set (R399). -/
def mirror (f : List Word) (s : State) : State :=
  if !s.bit R.CL_STATUS 30 ∨ bitOf (pkW f 0) 30 then s
  else
    let g := (w32 (pkW f 0 + 2 ^ 30) :: f.drop 1).dropLast
    clTransport (g ++ [w32 (crc32 (dwBytes g))]) (journalAdd true f s)

/-- A cluster order at this package (R400, R418). -/
def clusterReceive (f : List Word) (s : State) : State :=
  let src := fieldOf (pkW f 3) 29 16
  if memberOp (frameOp f) then (if src = s.chip then s else clusterApply f s)
  else
    let e := frameEpoch f
    let q := frameSeq f
    let s := yieldCheck e src s
    let own := s.rd R.CL_EPOCH
    match admission own (s.rd R.CL_SEQ) (winOf s.clu 0).2 e q with
    | .stale => s.sat R.CL_STALE_CNT 31 0 1
    | .dup => s
    | .new =>
      let s := (s.uClu (winPush 0 e q)).wr R.CL_SEQ (if own < e then q else max (s.rd R.CL_SEQ) q)
      let s := clusterApply f (mirror f (s.wr R.CL_EPOCH e))
      if own < e then epochAdopted s else s

/-- An order frame at its receivers (R400). -/
def acceptOrder (f : List Word) (s : State) : State :=
  if !frameOk f then
    (if bitOf (pkW f 0) 31 then s.sat R.CL_STALE_CNT 31 0 1 else s.sat R.SCRIBE_STALE_CNT 31 0 1)
  else if bitOf (pkW f 0) 31 then clusterReceive f s
  else pkgOrder f s

/-- ORDER_RECEIVE. -/
def execOrderReceive (frame : List Word) (s : State) : Host.Outcome State Fault Refusal := done (acceptOrder frame s)

end Sys2Proof.Machine
end

