-- ==== Sys2Proof/Machine/Target.lean ====
section
/-! DEFINITION. The fabric's ports and its target (17 R440–R474): packets from a flit stream, credits, requests at the target,
responses, timeouts, the CTRL relay. Rows FLIT_RECEIVE to FAB_ROUTE_QUERY. -/

namespace Sys2Proof.Machine

/-! Requests at the target (R446–R453, R469–R472) -/

/-- Payload bytes of a packet. -/
def pkBytes (ws : List Word) : List Byte := (dwBytes (ws.drop (if opcAddr (pkOpc ws) then 6 else 4))).take (pkLen ws)

/-- The global address a request carries. -/
def pkAddr (ws : List Word) : Nat := pkW ws 4 + 2 ^ 32 * pkW ws 5

/-- The limits of R449 and R446: a request within them. -/
def reqShape (opc a len : Nat) : Bool :=
  if opc = 3 ∨ opc = 4 then (len == 4 || len == 8) && gaOff a % max 1 len == 0 && decide (gaSpace a < 2)
  else decide (1 ≤ len) && decide (len ≤ 512) && decide (gaOff a % 4096 + len ≤ 4096)

/-- A write lies wholly inside an enabled FAB_RCR window (R448). -/
def inWindow (s : State) (off len : Nat) : Bool :=
  (List.range 4).any fun w =>
    let b := s.fd (R.FAB_RCR_BASE w) 25 2 * 4
    s.bit (R.FAB_RCR_SIZE w) 31 && decide (b ≤ off) && decide (off + len ≤ b + s.fd (R.FAB_RCR_SIZE w) 25 0)

/-- The offset is a half of a writable 64-bit pair. -/
def halfOfPair (off : Nat) : Bool :=
  match regRow off with
  | some r => r.half != .none && (r.acc == .rw || r.acc == .rwl)
  | none => false

/-- An SDFP write of 4 or 8 bytes to space 10; answers its status. -/
def controlWrite (off : Nat) (bs : List Byte) (s : State) : State × Nat :=
  let a := w32 (bytesToNat (bs.take 4))
  let b := w32 (bytesToNat (bs.drop 4))
  let den := fun o (v : Word) => halfOfPair o || pathDenies .sdfp o v.toNat s
  if !inWindow s off bs.length then (s, 3)
  else if !s.blockOn off then (s, 7)
  else if bs.length = 4 then (regWrite .sdfp off a s, if den off a then 3 else 0)
  else if isLo off then (pairWrite .sdfp off a b s, if pathDenies .sdfp off a.toNat s then 3 else 0)
  else (regWrite .sdfp (off + 4) b (regWrite .sdfp off a s), if den off a || den (off + 4) b then 3 else 0)

/-- An SDFP read of 4 or 8 bytes from space 10. -/
def controlRead (off len : Nat) (s : State) : State × List Byte × Nat :=
  if !s.blockOn off then (s, [], 7)
  else if len = 4 then
    let x := regRead .sdfp off s
    (x.2, natToBytes 4 x.1, 0)
  else
    let x := read2 .sdfp off s
    (x.2, dwBytes x.1, 0)

/-- An access to space 10 (R448). -/
def controlReq (opc off len : Nat) (bs : List Byte) (s : State) : State × List Byte × Nat :=
  if !(opc == 1 || opc == 2 || opc == 0x18) ∨ !(len == 4 || len == 8) ∨ off % max 1 len ≠ 0 then (s, [], 6)
  else if 0x4000000 < off + len then (s, [], 2)
  else if opc = 1 then controlRead off len s
  else
    let x := controlWrite off bs s
    (x.1, [], x.2)

/-- A request on a memory: status and answer (R449–R452, R472). -/
def memReq (opc : Nat) (r : Ram) (key len : Nat) (poison : Bool) (bs : List Byte) (s : State) : State × List Byte × Nat :=
  if opc = 1 then
    let x := midRead 3 r key len s
    if anyBad x.2 then (x.1, [], 1) else (x.1, x.2.map (·.1), 0)
  else if opc = 3 ∨ opc = 4 then
    let x := memRead 3 r key len s
    if anyBad x.2 then (x.1, [], 1)
    else
      let old := x.2.map (·.1)
      let new := if opc = 4 then bs else natToBytes len ((bytesToNat old + bytesToNat bs) % 2 ^ (8 * len))
      (memWrite 3 r key (new.map fun b => (b, poison)) x.1, old, 0)
  else (memWrite 3 r key (bs.map fun b => (b, poison)) s, [], 0)

/-- A stack's memory domain as its accesses meet it: in reset or WAKING they wait, OFF or SLEEPING they are answered RESET (21 R554,
R469). -/
def stackWaits (s : State) (k : Nat) : Bool := s.rst.doms.contains (0x90 + k) || s.dom (0x90 + k) == 1

/-- Stacks a range of HBM touches. -/
def stacksAt (off len : Nat) : List Nat := stacksOf (off, len)

/-- A request that waits for a stack (21 R554). -/
def reqWaits (s : State) (ws : List Word) : Bool :=
  let a := pkAddr ws
  opcAddr (pkOpc ws) && gaChip a == pkDest ws && gaSpace a == 0 && reqShape (pkOpc ws) a (pkLen ws)
    && decide (gaOff a + pkLen ws ≤ hbmSize) && (stacksAt (gaOff a) (pkLen ws)).any (stackWaits s)

/-- A request with an address: state, answer, status. -/
def addrReq (ws : List Word) (s : State) : State × List Byte × Nat :=
  let a := pkAddr ws
  let n := pkLen ws
  let o := pkOpc ws
  let bs := pkBytes ws
  if gaChip a ≠ pkDest ws ∨ !reqShape o a n then (s, [], 6)
  else match gaSpace a with
    | 0 =>
      if hbmSize < gaOff a + n then (s, [], 2)
      else if !(stacksAt (gaOff a) n).all fun k => s.domUp (0x90 + k) then (s, [], 7)
      else memReq o .hbm (gaOff a) n (pkPoison ws) bs s
    | 1 =>
      match velKey (gaOff a) n with
      | none => (s, [], 2)
      | some (c, k) => if !s.domUp (c / 2) then (s, [], 7) else memReq o .vel k n (pkPoison ws) bs s
    | 2 => controlReq o (gaOff a) n bs s
    | _ => (s, [], 2)

/-- A MSG (R453). -/
def msgReq (ws : List Word) (s : State) : State × Nat :=
  if pkLen ws = 0 ∨ 512 < pkLen ws then (s, 6)
  else if !s.domUp 0xA3 then (s, 7)
  else msgStore (pkStream ws) (pkSrc ws) (pkW ws 3) (pkBytes ws) (pkPoison ws) s

/-- A request at the target: it is executed and answered; a chip reset it has started takes the answer with it. -/
def targetReq (ws : List Word) (s : State) : State :=
  let x := if pkOpc ws = 0x19 then ((msgReq ws s).1, ([] : List Byte), (msgReq ws s).2) else addrReq ws s
  if x.1.rst.chip then x.1 else answer ws x.2.2 x.2.1 x.1

/-! Responses (R454, R455, R471) -/

/-- Give a completion to who waits for it. -/
def deliverRsp (w : FabWant) (status : Nat) (bytes : List Byte) (s : State) : State :=
  match w.owner with
  | .ticket r i => tktResponse r i w status bytes s
  | .xfe c b => xfeResponse c b w status bytes s
  | .none => s

/-- A response: one whose whole TAG matches completes its request, any other is stale. -/
def response (tag status : Nat) (bytes : List Byte) (s : State) : State :=
  match s.fab.reqs.find? fun e => e.1 == tag % 16384 && e.2.gen == tag / 16384 with
  | none => s.sat R.FAB_STALE_CNT 31 0 1
  | some e => pumpHeld (deliverRsp e.2.want status bytes (tagsUsed (s.uFab fun f => { f with reqs := smErase f.reqs e.1 })))

/-! The local target -/

/-- A packet is malformed: its OPC is not listed or does not match its VC (R446). -/
def malformed (ws : List Word) : Bool := opcVc (pkOpc ws) != some (pkVc ws)

/-- A malformed packet is discarded; a request, one on a request channel, is answered BAD_REQ. -/
def dropMalformed (ws : List Word) (s : State) : State :=
  if opcReq (pkOpc ws) ∨ ((opcVc (pkOpc ws)).isNone ∧ [1, 2, 4].contains (pkVc ws) = true) then answer ws 6 [] s else s

/-- A packet for the own chip. -/
def localPkt (ws : List Word) (s : State) : State :=
  if malformed ws then dropMalformed ws s
  else if opcReq (pkOpc ws) then targetReq ws s
  else if pkVc ws = 3 then response (pkTag ws) (pkStatus ws) (pkBytes ws) s
  else s

/-- One pass over the inbox in order; a request that waits for a stack keeps its source's channel behind it (R457). -/
def drainPass : List (List Word) → List (List Word) → State → State × List (List Word)
  | [], kept, s => (s, kept)
  | k :: ks, kept, s =>
    if reqWaits s k || kept.any (fun x => pkSrc x == pkSrc k && pkVc x == pkVc k) then drainPass ks (kept ++ [k]) s
    else drainPass ks kept (localPkt k s)

/-- Empty the inbox, in a few passes as packets bring packets. -/
def drainGo : Nat → State → State
  | 0, s => s
  | n + 1, s =>
    if s.fab.inbox.isEmpty then s
    else
      let r := drainPass s.fab.inbox [] (s.uFab fun f => { f with inbox := [] })
      drainGo n (r.1.uFab fun f => { f with inbox := r.2 ++ f.inbox })

/-- The local target takes what has come for it. -/
def settle (s : State) : State := if s.domUp 0xA4 then drainGo 4 s else s

/-! Ports (R440–R444, R467) -/

/-- Payload bytes of the packet a header begins: an RD's LEN asks for bytes and carries none (R446). -/
def pkPay (ws : List Word) : Nat := if pkOpc ws = 1 then 0 else pkLen ws

/-- Flits of the packet a header begins (R441). -/
def pkFlits (ws : List Word) : Nat := (16 + (if opcAddr (pkOpc ws) then 8 else 0) + pkPay ws + 63) / 64

/-- The packet's dwords without the padding. -/
def pkTrim (ws : List Word) : List Word := ws.take (4 + (if opcAddr (pkOpc ws) then 2 else 0) + (pkPay ws + 3) / 4)

/-- Cumulative counts a CREDIT flit carries (R443). -/
def creditCounts (ws : List Word) : List Nat := (List.range 10).map fun b => fieldOf (pkW ws (4 + b / 2)) (16 * (b % 2) + 15) (16 * (b % 2))

/-- Credits come back. -/
def creditTake (p : Nat) (counts : List Nat) (s : State) : State := pump p (s.uLk p fun L => { L with freed := counts })

/-- A packet has left its buffer: its flits are freed and counted (R442, R443). -/
def flitsFreed (p : Nat) (ws : List Word) (s : State) : State :=
  let b := bufOf (pkVc ws) (pkDl ws)
  let n := pkFlits ws
  (s.count64 (R.FAB_VC_RX_LO p (pkVc ws)) n).uLk p fun L => { L with mine := setAt 0 L.mine b ((L.mine.getD b 0 + n) % 65536) }

/-- PEER_CHIP and ROLE of a port (13 Table 13.4). -/
def portPeer (s : State) (p : Nat) : Nat × Nat :=
  let a := routeDw s (0x050 + 16 * p)
  (a % 16384, fieldOf a 25 24)

/-- Relay keys of the last 2 ms. -/
def relayedNow (s : State) : List (Nat × Nat × Nat) := s.cl.relayed.filter fun k => decide (s.ticks < k.2.2 + 3200000)

/-- A CORD at a port: relayed on the other ports, but for endpoints, then taken here (R468). -/
def cordTake (p hops src : Nat) (frame : List Word) (s : State) : State :=
  let crc := (frame.getLastD 0).toNat
  let seen := (relayedNow s).any fun k => k.1 == src && k.2.1 == crc
  let s := if seen ∨ hops = 0 then s
    else
      let s := s.uCl fun c => { c with relayed := ((src, crc, s.ticks) :: relayedNow s).take 8192 }
      let (d, s) := s.draw
      let k : Pkt := ⟨0, cordPkt s (hops - 1) src (d.toNat % 16384) frame⟩
      ((ctrlPorts s).filter fun q => q != p && routeMode s q != 5).foldl (fun s q => sendPkt q k s) s
  acceptOrder frame s

/-- Count a discard of an endpoint port's filter. -/
def spoof (p : Nat) (s : State) : State := (s.sat R.FAB_DROP_CNT 7 0 1).ev Ev.FAB_SPOOF p []

/-- A packet that passed its port's filters. -/
def packetIn (p : Nat) (ws : List Word) (s : State) : State :=
  if pkVc ws = 0 then (if malformed ws then s else cordTake p (pkHops ws) (pkSrc ws) (ws.drop 4) s)
  else if pkVc ws = 5 then s
  else if malformed ws then dropMalformed ws s
  else if pkDest ws = s.chip then toLocal ws s
  else forward (some p) 1 ws s

/-- A packet at a port (R442, R444, R467). TIME packets carry exchanges whose stamps only TIME_REQ_RECEIVE and TIME_RSP_RECEIVE
bring (log 47). -/
def ingress (p : Nat) (ws : List Word) (s : State) : State :=
  if 5 < pkVc ws then s
  else
    let s := flitsFreed p ws s
    if s.port p = 3 ∧ pkVc ws ≠ 0 then s.sat R.FAB_DROP_CNT 15 8 1
    else if routeMode s p = 5 then
      if pkVc ws = 0 ∨ pkVc ws = 5 ∨ pkSrc ws ≠ (portPeer s p).1 then spoof p s
      else if (portPeer s p).2 = 2 ∧ !(pkVc ws == 3 || pkOpc ws == 0x19) then (if opcReq (pkOpc ws) then answer ws 3 [] s else s)
      else packetIn p ws s
    else packetIn p ws s

/-- A port that receives packets. -/
def portHears (s : State) (p : Nat) : Bool := (s.port p == 3 || s.port p == 4 || s.port p == 5) && !s.bit (R.LNK_STATUS p) 4 && s.domUp 0xA4

/-- Drop NULL flits at the head of a stream. -/
def skipNull : List (List Word) → List (List Word)
  | [] => []
  | f :: fs => if f.headD 0 = 0 then skipNull fs else f :: fs

/-- A packet with an uncorrectable flit is dropped (R473). -/
def eccDrop (p : Nat) (s : State) : State := (s.sat R.FAB_DROP_CNT 31 24 1).ev Ev.FAB_ECC p []

/-- FLIT_RECEIVE: the next packet of a port's stream, once all its flits have come. -/
def execFlitReceive (p : Fin 16) (ecc : Bool) (s : State) : Host.Outcome State Fault Refusal :=
  if !portHears s p then done s
  else
    let fs := skipNull (s.lk p).flits
    let s := s.uLk p fun L => { L with flits := fs }
    let head := fs.headD []
    if fs.isEmpty then done s
    else if pkOpc head = 0x3E then done (creditTake p (creditCounts head) (s.uLk p fun L => { L with flits := fs.drop 1 }))
    else
      let n := pkFlits head
      if fs.length < n then done s
      else
        let s := s.uLk p fun L => { L with flits := fs.drop n }
        let ws := pkTrim (fs.take n).flatten
        if ecc = true ∧ pkVc ws ≤ 5 then done (eccDrop p (flitsFreed p ws s)) else done (settle (ingress p ws s))

/-- CREDIT_RECEIVE (R443). -/
def execCreditReceive (p : Fin 16) (freed : List (BitVec 16)) (s : State) : Host.Outcome State Fault Refusal :=
  if freed.length ≠ 10 then .fault .illFormed
  else if !portHears s p then done s
  else done (creditTake p (freed.map (·.toNat)) s)

/-- A CREDIT flit: OPC 0x3E, and after the header the ten counts, the first lowest (R443; log 148). -/
def creditFlit (counts : List Nat) : List Word :=
  [w32 (2 ^ 14 * 0x3E), 0, 0, 0] ++ (List.range 5).map fun i => w32 (65536 * counts.getD (2 * i + 1) 0 + counts.getD (2 * i) 0)

/-- CREDIT_SEND (R443): the flit leaves in a DATA block of NULL flits, which has a BSN and is kept for retry (R440; 12 R324). While the
retry buffer is full or no slot is LIVE none can leave (12 R327). -/
def execCreditSend (p : Fin 16) (s : State) : Host.Outcome State Fault Refusal :=
  if !((s.port p == 3 || s.port p == 4 || s.port p == 5) && s.domUp 0xA4) ∨ 2048 ≤ (s.lk p).retry.length ∨ (txSlots s p).isEmpty then done s
  else done (dataBlock p (blockOf (creditFlit (s.lk p).mine)) s)

/-! Requests that arrive for the own chip -/

/-- The packet of a request. -/
def reqPkt (s : State) (opc : Nat) (r : SdfpReq) : List Word :=
  [w32 (2 ^ 28 * (opcVc opc).getD 0 + 2 ^ 26 * b2n r.poison + 2 ^ 14 * opc + r.len.toNat), w32 (65536 * s.chip + r.src.toNat),
    w32 (65536 * r.tag.toNat + r.stream.toNat), w32 (s.now % 2 ^ 32)]
  ++ (if opcAddr opc then w64 r.addr.toNat else []) ++ bytesDw ((r.payload.length + 3) / 4) r.payload

/-- A request row: the target takes it as if it had come by a port. -/
def reqRow (opc : Nat) (r : SdfpReq) (s : State) : Host.Outcome State Fault Refusal :=
  if r.payload.length ≠ (if opc = 1 then 0 else r.len.toNat) then .fault .illFormed
  else if !s.domUp 0xA4 ∨ !s.pathOpen .sdfp then done s
  else done (settle (toLocal (reqPkt s opc r) s))

/-- RD. -/
def execRd (r : SdfpReq) (s : State) : Host.Outcome State Fault Refusal := reqRow 1 r s
/-- WR. -/
def execWr (r : SdfpReq) (s : State) : Host.Outcome State Fault Refusal := reqRow 2 r s
/-- AADD. -/
def execAadd (r : SdfpReq) (s : State) : Host.Outcome State Fault Refusal := reqRow 3 r s
/-- ASWP. -/
def execAswp (r : SdfpReq) (s : State) : Host.Outcome State Fault Refusal := reqRow 4 r s
/-- BWR. -/
def execBwr (r : SdfpReq) (s : State) : Host.Outcome State Fault Refusal := reqRow 0x10 r s
/-- OWR. -/
def execOwr (r : SdfpReq) (s : State) : Host.Outcome State Fault Refusal := reqRow 0x18 r s
/-- MSG. -/
def execMsg (r : SdfpReq) (s : State) : Host.Outcome State Fault Refusal := reqRow 0x19 r s

/-- RESPONSE_RECEIVE (R454): an opcode that is no response is discarded as malformed. -/
def execResponseReceive (opc : BitVec 6) (_src : BitVec 14) (tag : BitVec 16) (status : BitVec 4) (payload : List Byte) (s : State) :
    Host.Outcome State Fault Refusal :=
  if !s.domUp 0xA4 ∨ opcVc opc.toNat ≠ some 3 then done s else done (settle (response tag.toNat status.toNat payload s))

/-- FAB_REQ_TIMEOUT (R454, R455). -/
def execFabReqTimeout (entry : Fin 16384) (s : State) : Host.Outcome State Fault Refusal :=
  match s.fab.reqs.find? fun e => e.1 == entry.val with
  | none => done s
  | some e =>
    let w := e.2.want
    let s := s.uFab fun f => { f with
      reqs := smErase f.reqs e.1, gens := smSet (fun _ => (0 : Nat)) f.gens e.1 ((e.2.gen + 1) % 4), fenced := f.fenced ++ [e.1] }
    let s := (tagsUsed (s.sat R.FAB_TIMEOUT_CNT 31 0 1)).evKey 8000 0 Ev.FAB_REQ_TIMEOUT w.ctx [w.dest]
    done (settle (pumpHeld (deliverRsp w 8 [] s)))

/-- REQUEST_ENTRY_FREE (R454). -/
def execRequestEntryFree (entry : Fin 16384) (s : State) : Host.Outcome State Fault Refusal :=
  done (settle (pumpHeld (tagsUsed (s.uFab fun f => { f with fenced := f.fenced.filter fun e => e != entry.val }))))

/-- ORDER_PACKET_RELEASE (R458): held packets whose earlier writes are answered leave. -/
def execOrderPacketRelease (_stream : BitVec 12) (_dest : BitVec 14) (s : State) : Host.Outcome State Fault Refusal :=
  done (settle (pumpHeld s))

/-- CORD_RECEIVE (R467, R468). -/
def execCordReceive (p : Fin 16) (hops : BitVec 6) (src : BitVec 14) (frame : List Word) (s : State) : Host.Outcome State Fault Refusal :=
  if !portHears s p then done s
  else if routeMode s p = 5 then done (spoof p s)
  else done (settle (cordTake p hops.toNat src.toNat frame s))

/-- FAB_ROUTE_QUERY (R474). -/
def execFabRouteQuery (path : Path) (value : Word) (s : State) : Host.Outcome State Fault Refusal :=
  through path (.write R.FAB_ROUTE_Q value.toNat) s <| done (regWrite path R.FAB_ROUTE_Q value s)

end Sys2Proof.Machine
end

