-- ==== Sys2Proof/Machine/Mgmt.lean ====
section
/-! DEFINITION. Management (26): the SMBus commands, SMB_ALERT_N, the JTAG instructions. Rows SET_ADDR to SMBUS_TIMEOUT and IDCODE to
TAP_RESET. -/

namespace Sys2Proof.Machine

/-! Accesses of R641, R642 and R653 -/

/-- How an access by pointer ended: 0 OK, 1 BAD_ACC, 2 POISON, 3 UNMAPPED, the codes of LAST_ERR. -/
abbrev PtrEnd := Nat

/-- A memory the pointer names and the key of its first byte, where the whole range is mapped. -/
def ptrMem (space a n : Nat) : Option (Ram × Nat) :=
  if space = 1 then (if a + n ≤ hbmSize then some (.hbm, a) else none)
  else if space = 2 then (match velKey a n with
    | some (_, k) => some (.vel, k)
    | none => none)
  else none

/-- A memory that keeps no accessible contents now: a stack OFF or SLEEPING, a cluster pair not ON (log 54). -/
def ptrDown (s : State) (r : Ram) (k n : Nat) : Bool :=
  match r with
  | .hbm => (stacksAt k n).any fun i => !stackWaits s i && !s.domUp (0x90 + i)
  | .vel => !s.domUp (k / 2 ^ 22)

/-- Aligned accesses of space 0. -/
def busReads (p : Path) : Nat → Nat → State → State × List Byte
  | 0, _, s => (s, [])
  | n + 1, a, s =>
    let x := regRead p a s
    let y := busReads p n (a + 4) x.2
    (y.1, natToBytes 4 x.1 ++ y.2)

/-- Writes of space 0; a chip reset that one of them starts ends them. -/
def busWrites (p : Path) : List Word → Nat → State → State
  | [], _, s => s
  | v :: vs, a, s => if s.rst.chip then s else busWrites p vs (a + 4) (regWrite p a v s)

/-- BAR0's size. -/
def bar0Size : Nat := 0x4000000

/-- A read through a pointer: by path, memory source code, SPACE, address and length. -/
def ptrRead (p : Path) (src space a n : Nat) (s : State) : State × List Byte × PtrEnd :=
  let zero := List.replicate n (0 : Byte)
  if space = 0 then
    if n % 4 ≠ 0 ∨ a % 4 ≠ 0 then (s, zero, 1)
    else if bar0Size < a + n then (s, zero, 3)
    else
      let x := busReads p (n / 4) a s
      (x.1, x.2, 0)
  else match ptrMem space a n with
    | none => (s, zero, 3)
    | some (r, k) =>
      if ptrDown s r k n then
        let x := freeBytes n s
        (x.1, x.2, 0)
      else
        let x := memRead src r k n s
        (x.1, x.2.map (fun b => if b.2 then 0 else b.1), if anyBad x.2 then 2 else 0)

/-- A write through a pointer. -/
def ptrWrite (p : Path) (src space a : Nat) (bs : List Byte) (s : State) : State × PtrEnd :=
  let n := bs.length
  if space = 0 then
    if n % 4 ≠ 0 ∨ a % 4 ≠ 0 then (s, 1)
    else if bar0Size < a + n then (s, 3)
    else (settle (busWrites p (bytesDw (n / 4) bs) a s), 0)
  else match ptrMem space a n with
    | none => (s, 3)
    | some (r, k) => if ptrDown s r k n then (s, 0) else (memWrite src r k (goodBytes bs) s, 0)

/-! SMBus -/

/-- LAST_ERR. -/
def lastErr (n : Nat) (s : State) : State := s.fw R.MGMT_STATUS 3 0 n

/-- How an access ended goes to LAST_ERR and to its counter in MGMT_SMB_ERR. -/
def smbEnd (e : PtrEnd) (s : State) : State :=
  match e with
  | 1 => lastErr 1 (s.sat R.MGMT_SMB_ERR 23 16 1)
  | 2 => lastErr 2 (s.sat R.MGMT_SMB_ERR 15 8 1)
  | 3 => lastErr 3 (s.sat R.MGMT_SMB_ERR 7 0 1)
  | _ => s

/-- A PEC failure (R643). -/
def pecFail (s : State) : State := (lastErr 4 (s.sat R.MGMT_SMB_ERR 31 24 1)).ev Ev.SMB_PEC_ERROR 0 []

/-- A write transaction is taken, or falls to its PEC: a byte that does not match is NACKed, a missing one discards it while
PEC_REQ is 1. -/
def pecGate (pec : Pec) (s : State) (t : State) : State :=
  match pec with
  | .good => t
  | .bad => (pecFail s).emit .smbNack
  | .none => if s.bit R.MGMT_SMB_CFG 8 then pecFail s else t

/-- The pointer moves past the bytes transferred. -/
def ptrMove (n : Nat) (s : State) : State := s.uMgmt fun m => { m with addr := (m.addr + n) % 2 ^ 40 }

/-- SET_ADDR. -/
def execSetAddr (space : Byte) (addr : BitVec 40) (pec : Pec) (s : State) : Host.Outcome State Fault Refusal :=
  done (if smbLive s then pecGate pec s (s.uMgmt fun m => { m with space := space.toNat, addr := addr.toNat }) else s)

/-- READ. -/
def execSmbRead (n : Byte) (pec : Pec) (s : State) : Host.Outcome State Fault Refusal :=
  let k := n.toNat
  if !smbLive s then done s
  else if pec = .bad then done ((pecFail s).emit .smbNack)
  else if k = 0 ∨ 252 < k then done (s.emit .smbNack)
  else
    let x := ptrRead .smbus 5 s.mgmt.space s.mgmt.addr k s
    done (ptrMove k ((smbEnd x.2.2 x.1).emit (.smbus x.2.1)))

/-- WRITE. -/
def execSmbWrite (bytes : List Byte) (pec : Pec) (s : State) : Host.Outcome State Fault Refusal :=
  let k := bytes.length
  if !smbLive s then done s
  else if k = 0 ∨ 252 < k then done (s.emit .smbNack)
  else
    let x := if s.rst.chip ∧ s.mgmt.space = 0 then (s, 0) else ptrWrite .smbus 5 s.mgmt.space s.mgmt.addr bytes s
    done (pecGate pec s (ptrMove k (smbEnd x.2 x.1)))

/-- The word STATUS returns. -/
def smbStatusWord (s : State) : Nat :=
  s.top + 16 * b2n (s.top == 5) + 32 * s.fd R.EVT_STATUS 31 31 + 64 * b2n (!s.evt.alerts.isEmpty) + 128 * s.fd R.GLB_STATE 5 5
    + 256 * s.fd R.MGMT_STATUS 3 0

/-- STATUS. -/
def execSmbStatus (s : State) : Host.Outcome State Fault Refusal :=
  done (if smbLive s then s.emit (.smbus (natToBytes 2 (smbStatusWord s))) else s)

/-- ALERT_POP: with an empty queue VALID is 0 and the SEQ bytes are free. -/
def execAlertPop (s : State) : Host.Outcome State Fault Refusal :=
  if !smbLive s then done s
  else match s.evt.alerts with
    | [] =>
      let x := freeBytes 2 s
      done (x.1.emit (.smbus (0 :: x.2)))
    | q :: qs => done ((alertSync (s.uEvt fun e => { e with alerts := qs })).emit (.smbus (1 :: natToBytes 2 q)))

/-- CLEAR_ERR. -/
def execClearErr (pec : Pec) (s : State) : Host.Outcome State Fault Refusal :=
  done (if smbLive s then pecGate pec s (lastErr 0 s) else s)

/-- CHIP_ID. -/
def execChipId (s : State) : Host.Outcome State Fault Refusal :=
  let x := regRead .smbus R.GLB_PART s
  let y := regRead .smbus R.GLB_CHIP x.2
  done (if smbLive s then y.2.emit (.smbus (natToBytes 4 x.1 ++ natToBytes 4 y.1)) else s)

/-- ALERT_RESPONSE (R646): the package has won an Alert Response Address transaction; it takes part only while it asserts
SMB_ALERT_N. -/
def execAlertResponse (s : State) : Host.Outcome State Fault Refusal :=
  done (if smbLive s && s.pins.smbAlert then
    (s.uPins fun p => { p with smbAlert := false }).uMgmt fun m => { m with ara := s.ticks + 1600000 } else s)

/-- ALERT_REASSERT (R646): 1 ms after the Alert Response Address transaction. -/
def execAlertReassert (s : State) : Host.Outcome State Fault Refusal :=
  done (if smbLive s && decide (s.mgmt.ara ≤ s.ticks) && !s.evt.alerts.isEmpty then s.uPins fun p => { p with smbAlert := true } else s)

/-- SMBUS_TIMEOUT (28 R679): the transaction in progress ends. The commands above stand for whole transactions, so none is in
progress here. -/
def execSmbusTimeout (s : State) : Host.Outcome State Fault Refusal := done s

/-! JTAG -/

/-- The instruction in force changes; leaving EXTEST leaves the package in the chip reset that EXTEST held (R652). -/
def setIr (ir : Nat) (s : State) : State := s.uMgmt fun m => { m with ir := ir }

/-- BYPASS's register captures 0. -/
def toBypass (s : State) : State := (setIr 0xFF s).emit (.tdo 1 0)

/-- An instruction that needs CFG_OPEN acts as BYPASS without it (R651). -/
def jtagOpen (s : State) (t : State) : State := if s.pins.cfgOpen then t else toBypass s

/-- IDCODE. -/
def execIdcode (s : State) : Host.Outcome State Fault Refusal := done ((setIr 1 s).emit (.tdo 32 0xB16084E3))

/-- BYPASS. -/
def execBypass (s : State) : Host.Outcome State Fault Refusal := done (toBypass s)

/-- SAMPLE/PRELOAD. -/
def execSamplePreload (s : State) : Host.Outcome State Fault Refusal := done (jtagOpen s (setIr 2 s))

/-- EXTEST (R652): the shutdown, then the chip reset it holds. -/
def extestGo (s : State) : State := if s.mgmt.ir = 3 then s else setIr 3 ((chipReset 3 s).ev Ev.EXTEST_ENTRY 0 [])

/-- EXTEST row. -/
def execExtest (s : State) : Host.Outcome State Fault Refusal := done (jtagOpen s (extestGo s))

/-- DEBUG_OPEN, at the first ACCESS or SCRIBE since reset (R653). -/
def debugOpen (ins : Nat) (s : State) : State :=
  let s := setIr ins s
  if s.bit R.MGMT_STATUS 30 then s else (s.fw R.MGMT_STATUS 30 30 1).ev Ev.DEBUG_OPEN 0 [ins]

/-- STATUS of the ACCESS register by how an access ended. -/
def accessStatus (e : PtrEnd) : Nat := if e = 1 then 4 else e

/-- An ACCESS starts at Update-DR: its STATUS and DATA are kept for the next Capture-DR. -/
def accessRun (space a op : Nat) (data : Word) (s : State) : State :=
  if op = 1 then
    let x := ptrRead .jtag 6 space a 4 s
    x.1.uMgmt fun m => { m with result := (accessStatus x.2.2, w32 (bytesToNat x.2.1)) }
  else if op = 2 then
    let x := if s.rst.chip ∧ space = 0 then (s, 0) else ptrWrite .jtag 6 space a (natToBytes 4 data.toNat) s
    x.1.uMgmt fun m => { m with result := (accessStatus x.2, data) }
  else s

/-- ACCESS: the scan shifts out what the last access left, its address fields free, and starts this one. -/
def execJtagAccess (space : BitVec 2) (addr : BitVec 40) (op : BitVec 2) (data : Word) (s : State) : Host.Outcome State Fault Refusal :=
  let go :=
    let s := debugOpen 0x10 s
    let a := s.draw
    let b := a.2.draw
    let s := b.2.emit (.tdo 80 (s.mgmt.result.2.toNat + 2 ^ 32 * a.1.toNat + 2 ^ 64 * (b.1.toNat % 2 ^ 12) + 2 ^ 76 * s.mgmt.result.1))
    accessRun space.toNat addr.toNat op.toNat data s
  done (jtagOpen s go)

/-- A Scribe's number. -/
def unitNo : Scribe → Nat
  | .a => 0
  | .b => 1

/-- The registers of a core take values the spec does not give: its program is the image's. -/
def drawCore (u : Nat) (s : State) : State :=
  (List.range 16).foldl (fun s r => (s.draw.2).uScr fun x => { x with core := smPut x.core (256 * u + r) s.draw.1 }) s

/-- What the SCRIBE register shifts out: UNIT, CMD, REG and VALUE. -/
def scribeOut (u cmd reg v : Nat) (s : State) : State := s.emit (.tdo 40 (2 ^ 39 * u + 2 ^ 36 * cmd + 2 ^ 32 * reg + v))

/-- A SCRIBE command. -/
def scribeCmd (s : State) (f : State → State) : Host.Outcome State Fault Refusal := done (jtagOpen s (f (debugOpen 0x12 s)))

/-- SCRIBE CMD 0: the coding of the status is not given, its value is free. -/
def execScribeStatusCmd (unit : Scribe) (s : State) : Host.Outcome State Fault Refusal :=
  scribeCmd s fun s => scribeOut (unitNo unit) 0 0 s.draw.1.toNat s.draw.2

/-- A Scribe that runs halts; its core registers hold what its program left in them. -/
def scribeStop (u : Nat) (s : State) : State :=
  if s.scr.halted.contains u ∨ !s.domUp (0xA0 + u) then s else drawCore u (s.uScr fun x => { x with halted := u :: x.halted })

/-- SCRIBE CMD 1. -/
def execScribeHalt (unit : Scribe) (s : State) : Host.Outcome State Fault Refusal := scribeCmd s (scribeStop (unitNo unit))

/-- SCRIBE CMD 2. -/
def execScribeResume (unit : Scribe) (s : State) : Host.Outcome State Fault Refusal :=
  scribeCmd s fun s => s.uScr fun x => { x with halted := x.halted.filter (· != unitNo unit) }

/-- SCRIBE CMD 3: one instruction of the image's program; its accesses, if any, come as commands on the Scribe's path. -/
def execScribeStep (unit : Scribe) (s : State) : Host.Outcome State Fault Refusal :=
  scribeCmd s fun s => if s.scr.halted.contains (unitNo unit) then drawCore (unitNo unit) s else s

/-- A core register: as it stands in a halted core, any value in one that runs. -/
def coreReg (u r : Nat) (s : State) : Nat × State :=
  if s.scr.halted.contains u then ((smGet (fun _ => (0 : Word)) s.scr.core (256 * u + r)).toNat, s) else (s.draw.1.toNat, s.draw.2)

/-- SCRIBE CMD 4. -/
def execScribeReadCoreRegister (unit : Scribe) (reg : BitVec 4) (s : State) : Host.Outcome State Fault Refusal :=
  scribeCmd s fun s =>
    let x := coreReg (unitNo unit) reg.toNat s
    scribeOut (unitNo unit) 4 reg.toNat x.1 x.2

/-- SCRIBE CMD 5. -/
def execScribeWriteCoreRegister (unit : Scribe) (reg : BitVec 4) (value : Word) (s : State) : Host.Outcome State Fault Refusal :=
  scribeCmd s fun s =>
    if s.scr.halted.contains (unitNo unit) then s.uScr fun x => { x with core := smPut x.core (256 * unitNo unit + reg.toNat) value } else s

/-- TAP_RESET: any instruction ends; IDCODE is selected, as IEEE 1149.1 has it. -/
def execTapReset (s : State) : Host.Outcome State Fault Refusal := done (setIr 1 s)

end Sys2Proof.Machine
end

