-- ==== Sys2Proof/WellFormed.lean ====
section
/-! DEFINITION. Which commands a sender can form: the lists a command carries have the lengths the spec gives them. Every other
operand is held to its range by its type. -/

namespace Sys2Proof

/-- A BAR2 request is one a TLP can carry (22 R563, R570): inside the 64 GiB window, a write of at most the largest Max Payload Size
with a byte or a clear byte enable for each place, a read of at most the largest Max Read Request Size. -/
def Bar2Req.wellFormed (r : Bar2Req) : Bool :=
  decide (r.off.toNat + r.len.toNat ≤ 2 ^ 36)
    && (if r.write then decide (r.len.toNat ≤ 512) && r.data.length == r.len.toNat else decide (r.len.toNat ≤ 4096) && r.data.isEmpty)

/-- A request at a target carries LEN payload bytes, a read none (17 R446, R449). -/
def SdfpReq.wellFormed (read : Bool) (r : SdfpReq) : Bool := r.payload.length == if read then 0 else r.len.toNat

/-- A command's lists have the spec's lengths. -/
def Instr.wellFormed (i : Instr) : Bool :=
  match i with
  | .dataBlockReceive _ _ _ _ payload => payload.length == 160
  | .cicOutput _ samples => samples.length == 8
  | .proofProcess temps => temps.length == 64 && temps.all fun r => r.length == 8
  | .creditReceive _ freed => freed.length == 10
  | .rd r => r.wellFormed true
  | .wr r => r.wellFormed false
  | .aadd r => r.wellFormed false
  | .aswp r => r.wellFormed false
  | .bwr r => r.wellFormed false
  | .owr r => r.wellFormed false
  | .msg r => r.wellFormed false
  | .bar2Request r => r.wellFormed
  | .registerWrite .. | .badRegisterAccess .. | .nameLoRead .. | .nameHiRead .. | .nameLoWrite .. | .nameHiWrite .. |
    .twoDwordAccess .. | .rcRead .. | .pwrokRise .. | .pwrokFall | .powerLossConfirmed | .rootLockTimeout | .rootPllLock |
    .vhtrSenseSample .. | .sbBlockLock .. | .sbTrainReceive .. | .sbMessageReceive .. | .sbMessageSend .. | .refLost .. |
    .refSwitch .. | .holdover | .refRevert .. | .rootUnlock | .stepCorrectionApply | .rstChip .. | .chipResetRelease |
    .rstDomain .. | .domainResetRelease .. | .rstBlock .. | .perstNAssert | .perstNRelease | .functionLevelReset |
    .flrComplete | .timeReqSend .. | .timeReqReceive .. | .timeRspReceive .. | .timeXchgTimeout |
    .parentCandidateReinstate .. | .timeUnsynced | .timePtmGo .. | .ptmAutoTrigger | .ptmResponse .. | .ptmTimeout |
    .pwrDomOn .. | .pwrDomOff .. | .pwrDomAuto .. | .powerUpStart .. | .domainWakeDone .. | .domainSleepDone .. |
    .autoIdlePowerOff .. | .packagePowerMeasure .. | .pwrOverload | .governorStep | .lookaheadEntry .. | .heatNoteDelivery |
    .heatNoteLapse .. | .imageSlotAttempt .. | .configLoad .. | .bootLockWrite .. | .readyEntry | .bootLinkWaitExpiry |
    .rrsTimeout | .flashOpDone | .flashOpTimeout | .query .. | .updBegin .. | .updWrite .. | .updVerify .. | .updAbort .. |
    .restart .. | .rollbackAdvance .. | .mbUnknownOp .. | .updSessionTimeout | .backgroundAuthentication .. | .proofSync .. |
    .proofSyncReset | .proofDarkCmd .. | .darkCaptured .. | .telemetryPeriodEnd | .stylusSlot .. | .rollDone .. |
    .styCoefWrite .. | .stylusHousekeeping | .stySupRelease .. | .relayStart .. | .relayTimeout .. | .traceArm .. |
    .traceForce .. | .traceStop .. | .traceCtTrigger .. | .tracePostDone .. | .pwmPeriod .. | .tecOvercurrent .. |
    .tecOpen .. | .tecFaultClear .. | .teckForceWrite .. | .tecSettled .. | .tecSettleFail .. | .lasCtlWrite .. |
    .shutPortProbe .. | .lineHoursRecord | .laneSweepDone .. | .lockConfirm .. | .lockFail .. | .codewordLock .. |
    .codewordLockLoss .. | .laneBad .. | .ackSend .. | .ackReceive .. | .retryReqSend .. | .retryReqReceive .. |
    .laneHold .. | .laneResume .. | .retryTimeout .. | .trainReceive .. | .trainTimeout .. | .credSend .. | .credTimeout .. |
    .portRetrainTimer .. | .swapReq .. | .swapReady .. | .laneSwapComplete .. | .swapFail .. | .laneRecovered .. |
    .recoveryTimeout .. | .laneRole .. | .rotAsk .. | .rotationStart .. | .rotationPhaseDone .. | .rotBackout .. |
    .rotStarved .. | .lnkRetrain .. | .lnkRotateNow .. | .lnkSwap .. | .lnkRetire .. | .loopOn .. | .loopOff .. |
    .prepareIssue .. | .prepareReceive .. | .answerReceive .. | .decisionDeadline | .decideAck .. | .decisionRepeat |
    .commitReceive .. | .abandonReceive .. | .replateDrain | .replateApply | .routeSwap | .replateNoDecision |
    .replateOrphan | .plateStateReceive .. | .replateCatchup | .portDownReceive .. | .portUpReceive .. | .faultWindowEnd |
    .memberUnreachable .. | .unsyncWaitRetry | .plateReq .. | .plateAskReceive .. | .plateAnswerReceive .. |
    .plateReqTimeout | .orderReceive .. | .leaseRenew .. | .leaseTake .. | .leaseRelease .. | .scribeTakeover | .coldDone .. |
    .checkpointStart .. | .checkpointCommit .. | .ckptFail .. | .standbyAbsent .. | .standbyJoin .. | .clusterRenewal |
    .etcherTakeover | .clusterStart | .heartbeatSend | .heartbeatReceive .. | .ckptReceive .. | .credReceive .. |
    .credAckReceive .. | .statePull .. | .statePullRetry | .agreeSelfTimer | .agreeNoteReceive .. | .agreeQuarReceive .. |
    .agreeClearReceive .. | .dupClearExpiry .. | .flitReceive .. | .creditSend .. | .responseReceive .. | .fabReqTimeout .. |
    .requestEntryFree .. | .orderPacketRelease .. | .cordReceive .. | .fabRouteQuery .. | .hmkPresenceReset .. | .hmkCmd .. |
    .hmkPeriodSearch | .searchPass .. | .hmkRetryTimer .. | .ticketFetch .. | .ticketStart .. | .ticketComplete .. |
    .barrierTakeEffect .. | .barrierRelease .. | .barrierLateReport .. | .fenceComplete .. | .collectiveFlagArrive .. |
    .waitExpired .. | .tktDoorbell .. | .tktRingConfigWrite .. | .tktAbort .. | .tktRestart .. | .hbmScrubPassStart .. |
    .hbmScrubBurst .. | .scrubHoldoffEnd .. | .vellumScrubBurst | .memInject .. | .pcieLinkUp .. | .bar2RequestResume |
    .pcieBar2BaseWrite .. | .barBadAccess .. | .bmeClear | .bmeSet | .d3hotEntry | .d0Return | .pcieCompletionReceive .. |
    .fencedTagFree .. | .pcieCompletionTimeout .. | .msixUnmask .. | .contextOpen .. | .contextClose .. |
    .xfeContextWrite .. | .xfeRateWrite .. | .xfeDoorbell .. | .descriptorFetch .. | .descriptorStart .. | .xfeBurstIssue .. |
    .xfeBurstLand .. | .descriptorComplete .. | .xfeAbort .. | .xfeRestart .. | .flashLogWrite | .flashLogErase |
    .eventCollect | .hbmLogBacklog | .evtFaultClear .. | .telemetrySnapshot | .setAddr .. | .smbRead .. | .smbWrite .. |
    .smbStatus | .alertPop | .clearErr .. | .chipId | .alertResponse | .alertReassert | .smbusTimeout | .fuseProgramChip .. |
    .fuseProgramKeyHash .. | .fuseOpDone .. | .idcode | .bypass | .samplePreload | .extest | .jtagAccess .. |
    .scribeStatusCmd .. | .scribeHalt .. | .scribeResume .. | .scribeStep .. | .scribeReadCoreRegister .. |
    .scribeWriteCoreRegister .. | .tapReset | .pcieLinkDown | .configurationRequest .. | .functionReady => true

end Sys2Proof
end

