-- ==== Sys2Proof/Machine/Pcie.lean ====
section
/-! DEFINITION. The PCI Express function (22): rows PCIE_LINK_UP to MSIX_UNMASK, PCIE_LINK_DOWN, CONFIGURATION_REQUEST and
FUNCTION_READY. Places of fields inside the capabilities are those of the PCI Express Base Specification (PRESUMED, log 34). -/

namespace Sys2Proof.Machine

/-- The function is powered and out of PERST_N. -/
def functionLive (s : State) : Bool := functionPowered s && s.pins.perstHigh && s.pins.pwrok

/-- A completion leaves: 0 Successful, 1 Unsupported Request, 2 Request Retry Status. -/
def cpl (tag : BitVec 14) (status : Nat) (bs : List Byte) (s : State) : State := s.emit (.cpl tag.toNat status bs)

/-! Link (R562, R588) -/

/-- PCIE_LINK_UP: a link that was up has retrained. -/
def execPcieLinkUp (flit : Bool) (rate : BitVec 3) (width : BitVec 5) (s : State) : Host.Outcome State Fault Refusal :=
  if !functionLive s then done s
  else
    let s := if s.bit R.PCIE_STATUS 31 then s.sat R.PCIE_LINK_CNT 31 16 1 else s
    let s := (s.fw R.PCIE_STATUS 31 31 1).fw R.PCIE_STATUS 30 30 (b2n flit)
    done ((s.fw R.PCIE_STATUS 26 24 rate.toNat).fw R.PCIE_STATUS 20 16 width.toNat)

/-- PCIE_LINK_DOWN (03 R87): nothing but the function's link changes. -/
def execPcieLinkDown (s : State) : Host.Outcome State Fault Refusal :=
  done (if s.bit R.PCIE_STATUS 31 then (s.fw R.PCIE_STATUS 31 31 0).sat R.PCIE_LINK_CNT 15 0 1 else s)

/-- FUNCTION_READY (R573): past IMAGE, Request Retry Status ends. -/
def execFunctionReady (s : State) : Host.Outcome State Fault Refusal :=
  done (if functionLive s ∧ 2 ≤ s.top then s.uBoot fun b => { b with rrs := false } else s)

/-! Configuration space (R564, R565, R571, R586, R587) -/

/-- Keep the writable bits of a dword. -/
def cfgPut (off v : Nat) (s : State) : State := s.uPcie fun p => { p with cfg := smSet cfgD p.cfg (off / 4) (w32 v) }

/-- The identification, capability headers and other dwords that R564, R565 and R571 fix, with their next pointers. -/
def cfgFixed : List (Nat × Nat) :=
  [(0x00, 0x16082E71), (0x08, 0x120000B0), (0x18, 0x0000000C), (0x28, 0), (0x2C, 0x00012E71), (0x30, 0), (0x34, 0x40), (0x38, 0),
   (0x40, 0x00035001), (0x54, 0x00080004), (0x58, 0x00090004), (0x60, 0x00020010),
   (0x100, 0x14820001), (0x148, 0x15810003), (0x150, 0x2E711608), (0x158, 0x18410019), (0x184, 0x19010025), (0x190, 0x1D010026),
   (0x1D0, 0x2101002A), (0x210, 0x23010031), (0x230, 0x28010027), (0x280, 0x2901001F), (0x290, 0x00010032)]

/-- Writable bits of the dwords that keep what is written. -/
def cfgMask : List (Nat × Nat) :=
  [(0x0C, 0xFF), (0x10, 0xFC000000), (0x14, 0xFFFFFFFF), (0x1C, 0xFFFFFFF0), (0x20, 0xFFF00000), (0x24, 0xFFFFFFFF), (0x3C, 0xFF)]

/-- Value in a list of pairs. -/
def pairAt (xs : List (Nat × Nat)) (k : Nat) : Option Nat := (xs.find? fun e => e.1 == k).map (·.2)

/-- A dword of which the spec gives some bits: the others are free. -/
def cfgOpenBits (mask fixed : Nat) (s : State) : Nat × State :=
  (Nat.lor (s.draw.1.toNat - Nat.land s.draw.1.toNat mask) fixed, s.draw.2)

/-- Read a dword of configuration space. -/
def cfgRead (off : Nat) (s : State) : Nat × State :=
  match pairAt cfgFixed off with
  | some v => (v, s)
  | none =>
    if (pairAt cfgMask off).isSome then (Nat.lor (s.cfg off) (if off = 0x10 ∨ off = 0x20 then 4 else 0), s)
    else if off = 0x04 then (0x00100000 + s.cfg off, s)
    else if off = 0x44 then (8 + s.fd R.PCIE_STATUS 13 12, s)
    else if off = 0x50 then
      (0x07FF6011 + 2 ^ 31 * s.fd R.PCIE_STATUS 9 9 + 2 ^ 30 * s.fd R.PCIE_STATUS 10 10, s)
    else if off = 0x64 then cfgOpenBits 0x10000027 0x10000022 s
    else if off = 0x68 then cfgOpenBits 0xFFFF (s.cfg off) s
    else if off = 0x84 then cfgOpenBits 0x303DF 0x3001F s
    else if off = 0x88 ∨ off = 0x104 then (s.cfg off, s)
    else if off = 0x14C then (Config.dieId.toNat, s)
    else if off = 0x284 then cfgOpenBits 7 1 s
    else if off = 0x288 then cfgOpenBits 1 (b2n s.pcie.ptmEn) s
    else cfgOpenBits 0 0 s

/-- TAG_MODE follows 10-Bit Tag Requester Enable and Extended Tag Field Enable (Table 22.7). -/
def tagMode (s : State) : State :=
  s.fw R.PCIE_STATUS 7 6 (if bitOf (s.cfg 0x88) 12 then 2 else if bitOf (devCtl s) 8 then 1 else 0)

/-- A write of Command: Bus Master Enable is bit 2 (R575–R578). -/
def cmdWrite (v : Nat) (s : State) : State :=
  let was := bme s && !d3hot s
  issueEdge was ((cfgPut 0x04 (Nat.land v 0x546) s).fw R.PCIE_STATUS 8 8 (fieldOf v 2 2))

/-- A write of PowerState: D0 or D3hot, no other state being supported (R563, R586). -/
def powerWrite (v : Nat) (s : State) : State :=
  let was := bme s && !d3hot s
  if v % 4 = 0 ∨ v % 4 = 3 then issueEdge was (s.fw R.PCIE_STATUS 13 12 (v % 4)) else s

/-- Write a dword of configuration space. -/
def cfgWrite (off v : Nat) (s : State) : State :=
  match pairAt cfgMask off with
  | some m => cfgPut off (Nat.land v m) s
  | none =>
    if off = 0x04 then cmdWrite v s
    else if off = 0x44 then powerWrite v s
    else if off = 0x50 then sendPending ((s.fw R.PCIE_STATUS 9 9 (fieldOf v 31 31)).fw R.PCIE_STATUS 10 10 (fieldOf v 30 30))
    else if off = 0x68 then
      let s := tagMode (cfgPut off (v % 2 ^ 15) s)
      if bitOf v 15 then flrStart s else s
    else if off = 0x88 then tagMode (cfgPut off (v % 2 ^ 16) s)
    else if off = 0x104 then cfgPut off (s.cfg off - Nat.land (s.cfg off) v) s
    else if off = 0x288 then s.uPcie fun p => { p with ptmEn := bitOf v 0 }
    else s

/-- CONFIGURATION_REQUEST (R573, R586; 06 R180): Request Retry Status while the function is not ready. -/
def execConfigurationRequest (tag : BitVec 14) (off : BitVec 12) (value : Option Word) (s : State) : Host.Outcome State Fault Refusal :=
  let o := off.toNat / 4 * 4
  if !functionLive s then done s
  else if s.boot.rrs ∨ s.bit R.PCIE_STATUS 3 then done (cpl tag 2 [] s)
  else match value with
    | some v => done (cpl tag 0 [] (cfgWrite o v.toNat s))
    | none =>
      let x := cfgRead o s
      done (cpl tag 0 (natToBytes 4 x.1) x.2)

/-- Configuration space can be written now. -/
def cfgTakes (s : State) : Bool := functionLive s && !s.boot.rrs && !s.bit R.PCIE_STATUS 3

/-- BME_CLEAR (R575–R577): Command is written with Bus Master Enable clear. -/
def execBmeClear (s : State) : Host.Outcome State Fault Refusal :=
  done (if cfgTakes s then cmdWrite (s.cfg 0x04 - Nat.land (s.cfg 0x04) 4) s else s)

/-- BME_SET (R578). -/
def execBmeSet (s : State) : Host.Outcome State Fault Refusal :=
  done (if cfgTakes s then cmdWrite (Nat.lor (s.cfg 0x04) 4) s else s)

/-- D3HOT_ENTRY (R586). -/
def execD3hotEntry (s : State) : Host.Outcome State Fault Refusal := done (if cfgTakes s then powerWrite 3 s else s)

/-- D0_RETURN (R586). -/
def execD0Return (s : State) : Host.Outcome State Fault Refusal := done (if cfgTakes s then powerWrite 0 s else s)

/-! The BAR2 window (R567–R570) -/

/-- The window's base. -/
def bar2Base (s : State) : Nat := s.fd R.PCIE_BAR2_BASE 8 0 * 2 ^ 30

/-- A completion with data of which some words are bad: EP set, their bytes zero (21 Table 21.1). -/
def bar2Data (tag : Nat) (bs : List PByte) (s : State) : State :=
  if anyBad bs then s.emit (.cplEp tag (bs.map fun b => if b.2 then 0 else b.1)) else s.emit (.cpl tag 0 (bs.map (·.1)))

/-- A request meets a stack that is OFF or SLEEPING (R570). -/
def bar2Off (w : Bar2Wait) (k : Nat) (s : State) : State :=
  let s := s.evKey 8000 0 Ev.PCIE_BAR2_OFF k []
  if w.write then s else s.emit (.cplEp w.tag (List.replicate w.len 0))

/-- Serve a request at its device address, or let it wait. -/
def bar2Serve (w : Bar2Wait) (s : State) : State :=
  let ks := stacksAt w.addr w.len
  if ks.any (stackWaits s) then s.uPcie fun p => { p with wait := p.wait ++ [w] }
  else match ks.find? fun k => !s.domUp (0x90 + k) with
    | some k => bar2Off w k s
    | none =>
      if w.write then memWriteOpt 4 .hbm w.addr (w.data.map fun b => b.map fun b => (b, w.ep)) s
      else
        let x := midRead 4 .hbm w.addr w.len s
        bar2Data w.tag x.2 x.1

/-- A request with its translation. -/
def bar2At (r : Bar2Req) (addr : Nat) : Bar2Wait := ⟨r.write, r.tag.toNat, addr, r.len.toNat, r.ep, r.data⟩

/-- A held write of PCIE_BAR2_BASE governs what arrives after it (R569). -/
def holdsBase (s : State) : Bool :=
  s.pcie.held.any fun h => match h with
    | .write off _ => off == R.PCIE_BAR2_BASE
    | .write2 off _ _ => off == R.PCIE_BAR2_BASE
    | _ => false

/-- A BAR2 request reaches the front of the order. -/
def bar2Go (r : Bar2Req) (addr : Option Nat) (s : State) : State :=
  if !s.pathOpen .pcie then (if r.write then s else cpl r.tag 1 [] s)
  else
    let a := addr.getD (bar2Base s + r.off.toNat)
    if s.hostBlocked then s.hold (.bar2 r (if holdsBase s then none else some a)) else bar2Serve (bar2At r a) s

/-- BAR2_REQUEST. -/
def execBar2Request (r : Bar2Req) (s : State) : Host.Outcome State Fault Refusal :=
  if !r.wellFormed then .fault .illFormed else done (if functionLive s then bar2Go r none s else s)

/-- The host writes an entry of the MSI-X table (R571). -/
def msixPut (v : Nat) (e : MsixEntry) (s : State) : State :=
  let w := fun i (x : Word) m => smSet msixD m (4 * v + i) x
  s.uPcie fun p => { p with
    msix := w 0 (e.addr.setWidth 32) (w 1 ((e.addr >>> 32).setWidth 32) (w 2 e.data (w 3 (if e.masked then 1 else 0) p.msix))) }

/-- MSIX_UNMASK at the front of the order: the entry as written, then what no longer waits is sent (R572). -/
def msixGo (v : Nat) (entry : Option MsixEntry) (s : State) : Host.Outcome State Fault Refusal :=
  match entry with
  | none => done (sendPending s)
  | some e => through .pcie (.msix v entry) s <| done (sendPending (msixPut v e s))

/-- MSIX_UNMASK. -/
def execMsixUnmask (v : Fin 2048) (entry : Option MsixEntry) (s : State) : Host.Outcome State Fault Refusal := msixGo v entry s

/-- A held request takes its turn. -/
def replay (h : HostReq) (s : State) : State :=
  match h with
  | .bar2 r a => bar2Go r a s
  | .read off => outState s (readThrough .pcie h s (read1 .pcie off))
  | .read2 off => outState s (readThrough .pcie h s (read2 .pcie off))
  | .write off v => outState s (through .pcie h s (done (settle (regWrite .pcie off (w32 v) s))))
  | .write2 off a b => outState s (through .pcie h s (done (settle (write2 .pcie off a b s))))
  | .msix v e => outState s (msixGo v e s)

/-- BAR2_REQUEST_RESUME (R570, R567): what waited on a stack is served, then what waited behind it. -/
def execBar2RequestResume (s : State) : Host.Outcome State Fault Refusal :=
  let t := s.pcie.wait.foldl (fun s w => bar2Serve w s) (s.uPcie fun p => { p with wait := [] })
  if t.pcie.wait.any (·.write) then done t
  else done (t.pcie.held.foldl (fun s h => replay h s) (t.uPcie fun p => { p with held := [] }))

/-- PCIE_BAR2_BASE_WRITE (R569). -/
def execPcieBar2BaseWrite (path : Path) (value : Word) (s : State) : Host.Outcome State Fault Refusal :=
  through path (.write R.PCIE_BAR2_BASE value.toNat) s <| done (regWrite path R.PCIE_BAR2_BASE value s)

/-- BAR_BAD_ACCESS (R568). -/
def execBarBadAccess (write : Bool) (tag : BitVec 14) (s : State) : Host.Outcome State Fault Refusal :=
  if !functionLive s then done s
  else
    let s := if s.pathOpen .pcie then s.sat R.PCIE_BAD_ACC 31 0 1 else s
    done (if write then s else cpl tag 1 [] s)

/-! Completions (R576, R581–R583, R585) -/

/-- A tag of a read becomes free. -/
def npFree (t : Nat) (s : State) : State := npCount (s.uPcie fun p => { p with np := smErase p.np t })

/-- A fenced tag becomes free (R582, R583). -/
def fenceFree (t : Nat) (s : State) : State := fenceSync (s.uPcie fun p => { p with fenced := p.fenced.filter fun e => e.1 != t })

/-- A completion of an outstanding read: it is the last once its bytes are all there, or with a status of its own. -/
def npArrive (t : Nat) (rd : HostRd) (ok : Bool) (s : State) : State :=
  let last := !ok || decide (rd.len ≤ rd.got.length)
  let s := if last then npFree t s else s.uPcie fun p => { p with np := smPut p.np t rd }
  if rd.lost ∨ !bme s then s.sat R.PCIE_BME_DROP 31 0 1
  else if last then settle (hostArrive rd (if ok then 0 else 5) s) else s

/-- PCIE_COMPLETION_RECEIVE. -/
def execPcieCompletionReceive (tag : BitVec 10) (status : CplStatus) (ep : Bool) (bytes : List Byte) (s : State) :
    Host.Outcome State Fault Refusal :=
  let t := tag.toNat
  if s.pcie.fenced.any (·.1 == t) then done (fenceFree t (s.sat R.PCIE_FENCE_DROP 31 0 1))
  else match s.pcie.np.find? fun e => e.1 == t with
    | none => done s
    | some e =>
      let rd := { e.2 with got := (e.2.got ++ bytes).take e.2.len, ep := e.2.ep || ep }
      done (npArrive t rd (status == .success) s)

/-- FENCED_TAG_FREE: the completion timeout in force at its request's issue has passed (R582). -/
def execFencedTagFree (tag : BitVec 10) (s : State) : Host.Outcome State Fault Refusal :=
  done (if s.pcie.fenced.any (·.1 == tag.toNat) then fenceFree tag.toNat s else s)

/-- PCIE_COMPLETION_TIMEOUT (R585): AER logs it in bit 14 of the Uncorrectable Error Status. -/
def execPcieCompletionTimeout (tag : BitVec 10) (s : State) : Host.Outcome State Fault Refusal :=
  match s.pcie.np.find? fun e => e.1 == tag.toNat with
  | none => done s
  | some e =>
    let s := cfgPut 0x104 (Nat.lor (s.cfg 0x104) 0x4000) (npFree tag.toNat s)
    done (if e.2.lost then s else settle (hostArrive e.2 6 s))

end Sys2Proof.Machine
end

