-- ==== Sys2Proof/Machine/Sideband.lean ====
section
/-! DEFINITION. A sideband message at a receiver (02 R59, R63–R65): forwarded in its direction, acted on, or removed by its
originator. Row SB_MESSAGE_RECEIVE. -/

namespace Sys2Proof.Machine

/-- A DEPART: its chip is no longer reachable (15 R415), and its next SELF may carry another NONCE (16 R434). -/
def departHeard (chip : Nat) (s : State) : State :=
  let s := s.uCl fun c => { c with heard := smErase c.heard chip }
  reachReg (s.uAgree fun g => { g with self_ := g.self_.map fun e => if e.1 = chip then (e.1, (e.2.1, true)) else e })

/-- A whole message by its MTYPE (Table 2.8); a reserved one is not acted on. -/
def sbAct (m : SbMsg) (s : State) : State :=
  let b := sbBody m
  match m.mtype.toNat with
  | 1 => if bitOf (pkW b 0) 31 then acceptOrder (b.take (pkW b 0 % 16 + 5)) s else s
  | 2 => heartbeat (b.take 8) s
  | 3 => ckptReceive b s
  | 4 => departHeard (pkW b 0 % 16384) s
  | _ => s

/-- The package originated the message in this direction (R64). -/
def sbOwn (s : State) (d : Dir) (m : SbMsg) : Bool := m.origin.toNat == s.chip && m.dir == d

/-- Forward a message on its next segment, as much of it as arrived (R64); a segment that is down drops it. -/
def sbForward (d : Dir) (m : SbMsg) (how : SbEnd) (s : State) : State :=
  if !(s.sb d).up then s
  else
    let s := s.emit (.sb d m)
    if how = .aborted then s.emit (.sbAbort d) else s

/-- A SOF arrives while the package sends an own message on the direction: that one is aborted and sent again later (R65). -/
def sbYield (d : Dir) (s : State) : State :=
  let p := s.sb d
  match p.sending with
  | some own => (s.setSb d { p with again := own :: p.again, sending := none }).emit (.sbAbort d)
  | none => s

/-- SB_MESSAGE_RECEIVE: a message travelling in direction d arrives on the other direction's segment. An own one is removed, whole or
not, uncounted, and cuts short no own message under way (log 115). -/
def execSbMessageReceive (d : Dir) (m : SbMsg) (how : SbEnd) (duringOwn : Bool) (s : State) : Host.Outcome State Fault Refusal :=
  if !(s.sb (dirFlip d)).up ∨ !s.domUp 0xA7 then done s
  else if sbOwn s d m then done s
  else
    let s := sbForward d m how (if duringOwn then sbYield d s else s)
    done (if how = .whole ∧ sbGood m = true then sbAct m s else s.sat R.CL_STALE_CNT 31 0 1)

end Sys2Proof.Machine
end

