-- ==== Sys2Proof/Machine/TktRows.lean ====
section
/-! DEFINITION. The rows of the ticket rings, over the operations of Tickets.lean (19 R508–R515, 20 R521–R541). A row that may send
requests ends with what the local target has received. -/

namespace Sys2Proof.Machine

/-- TICKET_FETCH (20 R524). -/
def execTicketFetch (ring : Fin 256) (s : State) : Host.Outcome State Fault Refusal := done (tktFetch ring s)

/-- TICKET_START (20 R526). -/
def execTicketStart (ring : Fin 256) (s : State) : Host.Outcome State Fault Refusal := done (settle (tktStart ring s))

/-- TICKET_COMPLETE (20 R537). -/
def execTicketComplete (ring : Fin 256) (idx : BitVec 16) (stall contention : Word) (s : State) : Host.Outcome State Fault Refusal :=
  done (settle (tktComplete ring idx.toNat stall.toNat contention.toNat s))

/-- BARRIER_TAKE_EFFECT (19 R508, R510, R512). -/
def execBarrierTakeEffect (ring : Fin 256) (s : State) : Host.Outcome State Fault Refusal := done (barrierTake ring s)

/-- BARRIER_RELEASE (19 R509). -/
def execBarrierRelease (ring : Fin 256) (s : State) : Host.Outcome State Fault Refusal := done (barrierOut ring s)

/-- BARRIER_LATE_REPORT (19 R511). -/
def execBarrierLateReport (die : Fin 2) (s : State) : Host.Outcome State Fault Refusal :=
  let x := s.tkt.late.getD die.val (0, 0)
  if x.1 = 0 then done s
  else done ((s.uTkt fun t => { t with late := setAt (0, 0) t.late die.val (0, 0) }).ev Ev.BARRIER_LATE die.val [x.1, x.2])

/-- FENCE_COMPLETE (19 R515). -/
def execFenceComplete (ring : Fin 256) (s : State) : Host.Outcome State Fault Refusal := done (fenceOut ring s)

/-- COLLECTIVE_FLAG_ARRIVE (20 R533). -/
def execCollectiveFlagArrive (ring : Fin 256) (idx : BitVec 16) (s : State) : Host.Outcome State Fault Refusal :=
  done (settle (flagArrive ring idx.toNat s))

/-- WAIT_EXPIRED (20 R533). -/
def execWaitExpired (ring : Fin 256) (idx : BitVec 16) (s : State) : Host.Outcome State Fault Refusal := done (waitOut ring idx.toNat s)

/-- TKT_DOORBELL (20 R521, R522). -/
def execTktDoorbell (path : Path) (ring : Fin 256) (value : Word) (s : State) : Host.Outcome State Fault Refusal :=
  through path (.write (R.TKT_DB ring) value.toNat) s <| done (doorbellWrite path ring value.toNat s)

/-- TKT_RING_CONFIG_WRITE (20 R521, R523): a write of CFG, BASE or CQ. -/
def execTktRingConfigWrite (path : Path) (off : Nat) (value : Word) (s : State) : Host.Outcome State Fault Refusal :=
  through path (.write off value.toNat) s <| done (regWrite path off value s)

/-- TKT_ABORT (20 R540). -/
def execTktAbort (path : Path) (ring : Fin 256) (s : State) : Host.Outcome State Fault Refusal :=
  through path (.write (R.TKT_CMD ring) (2 ^ 28)) s <| done (settle (abortRing ring s))

/-- TKT_RESTART (20 R541). -/
def execTktRestart (path : Path) (ring : Fin 256) (skip : Bool) (s : State) : Host.Outcome State Fault Refusal :=
  through path (.write (R.TKT_CMD ring) (2 ^ 29 + b2n skip)) s <| done (restartRing ring skip s)

end Sys2Proof.Machine
end

