-- ==== Sys2Proof/Machine/XfeRows.lean ====
section
/-! DEFINITION. The rows of the transfer engine, over the operations of XfeOps.lean (23 R590–R607). Its domain must be ON (27 R661). -/

namespace Sys2Proof.Machine

/-- The engine runs. -/
def xfeUp (s : State) : Bool := s.domUp 0xA3

/-- A write of the engine's registers: discarded while its domain is not ON. -/
def xfeRow (p : Path) (r : HostReq) (s : State) (t : State) : Host.Outcome State Fault Refusal :=
  through p r s <| done (if s.blockOn (R.XFE_CTL 0) then t else s)

/-- CONTEXT_OPEN (R591): a write of CTL. -/
def execContextOpen (path : Path) (c : Fin 4096) (value : Word) (s : State) : Host.Outcome State Fault Refusal :=
  xfeRow path (.write (R.XFE_CTL c) value.toNat) s (ctxWrite path (R.XFE_CTL c) value.toNat s)

/-- CONTEXT_CLOSE (R591): a write of CTL. -/
def execContextClose (path : Path) (c : Fin 4096) (value : Word) (s : State) : Host.Outcome State Fault Refusal :=
  xfeRow path (.write (R.XFE_CTL c) value.toNat) s (ctxWrite path (R.XFE_CTL c) value.toNat s)

/-- XFE_CONTEXT_WRITE (R591): another write of CTL, BASE or FLAG. -/
def execXfeContextWrite (path : Path) (off : Nat) (value : Word) (s : State) : Host.Outcome State Fault Refusal :=
  xfeRow path (.write off value.toNat) s (regWrite path off value s)

/-- XFE_RATE_WRITE (R607). -/
def execXfeRateWrite (path : Path) (c : Fin 4096) (value : Word) (s : State) : Host.Outcome State Fault Refusal :=
  xfeRow path (.write (R.XFE_RATE c) value.toNat) s (rateWrite path c value.toNat s)

/-- XFE_DOORBELL (R592, R594, R596). -/
def execXfeDoorbell (path : Path) (c : Fin 4096) (value : Word) (s : State) : Host.Outcome State Fault Refusal :=
  xfeRow path (.write (R.XFE_DB c) value.toNat) s (xDoorbell path c value.toNat s)

/-- XFE_ABORT (R605). -/
def execXfeAbort (path : Path) (c : Fin 4096) (s : State) : Host.Outcome State Fault Refusal :=
  xfeRow path (.write (R.XFE_CMD c) (2 ^ 28)) s (xAbort path c (2 ^ 28) s)

/-- XFE_RESTART (R606). -/
def execXfeRestart (path : Path) (c : Fin 4096) (skip : Bool) (s : State) : Host.Outcome State Fault Refusal :=
  xfeRow path (.write (R.XFE_CMD c) (2 ^ 29 + b2n skip)) s (xRestart path c (2 ^ 29 + b2n skip) skip s)

/-- DESCRIPTOR_FETCH (R597). -/
def execDescriptorFetch (c : Fin 4096) (s : State) : Host.Outcome State Fault Refusal := done (if xfeUp s then descFetch c s else s)

/-- DESCRIPTOR_START (R598, R600). -/
def execDescriptorStart (c : Fin 4096) (s : State) : Host.Outcome State Fault Refusal :=
  done (if xfeUp s then settle (descStart c s) else s)

/-- XFE_BURST_ISSUE (R601, R607). -/
def execXfeBurstIssue (c : Fin 4096) (s : State) : Host.Outcome State Fault Refusal :=
  done (if xfeUp s then settle (burstIssue c s) else s)

/-- XFE_BURST_LAND (R602). -/
def execXfeBurstLand (c : Fin 4096) (s : State) : Host.Outcome State Fault Refusal :=
  done (if xfeUp s then settle (burstLand c s) else s)

/-- DESCRIPTOR_COMPLETE (R603). -/
def execDescriptorComplete (c : Fin 4096) (s : State) : Host.Outcome State Fault Refusal :=
  done (if xfeUp s then settle (descComplete c s) else s)

end Sys2Proof.Machine
end

