-- ==== Sys2Proof/Machine/Dispatch.lean ====
section
/-! DEFINITION. One arm for each command, in the order of spec/opcode_table.json. -/

namespace Sys2Proof.Machine

def exec (i : Instr) (s : State) : Host.Outcome State Fault Refusal :=
  match i with
  | .registerWrite path off value => Sys2Proof.Machine.execRegisterWrite path off value s
  | .badRegisterAccess path isWrite off value => Sys2Proof.Machine.execBadRegisterAccess path isWrite off value s
  | .nameLoRead path off => Sys2Proof.Machine.execNameLoRead path off s
  | .nameHiRead path off => Sys2Proof.Machine.execNameHiRead path off s
  | .nameLoWrite path off value => Sys2Proof.Machine.execNameLoWrite path off value s
  | .nameHiWrite path off value => Sys2Proof.Machine.execNameHiWrite path off value s
  | .twoDwordAccess path off data => Sys2Proof.Machine.execTwoDwordAccess path off data s
  | .rcRead path off => Sys2Proof.Machine.execRcRead path off s
  | .pwrokRise cfgOpen bootSel rackSlot => Sys2Proof.Machine.execPwrokRise cfgOpen bootSel rackSlot s
  | .pwrokFall => Sys2Proof.Machine.execPwrokFall s
  | .powerLossConfirmed => Sys2Proof.Machine.execPowerLossConfirmed s
  | .rootLockTimeout => Sys2Proof.Machine.execRootLockTimeout s
  | .rootPllLock => Sys2Proof.Machine.execRootPllLock s
  | .vhtrSenseSample mv => Sys2Proof.Machine.execVhtrSenseSample mv s
  | .sbBlockLock d valid => Sys2Proof.Machine.execSbBlockLock d valid s
  | .sbTrainReceive d peerDir locked => Sys2Proof.Machine.execSbTrainReceive d peerDir locked s
  | .sbMessageReceive d m how duringOwn => Sys2Proof.Machine.execSbMessageReceive d m how duringOwn s
  | .sbMessageSend d => Sys2Proof.Machine.execSbMessageSend d s
  | .refLost src => Sys2Proof.Machine.execRefLost src s
  | .refSwitch rackOk linkOk => Sys2Proof.Machine.execRefSwitch rackOk linkOk s
  | .holdover => Sys2Proof.Machine.execHoldover s
  | .refRevert rackOk linkOk => Sys2Proof.Machine.execRefRevert rackOk linkOk s
  | .rootUnlock => Sys2Proof.Machine.execRootUnlock s
  | .stepCorrectionApply => Sys2Proof.Machine.execStepCorrectionApply s
  | .rstChip path value => Sys2Proof.Machine.execRstChip path value s
  | .chipResetRelease => Sys2Proof.Machine.execChipResetRelease s
  | .rstDomain path value => Sys2Proof.Machine.execRstDomain path value s
  | .domainResetRelease dom => Sys2Proof.Machine.execDomainResetRelease dom s
  | .rstBlock path value => Sys2Proof.Machine.execRstBlock path value s
  | .perstNAssert => Sys2Proof.Machine.execPerstNAssert s
  | .perstNRelease => Sys2Proof.Machine.execPerstNRelease s
  | .functionLevelReset => Sys2Proof.Machine.execFunctionLevelReset s
  | .flrComplete => Sys2Proof.Machine.execFlrComplete s
  | .timeReqSend t1 => Sys2Proof.Machine.execTimeReqSend t1 s
  | .timeReqReceive port seq t1 t2 t3 => Sys2Proof.Machine.execTimeReqReceive port seq t1 t2 t3 s
  | .timeRspReceive port rsp t4 => Sys2Proof.Machine.execTimeRspReceive port rsp t4 s
  | .timeXchgTimeout => Sys2Proof.Machine.execTimeXchgTimeout s
  | .parentCandidateReinstate cand => Sys2Proof.Machine.execParentCandidateReinstate cand s
  | .timeUnsynced => Sys2Proof.Machine.execTimeUnsynced s
  | .timePtmGo path value => Sys2Proof.Machine.execTimePtmGo path value s
  | .ptmAutoTrigger => Sys2Proof.Machine.execPtmAutoTrigger s
  | .ptmResponse ct host => Sys2Proof.Machine.execPtmResponse ct host s
  | .ptmTimeout => Sys2Proof.Machine.execPtmTimeout s
  | .pwrDomOn path dom => Sys2Proof.Machine.execPwrDomOn path dom s
  | .pwrDomOff path dom => Sys2Proof.Machine.execPwrDomOff path dom s
  | .pwrDomAuto path dom => Sys2Proof.Machine.execPwrDomAuto path dom s
  | .powerUpStart rail => Sys2Proof.Machine.execPowerUpStart rail s
  | .domainWakeDone dom => Sys2Proof.Machine.execDomainWakeDone dom s
  | .domainSleepDone dom => Sys2Proof.Machine.execDomainSleepDone dom s
  | .autoIdlePowerOff pair => Sys2Proof.Machine.execAutoIdlePowerOff pair s
  | .packagePowerMeasure pkg g0 g1 => Sys2Proof.Machine.execPackagePowerMeasure pkg g0 g1 s
  | .pwrOverload => Sys2Proof.Machine.execPwrOverload s
  | .governorStep => Sys2Proof.Machine.execGovernorStep s
  | .lookaheadEntry ring => Sys2Proof.Machine.execLookaheadEntry ring s
  | .heatNoteDelivery => Sys2Proof.Machine.execHeatNoteDelivery s
  | .heatNoteLapse ring cause => Sys2Proof.Machine.execHeatNoteLapse ring cause s
  | .imageSlotAttempt f => Sys2Proof.Machine.execImageSlotAttempt f s
  | .configLoad hbmTries => Sys2Proof.Machine.execConfigLoad hbmTries s
  | .bootLockWrite path value => Sys2Proof.Machine.execBootLockWrite path value s
  | .readyEntry => Sys2Proof.Machine.execReadyEntry s
  | .bootLinkWaitExpiry => Sys2Proof.Machine.execBootLinkWaitExpiry s
  | .rrsTimeout => Sys2Proof.Machine.execRrsTimeout s
  | .flashOpDone => Sys2Proof.Machine.execFlashOpDone s
  | .flashOpTimeout => Sys2Proof.Machine.execFlashOpTimeout s
  | .query path => Sys2Proof.Machine.execQuery path s
  | .updBegin path => Sys2Proof.Machine.execUpdBegin path s
  | .updWrite path => Sys2Proof.Machine.execUpdWrite path s
  | .updVerify path f => Sys2Proof.Machine.execUpdVerify path f s
  | .updAbort path => Sys2Proof.Machine.execUpdAbort path s
  | .restart path => Sys2Proof.Machine.execRestart path s
  | .rollbackAdvance path => Sys2Proof.Machine.execRollbackAdvance path s
  | .mbUnknownOp path opcode => Sys2Proof.Machine.execMbUnknownOp path opcode s
  | .updSessionTimeout => Sys2Proof.Machine.execUpdSessionTimeout s
  | .backgroundAuthentication f => Sys2Proof.Machine.execBackgroundAuthentication f s
  | .cicOutput x samples => Sys2Proof.Machine.execCicOutput x samples s
  | .proofProcess temps => Sys2Proof.Machine.execProofProcess temps s
  | .proofSync path value => Sys2Proof.Machine.execProofSync path value s
  | .proofSyncReset => Sys2Proof.Machine.execProofSyncReset s
  | .proofDarkCmd path value => Sys2Proof.Machine.execProofDarkCmd path value s
  | .darkCaptured lane => Sys2Proof.Machine.execDarkCaptured lane s
  | .telemetryPeriodEnd => Sys2Proof.Machine.execTelemetryPeriodEnd s
  | .stylusSlot e l => Sys2Proof.Machine.execStylusSlot e l s
  | .rollDone e l => Sys2Proof.Machine.execRollDone e l s
  | .styCoefWrite path off value => Sys2Proof.Machine.execStyCoefWrite path off value s
  | .stylusHousekeeping => Sys2Proof.Machine.execStylusHousekeeping s
  | .stySupRelease path e value => Sys2Proof.Machine.execStySupRelease path e value s
  | .relayStart path e value => Sys2Proof.Machine.execRelayStart path e value s
  | .relayTimeout e => Sys2Proof.Machine.execRelayTimeout e s
  | .traceArm path e => Sys2Proof.Machine.execTraceArm path e s
  | .traceForce path e => Sys2Proof.Machine.execTraceForce path e s
  | .traceStop path e => Sys2Proof.Machine.execTraceStop path e s
  | .traceCtTrigger e => Sys2Proof.Machine.execTraceCtTrigger e s
  | .tracePostDone e => Sys2Proof.Machine.execTracePostDone e s
  | .pwmPeriod k ma => Sys2Proof.Machine.execPwmPeriod k ma s
  | .tecOvercurrent k => Sys2Proof.Machine.execTecOvercurrent k s
  | .tecOpen k => Sys2Proof.Machine.execTecOpen k s
  | .tecFaultClear path value => Sys2Proof.Machine.execTecFaultClear path value s
  | .teckForceWrite path k value => Sys2Proof.Machine.execTeckForceWrite path k value s
  | .tecSettled k => Sys2Proof.Machine.execTecSettled k s
  | .tecSettleFail k => Sys2Proof.Machine.execTecSettleFail k s
  | .lasCtlWrite path value => Sys2Proof.Machine.execLasCtlWrite path value s
  | .shutPortProbe p light => Sys2Proof.Machine.execShutPortProbe p light s
  | .lineHoursRecord => Sys2Proof.Machine.execLineHoursRecord s
  | .laneSweepDone tx p n code => Sys2Proof.Machine.execLaneSweepDone tx p n code s
  | .lockConfirm tx p n => Sys2Proof.Machine.execLockConfirm tx p n s
  | .lockFail tx p n => Sys2Proof.Machine.execLockFail tx p n s
  | .codewordLock p n mark => Sys2Proof.Machine.execCodewordLock p n mark s
  | .codewordLockLoss p n => Sys2Proof.Machine.execCodewordLockLoss p n s
  | .laneBad p n => Sys2Proof.Machine.execLaneBad p n s
  | .dataBlockReceive p n bsn corrected payload => Sys2Proof.Machine.execDataBlockReceive p n bsn corrected payload s
  | .ackSend p => Sys2Proof.Machine.execAckSend p s
  | .ackReceive p bsn => Sys2Proof.Machine.execAckReceive p bsn s
  | .retryReqSend p n undecodable => Sys2Proof.Machine.execRetryReqSend p n undecodable s
  | .retryReqReceive p ranges => Sys2Proof.Machine.execRetryReqReceive p ranges s
  | .laneHold p slot => Sys2Proof.Machine.execLaneHold p slot s
  | .laneResume p slot => Sys2Proof.Machine.execLaneResume p slot s
  | .retryTimeout p => Sys2Proof.Machine.execRetryTimeout p s
  | .trainReceive p m => Sys2Proof.Machine.execTrainReceive p m s
  | .trainTimeout p => Sys2Proof.Machine.execTrainTimeout p s
  | .credSend p => Sys2Proof.Machine.execCredSend p s
  | .credTimeout p => Sys2Proof.Machine.execCredTimeout p s
  | .portRetrainTimer p => Sys2Proof.Machine.execPortRetrainTimer p s
  | .swapReq p tx slot old new => Sys2Proof.Machine.execSwapReq p tx slot old new s
  | .swapReady p slot new => Sys2Proof.Machine.execSwapReady p slot new s
  | .laneSwapComplete p tx slot new => Sys2Proof.Machine.execLaneSwapComplete p tx slot new s
  | .swapFail p tx slot => Sys2Proof.Machine.execSwapFail p tx slot s
  | .laneRecovered tx p n => Sys2Proof.Machine.execLaneRecovered tx p n s
  | .recoveryTimeout tx p n lock => Sys2Proof.Machine.execRecoveryTimeout tx p n lock s
  | .laneRole p tx n retired => Sys2Proof.Machine.execLaneRole p tx n retired s
  | .rotAsk p n => Sys2Proof.Machine.execRotAsk p n s
  | .rotationStart p => Sys2Proof.Machine.execRotationStart p s
  | .rotationPhaseDone p => Sys2Proof.Machine.execRotationPhaseDone p s
  | .rotBackout p => Sys2Proof.Machine.execRotBackout p s
  | .rotStarved p => Sys2Proof.Machine.execRotStarved p s
  | .lnkRetrain path p value => Sys2Proof.Machine.execLnkRetrain path p value s
  | .lnkRotateNow path p value => Sys2Proof.Machine.execLnkRotateNow path p value s
  | .lnkSwap path p value => Sys2Proof.Machine.execLnkSwap path p value s
  | .lnkRetire path p value => Sys2Proof.Machine.execLnkRetire path p value s
  | .loopOn path p value => Sys2Proof.Machine.execLoopOn path p value s
  | .loopOff path p value => Sys2Proof.Machine.execLoopOff path p value s
  | .prepareIssue cause target => Sys2Proof.Machine.execPrepareIssue cause target s
  | .prepareReceive m cause digest => Sys2Proof.Machine.execPrepareReceive m cause digest s
  | .answerReceive chip xid reason => Sys2Proof.Machine.execAnswerReceive chip xid reason s
  | .decisionDeadline => Sys2Proof.Machine.execDecisionDeadline s
  | .decideAck commit m => Sys2Proof.Machine.execDecideAck commit m s
  | .decisionRepeat => Sys2Proof.Machine.execDecisionRepeat s
  | .commitReceive m => Sys2Proof.Machine.execCommitReceive m s
  | .abandonReceive m => Sys2Proof.Machine.execAbandonReceive m s
  | .replateDrain => Sys2Proof.Machine.execReplateDrain s
  | .replateApply => Sys2Proof.Machine.execReplateApply s
  | .routeSwap => Sys2Proof.Machine.execRouteSwap s
  | .replateNoDecision => Sys2Proof.Machine.execReplateNoDecision s
  | .replateOrphan => Sys2Proof.Machine.execReplateOrphan s
  | .plateStateReceive m => Sys2Proof.Machine.execPlateStateReceive m s
  | .replateCatchup => Sys2Proof.Machine.execReplateCatchup s
  | .portDownReceive chip ports cur => Sys2Proof.Machine.execPortDownReceive chip ports cur s
  | .portUpReceive chip ports cur => Sys2Proof.Machine.execPortUpReceive chip ports cur s
  | .faultWindowEnd => Sys2Proof.Machine.execFaultWindowEnd s
  | .memberUnreachable chip => Sys2Proof.Machine.execMemberUnreachable chip s
  | .unsyncWaitRetry => Sys2Proof.Machine.execUnsyncWaitRetry s
  | .plateReq path value => Sys2Proof.Machine.execPlateReq path value s
  | .plateAskReceive chip tag slot => Sys2Proof.Machine.execPlateAskReceive chip tag slot s
  | .plateAnswerReceive chip tag slot result => Sys2Proof.Machine.execPlateAnswerReceive chip tag slot result s
  | .plateReqTimeout => Sys2Proof.Machine.execPlateReqTimeout s
  | .orderReceive frame => Sys2Proof.Machine.execOrderReceive frame s
  | .leaseRenew path value => Sys2Proof.Machine.execLeaseRenew path value s
  | .leaseTake path value => Sys2Proof.Machine.execLeaseTake path value s
  | .leaseRelease path value => Sys2Proof.Machine.execLeaseRelease path value s
  | .scribeTakeover => Sys2Proof.Machine.execScribeTakeover s
  | .coldDone dom => Sys2Proof.Machine.execColdDone dom s
  | .checkpointStart dom => Sys2Proof.Machine.execCheckpointStart dom s
  | .checkpointCommit dom len => Sys2Proof.Machine.execCheckpointCommit dom len s
  | .ckptFail dom => Sys2Proof.Machine.execCkptFail dom s
  | .standbyAbsent dom => Sys2Proof.Machine.execStandbyAbsent dom s
  | .standbyJoin dom => Sys2Proof.Machine.execStandbyJoin dom s
  | .clusterRenewal => Sys2Proof.Machine.execClusterRenewal s
  | .etcherTakeover => Sys2Proof.Machine.execEtcherTakeover s
  | .clusterStart => Sys2Proof.Machine.execClusterStart s
  | .heartbeatSend => Sys2Proof.Machine.execHeartbeatSend s
  | .heartbeatReceive words => Sys2Proof.Machine.execHeartbeatReceive words s
  | .ckptReceive body => Sys2Proof.Machine.execCkptReceive body s
  | .credReceive p frame => Sys2Proof.Machine.execCredReceive p frame s
  | .credAckReceive p d0 d1 => Sys2Proof.Machine.execCredAckReceive p d0 d1 s
  | .statePull chip ports => Sys2Proof.Machine.execStatePull chip ports s
  | .statePullRetry => Sys2Proof.Machine.execStatePullRetry s
  | .agreeSelfTimer => Sys2Proof.Machine.execAgreeSelfTimer s
  | .agreeNoteReceive words => Sys2Proof.Machine.execAgreeNoteReceive words s
  | .agreeQuarReceive chip nonce reason => Sys2Proof.Machine.execAgreeQuarReceive chip nonce reason s
  | .agreeClearReceive chip nonce reason => Sys2Proof.Machine.execAgreeClearReceive chip nonce reason s
  | .dupClearExpiry chip => Sys2Proof.Machine.execDupClearExpiry chip s
  | .flitReceive p ecc => Sys2Proof.Machine.execFlitReceive p ecc s
  | .creditReceive p freed => Sys2Proof.Machine.execCreditReceive p freed s
  | .creditSend p => Sys2Proof.Machine.execCreditSend p s
  | .rd r => Sys2Proof.Machine.execRd r s
  | .wr r => Sys2Proof.Machine.execWr r s
  | .aadd r => Sys2Proof.Machine.execAadd r s
  | .aswp r => Sys2Proof.Machine.execAswp r s
  | .bwr r => Sys2Proof.Machine.execBwr r s
  | .owr r => Sys2Proof.Machine.execOwr r s
  | .msg r => Sys2Proof.Machine.execMsg r s
  | .responseReceive opc src tag status payload => Sys2Proof.Machine.execResponseReceive opc src tag status payload s
  | .fabReqTimeout entry => Sys2Proof.Machine.execFabReqTimeout entry s
  | .requestEntryFree entry => Sys2Proof.Machine.execRequestEntryFree entry s
  | .orderPacketRelease stream dest => Sys2Proof.Machine.execOrderPacketRelease stream dest s
  | .cordReceive p hops src frame => Sys2Proof.Machine.execCordReceive p hops src frame s
  | .fabRouteQuery path value => Sys2Proof.Machine.execFabRouteQuery path value s
  | .hmkPresenceReset p seen => Sys2Proof.Machine.execHmkPresenceReset p seen s
  | .hmkCmd path value => Sys2Proof.Machine.execHmkCmd path value s
  | .hmkPeriodSearch => Sys2Proof.Machine.execHmkPeriodSearch s
  | .searchPass p seen tags => Sys2Proof.Machine.execSearchPass p seen tags s
  | .hmkRetryTimer p => Sys2Proof.Machine.execHmkRetryTimer p s
  | .ticketFetch ring => Sys2Proof.Machine.execTicketFetch ring s
  | .ticketStart ring => Sys2Proof.Machine.execTicketStart ring s
  | .ticketComplete ring idx stall contention => Sys2Proof.Machine.execTicketComplete ring idx stall contention s
  | .barrierTakeEffect ring => Sys2Proof.Machine.execBarrierTakeEffect ring s
  | .barrierRelease ring => Sys2Proof.Machine.execBarrierRelease ring s
  | .barrierLateReport die => Sys2Proof.Machine.execBarrierLateReport die s
  | .fenceComplete ring => Sys2Proof.Machine.execFenceComplete ring s
  | .collectiveFlagArrive ring idx => Sys2Proof.Machine.execCollectiveFlagArrive ring idx s
  | .waitExpired ring idx => Sys2Proof.Machine.execWaitExpired ring idx s
  | .tktDoorbell path ring value => Sys2Proof.Machine.execTktDoorbell path ring value s
  | .tktRingConfigWrite path off value => Sys2Proof.Machine.execTktRingConfigWrite path off value s
  | .tktAbort path ring => Sys2Proof.Machine.execTktAbort path ring s
  | .tktRestart path ring skip => Sys2Proof.Machine.execTktRestart path ring skip s
  | .hbmScrubPassStart stack => Sys2Proof.Machine.execHbmScrubPassStart stack s
  | .hbmScrubBurst stack => Sys2Proof.Machine.execHbmScrubBurst stack s
  | .scrubHoldoffEnd stack => Sys2Proof.Machine.execScrubHoldoffEnd stack s
  | .vellumScrubBurst => Sys2Proof.Machine.execVellumScrubBurst s
  | .memInject path value => Sys2Proof.Machine.execMemInject path value s
  | .pcieLinkUp flit rate width => Sys2Proof.Machine.execPcieLinkUp flit rate width s
  | .bar2Request r => Sys2Proof.Machine.execBar2Request r s
  | .bar2RequestResume => Sys2Proof.Machine.execBar2RequestResume s
  | .pcieBar2BaseWrite path value => Sys2Proof.Machine.execPcieBar2BaseWrite path value s
  | .barBadAccess write tag => Sys2Proof.Machine.execBarBadAccess write tag s
  | .bmeClear => Sys2Proof.Machine.execBmeClear s
  | .bmeSet => Sys2Proof.Machine.execBmeSet s
  | .d3hotEntry => Sys2Proof.Machine.execD3hotEntry s
  | .d0Return => Sys2Proof.Machine.execD0Return s
  | .pcieCompletionReceive tag status ep bytes => Sys2Proof.Machine.execPcieCompletionReceive tag status ep bytes s
  | .fencedTagFree tag => Sys2Proof.Machine.execFencedTagFree tag s
  | .pcieCompletionTimeout tag => Sys2Proof.Machine.execPcieCompletionTimeout tag s
  | .msixUnmask v entry => Sys2Proof.Machine.execMsixUnmask v entry s
  | .contextOpen path c value => Sys2Proof.Machine.execContextOpen path c value s
  | .contextClose path c value => Sys2Proof.Machine.execContextClose path c value s
  | .xfeContextWrite path off value => Sys2Proof.Machine.execXfeContextWrite path off value s
  | .xfeRateWrite path c value => Sys2Proof.Machine.execXfeRateWrite path c value s
  | .xfeDoorbell path c value => Sys2Proof.Machine.execXfeDoorbell path c value s
  | .descriptorFetch c => Sys2Proof.Machine.execDescriptorFetch c s
  | .descriptorStart c => Sys2Proof.Machine.execDescriptorStart c s
  | .xfeBurstIssue c => Sys2Proof.Machine.execXfeBurstIssue c s
  | .xfeBurstLand c => Sys2Proof.Machine.execXfeBurstLand c s
  | .descriptorComplete c => Sys2Proof.Machine.execDescriptorComplete c s
  | .xfeAbort path c => Sys2Proof.Machine.execXfeAbort path c s
  | .xfeRestart path c skip => Sys2Proof.Machine.execXfeRestart path c skip s
  | .flashLogWrite => Sys2Proof.Machine.execFlashLogWrite s
  | .flashLogErase => Sys2Proof.Machine.execFlashLogErase s
  | .eventCollect => Sys2Proof.Machine.execEventCollect s
  | .hbmLogBacklog => Sys2Proof.Machine.execHbmLogBacklog s
  | .evtFaultClear path value => Sys2Proof.Machine.execEvtFaultClear path value s
  | .telemetrySnapshot => Sys2Proof.Machine.execTelemetrySnapshot s
  | .setAddr space addr pec => Sys2Proof.Machine.execSetAddr space addr pec s
  | .smbRead n pec => Sys2Proof.Machine.execSmbRead n pec s
  | .smbWrite bytes pec => Sys2Proof.Machine.execSmbWrite bytes pec s
  | .smbStatus => Sys2Proof.Machine.execSmbStatus s
  | .alertPop => Sys2Proof.Machine.execAlertPop s
  | .clearErr pec => Sys2Proof.Machine.execClearErr pec s
  | .chipId => Sys2Proof.Machine.execChipId s
  | .alertResponse => Sys2Proof.Machine.execAlertResponse s
  | .alertReassert => Sys2Proof.Machine.execAlertReassert s
  | .smbusTimeout => Sys2Proof.Machine.execSmbusTimeout s
  | .fuseProgramChip path value => Sys2Proof.Machine.execFuseProgramChip path value s
  | .fuseProgramKeyHash path value => Sys2Proof.Machine.execFuseProgramKeyHash path value s
  | .fuseOpDone ok => Sys2Proof.Machine.execFuseOpDone ok s
  | .idcode => Sys2Proof.Machine.execIdcode s
  | .bypass => Sys2Proof.Machine.execBypass s
  | .samplePreload => Sys2Proof.Machine.execSamplePreload s
  | .extest => Sys2Proof.Machine.execExtest s
  | .jtagAccess space addr op data => Sys2Proof.Machine.execJtagAccess space addr op data s
  | .scribeStatusCmd unit => Sys2Proof.Machine.execScribeStatusCmd unit s
  | .scribeHalt unit => Sys2Proof.Machine.execScribeHalt unit s
  | .scribeResume unit => Sys2Proof.Machine.execScribeResume unit s
  | .scribeStep unit => Sys2Proof.Machine.execScribeStep unit s
  | .scribeReadCoreRegister unit reg => Sys2Proof.Machine.execScribeReadCoreRegister unit reg s
  | .scribeWriteCoreRegister unit reg value => Sys2Proof.Machine.execScribeWriteCoreRegister unit reg value s
  | .tapReset => Sys2Proof.Machine.execTapReset s
  | .pcieLinkDown => Sys2Proof.Machine.execPcieLinkDown s
  | .configurationRequest tag off value => Sys2Proof.Machine.execConfigurationRequest tag off value s
  | .functionReady => Sys2Proof.Machine.execFunctionReady s

end Sys2Proof.Machine
end

