-- ==== Sys2Proof/Machine/Tick.lean ====
section
/-! DEFINITION. One tick with no command waiting (log 1): time passes, and what the spec ties to the clock alone comes about. -/

namespace Sys2Proof.Machine

/-- Ticks of a second (04 R104). -/
def tickSecond : Nat := 1600000000

/-- A tick of the machine's clock with nothing commanded; while the power-on reset holds, CT stays 0 (04 R104). -/
def idleTick (s : State) : State :=
  if s.rst.por then s.uTicks (· + 1)
  else
    let s := ((contendTick s).uCt (· + 1)).uTicks (· + 1)
    let s := if s.now % 8000 = 0 then frameBegin (holdFrame s) else s
    let s := photonicsCheck (applyTick (repeats (lanesTick s)))
    settle (if s.ticks % tickSecond = 0 then lineSecond s else s)

/-- Take the command at the front of the queue off it. -/
def State.rest (s : State) (q : List Instr) : State := s.uPending fun _ => q

end Sys2Proof.Machine
end

