-- ==== Sys2Proof/Safety.lean ====
section
/-! DEFINITION. The terms the statements are made in: what holds of every state a run can reach, what a command leaves as it was, and
what a safe step is. -/

namespace Sys2Proof

open Sys2Proof.Machine

/-- The tables lie in their one canonical form: registers, HBM and Vellum with their check bits, flash, the latches of the access paths. -/
def Tables (s : State) : Prop :=
  smWf regReset s.regs = true ∧ Memory.wf ramD s.hbm = true ∧ Memory.wf ramD s.vel = true ∧ Memory.wf flashD s.flash = true
    ∧ smWf (fun _ => (0 : Byte)) s.hbmEcc = true ∧ smWf (fun _ => (0 : Byte)) s.velEcc = true ∧ smWf (fun _ => (0 : Word)) s.acc.latch = true

/-- Every byte of HBM, Vellum and flash reads as it did. -/
def SameMem (s t : State) : Prop :=
  (∀ a, smGet ramD t.hbm a = smGet ramD s.hbm a) ∧ (∀ a, smGet ramD t.vel a = smGet ramD s.vel a)
    ∧ ∀ a, smGet flashD t.flash a = smGet flashD s.flash a

/-- Every register but those listed holds what it held. -/
def RegsKept (os : List Nat) (s t : State) : Prop := ∀ o, o ∉ os → t.rd o = s.rd o

/-- An access on a path reaches the registers now: the path is open, and no earlier write of the host waits (22 R567). -/
def Reaches (p : Path) (s : State) : Prop := s.pathOpen p = true ∧ (p = .pcie → s.hostBlocked = false)

/-- What a path's NAME_HI latch holds (00 R20). -/
def latchOf (s : State) (p : Path) : Word := smGet (fun _ => (0 : Word)) s.acc.latch p.code

/-- The queue holds a record of an event. -/
def Raised (s : State) (code src : Nat) : Prop := ∃ r ∈ s.evt.queue, r.code = code ∧ r.src = src

/-- An event may be raised: its record is queued or merged, the queue of 1,024 having room (25 R626). -/
def RoomFor (s : State) : Prop := s.evt.queue.length < 1024

/-- A loop slot in which the law of its mode acts alone: no queued word, no relay, no seed or sweep due, no model check, no trace, and
no lane whose slips are counted (09 R242, R254; 10 R264, R269, R275, R284). -/
def LawAlone (s : State) (e l : Nat) : Prop :=
  engineRuns s e = true ∧ loopId e l ≠ 0xFFF ∧ (takeWord l (s.eng e).wq).1 = none ∧ (s.eng e).relay = none
    ∧ (s.lp e l).reseed = false ∧ rollSlot s e l = false ∧ s.bit (supOff e l 0) 2 = false ∧ trState s e = 0
    ∧ (isRing l = true → ∀ x ∈ (loopLane e l).toList, s.lane x.1 x.2.1 x.2.2 ≠ 3 ∧ s.lane x.1 x.2.1 x.2.2 ≠ 4)

/-- An order frame with a payload has been queued on the sideband in both directions (14 R370, 15 Table 15.2). -/
def Ordered (t : State) (payload : List Word) : Prop :=
  ∃ f, (f.drop 4).take payload.length = payload ∧ sbBuild 0x01 t.chip .east f ∈ t.sbE.queue ∧ sbBuild 0x01 t.chip .west f ∈ t.sbW.queue

/-- An output comes first, and after it only the blocks of the lanes that carry it (12 R319). -/
def Sends (s t : State) (o : Out) : Prop := ∃ rest, t.out = s.out ++ o :: rest ∧ ∀ x ∈ rest, ∃ p n c, x = .codeword p n c

/-- The target takes a request at once: the router runs, nothing else waits, and the answer leaves the package (17 R457, R460). -/
def TargetTakes (s : State) (r : SdfpReq) : Prop :=
  s.domUp 0xA4 = true ∧ s.pathOpen .sdfp = true ∧ s.fab.inbox = [] ∧ r.src.toNat ≠ s.chip

/-- The bytes of a memory. -/
def ramOf (s : State) : Ram → List Host.Cell
  | .hbm => s.hbm
  | .vel => s.vel

/-- A global address of n bytes lies in HBM or in Vellum, at a byte key, and its domain is ON (17 R447). -/
def Mapped (s : State) (a n : Nat) : Ram → Nat → Prop
  | .hbm, k => gaSpace a = 0 ∧ k = gaOff a ∧ k + n ≤ hbmSize ∧ ∀ j ∈ stacksAt k n, s.domUp (0x90 + j) = true
  | .vel, k => gaSpace a = 1 ∧ ∃ c, velKey (gaOff a) n = some (c, k) ∧ s.domUp (c / 2) = true

/-- The words that hold n bytes from a key have syndrome zero (21 R549). -/
def CleanWords (s : State) (m : Ram) (k n : Nat) : Prop := ∀ j, k / 8 ≤ j → j < (k + n + 7) / 8 → ramSyn s m j = 0

/-- A memory after a write of bytes from a key: these bytes there, every other byte as it was. -/
def WroteAt (s t : State) (m : Ram) (k : Nat) (bs : List Byte) : Prop :=
  ∀ x, smGet ramD (ramOf t m) x = if k ≤ x ∧ x < k + bs.length then bs.getD (x - k) 0 else smGet ramD (ramOf s m) x

/-- Byte address of a ticket's completion slot (20 R520). -/
def slotOf (s : State) (r idx : Nat) : Nat := s.rd64 (R.TKT_CQ_LO r) + 32 * (idx % 2 ^ ringLog s r)

/-- A completion slot lies in HBM, in words without errors, and no injection is armed. -/
def SlotClean (s : State) (r idx : Nat) : Prop :=
  slotOf s r idx + 32 ≤ hbmSize ∧ CleanWords s .hbm (slotOf s r idx) 32 ∧ s.bit R.MEM_INJECT 31 = false

/-- A started ticket has completed: its record stands in its slot and nothing else of HBM has changed, the completion is counted, and
the ticket runs no more (20 R537). -/
def Completed (s t : State) (r : Nat) (x : RunT) (f : Fin20) : Prop :=
  WroteAt s t .hbm (slotOf s r x.t.idx) (dwBytes (recordDws s r x f)) ∧ t.rd64 (R.GRV_DONE_LO r) = (s.rd64 (R.GRV_DONE_LO r) + 1) % 2 ^ 64
    ∧ t.fd (R.TKT_STATE r) 15 8 = f.status ∧ (∀ y ∈ (ringOf t r).run, y.t.idx ≠ x.t.idx)

/-- A started ticket's cycles are over, and a TICKET_COMPLETE reports the stall and contention cycles it has had (05 R147; 19 R501; 20 R537;
log 140). -/
def CyclesOver (s : State) (r : Nat) (x : RunT) (stall cont : Nat) : Prop :=
  64 * tktCycles s r x.t ≤ (accrued s r x).issued ∧ stall = stallOf (accrued s r x) ∧ cont = satN 0xFFFFFFFF x.cont
    ∧ x.tick + x.before + tktCycles s r x.t + stall + cont ≤ s.ticks

/-- The registers a completion without an error may change. -/
def doneRegs (r : Nat) : List Nat :=
  [R.GRV_DONE_LO r, R.GRV_DONE_LO r + 4, R.GRV_STALL_LO r, R.GRV_STALL_LO r + 4, R.GRV_WAIT_LO r, R.GRV_WAIT_LO r + 4, R.GRV_CONTEND r,
    R.PWR_GOV_STALL_G_LO (dieOf r), R.PWR_GOV_STALL_G_LO (dieOf r) + 4, R.TKT_STATE r, R.GRV_STATUS r, R.TKT_STATUS]

/-- Nothing keeps a stack's scrubber from its next burst (21 R555, R558). -/
def ScrubGoes (s : State) (i : Nat) : Prop :=
  (scrubAt s i).begun = true ∧ (scrubAt s i).hold = false ∧ s.domUp (0x90 + i) = true ∧ offPending s (0x90 + i) = false ∧ scrubPtr s i < 25165824

/-- The next burst of a stack's scrubber is due, and the stack is not behind (21 R555, R556). -/
def BurstDue (s : State) (i : Nat) : Prop := ScrubGoes s i ∧ s.bit R.MEM_STATUS (24 + i) = false ∧ scrubTarget s i = scrubPtr s i + 1

/-- A word lies in the eight units of a stack's next burst. -/
def InBurst (s : State) (i k : Nat) : Prop := k / 32 ∈ (List.range 8).map fun j => unitAt (scrubPtr s i) (8 * i + j)

/-- The status words of a descriptor's slot lie in HBM, in words without errors, and no injection is armed. -/
def DescSlot (s : State) (c idx : Nat) : Prop :=
  descAddr s c idx + 32 ≤ hbmSize ∧ s.hbmEcc = [] ∧ s.bit R.MEM_INJECT 31 = false

/-- What PERST_N and FLR clear of the host path: BAR2, the MSI-X table and pending messages, the latch and the held writes, and every
host-fed transfer ring is closed (03 R95, R96; 22 R574, R579). -/
def HostCleared (s t : State) : Prop :=
  t.rd R.PCIE_BAR2_BASE = 0 ∧ t.pcie.msix = [] ∧ t.pcie.pend = [] ∧ latchOf t .pcie = 0 ∧ (∀ lo, heldLo t .pcie lo = none)
    ∧ ∀ c, c < 4096 → hostRing s c = true → ctxKind t c = 0

/-- What a reset of the host side leaves alone: HBM, Vellum, flash, CT, the lanes and ports, the plates, the Scribes, the router's
registers and the top-level state (03 R95). -/
def FabricKept (s t : State) : Prop :=
  t.hbm = s.hbm ∧ t.vel = s.vel ∧ t.flash = s.flash ∧ t.ct = s.ct ∧ t.lnk = s.lnk ∧ t.plates = s.plates ∧ t.scr = s.scr
    ∧ t.rd R.GLB_STATE = s.rd R.GLB_STATE ∧ ∀ o, 0x600000 ≤ o → o < 0x700000 → t.rd o = s.rd o

/-- A command runs to a next state of which a property holds. -/
def Runs (c : Instr) (s : State) (post : State → Prop) : Prop := ∃ t, exec c s = .next t ∧ post t

end Sys2Proof
end

