-- ==== Sys2Proof/Certificates/Slice0/Obligations.lean ====
section
/-! DEFINITION. The statements about the model, in the terms of Safety.lean. -/

open Sys2Proof Sys2Proof.Machine

/-- A read of NAME_LO answers the lower half of the value at that instant and latches the upper half for its own path alone; a read of NAME_HI answers what that path latched. Neither changes a register or a memory. (R21) -/
def Obligations.PairReadLatchesPerPath : Prop :=
  (∀ p, latchOf State.reset p = 0)
  ∧ (∀ (s : State) (p : Path) (off : Nat) (r : RegRow), Reaches p s → p ≠ .sdfp → regRow off = some r → r.half = .lo →
      r.acc ≠ .wo → s.blockOn off = true →
      Runs (.nameLoRead p off) s fun t => t.out = s.out ++ [.read p [w32 (pairValue p off s)]]
        ∧ latchOf t p = w32 (pairValue p off s / 2 ^ 32) ∧ (∀ q, q.code ≠ p.code → latchOf t q = latchOf s q)
        ∧ t.regs = s.regs ∧ SameMem s t)
  ∧ ∀ (s : State) (p : Path) (off : Nat) (r : RegRow), Reaches p s → p ≠ .sdfp → regRow off = some r → r.half = .hi →
      r.acc ≠ .wo → s.blockOn off = true → exec (.nameHiRead p off) s = .next (s.emit (.read p [latchOf s p]))

/-- A write of NAME_LO that its pair takes changes no register and is held for its own path, in place of what that path held before; a write of NAME_HI commits both halves at one instant, or the new upper half alone where its path holds nothing, and the path holds nothing after it. (R22) -/
def Obligations.PairWriteCommitsAtOnce : Prop :=
  (∀ (s : State) (p : Path) (off : Nat) (v : Word) (r : RegRow), Reaches p s → p ≠ .sdfp → regRow off = some r → r.half = .lo →
      r.acc ≠ .ro → r.acc ≠ .rc → s.blockOn off = true → pairTakes p r off s = true →
      Runs (.nameLoWrite p off v) s fun t => t.regs = s.regs ∧ SameMem s t ∧ heldLo t p off = some v
        ∧ ∀ q lo, (q.code ≠ p.code ∨ lo ≠ off) → heldLo t q lo = heldLo s q lo)
  ∧ ∀ (s : State) (p : Path) (lo : Nat) (v : Word) (r : RegRow), Reaches p s → p ≠ .sdfp → regRow (lo + 4) = some r →
      r.half = .hi → r.acc ≠ .ro → r.acc ≠ .rc → s.blockOn (lo + 4) = true → pairTakes p r (lo + 4) s = true →
      Runs (.nameHiWrite p (lo + 4) v) s fun t => t.rd (lo + 4) = keptBits (lo + 4) v.toNat % 2 ^ 32
        ∧ t.rd lo = (match heldLo s p lo with
            | some w => keptBits lo w.toNat % 2 ^ 32
            | none => s.rd lo)
        ∧ heldLo t p lo = none ∧ RegsKept [lo, lo + 4] s t ∧ SameMem s t

/-- A register write of GLB_SCRATCH on any path that reaches the registers stores the value written, and has no other effect on the device. (R34) -/
def Obligations.ScratchHoldsWhatWasWritten : Prop :=
  ∀ (s : State) (p : Path) (v : Word), Reaches p s →
    Runs (.registerWrite p R.GLB_SCRATCH v) s fun t => t = s.wr R.GLB_SCRATCH v.toNat ∧ t.rd R.GLB_SCRATCH = v.toNat

/-- A register write of an RWL register after BOOT_LOCK is set, made where no rule of its block names the path, leaves every register but the count of dropped records and every memory unchanged, goes on without error and raises LOCKED_WRITE. (00_scope R18, 25_events R626) -/
def Obligations.LockedWriteIsDiscarded : Prop :=
  ∀ (s : State) (p : Path) (off : Nat) (v : Word) (r : RegRow), Reaches p s → regRow off = some r → r.acc = .rwl →
    r.half = .none → s.blockOn off = true → s.locked = true → ¬ ((isShare off ∨ isFeed off) ∧ hostLike p) →
    Runs (.registerWrite p off v) s fun t => RegsKept [R.EVT_DROP_CNT] s t ∧ SameMem s t ∧ t.out = s.out
      ∧ (RoomFor s → t.rd off = s.rd off ∧ Raised t Ev.LOCKED_WRITE 0)

/-- A read of two unmapped offsets answers zeros and completes, a write of an unmapped offset is discarded without error, and neither changes anything else. (R17) -/
def Obligations.UnmappedOffsetsAreInert : Prop :=
  (∀ (s : State) (p : Path) (off : Nat), Reaches p s → regRow off = none → regRow (off + 4) = none →
      exec (.twoDwordAccess p off none) s = .next (s.emit (.read p [0, 0])))
  ∧ (∀ (s : State) (p : Path) (off : Nat), Reaches p s → regRow off = none → exec (.rcRead p off) s = .next (s.emit (.read p [0])))
  ∧ ∀ (s : State) (p : Path) (off : Nat) (v : Word), Reaches p s → regRow off = none → exec (.registerWrite p off v) s = .next s

/-- A read of an RC register on a path other than SDFP answers the value it held, clears it to zero and changes no other register and no memory; over SDFP it clears nothing. (00_scope R16 Table 0.3, 17_sunduafen R448) -/
def Obligations.CounterReadClearsOnce : Prop :=
  ∀ (s : State) (p : Path) (off : Nat) (r : RegRow), Reaches p s → regRow off = some r → r.acc = .rc → r.half = .none →
    s.blockOn off = true →
    Runs (.rcRead p off) s fun t => t.out = s.out ++ [.read p [w32 (regValue p off s)]]
      ∧ t.rd off = (if p = .sdfp then s.rd off else 0) ∧ RegsKept [off] s t ∧ SameMem s t

/-- On the Scribe and JTAG paths an access that is not aligned is not carried out: a read answers zero, a write is discarded, no event is raised, and on JTAG the ACCESS register reports STATUS 4. (00_scope R693) -/
def Obligations.BadAccessIsNotCarriedOut : Prop :=
  ∀ (s : State) (p : Path) (w : Bool) (off : Nat) (v : Word), Reaches p s → p = .scribeA ∨ p = .scribeB ∨ p = .jtag →
    Runs (.badRegisterAccess p w off v) s fun t => t.out = s.out ++ (if w then [] else [.read p [0]]) ∧ t.regs = s.regs
      ∧ SameMem s t ∧ t.evt = s.evt ∧ (p = .jtag → t.mgmt.result.1 = 4)

/-- A two-dword access on a path other than SDFP does what a NAME_LO access followed by a NAME_HI access does: a write is the two writes, a read answers the two words the two reads answer. (R24) -/
def Obligations.TwoDwordAccessIsTwoAccesses : Prop :=
  (∀ (s : State) (p : Path) (off : Nat) (a b : Word), Reaches p s → p ≠ .sdfp → Reaches p (regWrite p off a s) →
      exec (.twoDwordAccess p off (some (a, b))) s
        = (match exec (.nameLoWrite p off a) s with
          | .next u => exec (.nameHiWrite p (off + 4) b) u
          | o => o))
  ∧ ∀ (s : State) (p : Path) (off : Nat), Reaches p s → p ≠ .sdfp → Runs (.twoDwordAccess p off none) s fun t =>
      ∃ a b u, exec (.nameLoRead p off) s = .next u ∧ u.out = s.out ++ [.read p [a]] ∧ t.out = s.out ++ [.read p [a, b]]
        ∧ b = w32 (regRead p (off + 4) (regRead p off s).2).1

/-- PWROK going low changes nothing but the pin until the low is confirmed. Confirmed, it puts the package in power-on reset: CT is cleared, HBM and Vellum lost, the fuses and the flash kept but for the bytes of a flash operation under way, RST_CAUSE reads 1, and one DEPART has left on each sideband direction that is up. PWROK rising ends the reset, samples the straps, and leaves CT at zero and the SMBus logic silent for 2 ms; after a low too short to be confirmed it changes nothing but the pin. (02_package R44, 02_package R73, 02_package R74, 03_clocks R95, 26_management R640) -/
def Obligations.PowerOnResetSamplesStraps : Prop :=
  (∀ s : State, exec .pwrokFall s = .next (s.uPins fun p => { p with pwrok := false }))
  ∧ (∀ s : State, s.pins.pwrok = false → Runs .powerLossConfirmed s fun t => t.rst.por = true ∧ t.ct = 0 ∧ t.hbm = [] ∧ t.vel = []
      ∧ (s.boot.flash = none → t.flash = s.flash)
      ∧ (∀ op, s.boot.flash = some op → ∀ a, a < (flashSpan op).1 ∨ (flashSpan op).1 + (flashSpan op).2 ≤ a →
          smGet flashD t.flash a = smGet flashD s.flash a)
      ∧ t.fuses = s.fuses ∧ t.rd R.RST_CAUSE = 1 ∧ t.top = 0
      ∧ ∀ d : Dir, (s.sb d).up = true → Out.sb d (sbBuild 0x04 s.chip d [w32 s.chip, w32 0]) ∈ t.out)
  ∧ (∀ (s : State) (c : Bool) (b : BitVec 2) (r : BitVec 6), s.rst.por = true → Runs (.pwrokRise c b r) s fun t =>
      t.rst.por = false ∧ t.pins.pwrok = true ∧ t.pins.cfgOpen = c ∧ t.pins.bootSel = b ∧ t.pins.rackSlot = r
        ∧ t.bit R.GLB_STATE 5 = c ∧ t.fd R.GLB_CHIP 21 16 = r.toNat ∧ t.fd R.BOOT_STATUS 25 24 = b.toNat ∧ t.ct = 0
        ∧ t.mgmt.live = s.ticks + 3200000 ∧ SameMem s t)
  ∧ ∀ (s : State) (c : Bool) (b : BitVec 2) (r : BitVec 6), s.rst.por = false →
      exec (.pwrokRise c b r) s = .next (s.uPins fun p => { p with pwrok := true })

/-- The root PLL locks to the rack reference and boot goes on to IMAGE. Loss of the selected reference brings holdover, counts the loss and raises REF_LOST. In holdover with ALT_EN the root switches to the other source where that is valid and raises REF_SWITCH; every 1,000 frames HOLDOVER is raised; with REVERT_EN it returns to the configured source it had left once that is valid. Ten milliseconds without lock assert FAULT_N. (03_clocks R77, 03_clocks R80, 03_clocks R81, 03_clocks R82, 03_clocks R83, 25_events R634) -/
def Obligations.RootClockFollowsItsReferences : Prop :=
  (∀ s : State, s.top = 0 → s.rst.chip = false → s.rst.por = false → RoomFor s → Runs .rootPllLock s fun t =>
      t.bit R.CLK_STATUS 0 = true ∧ t.fd R.CLK_STATUS 2 1 = 0 ∧ t.bit R.EVT_STATUS 30 = false ∧ t.top = 1
        ∧ t.rd R.AGREE_NONCE ≠ 0 ∧ Raised t Ev.RESET_RECORD 0 ∧ SameMem s t)
  ∧ (∀ s : State, s.rst.por = false → s.bit R.CLK_STATUS 0 = false → Runs .rootLockTimeout s fun t =>
      t.bit R.EVT_STATUS 30 = true ∧ t.bit R.EVT_STATUS 31 = true ∧ RegsKept [R.EVT_STATUS] s t ∧ SameMem s t)
  ∧ (∀ (s : State) (r : RefSrc), s.rst.por = false → s.fd R.CLK_STATUS 2 1 = srcCode r → RoomFor s → Runs (.refLost r) s fun t =>
      t.fd R.CLK_STATUS 2 1 = 2 ∧ t.rd R.CLK_HOLD_FRAMES = 0 ∧ Raised t Ev.REF_LOST (srcCode r)
        ∧ t.bit R.CLK_STATUS (4 + srcCode r) = false
        ∧ t.fd R.CLK_LOSS_CNT (15 + 16 * srcCode r) (16 * srcCode r)
          = min 0xFFFF (s.fd R.CLK_LOSS_CNT (15 + 16 * srcCode r) (16 * srcCode r) + 1)
        ∧ RegsKept [R.CLK_STATUS, R.CLK_LOSS_CNT, R.CLK_HOLD_FRAMES] s t ∧ SameMem s t)
  ∧ (∀ (s : State) (rk lk : Bool), s.rst.por = false → s.fd R.CLK_STATUS 2 1 = 2 → s.bit R.CLK_REF_CFG 8 = true →
      s.clk.lost = 1 ∧ rk = true ∨ s.clk.lost = 0 ∧ lk = true ∧ s.clk.lane.isSome = true → RoomFor s →
      Runs (.refSwitch rk lk) s fun t => t.fd R.CLK_STATUS 2 1 = 1 - s.clk.lost ∧ Raised t Ev.REF_SWITCH (1 - s.clk.lost)
        ∧ RegsKept [R.CLK_STATUS, R.CLK_HOLD_FRAMES] s t ∧ SameMem s t)
  ∧ (∀ s : State, s.fd R.CLK_STATUS 2 1 = 2 → RoomFor s → Runs .holdover s fun t =>
      t.rd R.CLK_HOLD_FRAMES = min 0xFFFFFFFF (max (s.rd R.CLK_HOLD_FRAMES) (1000 * (s.clk.said + 1))) ∧ Raised t Ev.HOLDOVER 0
        ∧ RegsKept [R.CLK_HOLD_FRAMES] s t ∧ SameMem s t)
  ∧ ∀ (s : State) (rk lk : Bool), s.rst.por = false → s.bit R.CLK_REF_CFG 9 = true → s.clk.away = true →
      refConfigured s = 0 ∧ rk = true ∨ refConfigured s = 1 ∧ lk = true ∧ s.clk.lane.isSome = true → RoomFor s →
      Runs (.refRevert rk lk) s fun t =>
        t.fd R.CLK_STATUS 2 1 = refConfigured s ∧ t.clk.away = false ∧ Raised t Ev.REF_SWITCH (refConfigured s)
        ∧ RegsKept [R.CLK_STATUS, R.CLK_HOLD_FRAMES] s t ∧ SameMem s t

/-- A receiver gains block lock at its 64th valid sync header in a row and loses it at the 16th invalid one among 64, which takes the segment down. The 16th locked TRAIN block in a row with the opposite DIR brings a segment under block lock up; a TRAIN block with its own DIR keeps it down and raises SB_MISWIRE. An up segment sends a message of its own that was cut short again, and else its oldest waiting message; a down one sends none. (02_package R60, 02_package R61, 02_package R62, 02_package R65) -/
def Obligations.SidebandSegmentsTrain : Prop :=
  (∀ (s : State) (d : Dir) (b : SbBlk), s.domUp 0xA7 = true → (s.sb d).lock = false → (s.sb d).run = 63 →
      sbValid (s.sb d).scr b = true → Runs (.sbBlockLock d b) s fun t =>
      (t.sb d).lock = true ∧ (t.sb d).up = (s.sb d).up ∧ t.sb (dirFlip d) = s.sb (dirFlip d) ∧ t.regs = s.regs ∧ SameMem s t)
  ∧ (∀ (s : State) (d : Dir) (b : SbBlk), s.domUp 0xA7 = true → (s.sb d).lock = true → sbValid (s.sb d).scr b = false →
      16 ≤ ((false :: (s.sb d).hdrs).take 64).count false → Runs (.sbBlockLock d b) s fun t => (t.sb d).lock = false ∧ (t.sb d).up = false ∧ (t.sb d).queue = (s.sb d).queue
        ∧ t.sb (dirFlip d) = s.sb (dirFlip d) ∧ t.regs = s.regs ∧ SameMem s t)
  ∧ (∀ (s : State) (d : Dir), s.domUp 0xA7 = true → (s.sb d).lock = true → (s.sb d).trainRun = 15 → Runs (.sbTrainReceive d (dirFlip d) true) s fun t =>
      (t.sb d).up = true ∧ t.regs = s.regs ∧ SameMem s t)
  ∧ (∀ (s : State) (d : Dir) (l : Bool), s.domUp 0xA7 = true → (s.sb d).lock = true → RoomFor s → Runs (.sbTrainReceive d d l) s fun t =>
      (t.sb d).up = false ∧ Raised t Ev.SB_MISWIRE (dirCode d) ∧ t.regs = s.regs ∧ SameMem s t)
  ∧ (∀ (s : State) (d : Dir) (m : SbMsg) (q : List SbMsg), s.domUp 0xA7 = true → (s.sb d).queue = m :: q → (s.sb d).again = [] →
      (s.sb d).up = true → Runs (.sbMessageSend d) s fun t => t.out = s.out ++ [.sb d m] ∧ (t.sb d).queue = q
        ∧ (t.sb d).sending = some m ∧ t.regs = s.regs ∧ SameMem s t)
  ∧ (∀ (s : State) (d : Dir) (a : SbMsg) (as : List SbMsg), s.domUp 0xA7 = true → (s.sb d).queue = [] → (s.sb d).again = a :: as →
      (s.sb d).up = true → Runs (.sbMessageSend d) s fun t => t.out = s.out ++ [.sb d a] ∧ (t.sb d).again = as
        ∧ (t.sb d).sending = some a ∧ t.regs = s.regs ∧ SameMem s t)
  ∧ ∀ (s : State) (d : Dir) (m : SbMsg) (q : List SbMsg), (s.sb d).queue = m :: q → (s.sb d).up = false →
      exec (.sbMessageSend d) s = .next s

/-- A message that the package originated in its direction of travel is removed: nothing changes. Any other is forwarded in its direction of travel where its next segment is up and dropped there where it is down. A message that is not whole or whose CRC fails is forwarded unchanged, with an ABORT after it where one ended it, and counted in CL_STALE_CNT; a whole DEPART removes its chip from those heard. (02_package R59, 02_package R63, 02_package R64, 15_scribes R415) -/
def Obligations.SidebandMessagesTravelOn : Prop :=
  (∀ (s : State) (d : Dir) (m : SbMsg) (h : SbEnd) (o : Bool), (s.sb (dirFlip d)).up = true →
      m.origin.toNat = s.chip → m.dir = d → exec (.sbMessageReceive d m h o) s = .next s)
  ∧ (∀ (s : State) (d : Dir) (m : SbMsg) (h : SbEnd), (s.sb (dirFlip d)).up = true → s.domUp 0xA7 = true →
      ¬ (m.origin.toNat = s.chip ∧ m.dir = d) → h ≠ .whole ∨ sbGood m = false → Runs (.sbMessageReceive d m h false) s fun t =>
        t.out = s.out ++ (if (s.sb d).up then .sb d m :: (if h = .aborted then [.sbAbort d] else []) else []) ∧ t.rd R.CL_STALE_CNT = min 0xFFFFFFFF (s.rd R.CL_STALE_CNT + 1)
          ∧ RegsKept [R.CL_STALE_CNT] s t ∧ SameMem s t)
  ∧ ∀ (s : State) (d : Dir) (m : SbMsg), (s.sb (dirFlip d)).up = true → s.domUp 0xA7 = true →
      ¬ (m.origin.toNat = s.chip ∧ m.dir = d) → sbGood m = true → m.mtype = 4 → Runs (.sbMessageReceive d m .whole false) s fun t =>
        t.out = s.out ++ (if (s.sb d).up then [.sb d m] else [])
          ∧ t.cl.heard = smErase s.cl.heard (pkW (sbBody m) 0 % 16384) ∧ RegsKept [R.CL_REACH] s t ∧ SameMem s t

/-- A write of the key to RST_CHIP from SMBus, JTAG or a Scribe starts a chip reset: its cause bit is set and counted, HBM, flash, fuses, straps and CT are kept, Vellum and READY are lost. Released with the root locked, boot restarts at IMAGE. Loss of root lock does the same with cause ROOT_UNLOCK. Any other value is ignored, and on PCI Express the write is denied. A domain reset of a domain that is ON holds it until its release; one on PCI Express is denied. (03_clocks R84, 03_clocks R93, 03_clocks R94, 03_clocks R95, 03_clocks R97, 03_clocks R102) -/
def Obligations.ResetsReachTheirScope : Prop :=
  (∀ (s : State) (p : Path), Reaches p s → p = .smbus ∨ p = .jtag ∨ p = .scribeA ∨ p = .scribeB →
      Runs (.rstChip p 0xA5C3) s fun t => t.rst.chip = true ∧ t.bit R.RST_CAUSE (causeBit p) = true ∧ t.top = 0 ∧ t.hbm = s.hbm
        ∧ t.vel = [] ∧ t.flash = s.flash ∧ t.fuses = s.fuses ∧ t.pins.cfgOpen = s.pins.cfgOpen ∧ t.ct = s.ct
        ∧ t.rd R.RST_CHIP_CNT = min 0xFFFFFFFF (s.rd R.RST_CHIP_CNT + 1) ∧ t.rd R.GLB_SCRATCH = 0)
  ∧ (∀ (s : State) (p : Path) (v : Word), Reaches p s → hostLike p = false → v ≠ 0xA5C3 → exec (.rstChip p v) s = .next s)
  ∧ (∀ (s : State) (v : Word), Reaches .pcie s → RoomFor s → Runs (.rstChip .pcie v) s fun t =>
      t.rst = s.rst ∧ Raised t Ev.RST_DENIED 0 ∧ t.rd R.RST_DENY_CNT = min 0xFFFFFFFF (s.rd R.RST_DENY_CNT + 1)
        ∧ RegsKept [R.RST_DENY_CNT] s t ∧ SameMem s t)
  ∧ (∀ s : State, s.rst.chip = false → s.rst.por = false → Runs .rootUnlock s fun t =>
      t.rst.chip = true ∧ t.bit R.RST_CAUSE 4 = true ∧ t.hbm = s.hbm ∧ t.ct = s.ct)
  ∧ (∀ s : State, s.rst.chip = true → s.mgmt.ir ≠ 3 → s.bit R.CLK_STATUS 0 = true → Runs .chipResetRelease s fun t =>
      t.rst.chip = false ∧ t.top = 1 ∧ SameMem s t)
  ∧ (∀ (s : State) (p : Path) (d : Byte), Reaches p s → hostLike p = false → d.toNat = 0xA4 → s.dom 0xA4 = 2 →
      s.rst.doms.contains 0xA4 = false → Runs (.rstDomain p (d.setWidth 32)) s fun t =>
        t.rst.doms = s.rst.doms ++ [0xA4] ∧ t.bit R.RST_BUSY 0 = true ∧ t.fab.inbox = [] ∧ RegsKept [R.RST_BUSY] s t ∧ SameMem s t)
  ∧ (∀ (s : State) (v : Word), Reaches .pcie s → RoomFor s → Runs (.rstDomain .pcie v) s fun t =>
      t.rst = s.rst ∧ Raised t Ev.RST_DENIED 0 ∧ RegsKept [R.RST_DENY_CNT] s t ∧ SameMem s t)
  ∧ (∀ (s : State) (h : (0xA4 : Nat) < 168), s.rst.doms = [0xA4] → s.pwr.waiting = [] →
      Runs (.domainResetRelease ⟨0xA4, h⟩) s fun t =>
        t.rst.doms = [] ∧ t.bit R.RST_BUSY 0 = false ∧ RegsKept [R.RST_BUSY] s t ∧ SameMem s t)
  ∧ (∀ (s : State) (p : Path), Reaches p s → hostLike p = false → Runs (.rstBlock p 0x20) s fun t =>
      t.rd R.EVT_HBM_WR = 0 ∧ t.rd R.EVT_HBM_RD = 0 ∧ RegsKept [R.EVT_HBM_WR, R.EVT_HBM_RD] s t ∧ SameMem s t)
  ∧ ∀ (s : State) (v : Word), Reaches .pcie s → RoomFor s → v.toNat % 256 ≠ 0x21 → v.toNat % 256 ≠ 0x22 →
      Runs (.rstBlock .pcie v) s fun t => Raised t Ev.RST_DENIED 0 ∧ RegsKept [R.RST_DENY_CNT] s t ∧ SameMem s t

/-- PERST_N asserted and a Function Level Reset are counted, clear BAR2, the MSI-X table and the host path's latch and held writes, close every host-fed transfer ring, and leave HBM, flash, the Vellum, CT, the lanes, the plates, the Scribes, the router's registers and the top-level state as they were. Released, the function answers with Request Retry Status until it is ready; an FLR shows FLR_BUSY until it completes and is then counted in PCIE_FLR_CNT. (01_the_lx16 R28, 03_clocks R93, 03_clocks R95, 22_pcie R573, 22_pcie R584) -/
def Obligations.HostResetsKeepTheFabricSide : Prop :=
  (∀ s : State, s.pins.perstHigh = true → Runs .perstNAssert s fun t =>
      t.pins.perstHigh = false ∧ t.bit R.RST_BUSY 3 = true ∧ t.rd R.RST_PERST_CNT = min 0xFFFFFFFF (s.rd R.RST_PERST_CNT + 1)
        ∧ HostCleared s t ∧ FabricKept s t)
  ∧ (∀ s : State, s.pins.perstHigh = false → functionPowered s = true → Runs .perstNRelease s fun t =>
      t.pins.perstHigh = true ∧ t.boot.rrs = true ∧ t.bit R.RST_BUSY 3 = false ∧ t.bit R.CLK_STATUS 16 = true
        ∧ RegsKept [R.RST_BUSY, R.CLK_STATUS] s t ∧ SameMem s t)
  ∧ (∀ s : State, s.pins.perstHigh = true → s.bit R.PCIE_STATUS 3 = false → functionPowered s = true →
      Runs .functionLevelReset s fun t => t.bit R.PCIE_STATUS 3 = true ∧ t.bit R.RST_BUSY 2 = true ∧ t.pcie.np = []
        ∧ t.rd R.RST_FLR_CNT = min 0xFFFFFFFF (s.rd R.RST_FLR_CNT + 1) ∧ HostCleared s t ∧ FabricKept s t)
  ∧ ∀ s : State, s.bit R.PCIE_STATUS 3 = true → Runs .flrComplete s fun t =>
      t.bit R.PCIE_STATUS 3 = false ∧ t.bit R.RST_BUSY 2 = false ∧ t.rd R.PCIE_FLR_CNT = min 0xFFFFFFFF (s.rd R.PCIE_FLR_CNT + 1)
        ∧ RegsKept [R.PCIE_STATUS, R.RST_BUSY, R.PCIE_FLR_CNT] s t ∧ SameMem s t

/-- Where a step is pending, its application moves CT by the signed number of ticks, records it in TIME_LAST_STEP, counts it, raises TIME_STEP and leaves the count of elapsed ticks and every memory as they were; with none pending nothing changes. A VHTR_SENSE sample inside 2.8 to 3.8 V is used as it is, one outside is replaced by 3.3 V, and VHTR_SENSE_RANGE is raised where the reading has left or entered that range. (03_clocks R88, 04_cluster_time R121, 02_package R53) -/
def Obligations.StepMovesClusterTime : Prop :=
  (∀ (s : State) (d : Int), s.time.pending = some d → RoomFor s → Runs .stepCorrectionApply s fun t =>
      t.ct = BitVec.ofInt 64 ((s.ct.toNat : Int) + d) ∧ t.ticks = s.ticks ∧ t.time.pending = none ∧ SameMem s t
        ∧ t.rd64 R.TIME_LAST_STEP_LO = wrapN 64 d ∧ t.rd R.TIME_STEP_CNT = min 0xFFFFFFFF (s.rd R.TIME_STEP_CNT + 1)
        ∧ Raised t Ev.TIME_STEP 0)
  ∧ (∀ s : State, s.time.pending = none → exec .stepCorrectionApply s = .next s)
  ∧ ∀ (s : State) (mv : Nat), s.rst.por = false → RoomFor s → Runs (.vhtrSenseSample mv) s fun t =>
      t.pins.vhtr = (if 2800 ≤ mv ∧ mv ≤ 3800 then mv else 3300) ∧ (t.pins.vhtrOut = true ↔ mv < 2800 ∨ 3800 < mv)
        ∧ (t.pins.vhtrOut ≠ s.pins.vhtrOut → Raised t Ev.VHTR_SENSE_RANGE 0) ∧ t.regs = s.regs ∧ SameMem s t

/-- A disciplined member sends TIME_REQ with t1 to its parent; a parent answers with t1 echoed, t2 and t3. The child computes offset and delay in 1/16 tick, corrects for the asymmetry, and in TRACK trims the root clock by the servo. An exchange whose parent is FREE, ACQUIRE or UNSYNCED, or that has no response, is counted in TIME_XCHG_DROP and changes no other register; a response without an exchange changes nothing, and one to an exchange already discarded is not counted again. (04_cluster R114, 04_cluster R115, 04_cluster R116, 04_cluster R117, 04_cluster R118, 04_cluster R132) -/
def Obligations.TimeExchangeMeasuresOffsetAndDelay : Prop :=
  (∀ (s : State) (p : Nat) (t1 : FineStamp), s.tst = 2 → s.time.cur = 0 → candUsable s 0 = true → candPort s 0 = some p →
      s.fd R.TIME_STATUS 7 4 = p → Runs (.timeReqSend t1) s fun t =>
        t.out = s.out ++ [.port p 5 [w32 s.time.seq, w32 (t1.ct.toNat / 2 ^ 32), w32 (t1.ct.toNat % 2 ^ 32), w32 t1.frac.toNat]]
          ∧ t.time.out = s.time.out ++ [⟨s.time.seq, p, t1, s.ticks⟩] ∧ t.time.seq = (s.time.seq + 1) % 65536 ∧ t.regs = s.regs ∧ SameMem s t)
  ∧ (∀ (s : State) (p : Fin 16) (q : BitVec 16) (t1 t2 t3 : FineStamp), Runs (.timeReqReceive p q t1 t2 t3) s fun t =>
      t = s.emit (.port p.val 5 [w32 (s.tst * 2 ^ 29 + s.fd R.TIME_STATUS 12 8 * 2 ^ 24 + q.toNat), w32 (rootChip s),
        w32 (t1.ct.toNat / 2 ^ 32), w32 (t1.ct.toNat % 2 ^ 32), w32 (t2.ct.toNat / 2 ^ 32), w32 (t2.ct.toNat % 2 ^ 32),
        w32 (t3.ct.toNat / 2 ^ 32), w32 (t3.ct.toNat % 2 ^ 32), w32 (t3.frac.toNat * 256 + t2.frac.toNat * 16 + t1.frac.toNat)]))
  ∧ (∀ (s : State) (p : Fin 16) (r : TimeRsp) (t4 : FineStamp) (x : Xchg) (xs : List Xchg), s.time.out = x :: xs → x.port = p.val →
      x.seq = r.seq.toNat → s.time.gone.contains r.seq.toNat = false → r.root.toNat = s.fd R.CL_CFG 13 0 → r.state = 2 → s.time.seeded < 16 → s.tst = 2 →
      s.time.pending = none → s.time.landed ≤ x.tick →
      Runs (.timeRspReceive p r t4) s fun t =>
        let th := tdivI (fine r.t2 - fine x.t1 - (fine t4 - fine r.t3) - portAsym s p.val) 2
        let facc := clampI (-200000) 200000 (s.time.facc + th * s.fd R.TIME_SERVO_CFG 15 8)
        let want := clampI (-200000) 200000 (facc + th * s.fd R.TIME_SERVO_CFG 7 0)
        let last := sgn 32 (s.rd R.CLK_ROOT_TRIM)
        let slew : Int := s.fd R.TIME_SERVO_CFG 23 16 * 1000
        t.rd R.TIME_OFFSET = wrapN 32 (clampI (-2147483648) 2147483647 th)
          ∧ t.rd R.CLK_ROOT_TRIM = wrapN 32 (last + clampI (-slew) slew (want - last))
          ∧ t.time.delays.head? = some (tdivI (fine r.t2 - fine x.t1 + (fine t4 - fine r.t3)) 2) ∧ t.time.facc = facc
          ∧ t.fd R.TIME_STATUS 29 16 = r.root.toNat ∧ t.tst = 2 ∧ t.ct = s.ct
          ∧ RegsKept [R.TIME_OFFSET, R.TIME_DELAY, R.TIME_STATUS, R.CLK_ROOT_TRIM] s t ∧ SameMem s t)
  ∧ (∀ (s : State) (p : Fin 16) (r : TimeRsp) (t4 : FineStamp) (x : Xchg) (xs : List Xchg), s.time.out = x :: xs →
      x.seq = r.seq.toNat → s.time.gone.contains r.seq.toNat = false → r.state = 0 ∨ r.state = 1 ∨ r.state = 4 → (candAt s s.time.cur).discards < 7 → Runs (.timeRspReceive p r t4) s fun t =>
        t.rd R.TIME_XCHG_DROP = min 0xFFFFFFFF (s.rd R.TIME_XCHG_DROP + 1) ∧ t.time.out = (x :: xs).filter (· != x)
          ∧ RegsKept [R.TIME_XCHG_DROP] s t ∧ SameMem s t)
  ∧ (∀ (s : State) (p : Fin 16) (r : TimeRsp) (t4 : FineStamp), s.time.out = [] → s.time.gone.contains r.seq.toNat = false →
      exec (.timeRspReceive p r t4) s = .next s)
  ∧ (∀ (s : State) (p : Fin 16) (r : TimeRsp) (t4 : FineStamp), s.time.gone.contains r.seq.toNat = true →
      Runs (.timeRspReceive p r t4) s fun t => t.time.out = s.time.out ∧ t.regs = s.regs ∧ t.out = s.out ∧ SameMem s t)
  ∧ ∀ (s : State) (x : Xchg) (xs : List Xchg), s.time.out = x :: xs → (candAt s s.time.cur).discards < 7 → Runs .timeXchgTimeout s fun t =>
      t.rd R.TIME_XCHG_DROP = min 0xFFFFFFFF (s.rd R.TIME_XCHG_DROP + 1) ∧ t.time.out = xs
        ∧ RegsKept [R.TIME_XCHG_DROP] s t ∧ SameMem s t

/-- A candidate passed over is usable again once reinstated, its port carrying. A member in ACQUIRE, TRACK or HOLD whose attempt timer runs out becomes UNSYNCED, sets GLB_STATE.UNSYNCED and raises TIME_UNSYNCED. GO starts one PTM dialogue while PTM is enabled and is discarded with PTM_DISABLED otherwise; AUTO starts one too. A response stores the pair and sets VALID alone; a dialogue that times out stores none. (04_cluster R125, 04_cluster R127, 04_cluster R130, 04_cluster R131, 22_pcie R587) -/
def Obligations.TimeStatesAndPtmPairs : Prop :=
  (∀ (s : State) (c : Fin 3) (p : Nat), candPort s c.val = some p → portCarries s p = true →
      Runs (.parentCandidateReinstate c) s fun t => candUsable t c.val = true ∧ (candAt t c.val).discards = 0
        ∧ t.regs = s.regs ∧ SameMem s t)
  ∧ (∀ s : State, s.tst = 1 ∨ s.tst = 2 ∨ s.tst = 3 → RoomFor s → Runs .timeUnsynced s fun t =>
      t.tst = 4 ∧ t.bit R.GLB_STATE 8 = true ∧ t.top = s.top ∧ Raised t Ev.TIME_UNSYNCED 0
        ∧ RegsKept [R.TIME_STATUS, R.GLB_STATE] s t ∧ SameMem s t)
  ∧ (∀ (s : State) (p : Path) (v : Word), Reaches p s → s.pcie.ptmEn = true → s.bit R.TIME_PTM_STATUS 2 = false →
      Runs (.timePtmGo p v) s fun t => t.bit R.TIME_PTM_STATUS 2 = bitOf v.toNat 0
        ∧ t.out = s.out ++ (if bitOf v.toNat 0 then [.ptm] else []) ∧ t.rd R.TIME_PTM_CTL = fieldOf v.toNat 15 8 * 256
        ∧ RegsKept [R.TIME_PTM_CTL, R.TIME_PTM_STATUS] s t ∧ SameMem s t)
  ∧ (∀ (s : State) (p : Path) (v : Word), Reaches p s → s.pcie.ptmEn = false → bitOf v.toNat 0 = true → RoomFor s →
      Runs (.timePtmGo p v) s fun t => Raised t Ev.PTM_DISABLED 0 ∧ t.out = s.out ∧ t.rd R.TIME_PTM_STATUS = s.rd R.TIME_PTM_STATUS
        ∧ RegsKept [R.TIME_PTM_CTL] s t ∧ SameMem s t)
  ∧ (∀ s : State, s.fd R.TIME_PTM_CTL 15 8 ≠ 0 → s.pcie.ptmEn = true → s.bit R.TIME_PTM_STATUS 2 = false →
      Runs .ptmAutoTrigger s fun t => t.bit R.TIME_PTM_STATUS 2 = true ∧ t.out = s.out ++ [.ptm]
        ∧ RegsKept [R.TIME_PTM_STATUS] s t ∧ SameMem s t)
  ∧ (∀ (s : State) (c h : Word64), s.bit R.TIME_PTM_STATUS 2 = true → Runs (.ptmResponse c h) s fun t =>
      t.rd64 R.TIME_PTM_CT_LO = c.toNat ∧ t.rd64 R.TIME_PTM_HOST_LO = h.toNat ∧ t.rd R.TIME_PTM_STATUS = 1
        ∧ RegsKept [R.TIME_PTM_CT_LO, R.TIME_PTM_CT_LO + 4, R.TIME_PTM_HOST_LO, R.TIME_PTM_HOST_LO + 4, R.TIME_PTM_STATUS] s t
        ∧ SameMem s t)
  ∧ ∀ s : State, s.bit R.TIME_PTM_STATUS 2 = true → RoomFor s → Runs .ptmTimeout s fun t =>
      t.bit R.TIME_PTM_STATUS 2 = false ∧ Raised t Ev.PTM_TIMEOUT 0 ∧ t.rd64 R.TIME_PTM_CT_LO = s.rd64 R.TIME_PTM_CT_LO
        ∧ RegsKept [R.TIME_PTM_STATUS] s t ∧ SameMem s t

/-- A request from PCI Express or SDFP is denied and an invalid one answers RESULT 4: neither changes a domain. ON of an OFF domain queues it for its rail; OFF of a domain in use is refused with RESULT 2 and PWR_REFUSED; OFF of one not in use begins to power it down; AUTO is kept for a Graver pair. The lowest waiting domain of a rail starts to wake, reaches ON, and a woken pair reads zero Vellum; a sleeping domain reaches OFF. (05_power R134, 05_power R136, 05_power R137, 05_power R138, 05_power R139) -/
def Obligations.PowerRequestsDenyRefuseAndRun : Prop :=
  (∀ (s : State) (p : Path) (d : Byte) (c : Instr), Reaches p s → RoomFor s → hostLike p = true →
      c ∈ [Instr.pwrDomOn p d, .pwrDomOff p d, .pwrDomAuto p d] → Runs c s fun t =>
        Raised t Ev.PWR_DENIED 0 ∧ t.rd R.PWR_DOM_RESULT = 768 + d.toNat ∧ t.pwr = s.pwr ∧ RegsKept [R.PWR_DOM_RESULT] s t ∧ SameMem s t)
  ∧ (∀ (s : State) (p : Path) (d : Byte) (c : Instr), Reaches p s → hostLike p = false →
      (0xA8 ≤ d.toNat ∧ c ∈ [Instr.pwrDomOn p d, .pwrDomOff p d, .pwrDomAuto p d]) ∨ (0x80 ≤ d.toNat ∧ c = .pwrDomAuto p d) →
      Runs c s fun t => t.rd R.PWR_DOM_RESULT = 1024 + d.toNat ∧ t.pwr = s.pwr ∧ t.evt = s.evt ∧ RegsKept [R.PWR_DOM_RESULT] s t ∧ SameMem s t)
  ∧ (∀ (s : State) (p : Path) (d : Byte), Reaches p s → hostLike p = false → d.toNat < 0xA8 → s.dom d.toNat = 0 →
      s.rst.doms.contains d.toNat = false → Runs (.pwrDomOn p d) s fun t =>
        d.toNat ∈ t.pwr.upQ ∧ t.rd R.PWR_DOM_RESULT = 256 + d.toNat ∧ RegsKept [R.PWR_DOM_RESULT] s t ∧ SameMem s t)
  ∧ (∀ (s : State) (p : Path) (d : Byte), Reaches p s → hostLike p = false → d.toNat < 0xA8 → s.dom d.toNat = 2 →
      s.rst.doms.contains d.toNat = false → domInUse s d.toNat = true → RoomFor s → Runs (.pwrDomOff p d) s fun t =>
        t.rd R.PWR_DOM_RESULT = 512 + d.toNat ∧ Raised t Ev.PWR_REFUSED d.toNat ∧ t.pwr = s.pwr
          ∧ RegsKept [R.PWR_DOM_RESULT] s t ∧ SameMem s t)
  ∧ (∀ (s : State) (p : Path) (d : Byte), Reaches p s → hostLike p = false → d.toNat < 0xA8 → s.dom d.toNat = 2 →
      s.rst.doms.contains d.toNat = false → domInUse s d.toNat = false → Runs (.pwrDomOff p d) s fun t =>
        t.dom d.toNat = 3 ∧ t.rd R.PWR_DOM_RESULT = 256 + d.toNat ∧ SameMem s t)
  ∧ (∀ (s : State) (p : Path) (d : Byte), Reaches p s → hostLike p = false → d.toNat < 0x80 → s.dom d.toNat = 2 →
      s.rst.doms.contains d.toNat = false → Runs (.pwrDomAuto p d) s fun t =>
        d.toNat ∈ t.pwr.auto ∧ t.rd R.PWR_DOM_RESULT = d.toNat ∧ RegsKept [R.PWR_DOM_RESULT] s t ∧ SameMem s t)
  ∧ (∀ (s : State) (d : Nat), d < 168 → d ∈ s.pwr.upQ → s.dom d = 0 → s.rst.doms.contains d = false →
      (∀ e < d, e ∈ s.pwr.upQ → railOf e = railOf d → s.dom e = 0 → e ∈ s.rst.doms) → Runs (.powerUpStart (railOf d)) s fun t =>
        t.dom d = 1 ∧ d ∉ t.pwr.upQ ∧ t.fd R.PWR_STATUS 7 0 = ((List.range 168).filter fun e => t.dom e == 1).length
          ∧ RegsKept [0x30100 + 4 * (d / 16), R.PWR_STATUS] s t ∧ SameMem s t)
  ∧ (∀ (s : State) (d : Fin 168), d.val < 0x80 ∨ d.val = 0xA3 ∨ d.val = 0xA4 → s.dom d.val = 1 → s.pwr.waiting = [] →
      Runs (.domainWakeDone d) s fun t => t.dom d.val = 2 ∧ t.hbm = s.hbm ∧ t.flash = s.flash
        ∧ (s.rd R.PWR_DOM_RESULT = 256 + d.val → t.rd R.PWR_DOM_RESULT = d.val)
        ∧ (d.val < 0x80 → ∀ a, 2 ^ 22 * d.val ≤ a → a < 2 ^ 22 * (d.val + 1) → smGet ramD t.vel a = 0))
  ∧ (∀ (s : State) (d : Fin 168), s.dom d.val = 1 → s.pwr.waiting = [] → Runs (.domainWakeDone d) s fun t =>
      t.dom d.val = 2 ∧ (s.rd R.PWR_DOM_RESULT = 256 + d.val → t.rd R.PWR_DOM_RESULT = d.val))
  ∧ (∀ (s : State) (d : Fin 168), s.dom d.val = 3 → s.pwr.waiting = [] → s.pwr.auto.contains d.val = false →
      Runs (.domainSleepDone d) s fun t => t.dom d.val = 0 ∧ SameMem s t
        ∧ (s.rd R.PWR_DOM_RESULT = 256 + d.val → t.rd R.PWR_DOM_RESULT = d.val))
  ∧ ∀ (s : State) (d : Fin 128), s.pwr.auto.contains d.val = true → s.domUp d.val = true → domInUse s d.val = false →
      Runs (.autoIdlePowerOff d) s fun t => t.dom d.val = 3 ∧ SameMem s t

/-- A frame measurement, the rails and each TEC's share together, shows in PWR_PKG_MEAS and the die averages as the mean of the last 200. Within the limit nothing else changes; above it the cap begins, PWR_CAP is raised and every planned note lapses. Twenty frames above 1,470 W bring overload: both duties zero. A governor step writes only the two status registers and keeps S_eff at most 256; duty never exceeds 64 and is 0 in overload; with no ticket running and no power ticket the admitted power recorded is the idle demand. (05_power R142, 05_power R143, 05_power R144, 05_power R145, 05_power R146, 05_power R149) -/
def Obligations.PackagePowerCapAndGovernor : Prop :=
  (∀ (s : State) (m : Rails) (g0 g1 : Nat), s.bit R.PWR_STATUS 9 = false → s.bit R.PWR_STATUS 8 = false →
      measMean ((pkgPower m g0 g1 s :: s.pwr.meas).take 200) ≤ pkgLimit s → Runs (.packagePowerMeasure m g0 g1) s fun t =>
        t.rd R.PWR_PKG_MEAS = min (2 ^ 20 - 1) (measMean ((pkgPower m g0 g1 s :: s.pwr.meas).take 200))
          ∧ t.rd (R.PWR_DIE_MEAS_G 0) = min (2 ^ 20 - 1) (measMean ((g0 :: s.pwr.g0.meas).take 200))
          ∧ t.rd (R.PWR_DIE_MEAS_G 1) = min (2 ^ 20 - 1) (measMean ((g1 :: s.pwr.g1.meas).take 200))
          ∧ t.pwr.notes = s.pwr.notes ∧ t.evt = s.evt
          ∧ RegsKept [R.PWR_PKG_MEAS, R.PWR_DIE_MEAS_G 0, R.PWR_DIE_MEAS_G 1] s t ∧ SameMem s t)
  ∧ (∀ (s : State) (m : Rails) (g0 g1 : Nat), s.bit R.PWR_STATUS 9 = false → s.bit R.PWR_STATUS 8 = false → RoomFor s →
      pkgLimit s < measMean ((pkgPower m g0 g1 s :: s.pwr.meas).take 200) → Runs (.packagePowerMeasure m g0 g1) s fun t =>
        t.bit R.PWR_STATUS 8 = true ∧ Raised t Ev.PWR_CAP 0 ∧ t.pwr.notes = s.pwr.notes.filter (·.bare) ∧ t.pwr.g0.cap.isSome = true ∧ t.pwr.g1.cap.isSome = true
          ∧ SameMem s t)
  ∧ (∀ s : State, 20 ≤ s.pwr.overRun → s.bit R.PWR_STATUS 9 = false → RoomFor s → Runs .pwrOverload s fun t =>
      t.bit R.PWR_STATUS 9 = true ∧ Raised t Ev.PWR_OVERLOAD 0 ∧ t.pwr.notes = s.pwr.notes.filter (·.bare)
        ∧ t.fd (R.PWR_GOV_STATUS_G 0) 22 16 = 0 ∧ t.fd (R.PWR_GOV_STATUS_G 1) 22 16 = 0 ∧ SameMem s t)
  ∧ (∀ s : State, s.pwr.overRun < 20 → exec .pwrOverload s = .next s)
  ∧ (∀ s : State, s.pwr.g0.sEff ≤ 256 → s.pwr.g1.sEff ≤ 256 → Runs .governorStep s fun t =>
      t.pwr.g0.sEff ≤ 256 ∧ t.pwr.g1.sEff ≤ 256 ∧ t.fd (R.PWR_GOV_STATUS_G 0) 22 16 ≤ 64 ∧ t.fd (R.PWR_GOV_STATUS_G 1) 22 16 ≤ 64
        ∧ (s.bit R.PWR_STATUS 9 = true → t.fd (R.PWR_GOV_STATUS_G 0) 22 16 = 0 ∧ t.fd (R.PWR_GOV_STATUS_G 1) 22 16 = 0)
        ∧ t.pwr.notes = s.pwr.notes ∧ t.evt = s.evt ∧ t.out = s.out
        ∧ RegsKept [R.PWR_GOV_STATUS_G 0, R.PWR_GOV_STATUS_G 1] s t ∧ SameMem s t)
  ∧ ∀ s : State, s.tkt.rings = [] → s.pwr.power = [] → Runs .governorStep s fun t =>
      t.pwr.g0.hist = (pu (pairIdle s 0) :: s.pwr.g0.hist).take 100 ∧ t.pwr.g1.hist = (pu (pairIdle s 1) :: s.pwr.g1.hist).take 100

/-- A matrix ticket that enters its window when it may start at once gets a note with LEAD 0, counted in PWR_HN_SHORT_CNT where it asked for a longer lead. At a frame boundary every engine and PWR_HN_Gg hold the planned and decaying power of their die. A ring whose ticket has not started by the end of the second frame after its predicted start loses the note, and HEAT_NOTE_LAPSE is raised. (05_power R150, 05_power R151, 05_power R152, 05_power R154, 05_power R155) -/
def Obligations.HeatNotesArePlannedDeliveredAndLapse : Prop :=
  (∀ (s : State) (r : Fin 256) (k : Tkt), (ringOf s r.val).queue = [k] → (ringOf s r.val).run = [] → (ringOf s r.val).bare = [] →
      k.bad = false → tKind k = 1 → noteOf s r.val k.idx = none → noteRoom s (dieOf r.val) s.now = true → Runs (.lookaheadEntry r) s fun t =>
        (∃ n ∈ t.pwr.notes, n.ring = r.val ∧ n.idx = k.idx ∧ n.lead = 0 ∧ n.start = s.now ∧ n.p = fieldOf (tktDw k 2) 15 0)
          ∧ t.rd R.PWR_HN_SHORT_CNT = min 0xFFFFFFFF (s.rd R.PWR_HN_SHORT_CNT + (if 0 < fieldOf (tktDw k 2) 19 16 then 1 else 0))
          ∧ RegsKept [R.PWR_HN_SHORT_CNT, R.PWR_HN_PENDING] s t ∧ SameMem s t)
  ∧ (∀ s : State, Runs .heatNoteDelivery s fun t =>
      let u := s.uPwr fun p => { p with lapsed := (p.lapsed.map fun x => { x with k := x.k + 1 }).filter fun x => decide (x.k < x.decay) }
      (∀ g < 2, t.rd (R.PWR_HN_G g) = wrapN 32 (hnValue u g (s.now / 8000))
          ∧ ∀ e < 16, t.rd (R.STY_HN_G e g) = wrapN 32 (hnValue u g (s.now / 8000)))
        ∧ (∀ o, (∀ g < 2, o ≠ R.PWR_HN_G g ∧ ∀ e < 16, o ≠ R.STY_HN_G e g) → t.rd o = s.rd o) ∧ SameMem s t ∧ t.out = s.out)
  ∧ (∀ (s : State) (r : Fin 256) (n : Note), n ∈ s.pwr.notes → n.ring = r.val → notePending s n = true →
      (n.start / 8000 + 3) * 8000 ≤ s.now → RoomFor s → Runs (.heatNoteLapse r 2) s fun t =>
        n ∉ t.pwr.notes ∧ (⟨n.die, n.last, 0, n.decay⟩ : Lapsed) ∈ t.pwr.lapsed ∧ Raised t Ev.HEAT_NOTE_LAPSE r.val
          ∧ RegsKept [R.PWR_HN_PENDING, R.EVT_DROP_CNT] s t ∧ SameMem s t)
  ∧ ∀ (s : State) (r : Fin 256) (c : Fin 5), c ≠ 2 → exec (.heatNoteLapse r c) s = .next s

/-- In IMAGE, with BOOT_SEL naming a slot order, a slot whose discovery and checks pass is taken: CONFIG begins, its VALID flag is set, the digest of its signed region shows, and Request Retry Status ends. A failed first attempt records its reason, raises BOOT_FAIL, turns off every domain but the Scribes and the PCI Express function and restarts at IMAGE on the other slot; a failed second one, or BOOT_SEL 2 or 3, enters SAFE with BOOT_SAFE and GLB_CHIP.VALID 0. (06_boot R171, 06_boot R174, 06_boot R175, 06_boot R176, 06_boot R180, 06_boot R185) -/
def Obligations.ImageAttemptsAndSafe : Prop :=
  (∀ (s : State) (f : SlotFind), s.top = 1 → s.pins.bootSel.toNat < 2 → attemptReason f s = 0 →
      Runs (.imageSlotAttempt f) s fun t => t.top = 2 ∧ imgValid t (attemptSlot s) = true
        ∧ t.rd64 R.BOOT_DIGEST_LO = bytesToNat ((regionHash s (attemptSlot s)).take 8)
        ∧ t.fd R.BOOT_STATUS 2 0 = 4 ∧ t.boot.rrs = false ∧ SameMem s t)
  ∧ (∀ (s : State) (f : SlotFind), s.top = 1 → s.pins.bootSel.toNat < 2 → attemptReason f s ≠ 0 →
      s.boot.attempt = 0 → s.evt.queue.length < 1000 → Runs (.imageSlotAttempt f) s fun t =>
        t.top = 1 ∧ t.boot.attempt = 1 ∧ imgValid t (attemptSlot s) = false ∧ Raised t Ev.BOOT_FAIL (attemptSlot s)
          ∧ t.fd R.BOOT_STATUS (15 - 4 * attemptSlot s) (12 - 4 * attemptSlot s) = attemptReason f s
          ∧ (∀ d < 168, t.dom d = if 0xA0 ≤ d ∧ d ≤ 0xA2 then s.dom d else 0) ∧ SameMem s t)
  ∧ (∀ (s : State) (f : SlotFind), s.top = 1 → s.evt.queue.length < 1000 →
      2 ≤ s.pins.bootSel.toNat ∨ (s.boot.attempt = 1 ∧ attemptReason f s ≠ 0) →
      Runs (.imageSlotAttempt f) s fun t => t.top = 6 ∧ t.fd R.BOOT_STATUS 2 0 = 6 ∧ t.bit R.GLB_CHIP 31 = false
        ∧ t.boot.rrs = false ∧ Raised t Ev.BOOT_SAFE 0 ∧ SameMem s t)
  ∧ ∀ s : State, Runs .rrsTimeout s fun t => t.boot.rrs = false ∧ t.regs = s.regs ∧ SameMem s t

/-- A CONFIG whose slot gives a chip number, whose nine sections are accepted and whose powered stacks train ends in PHOTONICS with plate 63 in force, BOOT_LOCK set and its slot shown as running. A section that is not accepted fails the attempt with reason 0xA, a stack that does not train with 0xC, no chip number with CHIP_UNSET. Until the end of CONFIG a write of BOOT_LOCK is discarded and raises LOCKED_WRITE; later 1 sets it, and 0 clears it on JTAG under CFG_OPEN alone. In LINKS, READY is entered once every terminated port stands and time is tracked, or when the link wait has passed, and BOOT_READY_CT holds CT. (06_boot R167, 06_boot R171, 06_boot R177, 06_boot R178, 06_boot R179, 06_boot R185, 06_boot R193) -/
def Obligations.ConfigLoadTakesTheImageInForce : Prop :=
  (∀ (s : State) (h : List Nat) (c : Nat), s.top = 2 → s.evt.queue.length < 1000 → chipNumber s (attemptSlot s) = some c →
      let r := loadAll (attemptSlot s) ((s.fw R.GLB_CHIP 13 0 c).fw R.GLB_CHIP 31 31 1)
      Runs (.configLoad h) s fun t =>
        match r.1.ok, r.1.doms with
        | true, some (b, i) =>
          if (trainHbm h (wakingCount ((List.range 168).foldl (domainSet b i) r.2))).2 then
            t.top = 3 ∧ t.locked = true ∧ t.curPlate = 63 ∧ t.fd R.BOOT_STATUS 2 0 = 5 ∧ t.fd R.BOOT_STATUS 20 20 = attemptSlot s
          else t.top = (if r.2.boot.attempt = 0 then 1 else 6)
            ∧ t.fd R.BOOT_STATUS (15 - 4 * attemptSlot r.2) (12 - 4 * attemptSlot r.2) = 0xC
        | _, _ => t.top = (if r.2.boot.attempt = 0 then 1 else 6)
            ∧ t.fd R.BOOT_STATUS (15 - 4 * attemptSlot r.2) (12 - 4 * attemptSlot r.2) = 0xA)
  ∧ (∀ (s : State) (h : List Nat), s.top = 2 → s.evt.queue.length < 1000 → chipNumber s (attemptSlot s) = none →
      s.boot.attempt = 0 → Runs (.configLoad h) s fun t => t.top = 1 ∧ t.boot.attempt = 1 ∧ t.locked = s.locked
        ∧ t.fd R.BOOT_STATUS (15 - 4 * attemptSlot s) (12 - 4 * attemptSlot s) = 0xB ∧ SameMem s t)
  ∧ (∀ (s : State) (p : Path) (v : Word), Reaches p s → s.top ≤ 2 → RoomFor s → Runs (.bootLockWrite p v) s fun t =>
      Raised t Ev.LOCKED_WRITE 0 ∧ t.regs = s.regs ∧ SameMem s t)
  ∧ (∀ (s : State) (p : Path) (v : Word), Reaches p s → 3 ≤ s.top → Runs (.bootLockWrite p v) s fun t =>
      t.locked = (if bitOf v.toNat 0 then true else if p = .jtag ∧ s.pins.cfgOpen = true then false else s.locked)
        ∧ RegsKept [R.BOOT_LOCK] s t ∧ SameMem s t)
  ∧ (∀ (s : State) (c : Instr), s.top = 4 → (c = .readyEntry ∧ readyNow s = true) ∨ c = .bootLinkWaitExpiry →
      Runs c s fun t => t.top = 5 ∧ t.rd64 R.BOOT_READY_CT_LO = s.now ∧ SameMem s t)
  ∧ ∀ (s : State) (f : Bool), s.top = 5 → scribeRuns s = true → s.bit R.BOOT_STATUS 19 = false →
      Runs (.backgroundAuthentication f) s fun t => t.bit R.BOOT_STATUS 19 = true
        ∧ imgValid t (1 - s.fd R.BOOT_STATUS 20 20) = (imageCheck s (1 - s.fd R.BOOT_STATUS 20 20) f none == 0)
        ∧ RegsKept [R.BOOT_STATUS] s t ∧ SameMem s t

/-- A command while BUSY is discarded with MB_CONFLICT. QUERY fills BOOT_MB_BUF with both headers. The update commands of a path that does not own the open session answer OWNED. UPD_BEGIN clears the slot flag and begins the erase; UPD_WRITE programs from BOOT_MB_BUF; UPD_VERIFY sets the flag or answers 0x10 + reason, and closes the session, as UPD_ABORT and the 10 s limit do. RESTART resets where policy allows, ROLLBACK_ADVANCE raises the count where all four conditions hold, an unknown opcode answers 9. (06_boot R182, 06_boot R183, 06_boot R184, 06_boot R185, 06_boot R186, 06_boot R187, 06_boot R188) -/
def Obligations.MailboxCommandsAndSessions : Prop :=
  (∀ (s : State) (p : Path) (f : Bool) (o : Byte) (c : Instr), Reaches p s → s.bit R.BOOT_MB_STATUS 31 = true → RoomFor s →
      c ∈ [Instr.query p, .updBegin p, .updWrite p, .updVerify p f, .updAbort p, .restart p, .rollbackAdvance p, .mbUnknownOp p o] →
      o.toNat ≠ 0x12 → Runs c s fun t => Raised t Ev.MB_CONFLICT 0 ∧ t.regs = s.regs ∧ t.boot = s.boot ∧ SameMem s t)
  ∧ (∀ (s : State) (p : Path), Reaches p s → s.bit R.BOOT_MB_STATUS 31 = false → RoomFor s → Runs (.query p) s fun t =>
      (∀ i < 32, t.rd (R.BOOT_MB_BUF i) = hdrDw s (i / 16) (i % 16)) ∧ t.fd R.BOOT_MB_STATUS 15 0 = 1 ∧ Raised t Ev.MB_DONE 0
        ∧ t.boot = s.boot ∧ SameMem s t)
  ∧ (∀ (s : State) (p : Path) (f : Bool) (x : Session) (c : Instr), Reaches p s → s.bit R.BOOT_MB_STATUS 31 = false →
      s.boot.session = some x → x.owner ≠ p.code → c ∈ [Instr.updBegin p, .updWrite p, .updVerify p f, .updAbort p] →
      Runs c s fun t => t.fd R.BOOT_MB_STATUS 15 8 = 2 ∧ t.boot.session = some x ∧ SameMem s t)
  ∧ (∀ (s : State) (p : Path), Reaches p s → s.bit R.BOOT_MB_STATUS 31 = false → mbOwned s p.code = false → mbArg s p.code 0 ≤ 1 →
      imgValid s (1 - mbArg s p.code 0) = true ∨ s.top = 6 → 4096 ≤ mbArg s p.code 1 → mbArg s p.code 1 ≤ 33554432 → s.boot.flash = none →
      Runs (.updBegin p) s fun t => t.boot.flash = some (.eraseSlot (mbArg s p.code 0) (mbArg s p.code 1))
        ∧ imgValid t (mbArg s p.code 0) = false ∧ t.bit R.BOOT_MB_STATUS 31 = true
        ∧ RegsKept [R.BOOT_STATUS, R.BOOT_MB_STATUS, R.BOOT_MB_PROGRESS] s t ∧ SameMem s t)
  ∧ (∀ (s : State) (p : Path) (x : Session), Reaches p s → s.bit R.BOOT_MB_STATUS 31 = false → s.boot.session = some x →
      x.owner = p.code → mbArg s p.code 0 = x.written → 0 < mbArg s p.code 1 → mbArg s p.code 1 ≤ 32768 → mbArg s p.code 1 % 256 = 0 →
      x.written + mbArg s p.code 1 ≤ x.len → s.boot.flash = none → Runs (.updWrite p) s fun t =>
        t.boot.flash = some (.progSlot x.slot x.written (mbBuf s (mbArg s p.code 1))) ∧ t.bit R.BOOT_MB_STATUS 31 = true
          ∧ RegsKept [R.BOOT_MB_STATUS, R.BOOT_MB_PROGRESS] s t ∧ SameMem s t)
  ∧ (∀ (s : State) (p : Path) (f : Bool) (x : Session), Reaches p s → s.bit R.BOOT_MB_STATUS 31 = false → RoomFor s →
      s.boot.session = some x → x.owner = p.code → x.slot ≤ 1 → Runs (.updVerify p f) s fun t =>
        t.boot.session = none ∧ imgValid t x.slot = (imageCheck s x.slot f (some x.written) == 0)
          ∧ t.fd R.BOOT_MB_STATUS 15 8 = (if imageCheck s x.slot f (some x.written) = 0 then 0 else 0x10 + imageCheck s x.slot f (some x.written))
          ∧ RegsKept [R.BOOT_STATUS, R.BOOT_MB_STATUS, R.BOOT_MB_PROGRESS, R.EVT_DROP_CNT] s t ∧ SameMem s t)
  ∧ (∀ (s : State) (p : Path), Reaches p s → s.bit R.BOOT_MB_STATUS 31 = false → mbOwned s p.code = false →
      Runs (.updAbort p) s fun t => t.boot.session = none ∧ t.fd R.BOOT_MB_STATUS 15 8 = 0
        ∧ RegsKept [R.BOOT_MB_STATUS, R.BOOT_MB_PROGRESS, R.EVT_DROP_CNT] s t ∧ SameMem s t)
  ∧ (∀ (s : State) (p : Path), Reaches p s → s.bit R.BOOT_MB_STATUS 31 = false →
      s.top = 6 ∨ fieldOf (s.boot.hdr.getD 5 0).toNat 5 4 = 1 → Runs (.restart p) s fun t =>
        t.rst.chip = true ∧ t.bit R.RST_CAUSE 1 = true ∧ t.top = 0 ∧ t.hbm = s.hbm ∧ t.flash = s.flash)
  ∧ (∀ (s : State) (p : Path), Reaches p s → s.bit R.BOOT_MB_STATUS 31 = false → RoomFor s → s.pins.cfgOpen = false →
      s.fuses.rollback < mbArg s p.code 0 → mbArg s p.code 0 ≤ 64 → imgValid s 0 = true → imgValid s 1 = true →
      mbArg s p.code 0 ≤ hdrDw s 0 3 % 128 → mbArg s p.code 0 ≤ hdrDw s 1 3 % 128 → Runs (.rollbackAdvance p) s fun t =>
        t.fuses.rollback = mbArg s p.code 0 ∧ t.fd R.BOOT_MB_STATUS 15 8 = 0 ∧ Raised t Ev.ROLLBACK_ADVANCED 0 ∧ SameMem s t)
  ∧ (∀ (s : State) (p : Path) (o : Byte), Reaches p s → s.bit R.BOOT_MB_STATUS 31 = false →
      o.toNat ∉ [1, 0x10, 0x11, 0x12, 0x13, 0x20, 0x21] → Runs (.mbUnknownOp p o) s fun t =>
        t.fd R.BOOT_MB_STATUS 15 8 = 9 ∧ t.fd R.BOOT_MB_STATUS 7 0 = o.toNat
          ∧ RegsKept [R.BOOT_MB_STATUS, R.BOOT_MB_PROGRESS, R.EVT_DROP_CNT] s t ∧ SameMem s t)
  ∧ ∀ (s : State) (x : Session), s.boot.session = some x → RoomFor s → Runs .updSessionTimeout s fun t =>
      t.boot.session = none ∧ t.fd R.BOOT_MB_STATUS 15 0 = 0x0A13 ∧ Raised t Ev.MB_DONE 0 ∧ RegsKept [R.BOOT_MB_STATUS] s t ∧ SameMem s t

/-- An erase that ends leaves its range of the slot reading all ones and opens the session; a program that ends leaves the bytes of the buffer at their offset and counts them as written. Every other byte of flash, HBM and Vellum stays. One that is not ready in time ends with FLASH_ERROR and changes no byte outside its range. (06_boot R186, 06_boot R694) -/
def Obligations.FlashOperationsTakeEffectWhenTheyEnd : Prop :=
  (∀ (s : State) (k n : Nat), s.boot.flash = some (.eraseSlot k n) → RoomFor s → Runs .flashOpDone s fun t =>
      (∀ a, smGet flashD t.flash a = if slotBase k ≤ a ∧ a < slotBase k + (n + 65535) / 65536 * 65536 then 0xFF else smGet flashD s.flash a)
        ∧ t.boot.session = some ⟨k, n, 0, s.fd R.BOOT_MB_STATUS 18 16⟩ ∧ t.fd R.BOOT_MB_STATUS 15 0 = 0x10
        ∧ t.bit R.BOOT_MB_STATUS 31 = false ∧ Raised t Ev.MB_DONE 0
        ∧ RegsKept [R.BOOT_MB_STATUS, R.BOOT_MB_PROGRESS] s t ∧ t.hbm = s.hbm ∧ t.vel = s.vel)
  ∧ (∀ (s : State) (k off : Nat) (bs : List Byte) (x : Session), s.boot.flash = some (.progSlot k off bs) →
      s.boot.session = some x → RoomFor s → Runs .flashOpDone s fun t =>
        (∀ i < bs.length, smGet flashD t.flash (slotBase k + off + i) = bs.getD i 0)
          ∧ (∀ a, a < slotBase k + off ∨ slotBase k + off + bs.length ≤ a → smGet flashD t.flash a = smGet flashD s.flash a)
          ∧ t.boot.session = some { x with written := x.written + bs.length } ∧ t.fd R.BOOT_MB_STATUS 15 0 = 0x11
          ∧ t.bit R.BOOT_MB_STATUS 31 = false ∧ RegsKept [R.BOOT_MB_STATUS, R.BOOT_MB_PROGRESS] s t ∧ t.hbm = s.hbm ∧ t.vel = s.vel)
  ∧ (∀ (s : State) (k n : Nat), s.boot.flash = some (.eraseSlot k n) → RoomFor s → Runs .flashOpTimeout s fun t =>
      (∀ a, a < slotBase k ∨ slotBase k + (n + 65535) / 65536 * 65536 ≤ a → smGet flashD t.flash a = smGet flashD s.flash a)
        ∧ t.boot.session = s.boot.session ∧ t.fd R.BOOT_MB_STATUS 15 0 = 0x0810 ∧ t.bit R.BOOT_MB_STATUS 31 = false
        ∧ RegsKept [R.BOOT_MB_STATUS] s t ∧ t.hbm = s.hbm ∧ t.vel = s.vel)
  ∧ (∀ (s : State) (k off : Nat) (bs : List Byte) (x : Session), s.boot.flash = some (.progSlot k off bs) →
      s.boot.session = some x → RoomFor s → Runs .flashOpTimeout s fun t =>
        (∀ a, a < slotBase k + off ∨ slotBase k + off + bs.length ≤ a → smGet flashD t.flash a = smGet flashD s.flash a)
          ∧ t.boot.session = some x ∧ t.fd R.BOOT_MB_STATUS 15 0 = 0x0811 ∧ t.bit R.BOOT_MB_STATUS 31 = false
          ∧ RegsKept [R.BOOT_MB_STATUS] s t ∧ t.hbm = s.hbm ∧ t.vel = s.vel)
  ∧ ∀ s : State, s.boot.flash = none → exec .flashOpDone s = .next s ∧ exec .flashOpTimeout s = .next s

/-- Eight samples of a pixel give D by the 22 coefficients over its newest samples, and no other pixel changes. PROOF_SYNC orders a reset, denied on PCI Express; the reset zeroes every decimator, counts, raises PROOF_SYNC_RESET and makes the proofs of two frames SETTLING: the two that begin at the start of sampling, or the two that begin after a commanded reset, which leaves the frame in progress as it is. A SETTLING proof carries every value zero; with dark lanes a LIVE proof carries the word the five stages give each pixel; a frame not wholly sampled delivers none. The proof before becomes that of the frame before. (08_proof R219, 08_proof R220, 08_proof R221, 08_proof R222, 08_proof R223, 08_proof R230, 08_proof R231, 08_proof R236) -/
def Obligations.ProofSamplesResetsAndProofs : Prop :=
  (∀ (s : State) (x : Fin 3072) (w : List (BitVec 12)), s.proof.run = true → w.length = 8 → Runs (.cicOutput x w) s fun t =>
      (smGet (fun _ => ⟨0, false, false, []⟩) t.proof.outs x.val).d
        = (List.zipWith (· * ·) [1, 3, 6, 10, 15, 21, 28, 36, 42, 46, 48, 48, 46, 42, 36, 28, 21, 15, 10, 6, 3, 1]
            (((w.map (·.toNat)).reverse ++ smGet (fun _ => []) s.proof.hist x.val).take 22)).foldl (· + ·) 0 / 32
        ∧ (∀ y, y ≠ x.val → pixOut t y = pixOut s y) ∧ t.regs = s.regs ∧ SameMem s t)
  ∧ (∀ (s : State) (p : Path) (v : Word), Reaches p s → hostLike p = true → RoomFor s → Runs (.proofSync p v) s fun t =>
      Raised t Ev.PROOF_DENIED 0 ∧ t.proof = s.proof ∧ t.regs = s.regs ∧ SameMem s t)
  ∧ (∀ (s : State) (p : Path) (v : Word), Reaches p s → hostLike p = false → bitOf v.toNat 0 = true → s.dom 0xA5 = 2 →
      Runs (.proofSync p v) s fun t => t.proof.sync.isSome = true ∧ t.regs = s.regs ∧ SameMem s t)
  ∧ (∀ (s : State) (c : Nat), s.proof.sync = some c → c = 1 ∨ (c = 3 ∧ s.proof.run = true) → s.domUp 0xA5 = true → RoomFor s →
      Runs .proofSyncReset s fun t => t.proof.hist = [] ∧ t.proof.run = true ∧ t.proof.sync = none
        ∧ (c = 1 → t.proof.settle = [s.proof.frame + 1, s.proof.frame + 2] ∧ t.fd R.PROOF_STATUS 1 0 = 2)
        ∧ (c = 3 → t.proof.outs = s.proof.outs ∧ ∀ f, f ∈ t.proof.settle ↔
            (f ≤ s.proof.frame + 1 ∧ f ∈ s.proof.settle) ∨ f = s.proof.frame + 2 ∨ f = s.proof.frame + 3)
        ∧ t.bit R.PROOF_STATUS 2 = true
        ∧ t.rd R.PROOF_SYNC_CNT = min 0xFFFFFFFF (s.rd R.PROOF_SYNC_CNT + 1) ∧ Raised t Ev.PROOF_SYNC_RESET 0
        ∧ RegsKept [R.PROOF_STATUS, R.PROOF_SYNC_CNT] s t ∧ SameMem s t)
  ∧ (∀ (s : State) (ts : List (List (BitVec 16))), ts.length = 64 → (∀ r ∈ ts, r.length = 8) → s.proof.run = true →
      pixAll ≤ s.proof.outs.length → s.proof.settle.contains s.proof.frame = true → (∀ c < 4, cropOf s c = none) → Runs (.proofProcess ts) s fun t =>
        t.proof.p0.kind = .settling ∧ (∀ x < pixAll, smGet (fun _ => (0 : Word)) t.proof.p0.words x = w32 x) ∧ t.proof.p1 = s.proof.p0
          ∧ (∀ f, f ∈ t.proof.settle ↔ f ∈ s.proof.settle ∧ s.proof.frame < f) ∧ t.proof.outs = [] ∧ RegsKept [R.PROOF_STATUS] s t ∧ SameMem s t)
  ∧ (∀ (s : State) (ts : List (List (BitVec 16))), ts.length = 64 → (∀ r ∈ ts, r.length = 8) → s.proof.run = true →
      pixAll ≤ s.proof.outs.length → s.proof.settle.contains s.proof.frame = false → (∀ p < 16, ∀ n < 18, s.lane false p n ≠ 3 ∧ s.lane false p n ≠ 4) →
      (∀ c < 4, cropOf s c = none) → Runs (.proofProcess ts) s fun t =>
        t.proof.p0.kind = .live ∧ (∀ x < pixAll, smGet (fun _ => (0 : Word)) t.proof.p0.words x = livePix s x)
          ∧ t.proof.p1 = s.proof.p0 ∧ t.proof.outs = [] ∧ SameMem s t)
  ∧ ∀ (s : State) (ts : List (List (BitVec 16))), ts.length = 64 → (∀ r ∈ ts, r.length = 8) →
      s.proof.run = false ∨ s.proof.outs.length < pixAll → Runs (.proofProcess ts) s fun t =>
        t.proof.p0.kind = .none ∧ t.proof.p1 = s.proof.p0 ∧ t.proof.outs = [] ∧ RegsKept [R.PROOF_STATUS] s t ∧ t.out = s.out ∧ SameMem s t

/-- A dark capture is denied on PCI Express and in every case R236 names, changing nothing; accepted, it runs and DARK_BUSY reads 1. A lane capture that has its FRAMES proofs ends: each of its pixels whose level is within DARK_MAX stores it, zero for a negative one, every other reads as before or is marked, and DARK_CAPTURED is raised. A telemetry period that ends leaves the mean of each pixel through stage 5 and starts its sums anew. (08_proof R224, 08_proof R225, 08_proof R233, 08_proof R236) -/
def Obligations.DarkCapturesAndTelemetryPeriods : Prop :=
  (∀ (s : State) (p : Path) (v : Word), Reaches p s → hostLike p = true ∨ darkRefused s v.toNat = true → RoomFor s →
      Runs (.proofDarkCmd p v) s fun t => Raised t Ev.PROOF_DENIED 0 ∧ t.proof = s.proof ∧ t.regs = s.regs ∧ SameMem s t)
  ∧ (∀ (s : State) (p : Path) (v : Word), Reaches p s → hostLike p = false → darkRefused s v.toNat = false → s.dom 0xA5 = 2 →
      Runs (.proofDarkCmd p v) s fun t => (∃ c ∈ t.proof.caps, c.done = 0
          ∧ c.lane = (if bitOf v.toNat 16 then none else some (fieldOf v.toNat 9 0))) ∧ t.bit R.PROOF_STATUS 3 = true
        ∧ RegsKept [R.PROOF_STATUS] s t ∧ SameMem s t)
  ∧ (∀ (s : State) (l : BitVec 10) (c : Capture), s.proof.caps = [c] → c.lane = some l.toNat →
      max 1 (s.fd R.PROOF_DARK_CFG 3 0) ≤ c.done → s.evt.queue.length < 1000 → Runs (.darkCaptured (some l)) s fun t =>
        t.proof.caps = [] ∧ t.bit R.PROOF_STATUS 3 = false ∧ Raised t Ev.DARK_CAPTURED l.toNat
          ∧ (∀ x ∈ lanePix l.toNat, capLevel s c x ≤ s.fd R.PROOF_DARK_CFG 31 16 →
              t.fd (R.PROOF_DARK x) 15 0 = (max 0 (capLevel s c x)).toNat)
          ∧ (∀ x ∈ lanePix l.toNat, (s.fd R.PROOF_DARK_CFG 31 16 : Int) < capLevel s c x → defective t x = true)
          ∧ (∀ x < pixAll, x ∉ lanePix l.toNat → t.rd (R.PROOF_DARK x) = s.rd (R.PROOF_DARK x)) ∧ SameMem s t)
  ∧ (∀ (s : State) (l : Option (BitVec 10)), s.proof.caps = [] → exec (.darkCaptured l) s = .next s)
  ∧ ∀ s : State, Runs .telemetryPeriodEnd s fun t =>
      (∀ x < pixAll, smGet (fun _ => (0 : Word)) t.proof.telem x = telemPix s x) ∧ t.proof.tcount = 0 ∧ t.proof.tsum = []
        ∧ t.lnk.period = s.lnk.sums ∧ t.fd R.PROOF_TELEM_CNT 9 0 = min 1023 s.proof.tcount ∧ SameMem s t

/-- In RUN a sample writes i, OUT and ERR as the int32 law of R245 gives them from the words in force, the supply value and the heat notes; OFF writes 0, SWEEP adds its step, OPEN holds i. A held sample leaves i, OUT, ERR and the DAC code, and STATE and the hold map show it. A queued word is applied at the slot start, one at a time. A spare slot, or an engine that does not run, does nothing. No other register, and no memory, changes. (09_stylus R242, 09_stylus R244, 09_stylus R245, 09_stylus R246, 09_stylus R247, 09_stylus R248, 09_stylus R254, 09_stylus R258) -/
def Obligations.StylusSamplesFollowTheLaw : Prop :=
  (∀ (s : State) (e : Fin 16) (l : Fin 140), LawAlone s e l → loopMode s e l = 1 → holdCauses s e l = (false, false, false) →
      (s.lp e l).guard = 0 → (s.lp e l).rolling = false →
      let sh := s.coef e l 3
      let err := i32 (s.coefI e l 2 - measure s e l)
      let mag := wrapN 32 (if err < 0 then i32 (-err) else err)
      let p := i32 (asr (s.coefI e l (32 + min 31 (mag / 2 ^ fieldOf sh 29 25)) * err) (fieldOf sh 4 0))
      let i := i32 (s.coefI e l 10 + i32 (asr (s.coefI e l 4 * err) (fieldOf sh 9 5)))
      let v := i32 (asr (s.coefI e l 5 * s.vsqNow) (fieldOf sh 14 10))
      let h := i32 (asr (s.coefI e l 6 * sgn 32 (s.rd (R.STY_HN_G e 0))) (fieldOf sh 19 15))
        + i32 (asr (s.coefI e l 7 * sgn 32 (s.rd (R.STY_HN_G e 1))) (fieldOf sh 24 20))
      let out := i32 (p + i + v + h + s.coefI e l 8)
      ((dacOf out : Int) - (s.lp e l).dac).natAbs ≤ 0x8000 → Runs (.stylusSlot e l) s fun t =>
        t.coef e l 10 = wrapN 32 i ∧ t.coef e l 11 = wrapN 32 out ∧ t.coef e l 12 = wrapN 32 err ∧ (t.lp e l).dac = wrapN 32 out / 2 ^ 16
          ∧ t.evt = s.evt ∧ t.out = s.out ∧ SameMem s t
          ∧ RegsKept [coefOff e l 10, coefOff e l 11, coefOff e l 12, coefOff e l 13, R.STY_STATUS e, R.STY_SUP_STATUS e, R.STY_SUP_RESID e l,
            R.STY_HOLD_MAP e (if l.val < 56 then l.val / 32 else 2 + (l.val - 56) / 32)] s t)
  ∧ (∀ (s : State) (e : Fin 16) (l : Fin 140), LawAlone s e l → loopMode s e l ≠ 1 → holdCauses s e l = (false, false, false) →
      let i := if loopMode s e l = 2 then i32 (s.coefI e l 10 + s.coefI e l 14) else s.coefI e l 10
      let out := if loopMode s e l = 0 then 0 else lawBase s e l i
      Runs (.stylusSlot e l) s fun t =>
        t.coef e l 10 = wrapN 32 i ∧ t.coef e l 11 = wrapN 32 out ∧ t.coef e l 12 = s.coef e l 12 ∧ (t.lp e l).dac = dacOf out
          ∧ t.evt = s.evt ∧ t.out = s.out ∧ SameMem s t
          ∧ RegsKept [coefOff e l 10, coefOff e l 11, coefOff e l 12, coefOff e l 13, R.STY_STATUS e, R.STY_SUP_STATUS e, R.STY_SUP_RESID e l,
            R.STY_HOLD_MAP e (if l.val < 56 then l.val / 32 else 2 + (l.val - 56) / 32)] s t)
  ∧ (∀ (s : State) (e : Fin 16) (l : Fin 140), LawAlone s e l → holdCauses s e l ≠ (false, false, false) → Runs (.stylusSlot e l) s fun t =>
        (t.lp e l).dac = (s.lp e l).dac ∧ (t.lp e l).guard = (s.lp e l).guard - 1
          ∧ t.fd (coefOff e l 13) 10 8 = b2n (holdCauses s e l).1 + 2 * b2n (holdCauses s e l).2.1 + 4 * b2n (holdCauses s e l).2.2
          ∧ t.bit (R.STY_HOLD_MAP e (if l.val < 56 then l.val / 32 else 2 + (l.val - 56) / 32)) (if l.val < 56 then l.val % 32 else (l.val - 56) % 32) = true
          ∧ t.evt = s.evt ∧ t.out = s.out ∧ SameMem s t
          ∧ RegsKept [coefOff e l 13, R.STY_STATUS e, R.STY_SUP_STATUS e, R.STY_SUP_RESID e l,
            R.STY_HOLD_MAP e (if l.val < 56 then l.val / 32 else 2 + (l.val - 56) / 32)] s t)
  ∧ (∀ (s : State) (e : Fin 16) (l : Fin 140) (w : Nat) (v : Word) (q : List (Nat × Nat × Word)), engineRuns s e = true → loopId e l ≠ 0xFFF →
      takeWord l (s.eng e).wq = (some (w, v), q) → w ∈ [2, 4, 5, 6, 7, 8, 9, 14] ∨ (32 ≤ w ∧ w < 64) → s.bit (coefOff e l 0) 4 = true →
      (s.eng e).relay = none → (s.lp e l).reseed = false → rollSlot s e l = false → s.bit (supOff e l 0) 2 = false → trState s e = 0 →
      (∀ x ∈ s.sty.todo, x.1 ≠ e.val) →
      Runs (.stylusSlot e l) s fun t =>
        t.coef e l w = Nat.land v.toNat (maskOf (coefOff e l w)) ∧ (t.eng e).wq = q ∧ (t.lp e l).dac = (s.lp e l).dac
          ∧ t.evt = s.evt ∧ SameMem s t ∧ RegsKept (coefOff e l w :: [coefOff e l 13, R.STY_STATUS e, R.STY_SUP_STATUS e, R.STY_SUP_RESID e l,
            R.STY_HOLD_MAP e (if l.val < 56 then l.val / 32 else 2 + (l.val - 56) / 32)]) s t)
  ∧ ∀ (s : State) (e : Fin 16) (l : Fin 140), engineRuns s e = false ∨ loopId e l = 0xFFF → exec (.stylusSlot e l) s = .next s

/-- A ring whose DAC code moves by more than 0x8000 in RUN rolls an order: with SEED_EN and SEED in the right half i becomes SEED and p is dropped, otherwise the wrapped values stay; ORDER_ROLL is raised, the count rises, the ring's roll is due no more and the guard starts. A guarded sample neither integrates nor adds p. The first sample after the guard resumes the law and raises ROLL_DONE. Any other loop raises OUT_WRAP, keeps its output and is held. (09_stylus R250, 09_stylus R251, 09_stylus R253, 10_stylus_tuning R265) -/
def Obligations.OrderRollsSeedGuardAndEnd : Prop :=
  (∀ (s : State) (e : Fin 16) (l : Fin 140) (down : Bool), LawAlone s e l → loopMode s e l = 1 → holdCauses s e l = (false, false, false) →
      (s.lp e l).guard = 0 → (s.lp e l).rolling = false → isRing l = true → s.evt.queue.length < 1000 →
      let err := i32 (s.coefI e l 2 - measure s e l)
      let i := i32 (s.coefI e l 10 + lawD s e l err)
      let out := i32 (lawBase s e l i + lawP s e l err)
      (if down then (dacOf out : Int) + 0x8000 < (s.lp e l).dac else ((s.lp e l).dac : Int) + 0x8000 < dacOf out) →
      let ok := s.bit (coefOff e l 0) 5 = true ∧ (s.coef e l 9 < 2 ^ 31 ↔ down = true)
      Runs (.stylusSlot e l) s fun t =>
        (ok → t.coef e l 10 = s.coef e l 9 ∧ t.coef e l 11 = wrapN 32 (lawBase s e l (s.coefI e l 9)))
          ∧ (¬ok → t.coef e l 10 = wrapN 32 i ∧ t.coef e l 11 = wrapN 32 out ∧ Raised t Ev.ROLL_UNSEEDED (loopId e l))
          ∧ Raised t Ev.ORDER_ROLL (loopId e l) ∧ (t.lp e l).guard = s.fd (coefOff e l 0) 11 8 ∧ (t.lp e l).rolling = true
          ∧ t.fd (R.STY_ROLL_CNT e) 31 16 = min 0xFFFF (s.fd (R.STY_ROLL_CNT e) 31 16 + b2n down)
          ∧ t.fd (R.STY_ROLL_CNT e) 15 0 = min 0xFFFF (s.fd (R.STY_ROLL_CNT e) 15 0 + b2n (!down))
          ∧ t.bit (R.STY_ROLL_DUE e (l.val / 32)) (l.val % 32) = false
          ∧ RegsKept [coefOff e l 10, coefOff e l 11, coefOff e l 12, coefOff e l 13, R.STY_STATUS e, R.STY_SUP_STATUS e, R.STY_SUP_RESID e l,
            R.STY_ROLL_CNT e, R.STY_ROLL_DUE e (l.val / 32), R.STY_HOLD_MAP e (if l.val < 56 then l.val / 32 else 2 + (l.val - 56) / 32)] s t
          ∧ SameMem s t)
  ∧ (∀ (s : State) (e : Fin 16) (l : Fin 140), LawAlone s e l → loopMode s e l = 1 → holdCauses s e l = (false, false, false) →
      (s.lp e l).guard ≠ 0 → ((dacOf (lawBase s e l (s.coefI e l 10)) : Int) - (s.lp e l).dac).natAbs ≤ 0x8000 → Runs (.stylusSlot e l) s fun t =>
        t.coef e l 10 = s.coef e l 10 ∧ t.coef e l 11 = wrapN 32 (lawBase s e l (s.coefI e l 10))
          ∧ (t.lp e l).guard = (s.lp e l).guard - 1 ∧ t.evt = s.evt ∧ SameMem s t)
  ∧ (∀ (s : State) (e : Fin 16) (l : Fin 140), LawAlone s e l → loopMode s e l = 1 → holdCauses s e l = (false, false, false) →
      (s.lp e l).guard = 0 → (s.lp e l).rolling = true → RoomFor s →
      let err := i32 (s.coefI e l 2 - measure s e l)
      let i := i32 (s.coefI e l 10 + lawD s e l err)
      let out := i32 (lawBase s e l i + lawP s e l err)
      ((dacOf out : Int) - (s.lp e l).dac).natAbs ≤ 0x8000 → Runs (.rollDone e l) s fun t =>
        Raised t Ev.ROLL_DONE (loopId e l) ∧ t.coef e l 10 = wrapN 32 i ∧ t.coef e l 11 = wrapN 32 out ∧ t.coef e l 12 = wrapN 32 err
          ∧ (t.lp e l).rolling = false ∧ SameMem s t)
  ∧ (∀ (s : State) (e : Fin 16) (l : Fin 140), engineRuns s e = false ∨ (s.lp e l).rolling = false ∨ (s.lp e l).guard ≠ 0 →
      exec (.rollDone e l) s = .next s)
  ∧ ∀ (s : State) (e : Fin 16) (l : Fin 140), LawAlone s e l → loopMode s e l = 1 → holdCauses s e l = (false, false, false) →
      (s.lp e l).guard = 0 → (s.lp e l).rolling = false → isRing l = false → RoomFor s →
      let err := i32 (s.coefI e l 2 - measure s e l)
      let out := i32 (lawBase s e l (i32 (s.coefI e l 10 + lawD s e l err)) + lawP s e l err)
      0x8000 < ((dacOf out : Int) - (s.lp e l).dac).natAbs → Runs (.stylusSlot e l) s fun t =>
        Raised t Ev.OUT_WRAP (loopId e l) ∧ supHeld t e l = true ∧ t.coef e l 10 = s.coef e l 10 ∧ t.coef e l 11 = s.coef e l 11
          ∧ (t.lp e l).dac = (s.lp e l).dac ∧ SameMem s t

/-- A write of a writable coefficient word of a loop enters its queue of 128, from every path; a full queue discards it, but for a word of the active Scribe's, which waits, with STY_WQ_FULL and the drop count; a word of a spare slot or a read-only word is discarded in silence. Housekeeping refreshes SEED and marks a roll due once with ROLL_DUE, by the supervision words that stood at the loop's last slot start, and with no engine running leaves headroom 255 and no loop. A release clears hold and count, has the anchor taken anew and shows the causes left, and is denied on PCI Express. (09_stylus R254, 09_stylus R256, 10_stylus_tuning R268, 10_stylus_tuning R271, 10_stylus_tuning R272, 10_stylus_tuning R274) -/
def Obligations.CoefficientWritesHousekeepingAndRelease : Prop :=
  (∀ (s : State) (p : Path) (e : Fin 16) (l : Fin 140) (w : Fin 64) (v : Word), Reaches p s → s.blockOn (coefOff e l w) = true → loopId e l ≠ 0xFFF →
      w.val ∉ [11, 12, 13] → w.val < 15 ∨ 32 ≤ w.val → s.sty.patient = false → (s.eng e).wq.length < 128 → Runs (.styCoefWrite p (coefOff e l w) v) s fun t =>
        (t.eng e).wq = (s.eng e).wq ++ [(l.val, w.val, v)] ∧ t.fd (R.STY_STATUS e) 23 16 = (s.eng e).wq.length + 1
          ∧ t.evt = s.evt ∧ RegsKept [R.STY_STATUS e] s t ∧ SameMem s t)
  ∧ (∀ (s : State) (p : Path) (e : Fin 16) (l : Fin 140) (w : Fin 64) (v : Word), Reaches p s → s.blockOn (coefOff e l w) = true → loopId e l ≠ 0xFFF →
      w.val ∉ [11, 12, 13] → w.val < 15 ∨ 32 ≤ w.val → s.sty.patient = false → 128 ≤ (s.eng e).wq.length → RoomFor s →
      Runs (.styCoefWrite p (coefOff e l w) v) s fun t =>
        Raised t Ev.STY_WQ_FULL e ∧ t.rd (R.STY_WQ_DROP e) = min 0xFFFFFFFF (s.rd (R.STY_WQ_DROP e) + 1) ∧ t.sty = s.sty
          ∧ RegsKept [R.STY_WQ_DROP e] s t ∧ SameMem s t)
  ∧ (∀ (s : State) (p : Path) (e : Fin 16) (l : Fin 140) (w : Fin 64) (v : Word), Reaches p s →
      loopId e l = 0xFFF ∨ w.val ∈ [11, 12, 13] ∨ (14 < w.val ∧ w.val < 32) → exec (.styCoefWrite p (coefOff e l w) v) s = .next s)
  ∧ (∀ s : State, (∀ e < 16, engineRuns s e = false) → Runs .stylusHousekeeping s fun t =>
      t.fd R.PWR_HEADROOM 7 0 = 255 ∧ t.fd R.PWR_HEADROOM 25 16 = 0 ∧ t.sty = s.sty ∧ t.evt = s.evt ∧ RegsKept [R.PWR_HEADROOM] s t ∧ SameMem s t)
  ∧ (∀ (s : State) (e : Fin 16) (l : Fin 140), engineRuns s e = true → isRing l = true → bitOf (s.lp e l).sup.1 3 = true → Runs .stylusHousekeeping s fun t =>
      t.coef e l 9 = wrapN 32 (if 0x8000 ≤ (s.lp e l).dac then s.coefI e l 10 + (s.lp e l).dint - sgn 32 (s.lp e l).sup.2.2
          else s.coefI e l 10 + (s.lp e l).dint + sgn 32 (s.lp e l).sup.2.2) ∧ t.coef e l 10 = s.coef e l 10 ∧ SameMem s t)
  ∧ (∀ (s : State) (e : Fin 16) (l : Fin 140), engineRuns s e = true → isRing l = true → bitOf (s.lp e l).sup.1 4 = true → RoomFor s →
      s.bit (R.STY_ROLL_DUE e (l.val / 32)) (l.val % 32) = false →
      (0xFFFF - (s.lp e l).dac) / 256 ≤ fieldOf (s.lp e l).sup.2.1 31 24 ∨ (s.lp e l).dac / 256 ≤ fieldOf (s.lp e l).sup.2.1 23 16 →
      (∀ d < 16, d ≠ e.val → engineRuns s d = false) →
      (∀ k < 56, isRing k = true → k ≠ l.val → bitOf (s.lp e k).sup.1 4 = false) → Runs .stylusHousekeeping s fun t =>
        Raised t Ev.ROLL_DUE (loopId e l) ∧ t.bit (R.STY_ROLL_DUE e (l.val / 32)) (l.val % 32) = true
          ∧ t.bit (R.STY_SUP_RESID e l) 2 = true ∧ SameMem s t)
  ∧ (∀ (s : State) (p : Path) (e : Fin 16) (v : Word), Reaches p s → hostLike p = true → RoomFor s → Runs (.stySupRelease p e v) s fun t =>
      Raised t Ev.SUP_DENIED 0 ∧ t.sty = s.sty ∧ t.regs = s.regs ∧ SameMem s t)
  ∧ (∀ (s : State) (p : Path) (e : Fin 16) (v : Word), Reaches p s → hostLike p = false → s.blockOn (R.STY_SUP_RELEASE e) = true →
      fieldOf v.toNat 7 0 < 140 → Runs (.stySupRelease p e v) s fun t =>
        t.lp e (fieldOf v.toNat 7 0) = { s.lp e (fieldOf v.toNat 7 0) with hold := false, wrapHold := false, bad := 0, good := 0, anchor := true }
          ∧ t.bit (coefOff e (fieldOf v.toNat 7 0) 13) 10 = supHeld t e (fieldOf v.toNat 7 0)
          ∧ t.evt = s.evt ∧ RegsKept [R.STY_STATUS e, R.STY_SUP_STATUS e, coefOff e (fieldOf v.toNat 7 0) 13,
            R.STY_HOLD_MAP e (if fieldOf v.toNat 7 0 < 56 then fieldOf v.toNat 7 0 / 32 else 2 + (fieldOf v.toNat 7 0 - 56) / 32)] s t
          ∧ SameMem s t)
  ∧ ∀ (s : State) (p : Path) (e : Fin 16) (v : Word), Reaches p s → hostLike p = false → 140 ≤ fieldOf v.toNat 7 0 →
      exec (.stySupRelease p e v) s = .next s

/-- A relay is refused with its reason for a loop that cannot be tuned, not in maintenance, on a busy engine or from PCI Express; otherwise it begins at the last output and the status shows BUSY. A relay sample drives c0 ± H by the sign of the error beyond the hysteresis, the integrator unchanged. TIMEOUT ends it with RESULT 4. A trace is armed, triggered by FORCE, or once by its CT instant when CT has reached it, with the position and POST, stopped at once by STOP, and stopped when POST dwords are written. (10_stylus_tuning R278, 10_stylus_tuning R279, 10_stylus_tuning R280, 10_stylus_tuning R284, 10_stylus_tuning R287) -/
def Obligations.RelayTuningAndTraces : Prop :=
  (∀ (s : State) (p : Path) (e : Fin 16) (v : Word) (reason : Nat), Reaches p s → bitOf v.toNat 31 = true → s.blockOn (R.STY_RELAY_CMD e) = true → RoomFor s →
      (hostLike p = true ∧ reason = 3)
        ∨ (hostLike p = false ∧ relayEligible e (fieldOf v.toNat 7 0) = false ∧ reason = 0)
        ∨ (hostLike p = false ∧ relayEligible e (fieldOf v.toNat 7 0) = true ∧ inMaint s e (fieldOf v.toNat 7 0) = false ∧ reason = 1)
        ∨ (hostLike p = false ∧ relayEligible e (fieldOf v.toNat 7 0) = true ∧ inMaint s e (fieldOf v.toNat 7 0) = true
            ∧ (s.eng e).relay.isSome = true ∧ reason = 2) → Runs (.relayStart p e v) s fun t =>
        t.fd (R.STY_RELAY_STATUS e) 26 24 = 2 ∧ t.fd (R.STY_RELAY_STATUS e) 21 20 = reason ∧ t.sty = s.sty
          ∧ (∃ r ∈ t.evt.queue, r.code = Ev.RELAY_REFUSED) ∧ RegsKept [R.STY_RELAY_STATUS e] s t ∧ SameMem s t)
  ∧ (∀ (s : State) (p : Path) (e : Fin 16) (v : Word), Reaches p s → bitOf v.toNat 31 = true → s.blockOn (R.STY_RELAY_CMD e) = true →
      hostLike p = false → relayEligible e (fieldOf v.toNat 7 0) = true → inMaint s e (fieldOf v.toNat 7 0) = true → (s.eng e).relay = none →
      (∀ b < 8, (s.las.safe.getD b 0 = 0 ↔ s.bit R.LAS_STATUS b = false)) → Runs (.relayStart p e v) s fun t =>
        (∃ r, (t.eng e).relay = some r ∧ r.l = fieldOf v.toNat 7 0 ∧ r.c0 = s.coefI e r.l 11 ∧ r.crossings = 0 ∧ r.samples = 0)
          ∧ t.rd (R.STY_RELAY_STATUS e) = 2 ^ 31 + fieldOf v.toNat 7 0 ∧ t.evt = s.evt ∧ RegsKept [R.STY_RELAY_STATUS e] s t ∧ SameMem s t)
  ∧ (∀ (s : State) (e : Fin 16) (l : Fin 140) (r : Relay), engineRuns s e = true → loopId e l ≠ 0xFFF → (takeWord l (s.eng e).wq).1 = none →
      (s.lp e l).reseed = false → rollSlot s e l = false → s.bit (supOff e l 0) 2 = false → trState s e = 0 →
      (s.eng e).relay = some r → r.l = l.val → isRing l = false → inMaint s e l = true → loopMode s e l = 1 → holdCauses s e l = (false, false, false) →
      let err := i32 (s.coefI e l 2 - measure s e l)
      let sv := if s.bit (R.STY_RELAY_CFG e) 28 then i32 (-err) else err
      let h : Int := s.fd (R.STY_RELAY_CFG e) 15 0
      let hyst : Int := s.fd (R.STY_RELAY_CFG e) 23 16
      Runs (.stylusSlot e l) s fun t =>
        t.coef e l 11 = wrapN 32 (if hyst < sv then i32 (r.c0 + h * 2 ^ 16) else if sv < -hyst then i32 (r.c0 - h * 2 ^ 16) else r.last)
          ∧ t.coef e l 10 = wrapN 32 (s.coefI e l 10) ∧ t.coef e l 12 = wrapN 32 err
          ∧ (∀ r2, (t.eng e).relay = some r2 → r2.samples = r.samples + 1) ∧ SameMem s t)
  ∧ (∀ (s : State) (e : Fin 16) (r : Relay), (s.eng e).relay = some r → s.fd (R.STY_RELAY_LIMIT e) 31 16 ≤ r.samples → s.evt.queue.length < 1000 →
      Runs (.relayTimeout e) s fun t => (t.eng e).relay = none ∧ t.fd (R.STY_RELAY_STATUS e) 26 24 = 4
        ∧ t.bit (R.STY_RELAY_STATUS e) 31 = false ∧ Raised t Ev.RELAY_FAIL (loopId e r.l) ∧ SameMem s t)
  ∧ (∀ (s : State) (e : Fin 16), (s.eng e).relay = none → exec (.relayTimeout e) s = .next s)
  ∧ (∀ (s : State) (p : Path) (e : Fin 16), Reaches p s → s.blockOn (R.STY_TRACE_CMD e) = true → Runs (.traceArm p e) s fun t =>
      trState t e = 1 ∧ t.rd (R.STY_TRACE_STATUS e) = 2 ^ 30 ∧ t.evt = s.evt ∧ RegsKept [R.STY_TRACE_STATUS e] s t ∧ SameMem s t)
  ∧ (∀ (s : State) (p : Path) (e : Fin 16) (c : Instr), Reaches p s → s.blockOn (R.STY_TRACE_CMD e) = true → trState s e = 1 →
      c = .traceForce p e ∨ (c = .traceCtTrigger e ∧ s.fd (R.STY_TRACE_CFG e) 22 20 = 3 ∧ s.rd64 (R.STY_TRACE_CT_LO e) ≤ s.now
        ∧ (s.eng e).fired ≠ some (s.rd64 (R.STY_TRACE_CT_LO e))) → Runs c s fun t =>
        trState t e = 2 ∧ t.fd (R.STY_TRACE_STATUS e) 27 16 = s.fd (R.STY_TRACE_STATUS e) 11 0
          ∧ (t.eng e).post = s.fd (R.STY_TRACE_POST e) 11 0 ∧ RegsKept [R.STY_TRACE_STATUS e] s t ∧ SameMem s t)
  ∧ (∀ (s : State) (e : Fin 16), s.now < s.rd64 (R.STY_TRACE_CT_LO e) ∨ (s.eng e).fired = some (s.rd64 (R.STY_TRACE_CT_LO e)) →
      exec (.traceCtTrigger e) s = .next s)
  ∧ (∀ (s : State) (p : Path) (e : Fin 16), Reaches p s → trState s e ≠ 1 → exec (.traceForce p e) s = .next s)
  ∧ (∀ (s : State) (p : Path) (e : Fin 16), Reaches p s → s.blockOn (R.STY_TRACE_CMD e) = true → trState s e = 1 ∨ trState s e = 2 →
      Runs (.traceStop p e) s fun t => trState t e = 3 ∧ t.sty = s.sty ∧ RegsKept [R.STY_TRACE_STATUS e] s t ∧ SameMem s t)
  ∧ ∀ (s : State) (e : Fin 16), trState s e = 2 → (s.eng e).post = 0 → Runs (.tracePostDone e) s fun t =>
      trState t e = 3 ∧ t.sty = s.sty ∧ RegsKept [R.STY_TRACE_STATUS e] s t ∧ SameMem s t

/-- A PWM period of a running TEC writes the on-time of the clamped duty and the signed duty of its code, and drives the gates in the order of R291: the switching leg low off, high on, high off, low on, the other low side on throughout. An overcurrent or open element latches its bit, sets STATE FAULT, drives every gate low and derates both banks. Clearing the last bit starts bring-up; FORCE acts only in OFF and a request for both switches of a leg faults; writes from PCI Express are denied. Settling ends bring-up; 3 s without it is a failure that drives the gates low, and with its ports FAILED and their transmit lanes dark already it changes no other register but the lanes' counts and lines. (11_tec_and_laser R288, 11_tec_and_laser R290, 11_tec_and_laser R291, 11_tec_and_laser R294, 11_tec_and_laser R295, 11_tec_and_laser R296, 11_tec_and_laser R297, 11_tec_and_laser R298, 11_tec_and_laser R311, 06_boot R193) -/
def Obligations.TecDrivesFaultAndRestart : Prop :=
  (∀ (s : State) (k : Fin 4) (ma : BitVec 16), s.domUp 0xA6 = true → tecState s k = 1 ∨ tecState s k = 2 → (s.tk k).gates = 10 →
      (∀ g < 4, ∀ o, (s.tk k).off.getD g none = some o → o ≤ s.ticks) →
      let mag := min (tecQ s k).natAbs (dutyMax s k)
      let t := min (mag * 4000 / 32768) (4000 - 2 * deadTime s k - 160)
      Runs (.pwmPeriod k ma) s fun u =>
        u.rd (R.TEC_DUTY k) = 65536 * t + wrapN 16 (tecCode s k) ∧ (u.tk k).gates = 10
          ∧ u.out = s.out ++ (if mag = 0 then [Out.gates k false true false true]
            else if 0 < tecQ s k then [Out.gates k false false false true]
              ++ (if t = 0 then [] else [Out.gates k true false false true, Out.gates k false false false true]) ++ [Out.gates k false true false true]
            else [Out.gates k false true false false]
              ++ (if t = 0 then [] else [Out.gates k false true true false, Out.gates k false true false false]) ++ [Out.gates k false true false true])
          ∧ u.evt = s.evt ∧ RegsKept [R.TEC_DUTY k, R.TEC_ISNS k] s u ∧ SameMem s u)
  ∧ (∀ (s : State) (k : Fin 4) (c : Instr) (b e : Nat),
      (c = .tecOvercurrent k ∧ b = 1 ∧ e = Ev.TEC_OVERCURRENT ∧ (4 ≤ (s.tk k).ocRun ∨ 3900 < (s.tk k).last.natAbs))
        ∨ (c = .tecOpen k ∧ b = 2 ∧ e = Ev.TEC_OPEN ∧ 1000 ≤ (s.tk k).openRun) → s.bit R.TEC_FAULT (4 * k + b) = false →
      s.evt.queue.length < 1000 → (∀ j < 8, (s.las.safe.getD j 0 = 0 ↔ s.bit R.LAS_STATUS j = false)) → s.top ≠ 3 ∨ s.boot.photo ≠ 0 → Runs c s fun t =>
        t.bit R.TEC_FAULT (4 * k + b) = true ∧ tecState t k = 3 ∧ Raised t e k ∧ (t.tk k).gates = 0
          ∧ Out.gates k false false false false ∈ t.out ∧ t.bit R.LAS_STATUS (2 * k) = true ∧ t.bit R.LAS_STATUS (2 * k + 1) = true
          ∧ supHeld t (4 * k) 137 = true ∧ RegsKept [R.TEC_FAULT, R.TEC_STATE, R.TEC_DUTY k, R.LAS_STATUS] s t ∧ SameMem s t)
  ∧ (∀ (s : State) (p : Path) (k : Fin 4) (v : Word) (c : Instr), Reaches p s → hostLike p = true → RoomFor s →
      c = .tecFaultClear p v ∨ c = .teckForceWrite p k v → Runs c s fun t =>
        Raised t Ev.TEC_DENIED 0 ∧ t.tec = s.tec ∧ t.las = s.las ∧ t.out = s.out ∧ t.regs = s.regs ∧ SameMem s t)
  ∧ (∀ (s : State) (p : Path) (k : Fin 4) (v : Word), Reaches p s → hostLike p = false → s.blockOn R.TEC_FAULT = true →
      s.fd R.TEC_FAULT (4 * k + 2) (4 * k) ≠ 0 → fieldOf v.toNat (4 * k + 2) (4 * k) = 7 →
      (∀ j : Fin 4, j ≠ k → fieldOf v.toNat (4 * j + 2) (4 * j) = 0) → Runs (.tecFaultClear p v) s fun t =>
        t.fd R.TEC_FAULT (4 * k + 2) (4 * k) = 0 ∧ (∀ j : Fin 4, j ≠ k → t.fd R.TEC_FAULT (4 * j + 2) (4 * j) = s.fd R.TEC_FAULT (4 * j + 2) (4 * j))
          ∧ tecState t k = 1 ∧ (t.tk k).start = s.ticks ∧ t.coef (4 * k) 137 10 = 0x80000000 ∧ fieldOf (t.coef (4 * k) 137 0) 1 0 = 1
          ∧ (t.lp (4 * k) 137).hold = false ∧ (t.lp (4 * k) 137).anchor = true ∧ t.bit (R.TEC_FORCE k) 31 = false ∧ SameMem s t)
  ∧ (∀ (s : State) (p : Path) (k : Fin 4) (v : Word), Reaches p s → hostLike p = false → s.blockOn (R.TEC_FORCE k) = true → tecState s k = 0 →
      bitOf v.toNat 31 = true → fieldOf v.toNat 3 0 ∈ [3, 7, 11, 12, 13, 14, 15] → s.evt.queue.length < 1000 → Runs (.teckForceWrite p k v) s fun t =>
        t.bit R.TEC_FAULT (4 * k) = true ∧ tecState t k = 3 ∧ (t.tk k).gates = 0 ∧ Raised t Ev.TEC_SHOOT k ∧ SameMem s t)
  ∧ (∀ (s : State) (p : Path) (k : Fin 4) (v : Word), Reaches p s → hostLike p = false → s.blockOn (R.TEC_FORCE k) = true → tecState s k = 0 →
      bitOf v.toNat 31 = true → violation (s.tk k) (deadTime s k) (fieldOf v.toNat 3 0) s.ticks = none → Runs (.teckForceWrite p k v) s fun t =>
        (t.tk k).gates = fieldOf v.toNat 3 0 ∧ t.rd (R.TEC_FORCE k) = Nat.land v.toNat 0x8000000F ∧ t.evt = s.evt
          ∧ RegsKept [R.TEC_FORCE k] s t ∧ SameMem s t)
  ∧ (∀ (s : State) (p : Path) (k : Fin 4) (v : Word), Reaches p s → hostLike p = false → tecState s k ≠ 0 → bitOf v.toNat 31 = true →
      exec (.teckForceWrite p k v) s = .next s)
  ∧ (∀ (s : State) (k : Fin 4), tecState s k = 1 → s.fd (R.TEC_SETTLE k) 31 16 ≤ (s.tk k).band → s.evt.queue.length < 1000 →
      s.las.safe.getD (2 * k) 0 = 4 → s.las.safe.getD (2 * k + 1) 0 = 4 → s.top ≠ 3 ∨ s.boot.photo ≠ 0 → Runs (.tecSettled k) s fun t =>
        tecState t k = 2 ∧ t.bit R.TEC_STATE (4 * k + 3) = true ∧ Raised t Ev.TEC_SETTLED k ∧ Raised t Ev.LAS_DERATE (2 * k)
          ∧ t.bit R.LAS_STATUS (2 * k) = false ∧ t.bit R.LAS_STATUS (2 * k + 1) = false ∧ RegsKept [R.TEC_STATE, R.LAS_STATUS] s t ∧ SameMem s t)
  ∧ (∀ (s : State) (k : Fin 4), tecState s k = 1 → RoomFor s → Runs (.tecSettleFail k) s fun t =>
      tecState t k = 3 ∧ Raised t Ev.TEC_SETTLE_FAIL k ∧ (t.tk k).gates = 0 ∧ SameMem s t)
  ∧ ∀ (s : State) (k : Fin 4), tecState s k = 1 → RoomFor s → s.top ≠ 3 ∨ s.boot.photo ≠ 0 →
      (∀ i < 4, s.port (4 * k + i) = 6 ∧ ∀ n < 18, s.lane true (4 * k + i) n ∈ [0, 4, 6]) → Runs (.tecSettleFail k) s fun t =>
      t.las = s.las ∧ RegsKept ([R.TEC_STATE, R.TEC_DUTY k] ++ (List.range 4).map (fun i => R.LNK_STATUS (4 * k + i))
        ++ (List.range 36).map fun l => R.LAS_LINE (2 * k + l / 18) (l % 18)) s t ∧ SameMem s t

/-- A LAS_CTL write is denied on PCI Express; elsewhere it forces and releases safe power, each entry and exit with LAS_DERATE, and the bank stays derated while another cause holds. A port shut for input loss alone sends its probe, and light during it restores the port; without light nothing else changes, and a port shut for its tag sends none. The hourly record carries every line. A lit line reads the bank current by its trim, clamped. (11_tec_and_laser R299, 11_tec_and_laser R303, 11_tec_and_laser R310, 11_tec_and_laser R312, 25_events R635) -/
def Obligations.LaserBanksForceRestoreAndRecord : Prop :=
  (∀ (s : State) (p : Path) (v : Word), Reaches p s → hostLike p = true → RoomFor s → Runs (.lasCtlWrite p v) s fun t =>
      Raised t Ev.LAS_DENIED 0 ∧ t.las = s.las ∧ t.regs = s.regs ∧ SameMem s t)
  ∧ (∀ (s : State) (p : Path) (v : Word), Reaches p s → hostLike p = false → s.evt.queue.length < 1000 →
      (∀ b < 8, (s.las.safe.getD b 0 = 0 ↔ s.bit R.LAS_STATUS b = false)) → Runs (.lasCtlWrite p v) s fun t =>
        t.rd R.LAS_CTL = v.toNat % 256
          ∧ (∀ b < 8, bitOf (t.las.safe.getD b 0) 4 = bitOf v.toNat b)
          ∧ (∀ b < 8, t.bit R.LAS_STATUS b = (bitOf v.toNat b || decide (s.las.safe.getD b 0 ≠ 0 ∧ s.las.safe.getD b 0 ≠ 16)))
          ∧ (∀ b < 8, bitOf v.toNat b ≠ s.bit R.LAS_STATUS b → t.bit R.LAS_STATUS b = bitOf v.toNat b → Raised t Ev.LAS_DERATE b)
          ∧ RegsKept [R.LAS_CTL, R.LAS_STATUS] s t ∧ SameMem s t)
  ∧ (∀ (s : State) (p : Fin 16), s.bit R.LAS_SHUT p = true → s.bit R.LAS_SHUT_CAUSE (16 + p) = true → s.bit R.LAS_SHUT_CAUSE p = false →
      s.evt.queue.length < 900 → Runs (.shutPortProbe p true) s fun t =>
        t.bit R.LAS_SHUT p = false ∧ t.bit R.LAS_SHUT_CAUSE (16 + p) = false ∧ p.val ∉ t.las.voaMax ∧ Raised t Ev.LAS_PORT_RESTORE p
          ∧ Out.probe p (probeLane s p) ∈ t.out ∧ SameMem s t)
  ∧ (∀ (s : State) (p : Fin 16), s.bit R.LAS_SHUT p = true → s.bit R.LAS_SHUT_CAUSE (16 + p) = true → s.bit R.LAS_SHUT_CAUSE p = false →
      Runs (.shutPortProbe p false) s fun t =>
        t.out = s.out ++ [.probe p (probeLane s p)] ∧ t.regs = s.regs ∧ t.las = s.las ∧ t.evt = s.evt ∧ SameMem s t)
  ∧ (∀ (s : State) (p : Fin 16) (light : Bool), s.bit R.LAS_SHUT p = false ∨ s.bit R.LAS_SHUT_CAUSE p = true ∨ s.bit R.LAS_SHUT_CAUSE (16 + p) = false →
      exec (.shutPortProbe p light) s = .next s)
  ∧ (∀ s : State, s.evt.queue.length < 900 → Runs .lineHoursRecord s fun t =>
      (∀ i < 36, Raised t Ev.LINE_HOURS (4 * i)) ∧ t.regs = s.regs ∧ t.las = s.las ∧ SameMem s t)
  ∧ ∀ (s : State) (b : Fin 8) (n : Fin 18), Reaches .smbus s → Runs (.rcRead .smbus (R.LAS_LINE b n)) s fun t =>
      ∃ w, t.out = s.out ++ [.read .smbus [w32 w]] ∧ fieldOf w 31 16 = s.fd (R.LAS_LINE b n) 31 16
        ∧ (s.line b n = 2 → s.bit R.LAS_STATUS b = false →
          fieldOf w 15 0 = min (s.fd R.LAS_LINE_MAX 15 0) ((s.lp (2 * b) 0).dac * 800 * s.fd (R.LAS_LINE b n) 27 16 / (65536 * 2048)) % 65536)
        ∧ (s.line b n = 0 ∨ s.line b n = 3 → fieldOf w 15 0 = 0) ∧ t.regs = s.regs ∧ SameMem s t

/-- A sweeping lane's sample records its code where the lane's pixel departs further than before within HALF of the expected code and further than both neighbours' pixels; the code so found queues INTEG and RUN and makes the lane LOCKING. Confirmed, a data lane with codeword lock is LIVE, an express one EXPRESS, one without a slot SPARE, and its lock code is recorded. A failed lock sweeps again, the third retires the lane with cause LOCK. A matching LANE mark gives codeword lock, another raises LANE_MISROUTE; losing it counts those of the eight codewords not yet counted and sends LANE_HOLD. A bad LIVE lane raises LANE_BAD and asks for the lowest spare. (12_lanes R316, 12_lanes R317, 12_lanes R318, 12_lanes R322, 12_lanes R323, 12_lanes R327, 12_lanes R334) -/
def Obligations.LanesSweepLockAndFail : Prop :=
  (∀ (s : State) (tx : Bool) (p : Fin 16) (n : Fin 18) (code : BitVec 16), s.lane tx p n = 1 →
      sweepFound s tx p n = some code.toNat → s.sty.patient = false → (s.eng p).wq.length ≤ 126 → Runs (.laneSweepDone tx p n code) s fun t =>
        t.lane tx p n = 2 ∧ (t.eng p).wq = (s.eng p).wq ++ [(laneRing s tx p n, 10, w32 (code.toNat * 65536)),
            (laneRing s tx p n, 0, w32 (ctlMode s p (laneRing s tx p n) 1))] ∧ t.out = s.out ∧ SameMem s t
          ∧ (tx = true ∨ p.val ≠ s.fd R.CLK_REF_CFG 7 4 →
            t.evt = s.evt ∧ RegsKept [laneReg tx p n, R.STY_STATUS p, R.LAS_LINE (p / 2) n] s t))
  ∧ (∀ (s : State) (tx : Bool) (p : Fin 16) (n : Fin 18) (l : Fin 140) (w : Sweep), LawAlone s p l → l.val = laneRing s tx p n →
      loopMode s p l = 2 → holdCauses s p l = (false, false, false) → s.lane tx p n = 1 → (slotProof s l).kind = .live →
      (s.ls tx p n).sweep = some w → (n.val = 0 → w.base.2.1 = 0) → (n.val = 17 → w.base.2.2 = 0) →
      let pix := fun k => pixVal (slotProof s l) ((lanePix (laneCode tx p n)).headD 0 + k - 1)
      let d := (pix 1 - w.base.1).natAbs
      let found := (sgn 16 (wrapN 16 ((s.coef p l 10 / 2 ^ 16 : Nat) - (sweepAim s tx p n).1))).natAbs ≤ (sweepAim s tx p n).2 ∧ w.depth < d
        ∧ (n.val ≠ 0 → (pix 0 - w.base.2.1).natAbs < d) ∧ (n.val ≠ 17 → (pix 2 - w.base.2.2).natAbs < d)
      Runs (.stylusSlot p l) s fun t => SameMem s t ∧ (t.ls tx p n).sweep.isSome = true
        ∧ ∀ y, (t.ls tx p n).sweep = some y → y.base = w.base ∧ (found → y.code = s.coef p l 10 / 2 ^ 16 ∧ y.depth = d)
          ∧ (¬found → y = w))
  ∧ (∀ (s : State) (tx : Bool) (p : Fin 16) (n : Fin 18) (code : BitVec 16),
      s.lane tx p n ≠ 1 ∨ sweepFound s tx p n ≠ some code.toNat →
      exec (.laneSweepDone tx p n code) s = .next s)
  ∧ (∀ (s : State) (tx : Bool) (p : Fin 16) (n : Fin 18), s.lane tx p n = 2 →
      s.fd (R.LNK_LOCK_CFG p) 23 16 ≤ (s.lp p (laneRing s tx p n)).lk → (s.ls tx p n).recover = false → swapInto s tx p n = none →
      rotUses s tx p n = false → tx = true ∨ (s.lk p).rxRot = none → Runs (.lockConfirm tx p n) s fun t =>
        (s.role tx p n = 2 → t.lane tx p n = 4)
          ∧ (s.role tx p n ≠ 2 → s.slot tx p n ≠ 31 → tx = true ∨ s.bit (laneReg tx p n) 8 = true → t.lane tx p n = 3)
          ∧ (s.role tx p n ≠ 2 → s.slot tx p n ≠ 31 → tx = false → s.bit (laneReg tx p n) 8 = false → t.lane tx p n = 2)
          ∧ (s.role tx p n ≠ 2 → s.slot tx p n = 31 → t.lane tx p n = 5)
          ∧ laneCodeWord t tx p n = some (s.coef p (laneRing s tx p n) 10) ∧ (t.ls tx p n).fails = 0 ∧ SameMem s t)
  ∧ (∀ (s : State) (tx : Bool) (p : Fin 16) (n : Fin 18), s.lane tx p n = 1 ∨ s.lane tx p n = 2 → (s.ls tx p n).fails < 2 →
      Runs (.lockFail tx p n) s fun t => t.lane tx p n = 1 ∧ (t.ls tx p n).fails = (s.ls tx p n).fails + 1 ∧ SameMem s t)
  ∧ (∀ (s : State) (tx : Bool) (p : Fin 16) (n : Fin 18), s.lane tx p n = 1 ∨ s.lane tx p n = 2 → 2 ≤ (s.ls tx p n).fails →
      s.slot tx p n = 31 → swapInto s tx p n = none → rotUses s tx p n = false → Runs (.lockFail tx p n) s fun t =>
        t.lane tx p n = 6 ∧ t.fd (laneReg tx p n) 3 0 = 1 ∧ SameMem s t)
  ∧ (∀ (s : State) (p : Fin 16) (n : Fin 18) (m : LaneMark), s.lane false p n ≠ 0 → s.lane false p n ≠ 6 → markOk s p n m = true →
      Runs (.codewordLock p n m) s fun t => t.bit (laneReg false p n) 8 = true
        ∧ (s.lane false p n = 2 → (s.ls false p n).conf = true → s.slot false p n ≠ 31 → t.lane false p n = 3) ∧ SameMem s t)
  ∧ (∀ (s : State) (p : Fin 16) (n : Fin 18) (m : LaneMark), s.lane false p n ≠ 0 → s.lane false p n ≠ 6 → markOk s p n m = false →
      swapInto s false p n = none → RoomFor s → Runs (.codewordLock p n m) s fun t =>
        Raised t Ev.LANE_MISROUTE (laneCode false p n) ∧ t.lnk = s.lnk ∧ t.regs = s.regs ∧ SameMem s t)
  ∧ (∀ (s : State) (p : Fin 16) (n : Fin 18), s.bit (laneReg false p n) 8 = true → Runs (.codewordLockLoss p n) s fun t =>
      t.bit (laneReg false p n) 8 = false
        ∧ t.rd (R.LNK_FEC_CW_UNCORR p 0 n) = min 0xFFFFFFFF (s.rd (R.LNK_FEC_CW_UNCORR p 0 n) + (8 - (s.ls false p n).badRun))
        ∧ (s.slot false p n = 31 → t.out = s.out)
        ∧ (s.slot false p n ≠ 31 → Sends s t (.lctl p 6 [0, s.slot false p n]) ∧ (t.ls false p n).heldRx = true) ∧ t.evt = s.evt
        ∧ RegsKept [laneReg false p n, R.LNK_FEC_CW_UNCORR p 0 n] s t ∧ SameMem s t)
  ∧ (∀ (s : State) (p : Fin 16) (n m : Fin 18), s.lane false p n = 3 → (s.ls false p n).vac = false → inApply s = false → s.slot false p n ≠ 31 →
      ((s.ls false p n).unc.1 = s.now / 8000 ∧ s.fd (R.LNK_FEC_CFG p) 31 24 ≤ (s.ls false p n).unc.2)
        ∨ ((s.ls false p n).sym.1 = s.now / 8000000 ∧ s.fd (R.LNK_FEC_CFG p) 23 0 < (s.ls false p n).sym.2) →
      (∀ w ∈ (s.lk p).swaps, w.tx = true ∨ w.old ≠ n.val) → lowSpare s false p = some m.val → s.evt.queue.length < 1000 →
      Runs (.laneBad p n) s fun t => Raised t Ev.LANE_BAD (laneCode false p n)
        ∧ (∃ w ∈ (t.lk p).swaps, w.tx = false ∧ w.slot = s.slot false p n ∧ w.old = n ∧ w.new = m)
        ∧ .lctl p 7 [0, s.slot false p n, n, m, 0] ∈ t.out ∧ SameMem s t)
  ∧ ∀ (s : State) (p : Fin 16) (n : Fin 18), s.lane false p n ≠ 3 → exec (.laneBad p n) s = .next s

/-- A block of other than 160 dwords is ill-formed; one on a lane without codeword lock is ignored; its corrected symbols are counted whatever its kind; a DATA block out of the window or already held is counted and discarded; the expected one is delivered and moves the window; one beyond a gap is held. ACK carries the next expected BSN; a received ACK frees the blocks before it and nothing else. RETRY_REQ carries the gaps that have persisted, or what an undecodable block may have held, which also holds the lane; its answer, on a LIVE lane only, carries the missing blocks and counts them. LANE_HOLD and LANE_RESUME move a slot in and out of the held set. An unacknowledged block for 1 ms fails the port. (12_lanes R323, 12_lanes R324, 12_lanes R325, 12_lanes R326, 12_lanes R327) -/
def Obligations.BlocksAcksAndRetry : Prop :=
  (∀ (s : State) (p : Fin 16) (n : Fin 18) (h : BitVec 20) (k : BitVec 5) (ws : List Word), ws.length ≠ 160 →
      exec (.dataBlockReceive p n h k ws) s = .fault .illFormed)
  ∧ (∀ (s : State) (p : Fin 16) (n : Fin 18) (h : BitVec 20) (k : BitVec 5) (ws : List Word), ws.length = 160 →
      s.bit (laneReg false p n) 8 = false → exec (.dataBlockReceive p n h k ws) s = .next s)
  ∧ (∀ (s : State) (p : Fin 16) (n : Fin 18) (h : BitVec 20) (k : BitVec 5) (ws : List Word), ws.length = 160 → s.bit (laneReg false p n) 8 = true →
      fieldOf h.toNat 19 18 ≠ 0 → (s.ls false p n).heldRx = false → swapInto s false p n = none → Runs (.dataBlockReceive p n h k ws) s fun t =>
        t.lk p = s.lk p ∧ t.rd (R.LNK_FEC_CW_CORR p 0 n) = min 0xFFFFFFFF (s.rd (R.LNK_FEC_CW_CORR p 0 n) + (if k = 0 then 0 else 1))
          ∧ t.rd (R.LNK_FEC_SYM_CORR p 0 n) = min 0xFFFFFFFF (s.rd (R.LNK_FEC_SYM_CORR p 0 n) + k.toNat)
          ∧ t.out = s.out ∧ t.evt = s.evt ∧ RegsKept [R.LNK_FEC_CW_CORR p 0 n, R.LNK_FEC_SYM_CORR p 0 n] s t ∧ SameMem s t)
  ∧ (∀ (s : State) (p : Fin 16) (n : Fin 18) (h : BitVec 20) (k : BitVec 5) (ws : List Word), ws.length = 160 → s.bit (laneReg false p n) 8 = true →
      fieldOf h.toNat 19 18 = 0 → (s.ls false p n).heldRx = false → swapInto s false p n = none →
      2047 < (h.toNat % 16384 + 16384 - (s.lk p).rxBsn) % 16384 ∨ (∃ x ∈ (s.lk p).rxHeld, x.1 = h.toNat % 16384) →
      Runs (.dataBlockReceive p n h k ws) s fun t => t.lk p = s.lk p ∧ t.rd (R.LNK_DUP_CNT p) = min 0xFFFFFFFF (s.rd (R.LNK_DUP_CNT p) + 1)
          ∧ t.rd (R.LNK_FEC_CW_CORR p 0 n) = min 0xFFFFFFFF (s.rd (R.LNK_FEC_CW_CORR p 0 n) + (if k = 0 then 0 else 1))
          ∧ t.rd (R.LNK_FEC_SYM_CORR p 0 n) = min 0xFFFFFFFF (s.rd (R.LNK_FEC_SYM_CORR p 0 n) + k.toNat)
          ∧ RegsKept [R.LNK_DUP_CNT p, R.LNK_FEC_CW_CORR p 0 n, R.LNK_FEC_SYM_CORR p 0 n] s t ∧ SameMem s t)
  ∧ (∀ (s : State) (p : Fin 16) (n : Fin 18) (h : BitVec 20) (ws : List Word), ws.length = 160 → s.bit (laneReg false p n) 8 = true →
      fieldOf h.toNat 19 18 = 0 → (s.ls false p n).heldRx = false → swapInto s false p n = none →
      (s.lk p).rxBsn = h.toNat % 16384 → (s.lk p).rxHeld = [] → Runs (.dataBlockReceive p n h 0 ws) s fun t =>
        t.lk p = { s.lk p with rxBsn := (h.toNat % 16384 + 1) % 16384, flits := (s.lk p).flits ++ toFlits 10 ws, sinceAck := (s.lk p).sinceAck + 1 }
          ∧ t.regs = s.regs ∧ t.evt = s.evt ∧ t.out = s.out ∧ SameMem s t)
  ∧ (∀ (s : State) (p : Fin 16) (n : Fin 18) (h : BitVec 20) (ws : List Word), ws.length = 160 → s.bit (laneReg false p n) 8 = true →
      fieldOf h.toNat 19 18 = 0 → (s.ls false p n).heldRx = false → swapInto s false p n = none → (s.lk p).rxBsn < 16384 →
      (s.lk p).rxBsn ≠ h.toNat % 16384 → (h.toNat % 16384 + 16384 - (s.lk p).rxBsn) % 16384 ≤ 2047 →
      (∀ x ∈ (s.lk p).rxHeld, x.1 ≠ h.toNat % 16384 ∧ x.1 ≠ (s.lk p).rxBsn) → Runs (.dataBlockReceive p n h 0 ws) s fun t =>
        t.lk p = { s.lk p with rxHeld := (s.lk p).rxHeld ++ [(h.toNat % 16384, ws)], sinceAck := (s.lk p).sinceAck + 1 }
          ∧ t.regs = s.regs ∧ t.evt = s.evt ∧ t.out = s.out ∧ SameMem s t)
  ∧ (∀ (s : State) (p : Fin 16), Runs (.ackSend p) s fun t => Sends s t (.lctl p 4 [(s.lk p).rxBsn])
      ∧ t.lk p = { s.lk p with sinceAck := 0 } ∧ t.regs = s.regs ∧ t.evt = s.evt ∧ SameMem s t)
  ∧ (∀ (s : State) (p : Fin 16) (b : BitVec 14), (s.lk p).queue = [] → Runs (.ackReceive p b) s fun t =>
      (∀ x, x ∈ (t.lk p).retry ↔ x ∈ (s.lk p).retry ∧ ¬(1 ≤ (b.toNat + 16384 - x.1) % 16384 ∧ (b.toNat + 16384 - x.1) % 16384 ≤ 2048))
        ∧ t.fd (R.LNK_RETRY_STATUS p) 11 0 = (t.lk p).retry.length % 4096 ∧ t.out = s.out ∧ t.evt = s.evt
        ∧ RegsKept [R.LNK_RETRY_STATUS p] s t ∧ SameMem s t)
  ∧ (∀ (s : State) (p : Fin 16) (n : Fin 18), RoomFor s → (Ev.LINK_RETRY, p.val, s.now / 8000) ∉ s.evt.marks → retryRanges false (s.lk p) ≠ [] →
      Runs (.retryReqSend p n false) s fun t =>
        Sends s t (.lctl p 5 ((retryRanges false (s.lk p)).flatMap fun r => [r.1, r.2])) ∧ Raised t Ev.LINK_RETRY (laneCode false p n)
          ∧ t.lk p = s.lk p ∧ t.regs = s.regs ∧ SameMem s t)
  ∧ (∀ (s : State) (p : Fin 16) (n : Fin 18), retryRanges false (s.lk p) = [] → exec (.retryReqSend p n false) s = .next s)
  ∧ (∀ (s : State) (p : Fin 16) (n : Fin 18), RoomFor s → (Ev.LINK_RETRY, p.val, s.now / 8000) ∉ s.evt.marks → Runs (.retryReqSend p n true) s fun t =>
      .lctl p 5 ((retryRanges true (s.lk p)).flatMap fun r => [r.1, r.2]) ∈ t.out ∧ Raised t Ev.LINK_RETRY (laneCode false p n)
        ∧ (s.slot false p n ≠ 31 → .lctl p 6 [0, s.slot false p n] ∈ t.out ∧ (t.ls false p n).heldRx = true)
        ∧ t.rd (R.LNK_FEC_CW_UNCORR p 0 n) = min 0xFFFFFFFF (s.rd (R.LNK_FEC_CW_UNCORR p 0 n) + 1)
        ∧ t.lk p = s.lk p ∧ RegsKept [R.LNK_FEC_CW_UNCORR p 0 n] s t ∧ SameMem s t)
  ∧ (∀ (s : State) (p : Fin 16) (rs : List (BitVec 14 × BitVec 14)) (h : Nat × Nat × List Word) (hs : List (Nat × Nat × List Word)), RoomFor s →
      ((s.lk p).retry.filter fun b => rs.any fun r => decide ((b.1 + 16384 - r.1.toNat) % 16384 ≤ (r.2.toNat + 16384 - r.1.toNat) % 16384)) = h :: hs →
      (Ev.LINK_RETRY, p.val, s.now / 8000) ∉ s.evt.marks → anyLive s p = true → Runs (.retryReqReceive p rs) s fun t =>
        (∀ b ∈ h :: hs, Out.block p b.1 b.2.2 ∈ t.out) ∧ Raised t Ev.LINK_RETRY (laneCode true p h.2.1)
          ∧ t.rd (R.LNK_RETRY_CNT p) = min 0xFFFFFFFF (s.rd (R.LNK_RETRY_CNT p) + (hs.length + 1))
          ∧ t.lk p = s.lk p ∧ RegsKept [R.LNK_RETRY_CNT p] s t ∧ SameMem s t)
  ∧ (∀ (s : State) (p : Fin 16) (rs : List (BitVec 14 × BitVec 14)), anyLive s p = false → exec (.retryReqReceive p rs) s = .next s)
  ∧ (∀ (s : State) (p : Fin 16) (k : BitVec 5), Runs (.laneHold p k) s fun t =>
      (∀ x, x ∈ (t.lk p).held ↔ x ∈ (s.lk p).held ∨ x = k.toNat) ∧ t.regs = s.regs ∧ t.out = s.out ∧ t.evt = s.evt ∧ SameMem s t)
  ∧ (∀ (s : State) (p : Fin 16) (k : BitVec 5), (s.lk p).queue = [] → Runs (.laneResume p k) s fun t =>
      (∀ x, x ∈ (t.lk p).held ↔ x ∈ (s.lk p).held ∧ x ≠ k.toNat) ∧ t.regs = s.regs ∧ t.out = s.out ∧ t.evt = s.evt ∧ SameMem s t)
  ∧ (∀ (s : State) (p : Fin 16), (s.lk p).retry ≠ [] → s.port p = 3 ∨ s.port p = 4 ∨ s.port p = 5 → s.evt.queue.length < 1000 →
      Runs (.retryTimeout p) s fun t => t.port p = 6 ∧ Raised t Ev.PORT_FAILED p ∧ SameMem s t)
  ∧ ∀ (s : State) (p : Fin 16), (s.lk p).retry = [] → exec (.retryTimeout p) s = .next s

/-- A TRAIN that completes the conditions of R330 moves a TRAINING port to CREDENTIALS; otherwise it is only kept. At the end of TRAIN_MS enough lanes end training and too few fail the port. In CREDENTIALS the port sends its frame until both answers are held, and 100 ms without an exchange fail it. A FAILED port that may, its domain up and its TEC settled, trains again, and so LNK_CMD RETRAIN has it. Port commands are denied on PCI Express and while the port is off. LOOP_ON needs a DARK or FAILED port with a loopback verdict, not shut for input loss; LOOP_OFF ends it. (12_lanes R329, 12_lanes R330, 12_lanes R331, 12_lanes R332, 12_lanes R343, 12_lanes R344, 12_lanes R345, 16_cluster_agreement R424) -/
def Obligations.PortsTrainExchangeAndLoop : Prop :=
  (∀ (s : State) (p : Fin 16) (m : TrainMsg), s.port p = 1 → s.bit (R.LNK_STATUS p) 4 = false → m.plate.toNat = s.curPlate → dataLanes s true p ≠ [] → applyWaits s p = false →
      (∀ n < 18, (bitOf m.txLocal.toNat n = true → s.bit (laneReg false p n) 8 = true) ∧ (s.slot true p n ≠ 31 → bitOf m.rxLock.toNat n = true)) →
      Runs (.trainReceive p m) s fun t => t.port p = 2 ∧ (t.lk p).train = some m ∧ (t.lk p).cred = none ∧ t.evt = s.evt
        ∧ RegsKept [R.LNK_STATUS p, R.AGREE_STATUS, R.PLATE_RP_STATUS] s t ∧ SameMem s t)
  ∧ (∀ (s : State) (p : Fin 16) (m : TrainMsg), s.port p ≠ 1 ∨ m.plate.toNat ≠ s.curPlate →
      exec (.trainReceive p m) s = .next (s.uLk p fun L => { L with train := some m }))
  ∧ (∀ (s : State) (p : Fin 16), s.port p = 1 → s.bit (R.LNK_STATUS p) 4 = false → (∀ tx, upLanes s tx p = dataLanes s tx p) →
      (∀ tx, s.fd (R.LNK_CFG p) 28 24 ≤ (dataLanes s tx p).length) → Runs (.trainTimeout p) s fun t => t.port p = 2 ∧ t.evt = s.evt ∧ SameMem s t)
  ∧ (∀ (s : State) (p : Fin 16) (tx : Bool), s.port p = 1 → (upLanes s tx p).length < s.fd (R.LNK_CFG p) 28 24 → s.evt.queue.length < 1000 →
      Runs (.trainTimeout p) s fun t => t.port p = 6 ∧ Raised t Ev.LINK_TRAIN_FAIL p ∧ Raised t Ev.PORT_FAILED p ∧ SameMem s t)
  ∧ (∀ (s : State) (p : Fin 16), s.port p = 2 → (s.lk p).cred = none ∨ (s.lk p).peerV = none → Runs (.credSend p) s fun t =>
      Sends s t (.lctl p 2 ((credFrame s p).map (·.toNat))) ∧ (credFrame s p).length = 12
        ∧ (credFrame s p).getLast? = some (w32 (crc32 (dwBytes ((credFrame s p).take 11)))) ∧ t.regs = s.regs ∧ t.evt = s.evt ∧ SameMem s t)
  ∧ (∀ (s : State) (p : Fin 16), s.port p = 2 → s.evt.queue.length < 1000 → Runs (.credTimeout p) s fun t =>
      t.port p = 6 ∧ Raised t Ev.PORT_FAILED p ∧ SameMem s t)
  ∧ (∀ (s : State) (p : Fin 16) (c : Instr), s.port p ≠ 2 ∧ (c = .credSend p ∨ c = .credTimeout p)
      ∨ ((s.lk p).cred.isSome = true ∧ (s.lk p).peerV.isSome = true) ∧ c = .credSend p ∨ s.port p ≠ 1 ∧ c = .trainTimeout p
      ∨ (s.port p ≠ 6 ∨ s.bit R.LAS_SHUT p = true) ∧ c = .portRetrainTimer p → exec c s = .next s)
  ∧ (∀ (s : State) (p : Fin 16), s.port p = 6 → s.bit R.LAS_SHUT p = false → s.domUp (0x80 + p) = true → tecOut s p = false → verdict s p = 1 →
      Runs (.portRetrainTimer p) s fun t =>
      t.port p = 1 ∧ (t.lk p).train = none ∧ (t.lk p).swaps = [] ∧ (t.lk p).sent = List.replicate 10 0 ∧ (∃ f, .lctl p 1 f ∈ t.out) ∧ SameMem s t)
  ∧ (∀ (s : State) (q : Path) (p : Fin 16) (v : Word) (c : Instr), Reaches q s → hostLike q = true ∨ s.dom (0x80 + p) ≠ 2 → RoomFor s →
      c ∈ [Instr.lnkRetrain q p v, .lnkRotateNow q p v, .lnkSwap q p v, .lnkRetire q p v, .loopOn q p v, .loopOff q p v] → Runs c s fun t =>
        Raised t Ev.LNK_DENIED 0 ∧ t.lnk = s.lnk ∧ t.sty = s.sty ∧ t.out = s.out ∧ t.regs = s.regs ∧ SameMem s t)
  ∧ (∀ (s : State) (q : Path) (p : Fin 16) (v : Word), Reaches q s → hostLike q = false → s.domUp (0x80 + p) = true → tecOut s p = false →
      s.bit R.LAS_SHUT p = false → s.bit (R.LNK_PEER p) 31 = true → verdict s p = 1 → Runs (.lnkRetrain q p v) s fun t => t.port p = 1 ∧ (∃ f, .lctl p 1 f ∈ t.out) ∧ SameMem s t)
  ∧ (∀ (s : State) (q : Path) (p : Fin 16) (v : Word), Reaches q s → hostLike q = false → s.dom (0x80 + p) = 2 → RoomFor s →
      (s.port p ≠ 0 ∧ s.port p ≠ 6) ∨ verdict s p ≠ 2 ∨ (s.bit R.LAS_SHUT p = true ∧ s.bit R.LAS_SHUT_CAUSE (16 + p) = true) → Runs (.loopOn q p v) s fun t =>
        Raised t Ev.LNK_CMD_REFUSED p ∧ t.lnk = s.lnk ∧ t.regs = s.regs ∧ SameMem s t)
  ∧ (∀ (s : State) (q : Path) (p : Fin 16) (v : Word), Reaches q s → hostLike q = false → s.dom (0x80 + p) = 2 → s.bit R.LAS_SHUT p = false →
      s.port p = 0 ∨ s.port p = 6 → verdict s p = 2 → Runs (.loopOn q p v) s fun t =>
        t.port p = 1 ∧ t.bit (R.LNK_STATUS p) 4 = true ∧ (∃ f, .lctl p 1 f ∈ t.out) ∧ SameMem s t)
  ∧ (∀ (s : State) (q : Path) (p : Fin 16) (v : Word), Reaches q s → hostLike q = false → s.domUp (0x80 + p) = true → tecOut s p = false →
      s.bit R.LAS_SHUT p = true → s.bit R.LAS_SHUT_CAUSE (16 + p) = false → s.port p = 0 ∨ s.port p = 6 → verdict s p = 2 → Runs (.loopOn q p v) s fun t =>
        t.port p = 1 ∧ t.bit (R.LNK_STATUS p) 4 = true ∧ t.bit R.LAS_SHUT p = false ∧ (∃ f, .lctl p 1 f ∈ t.out) ∧ SameMem s t)
  ∧ ∀ (s : State) (q : Path) (p : Fin 16) (v : Word), Reaches q s → hostLike q = false → s.dom (0x80 + p) = 2 → s.bit (R.LNK_STATUS p) 4 = true →
      s.bit (R.LNK_PEER p) 31 = false → Runs (.loopOff q p v) s fun t => t.port p = 0 ∧ t.bit (R.LNK_STATUS p) 4 = false ∧ t.evt = s.evt
        ∧ RegsKept [R.LNK_STATUS p, R.AGREE_STATUS] s t ∧ SameMem s t

/-- A SWAP_REQ begins a swap to the named spare; when the sender has SWAP_READY or the receiver what lets it say SWAP_DONE, its slot moves, both lanes are marked remapped, and LANE_SWAP is raised; a swap that fails drops the slot. A recovered lane becomes SPARE at both ends, one that is not is RETIRED. A rotation starts on the lane of R339 or says why not, moves L to S, calibrates L, moves back and parks S, or retires L for wear, or gives L to a slot dropped meanwhile; backing out gives the result of R342 for its phase. LNK_CMD ROTATE_NOW, SWAP and RETIRE act on a local data lane and are refused for any other. (12_lanes R333, 12_lanes R334, 12_lanes R335, 12_lanes R336, 12_lanes R339, 12_lanes R340, 12_lanes R341, 12_lanes R342, 12_lanes R344, 24_background R617) -/
def Obligations.SwapsRecoveryAndRotation : Prop :=
  (∀ (s : State) (p : Fin 16) (tx : Bool) (k : BitVec 5) (old : Fin 18) (new : SwapTo), (∀ w ∈ (s.lk p).swaps, w.tx ≠ tx ∨ w.slot ≠ k.toNat) →
      s.slot tx p old = k.toNat → k.toNat ≠ 31 → isSpare s tx p new.ch = true → Runs (.swapReq p tx k old new) s fun t =>
        (t.lk p).swaps = (s.lk p).swaps ++ [⟨tx, k.toNat, old, new.ch, false, false, new.why, 0⟩]
          ∧ (retireOf new.why ≠ 0 → (t.ls tx p old).retire = retireOf new.why)
          ∧ (t.lane tx p new.ch = 1 ∨ t.lane tx p new.ch = 2) ∧ SameMem s t)
  ∧ (∀ (s : State) (p : Fin 16) (tx : Bool) (k : BitVec 5) (old : Fin 18) (new : SwapTo), (∃ w ∈ (s.lk p).swaps, w.tx = tx ∧ w.slot = k.toNat) →
      exec (.swapReq p tx k old new) s = .next s)
  ∧ (∀ (s : State) (p : Fin 16) (k : BitVec 5) (new : Fin 18), Runs (.swapReady p k new) s fun t =>
      (∀ w ∈ (t.lk p).swaps, w.tx = true → w.slot = k.toNat → w.new = new → w.dup = true) ∧ (t.lk p).swaps.length = (s.lk p).swaps.length
        ∧ t.regs = s.regs ∧ t.evt = s.evt ∧ t.out = s.out ∧ SameMem s t)
  ∧ (∀ (s : State) (p : Fin 16) (tx : Bool) (k : BitVec 5) (old new : Fin 18) (w : Swap), k.toNat ≠ 31 → old ≠ new → w.old = old →
      ((s.lk p).swaps.find? fun w => w.tx == tx && w.slot == k.toNat && w.new == new.val) = some w → s.slot tx p old = k.toNat →
      s.lane tx p new = 3 → (if tx then w.dup else swapReadyRx s p w) = true → s.evt.queue.length < 1000 → Runs (.laneSwapComplete p tx k new) s fun t =>
        t.slot tx p new = k.toNat ∧ t.slot tx p old = 31 ∧ t.bit (laneReg tx p new) 25 = true ∧ t.bit (laneReg tx p old) 25 = true
          ∧ t.rd (R.LNK_LANE_SWAPS p (b2n tx) new) = min 0xFFFFFFFF (s.rd (R.LNK_LANE_SWAPS p (b2n tx) new) + 1)
          ∧ Raised t Ev.LANE_SWAP (laneCode tx p old) ∧ w ∉ (t.lk p).swaps ∧ (tx = false → .lctl p 8 [1, k.toNat, new] ∈ t.out) ∧ SameMem s t)
  ∧ (∀ (s : State) (p : Fin 16) (tx : Bool) (k : BitVec 5) (old : Fin 18) (w : Swap), w.old = old →
      ((s.lk p).swaps.find? fun w => w.tx == tx && w.slot == k.toNat) = some w → s.evt.queue.length < 1000 →
      Runs (.swapFail p tx k) s fun t => t.slot tx p old = 31 ∧ Raised t Ev.SWAP_FAIL (laneCode tx p old)
        ∧ w ∉ (t.lk p).swaps ∧ SameMem s t)
  ∧ (∀ (s : State) (tx : Bool) (p : Fin 16) (n : Fin 18), (s.ls tx p n).recover = true → (s.ls tx p n).conf = true →
      (∀ c ∈ s.proof.caps, c.lane ≠ some (laneCode tx p n)) → s.evt.queue.length < 1000 → Runs (.laneRecovered tx p n) s fun t =>
        t.lane tx p n = 5 ∧ t.bit (laneReg tx p n) 24 = false ∧ (t.ls tx p n).recover = false ∧ .lctl p 10 [b2n tx, n, 5] ∈ t.out
          ∧ Raised t Ev.LANE_RECOVERED (laneCode tx p n) ∧ SameMem s t)
  ∧ (∀ (s : State) (tx : Bool) (p : Fin 16) (n : Fin 18) (l : Bool), (s.ls tx p n).recover = true → Runs (.recoveryTimeout tx p n l) s fun t =>
      t.lane tx p n = 6 ∧ t.fd (laneReg tx p n) 3 0 = (if l then 1 else 4) ∧ .lctl p 10 [b2n tx, n, 6] ∈ t.out ∧ SameMem s t)
  ∧ (∀ (s : State) (p : Fin 16) (tx : Bool) (n : Fin 18) (r : Bool), s.slot tx p n = 31 → s.lane tx p n ≠ 0 → s.lane tx p n ≠ 6 →
      swapInto s tx p n = none → s.evt.queue.length < 1000 → Runs (.laneRole p tx n r) s fun t =>
        t.lane tx p n = (if r then 6 else 5) ∧ (r = false → (tx = true ∨ (s.lk p).rxRot.map (·.1) ≠ some n.val) → Raised t Ev.LANE_RECOVERED (laneCode tx p n)) ∧ SameMem s t)
  ∧ (∀ (s : State) (p : Fin 16) (n : Fin 18), Runs (.rotAsk p n) s fun t => n.val ∈ (t.lk p).asks ∧ t.regs = s.regs ∧ t.evt = s.evt
      ∧ t.out = s.out ∧ SameMem s t)
  ∧ (∀ (s : State) (p : Fin 16) (why : Nat), (s.lk p).rot = none → rotStopped s p = some why → RoomFor s → Runs (.rotationStart p) s fun t =>
      Raised t Ev.ROT_STOPPED p ∧ (t.lk p).rot = none ∧ t.regs = s.regs ∧ t.out = s.out ∧ SameMem s t)
  ∧ (∀ (s : State) (p : Fin 16) (ch sp : Fin 18) (w : Bool), (s.lk p).rot = none → rotStopped s p = none → (s.lk p).now = none →
      rotChoice s p = some (ch.val, w) → lowSpare s true p = some sp.val → s.evt.queue.length < 1000 → Runs (.rotationStart p) s fun t =>
        (t.lk p).rot = some ⟨ch, sp, 1, w, []⟩ ∧ .lctl p 7 [1, s.slot true p ch, ch, sp, if w then 3 else 6] ∈ t.out ∧ (t.lk p).lastRot = ch ∧ Raised t Ev.ROT_START (laneCode true p ch) ∧ t.bit (R.LNK_STATUS p) 31 = true
          ∧ t.rd (R.LNK_ROT_STATUS p) = 2 ^ 28 + 65536 * laneCode true p ch + laneCode true p sp
          ∧ (t.lane true p sp = 1 ∨ t.lane true p sp = 2) ∧ SameMem s t)
  ∧ (∀ (s : State) (p : Fin 16) (ch sp : Fin 18) (k : Nat), (s.lk p).rot = some ⟨ch, sp, k, false, []⟩ → ch ≠ sp → s.evt.queue.length < 1000 →
      k = 1 ∧ s.lane true p sp = 3 ∨ k = 2 ∨ k = 3 ∧ s.lane true p ch = 2 ∧ (s.ls true p ch).conf = true ∨ k = 4 ∨ k = 5 →
      Runs (.rotationPhaseDone p) s fun t =>
        (k < 5 → (t.lk p).rot = some ⟨ch, sp, k + 1, false, []⟩ ∧ t.fd (R.LNK_ROT_STATUS p) 31 28 = k + 1)
          ∧ (k = 1 → t.slot true p sp = s.slot true p ch ∧ t.slot true p ch = s.slot true p ch)
          ∧ (k = 2 → t.slot true p ch = 31 ∧ t.slot true p sp = s.slot true p sp)
          ∧ (k = 3 → t.slot true p ch = s.slot true p sp ∧ t.lane true p ch = 3)
          ∧ (k = 4 → t.slot true p sp = 31)
          ∧ (k = 5 → (t.lk p).rot = none ∧ t.lane true p sp = 5 ∧ Raised t Ev.ROT_DONE (laneCode true p ch)
            ∧ t.fd (R.LNK_ROT_CNT p) 15 0 = min 0xFFFF (s.fd (R.LNK_ROT_CNT p) 15 0 + 1)) ∧ SameMem s t)
  ∧ (∀ (s : State) (p : Fin 16) (ch sp : Fin 18) (k : Nat) (w : Bool) (o : List (Nat × Nat)), (s.lk p).rot = some ⟨ch, sp, k, w, o⟩ → 1 ≤ k → k ≤ 5 →
      s.evt.queue.length < 1000 → Runs (.rotBackout p) s fun t => (t.lk p).rot = none ∧ t.bit (R.LNK_STATUS p) 31 = false
        ∧ (k ≤ 4 → Raised t Ev.ROT_BACKOUT (laneCode true p ch) ∧ t.fd (R.LNK_ROT_CNT p) 31 16 = min 0xFFFF (s.fd (R.LNK_ROT_CNT p) 31 16 + 1))
        ∧ (k ≤ 2 → t.slot true p sp = 31 ∧ t.lane true p sp = 5 ∧ .lctl p 10 [1, sp, 5] ∈ t.out)
        ∧ (k = 3 ∨ k = 4 → t.slot true p ch = 31 ∧ t.lane true p ch = 5 ∧ t.bit (laneReg true p ch) 24 = decide (k = 3)
          ∧ .lctl p 10 [1, ch, 5] ∈ t.out)
        ∧ (k = 5 → t.lane true p sp = 5 ∧ Raised t Ev.ROT_DONE (laneCode true p ch)) ∧ SameMem s t)
  ∧ (∀ (s : State) (p : Fin 16) (ch sp : Fin 18) (o : List (Nat × Nat)), (s.lk p).rot = some ⟨ch, sp, 2, true, o⟩ → s.evt.queue.length < 1000 →
      Runs (.rotationPhaseDone p) s fun t => (t.lk p).rot = none ∧ t.lane true p ch = 6 ∧ t.fd (laneReg true p ch) 3 0 = 3
        ∧ t.slot true p ch = 31 ∧ Raised t Ev.ROT_DONE (laneCode true p ch) ∧ SameMem s t)
  ∧ (∀ (s : State) (p : Fin 16) (ch sp : Fin 18) (k n : Nat) (o : List (Nat × Nat)), (s.lk p).rot = some ⟨ch, sp, 3, false, (k, n) :: o⟩ →
      s.lane true p ch = 2 → (s.ls true p ch).conf = true → s.evt.queue.length < 1000 → Runs (.rotationPhaseDone p) s fun t =>
        (t.lk p).rot = none ∧ ⟨true, k, n, ch, false, true, .recover, 0⟩ ∈ (t.lk p).swaps ∧ .lctl p 7 [1, k, n, ch, 0] ∈ t.out
          ∧ Raised t Ev.ROT_DONE (laneCode true p ch) ∧ SameMem s t)
  ∧ (∀ (s : State) (p : Fin 16) (c : Instr), (s.lk p).rot = none ∧ (c = .rotBackout p ∨ c = .rotationPhaseDone p) ∨ rotStarving s p = false ∧ c = .rotStarved p →
      exec c s = .next s)
  ∧ (∀ (s : State) (p : Fin 16), s.bit (R.LNK_ROT_CFG p) 31 = true → s.port p = 4 →
      (s.lk p).starve.1 + 4 * (16000000 * s.fd (R.LNK_ROT_CFG p) 15 0) ≤ s.ticks → RoomFor s → Runs (.rotStarved p) s fun t =>
        Raised t Ev.ROT_STARVED p ∧ (t.lk p).starve = (s.ticks, 0) ∧ t.regs = s.regs ∧ SameMem s t)
  ∧ (∀ (s : State) (q : Path) (p : Fin 16) (v : Word) (c : Instr), Reaches q s → hostLike q = false → s.dom (0x80 + p) = 2 → RoomFor s →
      17 < fieldOf v.toNat 4 0 ∨ s.slot (bitOf v.toNat 5) p (fieldOf v.toNat 4 0) = 31 →
      c = .lnkSwap q p v ∨ c = .lnkRetire q p v ∨ (c = .lnkRotateNow q p v ∧ bitOf v.toNat 5 = true) → Runs c s fun t =>
        Raised t Ev.LNK_CMD_REFUSED p ∧ t.lnk = s.lnk ∧ t.regs = s.regs ∧ t.out = s.out ∧ SameMem s t)
  ∧ (∀ (s : State) (q : Path) (p : Fin 16) (v : Word), Reaches q s → hostLike q = false → s.dom (0x80 + p) = 2 → bitOf v.toNat 5 = true →
      fieldOf v.toNat 4 0 ≤ 17 → s.slot true p (fieldOf v.toNat 4 0) ≠ 31 → Runs (.lnkRotateNow q p v) s fun t =>
        (t.lk p).now = some (fieldOf v.toNat 4 0) ∧ t.regs = s.regs ∧ t.evt = s.evt ∧ t.out = s.out ∧ SameMem s t)
  ∧ ∀ (s : State) (q : Path) (p : Fin 16) (v : Word) (m k : Nat) (c : Instr), Reaches q s → hostLike q = false → s.dom (0x80 + p) = 2 →
      fieldOf v.toNat 4 0 ≤ 17 → s.slot (bitOf v.toNat 5) p (fieldOf v.toNat 4 0) ≠ 31 → s.lane (bitOf v.toNat 5) p (fieldOf v.toNat 4 0) = 3 →
      (s.ls (bitOf v.toNat 5) p (fieldOf v.toNat 4 0)).vac = false → (s.lk p).swaps = [] → lowSpare s (bitOf v.toNat 5) p = some m → c = .lnkSwap q p v ∧ k = 0 ∨ c = .lnkRetire q p v ∧ k = 5 → Runs c s fun t =>
        (t.lk p).swaps = [⟨bitOf v.toNat 5, s.slot (bitOf v.toNat 5) p (fieldOf v.toNat 4 0), fieldOf v.toNat 4 0, m, false, true,
            if k = 5 then .command else .recover, 0⟩]
          ∧ (k = 5 → (t.ls (bitOf v.toNat 5) p (fieldOf v.toNat 4 0)).retire = 5) ∧ SameMem s t

/-- A participant answers READY, opening the XID, or REFUSE with the first reason that applies, and says so on the order transports. A COMMIT is held for apply_CT, a late one applied as a catch-up, an ABANDON closes the XID; decisions for another XID change nothing. The drain names the touched ports, the apply puts the target plate in force, the route swap ends it with REPLATE_APPLIED and, the rings sent back to lock before it, names the touched ports not up. Without a decision the plate stays, and the XID closes as an orphan. The doorbell ends in exactly one result. (14_replating R372, 14_replating R373, 14_replating R375, 14_replating R376, 14_replating R377, 14_replating R379, 14_replating R381, 14_replating R384, 14_replating R394, 14_replating R395, 14_replating R396) -/
def Obligations.MembersAnswerDecideAndApply : Prop :=
  (∀ (s : State) (m : PlateMsg) (c : BitVec 4) (d : Word64), s.bit R.CL_STATUS 30 = false → s.bit R.SCRIBE_STATUS 23 = false →
      participant s m.target.toNat = true → s.repl.open_ = none → s.repl.app = none → slotValid s m.target.toNat = true → coldLines s m.target.toNat = [] →
      (∀ p < 16, (s.lk p).rot = none) →
      let reason := if s.top ≠ 5 then 1 else if s.fd R.TIME_STATUS 2 0 = 4 then 2 else if d.toNat ≠ s.rd64 R.BOOT_PLATESET_LO then 3
        else if m.from_.toNat ≠ s.curPlate then 5 else if m.applyCt.toNat % 8000 ≠ 0 ∨ m.applyCt.toNat < s.now + 320000 then 7 else 0
      Runs (.prepareReceive m c d) s fun t =>
        t.repl = { s.repl with open_ := if reason = 0 then some ⟨m, false⟩ else none }
          ∧ t.fd R.PLATE_RP_STATUS 31 28 = (if reason = 0 then 1 else 0) ∧ t.fd R.PLATE_RP_STATUS 27 26 = (if reason = 0 then 1 else 2)
          ∧ t.fd R.PLATE_RP_STATUS 25 22 = reason ∧ t.fd R.PLATE_RP_STATUS 21 16 = m.target.toNat ∧ t.fd R.PLATE_RP_STATUS 15 0 = m.xid.toNat
          ∧ t.rd64 R.PLATE_RP_APPLY_CT_LO = m.applyCt.toNat
          ∧ Ordered t [w32 (2 ^ 24 * (if reason = 0 then 0x31 else 0x32) + reason), w32 (65536 * s.chip + m.xid.toNat)] ∧ SameMem s t)
  ∧ (∀ (s : State) (m : PlateMsg) (c : BitVec 4) (d : Word64), s.bit R.CL_STATUS 30 = false → participant s m.target.toNat = false →
      exec (.prepareReceive m c d) s = .next s)
  ∧ (∀ (s : State) (m o : PlateMsg), s.repl.open_ = some ⟨o, false⟩ → o.xid = m.xid → s.repl.app = none → Runs (.commitReceive m) s fun t =>
      t.repl = { s.repl with open_ := some ⟨m, true⟩, catch_ := if s.now < m.applyCt.toNat then s.repl.catch_ else some m }
        ∧ t.fd R.PLATE_RP_STATUS 31 28 = 2 ∧ t.evt = s.evt ∧ t.out = s.out ∧ RegsKept [R.PLATE_RP_STATUS] s t ∧ SameMem s t)
  ∧ (∀ (s : State) (m o : PlateMsg) (k : Bool), s.repl.open_ = some ⟨o, k⟩ → o.xid = m.xid → s.repl.app = none → RoomFor s →
      Runs (.abandonReceive m) s fun t => t.repl = { s.repl with open_ := none, catch_ := none } ∧ Raised t Ev.REPLATE_ABANDONED m.target.toNat
        ∧ t.fd R.PLATE_RP_CNT 31 16 = min 0xFFFF (s.fd R.PLATE_RP_CNT 31 16 + 1) ∧ t.fd R.PLATE_RP_STATUS 31 28 = 0
        ∧ RegsKept [R.PLATE_RP_STATUS, R.PLATE_RP_CNT] s t ∧ SameMem s t)
  ∧ (∀ (s : State) (m : PlateMsg) (c : Instr), (∀ o, s.repl.open_ = some o → o.msg.xid ≠ m.xid) → c = .commitReceive m ∨ c = .abandonReceive m →
      exec c s = .next s)
  ∧ (∀ (s : State) (m : PlateMsg), s.repl.open_ = some ⟨m, true⟩ → s.repl.app = none → s.repl.catch_ = none → Runs .replateDrain s fun t =>
      t.fd R.PLATE_RP_STATUS 31 28 = 3 ∧ t.rd R.PLATE_RP_PORTS = applyPorts s s.curPlate m.target.toNat
        ∧ t.repl = s.repl ∧ t.evt = s.evt ∧ t.out = s.out ∧ RegsKept [R.PLATE_RP_STATUS, R.PLATE_RP_PORTS] s t ∧ SameMem s t)
  ∧ (∀ (s : State) (m : PlateMsg), s.repl.open_ = some ⟨m, true⟩ → s.repl.app = none → s.repl.catch_ = none → Runs .replateApply s fun t =>
      t.curPlate = m.target.toNat ∧ t.bit R.PLATE_STATUS 18 = true ∧ t.rd64 R.PLATE_APPLY_CT_LO = m.applyCt.toNat
        ∧ (∃ a, t.repl.app = some a ∧ a.msg.target = m.target ∧ a.base = m.applyCt.toNat) ∧ t.fd R.PLATE_RP_STATUS 31 28 ∈ [4, 5] ∧ SameMem s t)
  ∧ (∀ s : State, s.repl.open_ = none → s.repl.catch_ = none → s.repl.app = none → ∀ c, c = .replateDrain ∨ c = .replateApply ∨ c = .routeSwap
      ∨ c = .replateNoDecision ∨ c = .replateOrphan ∨ c = .replateCatchup → exec c s = .next s)
  ∧ (∀ (s : State) (a : Apply), s.repl.app = some a → isEtcher s = false → (∀ p < 16, (s.lk p).queue = []) → s.evt.queue.length < 900 →
      Runs .routeSwap s fun t => t.repl.app = none ∧ t.repl.open_ = none ∧ t.fd R.PLATE_RP_STATUS 31 28 = 0 ∧ t.bit R.PLATE_STATUS 18 = false
        ∧ Raised t Ev.REPLATE_APPLIED a.msg.target.toNat ∧ t.fd R.PLATE_RP_CNT 15 0 = min 0xFFFF (s.fd R.PLATE_RP_CNT 15 0 + 1)
        ∧ (a.relock = true →
          ∀ p < 16, t.bit R.PLATE_RP_LATE p = (s.bit R.PLATE_RP_PORTS p && !(s.port p == 3 || s.port p == 4 || s.port p == 5))) ∧ SameMem s t)
  ∧ (∀ (s : State) (m : PlateMsg), s.repl.open_ = some ⟨m, false⟩ → RoomFor s → Runs .replateNoDecision s fun t =>
      Raised t Ev.REPLATE_NO_DECISION m.target.toNat ∧ t.repl = s.repl ∧ t.regs = s.regs ∧ SameMem s t)
  ∧ (∀ (s : State) (m : PlateMsg), s.repl.open_ = some ⟨m, false⟩ → RoomFor s → Runs .replateOrphan s fun t =>
      Raised t Ev.REPLATE_ORPHAN m.target.toNat ∧ t.repl = { s.repl with open_ := none } ∧ t.fd R.PLATE_RP_STATUS 31 28 = 0
        ∧ RegsKept [R.PLATE_RP_STATUS] s t ∧ SameMem s t)
  ∧ (∀ (s : State) (m : PlateMsg), s.repl.open_ = none → s.repl.app = none → slotValid s m.target.toNat = true → m.target.toNat ≠ s.curPlate →
      Runs (.plateStateReceive m) s fun t => (∃ x, t.repl.catch_ = some x ∧ x.target = m.target ∧ x.drain = m.drain ∧ x.routeAt = m.routeAt)
        ∧ t.regs = s.regs ∧ t.evt = s.evt ∧ SameMem s t)
  ∧ (∀ (s : State) (m : PlateMsg), m.target.toNat = s.curPlate → exec (.plateStateReceive m) s = .next s)
  ∧ (∀ (s : State) (m : PlateMsg), s.repl.catch_ = some m → s.repl.app = none → s.evt.queue.length < 900 → Runs .replateCatchup s fun t =>
      t.curPlate = m.target.toNat ∧ t.rd64 R.PLATE_APPLY_CT_LO = s.now ∧ t.fd R.PLATE_RP_STATUS 31 28 = 6 ∧ t.repl.catch_ = none
        ∧ Raised t Ev.REPLATE_CATCHUP m.target.toNat ∧ SameMem s t)
  ∧ (∀ (s : State) (p : Path) (v : Word), Reaches p s → bitOf v.toNat 31 = false → exec (.plateReq p v) s = .next s)
  ∧ (∀ (s : State) (p : Path) (v : Word), Reaches p s → bitOf v.toNat 31 = true → s.bit R.PLATE_REQ_STATUS 31 = true → RoomFor s →
      Runs (.plateReq p v) s fun t => Raised t Ev.PLATE_REQ_DONE (fieldOf v.toNat 5 0) ∧ t.repl = s.repl ∧ t.regs = s.regs ∧ SameMem s t)
  ∧ (∀ (s : State) (p : Path) (v : Word), Reaches p s → bitOf v.toNat 31 = true → s.bit R.PLATE_REQ_STATUS 31 = false → etcherSeen s = false → RoomFor s →
      Runs (.plateReq p v) s fun t => Raised t Ev.PLATE_REQ_DONE (fieldOf v.toNat 5 0) ∧ t.repl = s.repl
        ∧ t.rd R.PLATE_REQ_STATUS = 2 ^ 24 * 7 + 65536 * fieldOf v.toNat 23 16 + 256 * p.code + fieldOf v.toNat 5 0
        ∧ RegsKept [R.PLATE_REQ_STATUS] s t ∧ SameMem s t)
  ∧ (∀ (s : State) (p : Path) (v : Word), Reaches p s → bitOf v.toNat 31 = true → s.bit R.PLATE_REQ_STATUS 31 = false → etcherSeen s = true →
      isEtcher s = false → Runs (.plateReq p v) s fun t =>
        t.rd R.PLATE_REQ_STATUS = 2 ^ 31 + 65536 * fieldOf v.toNat 23 16 + 256 * p.code + fieldOf v.toNat 5 0
          ∧ Ordered t [w32 (2 ^ 24 * 0x38 + 65536 * fieldOf v.toNat 23 16 + fieldOf v.toNat 5 0), w32 (65536 * s.chip)] ∧ SameMem s t)
  ∧ (∀ (s : State) (tag : Byte) (slot : BitVec 6) (r : BitVec 4), s.bit R.PLATE_REQ_STATUS 31 = true → s.fd R.PLATE_REQ_STATUS 23 16 = tag.toNat →
      s.fd R.PLATE_REQ_STATUS 5 0 = slot.toNat → RoomFor s → Runs (.plateAnswerReceive (BitVec.ofNat 14 s.chip) tag slot r) s fun t =>
        t.bit R.PLATE_REQ_STATUS 31 = false ∧ t.fd R.PLATE_REQ_STATUS 27 24 = r.toNat ∧ Raised t Ev.PLATE_REQ_DONE slot.toNat
          ∧ RegsKept [R.PLATE_REQ_STATUS] s t ∧ SameMem s t)
  ∧ (∀ s : State, s.bit R.PLATE_REQ_STATUS 31 = true → RoomFor s → Runs .plateReqTimeout s fun t =>
      t.bit R.PLATE_REQ_STATUS 31 = false ∧ t.fd R.PLATE_REQ_STATUS 27 24 = 9 ∧ Raised t Ev.PLATE_REQ_DONE (s.fd R.PLATE_REQ_STATUS 5 0)
        ∧ RegsKept [R.PLATE_REQ_STATUS] s t ∧ SameMem s t)
  ∧ ∀ s : State, s.bit R.PLATE_REQ_STATUS 31 = false → exec .plateReqTimeout s = .next s

/-- The Etcher alone issues a PREPARE, a standby keeping the failed ports it is told of (the model's choice, log 155): XID one higher, apply_CT the first frame boundary at or after the lead, DRAIN and ROUTE_AT from its registers, every participant awaited; a quarantined participant blocks it. The last READY decides COMMIT and a REFUSE ABANDON, through the Counterproof first; the deadline abandons; an acknowledged decision is sent and repeated. PORT_DOWN adds pairs and opens the window, PORT_UP clears them, the window and an unreachable member are judged by the fallback entries. A host request gets the first result of Table 14.4 that applies. (14_replating R371, 14_replating R374, 14_replating R378, 14_replating R390, 14_replating R391, 14_replating R393, 14_replating R394, 14_replating R395, 16_cluster_agreement R435) -/
def Obligations.TheEtcherDecidesAndReroutes : Prop :=
  (∀ (s : State) (c : Instr), isEtcher s = false → (∃ k n, c = .prepareIssue k n) ∨ (∃ a b r, c = .answerReceive a b r) ∨ c = .decisionDeadline
      ∨ (s.bit R.CL_STATUS 30 = false ∧ ((∃ a b d, c = .portDownReceive a b d) ∨ ∃ a b d, c = .portUpReceive a b d)) ∨ c = .faultWindowEnd ∨ (∃ a, c = .memberUnreachable a)
      ∨ c = .unsyncWaitRetry ∨ (∃ a b d, c = .plateAskReceive a b d) → exec c s = .next s)
  ∧ (∀ (s : State) (chip : BitVec 14) (ports : BitVec 16) (cur : BitVec 6), isEtcher s = false → s.bit R.CL_STATUS 30 = true →
      cur.toNat = s.curPlate → s.agree.ports = [] → Runs (.portDownReceive chip ports cur) s fun t =>
        (∀ x, x ∈ t.repl.pairs ↔ (x ∈ s.repl.pairs ∧ x.1 ≠ chip.toNat) ∨ (x ∈ s.repl.pairs ∧ bitOf ports.toNat x.2 = true)
            ∨ (x.1 = chip.toNat ∧ x.2 < 16 ∧ bitOf ports.toNat x.2 = true))
          ∧ t.repl.window = s.repl.window ∧ t.evt = s.evt ∧ t.out = s.out ∧ RegsKept [R.PLATE_FAULT_SET] s t ∧ SameMem s t)
  ∧ (∀ (s : State) (k : Fin 5) (n : Fin 64), isEtcher s = true → s.bit R.CL_STATUS 26 = false → s.repl.etch = none → participant s n = false →
      participants s n none ≠ [] → (∀ c ∈ participants s n none, quarantined s c = false) → Runs (.prepareIssue k n) s fun t =>
        ∃ x, t.repl.etch = some x ∧ x.cause = k ∧ x.waiting = participants s n none ∧ x.decision = none ∧ x.msg.target.toNat = n
          ∧ x.msg.from_ = BitVec.ofNat 6 s.curPlate ∧ x.msg.xid.toNat = (s.repl.lastXid + 1) % 65536 ∧ t.repl.lastXid = x.msg.xid.toNat
          ∧ x.msg.drain.toNat = s.fd R.PLATE_ETCH_TIMING 15 8 ∧ x.msg.routeAt.toNat = s.fd R.PLATE_ETCH_TIMING 23 16
          ∧ x.msg.applyCt = BitVec.ofNat 64 ((s.now + 8000 * (if k.val ≤ 1 then s.fd R.PLATE_ETCH_LEAD 8 0 else s.fd R.PLATE_ETCH_LEAD 24 16) + 7999) / 8000 * 8000)
          ∧ t.fd R.PLATE_ETCH_STATUS 15 0 = x.msg.xid.toNat
          ∧ Ordered t ([w32 (2 ^ 24 * 0x30 + 2 ^ 20 * k + 256 * n + x.msg.from_.toNat), w32 (2 ^ 24 * x.msg.drain.toNat + 65536 * x.msg.routeAt.toNat + x.msg.xid.toNat)]
            ++ w64 x.msg.applyCt.toNat ++ w64 (s.rd64 R.BOOT_PLATESET_LO)) ∧ SameMem s t)
  ∧ (∀ (s : State) (k : Fin 5) (n : Fin 64) (q : Nat), isEtcher s = true → s.bit R.CL_STATUS 26 = false → s.repl.etch = none → RoomFor s →
      (participants s n none).find? (quarantined s) = some q → Runs (.prepareIssue k n) s fun t =>
        Raised t Ev.AGREE_BLOCKED n ∧ t.repl = s.repl ∧ t.regs = s.regs ∧ SameMem s t)
  ∧ (∀ (s : State) (x : EtchX) (chip : BitVec 14) (r : BitVec 4), isEtcher s = true → s.repl.etch = some x → x.decision = none → chip.toNat ∈ x.waiting →
      s.bit R.CL_STATUS 27 = false → r ≠ 2 → r ≠ 8 → Runs (.answerReceive chip x.msg.xid r) s fun t =>
        ∃ y, t.repl.etch = some y ∧ y.waiting = x.waiting.filter (· != chip.toNat) ∧ y.msg = x.msg ∧ y.sent = x.sent
          ∧ y.decision = (if r ≠ 0 then some false else if y.waiting = [] then some true else none)
          ∧ t.fd R.PLATE_ETCH_STATUS 29 16 = y.waiting.length % 16384
          ∧ t.out = s.out ++ (if r ≠ 0 then [.toCp (decWords 0x34 x.msg)] else if y.waiting = [] then [.toCp (decWords 0x33 x.msg)] else [])
          ∧ t.evt = s.evt ∧ RegsKept [R.PLATE_ETCH_STATUS] s t ∧ SameMem s t)
  ∧ (∀ (s : State) (x : EtchX) (chip : BitVec 14) (xid : BitVec 16) (r : BitVec 4), s.repl.etch = some x →
      x.msg.xid ≠ xid ∨ x.decision.isSome = true ∨ chip.toNat ∉ x.waiting → exec (.answerReceive chip xid r) s = .next s)
  ∧ (∀ (s : State) (x : EtchX), isEtcher s = true → s.repl.etch = some x → x.sent = false → s.bit R.CL_STATUS 27 = false → x.host = none →
      x.after = (0, 0) → s.repl.faultDue = false → Runs .decisionDeadline s fun t => t.repl.etch = none
        ∧ (∃ f, t.repl.dec = some (f, x.msg.applyCt.toNat) ∧ (f.drop 4).take 4 = decWords 0x34 x.msg) ∧ Ordered t (decWords 0x34 x.msg) ∧ SameMem s t)
  ∧ (∀ (s : State) (x : EtchX) (m : PlateMsg), isEtcher s = true → s.repl.etch = some x → x.sent = false → x.decision = some true → x.msg.xid = m.xid →
      Runs (.decideAck true m) s fun t => (∃ y, t.repl.etch = some y ∧ y.sent = true ∧ y.decision = some true)
        ∧ (∃ f, t.repl.dec = some (f, x.msg.applyCt.toNat) ∧ (f.drop 4).take 4 = decWords 0x33 x.msg) ∧ Ordered t (decWords 0x33 x.msg) ∧ SameMem s t)
  ∧ (∀ (s : State) (x : EtchX) (m : PlateMsg) (c : Bool), isEtcher s = false → s.bit R.CL_STATUS 30 = true → s.repl.etch = some x → x.sent = false →
      x.msg.xid = m.xid → Runs (.decideAck c m) s fun t => (∃ y, t.repl.etch = some y ∧ y.decision = some c) ∧ Ordered t (decWords 0x35 m) ∧ SameMem s t)
  ∧ (∀ (s : State) (f : List Word) (ct : Nat), s.repl.dec = some (f, ct) → s.now < ct + 1600000 → Runs .decisionRepeat s fun t =>
      t.repl = s.repl ∧ sbBuild 0x01 s.chip .east f ∈ t.sbE.queue ∧ sbBuild 0x01 s.chip .west f ∈ t.sbW.queue ∧ t.evt = s.evt ∧ SameMem s t)
  ∧ (∀ (s : State) (f : List Word) (ct : Nat), s.repl.dec = some (f, ct) → ct + 1600000 ≤ s.now → Runs .decisionRepeat s fun t =>
      t.repl = { s.repl with dec := none } ∧ t.regs = s.regs ∧ t.evt = s.evt ∧ SameMem s t)
  ∧ (∀ (s : State) (chip : BitVec 14) (ports : BitVec 16) (cur : BitVec 6), isEtcher s = true → cur.toNat = s.curPlate →
      (∃ p < 16, bitOf ports.toNat p = true ∧ (chip.toNat, p) ∉ s.repl.pairs) → Runs (.portDownReceive chip ports cur) s fun t =>
        t.repl.window = true ∧ (∀ x, x ∈ t.repl.pairs ↔ x ∈ s.repl.pairs ∨ (x.1 = chip.toNat ∧ x.2 < 16 ∧ bitOf ports.toNat x.2 = true))
          ∧ t.rd R.PLATE_FAULT_SET = 2 ^ 31 + min 65535 t.repl.pairs.length ∧ t.evt = s.evt ∧ RegsKept [R.PLATE_FAULT_SET] s t ∧ SameMem s t)
  ∧ (∀ (s : State) (chip : BitVec 14) (ports : BitVec 16) (cur : BitVec 6), isEtcher s = true → s.repl.window = false →
      s.agree.ports = [] → Runs (.portUpReceive chip ports cur) s fun t =>
        (∀ x, x ∈ t.repl.pairs ↔ x ∈ s.repl.pairs ∧ ¬(x.1 = chip.toNat ∧ bitOf ports.toNat x.2 = false))
          ∧ t.evt = s.evt ∧ RegsKept [R.PLATE_FAULT_SET] s t ∧ SameMem s t)
  ∧ (∀ s : State, isEtcher s = true → s.repl.window = true → s.repl.etch = none → RoomFor s → s.repl.lost = [] → s.agree.quar = [] →
      let ps := s.repl.pairs.filter fun x => !s.repl.cleared.contains x
      ps ≠ [] → fallbackMatch s ps [] = none → Runs .faultWindowEnd s fun t =>
        t.repl.window = false ∧ t.repl.pairs = ps ∧ t.repl.cleared = [] ∧ t.repl.etch = none ∧ Raised t Ev.FALLBACK_NONE s.curPlate
          ∧ RegsKept [R.PLATE_FAULT_SET] s t ∧ SameMem s t)
  ∧ (∀ (s : State) (f n : Nat) (chip : Option Nat), isEtcher s = true → s.repl.window = true → s.repl.etch = none → RoomFor s → s.repl.lost = [] → s.agree.quar = [] →
      let ps := s.repl.pairs.filter fun x => !s.repl.cleared.contains x
      ps ≠ [] → fallbackMatch s ps [] = some (f, n, chip) → Runs .faultWindowEnd s fun t =>
        t.repl.window = false ∧ Raised t Ev.FALLBACK_CHOSEN n ∧ SameMem s t)
  ∧ (∀ (s : State) (chip : BitVec 14), isEtcher s = true → chip.toNat ≠ s.chip → (coordIn s s.curPlate chip.toNat).isSome = true → s.repl.etch = none → RoomFor s →
      fallbackMatch s [] [chip.toNat] = none → Runs (.memberUnreachable chip) s fun t =>
        chip.toNat ∈ t.repl.lost ∧ Raised t Ev.FALLBACK_NONE s.curPlate ∧ t.regs = s.regs ∧ SameMem s t)
  ∧ (∀ (s : State) (w : UnsyncWait), isEtcher s = true → s.repl.etch = none → s.repl.wait = some w → w.host = none → RoomFor s →
      s.fd R.PLATE_ETCH_POLICY 7 0 * 160000000 ≤ s.ticks - w.start → Runs .unsyncWaitRetry s fun t =>
        t.repl.wait = none ∧ Raised t Ev.REPLATE_UNSYNCED w.target ∧ t.regs = s.regs ∧ SameMem s t)
  ∧ ∀ (s : State) (tag : Byte) (slot : BitVec 6), isEtcher s = true → s.bit R.PLATE_REQ_STATUS 31 = true → s.chip < 16384 → s.evt.queue.length < 1000 →
      s.repl.etch.bind (·.host) ≠ some (s.chip, tag.toNat, slot.toNat) → s.repl.wait.bind (·.host) ≠ some (s.chip, tag.toNat, slot.toNat) →
      let r := if s.bit R.CL_STATUS 26 then 7 else if !s.bit (R.PLATE_HOST_ALLOW_LO + 4 * (slot.toNat / 32)) (slot.toNat % 32) then 2
        else if s.repl.etch.isSome ∨ s.repl.wait.isSome then 3 else if !slotValid s slot.toNat then 4 else if slot.toNat = s.curPlate then 5 else 0
      r ≠ 0 → Runs (.plateAskReceive (BitVec.ofNat 14 s.chip) tag slot) s fun t =>
        t.fd R.PLATE_REQ_STATUS 27 24 = r ∧ t.bit R.PLATE_REQ_STATUS 31 = false ∧ Raised t Ev.PLATE_REQ_DONE slot.toNat ∧ t.repl = s.repl
          ∧ Ordered t [w32 (2 ^ 24 * 0x39 + 65536 * tag.toNat + 256 * r + slot.toNat), w32 (65536 * s.chip)] ∧ SameMem s t

/-- RENEW from the holder sets the expiry to CT + 320,000 ticks. TAKE from the other Scribe at or after the expiry makes it the holder with the epoch one higher and the expiry of RENEW; one made before changes nothing. RELEASE sets the expiry to CT. A RENEW or RELEASE from a Scribe that is not the holder is discarded with LEASE_LOST. A write on any other path is discarded with SCRIBE_DENIED. (15_scribes_etcher_and_counterproof R402, 15_scribes_etcher_and_counterproof R403) -/
def Obligations.LeaseCommandsMoveThePackageLease : Prop :=
  (∀ (s : State) (p : Path) (v : Word) (c : Instr), Reaches p s → pathUnit p = none → c = .leaseRenew p v ∨ c = .leaseTake p v ∨ c = .leaseRelease p v →
      RoomFor s → Runs c s fun t => Raised t Ev.SCRIBE_DENIED 0 ∧ t.regs = s.regs ∧ t.out = s.out ∧ SameMem s t)
  ∧ (∀ (s : State) (p : Path) (v : Word) (u : Nat), Reaches p s → pathUnit p = some u → s.scr.halted.contains u = false →
      activeUnit s = u → 2 ≤ scribeState s u →
      (Runs (.leaseRenew p v) s fun t => t.rd64 R.SCRIBE_LEASE_EXP_LO = (s.now + 320000) % 2 ^ 64 ∧ t.evt = s.evt ∧ t.out = s.out
        ∧ RegsKept [R.SCRIBE_LEASE_EXP_LO, R.SCRIBE_LEASE_EXP_LO + 4] s t ∧ SameMem s t)
      ∧ (Runs (.leaseRelease p v) s fun t => t.rd64 R.SCRIBE_LEASE_EXP_LO = s.now ∧ t.evt = s.evt ∧ t.out = s.out
        ∧ RegsKept [R.SCRIBE_LEASE_EXP_LO, R.SCRIBE_LEASE_EXP_LO + 4] s t ∧ SameMem s t)
      ∧ exec (.leaseTake p v) s = .next s)
  ∧ ∀ (s : State) (p : Path) (v : Word) (u : Nat), Reaches p s → pathUnit p = some u → s.scr.halted.contains u = false →
      ¬(activeUnit s = u ∧ 2 ≤ scribeState s u) →
      (∀ c, c = .leaseRenew p v ∨ c = .leaseRelease p v → RoomFor s → Runs c s fun t =>
        Raised t Ev.LEASE_LOST 0 ∧ t.regs = s.regs ∧ t.out = s.out ∧ SameMem s t)
      ∧ (s.now < s.rd64 R.SCRIBE_LEASE_EXP_LO → exec (.leaseTake p v) s = .next s)
      ∧ (s.rd64 R.SCRIBE_LEASE_EXP_LO ≤ s.now → Runs (.leaseTake p v) s fun t =>
        activeUnit t = u ∧ scribeState t u = 2 ∧ t.fd R.GLB_STATE 9 9 = u ∧ t.rd R.SCRIBE_EPOCH = (s.rd R.SCRIBE_EPOCH + 1) % 2 ^ 32
          ∧ t.rd64 R.SCRIBE_LEASE_EXP_LO = (s.now + 320000) % 2 ^ 64 ∧ t.evt = s.evt ∧ t.out = s.out
          ∧ RegsKept [R.SCRIBE_STATUS, R.SCRIBE_EPOCH, R.SCRIBE_LEASE_EXP_LO, R.SCRIBE_LEASE_EXP_LO + 4, R.GLB_STATE, R.SCRIBE_CKPT,
              R.SCRIBE_JOURNAL, R.CL_JOURNAL] s t ∧ SameMem s t)

/-- A checkpoint copies into the bank that does not hold the last committed one, which stays; its commit makes it the last committed bank, frees the journal entries it includes and clears SOLO, or CP_LOST while the other named chip is heard; an abandoned copy, or one not done in 1,600,000 ticks, raises CKPT_FAIL. A takeover waits for the expiry, discards a bank in progress, and is warm exactly when a valid bank exists, JOURNAL_OVF is clear and no receiver is ahead; otherwise COLD. COLD_DONE ends the rebuild, an absent standby raises SCRIBE_SOLO or CP_LOST and ends its copy, and a joining one, but for a displaced Scribe, is copied to at once. (15_scribes_etcher_and_counterproof R405, 15_scribes_etcher_and_counterproof R406, 15_scribes_etcher_and_counterproof R407, 15_scribes_etcher_and_counterproof R409, 15_scribes_etcher_and_counterproof R410, 15_scribes_etcher_and_counterproof R412, 15_scribes_etcher_and_counterproof R419) -/
def Obligations.ScribesCheckpointTakeOverAndJoin : Prop :=
  (∀ (s : State) (d : ADom), hasStandby s d = true → (s.auth d).copy = none → Runs (.checkpointStart d) s fun t =>
      (t.auth d).copy = some ((nextBank s d).1, (nextBank s d).2, (match d with | .package => s.rd R.SCRIBE_SEQ | .cluster => s.rd R.CL_SEQ), s.now)
        ∧ lastBank t d = lastBank s d ∧ (t.auth d).journal = (s.auth d).journal ∧ t.evt = s.evt ∧ t.out = s.out
        ∧ RegsKept [R.SCRIBE_STATUS, R.SCRIBE_CKPT, R.SCRIBE_JOURNAL, R.CL_JOURNAL] s t ∧ SameMem s t)
  ∧ (∀ (s : State) (d : ADom), hasStandby s d = false ∨ (s.auth d).copy.isSome = true → exec (.checkpointStart d) s = .next s)
  ∧ (∀ (s : State) (d : ADom) (len : Word) (i n q ct : Nat), (s.auth d).copy = some (i, n, q, ct) → i < 2 → len.toNat ≤ ckptLimit d →
      s.now ≤ ct + 1600000 → (∀ x, bankValid s d (if i = 0 then (s.auth d).bank1 else (s.auth d).bank0) = some x → x.1 < n) → Runs (.checkpointCommit d len) s fun t =>
        (t.auth d).copy = none ∧ lastBank t d = some (i, n, q)
          ∧ (t.auth d).journal = (s.auth d).journal.filter (fun f => decide (q < frameSeq f)) ∧ t.evt = s.evt ∧ t.out = s.out
          ∧ (match d with
            | .package => t.bit R.SCRIBE_STATUS 24 = false ∧ t.bit R.SCRIBE_STATUS 22 = false ∧ t.rd R.SCRIBE_CKPT = 256 * (n % 2 ^ 24) + i
            | .cluster => t.bit R.CL_STATUS 27 = (s.bit R.CL_STATUS 27 && !otherHeard s) ∧ t.bit R.CL_STATUS 25 = false ∧ ∃ crc : Word,
                let m := [w32 (otherNamed s), w32 n, len, w32 32, w32 0x434B5054, w32 n, w32 (s.rd R.CL_EPOCH), w32 q] ++ w64 ct ++ [len, crc]
                sbBuild 0x03 s.chip .east m ∈ t.sbE.queue ∧ sbBuild 0x03 s.chip .west m ∈ t.sbW.queue)
          ∧ RegsKept [R.SCRIBE_STATUS, R.SCRIBE_CKPT, R.SCRIBE_JOURNAL, R.CL_JOURNAL, R.CL_STATUS] s t ∧ SameMem s t)
  ∧ (∀ (s : State) (d : ADom) (len : Word) (i n q ct : Nat), (s.auth d).copy = some (i, n, q, ct) → i < 2 → ckptLimit d < len.toNat →
      s.now ≤ ct + 1600000 →
      Runs (.checkpointCommit d len) s fun t => (t.auth d).copy = none ∧ (∀ x, lastBank t d = some x → x.1 ≠ i)
        ∧ (t.auth d).journal = (s.auth d).journal ∧ t.bit R.SCRIBE_STATUS 24 = s.bit R.SCRIBE_STATUS 24 ∧ t.rd R.CL_STATUS = s.rd R.CL_STATUS
        ∧ t.evt = s.evt ∧ SameMem s t)
  ∧ (∀ (s : State) (d : ADom) (len : Word) (i n q ct : Nat), (s.auth d).copy = some (i, n, q, ct) → ct + 1600000 < s.now → RoomFor s →
      Runs (.checkpointCommit d len) s fun t => (t.auth d).copy = none ∧ Raised t Ev.CKPT_FAIL (domNo d) ∧ lastBank t d = lastBank s d
        ∧ t.regs = s.regs ∧ t.out = s.out ∧ t.sbE = s.sbE ∧ SameMem s t)
  ∧ (∀ (s : State) (d : ADom) (len : Word) (c : Instr), (s.auth d).copy = none → c = .checkpointCommit d len ∨ c = .ckptFail d → exec c s = .next s)
  ∧ (∀ (s : State) (d : ADom), (s.auth d).copy.isSome = true → RoomFor s → Runs (.ckptFail d) s fun t =>
      (t.auth d).copy = none ∧ Raised t Ev.CKPT_FAIL (domNo d) ∧ t.regs = s.regs ∧ t.out = s.out ∧ SameMem s t)
  ∧ (∀ s : State, scribeState s (1 - activeUnit s) ≠ 1 ∨ s.scr.halted.contains (1 - activeUnit s) = true ∨ s.now < s.rd64 R.SCRIBE_LEASE_EXP_LO →
      exec .scribeTakeover s = .next s)
  ∧ (∀ s : State, scribeState s (1 - activeUnit s) = 1 → s.scr.halted.contains (1 - activeUnit s) = false →
      s.rd64 R.SCRIBE_LEASE_EXP_LO ≤ s.now → s.evt.queue.length < 1000 →
      let u := 1 - activeUnit s
      let last := lastSeq s .package
      let warm := (lastBank s .package).isSome = true ∧ s.bit R.SCRIBE_STATUS 22 = false ∧ ∀ r < 44, s.rd (R.SCRIBE_RX_HIGH r) ≤ last
      Runs .scribeTakeover s fun t => activeUnit t = u ∧ scribeState t (1 - u) = 0 ∧ t.fd R.GLB_STATE 9 9 = u
        ∧ t.rd R.SCRIBE_EPOCH = (s.rd R.SCRIBE_EPOCH + 1) % 2 ^ 32 ∧ t.rd64 R.SCRIBE_LEASE_EXP_LO = (s.now + 320000) % 2 ^ 64
        ∧ t.pkg.copy = none ∧ (s.pkg.copy.isSome = true → Raised t Ev.CKPT_DISCARDED 0)
        ∧ (warm → scribeState t u = 2 ∧ t.rd R.SCRIBE_SEQ = last % 2 ^ 32 ∧ Raised t Ev.SCRIBE_TAKEOVER 0
          ∧ t.fd R.SCRIBE_TAKE_CNT 15 0 = min 0xFFFF (s.fd R.SCRIBE_TAKE_CNT 15 0 + 1))
        ∧ (¬warm → scribeState t u = 3 ∧ t.bit R.SCRIBE_STATUS 23 = true ∧ Raised t Ev.SCRIBE_COLD 0
          ∧ (∀ r < 44, s.rd (R.SCRIBE_RX_HIGH r) ≤ t.rd R.SCRIBE_SEQ) ∧ t.fd R.SCRIBE_TAKE_CNT 31 16 = min 0xFFFF (s.fd R.SCRIBE_TAKE_CNT 31 16 + 1))
        ∧ RegsKept [R.SCRIBE_STATUS, R.SCRIBE_EPOCH, R.SCRIBE_SEQ, R.SCRIBE_LEASE_EXP_LO, R.SCRIBE_LEASE_EXP_LO + 4, R.GLB_STATE, R.SCRIBE_CKPT,
            R.SCRIBE_JOURNAL, R.CL_JOURNAL, R.SCRIBE_TAKE_CNT] s t ∧ SameMem s t)
  ∧ (∀ (s : State) (d : ADom), RoomFor s → (match d with | .package => s.bit R.SCRIBE_STATUS 23 | .cluster => s.bit R.CL_STATUS 26) = true →
      Runs (.coldDone d) s fun t => t.bit R.SCRIBE_STATUS 23 = (s.bit R.SCRIBE_STATUS 23 && d == .cluster)
        ∧ t.bit R.CL_STATUS 26 = (s.bit R.CL_STATUS 26 && d == .package) ∧ (d = .package → scribeState t (activeUnit s) = 2)
        ∧ Raised t Ev.COLD_DONE (domNo d) ∧ RegsKept [R.SCRIBE_STATUS, R.CL_STATUS] s t ∧ SameMem s t)
  ∧ (∀ (s : State) (d : ADom), (match d with | .package => s.bit R.SCRIBE_STATUS 23 | .cluster => s.bit R.CL_STATUS 26) = false →
      exec (.coldDone d) s = .next s)
  ∧ (∀ s : State, s.bit R.SCRIBE_STATUS 24 = false → 2 ≤ scribeState s (activeUnit s) → s.evt.queue.length < 1000 → Runs (.standbyAbsent .package) s fun t =>
      t.bit R.SCRIBE_STATUS 24 = true ∧ scribeState t (1 - activeUnit s) = 0 ∧ Raised t Ev.SCRIBE_SOLO 0
        ∧ t.pkg.copy = none ∧ (s.pkg.copy.isSome = true → Raised t Ev.CKPT_FAIL 0) ∧ RegsKept [R.SCRIBE_STATUS] s t ∧ SameMem s t)
  ∧ (∀ s : State, isEtcher s = true → s.bit R.CL_STATUS 27 = false → cpHeard s = false → s.repl.etch = none → s.evt.queue.length < 1000 →
      Runs (.standbyAbsent .cluster) s fun t => t.bit R.CL_STATUS 27 = true ∧ Raised t Ev.CP_LOST 0
        ∧ t.clu.copy = none ∧ (s.clu.copy.isSome = true → Raised t Ev.CKPT_FAIL 1) ∧ t.repl = s.repl ∧ RegsKept [R.CL_STATUS] s t ∧ SameMem s t)
  ∧ (∀ (s : State) (x : EtchX), isEtcher s = true → s.bit R.CL_STATUS 27 = false → cpHeard s = false → s.repl.etch = some x → x.sent = false →
      x.decision = some true → RoomFor s → Runs (.standbyAbsent .cluster) s fun t => t.bit R.CL_STATUS 27 = true ∧ Raised t Ev.CP_LOST 0
        ∧ (∃ y, t.repl.etch = some y ∧ y.sent = true) ∧ Ordered t (decWords 0x33 x.msg) ∧ SameMem s t)
  ∧ (∀ s : State, s.bit R.SCRIBE_STATUS 24 = true → exec (.standbyAbsent .package) s = .next s)
  ∧ (∀ s : State, cpHeard s = true ∨ s.bit R.CL_STATUS 27 = true → exec (.standbyAbsent .cluster) s = .next s)
  ∧ (∀ s : State, isEtcher s = false → exec (.standbyAbsent .cluster) s = .next s ∧ exec (.standbyJoin .cluster) s = .next s)
  ∧ (∀ s : State, scribeState s (1 - activeUnit s) = 0 → 2 ≤ scribeState s (activeUnit s) → s.domUp (0xA0 + (1 - activeUnit s)) = true →
      s.scr.displaced.contains (1 - activeUnit s) = false →
      Runs (.standbyJoin .package) s fun t => scribeState t (1 - activeUnit s) = 1 ∧ lastBank t .package = none ∧ t.pkg.journal = []
        ∧ t.pkg.copy = some (0, (nextBank s .package).2, s.rd R.SCRIBE_SEQ, s.now) ∧ t.bit R.SCRIBE_STATUS 22 = false ∧ t.evt = s.evt
        ∧ RegsKept [R.SCRIBE_STATUS, R.SCRIBE_CKPT, R.SCRIBE_JOURNAL, R.CL_JOURNAL] s t ∧ SameMem s t)
  ∧ (∀ s : State, scribeState s (1 - activeUnit s) ≠ 0 ∨ s.scr.displaced.contains (1 - activeUnit s) = true →
      exec (.standbyJoin .package) s = .next s)
  ∧ ∀ s : State, isEtcher s = true → Runs (.standbyJoin .cluster) s fun t =>
      t.clu.copy = some ((nextBank s .cluster).1, (nextBank s .cluster).2, s.rd R.CL_SEQ, s.now) ∧ lastBank t .cluster = lastBank s .cluster
        ∧ t.evt = s.evt ∧ RegsKept [R.SCRIBE_STATUS, R.SCRIBE_CKPT, R.SCRIBE_JOURNAL, R.CL_JOURNAL] s t ∧ SameMem s t

/-- A frame that does not check is discarded and counted. A package order is stale, duplicate or accepted by the receiver window, an accepted one applies the register writes it carries in the receiver's block, and the standby journals once what the holder sends; a cluster order likewise, an accepted LEASE setting the expiry and the holder. The holder renews with LEASE and PLATE_STATE while it reaches a majority, else fences itself. A candidate takes the lease with the epoch one higher after expiry, guard and majority, warm or COLD, or sets SPLIT. Heartbeats go out on both directions, are recorded, and make a holder yield to a higher epoch. CKPT messages fill the standby bank. (15_scribes_etcher_and_counterproof R400, 15_scribes_etcher_and_counterproof R408, 15_scribes_etcher_and_counterproof R409, 15_scribes_etcher_and_counterproof R413, 15_scribes_etcher_and_counterproof R414, 15_scribes_etcher_and_counterproof R415, 15_scribes_etcher_and_counterproof R416, 15_scribes_etcher_and_counterproof R417, 15_scribes_etcher_and_counterproof R418) -/
def Obligations.OrdersHeartbeatsAndTheClusterLease : Prop :=
  (∀ (s : State) (f : List Word), frameOk f = false → Runs (.orderReceive f) s fun t =>
      let r := if bitOf (pkW f 0) 31 then R.CL_STALE_CNT else R.SCRIBE_STALE_CNT
      t.rd r = min 0xFFFFFFFF (s.rd r + 1) ∧ t.pkg = s.pkg ∧ t.clu = s.clu ∧ t.evt = s.evt ∧ RegsKept [r] s t ∧ SameMem s t)
  ∧ (∀ (s : State) (f : List Word) (d : Nat), frameOk f = true → bitOf (pkW f 0) 31 = false → fieldOf (pkW f 0) 21 16 = d → d < 44 →
      s.pkg.journal.length < 65536 → frameOp f = 0 ∨ 0x30 ≤ frameOp f
        ∨ admission (winOf s.pkg d).1 (s.rd (R.SCRIBE_RX_HIGH d)) (winOf s.pkg d).2 (pkW f 1) (pkW f 2) ≠ .new →
      let w := winOf s.pkg d
      let high := s.rd (R.SCRIBE_RX_HIGH d)
      let e := pkW f 1
      let q := pkW f 2
      Runs (.orderReceive f) s fun t =>
        t.rd R.SCRIBE_STALE_CNT = (if e < w.1 then min 0xFFFFFFFF (s.rd R.SCRIBE_STALE_CNT + 1) else s.rd R.SCRIBE_STALE_CNT)
          ∧ t.rd (R.SCRIBE_RX_HIGH d) = (if e < w.1 then high else if w.1 < e then q else if q ∈ w.2 ∨ q + 1024 ≤ high then high else max high q)
          ∧ (w.1 < e → winOf t.pkg d = (e, [q])) ∧ (e < w.1 → winOf t.pkg d = w)
          ∧ (w.1 = e → q ∉ w.2 → high < q + 1024 → q ∈ (winOf t.pkg d).2 ∧ (winOf t.pkg d).1 = e)
          ∧ t.pkg.journal = (if scribeState s (1 - activeUnit s) = 1 ∧ bitOf (pkW f 0) 30 = false ∧ s.rd R.SCRIBE_EPOCH ≤ e ∧ f ∉ s.pkg.journal
              then s.pkg.journal ++ [f] else s.pkg.journal)
          ∧ t.evt = s.evt ∧ t.out = s.out ∧ RegsKept [R.SCRIBE_RX_HIGH d, R.SCRIBE_STALE_CNT, R.SCRIBE_SEQ, R.SCRIBE_JOURNAL] s t ∧ SameMem s t)
  ∧ (∀ (s : State) (f : List Word) (d : Nat), frameOk f = true → bitOf (pkW f 0) 31 = false → fieldOf (pkW f 0) 21 16 = d → d < 44 →
      1 ≤ frameOp f → frameOp f < 0x30 →
      admission (winOf s.pkg d).1 (s.rd (R.SCRIBE_RX_HIGH d)) (winOf s.pkg d).2 (pkW f 1) (pkW f 2) = .new → Runs (.orderReceive f) s fun t =>
        ∃ u, pkW f 2 ∈ (winOf u.pkg d).2 ∧ (winOf u.pkg d).1 = pkW f 1 ∧ u.evt = s.evt ∧ u.out = s.out ∧ RegsKept [R.SCRIBE_RX_HIGH d] s u ∧ SameMem s u
          ∧ RegsKept [R.SCRIBE_SEQ, R.SCRIBE_JOURNAL, R.SCRIBE_STATUS] (orderWrites f d u) t ∧ SameMem (orderWrites f d u) t)
  ∧ (∀ (s : State) (f : List Word), frameOk f = true → bitOf (pkW f 0) 31 = false → fieldOf (pkW f 0) 21 16 = 63 →
      (∀ r < 44, pkW f 1 < (winOf s.pkg r).1) → pkW f 1 < s.rd R.SCRIBE_EPOCH → Runs (.orderReceive f) s fun t =>
        t.rd R.SCRIBE_STALE_CNT = min 0xFFFFFFFF (s.rd R.SCRIBE_STALE_CNT + 1) ∧ t.pkg = s.pkg ∧ t.evt = s.evt ∧ t.out = s.out
          ∧ RegsKept [R.SCRIBE_STALE_CNT] s t ∧ SameMem s t)
  ∧ (∀ (s : State) (f : List Word), frameOk f = true → bitOf (pkW f 0) 31 = true → memberOp (frameOp f) = false → s.bit R.CL_STATUS 31 = false →
      (pkW f 1 < s.rd R.CL_EPOCH → Runs (.orderReceive f) s fun t => t.rd R.CL_STALE_CNT = min 0xFFFFFFFF (s.rd R.CL_STALE_CNT + 1)
        ∧ t.clu = s.clu ∧ t.repl = s.repl ∧ t.evt = s.evt ∧ RegsKept [R.CL_STALE_CNT] s t ∧ SameMem s t)
      ∧ (pkW f 1 = s.rd R.CL_EPOCH → pkW f 2 ∈ (winOf s.clu 0).2 ∨ pkW f 2 + 1024 ≤ s.rd R.CL_SEQ → exec (.orderReceive f) s = .next s))
  ∧ (∀ (s : State) (src unit q holder exp : Nat), src < 16384 → unit < 2 → q < 2 ^ 32 → holder < 16384 → holder ≠ s.chip → exp < 2 ^ 64 →
      s.bit R.CL_STATUS 31 = false → s.bit R.CL_STATUS 30 = false → q ∉ (winOf s.clu 0).2 → s.rd R.CL_SEQ < q + 1024 →
      Runs (.orderReceive (orderFrame true false false 0x3F (s.rd R.CL_EPOCH) q src unit ([w32 (2 ^ 24 * 0x3B + holder)] ++ w64 exp))) s fun t =>
        t.rd64 R.CL_LEASE_EXP_LO = exp ∧ t.fd R.CL_STATUS 13 0 = holder ∧ t.bit R.CL_STATUS 28 = false ∧ t.bit R.CL_STATUS 29 = false
          ∧ t.bit R.CL_STATUS 30 = isNamed s
          ∧ t.rd R.CL_SEQ = max (s.rd R.CL_SEQ) q ∧ t.cl.holderTick = s.ticks ∧ t.evt = s.evt ∧ t.out = s.out
          ∧ RegsKept [R.CL_SEQ, R.CL_EPOCH, R.CL_LEASE_EXP_LO, R.CL_LEASE_EXP_LO + 4, R.CL_STATUS, R.GLB_STATE] s t ∧ SameMem s t)
  ∧ (∀ s : State, s.bit R.CL_STATUS 31 = false ∨ scribeRuns s = false → exec .clusterRenewal s = .next s)
  ∧ (∀ s : State, isEtcher s = true → majority s = true → s.sbE.queue.length ≤ 14 → s.sbW.queue.length ≤ 14 → Runs .clusterRenewal s fun t =>
      t.rd64 R.CL_LEASE_EXP_LO = (s.now + 1600000) % 2 ^ 64 ∧ t.bit R.CL_STATUS 29 = false ∧ t.rd R.CL_SEQ = (s.rd R.CL_SEQ + 2) % 2 ^ 32
        ∧ Ordered t ([w32 (2 ^ 24 * 0x3B + s.chip)] ++ w64 (s.now + 1600000)) ∧ Ordered t (stateWords s) ∧ SameMem s t)
  ∧ (∀ s : State, isEtcher s = true → majority s = false → RoomFor s → Runs .clusterRenewal s fun t => t.bit R.CL_STATUS 29 = true
      ∧ Raised t Ev.ETCHER_FENCED 0 ∧ (s.tst = 5 → t.tst = 3) ∧ t.out = s.out ∧ t.sbE = s.sbE
      ∧ RegsKept [R.CL_REACH, R.CL_STATUS, R.TIME_STATUS] s t ∧ SameMem s t)
  ∧ (∀ s : State, s.bit R.CL_STATUS 31 = true → s.bit R.CL_STATUS 29 = true → scribeRuns s = true →
      (s.rd64 R.CL_LEASE_EXP_LO ≤ s.now → Runs .clusterRenewal s fun t => t.bit R.CL_STATUS 31 = false ∧ t.bit R.CL_STATUS 30 = true
        ∧ t.fd R.GLB_STATE 11 10 = 2 ∧ t.evt = s.evt ∧ RegsKept [R.CL_REACH, R.CL_STATUS, R.GLB_STATE] s t ∧ SameMem s t)
      ∧ (s.now < s.rd64 R.CL_LEASE_EXP_LO → majority s = false ∨ higherHeard s = true → Runs .clusterRenewal s fun t =>
        t.evt = s.evt ∧ t.out = s.out ∧ RegsKept [R.CL_REACH] s t ∧ SameMem s t)
      ∧ (s.now < s.rd64 R.CL_LEASE_EXP_LO → majority s = true → higherHeard s = false → Runs .clusterRenewal s fun t =>
        t.bit R.CL_STATUS 29 = false ∧ t.tst = 5 ∧ t.rd64 R.CL_LEASE_EXP_LO = (s.now + 1600000) % 2 ^ 64 ∧ Ordered t (stateWords s) ∧ SameMem s t))
  ∧ (∀ s : State, isNamed s = false ∨ s.bit R.CL_STATUS 31 = true ∨ scribeRuns s = false ∨ clExpired s = false → exec .etcherTakeover s = .next s)
  ∧ (∀ s : State, isNamed s = true → s.bit R.CL_STATUS 31 = false → scribeRuns s = true → clExpired s = true → majority s = false → RoomFor s →
      Runs .etcherTakeover s fun t => t.bit R.CL_STATUS 28 = true ∧ (s.bit R.CL_STATUS 28 = false → Raised t Ev.CLUSTER_SPLIT 0)
        ∧ RegsKept [R.CL_REACH, R.CL_STATUS] s t ∧ SameMem s t)
  ∧ (∀ s : State, isNamed s = true → s.bit R.CL_STATUS 31 = false → scribeRuns s = true → clExpired s = true → majority s = true →
      s.evt.queue.length < 900 → s.repl.etch = none → s.agree.self_ = [] → s.agree.quar = [] → s.agree.dups = [] → (∀ p < 16, s.port p ≠ 3) →
      let last := lastSeq s .cluster
      let warm := (lastBank s .cluster).isSome = true ∧ s.bit R.CL_STATUS 25 = false ∧ clAhead s last = none
      Runs .etcherTakeover s fun t => t.bit R.CL_STATUS 31 = true ∧ t.bit R.CL_STATUS 30 = false ∧ t.fd R.CL_STATUS 13 0 = s.chip
        ∧ t.bit R.CL_STATUS 29 = false ∧ t.bit R.CL_STATUS 28 = false ∧ t.rd R.CL_EPOCH = (s.rd R.CL_EPOCH + 1) % 2 ^ 32
        ∧ t.rd64 R.CL_LEASE_EXP_LO = (s.now + 1600000) % 2 ^ 64 ∧ t.tst = 5 ∧ t.bit R.GLB_STATE 10 = true ∧ t.clu.copy = none
        ∧ (warm → Raised t Ev.ETCHER_TAKEOVER 0 ∧ t.bit R.CL_STATUS 26 = false)
        ∧ (¬warm → Raised t Ev.ETCHER_COLD 0 ∧ t.bit R.CL_STATUS 26 = true) ∧ SameMem s t)
  ∧ (∀ s : State, s.top ≠ 5 ∨ s.bit R.CL_STATUS 31 = true ∨ s.rd R.CL_EPOCH ≠ 0 ∨ scribeRuns s = false ∨ isNamed s = false → exec .clusterStart s = .next s)
  ∧ (∀ s : State, s.top = 5 → s.bit R.CL_STATUS 31 = false → s.rd R.CL_EPOCH = 0 → scribeRuns s = true → s.fd R.CL_CFG 13 0 = s.chip →
      s.cl.holderTick + 3200000 ≤ s.ticks → majority s = true → s.evt.queue.length < 900 → s.repl.etch = none → s.agree.self_ = [] →
      s.agree.quar = [] → s.agree.dups = [] → (∀ p < 16, s.port p ≠ 3) → Runs .clusterStart s fun t =>
        t.bit R.CL_STATUS 31 = true ∧ t.rd R.CL_EPOCH = 1 ∧ t.rd64 R.CL_LEASE_EXP_LO = (s.now + 1600000) % 2 ^ 64 ∧ t.tst = 5 ∧ SameMem s t)
  ∧ (∀ s : State, s.top ≠ 5 → exec .heartbeatSend s = .next s)
  ∧ (∀ s : State, s.top = 5 → Runs .heartbeatSend s fun t =>
      let ws := [w32 (2 ^ 24 * 0x48 + 2 ^ 23 * b2n (s.bit R.CL_STATUS 31) + 2 ^ 22 * b2n (s.bit R.CL_STATUS 29) + 2 ^ 21 * b2n (s.bit R.CL_STATUS 28)
        + 65536 * s.tst + s.curPlate), w32 s.chip, w32 (s.rd R.CL_EPOCH), w32 (s.rd R.CL_SEQ), w32 (reach s % 16384)] ++ w64 s.now
      let m := ws ++ [w32 (crc32 (dwBytes ws))]
      sbBuild 0x02 s.chip .east m ∈ t.sbE.queue ∧ sbBuild 0x02 s.chip .west m ∈ t.sbW.queue ∧ t.evt = s.evt ∧ t.out = s.out
        ∧ RegsKept [R.CL_REACH] s t ∧ SameMem s t)
  ∧ (∀ (s : State) (w : List Word), w.length ≠ 8 ∨ w.getD 7 0 ≠ w32 (crc32 (dwBytes (w.take 7))) → exec (.heartbeatReceive w) s = .next s)
  ∧ (∀ (s : State) (w : List Word), w.length = 8 → fieldOf (pkW w 0) 31 24 = 0x48 → w.getD 7 0 = w32 (crc32 (dwBytes (w.take 7))) →
      pkW w 1 % 16384 ≠ s.chip → bitOf (pkW w 0) 23 = false → Runs (.heartbeatReceive w) s fun t =>
        t.cl.heard = smPut s.cl.heard (pkW w 1 % 16384) ⟨s.ticks, pkW w 3, pkW w 2, false, bitOf (pkW w 0) 22, bitOf (pkW w 0) 21⟩
          ∧ t.rd R.CL_REACH = 65536 * (memberCount s % 16384) + reach t % 16384 ∧ t.evt = s.evt ∧ t.out = s.out ∧ RegsKept [R.CL_REACH] s t ∧ SameMem s t)
  ∧ (∀ (s : State) (w : List Word), w.length = 8 → fieldOf (pkW w 0) 31 24 = 0x48 → w.getD 7 0 = w32 (crc32 (dwBytes (w.take 7))) →
      pkW w 1 % 16384 ≠ s.chip → bitOf (pkW w 0) 23 = true → s.bit R.CL_STATUS 31 = true → s.rd R.CL_EPOCH < pkW w 2 → RoomFor s →
      Runs (.heartbeatReceive w) s fun t => t.bit R.CL_STATUS 31 = false ∧ t.bit R.CL_STATUS 30 = true
        ∧ t.fd R.CL_STATUS 13 0 = pkW w 1 % 16384 ∧ Raised t Ev.LEASE_YIELD 1 ∧ t.repl.etch = none ∧ lastBank t .cluster = none ∧ SameMem s t)
  ∧ (∀ (s : State) (b : List Word), pkW b 0 % 16384 ≠ s.chip ∨ s.bit R.CL_STATUS 30 = false → exec (.ckptReceive b) s = .next s)
  ∧ (∀ (s : State) (b : List Word), pkW b 0 % 16384 = s.chip → s.bit R.CL_STATUS 30 = true → s.clu.copy = none → 0 < pkW b 3 → pkW b 3 < 32 →
      pkW b 3 ≤ 4 * (b.length - 4) → Runs (.ckptReceive b) s fun t =>
        t.clu.copy = some ((nextBank s .cluster).1, pkW b 1, 0, 0) ∧ lastBank t .cluster = lastBank s .cluster
          ∧ (if (nextBank s .cluster).1 = 0 then t.clu.bank0 else t.clu.bank1).data = putBytes ramD [] (pkW b 2) ((dwBytes (b.drop 4)).take (pkW b 3))
          ∧ t.evt = s.evt ∧ RegsKept [R.SCRIBE_STATUS, R.SCRIBE_CKPT, R.SCRIBE_JOURNAL, R.CL_JOURNAL] s t ∧ SameMem s t)
  ∧ ∀ (s : State) (n e q : Nat) (ct : Nat), n < 2 ^ 32 → e ≤ s.rd R.CL_EPOCH → q < 2 ^ 32 → s.bit R.CL_STATUS 30 = true → s.clu.copy = none →
      (∀ x, lastBank s .cluster = some x → x.2.1 < n) →
      let r := [w32 0x434B5054, w32 n, w32 e, w32 q] ++ w64 ct ++ [w32 0]
      Runs (.ckptReceive ([w32 s.chip, w32 n, w32 0, w32 32] ++ r ++ [w32 (crc32 (dwBytes r))])) s fun t =>
        t.clu.copy = none ∧ lastBank t .cluster = some ((nextBank s .cluster).1, n, q) ∧ t.bit R.CL_STATUS 25 = false
          ∧ t.clu.journal = s.clu.journal.filter (fun f => decide (q < frameSeq f)) ∧ t.evt = s.evt ∧ SameMem s t

/-- A CRED that fails its CRC is not judged; another gets its CRED_ACK with the verdict, the reason of the first failing test of Table 16.2 and DIFF in the registers, and an EPOCH disagreement at the lower end sends STATE_PULL. The port takes the more restrictive verdict once it holds both. The Etcher records SELF notes, as a standby does (the model's choice, log 155), quarantines a member that differs and a duplicate chip number, and takes PEER and CABLING ports as failed pairs. AGREE_QUAR puts every port of the named package in QUARANTINE, AGREE_CLEAR repeats the exchange, and a period with one NONCE clears a duplicate. (16_cluster_agreement R425, 16_cluster_agreement R426, 16_cluster_agreement R427, 16_cluster_agreement R428, 16_cluster_agreement R430, 16_cluster_agreement R431, 16_cluster_agreement R433, 16_cluster_agreement R434, 16_cluster_agreement R435) -/
def Obligations.CredentialsNotesAndMemberQuarantine : Prop :=
  (∀ (s : State) (p : Fin 16) (f : List Word), f.length ≠ 12 ∨ f.getD 11 0 ≠ w32 (crc32 (dwBytes (f.take 11))) ∨ (s.port p ≠ 2 ∧ s.port p ≠ 3) →
      exec (.credReceive p f) s = .next s)
  ∧ (∀ (s : State) (p : Fin 16) (f : List Word), f.length = 12 → f.getD 11 0 = w32 (crc32 (dwBytes (f.take 11))) → s.port p = 2 ∨ s.port p = 3 →
      (s.lk p).peerV = none → pkW f 0 % 16384 ≠ s.chip → pkW f 3 ≤ s.rd R.CL_EPOCH →
      let fails := credTests s p f
      let v := if fails = [] then 1 else 2
      Runs (.credReceive p f) s fun t => t.bit (R.AGREE_P_RESULT p) 31 = true ∧ t.fd (R.AGREE_P_RESULT p) 29 28 = v
        ∧ t.fd (R.AGREE_P_RESULT p) 27 24 = fails.headD 0 ∧ t.fd (R.AGREE_P_RESULT p) 14 0 = credDiff s p f fails
        ∧ t.fd (R.AGREE_P_PEER p) 13 0 = pkW f 0 % 16384 ∧ t.rd (R.AGREE_P_EPOCH p) = pkW f 3 ∧ t.rd (R.AGREE_P_NONCE p) = pkW f 10
        ∧ t.rd (R.AGREE_P_IMG_LO p) = pkW f 4 ∧ t.rd (R.AGREE_P_IMG_HI p) = pkW f 5
        ∧ (t.lk p).cred = some f ∧ (t.lk p).ownV = (v, fails.headD 0)
        ∧ Out.lctl p 0x03 [(f.getD 11 0).toNat, 2 ^ 28 * v + 2 ^ 24 * fails.headD 0] ∈ t.out ∧ t.port p = s.port p ∧ t.evt = s.evt
        ∧ RegsKept [R.AGREE_P_RESULT p, R.AGREE_P_PEER p, R.AGREE_P_VER p, R.AGREE_P_EPOCH p, R.AGREE_P_IMG_LO p, R.AGREE_P_IMG_HI p, R.AGREE_P_NONCE p] s t
        ∧ SameMem s t)
  ∧ (∀ (s : State) (p : Fin 16) (f : List Word), fieldOf (s.curRec (0x050 + 16 * p)) 31 28 ≠ 5 →
      (credTests s p f = [] ↔ s.bit (R.AGREE_P_RESULT p) 15 = false ∧ fieldOf (pkW f 0) 31 28 = 1 ∧ fieldOf (pkW f 1) 31 16 = 0x1608
        ∧ f.getD 8 0 = (credFrame s p).getD 8 0 ∧ f.getD 9 0 = (credFrame s p).getD 9 0 ∧ f.getD 6 0 = (credFrame s p).getD 6 0
        ∧ f.getD 7 0 = (credFrame s p).getD 7 0 ∧ fieldOf (pkW f 2) 31 24 = fieldOf (pkW (credFrame s p) 2) 31 24
        ∧ (bitOf (pkW f 0) 23 = true → s.bit R.AGREE_POLICY 31 = true) ∧ pkW f 0 % 16384 ≠ s.chip
        ∧ (s.agree.known.find? fun x => x.1 == pkW f 0 % 16384) = none ∧ pkW f 0 % 16384 = (peerOf s p).1 ∧ pkW f 1 % 16 = (peerOf s p).2
        ∧ pkW f 3 = s.rd R.CL_EPOCH ∧ bitOf (pkW f 0) 21 = false))
  ∧ (∀ (s : State) (p : Fin 16) (f : List Word), f.length = 12 → f.getD 11 0 = w32 (crc32 (dwBytes (f.take 11))) → s.port p = 2 →
      (s.lk p).peerV = none → (s.lk p).cred ≠ some f → pkW f 0 % 16384 ≠ s.chip → (credTests s p f).headD 0 = 9 → s.rd R.CL_EPOCH < pkW f 3 →
      Runs (.credReceive p f) s fun t => t.agree.pull = true ∧ (∃ ports, Ordered t [w32 (2 ^ 24 * 0x3F), w32 (65536 * s.chip + ports)])
        ∧ t.fd (R.AGREE_P_RESULT p) 27 24 = 9 ∧ t.evt = s.evt ∧ SameMem s t)
  ∧ (∀ (s : State) (p : Fin 16) (d0 d1 : Word), (s.port p ≠ 2 ∧ s.port p ≠ 3) ∨ (credFrame s p).getLast? ≠ some d0 →
      exec (.credAckReceive p d0 d1) s = .next s)
  ∧ (∀ (s : State) (p : Fin 16) (d0 d1 : Word), s.port p = 2 ∨ s.port p = 3 → (credFrame s p).getLast? = some d0 → (s.lk p).cred = none →
      Runs (.credAckReceive p d0 d1) s fun t => (t.lk p).peerV = some (fieldOf d1.toNat 29 28, fieldOf d1.toNat 27 24)
        ∧ t.regs = s.regs ∧ t.evt = s.evt ∧ t.out = s.out ∧ SameMem s t)
  ∧ (∀ (s : State) (p : Fin 16) (d0 d1 : Word), s.port p = 2 ∨ s.port p = 3 → (credFrame s p).getLast? = some d0 → (s.lk p).cred.isSome = true →
      isEtcher s = false → s.evt.queue.length < 900 → (s.lk p).ownV.1 = 1 → fieldOf d1.toNat 29 28 = 1 → Runs (.credAckReceive p d0 d1) s fun t =>
        (t.port p = 4 ∨ t.port p = 5) ∧ t.fd R.AGREE_CNT 15 0 = min 0xFFFF (s.fd R.AGREE_CNT 15 0 + 1)
          ∧ (s.fd (R.AGREE_P_RESULT p) 14 0 ≠ 0 → Raised t Ev.CRED_NOTED p) ∧ (t.lk p).cred = none ∧ SameMem s t)
  ∧ (∀ (s : State) (p : Fin 16) (d0 d1 : Word), s.port p = 2 → (credFrame s p).getLast? = some d0 → (s.lk p).cred.isSome = true →
      isEtcher s = false → s.evt.queue.length < 900 → (s.lk p).ownV.1 = 2 ∨ fieldOf d1.toNat 29 28 = 2 → Runs (.credAckReceive p d0 d1) s fun t =>
        t.port p = 3 ∧ t.bit R.AGREE_STATUS p = true ∧ Raised t Ev.CRED_QUARANTINE p ∧ t.fd R.AGREE_CNT 31 16 = min 0xFFFF (s.fd R.AGREE_CNT 31 16 + 1)
          ∧ t.fd (R.AGREE_P_RESULT p) 23 20 = fieldOf d1.toNat 27 24 ∧ SameMem s t)
  ∧ (∀ (s : State) (chip : BitVec 14) (ports : BitVec 16) (w : List Word), isEtcher s = false →
      exec (.statePull chip ports) s = .next s ∧ (s.bit R.CL_STATUS 30 = false → exec (.agreeNoteReceive w) s = .next s))
  ∧ (∀ (s : State) (w : List Word), isEtcher s = false → s.bit R.CL_STATUS 30 = true → bitOf (pkW w 0) 23 = false → Runs (.agreeNoteReceive w) s fun t =>
      t.agree.self_ = smPut s.agree.self_ (pkW w 1 % 16384) (pkW w 2, false) ∧ t.agree.quar = s.agree.quar ∧ t.regs = s.regs ∧ t.evt = s.evt
        ∧ t.out = s.out ∧ SameMem s t)
  ∧ (∀ (s : State) (chip : BitVec 14) (ports : BitVec 16) (f g : List Word), isEtcher s = true → s.cl.lastLease = some f → s.cl.lastState = some g →
      s.sbE.queue.length ≤ 14 → s.sbW.queue.length ≤ 14 → Runs (.statePull chip ports) s fun t =>
        (∀ h ∈ [f, g], sbBuild 0x01 s.chip .east h ∈ t.sbE.queue ∧ sbBuild 0x01 s.chip .west h ∈ t.sbW.queue)
          ∧ t.rd R.CL_SEQ = s.rd R.CL_SEQ ∧ t.evt = s.evt ∧ SameMem s t)
  ∧ (∀ s : State, (s.agree.pull = false → exec .statePullRetry s = .next s) ∧ (s.bit R.AGREE_STATUS 31 = false → exec .agreeSelfTimer s = .next s))
  ∧ (∀ s : State, s.agree.pull = true → Runs .statePullRetry s fun t => t.agree = s.agree ∧ (∃ ports < 65536,
      (∀ p < 16, bitOf ports p = (s.port p == 3 && portReason s p == 9)) ∧ Ordered t [w32 (2 ^ 24 * 0x3F), w32 (65536 * s.chip + ports)])
        ∧ t.evt = s.evt ∧ SameMem s t)
  ∧ (∀ s : State, s.bit R.AGREE_STATUS 31 = true → isEtcher s = false → Runs .agreeSelfTimer s fun t =>
      Ordered t (noteWords s 0 0 0 0 0 0 0) ∧ (s.bit R.CL_STATUS 30 = false → t.agree = s.agree) ∧ t.evt = s.evt ∧ SameMem s t)
  ∧ (∀ (s : State) (w : List Word), isEtcher s = true → bitOf (pkW w 0) 23 = false → s.agree.quar = [] → s.agree.dups = [] →
      (∀ x, (s.agree.self_.find? fun x => x.1 == pkW w 1 % 16384) = some x → x.2.1 = pkW w 2 ∨ x.2.2 = true) → selfMask s w = 0 → RoomFor s →
      Runs (.agreeNoteReceive w) s fun t => t.agree.self_ = smPut s.agree.self_ (pkW w 1 % 16384) (pkW w 2, false)
        ∧ t.agree.quar = [] ∧ t.agree.dups = [] ∧ t.out = s.out ∧ RegsKept [R.AGREE_ETCH_STATUS] s t ∧ SameMem s t)
  ∧ (∀ (s : State) (w : List Word) (r : Nat), isEtcher s = true → bitOf (pkW w 0) 23 = false → s.agree.quar = [] → s.agree.dups = [] → s.agree.self_ = [] →
      pkW w 1 % 16384 ≠ s.chip → (∀ p < 16, (peerOf s p).1 ≠ pkW w 1 % 16384) → s.repl.etch = none → fallbackMatch s [] [pkW w 1 % 16384] = none →
      ([2, 3, 4, 5, 6].find? fun r => bitOf (selfMask s w) r) = some r → s.evt.queue.length < 900 → Runs (.agreeNoteReceive w) s fun t =>
        Raised t Ev.MEMBER_QUARANTINE 0 ∧ t.agree.quar = [(pkW w 1 % 16384, (r, pkW w 2))]
          ∧ Ordered t [w32 (2 ^ 24 * 0x3D + 65536 * r + pkW w 1 % 16384), w32 (pkW w 2)]
          ∧ t.rd (R.AGREE_ETCH_LIST 0) = 2 ^ 31 + 2 ^ 24 * r + pkW w 1 % 16384 ∧ t.fd R.AGREE_ETCH_STATUS 29 16 = 1 ∧ SameMem s t)
  ∧ (∀ (s : State) (w : List Word) (n : Nat), isEtcher s = true → bitOf (pkW w 0) 23 = false → s.agree.quar = [] → s.agree.dups = [] →
      (s.agree.self_.find? fun x => x.1 == pkW w 1 % 16384) = some (pkW w 1 % 16384, (n, false)) → n ≠ pkW w 2 → pkW w 1 % 16384 ≠ s.chip →
      (∀ p < 16, (peerOf s p).1 ≠ pkW w 1 % 16384) → s.repl.etch = none → fallbackMatch s [] [pkW w 1 % 16384] = none → s.evt.queue.length < 900 →
      Runs (.agreeNoteReceive w) s fun t => Raised t Ev.CHIP_DUPLICATE 0 ∧ t.agree.quar = [(pkW w 1 % 16384, (7, 0))]
        ∧ t.agree.dups = [(pkW w 1 % 16384, [])] ∧ Ordered t [w32 (2 ^ 24 * 0x3D + 65536 * 7 + pkW w 1 % 16384), 0] ∧ SameMem s t)
  ∧ (∀ (s : State) (w : List Word), isEtcher s = true → bitOf (pkW w 0) 23 = true → pkW w 9 = 0 → fieldOf (pkW w 0) 21 20 = 2 →
      fieldOf (pkW w 0) 19 16 = 8 ∨ fieldOf (pkW w 0) 19 16 = 11 → Runs (.agreeNoteReceive w) s fun t =>
        let port := fieldOf (pkW w 0) 11 8
        (pkW w 1 % 16384, port) ∈ t.repl.pairs ∧ bitOf (agPorts t (pkW w 1 % 16384)) port = true ∧ bitOf (agPorts t (pkW w 1 % 16384)) (16 + port) = true
          ∧ ((pkW w 1 % 16384, port) ∉ s.repl.pairs → t.repl.window = true) ∧ SameMem s t)
  ∧ (∀ (s : State) (chip : BitVec 14) (nonce : Word) (r : BitVec 4), chip.toNat ≠ s.chip → (∀ p < 16, (peerOf s p).1 ≠ chip.toNat) →
      Runs (.agreeQuarReceive chip nonce r) s fun t => t.agree.known = smPut s.agree.known chip.toNat r.toNat ∧ t.regs = s.regs ∧ t.evt = s.evt
        ∧ t.out = s.out ∧ SameMem s t)
  ∧ (∀ (s : State) (chip : BitVec 14) (nonce : Word) (r : BitVec 4), chip.toNat = s.chip → r = 7 ∨ nonce.toNat = s.rd R.AGREE_NONCE →
      isEtcher s = false → s.evt.queue.length < 900 → Runs (.agreeQuarReceive chip nonce r) s fun t =>
        t.bit R.AGREE_STATUS 31 = true ∧ t.fd R.AGREE_STATUS 27 24 = r.toNat
          ∧ (∀ p < 16, s.port p = 4 ∨ s.port p = 5 → t.port p = 3 ∧ t.fd (R.AGREE_P_RESULT p) 29 28 = 2
            ∧ t.fd (R.AGREE_P_RESULT p) 27 24 = (if r = 7 then 7 else 10) ∧ Raised t Ev.CRED_QUARANTINE p)
          ∧ (∀ p < 16, s.port p ≠ 4 → s.port p ≠ 5 → t.port p = s.port p) ∧ SameMem s t)
  ∧ (∀ (s : State) (chip : BitVec 14) (nonce : Word) (r : BitVec 4), Runs (.agreeClearReceive chip nonce r) s fun t =>
      t.agree.known = smErase s.agree.known chip.toNat ∧ (chip.toNat = s.chip → t.bit R.AGREE_STATUS 31 = false)
        ∧ (∀ p < 16, s.port p = 3 → portReason s p = 7 ∨ portReason s p = 10 → chip.toNat = s.chip ∨ (peerOf s p).1 = chip.toNat →
            .lctl p 0x02 ((credFrame t p).map (·.toNat)) ∈ t.out)
        ∧ (∀ o ∈ t.out, o ∈ s.out ∨ (∃ p n c, o = .codeword p n c) ∨ ∃ p < 16, s.port p = 3 ∧ (portReason s p = 7 ∨ portReason s p = 10)
            ∧ (chip.toNat = s.chip ∨ (peerOf s p).1 = chip.toNat) ∧ o = .lctl p 0x02 ((credFrame t p).map (·.toNat)))
        ∧ t.evt = s.evt ∧ RegsKept [R.AGREE_STATUS] s t ∧ SameMem s t)
  ∧ (∀ (s : State) (chip : BitVec 14), (s.agree.dups.find? fun x => x.1 == chip.toNat) = none ∨ isEtcher s = false →
      exec (.dupClearExpiry chip) s = .next s)
  ∧ (∀ (s : State) (chip : BitVec 14) (ns : List Nat), isEtcher s = true → (s.agree.dups.find? fun x => x.1 == chip.toNat) = some (chip.toNat, ns) →
      ns.length ≤ 1 → Runs (.dupClearExpiry chip) s fun t => t.agree.dups = smErase s.agree.dups chip.toNat ∧ t.agree.quar = smErase s.agree.quar chip.toNat
        ∧ Ordered t [w32 (2 ^ 24 * 0x3E + 65536 * 7 + chip.toNat), 0] ∧ SameMem s t)
  ∧ ∀ (s : State) (chip : BitVec 14) (ns : List Nat), isEtcher s = true → (s.agree.dups.find? fun x => x.1 == chip.toNat) = some (chip.toNat, ns) →
      2 ≤ ns.length → Runs (.dupClearExpiry chip) s fun t => t.agree = { s.agree with dups := smPut s.agree.dups chip.toNat [] }
        ∧ t.regs = s.regs ∧ t.evt = s.evt ∧ SameMem s t

/-- A read of clean words answers OK with their bytes; a write of any of the three opcodes puts its bytes there, marks the words where the packet carries POISON, and is answered WACK OK; an atomic answers the old bytes and stores the wrapped sum or the new value. A read of a marked word answers POISON and leaves memory unchanged. A request out of limits is BAD_REQ, an unmapped one UNMAPPED, one for a domain that is OFF RESET, a control write outside every window DENIED, each with no effect; one for a stack in reset or waking waits. A message is stored in its open receive context or answered UNMAPPED or NO_SPACE. (17_sunduafen_fabric_protocol R446, 17_sunduafen_fabric_protocol R447, 17_sunduafen_fabric_protocol R448, 17_sunduafen_fabric_protocol R449, 17_sunduafen_fabric_protocol R450, 17_sunduafen_fabric_protocol R451, 17_sunduafen_fabric_protocol R452, 17_sunduafen_fabric_protocol R453, 17_sunduafen_fabric_protocol R469, 17_sunduafen_fabric_protocol R472, 23_transfer_engine R594) -/
def Obligations.TheTargetExecutesRequests : Prop :=
  (∀ (s : State) (r : SdfpReq) (m : Ram) (k : Nat), TargetTakes s r → r.payload = [] → gaChip r.addr.toNat = s.chip →
      reqShape 1 r.addr.toNat r.len.toNat = true → Mapped s r.addr.toNat r.len.toNat m k → CleanWords s m k r.len.toNat → midWriters s m k r.len.toNat = [] →
      exec (.rd r) s = .next (answer (reqPkt s 1 r) 0 (bytesAt ramD (ramOf s m) k r.len.toNat) s))
  ∧ (∀ (s : State) (c : Instr) (o : Nat) (r : SdfpReq) (m : Ram) (k : Nat), (c, o) = (.wr r, 2) ∨ (c, o) = (.bwr r, 0x10) ∨ (c, o) = (.owr r, 0x18) →
      TargetTakes s r → r.payload.length = r.len.toNat → gaChip r.addr.toNat = s.chip → reqShape o r.addr.toNat r.len.toNat = true →
      Mapped s r.addr.toNat r.len.toNat m k → CleanWords s m k r.len.toNat → s.bit R.MEM_INJECT 31 = false → Runs c s fun t =>
        t = answer (reqPkt s o r) 0 [] (memWrite 3 m k (r.payload.map fun b => (b, r.poison)) s) ∧ WroteAt s t m k r.payload
          ∧ (∀ j, k / 8 ≤ j → j < (k + r.len.toNat + 7) / 8 → ramSyn t m j = if r.poison then 3 else 0))
  ∧ (∀ (s : State) (c : Instr) (o : Nat) (r : SdfpReq) (m : Ram) (k : Nat), (c, o) = (.aadd r, 3) ∨ (c, o) = (.aswp r, 4) →
      TargetTakes s r → r.payload.length = r.len.toNat → gaChip r.addr.toNat = s.chip → reqShape o r.addr.toNat r.len.toNat = true →
      Mapped s r.addr.toNat r.len.toNat m k → CleanWords s m k r.len.toNat → s.bit R.MEM_INJECT 31 = false → r.poison = false →
      let old := bytesAt ramD (ramOf s m) k r.len.toNat
      let new := if o = 4 then r.payload else natToBytes r.len.toNat ((bytesToNat old + bytesToNat r.payload) % 2 ^ (8 * r.len.toNat))
      Runs c s fun t => (∃ u, t = answer (reqPkt s o r) 0 old u) ∧ WroteAt s t m k new ∧ CleanWords t m k r.len.toNat)
  ∧ (∀ (s : State) (r : SdfpReq) (m : Ram) (k j : Nat), TargetTakes s r → r.payload = [] → gaChip r.addr.toNat = s.chip →
      reqShape 1 r.addr.toNat r.len.toNat = true → Mapped s r.addr.toNat r.len.toNat m k → k / 8 ≤ j → j < (k + r.len.toNat + 7) / 8 →
      ramSyn s m j = 3 → midWriters s m k r.len.toNat = [] → Runs (.rd r) s fun t => (∃ u, t = answer (reqPkt s 1 r) 1 [] u) ∧ SameMem s t)
  ∧ (∀ (s : State) (r : SdfpReq), TargetTakes s r → r.payload = [] → gaChip r.addr.toNat ≠ s.chip ∨ reqShape 1 r.addr.toNat r.len.toNat = false →
      exec (.rd r) s = .next (answer (reqPkt s 1 r) 6 [] s))
  ∧ (∀ (s : State) (c : Instr) (o : Nat) (r : SdfpReq), (c, o) = (.wr r, 2) ∨ (c, o) = (.bwr r, 0x10) ∨ (c, o) = (.owr r, 0x18) ∨ (c, o) = (.aadd r, 3)
        ∨ (c, o) = (.aswp r, 4) → TargetTakes s r → r.payload.length = r.len.toNat →
      (gaChip r.addr.toNat ≠ s.chip ∨ reqShape o r.addr.toNat r.len.toNat = false → exec c s = .next (answer (reqPkt s o r) 6 [] s))
      ∧ (gaChip r.addr.toNat = s.chip → reqShape o r.addr.toNat r.len.toNat = true →
        gaSpace r.addr.toNat = 3 ∨ (gaSpace r.addr.toNat = 0 ∧ hbmSize < gaOff r.addr.toNat + r.len.toNat)
          ∨ (gaSpace r.addr.toNat = 1 ∧ velKey (gaOff r.addr.toNat) r.len.toNat = none) → exec c s = .next (answer (reqPkt s o r) 2 [] s))
      ∧ (∀ cl k, gaChip r.addr.toNat = s.chip → reqShape o r.addr.toNat r.len.toNat = true → gaSpace r.addr.toNat = 1 →
        velKey (gaOff r.addr.toNat) r.len.toNat = some (cl, k) → s.domUp (cl / 2) = false → exec c s = .next (answer (reqPkt s o r) 7 [] s))
      ∧ (reqWaits s (reqPkt s o r) = true → exec c s = .next (toLocal (reqPkt s o r) s)))
  ∧ (∀ (s : State) (c : Instr) (o : Nat) (r : SdfpReq), (c, o) = (.wr r, 2) ∨ (c, o) = (.owr r, 0x18) → TargetTakes s r → r.payload.length = r.len.toNat →
      gaChip r.addr.toNat = s.chip → gaSpace r.addr.toNat = 2 → r.len.toNat = 4 ∨ r.len.toNat = 8 → gaOff r.addr.toNat % r.len.toNat = 0 →
      gaOff r.addr.toNat + r.len.toNat ≤ 0x4000000 →
      (inWindow s (gaOff r.addr.toNat) r.len.toNat = false → exec c s = .next (answer (reqPkt s o r) 3 [] s))
      ∧ (r.len.toNat = 4 → inWindow s (gaOff r.addr.toNat) 4 = true → s.blockOn (gaOff r.addr.toNat) = true →
        pathDenies .sdfp (gaOff r.addr.toNat) (bytesToNat r.payload) s = false → halfOfPair (gaOff r.addr.toNat) = false →
        (regWrite .sdfp (gaOff r.addr.toNat) (w32 (bytesToNat r.payload)) s).rst.chip = false →
        (regWrite .sdfp (gaOff r.addr.toNat) (w32 (bytesToNat r.payload)) s).fab.inbox = [] →
        exec c s = .next (answer (reqPkt s o r) 0 [] (regWrite .sdfp (gaOff r.addr.toNat) (w32 (bytesToNat r.payload)) s))))
  ∧ (∀ (s : State) (r : SdfpReq), TargetTakes s r → r.payload = [] → gaChip r.addr.toNat = s.chip → gaSpace r.addr.toNat = 2 → r.len.toNat = 4 →
      gaOff r.addr.toNat % 4 = 0 → gaOff r.addr.toNat + 4 ≤ 0x4000000 → s.blockOn (gaOff r.addr.toNat) = true →
      exec (.rd r) s = .next (answer (reqPkt s 1 r) 0 (natToBytes 4 (regRead .sdfp (gaOff r.addr.toNat) s).1) s))
  ∧ (∀ (s : State) (r : SdfpReq), TargetTakes s r → r.payload.length = r.len.toNat → 1 ≤ r.len.toNat → r.len.toNat ≤ 512 → s.domUp 0xA3 = true →
      let c := r.stream.toNat
      let a := s.rd64 (R.XFE_BASE_LO c) + 544 * (ctxHead s c % 2 ^ ctxLog s c)
      let room := (ctxHead s c + 65536 - ctxTail s c) % 65536 < 2 ^ ctxLog s c
      (ctxKind s c ≠ 3 → exec (.msg r) s = .next (answer (reqPkt s 0x19 r) 2 [] s))
      ∧ (ctxKind s c = 3 → ¬room → Runs (.msg r) s fun t => (∃ u, t = answer (reqPkt s 0x19 r) 5 [] u)
        ∧ t.fd (R.XFE_MSG c) 31 16 = min 0xFFFF (s.fd (R.XFE_MSG c) 31 16 + 1) ∧ ctxHead t c = ctxHead s c ∧ SameMem s t)
      ∧ (ctxKind s c = 3 → room → a + 544 ≤ hbmSize → s.bit R.MEM_INJECT 31 = false → CleanWords s .hbm a 544 → r.poison = false →
        s.bit (R.XFE_CTL c) 25 = false → Runs (.msg r) s fun t => (∃ u, t = answer (reqPkt s 0x19 r) 0 [] u)
          ∧ bytesAt ramD t.hbm (a + 32) r.len.toNat = r.payload
          ∧ bytesAt ramD t.hbm a 16 = dwBytes [w32 (2 ^ 31 * (1 - (ctxHead s c >>> ctxLog s c) % 2) + r.len.toNat), w32 r.src.toNat, w32 (s.now % 2 ^ 32),
              w32 (ctxHead s c)]
          ∧ (∀ x, (x < a ∨ a + 16 ≤ x) → (x < a + 32 ∨ a + 32 + r.len.toNat ≤ x) → smGet ramD t.hbm x = smGet ramD s.hbm x)
          ∧ ctxHead t c = (ctxHead s c + 1) % 65536 ∧ t.fd (R.XFE_MSG c) 15 0 = min 0xFFFF (s.fd (R.XFE_MSG c) 15 0 + 1)))
  ∧ (∀ (s : State) (c : Instr) (r : SdfpReq), c = .wr r ∨ c = .bwr r ∨ c = .owr r ∨ c = .aadd r ∨ c = .aswp r ∨ c = .msg r →
      r.payload.length ≠ r.len.toNat → exec c s = .fault .illFormed)
  ∧ (∀ (s : State) (r : SdfpReq), r.payload ≠ [] → exec (.rd r) s = .fault .illFormed)
  ∧ ∀ (s : State) (c : Instr) (r : SdfpReq), s.domUp 0xA4 = false → (c = .rd r ∧ r.payload = []) ∨ ((c = .wr r ∨ c = .bwr r ∨ c = .owr r
      ∨ c = .aadd r ∨ c = .aswp r ∨ c = .msg r) ∧ r.payload.length = r.len.toNat) → exec c s = .next s

/-- A port that hears takes the next whole packet of its stream: NULL flits and reserved channels are discarded uncounted, a QUARANTINE port counts what is not CTRL, a packet without HOPS is dropped and counted, a packet for another chip goes out on the egress the ROUTE gives with HOPS one lower. A CREDIT flit returns the credits it counts, and the own one leaves in a DATA block that is kept for retry. A response that matches no request by its whole TAG is counted as stale; a timeout counts, advances GEN and fences the entry; ORDER packets leave once nothing earlier is outstanding. A CORD is relayed once; an endpoint port spoofs. FAB_ROUTE_A answers the query of its own path. (17_sunduafen_fabric_protocol R440, 17_sunduafen_fabric_protocol R442, 17_sunduafen_fabric_protocol R443, 17_sunduafen_fabric_protocol R444, 17_sunduafen_fabric_protocol R454, 17_sunduafen_fabric_protocol R455, 17_sunduafen_fabric_protocol R458, 17_sunduafen_fabric_protocol R460, 17_sunduafen_fabric_protocol R467, 17_sunduafen_fabric_protocol R468, 17_sunduafen_fabric_protocol R474) -/
def Obligations.PortsCreditsTagsAndRelay : Prop :=
  (∀ (s : State) (p : Fin 16) (fr : List (BitVec 16)) (h : BitVec 6) (c : BitVec 14) (f : List Word) (e : Bool), portHears s p = false →
      exec (.flitReceive p e) s = .next s ∧ (fr.length = 10 → exec (.creditReceive p fr) s = .next s) ∧ exec (.cordReceive p h c f) s = .next s)
  ∧ (∀ (s : State) (p : Fin 16), portHears s p = true → (∀ f ∈ (s.lk p).flits, f.headD 0 = 0) → Runs (.flitReceive p false) s fun t =>
      t.lk p = { s.lk p with flits := [] } ∧ t.regs = s.regs ∧ t.evt = s.evt ∧ t.out = s.out ∧ SameMem s t)
  ∧ (∀ (s : State) (p : Fin 16) (f : List Word) (fs : List (List Word)), portHears s p = true → (s.lk p).flits = f :: fs → f.length = 16 → f.headD 0 ≠ 0 →
      pkOpc f ≠ 0x3E → fs.length + 1 < pkFlits f → exec (.flitReceive p false) s = .next s)
  ∧ (∀ (s : State) (p : Fin 16) (f : List Word) (fs : List (List Word)), portHears s p = true → (s.lk p).flits = f :: fs → f.length = 16 → f.headD 0 ≠ 0 →
      pkOpc f ≠ 0x3E → pkFlits f ≤ fs.length + 1 → s.fab.inbox = [] →
      (5 < pkVc f → Runs (.flitReceive p false) s fun t => t.lk p = { s.lk p with flits := (f :: fs).drop (pkFlits f) } ∧ t.regs = s.regs ∧ t.evt = s.evt
        ∧ t.out = s.out ∧ SameMem s t)
      ∧ (pkVc f ≤ 5 → RoomFor s → Runs (.flitReceive p true) s fun t => (t.lk p).flits = (f :: fs).drop (pkFlits f)
        ∧ t.fd R.FAB_DROP_CNT 31 24 = min 0xFF (s.fd R.FAB_DROP_CNT 31 24 + 1) ∧ Raised t Ev.FAB_ECC p ∧ t.out = s.out
        ∧ RegsKept [R.FAB_DROP_CNT, R.FAB_VC_RX_LO p (pkVc f), R.FAB_VC_RX_LO p (pkVc f) + 4] s t ∧ SameMem s t)
      ∧ (s.port p = 3 → pkVc f ≠ 0 → pkVc f ≤ 5 → Runs (.flitReceive p false) s fun t => (t.lk p).flits = (f :: fs).drop (pkFlits f)
        ∧ t.fd R.FAB_DROP_CNT 15 8 = min 0xFF (s.fd R.FAB_DROP_CNT 15 8 + 1)
        ∧ t.rd64 (R.FAB_VC_RX_LO p (pkVc f)) = (s.rd64 (R.FAB_VC_RX_LO p (pkVc f)) + pkFlits f) % 2 ^ 64
        ∧ t.evt = s.evt ∧ t.out = s.out ∧ RegsKept [R.FAB_DROP_CNT, R.FAB_VC_RX_LO p (pkVc f), R.FAB_VC_RX_LO p (pkVc f) + 4] s t ∧ SameMem s t)
      ∧ (s.port p ≠ 3 → routeMode s p ≠ 5 → 1 ≤ pkVc f → pkVc f ≤ 4 → opcVc (pkOpc f) = some (pkVc f) → pkDest f ≠ s.chip →
        (pkHops f = 0 → RoomFor s → Runs (.flitReceive p false) s fun t => t.fd R.FAB_DROP_CNT 23 16 = min 0xFF (s.fd R.FAB_DROP_CNT 23 16 + 1)
          ∧ Raised t Ev.FAB_HOPS_EXPIRED p ∧ t.out = s.out
          ∧ RegsKept [R.FAB_DROP_CNT, R.FAB_VC_RX_LO p (pkVc f), R.FAB_VC_RX_LO p (pkVc f) + 4] s t ∧ SameMem s t)
        ∧ (∀ q dim k, pkHops f ≠ 0 → egress s (pkDest f) = some (q, dim, k) → q ≠ p → q < 16 → s.port q = 4 ∨ s.port q = 5 → (s.lk q).queue = [] →
          let dl := nextClass s (some p) (pkDl f) dim k
          let w := hopPkt dl (pkHops f - 1) (pkTrim ((f :: fs).take (pkFlits f)).flatten)
          canSend s q ⟨bufOf (pkVc f) dl, w⟩ = true → Runs (.flitReceive p false) s fun t => Sends s t (.port q (pkVc f) w)
            ∧ (t.lk q).retry = (s.lk q).retry ++ [((s.lk q).txBsn, (slotLanes s q ((txSlots s q).getD ((s.lk q).txBsn % (txSlots s q).length) 0)).headD 0, blockOf w)]
            ∧ t.evt = s.evt ∧ SameMem s t)))
  ∧ (∀ (s : State) (p : Fin 16) (f : List Word) (fs : List (List Word)) (e : Bool), portHears s p = true → (s.lk p).flits = f :: fs → f.headD 0 ≠ 0 →
      pkOpc f = 0x3E → (s.lk p).queue = [] → Runs (.flitReceive p e) s fun t => t.lk p = { s.lk p with flits := fs, freed := creditCounts f }
        ∧ t.regs = s.regs ∧ t.evt = s.evt ∧ t.out = s.out ∧ SameMem s t)
  ∧ (∀ (s : State) (p : Fin 16) (fr : List (BitVec 16)), fr.length ≠ 10 → exec (.creditReceive p fr) s = .fault .illFormed)
  ∧ (∀ (s : State) (p : Fin 16) (fr : List (BitVec 16)), fr.length = 10 → portHears s p = true → (s.lk p).queue = [] → Runs (.creditReceive p fr) s fun t =>
      t.lk p = { s.lk p with freed := fr.map (·.toNat) } ∧ t.regs = s.regs ∧ t.evt = s.evt ∧ t.out = s.out ∧ SameMem s t)
  ∧ (∀ (s : State) (p : Fin 16), s.port p = 3 ∨ s.port p = 4 ∨ s.port p = 5 → s.domUp 0xA4 = true → (s.lk p).retry.length < 2048 → txSlots s p ≠ [] →
      let k := (txSlots s p).getD ((s.lk p).txBsn % (txSlots s p).length) 0
      let b := blockOf (creditFlit (s.lk p).mine)
      let kept := (s.lk p).retry ++ [((s.lk p).txBsn, (slotLanes s p k).headD 0, b)]
      Runs (.creditSend p) s fun t => t.lk p = { s.lk p with txBsn := ((s.lk p).txBsn + 1) % 16384, retry := kept }
        ∧ (∀ x ∈ t.out, x ∈ s.out ∨ ∃ n c, x = .codeword p n c) ∧ (∀ n ∈ slotLanes s p k, ∃ c, .codeword p n c ∈ t.out)
        ∧ t.fd (R.LNK_RETRY_STATUS p) 11 0 = ((s.lk p).retry.length + 1) % 4096 ∧ t.evt = s.evt ∧ RegsKept [R.LNK_RETRY_STATUS p] s t ∧ SameMem s t)
  ∧ (∀ (s : State) (p : Fin 16), ¬(s.port p = 3 ∨ s.port p = 4 ∨ s.port p = 5) ∨ s.domUp 0xA4 = false ∨ 2048 ≤ (s.lk p).retry.length ∨ txSlots s p = [] →
      exec (.creditSend p) s = .next s)
  ∧ (∀ (s : State) (o : BitVec 6) (c : BitVec 14) (tag : BitVec 16) (st : BitVec 4) (bs : List Byte), s.domUp 0xA4 = false ∨ opcVc o.toNat ≠ some 3 →
      exec (.responseReceive o c tag st bs) s = .next s)
  ∧ (∀ (s : State) (o : BitVec 6) (c : BitVec 14) (tag : BitVec 16) (st : BitVec 4) (bs : List Byte), s.domUp 0xA4 = true → opcVc o.toNat = some 3 →
      s.fab.inbox = [] → (∀ e ∈ s.fab.reqs, e.1 ≠ tag.toNat % 16384 ∨ e.2.gen ≠ tag.toNat / 16384) → Runs (.responseReceive o c tag st bs) s fun t =>
        t.rd R.FAB_STALE_CNT = min 0xFFFFFFFF (s.rd R.FAB_STALE_CNT + 1) ∧ t.fab = s.fab ∧ t.evt = s.evt ∧ t.out = s.out
          ∧ RegsKept [R.FAB_STALE_CNT] s t ∧ SameMem s t)
  ∧ (∀ (s : State) (o : BitVec 6) (c : BitVec 14) (tag : BitVec 16) (st : BitVec 4) (bs : List Byte) (e : Nat × FabReq), s.domUp 0xA4 = true →
      opcVc o.toNat = some 3 → s.fab.inbox = [] → s.fab.held = [] →
      (s.fab.reqs.find? fun e => e.1 == tag.toNat % 16384 && e.2.gen == tag.toNat / 16384) = some e → e.2.want.owner = .none →
      Runs (.responseReceive o c tag st bs) s fun t => t.fab = { s.fab with reqs := smErase s.fab.reqs e.1 }
        ∧ t.fd R.FAB_STATUS 14 0 = ((smErase s.fab.reqs e.1).length + s.fab.fenced.length) % 32768 ∧ t.evt = s.evt ∧ t.out = s.out
        ∧ RegsKept [R.FAB_STATUS] s t ∧ SameMem s t)
  ∧ (∀ (s : State) (i : Fin 16384), (s.fab.reqs.find? fun e => e.1 == i.val) = none → exec (.fabReqTimeout i) s = .next s)
  ∧ (∀ (s : State) (i : Fin 16384) (e : Nat × FabReq), (s.fab.reqs.find? fun e => e.1 == i.val) = some e → s.fab.inbox = [] → s.fab.held = [] →
      e.2.want.owner = .none → RoomFor s → Runs (.fabReqTimeout i) s fun t =>
        t.rd R.FAB_TIMEOUT_CNT = min 0xFFFFFFFF (s.rd R.FAB_TIMEOUT_CNT + 1) ∧ t.fab.reqs = smErase s.fab.reqs i ∧ t.fab.fenced = s.fab.fenced ++ [i.val]
          ∧ smGet (fun _ => (0 : Nat)) t.fab.gens i = (e.2.gen + 1) % 4
          ∧ ((Ev.FAB_REQ_TIMEOUT, 0, s.now / 8000) ∉ s.evt.marks → Raised t Ev.FAB_REQ_TIMEOUT e.2.want.ctx)
          ∧ RegsKept [R.FAB_TIMEOUT_CNT, R.FAB_STATUS] s t ∧ SameMem s t)
  ∧ (∀ (s : State) (i : Fin 16384), s.fab.inbox = [] → s.fab.held = [] → Runs (.requestEntryFree i) s fun t =>
      t.fab = { s.fab with fenced := s.fab.fenced.filter fun e => e != i.val } ∧ t.evt = s.evt ∧ t.out = s.out ∧ RegsKept [R.FAB_STATUS] s t ∧ SameMem s t)
  ∧ (∀ (s : State) (c : BitVec 12) (d : BitVec 14) (n : Nat) (w : FabWant), s.fab.inbox = [] → s.fab.held = [(n, w)] → mustHold s [] w = true →
      exec (.orderPacketRelease c d) s = .next s)
  ∧ (∀ (s : State) (c : BitVec 12) (d : BitVec 14) (n e : Nat) (w : FabWant), s.fab.inbox = [] → s.fab.held = [(n, w)] → mustHold s [] w = false →
      freeEntry s = some e → w.dest % 16384 ≠ s.chip → Runs (.orderPacketRelease c d) s fun t => t.fab.held = []
        ∧ t.fab.reqs = smPut s.fab.reqs e ⟨smGet (fun _ => (0 : Nat)) s.fab.gens e, n, w⟩ ∧ SameMem s t)
  ∧ (∀ (s : State) (p : Fin 16) (h : BitVec 6) (c : BitVec 14) (f : List Word), portHears s p = true → routeMode s p = 5 → RoomFor s →
      Runs (.cordReceive p h c f) s fun t => Raised t Ev.FAB_SPOOF p ∧ t.fd R.FAB_DROP_CNT 7 0 = min 0xFF (s.fd R.FAB_DROP_CNT 7 0 + 1)
        ∧ RegsKept [R.FAB_DROP_CNT] s t ∧ SameMem s t)
  ∧ (∀ (s : State) (p : Fin 16) (h : BitVec 6) (c : BitVec 14) (f : List Word), portHears s p = true → routeMode s p ≠ 5 → frameOk f = false →
      bitOf (pkW f 0) 31 = true → s.fab.inbox = [] → h.toNat ≠ 0 → (∀ k ∈ relayedNow s, k.1 ≠ c.toNat ∨ k.2.1 ≠ (f.getLastD 0).toNat) →
      Runs (.cordReceive p h c f) s fun t => t.cl.relayed = ((c.toNat, (f.getLastD 0).toNat, s.ticks) :: relayedNow s).take 8192
        ∧ t.rd R.CL_STALE_CNT = min 0xFFFFFFFF (s.rd R.CL_STALE_CNT + 1) ∧ t.evt = s.evt ∧ SameMem s t)
  ∧ (∀ (s : State) (p : Fin 16) (h : BitVec 6) (c : BitVec 14) (f : List Word), portHears s p = true → routeMode s p ≠ 5 → s.fab.inbox = [] →
      h.toNat = 0 ∨ (∃ k ∈ relayedNow s, k.1 = c.toNat ∧ k.2.1 = (f.getLastD 0).toNat) → exec (.cordReceive p h c f) s = .next (settle (acceptOrder f s)))
  ∧ ∀ (s : State) (p : Path) (v : Word), Reaches p s → s.domUp 0xA4 = true → Runs (.fabRouteQuery p v) s fun t =>
      (regRead p R.FAB_ROUTE_A t).1 = routeAnswer s (v.toNat % 16384) ∧ (regRead p R.FAB_ROUTE_Q t).1 = v.toNat % 16384
        ∧ (∀ q, q ≠ p → (regRead q R.FAB_ROUTE_A t).1 = (regRead q R.FAB_ROUTE_A s).1) ∧ t.regs = s.regs ∧ t.evt = s.evt ∧ SameMem s t

/-- Presence is lost after two consecutive empty samples: the found IDs are cleared, HMK_REMOVED is raised where a tag was present, and the verdict becomes ABSENT or VACANT. A long presence outside a search raises HMK_ATTACH and starts one. A command or the period starts a search on each named port that runs none. A pass without presence, with a long presence, with an invalid ID or with another set than the last round restarts the search with its cause, and want of presence the eighth time abandons it with HMK_UNSTABLE; two rounds that found one and the same tag end it with MATCH or ALT, or with MISMATCH, which sets CABLING on a port that is not shut and puts an ACTIVE or DEGRADED one into QUARANTINE. (18_hallmark_bus R480, 18_hallmark_bus R481, 18_hallmark_bus R482, 18_hallmark_bus R483, 18_hallmark_bus R484, 18_hallmark_bus R485, 18_hallmark_bus R489, 18_hallmark_bus R490) -/
def Obligations.HallmarkPresenceSearchAndVerdict : Prop :=
  (∀ (s : State) (p : Fin 16) (c : Instr), hmkOn s = false → (∃ x, c = .hmkPresenceReset p x) ∨ c = .hmkPeriodSearch ∨ (∃ x ts, c = .searchPass p x ts)
      ∨ c = .hmkRetryTimer p → exec c s = .next s)
  ∧ (∀ (s : State) (q : Path) (v : Word), Reaches q s → hmkOn s = false ∨ bitOf v.toNat 31 = false → exec (.hmkCmd q v) s = .next s)
  ∧ (∀ (s : State) (p : Fin 16) (x : Presence), (hp s p).search.isSome = true → exec (.hmkPresenceReset p x) s = .next s)
  ∧ (∀ (s : State) (p : Fin 16), hmkOn s = true → (hp s p).search = none → Runs (.hmkPresenceReset p .short) s fun t =>
      t.bit (R.HMK_P_STATUS p) 26 = true ∧ t.bit R.HMK_STATUS (16 + p) = true ∧ (hp t p).empty = 0 ∧ hmkVerdict t p = hmkVerdict s p
        ∧ t.evt = s.evt ∧ t.out = s.out ∧ RegsKept [R.HMK_P_STATUS p, R.HMK_STATUS] s t ∧ SameMem s t)
  ∧ (∀ (s : State) (p : Fin 16), hmkOn s = true → (hp s p).search = none → (hp s p).empty = 0 → Runs (.hmkPresenceReset p .none) s fun t =>
      (hp t p).empty = 1 ∧ t.regs = s.regs ∧ t.evt = s.evt ∧ t.out = s.out ∧ SameMem s t)
  ∧ (∀ (s : State) (p : Fin 16), hmkOn s = true → (hp s p).search = none → (hp s p).empty = 1 → s.evt.queue.length < 900 → Runs (.hmkPresenceReset p .none) s fun t =>
      t.bit (R.HMK_P_STATUS p) 26 = false ∧ t.bit R.HMK_STATUS (16 + p) = false ∧ t.fd (R.HMK_P_STATUS p) 18 16 = 0
        ∧ (∀ k < 4, t.rd64 (R.HMK_P_ID_LO p k) = 0) ∧ hmkVerdict t p = (if mapKind s p = 0 then 5 else 4)
        ∧ (s.bit (R.HMK_P_STATUS p) 26 = true → Raised t Ev.HMK_REMOVED p)
        ∧ (mapKind s p ≠ 0 → t.bit R.LAS_SHUT p = true ∧ t.bit R.LAS_SHUT_CAUSE p = true)
        ∧ (mapKind s p = 0 → t.rd R.LAS_SHUT = s.rd R.LAS_SHUT ∧ t.port p = s.port p) ∧ SameMem s t)
  ∧ (∀ (s : State) (p : Fin 16), hmkOn s = true → (hp s p).search = none → RoomFor s → Runs (.hmkPresenceReset p .long) s fun t =>
      Raised t Ev.HMK_ATTACH p ∧ (hp t p).search = some ⟨[], none, 0, none, 0, true⟩ ∧ t.bit (R.HMK_P_STATUS p) 27 = true ∧ t.bit R.HMK_STATUS p = true
        ∧ t.fd (R.HMK_P_CNT p) 31 16 = min 0xFFFF (s.fd (R.HMK_P_CNT p) 31 16 + 1) ∧ hmkVerdict t p = hmkVerdict s p
        ∧ RegsKept [R.HMK_P_STATUS p, R.HMK_STATUS, R.HMK_P_CNT p] s t ∧ SameMem s t)
  ∧ (∀ (s : State) (q : Path) (v : Word), Reaches q s → hmkOn s = true → bitOf v.toNat 31 = true → Runs (.hmkCmd q v) s fun t =>
      (∀ p < 16, (hp t p).search = if bitOf v.toNat p = true ∧ (hp s p).search = none then some ⟨[], none, 0, none, 0, true⟩ else (hp s p).search)
        ∧ (∀ p < 16, hmkVerdict t p = hmkVerdict s p) ∧ t.evt = s.evt ∧ t.out = s.out ∧ SameMem s t)
  ∧ (∀ s : State, s.fd R.HMK_CFG 7 0 = 0 → exec .hmkPeriodSearch s = .next s)
  ∧ (∀ s : State, hmkOn s = true → s.fd R.HMK_CFG 7 0 ≠ 0 → Runs .hmkPeriodSearch s fun t =>
      (∀ p < 16, (hp t p).search = if (hp s p).search = none then some ⟨[], none, 0, none, 0, true⟩ else (hp s p).search)
        ∧ t.evt = s.evt ∧ t.out = s.out ∧ SameMem s t)
  ∧ (∀ (s : State) (p : Fin 16), (hp s p).retry = false → exec (.hmkRetryTimer p) s = .next s)
  ∧ (∀ (s : State) (p : Fin 16), hmkOn s = true → (hp s p).retry = true → (hp s p).search = none → Runs (.hmkRetryTimer p) s fun t =>
      (hp t p).search = some ⟨[], none, 0, none, 0, true⟩ ∧ (hp t p).retry = false ∧ t.evt = s.evt
        ∧ RegsKept [R.HMK_P_STATUS p, R.HMK_STATUS, R.HMK_P_CNT p] s t ∧ SameMem s t)
  ∧ (∀ (s : State) (p : Fin 16) (x : Presence) (ts : List Word64), (hp s p).search = none → exec (.searchPass p x ts) s = .next s)
  ∧ (∀ (s : State) (p : Fin 16) (ts : List Word64) (x : Search), hmkOn s = true → (hp s p).search = some x → x.restarts < 7 →
      ((hp s p).empty = 0 → Runs (.searchPass p .none ts) s fun t => (hp t p).search = some ⟨[], none, 0, none, x.restarts + 1, true⟩
        ∧ t.fd (R.HMK_P_STATUS p) 11 8 = x.restarts + 1 ∧ t.fd (R.HMK_P_STATUS p) 3 0 = 3 ∧ hmkVerdict t p = hmkVerdict s p ∧ t.evt = s.evt
        ∧ RegsKept [R.HMK_P_STATUS p] s t ∧ SameMem s t)
      ∧ (x.fresh = false → Runs (.searchPass p .long ts) s fun t => (hp t p).search = some ⟨[], none, 0, none, x.restarts + 1, true⟩
        ∧ t.fd (R.HMK_P_STATUS p) 11 8 = x.restarts + 1 ∧ t.fd (R.HMK_P_STATUS p) 3 0 = 2 ∧ hmkVerdict t p = hmkVerdict s p ∧ t.evt = s.evt
        ∧ RegsKept [R.HMK_P_STATUS p, R.HMK_STATUS] s t ∧ SameMem s t)
      ∧ (∀ tag : Word64, idValid tag.toNat = false → Runs (.searchPass p .short [tag]) s fun t =>
        (hp t p).search = some ⟨[], none, 0, none, x.restarts + 1, true⟩ ∧ t.fd (R.HMK_P_STATUS p) 3 0 = 4 ∧ t.evt = s.evt
          ∧ RegsKept [R.HMK_P_STATUS p, R.HMK_STATUS] s t ∧ SameMem s t)
      ∧ (∀ (tag : Word64) (l : List Word64 × Bool), idValid tag.toNat = true → x.ids = [] → x.last = some l → l ≠ ([tag], false) → l.1.length ≤ 1 →
        Runs (.searchPass p .short [tag]) s fun t => (hp t p).search = some ⟨[], none, 0, none, x.restarts + 1, true⟩ ∧ t.fd (R.HMK_P_STATUS p) 3 0 = 6
          ∧ t.evt = s.evt ∧ RegsKept [R.HMK_P_STATUS p, R.HMK_STATUS] s t ∧ SameMem s t))
  ∧ (∀ (s : State) (p : Fin 16) (ts : List Word64) (x : Search), hmkOn s = true → (hp s p).search = some x → x.restarts = 7 → (hp s p).empty = 0 → RoomFor s →
      Runs (.searchPass p .none ts) s fun t => (hp t p).search = none ∧ (hp t p).retry = true ∧ Raised t Ev.HMK_UNSTABLE p
        ∧ t.fd (R.HMK_P_CNT p) 15 0 = min 0xFFFF (s.fd (R.HMK_P_CNT p) 15 0 + 1) ∧ t.bit R.HMK_STATUS p = false
        ∧ hmkVerdict t p = (if (hmkVerdict s p = 0 ∨ hmkVerdict s p = 4) ∧ s.bit (R.HMK_P_STATUS p) 26 = true then 6 else hmkVerdict s p)
        ∧ RegsKept [R.HMK_P_STATUS p, R.HMK_STATUS, R.HMK_P_CNT p] s t ∧ SameMem s t)
  ∧ (∀ (s : State) (p : Fin 16) (tag : Word64) (x : Search), hmkOn s = true → (hp s p).search = some x → x.ids = [] → idValid tag.toNat = true →
      (x.last = none → Runs (.searchPass p .short [tag]) s fun t =>
        (hp t p).search = some { x with fork := none, prev := 0, last := some ([tag], false), fresh := false } ∧ hmkVerdict t p = hmkVerdict s p
          ∧ t.evt = s.evt ∧ RegsKept [R.HMK_P_STATUS p, R.HMK_STATUS] s t ∧ SameMem s t)
      ∧ (x.last = some ([tag], false) → RoomFor s →
        Runs (.searchPass p .short [tag]) s fun t => (hp t p).search = none ∧ t.bit R.HMK_STATUS p = false ∧ Raised t Ev.HMK_VERDICT p
          ∧ t.fd (R.HMK_P_STATUS p) 18 16 = 1 ∧ t.rd64 (R.HMK_P_ID_LO p 0) = tag.toNat
          ∧ (s.bit R.LAS_SHUT p = false → s.port p ≠ 3 → s.port p ≠ 4 → s.port p ≠ 5 → s.port p ≠ 6 → t.port p = s.port p)
          ∧ (tag.toNat = s.rd64 (R.HMK_P_EXP_LO p) → mapKind s p = 1 ∨ mapKind s p = 2 → hmkVerdict t p = 1)
          ∧ (tag.toNat ≠ s.rd64 (R.HMK_P_EXP_LO p) ∨ mapKind s p = 0 → tag.toNat = s.rd64 (R.HMK_P_ALT_LO p) → tag ≠ 0 → hmkVerdict t p = 2)
          ∧ (tag.toNat ≠ s.rd64 (R.HMK_P_EXP_LO p) → tag.toNat ≠ s.rd64 (R.HMK_P_ALT_LO p) → hmkVerdict t p = 3
            ∧ (s.bit R.LAS_SHUT p = true → t.port p = s.port p ∧ t.rd (R.AGREE_P_RESULT p) = s.rd (R.AGREE_P_RESULT p))
            ∧ (hmkVerdict s p ≠ 3 → s.bit R.LAS_SHUT p = false → t.bit (R.AGREE_P_RESULT p) 15 = true ∧ t.fd (R.AGREE_P_RESULT p) 29 28 = 2
              ∧ t.fd (R.AGREE_P_RESULT p) 27 24 = 11 ∧ (s.port p = 4 ∨ s.port p = 5 → t.port p = 3)))
          ∧ SameMem s t))

/-- A fetch appends the next available ticket, marked bad where the check fails or its bytes are poisoned. A matrix ticket with a note, a vector, reduce or local move ticket starts once its unit is free, what it waits for has completed, the dispatch latency is over and its pair is ON; its time at dispatch for want of a note entry or of room is stall. When its cycles are over it completes with its result written, its record with END = START + T + STALL + CONTENTION + WAIT, and its counters; a bad operand word gives POISON and marks the output; where two tickets of a cluster that ran at once touched the same bytes their outputs are free; a bad ticket performs nothing, completes with BAD_TICKET and stops the ring. (20_work_tickets R524, 20_work_tickets R526, 20_work_tickets R527, 20_work_tickets R529, 20_work_tickets R530, 20_work_tickets R531, 20_work_tickets R532, 20_work_tickets R537, 20_work_tickets R538, 20_work_tickets R539, 21_memory_and_scrub R553) -/
def Obligations.TicketsFetchStartAndComplete : Prop :=
  (∀ (s : State) (r : Fin 256), ringGoes s r = false ∨ 64 ≤ (ringOf s r).queue.length ∨ (ringHead s r + (ringOf s r).queue.length) % 65536 = ringTail s r →
      exec (.ticketFetch r) s = .next s)
  ∧ (∀ (s : State) (r : Fin 256), ringGoes s r = true → (ringOf s r).queue.length < 64 → (ringHead s r + (ringOf s r).queue.length) % 65536 ≠ ringTail s r →
      let i := (ringHead s r + (ringOf s r).queue.length) % 65536
      let a := s.rd64 (R.TKT_BASE_LO r) + 64 * (i % 2 ^ ringLog s r)
      (∀ k ∈ stacksOf (a, 64), s.domUp (0x90 + k) = true) →
      (a + 64 ≤ hbmSize → CleanWords s .hbm a 64 → Runs (.ticketFetch r) s fun t =>
        let k : Tkt := ⟨i, tktWords (bytesAt ramD s.hbm a 64), false⟩
        (ringOf t r).queue = (ringOf s r).queue ++ [{ k with bad := !tktGood s r k }] ∧ (ringOf t r).run = (ringOf s r).run
          ∧ t.rd (R.TKT_PTR r) = s.rd (R.TKT_PTR r) ∧ t.fd (R.TKT_STATE r) 22 16 = (ringOf s r).queue.length + 1
          ∧ t.evt = s.evt ∧ t.out = s.out ∧ RegsKept [R.TKT_STATE r, R.GRV_STATUS r, R.TKT_STATUS] s t ∧ SameMem s t)
      ∧ (∀ j, a + 64 ≤ hbmSize → a / 8 ≤ j → j < (a + 71) / 8 → ramSyn s .hbm j = 3 → Runs (.ticketFetch r) s fun t =>
        ∃ k, (ringOf t r).queue = (ringOf s r).queue ++ [k] ∧ k.idx = i ∧ k.bad = true ∧ SameMem s t))
  ∧ (∀ (s : State) (r : Fin 256), s.fab.inbox = [] → ringGoes s r = false ∨ (ringOf s r).queue = [] → exec (.ticketStart r) s = .next s)
  ∧ (∀ (s : State) (r : Fin 256) (k : Tkt) (ks : List Tkt), s.fab.inbox = [] → (ringOf s r).queue = k :: ks →
      ((ringOf s r).run.any (fun x => isBarrier x.t) = true ∨ ((tUnit k).isSome = true ∧ (ringOf s r).run.any (fun x => tUnit x.t == tUnit k) = true)
        ∨ waitsOver (ringOf s r) k = false ∨ s.ticks < (ringOf s r).after) → exec (.ticketStart r) s = .next s)
  ∧ (∀ (s : State) (r : Fin 256) (k : Tkt) (ks : List Tkt), s.fab.inbox = [] → ringGoes s r = true → (ringOf s r).queue = k :: ks →
      (∀ x ∈ (ringOf s r).run, isBarrier x.t = false ∧ tUnit x.t ≠ tUnit k) → waitsOver (ringOf s r) k = true → (ringOf s r).after ≤ s.ticks → s.domUp (r / 2) = true →
      k.bad = false → (tKind k = 1 ∧ (noteOf s r k.idx).isSome = true) ∨ tKind k = 2 ∨ tKind k = 3
        ∨ (tKind k = 0 ∧ gaChip (tAddr k 6) = s.chip ∧ (tOp k = 1 ∨ gaChip (tAddr k 4) = s.chip)) → k.idx < 65536 →
      (∀ x ∈ (ringOf s r).run, x.t.idx ≠ k.idx) →
      Runs (.ticketStart r) s fun t => ∃ x, (ringOf t r).run = ((ringOf s r).run.map fun y => { y with clash := y.clash || clashes s r k y.t }) ++ [x]
        ∧ x.clash = (ringOf s r).run.any (fun y => clashes s r k y.t) ∧ x.t = k
        ∧ (x.start, x.tick) = (ringOf s r).heldFrom.getD (s.now, s.ticks) ∧ x.hold = s.ticks - x.tick ∧ x.phase = 4
        ∧ x.status = 0 ∧ x.wake = wakeCycles s r ∧ (ringOf t r).queue = ks ∧ (ringOf t r).after = s.ticks + 2
        ∧ ringHead t r = (k.idx + 1) % 65536 ∧ ringTail t r = ringTail s r ∧ ringState t r = 2 ∧ t.evt = s.evt ∧ t.out = s.out ∧ SameMem s t)
  ∧ (∀ (s : State) (r : Fin 256) (k : Tkt) (ks : List Tkt), s.fab.inbox = [] → ringGoes s r = true → (ringOf s r).queue = k :: ks →
      (∀ x ∈ (ringOf s r).run, isBarrier x.t = false ∧ tUnit x.t ≠ tUnit k) →
      waitsOver (ringOf s r) k = true → (ringOf s r).after ≤ s.ticks →
      (s.domUp (r / 2) = false → s.pwr.auto.contains (r / 2) = true → s.dom (r / 2) = 0 → Runs (.ticketStart r) s fun t =>
        r.val / 2 ∈ t.pwr.upQ ∧ ringOf t r = { ringOf s r with wakeFrom := some ((ringOf s r).wakeFrom.getD s.ticks) }
          ∧ t.regs = s.regs ∧ t.evt = s.evt ∧ SameMem s t)
      ∧ (s.domUp (r / 2) = true → noteFits s r k = false ∨ powerFits s r k = false → Runs (.ticketStart r) s fun t =>
        ringOf t r = { ringOf s r with heldFrom := some ((ringOf s r).heldFrom.getD (s.now, s.ticks)) } ∧ t.regs = s.regs ∧ t.evt = s.evt ∧ SameMem s t))
  ∧ (∀ (s : State) (r : Fin 256) (k : Tkt) (ks : List Tkt), s.fab.inbox = [] → ringGoes s r = true → (ringOf s r).queue = k :: ks → (ringOf s r).run = [] →
      (ringOf s r).after ≤ s.ticks → s.domUp (r / 2) = true → k.bad = true → k.idx < 65536 → SlotClean s r k.idx → bitOf (tktDw k 0) 23 = false → s.evt.queue.length < 900 →
      Runs (.ticketStart r) s fun t => ringState t r = 3 ∧ t.fd (R.TKT_STATE r) 27 24 = 1 ∧ Raised t Ev.TKT_STOPPED r ∧ (ringOf t r).queue = []
        ∧ ringHead t r = (k.idx + 1) % 65536 ∧ t.rd (R.GRV_ERR r) = 2 ^ 24 * 6 + 2 ^ 8 * k.idx ∧ (∀ a, smGet ramD t.vel a = smGet ramD s.vel a)
        ∧ ∃ x, x.t = k ∧ (x.start, x.tick) = (ringOf s r).heldFrom.getD (s.now, s.ticks) ∧ Completed s t r x ⟨6, 0, 0, 0, 0, s.now, false, false⟩)
  ∧ (∀ (s : State) (r : Fin 256) (i : BitVec 16) (a b : Word), s.fab.inbox = [] → runOf s r i.toNat = none ∨ (∃ x, runOf s r i.toNat = some x ∧ (x.phase ≠ 4
        ∨ (accrued s r x).issued < 64 * tktCycles s r x.t ∨ a.toNat ≠ stallOf (accrued s r x) ∨ b.toNat ≠ satN 0xFFFFFFFF x.cont
        ∨ s.ticks < x.tick + x.before + tktCycles s r x.t + a.toNat + b.toNat)) →
      exec (.ticketComplete r i a b) s = .next s)
  ∧ (∀ (s : State) (r : Fin 256) (i : BitVec 16) (stall cont : Word) (x : RunT) (o : Nat) (bs : List Byte), s.fab.inbox = [] → runOf s r i.toNat = some x →
      x.phase = 4 → x.status = 0 → x.clash = false → CyclesOver s r x stall.toNat cont.toNat →
      tKind x.t = 1 ∨ tKind x.t = 2 ∨ tKind x.t = 3 → computeOut s r x.t = [(o, bs)] →
      (∀ v ∈ velIns x.t, CleanWords s .vel (2 ^ 21 * r + v.1) v.2) → CleanWords s .vel (2 ^ 21 * r + o) bs.length → SlotClean s r i.toNat →
      bitOf (tktDw x.t 0) 23 = false → ringState s r ≠ 3 →
      let T := tktCycles s r x.t
      let w := x.before + (x.last - (x.tick + x.before + T + stall.toNat + cont.toNat))
      Runs (.ticketComplete r i stall cont) s fun t => WroteAt s t .vel (2 ^ 21 * r + o) bs
        ∧ Completed s t r x ⟨0, stall.toNat, cont.toNat, w, 0, x.start + T + stall.toNat + cont.toNat + w, false, false⟩
        ∧ ringState t r ≠ 3 ∧ t.evt = s.evt ∧ t.out = s.out ∧ RegsKept (doneRegs r) s t)
  ∧ (∀ (s : State) (r : Fin 256) (i : BitVec 16) (stall cont : Word) (x : RunT) (o j : Nat) (bs : List Byte) (v : Nat × Nat), s.fab.inbox = [] →
      runOf s r i.toNat = some x → x.phase = 4 → x.status = 0 → x.clash = false → CyclesOver s r x stall.toNat cont.toNat → tKind x.t = 1 ∨ tKind x.t = 2 ∨ tKind x.t = 3 → computeOut s r x.t = [(o, bs)] → v ∈ velIns x.t →
      0 < v.2 → (2 ^ 21 * r + v.1) / 8 ≤ j → j < (2 ^ 21 * r + v.1 + v.2 + 7) / 8 → ramSyn s .vel j = 3 → SlotClean s r i.toNat →
      CleanWords s .vel (2 ^ 21 * r + o) bs.length → bitOf (tktDw x.t 0) 23 = false → Runs (.ticketComplete r i stall cont) s fun t =>
        t.fd (R.TKT_STATE r) 15 8 = 3 ∧ t.rd (R.GRV_ERR r) = 2 ^ 24 * 3 + 2 ^ 8 * x.t.idx
          ∧ (∀ k, (2 ^ 21 * r.val + o) / 8 ≤ k → k < (2 ^ 21 * r.val + o + bs.length + 7) / 8 → bs ≠ [] → ramSyn t .vel k = 3)
          ∧ (∀ y ∈ (ringOf t r).run, y.t.idx ≠ x.t.idx))
  ∧ (∀ (s : State) (r : Fin 256) (i : BitVec 16) (stall cont : Word) (x : RunT) (b : Nat × Nat), s.fab.inbox = [] → runOf s r i.toNat = some x →
      x.phase = 4 → x.status = 0 → x.clash = true → CyclesOver s r x stall.toNat cont.toNat → tKind x.t = 1 ∨ tKind x.t = 2 ∨ tKind x.t = 3 → velOuts x.t = [b] →
      (∀ v ∈ velIns x.t, CleanWords s .vel (2 ^ 21 * r + v.1) v.2) → (∀ o ∈ computeOut s r x.t, CleanWords s .vel (2 ^ 21 * r + o.1) o.2.length ∧ o = (b.1, o.2)
        ∧ o.2.length = b.2) → SlotClean s r i.toNat → bitOf (tktDw x.t 0) 23 = false → ringState s r ≠ 3 →
      Runs (.ticketComplete r i stall cont) s fun t => (∀ a, a < 2 ^ 21 * r + b.1 ∨ 2 ^ 21 * r + b.1 + b.2 ≤ a → smGet ramD t.vel a = smGet ramD s.vel a)
        ∧ t.fd (R.TKT_STATE r) 15 8 = 0 ∧ t.rd64 (R.GRV_DONE_LO r) = (s.rd64 (R.GRV_DONE_LO r) + 1) % 2 ^ 64 ∧ t.evt = s.evt ∧ t.out = s.out
        ∧ RegsKept (doneRegs r) s t)
  ∧ (∀ (s : State) (r : Fin 256) (i : BitVec 16) (stall cont : Word) (x : RunT) (m : Ram) (k d : Nat), s.fab.inbox = [] → runOf s r i.toNat = some x →
      x.phase = 4 → x.status = 0 → x.clash = false → CyclesOver s r x stall.toNat cont.toNat → tKind x.t = 0 → tOp x.t = 0 → x.got = [] → memReady s r x.t = true →
      placeRam (placeOf s r (tAddr x.t 4) (tktDw x.t 2)) = some (m, k) → placeRam (placeOf s r (tAddr x.t 6) (tktDw x.t 2)) = some (.vel, d) →
      CleanWords s m k (tktDw x.t 2) → CleanWords s .vel d (tktDw x.t 2) → SlotClean s r i.toNat → bitOf (tktDw x.t 0) 23 = false →
      Runs (.ticketComplete r i stall cont) s fun t => WroteAt s t .vel d (bytesAt ramD (ramOf s m) k (tktDw x.t 2)) ∧ t.fd (R.TKT_STATE r) 15 8 = 0
        ∧ t.rd64 (R.GRV_DONE_LO r) = (s.rd64 (R.GRV_DONE_LO r) + 1) % 2 ^ 64 ∧ t.evt = s.evt ∧ t.out = s.out ∧ RegsKept (doneRegs r) s t)

/-- A barrier takes effect when it is the ring's only started ticket: ahead of its instant it waits, past it it completes LATE with its LATENESS, more than 2^34 ticks ahead it completes RANGE and stops the ring. A waiting barrier completes OK at its instant and counts ON_TIME. Late barriers of a die are reported once. A FENCE that is first completes OK 8 ticks after the last ticket before it. A flag that has reached LVAL ends the wait of RECV; a wait beyond LIMIT completes WAIT_EXPIRED, which stops the ring only with ERR_STOP. (19_graver_compute R508, 19_graver_compute R509, 19_graver_compute R510, 19_graver_compute R511, 19_graver_compute R512, 19_graver_compute R515, 20_work_tickets R533, 20_work_tickets R538) -/
def Obligations.BarriersFencesAndFlags : Prop :=
  (∀ (s : State) (r : Fin 256), barrierDue s r = none → (∀ k ks, (ringOf s r).queue = k :: ks → isBarrier k = false ∨ k.bad = true ∨ (ringOf s r).run ≠ []) →
      exec (.barrierTakeEffect r) s = .next s)
  ∧ (∀ (s : State) (r : Fin 256) (x : RunT), barrierDue s r = some x → (ringOf s r).queue = [] →
      (0 ≤ barrierAhead s x.t → barrierAhead s x.t ≤ 2 ^ 34 → Runs (.barrierTakeEffect r) s fun t =>
        (ringOf t r).run = [{ x with phase := 1 }] ∧ t.rd64 (R.GRV_BAR_CT_LO r) = tAddr x.t 4 ∧ t.evt = s.evt ∧ t.out = s.out
          ∧ RegsKept [R.GRV_BAR_CT_LO r, R.GRV_BAR_CT_LO r + 4, R.TKT_STATE r, R.GRV_STATUS r, R.TKT_STATUS] s t ∧ SameMem s t)
      ∧ (barrierAhead s x.t < 0 → SlotClean s r x.t.idx → bitOf (tktDw x.t 0) 23 = false → bitOf (tktDw x.t 2) 0 = false →
        let late := min 0xFFFFFFFF (barrierAhead s x.t).natAbs
        Runs (.barrierTakeEffect r) s fun t => Completed s t r x ⟨1, 0, 0, 0, late, s.now, decide (s.time.landed = s.ticks) && decide (s.ticks ≠ 0), unsynced s⟩
          ∧ (ringOf t r).run = [] ∧ t.rd (R.GRV_LATE r) = late ∧ t.fd (R.GRV_BAR_CNT r) 31 16 = min 0xFFFF (s.fd (R.GRV_BAR_CNT r) 31 16 + 1)
          ∧ (t.tkt.late.getD (dieOf r) (0, 0)).1 = (s.tkt.late.getD (dieOf r) (0, 0)).1 + 1 ∧ t.evt = s.evt)
      ∧ (2 ^ 34 < barrierAhead s x.t → SlotClean s r x.t.idx → bitOf (tktDw x.t 0) 23 = false → s.evt.queue.length < 900 → ringState s r ≠ 3 →
        Runs (.barrierTakeEffect r) s fun t => Raised t Ev.BARRIER_RANGE r ∧ Raised t Ev.TKT_STOPPED r ∧ ringState t r = 3 ∧ t.fd (R.TKT_STATE r) 27 24 = 5
          ∧ t.fd (R.TKT_STATE r) 15 8 = 2 ∧ (ringOf t r).run = []))
  ∧ (∀ (s : State) (r : Fin 256), (∀ x ∈ (ringOf s r).run, isBarrier x.t = true → x.phase = 1 → 0 < barrierAhead s x.t) → exec (.barrierRelease r) s = .next s)
  ∧ (∀ (s : State) (r : Fin 256) (x : RunT), (ringOf s r).run = [x] → isBarrier x.t = true → x.phase = 1 → barrierAhead s x.t ≤ 0 → SlotClean s r x.t.idx →
      bitOf (tktDw x.t 0) 23 = false → Runs (.barrierRelease r) s fun t =>
        Completed s t r x ⟨0, 0, 0, 0, 0, s.now, decide (s.time.landed = s.ticks) && decide (s.ticks ≠ 0), unsynced s⟩ ∧ (ringOf t r).run = []
          ∧ t.fd (R.GRV_BAR_CNT r) 15 0 = min 0xFFFF (s.fd (R.GRV_BAR_CNT r) 15 0 + 1) ∧ t.evt = s.evt ∧ t.out = s.out
          ∧ RegsKept (R.GRV_BAR_CNT r :: doneRegs r) s t)
  ∧ (∀ (s : State) (d : Fin 2), (s.tkt.late.getD d (0, 0)).1 = 0 → exec (.barrierLateReport d) s = .next s)
  ∧ (∀ (s : State) (d : Fin 2), (s.tkt.late.getD d (0, 0)).1 ≠ 0 → RoomFor s → Runs (.barrierLateReport d) s fun t =>
      Raised t Ev.BARRIER_LATE d ∧ (∀ k, t.tkt.late.getD k (0, 0) = if k = d then (0, 0) else s.tkt.late.getD k (0, 0)) ∧ t.regs = s.regs ∧ SameMem s t)
  ∧ (∀ (s : State) (r : Fin 256), (∀ x xs, (ringOf s r).run = x :: xs → isFence x.t = false ∨ s.ticks < max x.tick x.last + 8) → exec (.fenceComplete r) s = .next s)
  ∧ (∀ (s : State) (r : Fin 256) (x : RunT) (xs : List RunT), (ringOf s r).run = x :: xs → isFence x.t = true → SlotClean s r x.t.idx →
      bitOf (tktDw x.t 0) 23 = false → max x.tick x.last + 8 ≤ s.ticks → Runs (.fenceComplete r) s fun t =>
        t.fd (R.TKT_STATE r) 15 8 = 0 ∧ t.rd64 (R.GRV_DONE_LO r) = (s.rd64 (R.GRV_DONE_LO r) + 1) % 2 ^ 64 ∧ (∀ y ∈ (ringOf t r).run, y.t.idx ≠ x.t.idx)
          ∧ WroteAt s t .hbm (slotOf s r x.t.idx) (dwBytes (recordDws s r x ⟨0, 0, 0, x.last - x.tick, 0, x.start + 8 + (x.last - x.tick), false, false⟩))
          ∧ t.evt = s.evt ∧ t.out = s.out ∧ RegsKept (doneRegs r) s t)
  ∧ (∀ (s : State) (r : Fin 256) (i : BitVec 16), (∀ x, runOf s r i.toNat = some x → flagWaits x = false) →
      (s.fab.inbox = [] → exec (.collectiveFlagArrive r i) s = .next s) ∧ exec (.waitExpired r i) s = .next s)
  ∧ (∀ (s : State) (r : Fin 256) (i : BitVec 16) (x : RunT), s.fab.inbox = [] → runOf s r i.toNat = some x → flagWaits x = true →
      CleanWords s .vel (2 ^ 21 * r + tktDw x.t 4) 8 →
      let flag := bytesToNat (bytesAt ramD s.vel (2 ^ 21 * r + tktDw x.t 4) 8)
      (sgn 64 (wrapN 64 ((flag : Int) - tAddr x.t 14)) < 0 → exec (.collectiveFlagArrive r i) s = .next s)
      ∧ (0 ≤ sgn 64 (wrapN 64 ((flag : Int) - tAddr x.t 14)) → tOp x.t = 1 → Runs (.collectiveFlagArrive r i) s fun t =>
        runOf t r i.toNat = some { x with before := s.ticks - x.tick, phase := 4, mark := s.ticks } ∧ t.evt = s.evt ∧ t.out = s.out
          ∧ RegsKept [R.TKT_STATE r, R.GRV_STATUS r, R.TKT_STATUS] s t ∧ SameMem s t))
  ∧ ∀ (s : State) (r : Fin 256) (i : BitVec 16) (x : RunT), runOf s r i.toNat = some x → flagWaits x = true → tktDw x.t 2 % 65536 ≠ 0 →
      (s.ticks < x.tick + 1600 * (tktDw x.t 2 % 65536) → exec (.waitExpired r i) s = .next s)
      ∧ (x.tick + 1600 * (tktDw x.t 2 % 65536) ≤ s.ticks → SlotClean s r i.toNat →
      bitOf (tktDw x.t 0) 23 = false → s.evt.queue.length < 900 → ringState s r ≠ 3 → x.last = x.tick → Runs (.waitExpired r i) s fun t =>
        t.fd (R.TKT_STATE r) 15 8 = 7 ∧ (∀ y ∈ (ringOf t r).run, y.t.idx ≠ x.t.idx)
          ∧ WroteAt s t .hbm (slotOf s r i.toNat) (dwBytes (recordDws s r x ⟨7, 0, 0, 1600 * (tktDw x.t 2 % 65536), 0, x.start + 1600 * (tktDw x.t 2 % 65536), false, false⟩))
          ∧ (s.bit (R.TKT_CFG r) 24 = true → ringState t r = 3 ∧ t.fd (R.TKT_STATE r) 27 24 = 1 ∧ Raised t Ev.TKT_STOPPED r)
          ∧ (s.bit (R.TKT_CFG r) 24 = false → ringState t r ≠ 3))

/-- A doorbell that the feed allows sets TAIL, one past the ring or behind the last TAIL is discarded with TKT_DB_OVERRUN, one the feed does not allow with TKT_DENIED. CFG with EN moves a DISABLED ring to IDLE with HEAD and TAIL 0; a write in RUN, or on a path the feed does not allow, is discarded with TKT_DENIED. ABORT stops the ring with cause ABORT, withdraws what is queued and completes a waiting barrier or flag wait with ABORTED. RESTART resumes a STOPPED ring at HEAD, or with SKIP at TAIL, and is discarded otherwise. (20_work_tickets R521, 20_work_tickets R522, 20_work_tickets R523, 20_work_tickets R536, 20_work_tickets R540, 20_work_tickets R541, 20_work_tickets R542) -/
def Obligations.RingsTakeDoorbellsConfigurationAbortAndRestart : Prop :=
  (∀ (s : State) (p : Path) (r : Fin 256) (v : Word), Reaches p s → mayRing s p r = true →
      let tail := v.toNat % 65536
      let ahead := (tail + 65536 - ringHead s r) % 65536
      let beyond := 2 ^ ringLog s r < ahead ∨ ahead < (ringTail s r + 65536 - ringHead s r) % 65536
      (beyond → RoomFor s → Runs (.tktDoorbell p r v) s fun t => Raised t Ev.TKT_DB_OVERRUN r ∧ t.rd R.TKT_DENY_CNT = min 0xFFFFFFFF (s.rd R.TKT_DENY_CNT + 1)
        ∧ RegsKept [R.TKT_DENY_CNT] s t ∧ SameMem s t)
      ∧ (¬beyond → Runs (.tktDoorbell p r v) s fun t => ringTail t r = tail ∧ ringHead t r = ringHead s r ∧ t.evt = s.evt ∧ t.out = s.out
        ∧ RegsKept [R.TKT_PTR r, R.TKT_STATE r, R.GRV_STATUS r, R.TKT_STATUS] s t ∧ SameMem s t))
  ∧ (∀ (s : State) (p : Path) (r : Fin 256) (v : Word), Reaches p s → mayRing s p r = false → RoomFor s → Runs (.tktDoorbell p r v) s fun t =>
      Raised t Ev.TKT_DENIED 0 ∧ t.rd R.TKT_DENY_CNT = min 0xFFFFFFFF (s.rd R.TKT_DENY_CNT + 1) ∧ RegsKept [R.TKT_DENY_CNT] s t ∧ SameMem s t)
  ∧ (∀ (s : State) (p : Path) (r : Fin 256) (v : Word), Reaches p s → ringMaster p = true ∨ (p = .pcie ∧ s.fd (R.TKT_FEED r) 1 0 = 0) →
      (ringState s r = 0 → bitOf v.toNat 31 = true → Runs (.tktRingConfigWrite p (R.TKT_CFG r) v) s fun t =>
        ringState t r = (if (ringOf s r).run = [] then 1 else 2) ∧ t.rd (R.TKT_PTR r) = 0 ∧ t.rd (R.TKT_CFG r) = keptBits (R.TKT_CFG r) v.toNat
          ∧ t.evt = s.evt ∧ t.out = s.out ∧ RegsKept [R.TKT_CFG r, R.TKT_PTR r, R.TKT_STATE r, R.GRV_STATUS r, R.TKT_STATUS] s t ∧ SameMem s t)
      ∧ (ringState s r = 1 → bitOf v.toNat 31 = false → Runs (.tktRingConfigWrite p (R.TKT_CFG r) v) s fun t =>
        ringState t r = 0 ∧ t.rd (R.TKT_CFG r) = keptBits (R.TKT_CFG r) v.toNat ∧ t.evt = s.evt
          ∧ RegsKept [R.TKT_CFG r, R.TKT_STATE r, R.GRV_STATUS r, R.TKT_STATUS] s t ∧ SameMem s t)
      ∧ (ringState s r = 2 → RoomFor s → Runs (.tktRingConfigWrite p (R.TKT_CFG r) v) s fun t =>
        Raised t Ev.TKT_DENIED 0 ∧ t.rd R.TKT_DENY_CNT = min 0xFFFFFFFF (s.rd R.TKT_DENY_CNT + 1) ∧ RegsKept [R.TKT_DENY_CNT] s t ∧ SameMem s t))
  ∧ (∀ (s : State) (r : Fin 256) (v : Word), Reaches .pcie s → s.fd (R.TKT_FEED r) 1 0 ≠ 0 → RoomFor s →
      Runs (.tktRingConfigWrite .pcie (R.TKT_CFG r) v) s fun t => Raised t Ev.TKT_DENIED 0 ∧ RegsKept [R.TKT_DENY_CNT] s t ∧ SameMem s t)
  ∧ (∀ (s : State) (p : Path) (r : Fin 256), Reaches p s → s.fab.inbox = [] → ringState s r = 0 → exec (.tktAbort p r) s = .next s)
  ∧ (∀ (s : State) (p : Path) (r : Fin 256), Reaches p s → s.fab.inbox = [] → ringState s r = 1 ∨ ringState s r = 2 → (ringOf s r).run = [] →
      s.evt.queue.length < 900 → Runs (.tktAbort p r) s fun t => ringState t r = 3 ∧ t.fd (R.TKT_STATE r) 27 24 = 3 ∧ Raised t Ev.TKT_STOPPED r
        ∧ (ringOf t r).queue = [] ∧ ringHead t r = ringHead s r ∧ ringTail t r = ringTail s r
        ∧ t.fd R.TKT_STATUS 24 16 = (s.fd R.TKT_STATUS 24 16 + 1) % 512 ∧ SameMem s t)
  ∧ (∀ (s : State) (p : Path) (r : Fin 256) (x : RunT), Reaches p s → s.fab.inbox = [] → ringState s r = 1 ∨ ringState s r = 2 → (ringOf s r).run = [x] →
      x.phase = 0 → x.wait = 0 → SlotClean s r x.t.idx → bitOf (tktDw x.t 0) 23 = false → s.evt.queue.length < 900 → Runs (.tktAbort p r) s fun t =>
        ringState t r = 3 ∧ t.fd (R.TKT_STATE r) 27 24 = 3 ∧ t.fd (R.TKT_STATE r) 15 8 = 5 ∧ (ringOf t r).run = [] ∧ (ringOf t r).queue = []
          ∧ WroteAt s t .hbm (slotOf s r x.t.idx) (dwBytes (recordDws s r x ⟨5, 0, 0, (if isBarrier x.t then 0 else s.ticks - x.tick), 0, s.now, false, false⟩))
          ∧ (∀ a, smGet ramD t.vel a = smGet ramD s.vel a))
  ∧ (∀ (s : State) (p : Path) (r : Fin 256) (k : Bool), Reaches p s → ringState s r ≠ 3 → exec (.tktRestart p r k) s = .next s)
  ∧ ∀ (s : State) (p : Path) (r : Fin 256) (k : Bool), Reaches p s → ringState s r = 3 → Runs (.tktRestart p r k) s fun t =>
      ringHead t r = (if k then ringTail s r else ringHead s r) ∧ ringTail t r = ringTail s r ∧ t.fd (R.TKT_STATE r) 27 24 = 0
        ∧ ringState t r = (if ringHead t r ≠ ringTail s r ∨ (ringOf s r).run ≠ [] then 2 else 1)
        ∧ (1 ≤ s.fd R.TKT_STATUS 24 16 → t.fd R.TKT_STATUS 24 16 = s.fd R.TKT_STATUS 24 16 - 1) ∧ t.evt = s.evt ∧ t.out = s.out
        ∧ RegsKept [R.TKT_PTR r, R.TKT_STATE r, R.GRV_STATUS r, R.TKT_STATUS] s t ∧ SameMem s t

/-- Pseudo-channel and local unit name one unit of HBM. A pass begins once the last is over; a burst due reads the eight units of one local unit: a clean burst only moves the pointer, a correctable word is put right and counted, an uncorrectable one is counted, reported and marked, and a poison mark stays. The last burst of a pass raises SCRUB_PASS_DONE. A stack that lags is BEHIND, takes the floor and catches up at its target. A burst waits while the stack is not ON, a power-off is pending or the holdoff runs. Vellum is walked 64 bytes at a time. MEM_INJECT arms one injection, not from PCI Express with CFG_OPEN clear. (21_memory_and_scrub R546, 21_memory_and_scrub R549, 21_memory_and_scrub R550, 21_memory_and_scrub R551, 21_memory_and_scrub R555, 21_memory_and_scrub R556, 21_memory_and_scrub R558, 21_memory_and_scrub R559, 21_memory_and_scrub R560) -/
def Obligations.PatrolScrubWalksMarksAndIsInjected : Prop :=
  (∀ a, a < hbmSize → hbmPc a < 64 ∧ unitAt (a / 256 / 64) (hbmPc a) = a / 256)
  ∧ (∀ l pc, l < 25165824 → pc < 64 → unitPc (unitAt l pc) = pc ∧ unitAt l pc / 64 = l)
  ∧ (∀ (s : State) (i : Fin 8), s.bit R.MEM_STATUS i = false ∨ ((scrubAt s i).begun = true ∧ scrubPtr s i < 25165824) → exec (.hbmScrubPassStart i) s = .next s)
  ∧ (∀ (s : State) (i : Fin 8), s.bit R.MEM_STATUS i = true → (scrubAt s i).begun = false ∨ 25165824 ≤ scrubPtr s i → Runs (.hbmScrubPassStart i) s fun t =>
      scrubPtr t i = 0 ∧ (scrubAt t i).begun = true ∧ (scrubAt t i).off = 0
        ∧ (scrubAt t i).start = (if (scrubAt s i).begun then (scrubAt s i).start + scrubPeriod s i + (scrubAt s i).off else s.ticks)
        ∧ (∀ j, j ≠ i.val → scrubAt t j = scrubAt s j) ∧ t.evt = s.evt ∧ t.out = s.out ∧ RegsKept [R.MEM_S_PTR i] s t ∧ SameMem s t)
  ∧ (∀ (s : State) (i : Fin 8), s.bit R.MEM_STATUS (24 + i) = false → scrubTarget s i ≤ scrubPtr s i → exec (.hbmScrubBurst i) s = .next s)
  ∧ (∀ (s : State) (i : Fin 8), s.bit R.MEM_STATUS (24 + i) = false → scrubTarget s i = scrubPtr s i + 1 →
      (scrubAt s i).begun = false ∨ (scrubAt s i).hold = true ∨ s.domUp (0x90 + i) = false ∨ s.pwr.waiting.contains (0x90 + i.val, DomAct.off) = true →
      exec (.hbmScrubBurst i) s = .next s)
  ∧ (∀ (s : State) (i : Fin 8), BurstDue s i → (∀ k, InBurst s i k → ramSyn s .hbm k = 0 ∨ ramSyn s .hbm k = 3) → RoomFor s → Runs (.hbmScrubBurst i) s fun t =>
      t.fd (R.MEM_S_PTR i) 24 0 = scrubPtr s i + 1 ∧ t.hbmEcc = s.hbmEcc
        ∧ (scrubPtr s i + 1 < 25165824 → t.evt = s.evt ∧ RegsKept [R.MEM_S_PTR i] s t)
        ∧ (scrubPtr s i + 1 = 25165824 → Raised t Ev.SCRUB_PASS_DONE i ∧ t.rd (R.MEM_S_PASS i) = min 0xFFFFFFFF (s.rd (R.MEM_S_PASS i) + 1)
          ∧ RegsKept [R.MEM_S_PTR i, R.MEM_S_PASS i] s t) ∧ t.out = s.out ∧ SameMem s t)
  ∧ (∀ (s : State) (i : Fin 8) (k : Nat), BurstDue s i → InBurst s i k → (∀ j, InBurst s i j → j ≠ k → ramSyn s .hbm j = 0) → s.bit R.MEM_INJECT 31 = false →
      scrubPtr s i + 1 < 25165824 → s.evt.queue.length < 900 →
      (fateOf (ramSyn s .hbm k) = .bad → Runs (.hbmScrubBurst i) s fun t =>
        t.fd (R.MEM_S_PTR i) 24 0 = scrubPtr s i + 1 ∧ ramSyn t .hbm k = 3 ∧ (∀ j, j ≠ k → ramSyn t .hbm j = ramSyn s .hbm j) ∧ Raised t Ev.MEM_UE i
          ∧ t.rd (R.MEM_S_UE i) = min 0xFFFFFFFF (s.rd (R.MEM_S_UE i) + 1) ∧ t.rd R.MEM_UE_TOTAL = min 0xFFFFFFFF (s.rd R.MEM_UE_TOTAL + 1)
          ∧ t.rd64 R.MEM_LAST_UE_LO = 8 * k ∧ t.fd R.MEM_LAST_UE_INFO 31 28 = 0 ∧ t.fd R.MEM_LAST_UE_INFO 2 0 = i
          ∧ RegsKept [R.MEM_S_PTR i, R.MEM_S_UE i, R.MEM_UE_TOTAL, R.MEM_LAST_UE_LO, R.MEM_LAST_UE_HI, R.MEM_LAST_UE_INFO] s t ∧ SameMem s t)
      ∧ (fateOf (ramSyn s .hbm k) = .corrected → Runs (.hbmScrubBurst i) s fun t =>
        t.fd (R.MEM_S_PTR i) 24 0 = scrubPtr s i + 1 ∧ ramSyn t .hbm k = 0 ∧ ramWord t .hbm k = fixWord (ramSyn s .hbm k) (ramWord s .hbm k)
          ∧ (∀ a, a / 8 ≠ k → smGet ramD t.hbm a = smGet ramD s.hbm a) ∧ t.rd (R.MEM_S_CE i) = min 0xFFFFFFFF (s.rd (R.MEM_S_CE i) + 1)
          ∧ t.rd R.MEM_CE_TOTAL = min 0xFFFFFFFF (s.rd R.MEM_CE_TOTAL + 1) ∧ (∀ j, j ≠ k → ramSyn t .hbm j = ramSyn s .hbm j)
          ∧ RegsKept [R.MEM_S_PTR i, R.MEM_S_CE i, R.MEM_CE_TOTAL] s t ∧ (∀ a, smGet ramD t.vel a = smGet ramD s.vel a)))
  ∧ (∀ (s : State) (i : Fin 8), (scrubAt s i).begun = true → (scrubAt s i).hold = true → s.bit R.MEM_STATUS (24 + i) = false → RoomFor s →
      one (s.fd R.MEM_SCRUB_CFG 31 24) * 1600000000 * 25165824 < (scrubTarget s i - scrubPtr s i) * scrubPeriod s i → Runs (.hbmScrubBurst i) s fun t =>
      t.bit R.MEM_STATUS (24 + i) = true ∧ Raised t Ev.SCRUB_BEHIND i ∧ RegsKept [R.MEM_STATUS] s t ∧ SameMem s t)
  ∧ (∀ (s : State) (i : Fin 8), s.bit R.MEM_STATUS (24 + i) = true → scrubTarget s i = scrubPtr s i + 1 → ScrubGoes s i → scrubPtr s i + 1 < 25165824 →
      (∀ k, InBurst s i k → ramSyn s .hbm k = 0) → RoomFor s → Runs (.hbmScrubBurst i) s fun t =>
      t.bit R.MEM_STATUS (24 + i) = false ∧ Raised t Ev.SCRUB_CAUGHT_UP i ∧ t.fd (R.MEM_S_PTR i) 24 0 = scrubPtr s i + 1
        ∧ t.rd (R.MEM_S_FLOOR i) = min 0xFFFFFFFF (s.rd (R.MEM_S_FLOOR i) + 1) ∧ RegsKept [R.MEM_STATUS, R.MEM_S_PTR i, R.MEM_S_FLOOR i] s t ∧ SameMem s t)
  ∧ (∀ (s : State) (i : Fin 8), Runs (.scrubHoldoffEnd i) s fun t => (scrubAt t i).hold = false ∧ (∀ j, j ≠ i.val → scrubAt t j = scrubAt s j)
      ∧ t.regs = s.regs ∧ t.evt = s.evt ∧ t.out = s.out ∧ SameMem s t)
  ∧ (∀ s : State, (scrubAt s 8).begun = true → s.bit R.MEM_STATUS 23 = false → scrubTarget s 8 ≤ scrubPtr s 8 → exec .vellumScrubBurst s = .next s)
  ∧ (∀ s : State, (scrubAt s 8).begun = true → s.bit R.MEM_STATUS 23 = false → scrubTarget s 8 = scrubPtr s 8 + 1 →
      let c := s.fd R.MEM_VEL_PTR 28 21
      let o := s.fd R.MEM_VEL_PTR 20 0
      s.dom (c / 2) ≠ 2 ∨ CleanWords s .vel (2 ^ 21 * c + o) 64 → c < 255 ∨ (s.dom (c / 2) = 2 ∧ o + 64 < 0x180000) → o < 0x180000 → o % 64 = 0 → Runs .vellumScrubBurst s fun t =>
        t.rd R.MEM_VEL_PTR = (if s.dom (c / 2) ≠ 2 ∨ 0x180000 ≤ o + 64 then 2 ^ 21 * (c + 1) else 2 ^ 21 * c + o + 64)
          ∧ t.evt = s.evt ∧ t.out = s.out ∧ RegsKept [R.MEM_VEL_PTR] s t ∧ SameMem s t)
  ∧ (∀ s : State, (scrubAt s 8).begun = true → s.bit R.MEM_STATUS 23 = false → scrubTarget s 8 = scrubPtr s 8 + 1 → s.fd R.MEM_VEL_PTR 28 21 = 255 →
      s.dom 127 = 2 → s.fd R.MEM_VEL_PTR 20 0 = 0x180000 - 64 → CleanWords s .vel (2 ^ 21 * 255 + 0x180000 - 64) 64 → RoomFor s → Runs .vellumScrubBurst s fun t =>
      t.rd R.MEM_VEL_PTR = 0 ∧ Raised t Ev.SCRUB_PASS_DONE 8 ∧ (scrubAt t 8).start = (scrubAt s 8).start + scrubPeriod s 8
        ∧ RegsKept [R.MEM_VEL_PTR, R.MEM_STATUS] s t ∧ SameMem s t)
  ∧ (∀ (s : State) (p : Path) (v : Word), Reaches p s → hostLike p = false ∨ s.bit R.GLB_STATE 5 = true → Runs (.memInject p v) s fun t =>
      t.rd R.MEM_INJECT = 2 ^ 31 + 2 ^ 8 * fieldOf v.toNat 8 8 + fieldOf v.toNat 0 0 ∧ t.evt = s.evt ∧ t.out = s.out ∧ RegsKept [R.MEM_INJECT] s t ∧ SameMem s t)
  ∧ (∀ (s : State) (p : Path) (v : Word), Reaches p s → hostLike p = true → s.bit R.GLB_STATE 5 = false → RoomFor s → Runs (.memInject p v) s fun t =>
      Raised t Ev.MEM_DENIED 0 ∧ RegsKept [] s t ∧ SameMem s t)
  ∧ ∀ (s : State) (k : Nat) (bs : List Byte), bs.length = 8 → s.bit R.MEM_INJECT 31 = true → s.bit R.MEM_INJECT 8 = false → s.rd64 R.MEM_INJECT_ADDR_LO / 8 = k →
      ramSyn (memWrite 1 .hbm (8 * k) (goodBytes bs) s) .hbm k = (if s.bit R.MEM_INJECT 0 then 5 else 1)
        ∧ (memWrite 1 .hbm (8 * k) (goodBytes bs) s).bit R.MEM_INJECT 31 = false ∧ ramWord (memWrite 1 .hbm (8 * k) (goodBytes bs) s) .hbm k = bs

/-- Link up and down show in PCIE_STATUS and count in PCIE_LINK_CNT. Configuration requests get Request Retry Status until FUNCTION_READY past IMAGE and during an FLR; then a read answers four bytes, the identification as fixed, and a write keeps the writable bits. Clearing Bus Master Enable or entering D3hot stops host-fed rings with their status held and marks outstanding reads lost; the return writes held statuses, then pending messages. A vector that nothing blocks sends one message and its pending bit clears. (22_pcie_function R562, 22_pcie_function R564, 22_pcie_function R572, 22_pcie_function R573, 22_pcie_function R575, 22_pcie_function R577, 22_pcie_function R578, 22_pcie_function R586, 22_pcie_function R588, 03_clocks_and_resets R87) -/
def Obligations.TheFunctionAnswersConfigurationAndFollowsItsLink : Prop :=
  (∀ (s : State) (f : Bool) (r : BitVec 3) (w : BitVec 5) (tag : BitVec 14) (off : BitVec 12) (v : Option Word), functionLive s = false →
      exec (.pcieLinkUp f r w) s = .next s ∧ exec (.configurationRequest tag off v) s = .next s ∧ exec .functionReady s = .next s)
  ∧ (∀ (s : State) (f : Bool) (r : BitVec 3) (w : BitVec 5), functionLive s = true → Runs (.pcieLinkUp f r w) s fun t =>
      t.bit R.PCIE_STATUS 31 = true ∧ t.bit R.PCIE_STATUS 30 = f ∧ t.fd R.PCIE_STATUS 26 24 = r.toNat ∧ t.fd R.PCIE_STATUS 20 16 = w.toNat
        ∧ t.fd R.PCIE_STATUS 13 0 = s.fd R.PCIE_STATUS 13 0 ∧ t.fd R.PCIE_LINK_CNT 15 0 = s.fd R.PCIE_LINK_CNT 15 0
        ∧ t.fd R.PCIE_LINK_CNT 31 16 = min 0xFFFF (s.fd R.PCIE_LINK_CNT 31 16 + if s.bit R.PCIE_STATUS 31 then 1 else 0)
        ∧ t.evt = s.evt ∧ t.out = s.out ∧ RegsKept [R.PCIE_STATUS, R.PCIE_LINK_CNT] s t ∧ SameMem s t)
  ∧ (∀ s : State, s.bit R.PCIE_STATUS 31 = false → exec .pcieLinkDown s = .next s)
  ∧ (∀ s : State, s.bit R.PCIE_STATUS 31 = true → Runs .pcieLinkDown s fun t => t.bit R.PCIE_STATUS 31 = false
      ∧ t.fd R.PCIE_STATUS 30 0 = s.fd R.PCIE_STATUS 30 0 ∧ t.fd R.PCIE_LINK_CNT 15 0 = min 0xFFFF (s.fd R.PCIE_LINK_CNT 15 0 + 1)
      ∧ t.fd R.PCIE_LINK_CNT 31 16 = s.fd R.PCIE_LINK_CNT 31 16 ∧ t.evt = s.evt ∧ t.out = s.out ∧ RegsKept [R.PCIE_STATUS, R.PCIE_LINK_CNT] s t ∧ SameMem s t)
  ∧ (∀ s : State, functionLive s = true → 2 ≤ s.top → Runs .functionReady s fun t => t.boot.rrs = false ∧ t.regs = s.regs ∧ t.evt = s.evt ∧ t.out = s.out ∧ SameMem s t)
  ∧ (∀ s : State, s.top < 2 → exec .functionReady s = .next s)
  ∧ (∀ (s : State) (tag : BitVec 14) (off : BitVec 12) (v : Option Word), functionLive s = true → s.boot.rrs = true ∨ s.bit R.PCIE_STATUS 3 = true →
      exec (.configurationRequest tag off v) s = .next (s.emit (.cpl tag.toNat 2 [])))
  ∧ (∀ (s : State) (tag : BitVec 14) (off : BitVec 12), cfgTakes s = true → Runs (.configurationRequest tag off none) s fun t =>
      (∃ v, t.out = s.out ++ [.cpl tag.toNat 0 (natToBytes 4 v)] ∧ (off.toNat / 4 = 0 → v = 0x16082E71) ∧ (off.toNat / 4 = 2 → v = 0x120000B0)
        ∧ (off.toNat / 4 = 0xB → v = 0x00012E71) ∧ (off.toNat / 4 = 0x54 → v = 0x2E711608)) ∧ t.regs = s.regs ∧ t.pcie = s.pcie ∧ t.evt = s.evt ∧ SameMem s t)
  ∧ (∀ (s : State) (tag : BitVec 14) (off : BitVec 12) (v : Word) (m : Nat), cfgTakes s = true → pairAt cfgMask (off.toNat / 4 * 4) = some m →
      Runs (.configurationRequest tag off (some v)) s fun t => t.cfg (off.toNat / 4 * 4) = Nat.land v.toNat m ∧ (∀ o, o / 4 ≠ off.toNat / 4 → t.cfg o = s.cfg o)
        ∧ t.out = s.out ++ [.cpl tag.toNat 0 []] ∧ t.regs = s.regs ∧ t.evt = s.evt ∧ SameMem s t)
  ∧ (∀ (s : State) (tag : BitVec 14) (off : BitVec 12) (v : Word), cfgTakes s = true → (pairAt cfgFixed (off.toNat / 4 * 4)).isSome = true →
      exec (.configurationRequest tag off (some v)) s = .next (s.emit (.cpl tag.toNat 0 [])))
  ∧ (∀ (s : State) (c : Instr), cfgTakes s = false → c = .bmeClear ∨ c = .bmeSet ∨ c = .d3hotEntry ∨ c = .d0Return → exec c s = .next s)
  ∧ (∀ (s : State) (c : Instr), cfgTakes s = true → c = .bmeClear ∨ c = .d3hotEntry → bme s = true → d3hot s = false → s.evt.queue.length < 900 →
      (∀ x ∈ openCtxs s, ∀ y ∈ openCtxs s, hostRing s x = true → hostRing s y = true → x = y) → Runs c s fun t =>
        (if c = .bmeClear then bme t = false ∧ d3hot t = false else bme t = true ∧ d3hot t = true) ∧ mayIssue t = false ∧ t.out = s.out
          ∧ (∀ e ∈ t.pcie.np, e.2.lost = true) ∧ t.pcie.np.length = s.pcie.np.length ∧ SameMem s t
          ∧ (∀ c < 4096, hostRing s c = false → ctxState t c = ctxState s c ∧ ctxOf t c = ctxOf s c)
          ∧ (∀ c < 4096, hostRing s c = true → ctxState s c = 1 ∨ ctxState s c = 2 → ctxState t c = 3 ∧ t.fd (R.XFE_STATE c) 27 24 = 3
            ∧ Raised t Ev.XFE_STOPPED c ∧ (ctxOf t c).run = none ∧ (ctxOf t c).queue = (ctxOf s c).queue
            ∧ (∀ k, (ctxOf s c).run = some k → (ctxOf t c).held = some (k.d, k.done) ∧ t.bit R.PCIE_STATUS 2 = true)))
  ∧ (∀ (s : State) (c : Instr), cfgTakes s = true → (c = .bmeSet ∧ bme s = false ∧ d3hot s = false) ∨ (c = .d0Return ∧ bme s = true ∧ d3hot s = true) →
      s.bit R.PCIE_STATUS 9 = true → s.bit R.PCIE_STATUS 10 = false → (∀ e ∈ s.xfe.ctxs, e.2.held = none) → (∀ x ∈ openCtxs s, (ctxOf s x).held = none) → Runs c s fun t =>
        bme t = true ∧ d3hot t = false ∧ mayIssue t = true ∧ t.bit R.PCIE_STATUS 2 = false ∧ t.rd R.XFE_HELD = 0
          ∧ t.out = s.out ++ (s.pcie.pend.filter fun v => !msixMasked s v).map .msix ∧ t.pcie.pend = s.pcie.pend.filter (msixMasked s)
          ∧ t.evt = s.evt ∧ RegsKept [R.PCIE_STATUS, R.XFE_HELD] s t ∧ SameMem s t)
  ∧ (∀ (s : State) (c : Nat) (d : Desc) (n : Nat), cfgTakes s = true → bme s = false → d3hot s = false → openCtxs s = [c] → c < 4096 → hostRing s c = true →
      (ctxOf s c).held = some (d, n) → (∀ e ∈ s.xfe.ctxs, e.1 ≠ c → e.2.held = none) → smRising 0 s.xfe.ctxs = true → ctxState s c = 3 → s.bit (R.XFE_CTL c) 27 = false → bitOf (dDw d 5) 0 = false →
      bitOf (dDw d 5) 1 = false → descAddr s c d.idx + 32 ≤ hbmSize → CleanWords s .hbm (descAddr s c d.idx + 16) 16 → s.bit R.MEM_INJECT 31 = false →
      s.bit R.PCIE_STATUS 9 = false → Runs .bmeSet s fun t =>
        WroteAt s t .hbm (descAddr s c d.idx + 16) (dwBytes [w32 (2 ^ 28 * dMode d + 2 ^ 24 * dParam d + n), w32 (2 ^ 24 * 2 + (dLen d - n)),
          w32 (s.now % 2 ^ 32), w32 d.idx]) ∧ (ctxOf t c).held = none ∧ t.bit R.PCIE_STATUS 2 = false ∧ t.rd R.XFE_HELD = 0 ∧ ctxState t c = 3
          ∧ t.fd (R.XFE_STATE c) 15 8 = 2 ∧ t.evt = s.evt ∧ t.out = s.out)
  ∧ (∀ (s : State) (v : Fin 2048), s.bit R.PCIE_STATUS 9 = false → exec (.msixUnmask v none) s = .next s)
  ∧ (∀ (s : State) (v : Fin 2048), s.bit R.PCIE_STATUS 9 = true → Runs (.msixUnmask v none) s fun t =>
      t.out = s.out ++ (s.pcie.pend.filter (msixClear s)).map .msix ∧ t.pcie.pend = s.pcie.pend.filter (fun x => !msixClear s x)
        ∧ t.regs = s.regs ∧ t.evt = s.evt ∧ SameMem s t)
  ∧ ∀ (s : State) (v : Fin 2048) (e : MsixEntry), Reaches .pcie s → s.bit R.PCIE_STATUS 9 = true → mayIssue s = true → s.bit R.PCIE_STATUS 10 = false →
      s.bit R.PCIE_STATUS 2 = false → s.pcie.pend = [v.val] → Runs (.msixUnmask v (some e)) s fun t => msixMasked t v = e.masked
        ∧ (∀ x, x ≠ v.val → msixMasked t x = msixMasked s x) ∧ (if e.masked then t.out = s.out ∧ t.pcie.pend = [v.val] else t.out = s.out ++ [.msix v] ∧ t.pcie.pend = [])
        ∧ t.regs = s.regs ∧ t.evt = s.evt ∧ SameMem s t

/-- A BAR2 request takes the window in force on arrival. With its stacks ON a write lands in HBM and a read answers its bytes (of bytes a running ticket writes the old or the new value of each aligned 8-byte word), EP set and zeros where words are bad; it waits for a stack in reset or WAKING and is served on resume, and meets a stack OFF with zeros and PCIE_BAR2_OFF. BASE takes 0 to 320, above that PCIE_WIN_DENIED. A malformed BAR0 or BAR4 request is counted and a read completed with Unsupported Request. A completion frees its tag and delivers its bytes, is discarded while Bus Master Enable is clear, and dropped for a fenced tag; a timeout frees the tag and logs Completion Timeout. (22_pcie_function R567, 22_pcie_function R568, 22_pcie_function R569, 22_pcie_function R570, 22_pcie_function R573, 22_pcie_function R576, 22_pcie_function R581, 22_pcie_function R582, 22_pcie_function R583, 22_pcie_function R585, 19_graver_compute R518, 21_memory_and_scrub R553) -/
def Obligations.TheBar2WindowServesAndCompletionsFreeTheirTags : Prop :=
  (∀ (s : State) (r : Bar2Req), r.wellFormed = false → exec (.bar2Request r) s = .fault .illFormed)
  ∧ (∀ (s : State) (r : Bar2Req), r.wellFormed = true → functionLive s = false → exec (.bar2Request r) s = .next s)
  ∧ (∀ (s : State) (r : Bar2Req), r.wellFormed = true → functionLive s = true → s.pathOpen .pcie = false →
      exec (.bar2Request r) s = .next (if r.write then s else s.emit (.cpl r.tag.toNat 1 [])))
  ∧ (∀ (s : State) (r : Bar2Req), r.wellFormed = true → functionLive s = true → s.pathOpen .pcie = true → s.hostBlocked = true → holdsBase s = false →
      Runs (.bar2Request r) s fun t => t.pcie.held = s.pcie.held ++ [.bar2 r (some (bar2Base s + r.off.toNat))] ∧ t.regs = s.regs ∧ t.evt = s.evt
        ∧ t.out = s.out ∧ SameMem s t)
  ∧ (∀ (s : State) (r : Bar2Req), r.wellFormed = true → functionLive s = true → Reaches .pcie s →
      let a := bar2Base s + r.off.toNat
      let n := r.len.toNat
      ((∀ k ∈ stacksAt a n, s.domUp (0x90 + k) = true ∧ s.dom (0x90 + k) ≠ 1) →
        (∀ bs, r.write = true → r.ep = false → r.data = bs.map some → CleanWords s .hbm a n → s.bit R.MEM_INJECT 31 = false → Runs (.bar2Request r) s fun t =>
          WroteAt s t .hbm a bs ∧ t.out = s.out ∧ t.evt = s.evt ∧ RegsKept [] s t ∧ (∀ x, smGet ramD t.vel x = smGet ramD s.vel x))
        ∧ (r.write = false → CleanWords s .hbm a n → midWriters s .hbm a n = [] → exec (.bar2Request r) s = .next (s.emit (.cpl r.tag.toNat 0 (bytesAt ramD s.hbm a n))))
        ∧ (∀ q x, r.write = false → CleanWords s .hbm a n → midWriters s .hbm a n = [(q, x)] → CleanWords (localWork q x s).1 .hbm a n →
          Runs (.bar2Request r) s fun t => ∃ bs : List Byte, bs.length = n ∧ t.out = s.out ++ [.cpl r.tag.toNat 0 bs]
            ∧ (∀ j, (∀ i < n, (a + i) / 8 = j → bs.getD i 0 = smGet ramD s.hbm (a + i))
              ∨ (∀ i < n, (a + i) / 8 = j → bs.getD i 0 = smGet ramD (localWork q x s).1.hbm (a + i))) ∧ t.regs = s.regs ∧ t.evt = s.evt ∧ SameMem s t)
        ∧ (∀ j, r.write = false → a ≤ 8 * j → 8 * j + 8 ≤ a + n → ramSyn s .hbm j = 3 → (∀ i, i ≠ j → a / 8 ≤ i → i < (a + n + 7) / 8 → ramSyn s .hbm i = 0) →
          RoomFor s → midWriters s .hbm a n = [] → Runs (.bar2Request r) s fun t => t.out = s.out ++ [.cplEp r.tag.toNat ((List.range n).map fun i =>
            if (a + i) / 8 = j then 0 else smGet ramD s.hbm (a + i))] ∧ t.rd R.MEM_POISON_READS = min 0xFFFFFFFF (s.rd R.MEM_POISON_READS + 1) ∧ SameMem s t))
      ∧ (∀ k ∈ stacksAt a n, stackWaits s k = true → Runs (.bar2Request r) s fun t => t.pcie.wait = s.pcie.wait ++ [bar2At r a] ∧ t.regs = s.regs
          ∧ t.evt = s.evt ∧ t.out = s.out ∧ SameMem s t)
      ∧ (∀ k ks, stacksAt a n = k :: ks → (∀ j ∈ stacksAt a n, stackWaits s j = false) → s.domUp (0x90 + k) = false → (∀ m ∈ s.evt.marks, m.1 ≠ Ev.PCIE_BAR2_OFF) →
          RoomFor s → Runs (.bar2Request r) s fun t => Raised t Ev.PCIE_BAR2_OFF k
            ∧ t.out = s.out ++ (if r.write then [] else [.cplEp r.tag.toNat (List.replicate n 0)]) ∧ RegsKept [] s t ∧ SameMem s t))
  ∧ (∀ s : State, s.pcie.wait = [] → s.pcie.held = [] → exec .bar2RequestResume s = .next s)
  ∧ (∀ (s : State) (w : Bar2Wait), s.pcie.wait = [w] → s.pcie.held = [] → (∀ k ∈ stacksAt w.addr w.len, s.domUp (0x90 + k) = true ∧ s.dom (0x90 + k) ≠ 1) →
      CleanWords s .hbm w.addr w.len → s.bit R.MEM_INJECT 31 = false →
      (∀ bs, w.write = true → w.ep = false → w.data = bs.map some → bs.length = w.len → Runs .bar2RequestResume s fun t =>
        WroteAt s t .hbm w.addr bs ∧ t.pcie.wait = [] ∧ t.pcie.held = [] ∧ t.out = s.out ∧ t.evt = s.evt ∧ RegsKept [] s t)
      ∧ (w.write = false → midWriters s .hbm w.addr w.len = [] → Runs .bar2RequestResume s fun t => t.out = s.out ++ [.cpl w.tag 0 (bytesAt ramD s.hbm w.addr w.len)] ∧ t.pcie.wait = []
        ∧ t.regs = s.regs ∧ t.evt = s.evt ∧ SameMem s t))
  ∧ (∀ (s : State) (p : Path) (v : Word), Reaches p s → s.dom 0xA2 = 2 →
      (v.toNat % 512 ≤ 320 → Runs (.pcieBar2BaseWrite p v) s fun t => t.rd R.PCIE_BAR2_BASE = v.toNat % 512 ∧ t.evt = s.evt ∧ t.out = s.out
        ∧ RegsKept [R.PCIE_BAR2_BASE] s t ∧ SameMem s t)
      ∧ (320 < v.toNat % 512 → RoomFor s → Runs (.pcieBar2BaseWrite p v) s fun t => Raised t Ev.PCIE_WIN_DENIED 0 ∧ RegsKept [] s t ∧ SameMem s t))
  ∧ (∀ (s : State) (w : Bool) (tag : BitVec 14), functionLive s = false → exec (.barBadAccess w tag) s = .next s)
  ∧ (∀ (s : State) (w : Bool) (tag : BitVec 14), functionLive s = true → s.pathOpen .pcie = true → Runs (.barBadAccess w tag) s fun t =>
      t.rd R.PCIE_BAD_ACC = min 0xFFFFFFFF (s.rd R.PCIE_BAD_ACC + 1) ∧ t.out = s.out ++ (if w then [] else [.cpl tag.toNat 1 []]) ∧ t.evt = s.evt
        ∧ RegsKept [R.PCIE_BAD_ACC] s t ∧ SameMem s t)
  ∧ (∀ (s : State) (tag : BitVec 10) (st : CplStatus) (ep : Bool) (bs : List Byte), (∀ e ∈ s.pcie.fenced, e.1 ≠ tag.toNat) →
      (exec (.fencedTagFree tag) s = .next s) ∧ ((∀ e ∈ s.pcie.np, e.1 ≠ tag.toNat) → exec (.pcieCompletionReceive tag st ep bs) s = .next s
        ∧ exec (.pcieCompletionTimeout tag) s = .next s))
  ∧ (∀ (s : State) (tag : BitVec 10) (h : Nat) (c : Instr), (tag.toNat, h) ∈ s.pcie.fenced → (c = .fencedTagFree tag ∨ ∃ st ep bs, c = .pcieCompletionReceive tag st ep bs) →
      Runs c s fun t => (∀ e, e ∈ t.pcie.fenced ↔ e ∈ s.pcie.fenced ∧ e.1 ≠ tag.toNat) ∧ t.pcie.np = s.pcie.np ∧ t.xfe = s.xfe
        ∧ (c ≠ .fencedTagFree tag → t.rd R.PCIE_FENCE_DROP = min 0xFFFFFFFF (s.rd R.PCIE_FENCE_DROP + 1))
        ∧ (t.bit R.PCIE_STATUS 4 = true ↔ ∃ e ∈ t.pcie.fenced, e.2 = 0) ∧ (t.bit R.PCIE_STATUS 5 = true ↔ ∃ e ∈ t.pcie.fenced, e.2 = 1)
        ∧ (s.pcie.frozen = true → (∀ e ∈ t.pcie.fenced, e.2 ≠ 0) → t.pcie.frozen = false ∧ t.fd R.PCIE_STATUS 0 0 = 0)
        ∧ RegsKept [R.PCIE_FENCE_DROP, R.PCIE_STATUS, R.PCIE_OUTSTANDING] s t ∧ t.evt = s.evt ∧ t.out = s.out ∧ SameMem s t)
  ∧ (∀ (s : State) (tag : BitVec 10) (rd : HostRd) (ep : Bool) (bs : List Byte), (∀ e ∈ s.pcie.fenced, e.1 ≠ tag.toNat) →
      s.pcie.np.find? (fun e => e.1 == tag.toNat) = some (tag.toNat, rd) → rd.got = [] → bs.length = rd.len →
      (bme s = false ∨ rd.lost = true → Runs (.pcieCompletionReceive tag .success ep bs) s fun t => (∀ e ∈ t.pcie.np, e.1 ≠ tag.toNat) ∧ t.xfe = s.xfe
        ∧ t.rd R.PCIE_BME_DROP = min 0xFFFFFFFF (s.rd R.PCIE_BME_DROP + 1) ∧ t.evt = s.evt ∧ t.out = s.out
        ∧ RegsKept [R.PCIE_BME_DROP, R.PCIE_OUTSTANDING] s t ∧ SameMem s t)
      ∧ (∀ num k, bme s = true → rd.lost = false → rd.burst = some num → (ctxOf s rd.ctx).run = some k → s.fab.inbox = [] →
        (Runs (.pcieCompletionReceive tag .success ep bs) s fun t => (∀ e ∈ t.pcie.np, e.1 ≠ tag.toNat)
          ∧ (ctxOf t rd.ctx).run = some { k with
              poison := k.poison || (rd.ep || ep),
              bursts := k.bursts.map fun b => if b.num = num then { b with wait := b.wait - 1, got := b.got ++ [⟨rd.at_, bs, rd.ep || ep⟩] } else b }
          ∧ t.evt = s.evt ∧ t.out = s.out ∧ RegsKept [R.PCIE_OUTSTANDING] s t ∧ SameMem s t)
        ∧ (Runs (.pcieCompletionReceive tag .unsupported ep []) s fun t => (∀ e ∈ t.pcie.np, e.1 ≠ tag.toNat)
          ∧ (∃ x, (ctxOf t rd.ctx).run = some x ∧ x.fail = if k.fail = 0 then 5 else k.fail) ∧ t.evt = s.evt ∧ t.out = s.out
          ∧ RegsKept [R.PCIE_OUTSTANDING] s t ∧ SameMem s t)
        ∧ (Runs (.pcieCompletionTimeout tag) s fun t => (∀ e ∈ t.pcie.np, e.1 ≠ tag.toNat) ∧ bitOf (t.cfg 0x104) 14 = true
          ∧ (∃ x, (ctxOf t rd.ctx).run = some x ∧ x.fail = if k.fail = 0 then 6 else k.fail) ∧ t.evt = s.evt ∧ t.out = s.out
          ∧ RegsKept [R.PCIE_OUTSTANDING] s t ∧ SameMem s t)))

/-- A non-zero KIND opens a closed context IDLE with HEAD, TAIL and BYTES 0 and full credit, on PCI Express only a host-fed ring among contexts 0 to 1,023; FEED 3 and host memory without FEED HOST are denied. KIND 0 closes a ring that does not run, a FLOW with nothing outstanding and a MSG_RX. BASE and CTL of a running ring and RES 5 to 15 are denied. A doorbell sets TAIL or is an overrun. ABORT stops an idle ring and marks a running descriptor; RESTART resumes a STOPPED ring at HEAD or, with SKIP, at TAIL. A discarded write raises XFE_DENIED; while the engine is not ON nothing happens. (23_transfer_engine R589, 23_transfer_engine R590, 23_transfer_engine R591, 23_transfer_engine R592, 23_transfer_engine R594, 23_transfer_engine R596, 23_transfer_engine R605, 23_transfer_engine R606, 23_transfer_engine R607, 00_scope R22, 27_address_map_and_register_index R661) -/
def Obligations.StreamContextsOpenCloseAndTakeDoorbells : Prop :=
  (∀ (s : State) (p : Path) (c : Fin 4096) (v : Word) (k : Bool) (i : Instr), Reaches p s → s.dom 0xA3 ≠ 2 →
      i ∈ [.contextOpen p c v, .contextClose p c v, .xfeContextWrite p (R.XFE_BASE_LO c) v, .xfeRateWrite p c v, .xfeDoorbell p c v, .xfeAbort p c, .xfeRestart p c k] →
      exec i s = .next s)
  ∧ (∀ (s : State) (p : Path) (c : Fin 4096) (v : Word), Reaches p s → s.dom 0xA3 = 2 → ctxKind s c = 0 → fieldOf v.toNat 31 30 ≠ 0 →
      (ctlOk v.toNat = true → hostLike p = false ∨ (p = .pcie ∧ c.val < 1024 ∧ fieldOf v.toNat 31 28 = 4) → Runs (.contextOpen p c v) s fun t =>
        t.rd (R.XFE_CTL c) = keptBits (R.XFE_CTL c) v.toNat ∧ ctxKind t c = fieldOf v.toNat 31 30 ∧ ctxState t c = 1 ∧ t.rd (R.XFE_PTR c) = 0
          ∧ t.rd64 (R.XFE_BYTES_LO c) = 0 ∧ ctxOf t c = { XCtx.init with credit := 8192 * 327680, tick := s.ticks }
          ∧ t.fd R.XFE_STATUS 12 0 = (s.fd R.XFE_STATUS 12 0 + 1) % 8192 ∧ t.evt = s.evt ∧ t.out = s.out
          ∧ RegsKept [R.XFE_CTL c, R.XFE_STATE c, R.XFE_PTR c, R.XFE_BYTES_LO c, R.XFE_BYTES_HI c, R.XFE_STATUS] s t ∧ SameMem s t)
      ∧ (ctlOk v.toNat = false ∨ p = .sdfp ∨ (p = .pcie ∧ (1024 ≤ c.val ∨ fieldOf v.toNat 31 28 ≠ 4)) → RoomFor s → Runs (.contextOpen p c v) s fun t =>
        Raised t Ev.XFE_DENIED 0 ∧ t.rd R.XFE_DENY_CNT = min 0xFFFFFFFF (s.rd R.XFE_DENY_CNT + 1) ∧ RegsKept [R.XFE_DENY_CNT] s t ∧ SameMem s t))
  ∧ (∀ v : Nat, fieldOf v 31 30 = 1 → fieldOf v 29 28 = 3 ∨ (fieldOf v 29 28 ≠ 0 ∧ (bitOf v 27 = true ∨ bitOf v 26 = true)) → ctlOk v = false)
  ∧ (∀ (s : State) (p : Path) (c : Fin 4096) (v : Word), Reaches p s → s.dom 0xA3 = 2 → mayCtx s p c = true → fieldOf v.toNat 31 30 = 0 →
      (ctxKind s c = 1 ∧ ctxState s c ≠ 2 ∨ ctxKind s c = 2 ∧ ctxBusy s c = false ∨ ctxKind s c = 3 → Runs (.contextClose p c v) s fun t =>
        ctxKind t c = 0 ∧ t.rd (R.XFE_STATE c) = 0 ∧ ctxOf t c = XCtx.init ∧ t.rd (R.XFE_CTL c) = keptBits (R.XFE_CTL c) v.toNat
          ∧ (1 ≤ s.fd R.XFE_STATUS 12 0 → t.fd R.XFE_STATUS 12 0 = s.fd R.XFE_STATUS 12 0 - 1) ∧ t.evt = s.evt ∧ t.out = s.out
          ∧ RegsKept [R.XFE_CTL c, R.XFE_STATE c, R.XFE_STATUS, R.XFE_HELD, R.PCIE_STATUS] s t ∧ SameMem s t)
      ∧ (ctxKind s c = 1 ∧ ctxState s c = 2 ∨ ctxKind s c = 2 ∧ ctxBusy s c = true → RoomFor s → Runs (.contextClose p c v) s fun t =>
        Raised t Ev.XFE_DENIED 0 ∧ t.rd R.XFE_DENY_CNT = min 0xFFFFFFFF (s.rd R.XFE_DENY_CNT + 1) ∧ t.xfe = s.xfe ∧ RegsKept [R.XFE_DENY_CNT] s t ∧ SameMem s t))
  ∧ (∀ (s : State) (p : Path) (c : Fin 4096) (v w : Word), Reaches p s → s.dom 0xA3 = 2 → mayCtx s p c = true → p ≠ .sdfp →
      (ctxKind s c = 0 ∨ ctxState s c ≠ 2 → Runs (.xfeContextWrite p (R.XFE_BASE_LO c) v) s fun t => heldLo t p (R.XFE_BASE_LO c) = some v ∧ t.regs = s.regs
        ∧ t.evt = s.evt ∧ t.out = s.out ∧ SameMem s t)
      ∧ (ctxKind s c = 0 ∨ ctxState s c ≠ 2 → heldLo s p (R.XFE_BASE_LO c) = some w → Runs (.xfeContextWrite p (R.XFE_BASE_HI c) v) s fun t =>
        t.rd64 (R.XFE_BASE_LO c) = w.toNat + 2 ^ 32 * v.toNat ∧ heldLo t p (R.XFE_BASE_LO c) = none ∧ t.evt = s.evt ∧ t.out = s.out
          ∧ RegsKept [R.XFE_BASE_LO c, R.XFE_BASE_HI c] s t ∧ SameMem s t)
      ∧ (∀ off ∈ [R.XFE_BASE_LO c, R.XFE_BASE_HI c, R.XFE_FLAG_LO c, R.XFE_FLAG_HI c], ctxKind s c ≠ 0 → ctxState s c = 2 → RoomFor s →
        Runs (.xfeContextWrite p off v) s fun t => Raised t Ev.XFE_DENIED 0 ∧ RegsKept [R.XFE_DENY_CNT] s t ∧ SameMem s t))
  ∧ (∀ (s : State) (p : Path) (c : Fin 4096) (v : Word), Reaches p s → s.dom 0xA3 = 2 →
      (mayCtx s p c = true → fieldOf v.toNat 31 28 ≤ 4 → Runs (.xfeRateWrite p c v) s fun t => t.fd (R.XFE_RATE c) 31 28 = fieldOf v.toNat 31 28
        ∧ t.fd (R.XFE_RATE c) 27 24 = fieldOf v.toNat 27 24 ∧ t.fd (R.XFE_RATE c) 8 0 = min 256 (v.toNat % 512) ∧ t.evt = s.evt ∧ t.out = s.out
        ∧ RegsKept [R.XFE_RATE c] s t ∧ SameMem s t)
      ∧ (mayCtx s p c = false ∨ 5 ≤ fieldOf v.toNat 31 28 → RoomFor s → Runs (.xfeRateWrite p c v) s fun t => Raised t Ev.XFE_DENIED 0
        ∧ t.rd R.XFE_DENY_CNT = min 0xFFFFFFFF (s.rd R.XFE_DENY_CNT + 1) ∧ RegsKept [R.XFE_DENY_CNT] s t ∧ SameMem s t))
  ∧ (∀ (s : State) (p : Path) (c : Fin 4096) (v : Word), Reaches p s → s.dom 0xA3 = 2 → mayDoor s p c = true →
      let ahead := fun x => (x + 65536 - ctxHead s c) % 65536
      let tail := v.toNat % 65536
      (ctxKind s c = 1 → 2 ^ ctxLog s c < ahead tail ∨ ahead tail < ahead (ctxTail s c) → RoomFor s → Runs (.xfeDoorbell p c v) s fun t =>
        Raised t Ev.XFE_DB_OVERRUN c ∧ t.xfe = s.xfe ∧ RegsKept [] s t ∧ SameMem s t)
      ∧ (ctxKind s c = 1 → ahead tail ≤ 2 ^ ctxLog s c → ahead (ctxTail s c) ≤ ahead tail → Runs (.xfeDoorbell p c v) s fun t =>
        ctxTail t c = tail ∧ ctxHead t c = ctxHead s c ∧ (ctxOf t c).stuck = false ∧ t.evt = s.evt ∧ t.out = s.out ∧ RegsKept [R.XFE_PTR c] s t ∧ SameMem s t)
      ∧ (ctxKind s c = 3 → Runs (.xfeDoorbell p c v) s fun t => ctxTail t c = tail ∧ ctxHead t c = ctxHead s c ∧ t.evt = s.evt ∧ RegsKept [R.XFE_PTR c] s t ∧ SameMem s t))
  ∧ (∀ (s : State) (p : Path) (c : Fin 4096) (v : Word), Reaches p s → s.dom 0xA3 = 2 → mayDoor s p c = false → RoomFor s → Runs (.xfeDoorbell p c v) s fun t =>
      Raised t Ev.XFE_DENIED 0 ∧ t.rd R.XFE_DENY_CNT = min 0xFFFFFFFF (s.rd R.XFE_DENY_CNT + 1) ∧ RegsKept [R.XFE_DENY_CNT] s t ∧ SameMem s t)
  ∧ (∀ (s : State) (p : Path) (c : Fin 4096) (k : Bool), Reaches p s → s.dom 0xA3 = 2 →
      (mayCtx s p c = false → RoomFor s → ∀ i, i = .xfeAbort p c ∨ i = .xfeRestart p c k → Runs i s fun t =>
        Raised t Ev.XFE_DENIED 0 ∧ RegsKept [R.XFE_DENY_CNT] s t ∧ SameMem s t)
      ∧ (mayCtx s p c = true → ctxKind s c ≠ 1 ∨ ctxState s c = 0 ∨ ctxState s c = 3 → exec (.xfeAbort p c) s = .next s)
      ∧ (mayCtx s p c = true → ctxKind s c = 1 → ctxState s c = 1 ∨ ctxState s c = 2 → RoomFor s →
        ((ctxOf s c).run = none → Runs (.xfeAbort p c) s fun t => ctxState t c = 3 ∧ t.fd (R.XFE_STATE c) 27 24 = 2 ∧ Raised t Ev.XFE_STOPPED c
          ∧ (ctxOf t c).queue = [] ∧ t.rd (R.XFE_PTR c) = s.rd (R.XFE_PTR c) ∧ RegsKept [R.XFE_STATE c] s t ∧ SameMem s t)
        ∧ (∀ x, (ctxOf s c).run = some x → Runs (.xfeAbort p c) s fun t => (ctxOf t c).run = some { x with abort := true } ∧ (ctxOf t c).queue = []
          ∧ ctxState t c = 2 ∧ t.evt = s.evt ∧ t.out = s.out ∧ RegsKept [R.XFE_STATE c] s t ∧ SameMem s t))
      ∧ (mayCtx s p c = true → ctxKind s c ≠ 1 ∨ ctxState s c ≠ 3 → exec (.xfeRestart p c k) s = .next s)
      ∧ (mayCtx s p c = true → ctxKind s c = 1 → ctxState s c = 3 → Runs (.xfeRestart p c k) s fun t => t.fd (R.XFE_STATE c) 27 24 = 0
        ∧ ctxState t c = (if (ctxOf s c).run.isSome then 2 else 1) ∧ ctxTail t c = ctxTail s c ∧ ctxHead t c = (if k then ctxTail s c else ctxHead s c)
        ∧ (ctxOf t c).queue = [] ∧ t.evt = s.evt ∧ t.out = s.out ∧ RegsKept [R.XFE_STATE c, R.XFE_PTR c] s t ∧ SameMem s t))

/-- A fetched descriptor with OWN joins the queue, marked bad where R600 finds it so; one without ends fetching with XFE_NOT_OWNED. The first queued descriptor starts once none runs and no status is held; a bad one completes at once with BAD_DESC and stops the ring. A burst reads its bytes from HBM, or issues host reads on tags that are neither outstanding nor fenced; one the credit does not cover waits. A burst lands its whole groups, DONE and BYTES grow by them; after a failure nothing more is written. The end writes dwords 4 to 7; ABORTED stops the ring, and so does POISON with ERR_STOP. (23_transfer_engine R596, 23_transfer_engine R597, 23_transfer_engine R598, 23_transfer_engine R600, 23_transfer_engine R601, 23_transfer_engine R602, 23_transfer_engine R603, 23_transfer_engine R604, 23_transfer_engine R605, 23_transfer_engine R607, 22_pcie_function R580) -/
def Obligations.DescriptorsRunInBurstsToTheirStatus : Prop :=
  (∀ (s : State) (c : Fin 4096) (i : Instr), s.domUp 0xA3 = false →
      i ∈ [.descriptorFetch c, .descriptorStart c, .xfeBurstIssue c, .xfeBurstLand c, .descriptorComplete c] → exec i s = .next s)
  ∧ (∀ (s : State) (c : Fin 4096), s.domUp 0xA3 = true → ctxGoes s c = false ∨ (ctxOf s c).stuck = true ∨ 16 ≤ (ctxOf s c).queue.length
      ∨ fetchIdx s c = ctxTail s c → exec (.descriptorFetch c) s = .next s)
  ∧ (∀ (s : State) (c : Fin 4096), s.domUp 0xA3 = true → ctxGoes s c = true → (ctxOf s c).stuck = false → (ctxOf s c).reading = false →
      (ctxOf s c).queue.length < 16 → fetchIdx s c ≠ ctxTail s c →
      let a := descAddr s c (fetchIdx s c)
      (s.bit (R.XFE_CTL c) 27 = false → a + 32 ≤ hbmSize → hbmUp s a 32 = true → CleanWords s .hbm a 32 →
        let d : Desc := ⟨fetchIdx s c, (List.range 8).map fun i => w32 (bytesToNat (((bytesAt ramD s.hbm a 32).drop (4 * i)).take 4)), false⟩
        (bitOf (dDw d 7) 31 = true → Runs (.descriptorFetch c) s fun t => (ctxOf t c).queue = (ctxOf s c).queue ++ [{ d with bad := !descOk s c d }]
          ∧ (ctxOf t c).run = (ctxOf s c).run ∧ t.fd (R.XFE_STATE c) 20 16 = (ctxOf s c).queue.length + 1 ∧ t.evt = s.evt ∧ t.out = s.out
          ∧ RegsKept [R.XFE_STATE c] s t ∧ SameMem s t)
        ∧ (bitOf (dDw d 7) 31 = false → RoomFor s → (∀ m ∈ s.evt.marks, m.1 ≠ Ev.XFE_NOT_OWNED) → Runs (.descriptorFetch c) s fun t =>
          (ctxOf t c).stuck = true ∧ (ctxOf t c).queue = (ctxOf s c).queue ∧ Raised t Ev.XFE_NOT_OWNED c
            ∧ t.rd R.XFE_NOTOWN_CNT = min 0xFFFFFFFF (s.rd R.XFE_NOTOWN_CNT + 1) ∧ RegsKept [R.XFE_NOTOWN_CNT] s t ∧ SameMem s t))
      ∧ (∀ g, s.bit (R.XFE_CTL c) 27 = true → mayIssue s = true → freeTag s = some g → Runs (.descriptorFetch c) s fun t =>
        t.out = s.out ++ [.hostRead a 0 32 g] ∧ (ctxOf t c).reading = true ∧ t.evt = s.evt ∧ RegsKept [R.PCIE_OUTSTANDING] s t ∧ SameMem s t))
  ∧ (∀ (s : State) (c : Fin 4096), s.fab.inbox = [] → ctxGoes s c = false ∨ (ctxOf s c).run.isSome = true ∨ (ctxOf s c).held.isSome = true ∨ (ctxOf s c).queue = [] →
      exec (.descriptorStart c) s = .next s)
  ∧ (∀ (s : State) (c : Fin 4096) (d : Desc) (q : List Desc), s.domUp 0xA3 = true → s.fab.inbox = [] → ctxGoes s c = true → (ctxOf s c).run = none →
      (ctxOf s c).held = none → (ctxOf s c).queue = d :: q → s.bit (R.XFE_CTL c) 27 = false →
      (d.bad = false → Runs (.descriptorStart c) s fun t => (ctxOf t c).run = some ⟨d, 0, [], 0, [], 0, 0, false, false⟩ ∧ (ctxOf t c).queue = q
        ∧ ctxState t c = 2 ∧ ctxHead t c = (d.idx + 1) % 65536 ∧ ctxTail t c = ctxTail s c ∧ t.evt = s.evt ∧ t.out = s.out
        ∧ RegsKept [R.XFE_STATE c, R.XFE_PTR c] s t ∧ SameMem s t)
      ∧ (d.bad = true → bitOf (dDw d 5) 0 = false → bitOf (dDw d 5) 1 = false → DescSlot s c d.idx → RoomFor s → Runs (.descriptorStart c) s fun t =>
        WroteAt s t .hbm (descAddr s c d.idx + 16) (dwBytes [w32 (2 ^ 28 * dMode d + 2 ^ 24 * dParam d), w32 (2 ^ 24 * 4 + dLen d), w32 (s.now % 2 ^ 32), w32 d.idx])
          ∧ (ctxOf t c).run = none ∧ ctxState t c = 3 ∧ t.fd (R.XFE_STATE c) 27 24 = 1 ∧ t.fd (R.XFE_STATE c) 15 8 = 4 ∧ Raised t Ev.XFE_STOPPED c
          ∧ ctxHead t c = (d.idx + 1) % 65536 ∧ RegsKept [R.XFE_STATE c, R.XFE_PTR c, R.XFE_ERR c] s t))
  ∧ (∀ (s : State) (c : Fin 4096) (k : XRun), s.fab.inbox = [] → (ctxOf s c).run = some k → k.fail ≠ 0 ∨ k.abort = true ∨ k.next = dLen k.d →
      Runs (.xfeBurstIssue c) s fun t => (ctxOf t c).run = some k ∧ t.regs = s.regs ∧ t.evt = s.evt ∧ t.out = s.out ∧ SameMem s t)
  ∧ (∀ (s : State) (c : Fin 4096) (k : XRun), s.domUp 0xA3 = true → s.fab.inbox = [] → (ctxOf s c).run = some k → ctxGoes s c = true → k.fail = 0 → k.next ≠ dLen k.d →
      let n := burstLen k
      let a := dSrc k.d + k.next
      (∀ r, creditRate s c (fieldOf (dDw k.d 5) 31 30) = some r → min (8192 * 327680) ((ctxOf s c).credit + (s.ticks - (ctxOf s c).tick) * r) < n * 327680 →
        Runs (.xfeBurstIssue c) s fun t => (ctxOf t c).run = some k ∧ t.regs = s.regs ∧ t.evt = s.evt ∧ t.out = s.out ∧ SameMem s t)
      ∧ (creditRate s c (fieldOf (dDw k.d 5) 31 30) = none →
        (∀ x, srcHost k.d = false → xPlace s a n = .hbm x → hbmUp s x n = true → CleanWords s .hbm x n → midWriters s .hbm x n = [] → Runs (.xfeBurstIssue c) s fun t =>
          (ctxOf t c).run = some { k with next := k.next + n, bursts := k.bursts ++ [⟨s.xfe.num, k.next, n, 0, (bytesAt ramD s.hbm x n).map fun b => ⟨0, [b], false⟩, false, 0, 0⟩] }
            ∧ t.xfe.num = s.xfe.num + 1 ∧ t.regs = s.regs ∧ t.evt = s.evt ∧ t.out = s.out ∧ SameMem s t)
        ∧ (srcHost k.d = true → mayIssue s = true → (hostSplit s n).length ≤ freeTags s → Runs (.xfeBurstIssue c) s fun t =>
          (∃ gs, gs.length = (hostSplit s n).length ∧ gs.Nodup
            ∧ t.out = s.out ++ List.zipWith (fun p g => .hostRead (a + p.1) (hostAttr s (bitOf (dDw k.d 5) 2) (bitOf (dDw k.d 5) 3)) p.2 g) (hostSplit s n) gs
            ∧ ∀ g ∈ gs, (∀ e ∈ s.pcie.np, e.1 ≠ g) ∧ (∀ e ∈ s.pcie.fenced, e.1 ≠ g)
              ∧ (tagHalf (s.fd R.PCIE_STATUS 7 6) (s.fd R.PCIE_STATUS 0 0)).1 ≤ g
              ∧ g < (tagHalf (s.fd R.PCIE_STATUS 7 6) (s.fd R.PCIE_STATUS 0 0)).1 + (tagHalf (s.fd R.PCIE_STATUS 7 6) (s.fd R.PCIE_STATUS 0 0)).2)
            ∧ (∃ x, (ctxOf t c).run = some x ∧ x.next = k.next + n) ∧ t.evt = s.evt ∧ RegsKept [R.PCIE_OUTSTANDING] s t ∧ SameMem s t)))
  ∧ (∀ (s : State) (c : Fin 4096), s.fab.inbox = [] → ((ctxOf s c).run = none ∨ ∃ k, (ctxOf s c).run = some k ∧ ∀ b ∈ k.bursts, b.landed = true ∨ b.wait ≠ 0) →
      exec (.xfeBurstLand c) s = .next s)
  ∧ (∀ (s : State) (c : Fin 4096) (k : XRun) (b : Burst) (bs : List Byte), s.domUp 0xA3 = true → s.fab.inbox = [] → (ctxOf s c).run = some k → k.bursts = [b] →
      b.landed = false → b.wait = 0 →
      (k.fail ≠ 0 → b.acks = 0 → Runs (.xfeBurstLand c) s fun t => (ctxOf t c).run = some { k with bursts := [] } ∧ t.regs = s.regs ∧ t.out = s.out ∧ SameMem s t)
      ∧ (k.fail = 0 → dMode k.d = 0 → dParam k.d = 0 → k.src.length = k.groups → burstBytes k b s = bs.map (fun x => (x, false)) → bs ≠ [] →
        (∀ y, dstHost k.d = false → xPlace s (dDst k.d + k.groups) bs.length = .hbm y → hbmUp s y bs.length = true → CleanWords s .hbm y bs.length →
          s.bit R.MEM_INJECT 31 = false → Runs (.xfeBurstLand c) s fun t => WroteAt s t .hbm y bs
            ∧ (ctxOf t c).run = some { k with src := k.src ++ bs.map (fun x => (x, false)), groups := k.groups + bs.length, done := k.done + bs.length, bursts := [] }
            ∧ t.rd64 (R.XFE_BYTES_LO c) = (s.rd64 (R.XFE_BYTES_LO c) + bs.length) % 2 ^ 64 ∧ t.evt = s.evt ∧ t.out = s.out
            ∧ RegsKept [R.XFE_BYTES_LO c, R.XFE_BYTES_HI c] s t)
        ∧ (dstHost k.d = true → bs.length ≤ maxPayload s → (dDst k.d + k.groups) % 4096 + bs.length ≤ 4096 → Runs (.xfeBurstLand c) s fun t =>
          t.out = s.out ++ [.hostWrite (dDst k.d + k.groups) (hostAttr s (bitOf (dDw k.d 5) 2) (bitOf (dDw k.d 5) 3)) bs]
            ∧ (∃ x, (ctxOf t c).run = some x ∧ x.done = k.done + bs.length ∧ x.bursts = []) ∧ t.evt = s.evt
            ∧ RegsKept [R.XFE_BYTES_LO c, R.XFE_BYTES_HI c] s t ∧ SameMem s t)))
  ∧ (∀ (s : State) (c : Fin 4096) (k : XRun), s.fab.inbox = [] → (ctxOf s c).run = some k → k.bursts ≠ [] ∨ (k.next ≠ dLen k.d ∧ k.fail = 0 ∧ k.abort = false) →
      exec (.descriptorComplete c) s = .next s)
  ∧ ∀ (s : State) (c : Fin 4096) (k : XRun), s.domUp 0xA3 = true → s.fab.inbox = [] → (ctxOf s c).run = some k → k.bursts = [] → s.bit (R.XFE_CTL c) 27 = false →
      bitOf (dDw k.d 5) 0 = false → bitOf (dDw k.d 5) 1 = false → DescSlot s c k.d.idx → s.evt.queue.length < 900 → ctxState s c = 2 → s.bit R.PCIE_STATUS 9 = false →
      let words := fun st => dwBytes [w32 (2 ^ 28 * dMode k.d + 2 ^ 24 * dParam k.d + k.done), w32 (2 ^ 24 * st + (dLen k.d - k.done)), w32 (s.now % 2 ^ 32), w32 k.d.idx]
      (k.next = dLen k.d → k.fail = 0 → k.abort = false → k.poison = false → Runs (.descriptorComplete c) s fun t =>
        WroteAt s t .hbm (descAddr s c k.d.idx + 16) (words 0) ∧ (ctxOf t c).run = none ∧ ctxState t c = 1 ∧ t.fd (R.XFE_STATE c) 15 8 = 0
          ∧ t.evt = s.evt ∧ t.out = s.out ∧ RegsKept [R.XFE_STATE c] s t)
      ∧ (k.next = dLen k.d → k.fail = 0 → k.abort = false → k.poison = true → Runs (.descriptorComplete c) s fun t =>
        WroteAt s t .hbm (descAddr s c k.d.idx + 16) (words 3) ∧ t.rd (R.XFE_ERR c) = (2 ^ 24 * 3 + k.d.idx) % 2 ^ 32 ∧ t.fd (R.XFE_STATE c) 15 8 = 3
          ∧ (if s.bit (R.XFE_CTL c) 24 then ctxState t c = 3 ∧ Raised t Ev.XFE_STOPPED c else ctxState t c = 1 ∧ t.evt = s.evt))
      ∧ (k.abort = true → Runs (.descriptorComplete c) s fun t => WroteAt s t .hbm (descAddr s c k.d.idx + 16) (words 1) ∧ ctxState t c = 3
        ∧ t.fd (R.XFE_STATE c) 27 24 = 2 ∧ Raised t Ev.XFE_STOPPED c ∧ t.rd R.XFE_IRQ_DROP = min 0xFFFFFFFF (s.rd R.XFE_IRQ_DROP + 1))

/-- The collector takes the first queued record, gives it the next SEQ and its severity, writes it to EVT_RECENT at SEQ mod 64 and sends it to the routes of its policy byte: HBM log, MSI-X, flash queue, fault latch, alert queue. A record for the HBM log while it is not writable is kept for the backlog, and written first, or counted lost, once it is. EVT_FAULT bits are cleared by a write of ones, not from PCI Express. A flash page takes up to eight queued records, a sector beginning with EVT_SECTOR; the next sector is erased ahead. A snapshot writes its period to HBM with dword 0 and changes nothing outside its 16 KiB. (25_events_faults_and_telemetry R622, 25_events_faults_and_telemetry R626, 25_events_faults_and_telemetry R627, 25_events_faults_and_telemetry R630, 25_events_faults_and_telemetry R631, 25_events_faults_and_telemetry R632, 25_events_faults_and_telemetry R634, 25_events_faults_and_telemetry R635, 25_events_faults_and_telemetry R637, 24_background_work_arbitration R619, 24_background_work_arbitration R621, 26_management_debug_and_physical_access R645) -/
def Obligations.TheCollectorRoutesRecordsAndTheLogsTakeThem : Prop :=
  (∀ s : State, s.evt.queue = [] → exec .eventCollect s = .next s)
  ∧ (∀ (s : State) (r : EvRec) (rs : List EvRec), s.evt.queue = r :: rs → r.code / 256 < 32 →
      let p := policyByte s r.code
      let sev := p / 64 % 4
      let ds := evDws r sev s.evt.seq s.evt.loss
      Runs .eventCollect s fun t => t.evt.seq = (s.evt.seq + 1) % 65536 ∧ (∀ i < 8, t.rd (R.EVT_RECENT (8 * (s.evt.seq % 64) + i)) = (ds.getD i 0).toNat)
        ∧ (∀ o, o < 0x2800000 ∨ 0x2801800 ≤ o → (∀ k, o ≠ R.MEM_S_CE k ∧ o ≠ R.MEM_S_UE k) → o ∉ [R.MGMT_ALERT, R.MEM_CE_TOTAL, R.MEM_UE_TOTAL, R.MEM_LAST_UE_LO,
          R.MEM_LAST_UE_HI, R.MEM_LAST_UE_INFO, R.MEM_INJECT] → t.rd o = s.rd o)
        ∧ (t.rd R.EVT_FAULT = if bitOf p 3 then Nat.lor (s.rd R.EVT_FAULT) (2 ^ (r.code / 256)) else s.rd R.EVT_FAULT)
        ∧ (bitOf p 3 = true → t.bit R.EVT_STATUS 31 = true)
        ∧ (if bitOf p 2 then (if s.evt.flashQ.length < 512 then t.evt.flashQ = s.evt.flashQ ++ [ds] ∧ t.rd R.EVT_NVM_DROP = s.rd R.EVT_NVM_DROP
            else t.evt.flashQ = s.evt.flashQ ∧ t.rd R.EVT_NVM_DROP = min 0xFFFFFFFF (s.rd R.EVT_NVM_DROP + 1))
          else t.evt.flashQ = s.evt.flashQ)
        ∧ (if bitOf p 4 then (if s.evt.alerts.length < 16 then t.evt.alerts = s.evt.alerts ++ [s.evt.seq] ∧ t.pins.smbAlert = true
            else t.evt.alerts = s.evt.alerts ∧ (r.code ≠ Ev.ALERT_OVERFLOW → t.bit R.MGMT_ALERT 31 = true))
          else t.evt.alerts = s.evt.alerts ∧ t.pins = s.pins)
        ∧ (bitOf p 1 = false → t.out = s.out ∧ t.rd R.EVT_IRQ_DROP = s.rd R.EVT_IRQ_DROP)
        ∧ (bitOf p 1 = true → s.pins.perstHigh = true → s.bit R.PCIE_STATUS 3 = false → s.bit R.PCIE_STATUS 9 = true → msixClear s (evVector s sev) = true →
          evVector s sev ∉ s.pcie.pend → t.out = s.out ++ [.msix (evVector s sev)])
        ∧ (bitOf p 1 = true → s.bit R.PCIE_STATUS 9 = false → t.out = s.out ∧ t.rd R.EVT_IRQ_DROP = min 0xFFFFFFFF (s.rd R.EVT_IRQ_DROP + 1))
        ∧ (bitOf p 0 = false → t.hbm = s.hbm ∧ t.rd R.EVT_HBM_WR = s.rd R.EVT_HBM_WR ∧ t.evt.unwritten = s.evt.unwritten)
        ∧ (bitOf p 0 = true → logOn s = false → t.hbm = s.hbm ∧ t.evt.unwritten = s.evt.unwritten ++ [s.evt.seq])
        ∧ (bitOf p 0 = true → logOn s = true → s.evt.unwritten = [] → s.hbmEcc = [] → s.bit R.MEM_INJECT 31 = false →
          WroteAt s t .hbm (logAddr s) (dwBytes ds) ∧ t.rd R.EVT_HBM_WR = (s.rd R.EVT_HBM_WR + 1) % 2 ^ 32
            ∧ (if s.rd R.EVT_HBM_WR ≠ s.rd R.EVT_HBM_RD ∧ (s.rd R.EVT_HBM_WR + 2 ^ 32 - s.rd R.EVT_HBM_RD) % 2 ^ logSize s = 0
              then t.rd R.EVT_HBM_RD = (s.rd R.EVT_HBM_RD + 1) % 2 ^ 32 ∧ t.rd R.EVT_HBM_LOST = min 0xFFFFFFFF (s.rd R.EVT_HBM_LOST + 1)
              else t.rd R.EVT_HBM_RD = s.rd R.EVT_HBM_RD ∧ t.rd R.EVT_HBM_LOST = s.rd R.EVT_HBM_LOST)))
  ∧ (∀ s : State, logOn s = false → exec .hbmLogBacklog s = .next s)
  ∧ (∀ (s : State) (q : Nat), logOn s = true → s.evt.unwritten = [q] → s.hbmEcc = [] → s.bit R.MEM_INJECT 31 = false →
      ((s.evt.seq + 65536 - q) % 65536 ≤ 64 → Runs .hbmLogBacklog s fun t => WroteAt s t .hbm (logAddr s) (dwBytes (recentDws s q)) ∧ t.evt.unwritten = []
        ∧ t.rd R.EVT_HBM_WR = (s.rd R.EVT_HBM_WR + 1) % 2 ^ 32 ∧ t.out = s.out ∧ RegsKept [R.EVT_HBM_WR, R.EVT_HBM_RD, R.EVT_HBM_LOST] s t)
      ∧ (64 < (s.evt.seq + 65536 - q) % 65536 → Runs .hbmLogBacklog s fun t => t.rd R.EVT_HBM_LOST = min 0xFFFFFFFF (s.rd R.EVT_HBM_LOST + 1)
        ∧ t.evt.unwritten = [] ∧ t.out = s.out ∧ RegsKept [R.EVT_HBM_LOST] s t ∧ SameMem s t))
  ∧ (∀ (s : State) (p : Path) (v : Word), Reaches p s → hostLike p = false → Runs (.evtFaultClear p v) s fun t =>
      t.rd R.EVT_FAULT = s.rd R.EVT_FAULT - Nat.land (s.rd R.EVT_FAULT) v.toNat
        ∧ (t.bit R.EVT_STATUS 31 = true ↔ t.rd R.EVT_FAULT ≠ 0 ∨ s.bit R.EVT_STATUS 30 = true) ∧ t.evt = s.evt ∧ t.out = s.out
        ∧ RegsKept [R.EVT_FAULT, R.EVT_STATUS] s t ∧ SameMem s t)
  ∧ (∀ (s : State) (p : Path) (v : Word), Reaches p s → hostLike p = true → RoomFor s → Runs (.evtFaultClear p v) s fun t =>
      Raised t Ev.EVT_DENIED 0 ∧ RegsKept [] s t ∧ SameMem s t)
  ∧ (∀ s : State, nvmMay s = false ∨ s.evt.flashQ = [] ∨ pageBlank s = false → exec .flashLogWrite s = .next s)
  ∧ (∀ s : State, nvmMay s = true → s.evt.flashQ ≠ [] → pageBlank s = true → nvmSlot s ≠ 0 → Runs .flashLogWrite s fun t =>
      t.boot.flash = some (.logPage (nvmSector s) (nvmSlot s) (s.evt.flashQ.take 8)) ∧ t.evt.flashQ = s.evt.flashQ.drop 8
        ∧ t.evt.queue = s.evt.queue ∧ t.out = s.out ∧ RegsKept [R.EVT_STATUS] s t ∧ SameMem s t)
  ∧ (∀ s : State, nvmMay s = true → s.evt.flashQ ≠ [] → pageBlank s = true → nvmSlot s = 0 → Runs .flashLogWrite s fun t =>
      ∃ ds recs, t.boot.flash = some (.logPage (nvmSector s) 0 (ds :: recs)) ∧ recs.length = 7 ∧ (ds.getD 2 0).toNat / 65536 = Ev.EVT_SECTOR
        ∧ t.evt.flashQ.length = s.evt.flashQ.length + 31 ∧ t.evt.seq = (s.evt.seq + 39) % 65536)
  ∧ (∀ s : State, nvmMay s = false ∨ s.boot.session.isSome = true ∨ nvmSlot s = 0 ∨ flashBlank s (logSector ((nvmSector s + 1) % 256)) 65536 = true →
      exec .flashLogErase s = .next s)
  ∧ (∀ s : State, nvmMay s = true → s.boot.session = none → nvmSlot s ≠ 0 → flashBlank s (logSector ((nvmSector s + 1) % 256)) 65536 = false →
      Runs .flashLogErase s fun t => t.boot.flash = some (.logErase ((nvmSector s + 1) % 256)) ∧ t.evt = s.evt ∧ t.out = s.out ∧ RegsKept [] s t ∧ SameMem s t)
  ∧ (∀ s : State, s.evt.snap = none ∨ s.bit R.EVT_TEL_CTL 31 = false → exec .telemetrySnapshot s = .next s)
  ∧ ∀ (s : State) (period frames : Nat), s.evt.snap = some (period, frames) → s.bit R.EVT_TEL_CTL 31 = true → (∀ k < 8, s.domUp (0x90 + k) = true) →
      s.hbmEcc = [] → s.bit R.MEM_INJECT 31 = false →
      let a := s.rd64 R.EVT_TEL_BASE_LO + 16384 * (period % 2)
      a + 16384 ≤ hbmSize → Runs .telemetrySnapshot s fun t => t.rd R.EVT_TEL_LAST = period % 2 ^ 32 ∧ t.evt.snap = none
        ∧ bytesAt ramD t.hbm a 8 = natToBytes 4 (period % 2 ^ 32) ++ natToBytes 4 (frames % 2 ^ 32)
        ∧ bytesAt ramD t.hbm (a + 64) 4 = natToBytes 4 (s.rd R.PWR_PKG_MEAS)
        ∧ (∀ x < 3072, bytesAt ramD t.hbm (a + 4096 + 4 * x) 4 = natToBytes 4 (smGet (fun _ => (0 : Word)) s.proof.telem x).toNat)
        ∧ (∀ x, x < a ∨ a + 16384 ≤ x → smGet ramD t.hbm x = smGet ramD s.hbm x) ∧ t.evt.queue = s.evt.queue ∧ t.out = s.out
        ∧ RegsKept [R.EVT_TEL_LAST] s t ∧ (∀ x, smGet ramD t.vel x = smGet ramD s.vel x)

/-- SMBus commands act from 2 ms after PWROK has risen and do nothing before. SET_ADDR sets the pointer; READ and WRITE move it and reach BAR0, HBM or Vellum, a misaligned BAR0 access giving zeros or nothing with BAD_ACC, an unmapped one UNMAPPED, a bad word zeros and POISON. A PEC that does not match is NACKed, and a missing one with PEC_REQ discards the write, both with SMB_PEC_ERROR. STATUS, CHIP_ID, CLEAR_ERR and ALERT_POP answer as Table 26.1 says. An alert response releases an asserted SMB_ALERT_N, and it is asserted again 1 ms later if the queue is not empty. A keyed fuse command from SMBus or JTAG programs the lowest free slot or the key hash, or is refused with its result; from another path it raises MGMT_DENIED. (26_management_debug_and_physical_access R640, 26_management_debug_and_physical_access R641, 26_management_debug_and_physical_access R642, 26_management_debug_and_physical_access R643, 26_management_debug_and_physical_access R645, 26_management_debug_and_physical_access R646, 26_management_debug_and_physical_access R647, 26_management_debug_and_physical_access R648, 26_management_debug_and_physical_access R649, 26_management_debug_and_physical_access R650, 28_electrical_and_optical_characteristics R679) -/
def Obligations.SmbusCommandsPecAlertsAndFuses : Prop :=
  (∀ (s : State) (c : Instr), smbLive s = false → (∃ x a p, c = .setAddr x a p) ∨ (∃ n p, c = .smbRead n p) ∨ (∃ b p, c = .smbWrite b p) ∨ c = .smbStatus
      ∨ c = .alertPop ∨ (∃ p, c = .clearErr p) ∨ c = .chipId ∨ c = .alertReassert ∨ c = .alertResponse → exec c s = .next s)
  ∧ (∀ (s : State) (x : Byte) (a : BitVec 40) (p : Pec), smbLive s = true → p = .good ∨ (p = .none ∧ s.bit R.MGMT_SMB_CFG 8 = false) →
      (Runs (.setAddr x a p) s fun t => t.mgmt.space = x.toNat ∧ t.mgmt.addr = a.toNat ∧ t.regs = s.regs ∧ t.evt = s.evt ∧ t.out = s.out ∧ SameMem s t)
      ∧ (Runs (.clearErr p) s fun t => t.fd R.MGMT_STATUS 3 0 = 0 ∧ t.evt = s.evt ∧ t.out = s.out ∧ RegsKept [R.MGMT_STATUS] s t ∧ SameMem s t))
  ∧ (∀ (s : State) (x : Byte) (a : BitVec 40) (p : Pec) (b : List Byte) (c : Instr), smbLive s = true → RoomFor s → p = .bad ∨ (p = .none ∧ s.bit R.MGMT_SMB_CFG 8 = true) →
      0 < b.length → b.length ≤ 252 → c = .setAddr x a p ∨ c = .clearErr p ∨ c = .smbWrite b p → Runs c s fun t => t.fd R.MGMT_STATUS 3 0 = 4
        ∧ t.fd R.MGMT_SMB_ERR 31 24 = min 0xFF (s.fd R.MGMT_SMB_ERR 31 24 + 1) ∧ Raised t Ev.SMB_PEC_ERROR 0 ∧ t.mgmt = s.mgmt
        ∧ t.out = s.out ++ (if p = .bad then [.smbNack] else []) ∧ RegsKept [R.MGMT_STATUS, R.MGMT_SMB_ERR] s t ∧ SameMem s t)
  ∧ (∀ (s : State) (n : Byte) (p : Pec), smbLive s = true → p ≠ .bad → n = 0 ∨ 252 < n.toNat → exec (.smbRead n p) s = .next (s.emit .smbNack))
  ∧ (∀ (s : State) (n : Byte) (p : Pec), smbLive s = true → p ≠ .bad → 0 < n.toNat → n.toNat ≤ 252 →
      let a := s.mgmt.addr
      (s.mgmt.space = 0 → a % 4 ≠ 0 ∨ n.toNat % 4 ≠ 0 → Runs (.smbRead n p) s fun t => t.out = s.out ++ [.smbus (List.replicate n.toNat 0)]
        ∧ t.fd R.MGMT_STATUS 3 0 = 1 ∧ t.fd R.MGMT_SMB_ERR 23 16 = min 0xFF (s.fd R.MGMT_SMB_ERR 23 16 + 1) ∧ t.mgmt.addr = (a + n.toNat) % 2 ^ 40
        ∧ t.evt = s.evt ∧ RegsKept [R.MGMT_STATUS, R.MGMT_SMB_ERR] s t ∧ SameMem s t)
      ∧ (s.mgmt.space = 0 → a % 4 = 0 → n.toNat = 4 → a + 4 ≤ 0x4000000 → Runs (.smbRead n p) s fun t =>
        t.out = s.out ++ [.smbus (natToBytes 4 (regRead .smbus a s).1)] ∧ t.regs = (regRead .smbus a s).2.regs ∧ t.mgmt.addr = (a + 4) % 2 ^ 40
          ∧ t.evt = s.evt ∧ SameMem s t)
      ∧ (s.mgmt.space = 1 ∧ hbmSize < a + n.toNat ∨ 2 < s.mgmt.space → Runs (.smbRead n p) s fun t => t.out = s.out ++ [.smbus (List.replicate n.toNat 0)]
        ∧ t.fd R.MGMT_STATUS 3 0 = 3 ∧ t.evt = s.evt ∧ RegsKept [R.MGMT_STATUS, R.MGMT_SMB_ERR] s t ∧ SameMem s t)
      ∧ (s.mgmt.space = 1 → a + n.toNat ≤ hbmSize → (∀ k ∈ stacksAt a n.toNat, s.domUp (0x90 + k) = true) → CleanWords s .hbm a n.toNat → Runs (.smbRead n p) s fun t =>
        t.out = s.out ++ [.smbus (bytesAt ramD s.hbm a n.toNat)] ∧ t.mgmt.addr = (a + n.toNat) % 2 ^ 40 ∧ t.regs = s.regs ∧ t.evt = s.evt ∧ SameMem s t)
      ∧ (s.mgmt.space = 1 → a % 8 = 0 → n = 8 → a + 8 ≤ hbmSize → (∀ k ∈ stacksAt a 8, s.domUp (0x90 + k) = true) → ramSyn s .hbm (a / 8) = 3 →
        Runs (.smbRead n p) s fun t => t.out = s.out ++ [.smbus (List.replicate 8 0)] ∧ t.fd R.MGMT_STATUS 3 0 = 2 ∧ SameMem s t))
  ∧ (∀ (s : State) (b : List Byte) (p : Pec), smbLive s = true → p = .good → 0 < b.length → b.length ≤ 252 →
      let a := s.mgmt.addr
      (s.mgmt.space = 0 → s.rst.chip = false → a % 4 ≠ 0 ∨ b.length % 4 ≠ 0 → Runs (.smbWrite b p) s fun t => t.fd R.MGMT_STATUS 3 0 = 1
        ∧ t.mgmt.addr = (a + b.length) % 2 ^ 40 ∧ t.evt = s.evt ∧ t.out = s.out ∧ RegsKept [R.MGMT_STATUS, R.MGMT_SMB_ERR] s t ∧ SameMem s t)
      ∧ (∀ v : Word, s.mgmt.space = 0 → s.rst.chip = false → a = R.GLB_SCRATCH → b = natToBytes 4 v.toNat → s.fab.inbox = [] → Runs (.smbWrite b p) s fun t =>
        t.rd (R.GLB_SCRATCH) = v.toNat ∧ t.mgmt.addr = (a + 4) % 2 ^ 40 ∧ t.evt = s.evt ∧ t.out = s.out ∧ RegsKept [R.GLB_SCRATCH] s t ∧ SameMem s t)
      ∧ (s.mgmt.space = 1 → a + b.length ≤ hbmSize → (∀ k ∈ stacksAt a b.length, s.domUp (0x90 + k) = true) → CleanWords s .hbm a b.length →
        s.bit R.MEM_INJECT 31 = false → Runs (.smbWrite b p) s fun t => WroteAt s t .hbm a b ∧ t.mgmt.addr = (a + b.length) % 2 ^ 40 ∧ t.evt = s.evt
          ∧ t.out = s.out ∧ RegsKept [] s t))
  ∧ (∀ s : State, smbLive s = true → exec .smbStatus s = .next (s.emit (.smbus (natToBytes 2 (smbStatusWord s)))))
  ∧ (∀ s : State, smbLive s = true → exec .chipId s = .next (s.emit (.smbus (natToBytes 4 (s.rd R.GLB_PART) ++ natToBytes 4 (s.rd R.GLB_CHIP)))))
  ∧ (∀ s : State, smbLive s = true → s.evt.alerts = [] → Runs .alertPop s fun t => (∃ x y, t.out = s.out ++ [.smbus [0, x, y]]) ∧ t.regs = s.regs
      ∧ t.evt = s.evt ∧ SameMem s t)
  ∧ (∀ (s : State) (q : Nat) (qs : List Nat), smbLive s = true → s.evt.alerts = q :: qs → qs.length < 16 → Runs .alertPop s fun t =>
      t.out = s.out ++ [.smbus (1 :: natToBytes 2 q)] ∧ t.evt.alerts = qs ∧ t.fd R.MGMT_ALERT 20 16 = qs.length
        ∧ (qs = [] → t.pins.smbAlert = false ∧ t.bit R.MGMT_ALERT 31 = false) ∧ t.evt.queue = s.evt.queue ∧ RegsKept [R.MGMT_ALERT] s t ∧ SameMem s t)
  ∧ (∀ s : State, s.pins.smbAlert = false → exec .alertResponse s = .next s)
  ∧ (∀ s : State, smbLive s = true → s.pins.smbAlert = true → Runs .alertResponse s fun t => t.pins = { s.pins with smbAlert := false }
      ∧ t.mgmt = { s.mgmt with ara := s.ticks + 1600000 } ∧ t.regs = s.regs ∧ t.evt = s.evt ∧ t.out = s.out ∧ SameMem s t)
  ∧ (∀ s : State, smbLive s = true → s.evt.alerts ≠ [] → s.mgmt.ara ≤ s.ticks → Runs .alertReassert s fun t => t.pins.smbAlert = true ∧ t.regs = s.regs ∧ t.evt = s.evt
      ∧ t.out = s.out ∧ SameMem s t)
  ∧ (∀ s : State, s.evt.alerts = [] ∨ s.ticks < s.mgmt.ara → exec .alertReassert s = .next s)
  ∧ (∀ s : State, exec .smbusTimeout s = .next s)
  ∧ (∀ (s : State) (p : Path) (v : Word) (c : Instr), Reaches p s → c = .fuseProgramChip p v ∨ c = .fuseProgramKeyHash p v →
      (mayFuse p = false → RoomFor s → Runs c s fun t => Raised t Ev.MGMT_DENIED 0 ∧ t.mgmt = s.mgmt ∧ t.fuses = s.fuses ∧ RegsKept [] s t ∧ SameMem s t)
      ∧ (mayFuse p = true → s.mgmt.fuse.isSome = true ∨ v.toNat / 65536 ≠ 0x5AF0 → exec c s = .next s))
  ∧ (∀ (s : State) (p : Path), Reaches p s → mayFuse p = true → s.mgmt.fuse = none →
      (s.fuses.chips.length < 4 → Runs (.fuseProgramChip p 0x5AF00001) s fun t => t.mgmt.fuse = some (1, s.fd R.MGMT_FUSE_CHIP 13 0)
        ∧ t.bit R.MGMT_FUSE_STATUS 31 = true ∧ t.fuses = s.fuses ∧ t.evt = s.evt ∧ t.out = s.out ∧ RegsKept [R.MGMT_FUSE_STATUS] s t ∧ SameMem s t)
      ∧ (4 ≤ s.fuses.chips.length → RoomFor s → Runs (.fuseProgramChip p 0x5AF00001) s fun t => t.fd R.MGMT_FUSE_STATUS 27 24 = 1 ∧ Raised t Ev.FUSE_FAIL 1
        ∧ t.mgmt = s.mgmt ∧ t.fuses = s.fuses ∧ RegsKept [R.MGMT_FUSE_STATUS] s t ∧ SameMem s t)
      ∧ (s.fuses.keyHash ≠ 0 → RoomFor s → Runs (.fuseProgramKeyHash p 0x5AF00002) s fun t => t.fd R.MGMT_FUSE_STATUS 27 24 = 2 ∧ Raised t Ev.FUSE_FAIL 2
        ∧ t.fuses = s.fuses ∧ RegsKept [R.MGMT_FUSE_STATUS] s t ∧ SameMem s t)
      ∧ (s.fuses.keyHash = 0 → fuseHash s = 0 → RoomFor s → Runs (.fuseProgramKeyHash p 0x5AF00002) s fun t => t.fd R.MGMT_FUSE_STATUS 27 24 = 3
        ∧ Raised t Ev.FUSE_FAIL 2 ∧ t.fuses = s.fuses ∧ RegsKept [R.MGMT_FUSE_STATUS] s t ∧ SameMem s t)
      ∧ (s.fuses.keyHash = 0 → fuseHash s ≠ 0 → Runs (.fuseProgramKeyHash p 0x5AF00002) s fun t => t.mgmt.fuse = some (2, fuseHash s)
        ∧ t.bit R.MGMT_FUSE_STATUS 31 = true ∧ t.fuses = s.fuses ∧ t.evt = s.evt ∧ t.out = s.out ∧ RegsKept [R.MGMT_FUSE_STATUS] s t ∧ SameMem s t))
  ∧ (∀ (s : State) (ok : Bool), s.mgmt.fuse = none → exec (.fuseOpDone ok) s = .next s)
  ∧ ∀ (s : State) (v : Nat), RoomFor s →
      (s.mgmt.fuse = some (1, v) → Runs (.fuseOpDone true) s fun t => t.fuses.chips = s.fuses.chips ++ [BitVec.ofNat 14 v] ∧ t.fuses.keyHash = s.fuses.keyHash
        ∧ t.fuses.rollback = s.fuses.rollback ∧ t.mgmt.fuse = none ∧ t.rd R.MGMT_FUSE_STATUS = 0 ∧ Raised t Ev.FUSE_PROGRAMMED 1 ∧ t.chip = s.chip
        ∧ RegsKept [R.MGMT_FUSE_STATUS] s t ∧ SameMem s t)
      ∧ (s.mgmt.fuse = some (2, v) → Runs (.fuseOpDone true) s fun t => t.fuses = { s.fuses with keyHash := BitVec.ofNat 384 v } ∧ t.mgmt.fuse = none
        ∧ t.rd R.MGMT_FUSE_STATUS = 0 ∧ Raised t Ev.FUSE_PROGRAMMED 2 ∧ RegsKept [R.MGMT_FUSE_STATUS] s t ∧ SameMem s t)
      ∧ (∀ op, s.mgmt.fuse = some (op, v) → Runs (.fuseOpDone false) s fun t => t.mgmt.fuse = none ∧ t.fd R.MGMT_FUSE_STATUS 27 24 = 4 ∧ Raised t Ev.FUSE_FAIL op
        ∧ t.fuses.rollback = s.fuses.rollback ∧ RegsKept [R.MGMT_FUSE_STATUS] s t ∧ SameMem s t)

/-- IDCODE shifts out 0xB160_84E3 and BYPASS one bit in every package. With CFG_OPEN 0 every other instruction acts as BYPASS. With CFG_OPEN 1 SAMPLE/PRELOAD is selected, EXTEST takes the package into the chip reset it holds and raises EXTEST_ENTRY, the first ACCESS or SCRIBE raises DEBUG_OPEN, ACCESS reads or writes and leaves STATUS and DATA for the next capture, and SCRIBE halts, resumes and steps a Scribe and reaches its core registers while it is halted. TAP_RESET ends any instruction. (26_management_debug_and_physical_access R651, 26_management_debug_and_physical_access R652, 26_management_debug_and_physical_access R653, 26_management_debug_and_physical_access R654, 00_scope R693) -/
def Obligations.JtagInstructionsActAsTheStrapAllows : Prop :=
  (∀ s : State, Runs .idcode s fun t => t.out = s.out ++ [.tdo 32 0xB16084E3] ∧ t.mgmt.ir = 1 ∧ t.regs = s.regs ∧ t.evt = s.evt ∧ SameMem s t)
  ∧ (∀ s : State, Runs .bypass s fun t => t.out = s.out ++ [.tdo 1 0] ∧ t.mgmt.ir = 0xFF ∧ t.regs = s.regs ∧ t.evt = s.evt ∧ SameMem s t)
  ∧ (∀ s : State, Runs .tapReset s fun t => t.mgmt = { s.mgmt with ir := 1 } ∧ t.regs = s.regs ∧ t.evt = s.evt ∧ t.out = s.out ∧ SameMem s t)
  ∧ (∀ (s : State) (c : Instr) (x o : BitVec 2) (a : BitVec 40) (d : Word) (u : Scribe) (g : BitVec 4), s.pins.cfgOpen = false →
      c ∈ [.samplePreload, .extest, .jtagAccess x a o d, .scribeStatusCmd u, .scribeHalt u, .scribeResume u, .scribeStep u, .scribeReadCoreRegister u g,
        .scribeWriteCoreRegister u g d] → exec c s = exec .bypass s)
  ∧ (∀ s : State, s.pins.cfgOpen = true → Runs .samplePreload s fun t => t.mgmt.ir = 2 ∧ t.regs = s.regs ∧ t.evt = s.evt ∧ t.out = s.out ∧ SameMem s t)
  ∧ (∀ s : State, s.pins.cfgOpen = true → s.mgmt.ir = 3 → exec .extest s = .next s)
  ∧ (∀ s : State, s.pins.cfgOpen = true → s.mgmt.ir ≠ 3 → s.rst.chip = false → s.rst.por = false → s.evt.queue.length < 900 → Runs .extest s fun t =>
      t.mgmt.ir = 3 ∧ t.rst.chip = true ∧ Raised t Ev.EXTEST_ENTRY 0 ∧ t.bit R.RST_CAUSE 3 = true
        ∧ exec .chipResetRelease t = .next t ∧ (∀ x, smGet ramD t.hbm x = smGet ramD s.hbm x))
  ∧ (∀ (s : State) (x o : BitVec 2) (a : BitVec 40) (d : Word), s.pins.cfgOpen = true → s.bit R.MGMT_STATUS 30 = true →
      (o = 0 ∨ o = 3 → Runs (.jtagAccess x a o d) s fun t => t.mgmt.result = s.mgmt.result ∧ t.mgmt.ir = 0x10 ∧ t.regs = s.regs ∧ t.evt = s.evt ∧ SameMem s t
        ∧ ∃ f, f < 2 ^ 44 ∧ t.out = s.out ++ [.tdo 80 (s.mgmt.result.2.toNat + 2 ^ 32 * f + 2 ^ 76 * s.mgmt.result.1)])
      ∧ (x = 0 → o = 1 ∨ (o = 2 ∧ s.rst.chip = false) → a.toNat % 4 ≠ 0 → Runs (.jtagAccess x a o d) s fun t => t.mgmt.result.1 = 4 ∧ t.regs = s.regs ∧ t.evt = s.evt ∧ SameMem s t)
      ∧ (x = 0 → a.toNat % 4 = 0 → a.toNat + 4 ≤ 0x4000000 → s.mgmt.ir ≠ 3 → Runs (.jtagAccess x a 1 d) s fun t => t.mgmt.result = (0, w32 (regRead .jtag a.toNat s).1)
        ∧ t.regs = (regRead .jtag a.toNat s).2.regs ∧ t.evt = s.evt ∧ SameMem s t)
      ∧ (x = 0 → a.toNat = R.GLB_SCRATCH → s.rst.chip = false → s.fab.inbox = [] → Runs (.jtagAccess x a 2 d) s fun t => t.mgmt.result = (0, d)
        ∧ t.rd (R.GLB_SCRATCH) = d.toNat ∧ t.evt = s.evt ∧ RegsKept [R.GLB_SCRATCH] s t ∧ SameMem s t)
      ∧ (x = 1 → hbmSize < a.toNat + 4 ∨ x = 3 → o = 1 ∨ o = 2 → Runs (.jtagAccess x a o d) s fun t => t.mgmt.result.1 = 3 ∧ t.regs = s.regs ∧ SameMem s t)
      ∧ (x = 1 → a.toNat + 4 ≤ hbmSize → (∀ k ∈ stacksAt a.toNat 4, s.domUp (0x90 + k) = true) → CleanWords s .hbm a.toNat 4 → s.bit R.MEM_INJECT 31 = false →
        (Runs (.jtagAccess x a 1 d) s fun t => t.mgmt.result = (0, w32 (bytesToNat (bytesAt ramD s.hbm a.toNat 4))) ∧ t.regs = s.regs ∧ SameMem s t)
        ∧ (Runs (.jtagAccess x a 2 d) s fun t => t.mgmt.result = (0, d) ∧ WroteAt s t .hbm a.toNat (natToBytes 4 d.toNat) ∧ RegsKept [] s t)))
  ∧ (∀ (s : State) (u : Scribe) (c : Instr), s.pins.cfgOpen = true → s.bit R.MGMT_STATUS 30 = false → RoomFor s → c = .scribeStatusCmd u ∨ c = .scribeResume u →
      Runs c s fun t => Raised t Ev.DEBUG_OPEN 0 ∧ t.bit R.MGMT_STATUS 30 = true ∧ t.mgmt.ir = 0x12 ∧ RegsKept [R.MGMT_STATUS] s t ∧ SameMem s t)
  ∧ ∀ (s : State) (u : Scribe) (g : BitVec 4) (v : Word), s.pins.cfgOpen = true → s.bit R.MGMT_STATUS 30 = true →
      (Runs (.scribeStatusCmd u) s fun t => (∃ w : Word, t.out = s.out ++ [.tdo 40 (2 ^ 39 * unitNo u + w.toNat)]) ∧ t.regs = s.regs ∧ t.evt = s.evt ∧ t.scr = s.scr ∧ SameMem s t)
      ∧ (s.domUp (0xA0 + unitNo u) = true → Runs (.scribeHalt u) s fun t => t.scr.halted.contains (unitNo u) = true ∧ t.regs = s.regs ∧ t.evt = s.evt ∧ t.out = s.out ∧ SameMem s t)
      ∧ (Runs (.scribeResume u) s fun t => t.scr.halted = s.scr.halted.filter (· != unitNo u) ∧ t.scr.core = s.scr.core ∧ t.regs = s.regs ∧ t.evt = s.evt
        ∧ t.out = s.out ∧ SameMem s t)
      ∧ (Runs (.scribeStep u) s fun t => t.scr.halted = s.scr.halted ∧ t.regs = s.regs ∧ t.evt = s.evt ∧ t.out = s.out ∧ SameMem s t)
      ∧ (s.scr.halted.contains (unitNo u) = true →
        (Runs (.scribeReadCoreRegister u g) s fun t => t.out = s.out ++ [.tdo 40 (2 ^ 39 * unitNo u + 2 ^ 36 * 4 + 2 ^ 32 * g.toNat
            + (smGet (fun _ => (0 : Word)) s.scr.core (256 * unitNo u + g.toNat)).toNat)] ∧ t.scr = s.scr ∧ t.regs = s.regs ∧ t.evt = s.evt ∧ SameMem s t)
        ∧ (Runs (.scribeWriteCoreRegister u g v) s fun t => (∀ k, smGet (fun _ => (0 : Word)) t.scr.core k =
            if k = 256 * unitNo u + g.toNat then v else smGet (fun _ => (0 : Word)) s.scr.core k) ∧ t.regs = s.regs ∧ t.evt = s.evt ∧ t.out = s.out ∧ SameMem s t))
      ∧ (s.scr.halted.contains (unitNo u) = false →
        (Runs (.scribeReadCoreRegister u g) s fun t => (∃ w : Word, t.out = s.out ++ [.tdo 40 (2 ^ 39 * unitNo u + 2 ^ 36 * 4 + 2 ^ 32 * g.toNat + w.toNat)])
          ∧ t.scr = s.scr ∧ t.regs = s.regs ∧ SameMem s t)
        ∧ (Runs (.scribeWriteCoreRegister u g v) s fun t => t.scr = s.scr ∧ t.regs = s.regs ∧ t.evt = s.evt ∧ t.out = s.out ∧ SameMem s t))

/-- For every command and state with that command at the front of the queue, step is exec of the command on the state with the rest of the queue. With an empty queue step goes on one tick (the model's choice, log 1): while the power-on reset holds only the count of ticks goes up by one; otherwise, where no ticket runs, no lane sends, no apply is under way, the boot waits for no dark capture, the fabric's inbox is empty and no µs ends, CT and the count of ticks go up by one, at a frame boundary the frame count too and in holdover CLK_HOLD_FRAMES, and nothing else changes. (04_cluster_time R104, 95_what_each_step_holds) -/
def Obligations.StepRunsTheFrontCommand : Prop :=
  (∀ (s : State) (c : Instr) (q : List Instr), s.pending = c :: q → step s = exec c { s with pending := q })
  ∧ (∀ s : State, s.pending = [] → s.rst.por = true → step s = .next { s with ticks := s.ticks + 1 })
  ∧ ∀ s : State, s.pending = [] → s.rst.por = false → (∀ e ∈ s.tkt.rings, e.2.run = []) → (∀ p < 16, ∀ n < 18, sends s p n = false) → s.repl.app = none →
      s.top ≠ 3 ∨ s.boot.photo ≠ 1 → s.fab.inbox = [] → (s.ticks + 1) % 1600 ≠ 0 →
      ((s.ct + 1).toNat % 8000 ≠ 0 → step s = .next { s with ct := s.ct + 1, ticks := s.ticks + 1 })
      ∧ ((s.ct + 1).toNat % 8000 = 0 → ∃ t, step s = .next t ∧ t.ct = s.ct + 1 ∧ t.ticks = s.ticks + 1 ∧ t.pending = [] ∧ t.proof.frame = s.proof.frame + 1
        ∧ t.proof.outs = s.proof.outs ∧ t.rd R.CLK_HOLD_FRAMES = (if s.fd R.CLK_STATUS 2 1 = 2 then min 0xFFFFFFFF (s.rd R.CLK_HOLD_FRAMES + 1)
          else s.rd R.CLK_HOLD_FRAMES) ∧ t.evt = s.evt ∧ t.out = s.out ∧ RegsKept [R.CLK_HOLD_FRAMES] s t ∧ SameMem s t)

/-- After a power-on reset the register table, HBM and Vellum with their check bits, the flash and the latches of the access paths lie in their one canonical form with nothing listed but what the straps give, and no command waits. (03_clocks_and_resets R93, 00_scope R9, 27_address_map_and_register_index R664) -/
def Obligations.ResetHasItsTablesCanonical : Prop :=
  Tables State.reset ∧ State.reset.pending = [] ∧ (∀ a, smGet ramD State.reset.hbm a = 0) ∧ (∀ a, smGet flashD State.reset.flash a = 0xFF)
    ∧ ∀ p, latchOf State.reset p = 0

/-- From every state, each command whose lists have the lengths the spec gives them answers a next state, and one whose lists have not is the fault the model names (the model's choice, log 13): no command is refused. (95_what_each_step_holds, 12_lanes_and_links R325, 08_proof_array_and_pipeline R220, 17_sunduafen_fabric_protocol R443, 17_sunduafen_fabric_protocol R446, 22_pcie_function R563) -/
def Obligations.EveryWellFormedCommandRuns : Prop :=
  ∀ (c : Instr) (s : State), (c.wellFormed = true → ∃ t, exec c s = .next t) ∧ (c.wellFormed = false → exec c s = .fault .illFormed)

/-- From every state whose register table, HBM and Vellum with their check bits, flash and path latches lie in canonical form (keys strictly rising, no entry equal to what an unlisted key reads as), every step that answers a next state answers one in which they do. (27_address_map_and_register_index R664, 21_memory_and_scrub R549, 95_what_each_step_holds) -/
def Obligations.EveryStepKeepsTheTables : Prop :=
  ∀ s t : State, Tables s → step s = .next t → Tables t
end

