-- ==== Sys2Proof/Laws/SMap.lean ====
section
/-! SUPPORT. Sparse tables: what is read after a write, and that every operation keeps the canonical form. -/

namespace Sys2Proof.Machine

variable {α : Type}

theorem smRising_mono {b c : Nat} {m : SMap α} (h : smRising c m = true) (hb : b ≤ c) : smRising b m = true := by
  cases m with
  | nil => rfl
  | cons p m =>
    simp only [smRising, Bool.and_eq_true, decide_eq_true_eq] at h ⊢
    exact ⟨by omega, h.2⟩

/-- A key below every listed one reads as unlisted. -/
theorem smGet_of_rising (d : Nat → α) {b k : Nat} {m : SMap α} (h : smRising b m = true) (hk : k < b) : smGet d m k = d k := by
  induction m generalizing b with
  | nil => rfl
  | cons p m ih =>
    simp only [smRising, Bool.and_eq_true, decide_eq_true_eq] at h
    have hj : p.1 ≠ k := by omega
    simp [smGet, hj, ih h.2 (by omega)]

/-- A put value is read back, and other keys read as before. -/
theorem smGet_smPut (d : Nat → α) (m : SMap α) (k j : Nat) (v : α) :
    smGet d (smPut m k v) j = if j = k then v else smGet d m j := by
  induction m with
  | nil => by_cases h : k = j <;> simp [smPut, smGet, h, eq_comm]
  | cons p m ih =>
    obtain ⟨a, w⟩ := p
    simp only [smPut]
    split_ifs with h1 h2 h3 h4 <;> simp_all [smGet]
    all_goals first
      | exact fun e => absurd e.symm ‹_›
      | (split_ifs <;> simp_all)

/-- An erased key reads as unlisted, and other keys read as before. -/
theorem smGet_smErase (d : Nat → α) (m : SMap α) (k j : Nat) :
    smGet d (smErase m k) j = if j = k then d k else smGet d m j := by
  induction m with
  | nil => by_cases hj : j = k <;> simp [smErase, smGet, hj]
  | cons p m ih =>
    obtain ⟨a, w⟩ := p
    by_cases ha : a = k
    · subst ha
      rw [smErase, if_pos rfl, ih]
      by_cases hj : j = a
      · simp [hj]
      · simp [smGet, hj, Ne.symm hj]
    · by_cases hj : a = j
      · subst hj
        simp [smErase, smGet, ha]
      · simp [smErase, smGet, ha, hj, ih]

/-- A stored value is read back, and other keys read as before. -/
theorem smGet_smSet [DecidableEq α] (d : Nat → α) (m : SMap α) (k j : Nat) (v : α) :
    smGet d (smSet d m k v) j = if j = k then v else smGet d m j := by
  unfold smSet
  split_ifs with hv hj hj
  · simp [smGet_smErase, hj, hv]
  · simp [smGet_smErase, hj]
  · simp [smGet_smPut, hj]
  · simp [smGet_smPut, hj]

theorem smErase_rising {b : Nat} {m : SMap α} (h : smRising b m = true) (k : Nat) : smRising b (smErase m k) = true := by
  induction m generalizing b with
  | nil => rfl
  | cons p m ih =>
    obtain ⟨a, w⟩ := p
    simp only [smRising, Bool.and_eq_true, decide_eq_true_eq] at h
    unfold smErase
    split_ifs with ha
    · exact smRising_mono (ih h.2) (by omega)
    · simp [smRising, h.1, ih h.2]

theorem smPut_rising {b : Nat} {m : SMap α} (h : smRising b m = true) (k : Nat) (hk : b ≤ k) (v : α) :
    smRising b (smPut m k v) = true := by
  induction m generalizing b with
  | nil => simp [smPut, smRising, hk]
  | cons p m ih =>
    obtain ⟨a, w⟩ := p
    simp only [smRising, Bool.and_eq_true, decide_eq_true_eq] at h
    unfold smPut
    split_ifs with h1 h2
    · simp [smRising, hk, h.2]
      omega
    · subst h2
      simp [smRising, h.1, h.2]
    · simp [smRising, h.1, ih h.2 (by omega)]

theorem smErase_mem {m : SMap α} {k : Nat} {p : Nat × α} (h : p ∈ smErase m k) : p ∈ m := by
  induction m with
  | nil => exact h
  | cons q m ih =>
    obtain ⟨a, w⟩ := q
    unfold smErase at h
    split_ifs at h
    · exact List.mem_cons_of_mem _ (ih h)
    · rcases List.mem_cons.mp h with h | h
      · exact h ▸ List.mem_cons_self
      · exact List.mem_cons_of_mem _ (ih h)

theorem smPut_mem {m : SMap α} {k : Nat} {v : α} {p : Nat × α} (h : p ∈ smPut m k v) : p = (k, v) ∨ p ∈ m := by
  induction m with
  | nil => exact .inl (List.mem_singleton.mp h)
  | cons q m ih =>
    obtain ⟨a, w⟩ := q
    unfold smPut at h
    split_ifs at h
    · exact List.mem_cons.mp h
    · rcases List.mem_cons.mp h with h | h
      · exact .inl h
      · exact .inr (List.mem_cons_of_mem _ h)
    · rcases List.mem_cons.mp h with h | h
      · exact .inr (h ▸ List.mem_cons_self)
      · exact (ih h).imp id (List.mem_cons_of_mem _)

/-- Storing a value keeps the canonical form. -/
theorem smSet_wf [DecidableEq α] {d : Nat → α} {m : SMap α} (h : smWf d m = true) (k : Nat) (v : α) : smWf d (smSet d m k v) = true := by
  simp only [smWf, Bool.and_eq_true, List.all_eq_true, decide_eq_true_eq] at h ⊢
  unfold smSet
  split_ifs with hv
  · exact ⟨smErase_rising h.1 k, fun p hp => h.2 p (smErase_mem hp)⟩
  · refine ⟨smPut_rising h.1 k (Nat.zero_le k) v, fun p hp => ?_⟩
    rcases smPut_mem hp with rfl | hp
    · exact hv
    · exact h.2 p hp

theorem filter_rising {b : Nat} {m : SMap α} (h : smRising b m = true) (f : Nat × α → Bool) : smRising b (m.filter f) = true := by
  induction m generalizing b with
  | nil => rfl
  | cons p m ih =>
    simp only [smRising, Bool.and_eq_true, decide_eq_true_eq] at h
    by_cases hf : f p = true
    · simp [hf, smRising, h.1, ih h.2]
    · simp only [List.filter_cons, hf]
      exact smRising_mono (ih h.2) (by omega)

/-- Dropping entries keeps the canonical form. -/
theorem filter_wf [DecidableEq α] {d : Nat → α} {m : SMap α} (h : smWf d m = true) (f : Nat × α → Bool) :
    smWf d (m.filter f) = true := by
  simp only [smWf, Bool.and_eq_true, List.all_eq_true, decide_eq_true_eq] at h ⊢
  exact ⟨filter_rising h.1 f, fun p hp => h.2 p (List.mem_filter.mp hp).1⟩

/-- What a list holds after a place is put. -/
theorem getD_setAt (d : α) (l : List α) (k j : Nat) (v : α) : (setAt d l k v).getD j d = if j = k then v else l.getD j d := by
  induction l generalizing k j with
  | nil =>
    induction k generalizing j with
    | zero => cases j <;> simp [setAt]
    | succ k ih =>
      cases j with
      | zero => simp [setAt]
      | succ j => simpa [setAt] using ih j
  | cons x xs ih =>
    cases k with
    | zero => cases j <;> simp [setAt]
    | succ k =>
      cases j with
      | zero => simp [setAt]
      | succ j => simpa [setAt] using ih k j

/-- Storing bytes keeps a memory's canonical form. -/
theorem putBytes_wf {d : Nat → Byte} {m : List Host.Cell} (h : Memory.wf d m = true) (a : Nat) (bs : List Byte) :
    Memory.wf d (putBytes d m a bs) = true := by
  induction bs generalizing m a with
  | nil => exact h
  | cons b bs ih => exact ih (smSet_wf h a b) (a + 1)

/-- Bytes outside those stored read as before. -/
theorem smGet_putBytes (d : Nat → Byte) (m : List Host.Cell) (a k : Nat) (bs : List Byte)
    (hk : k < a ∨ a + bs.length ≤ k) : smGet d (putBytes d m a bs) k = smGet d m k := by
  induction bs generalizing m a with
  | nil => rfl
  | cons b bs ih =>
    rw [putBytes, ih _ (a + 1) (by simp at hk; omega), smGet_smSet]
    simp at hk
    rw [if_neg (by omega)]

/-- A stored byte is read back. -/
theorem smGet_putBytes_in (d : Nat → Byte) (m : List Host.Cell) (a i : Nat) (bs : List Byte)
    (hi : i < bs.length) : smGet d (putBytes d m a bs) (a + i) = bs[i] := by
  induction bs generalizing m a i with
  | nil => simp at hi
  | cons b bs ih =>
    cases i with
    | zero =>
      rw [putBytes, smGet_putBytes d _ _ _ _ (.inl (by omega)), smGet_smSet]
      simp
    | succ i =>
      have := ih (smSet d m a b) (a + 1) i (by simpa using hi)
      rw [putBytes, show a + (i + 1) = a + 1 + i by omega, this]
      simp

end Sys2Proof.Machine
end

