-- ==== Sys2Proof/Laws/State.lean ====
section
/-! SUPPORT. What each update leaves: one lemma for each field of the state and each update. -/

namespace Sys2Proof.Machine

variable (s : State)

@[simp] theorem uPending_pending (g) : (s.uPending g).pending = g s.pending := rfl
@[simp] theorem uPending_ct (g) : (s.uPending g).ct = s.ct := rfl
@[simp] theorem uPending_ticks (g) : (s.uPending g).ticks = s.ticks := rfl
@[simp] theorem uPending_free (g) : (s.uPending g).free = s.free := rfl
@[simp] theorem uPending_regs (g) : (s.uPending g).regs = s.regs := rfl
@[simp] theorem uPending_hbm (g) : (s.uPending g).hbm = s.hbm := rfl
@[simp] theorem uPending_hbmEcc (g) : (s.uPending g).hbmEcc = s.hbmEcc := rfl
@[simp] theorem uPending_vel (g) : (s.uPending g).vel = s.vel := rfl
@[simp] theorem uPending_velEcc (g) : (s.uPending g).velEcc = s.velEcc := rfl
@[simp] theorem uPending_flash (g) : (s.uPending g).flash = s.flash := rfl
@[simp] theorem uPending_fuses (g) : (s.uPending g).fuses = s.fuses := rfl
@[simp] theorem uPending_acc (g) : (s.uPending g).acc = s.acc := rfl
@[simp] theorem uPending_pins (g) : (s.uPending g).pins = s.pins := rfl
@[simp] theorem uPending_sbE (g) : (s.uPending g).sbE = s.sbE := rfl
@[simp] theorem uPending_sbW (g) : (s.uPending g).sbW = s.sbW := rfl
@[simp] theorem uPending_clk (g) : (s.uPending g).clk = s.clk := rfl
@[simp] theorem uPending_rst (g) : (s.uPending g).rst = s.rst := rfl
@[simp] theorem uPending_time (g) : (s.uPending g).time = s.time := rfl
@[simp] theorem uPending_pwr (g) : (s.uPending g).pwr = s.pwr := rfl
@[simp] theorem uPending_boot (g) : (s.uPending g).boot = s.boot := rfl
@[simp] theorem uPending_evt (g) : (s.uPending g).evt = s.evt := rfl
@[simp] theorem uPending_proof (g) : (s.uPending g).proof = s.proof := rfl
@[simp] theorem uPending_sty (g) : (s.uPending g).sty = s.sty := rfl
@[simp] theorem uPending_out (g) : (s.uPending g).out = s.out := rfl
@[simp] theorem uPending_plates (g) : (s.uPending g).plates = s.plates := rfl
@[simp] theorem uPending_pcie (g) : (s.uPending g).pcie = s.pcie := rfl
@[simp] theorem uPending_tec (g) : (s.uPending g).tec = s.tec := rfl
@[simp] theorem uPending_las (g) : (s.uPending g).las = s.las := rfl
@[simp] theorem uPending_lnk (g) : (s.uPending g).lnk = s.lnk := rfl
@[simp] theorem uPending_repl (g) : (s.uPending g).repl = s.repl := rfl
@[simp] theorem uPending_pkg (g) : (s.uPending g).pkg = s.pkg := rfl
@[simp] theorem uPending_clu (g) : (s.uPending g).clu = s.clu := rfl
@[simp] theorem uPending_cl (g) : (s.uPending g).cl = s.cl := rfl
@[simp] theorem uPending_scr (g) : (s.uPending g).scr = s.scr := rfl
@[simp] theorem uPending_agree (g) : (s.uPending g).agree = s.agree := rfl
@[simp] theorem uPending_hmk (g) : (s.uPending g).hmk = s.hmk := rfl
@[simp] theorem uPending_fab (g) : (s.uPending g).fab = s.fab := rfl
@[simp] theorem uPending_rings (g) : (s.uPending g).rings = s.rings := rfl
@[simp] theorem uPending_maps (g) : (s.uPending g).maps = s.maps := rfl
@[simp] theorem uPending_tkt (g) : (s.uPending g).tkt = s.tkt := rfl
@[simp] theorem uPending_xfe (g) : (s.uPending g).xfe = s.xfe := rfl
@[simp] theorem uPending_mem (g) : (s.uPending g).mem = s.mem := rfl
@[simp] theorem uPending_mgmt (g) : (s.uPending g).mgmt = s.mgmt := rfl

@[simp] theorem uCt_pending (g) : (s.uCt g).pending = s.pending := rfl
@[simp] theorem uCt_ct (g) : (s.uCt g).ct = g s.ct := rfl
@[simp] theorem uCt_ticks (g) : (s.uCt g).ticks = s.ticks := rfl
@[simp] theorem uCt_free (g) : (s.uCt g).free = s.free := rfl
@[simp] theorem uCt_regs (g) : (s.uCt g).regs = s.regs := rfl
@[simp] theorem uCt_hbm (g) : (s.uCt g).hbm = s.hbm := rfl
@[simp] theorem uCt_hbmEcc (g) : (s.uCt g).hbmEcc = s.hbmEcc := rfl
@[simp] theorem uCt_vel (g) : (s.uCt g).vel = s.vel := rfl
@[simp] theorem uCt_velEcc (g) : (s.uCt g).velEcc = s.velEcc := rfl
@[simp] theorem uCt_flash (g) : (s.uCt g).flash = s.flash := rfl
@[simp] theorem uCt_fuses (g) : (s.uCt g).fuses = s.fuses := rfl
@[simp] theorem uCt_acc (g) : (s.uCt g).acc = s.acc := rfl
@[simp] theorem uCt_pins (g) : (s.uCt g).pins = s.pins := rfl
@[simp] theorem uCt_sbE (g) : (s.uCt g).sbE = s.sbE := rfl
@[simp] theorem uCt_sbW (g) : (s.uCt g).sbW = s.sbW := rfl
@[simp] theorem uCt_clk (g) : (s.uCt g).clk = s.clk := rfl
@[simp] theorem uCt_rst (g) : (s.uCt g).rst = s.rst := rfl
@[simp] theorem uCt_time (g) : (s.uCt g).time = s.time := rfl
@[simp] theorem uCt_pwr (g) : (s.uCt g).pwr = s.pwr := rfl
@[simp] theorem uCt_boot (g) : (s.uCt g).boot = s.boot := rfl
@[simp] theorem uCt_evt (g) : (s.uCt g).evt = s.evt := rfl
@[simp] theorem uCt_proof (g) : (s.uCt g).proof = s.proof := rfl
@[simp] theorem uCt_sty (g) : (s.uCt g).sty = s.sty := rfl
@[simp] theorem uCt_out (g) : (s.uCt g).out = s.out := rfl
@[simp] theorem uCt_plates (g) : (s.uCt g).plates = s.plates := rfl
@[simp] theorem uCt_pcie (g) : (s.uCt g).pcie = s.pcie := rfl
@[simp] theorem uCt_tec (g) : (s.uCt g).tec = s.tec := rfl
@[simp] theorem uCt_las (g) : (s.uCt g).las = s.las := rfl
@[simp] theorem uCt_lnk (g) : (s.uCt g).lnk = s.lnk := rfl
@[simp] theorem uCt_repl (g) : (s.uCt g).repl = s.repl := rfl
@[simp] theorem uCt_pkg (g) : (s.uCt g).pkg = s.pkg := rfl
@[simp] theorem uCt_clu (g) : (s.uCt g).clu = s.clu := rfl
@[simp] theorem uCt_cl (g) : (s.uCt g).cl = s.cl := rfl
@[simp] theorem uCt_scr (g) : (s.uCt g).scr = s.scr := rfl
@[simp] theorem uCt_agree (g) : (s.uCt g).agree = s.agree := rfl
@[simp] theorem uCt_hmk (g) : (s.uCt g).hmk = s.hmk := rfl
@[simp] theorem uCt_fab (g) : (s.uCt g).fab = s.fab := rfl
@[simp] theorem uCt_rings (g) : (s.uCt g).rings = s.rings := rfl
@[simp] theorem uCt_maps (g) : (s.uCt g).maps = s.maps := rfl
@[simp] theorem uCt_tkt (g) : (s.uCt g).tkt = s.tkt := rfl
@[simp] theorem uCt_xfe (g) : (s.uCt g).xfe = s.xfe := rfl
@[simp] theorem uCt_mem (g) : (s.uCt g).mem = s.mem := rfl
@[simp] theorem uCt_mgmt (g) : (s.uCt g).mgmt = s.mgmt := rfl

@[simp] theorem uTicks_pending (g) : (s.uTicks g).pending = s.pending := rfl
@[simp] theorem uTicks_ct (g) : (s.uTicks g).ct = s.ct := rfl
@[simp] theorem uTicks_ticks (g) : (s.uTicks g).ticks = g s.ticks := rfl
@[simp] theorem uTicks_free (g) : (s.uTicks g).free = s.free := rfl
@[simp] theorem uTicks_regs (g) : (s.uTicks g).regs = s.regs := rfl
@[simp] theorem uTicks_hbm (g) : (s.uTicks g).hbm = s.hbm := rfl
@[simp] theorem uTicks_hbmEcc (g) : (s.uTicks g).hbmEcc = s.hbmEcc := rfl
@[simp] theorem uTicks_vel (g) : (s.uTicks g).vel = s.vel := rfl
@[simp] theorem uTicks_velEcc (g) : (s.uTicks g).velEcc = s.velEcc := rfl
@[simp] theorem uTicks_flash (g) : (s.uTicks g).flash = s.flash := rfl
@[simp] theorem uTicks_fuses (g) : (s.uTicks g).fuses = s.fuses := rfl
@[simp] theorem uTicks_acc (g) : (s.uTicks g).acc = s.acc := rfl
@[simp] theorem uTicks_pins (g) : (s.uTicks g).pins = s.pins := rfl
@[simp] theorem uTicks_sbE (g) : (s.uTicks g).sbE = s.sbE := rfl
@[simp] theorem uTicks_sbW (g) : (s.uTicks g).sbW = s.sbW := rfl
@[simp] theorem uTicks_clk (g) : (s.uTicks g).clk = s.clk := rfl
@[simp] theorem uTicks_rst (g) : (s.uTicks g).rst = s.rst := rfl
@[simp] theorem uTicks_time (g) : (s.uTicks g).time = s.time := rfl
@[simp] theorem uTicks_pwr (g) : (s.uTicks g).pwr = s.pwr := rfl
@[simp] theorem uTicks_boot (g) : (s.uTicks g).boot = s.boot := rfl
@[simp] theorem uTicks_evt (g) : (s.uTicks g).evt = s.evt := rfl
@[simp] theorem uTicks_proof (g) : (s.uTicks g).proof = s.proof := rfl
@[simp] theorem uTicks_sty (g) : (s.uTicks g).sty = s.sty := rfl
@[simp] theorem uTicks_out (g) : (s.uTicks g).out = s.out := rfl
@[simp] theorem uTicks_plates (g) : (s.uTicks g).plates = s.plates := rfl
@[simp] theorem uTicks_pcie (g) : (s.uTicks g).pcie = s.pcie := rfl
@[simp] theorem uTicks_tec (g) : (s.uTicks g).tec = s.tec := rfl
@[simp] theorem uTicks_las (g) : (s.uTicks g).las = s.las := rfl
@[simp] theorem uTicks_lnk (g) : (s.uTicks g).lnk = s.lnk := rfl
@[simp] theorem uTicks_repl (g) : (s.uTicks g).repl = s.repl := rfl
@[simp] theorem uTicks_pkg (g) : (s.uTicks g).pkg = s.pkg := rfl
@[simp] theorem uTicks_clu (g) : (s.uTicks g).clu = s.clu := rfl
@[simp] theorem uTicks_cl (g) : (s.uTicks g).cl = s.cl := rfl
@[simp] theorem uTicks_scr (g) : (s.uTicks g).scr = s.scr := rfl
@[simp] theorem uTicks_agree (g) : (s.uTicks g).agree = s.agree := rfl
@[simp] theorem uTicks_hmk (g) : (s.uTicks g).hmk = s.hmk := rfl
@[simp] theorem uTicks_fab (g) : (s.uTicks g).fab = s.fab := rfl
@[simp] theorem uTicks_rings (g) : (s.uTicks g).rings = s.rings := rfl
@[simp] theorem uTicks_maps (g) : (s.uTicks g).maps = s.maps := rfl
@[simp] theorem uTicks_tkt (g) : (s.uTicks g).tkt = s.tkt := rfl
@[simp] theorem uTicks_xfe (g) : (s.uTicks g).xfe = s.xfe := rfl
@[simp] theorem uTicks_mem (g) : (s.uTicks g).mem = s.mem := rfl
@[simp] theorem uTicks_mgmt (g) : (s.uTicks g).mgmt = s.mgmt := rfl

@[simp] theorem uFree_pending (g) : (s.uFree g).pending = s.pending := rfl
@[simp] theorem uFree_ct (g) : (s.uFree g).ct = s.ct := rfl
@[simp] theorem uFree_ticks (g) : (s.uFree g).ticks = s.ticks := rfl
@[simp] theorem uFree_free (g) : (s.uFree g).free = g s.free := rfl
@[simp] theorem uFree_regs (g) : (s.uFree g).regs = s.regs := rfl
@[simp] theorem uFree_hbm (g) : (s.uFree g).hbm = s.hbm := rfl
@[simp] theorem uFree_hbmEcc (g) : (s.uFree g).hbmEcc = s.hbmEcc := rfl
@[simp] theorem uFree_vel (g) : (s.uFree g).vel = s.vel := rfl
@[simp] theorem uFree_velEcc (g) : (s.uFree g).velEcc = s.velEcc := rfl
@[simp] theorem uFree_flash (g) : (s.uFree g).flash = s.flash := rfl
@[simp] theorem uFree_fuses (g) : (s.uFree g).fuses = s.fuses := rfl
@[simp] theorem uFree_acc (g) : (s.uFree g).acc = s.acc := rfl
@[simp] theorem uFree_pins (g) : (s.uFree g).pins = s.pins := rfl
@[simp] theorem uFree_sbE (g) : (s.uFree g).sbE = s.sbE := rfl
@[simp] theorem uFree_sbW (g) : (s.uFree g).sbW = s.sbW := rfl
@[simp] theorem uFree_clk (g) : (s.uFree g).clk = s.clk := rfl
@[simp] theorem uFree_rst (g) : (s.uFree g).rst = s.rst := rfl
@[simp] theorem uFree_time (g) : (s.uFree g).time = s.time := rfl
@[simp] theorem uFree_pwr (g) : (s.uFree g).pwr = s.pwr := rfl
@[simp] theorem uFree_boot (g) : (s.uFree g).boot = s.boot := rfl
@[simp] theorem uFree_evt (g) : (s.uFree g).evt = s.evt := rfl
@[simp] theorem uFree_proof (g) : (s.uFree g).proof = s.proof := rfl
@[simp] theorem uFree_sty (g) : (s.uFree g).sty = s.sty := rfl
@[simp] theorem uFree_out (g) : (s.uFree g).out = s.out := rfl
@[simp] theorem uFree_plates (g) : (s.uFree g).plates = s.plates := rfl
@[simp] theorem uFree_pcie (g) : (s.uFree g).pcie = s.pcie := rfl
@[simp] theorem uFree_tec (g) : (s.uFree g).tec = s.tec := rfl
@[simp] theorem uFree_las (g) : (s.uFree g).las = s.las := rfl
@[simp] theorem uFree_lnk (g) : (s.uFree g).lnk = s.lnk := rfl
@[simp] theorem uFree_repl (g) : (s.uFree g).repl = s.repl := rfl
@[simp] theorem uFree_pkg (g) : (s.uFree g).pkg = s.pkg := rfl
@[simp] theorem uFree_clu (g) : (s.uFree g).clu = s.clu := rfl
@[simp] theorem uFree_cl (g) : (s.uFree g).cl = s.cl := rfl
@[simp] theorem uFree_scr (g) : (s.uFree g).scr = s.scr := rfl
@[simp] theorem uFree_agree (g) : (s.uFree g).agree = s.agree := rfl
@[simp] theorem uFree_hmk (g) : (s.uFree g).hmk = s.hmk := rfl
@[simp] theorem uFree_fab (g) : (s.uFree g).fab = s.fab := rfl
@[simp] theorem uFree_rings (g) : (s.uFree g).rings = s.rings := rfl
@[simp] theorem uFree_maps (g) : (s.uFree g).maps = s.maps := rfl
@[simp] theorem uFree_tkt (g) : (s.uFree g).tkt = s.tkt := rfl
@[simp] theorem uFree_xfe (g) : (s.uFree g).xfe = s.xfe := rfl
@[simp] theorem uFree_mem (g) : (s.uFree g).mem = s.mem := rfl
@[simp] theorem uFree_mgmt (g) : (s.uFree g).mgmt = s.mgmt := rfl

@[simp] theorem uRegs_pending (g) : (s.uRegs g).pending = s.pending := rfl
@[simp] theorem uRegs_ct (g) : (s.uRegs g).ct = s.ct := rfl
@[simp] theorem uRegs_ticks (g) : (s.uRegs g).ticks = s.ticks := rfl
@[simp] theorem uRegs_free (g) : (s.uRegs g).free = s.free := rfl
@[simp] theorem uRegs_regs (g) : (s.uRegs g).regs = g s.regs := rfl
@[simp] theorem uRegs_hbm (g) : (s.uRegs g).hbm = s.hbm := rfl
@[simp] theorem uRegs_hbmEcc (g) : (s.uRegs g).hbmEcc = s.hbmEcc := rfl
@[simp] theorem uRegs_vel (g) : (s.uRegs g).vel = s.vel := rfl
@[simp] theorem uRegs_velEcc (g) : (s.uRegs g).velEcc = s.velEcc := rfl
@[simp] theorem uRegs_flash (g) : (s.uRegs g).flash = s.flash := rfl
@[simp] theorem uRegs_fuses (g) : (s.uRegs g).fuses = s.fuses := rfl
@[simp] theorem uRegs_acc (g) : (s.uRegs g).acc = s.acc := rfl
@[simp] theorem uRegs_pins (g) : (s.uRegs g).pins = s.pins := rfl
@[simp] theorem uRegs_sbE (g) : (s.uRegs g).sbE = s.sbE := rfl
@[simp] theorem uRegs_sbW (g) : (s.uRegs g).sbW = s.sbW := rfl
@[simp] theorem uRegs_clk (g) : (s.uRegs g).clk = s.clk := rfl
@[simp] theorem uRegs_rst (g) : (s.uRegs g).rst = s.rst := rfl
@[simp] theorem uRegs_time (g) : (s.uRegs g).time = s.time := rfl
@[simp] theorem uRegs_pwr (g) : (s.uRegs g).pwr = s.pwr := rfl
@[simp] theorem uRegs_boot (g) : (s.uRegs g).boot = s.boot := rfl
@[simp] theorem uRegs_evt (g) : (s.uRegs g).evt = s.evt := rfl
@[simp] theorem uRegs_proof (g) : (s.uRegs g).proof = s.proof := rfl
@[simp] theorem uRegs_sty (g) : (s.uRegs g).sty = s.sty := rfl
@[simp] theorem uRegs_out (g) : (s.uRegs g).out = s.out := rfl
@[simp] theorem uRegs_plates (g) : (s.uRegs g).plates = s.plates := rfl
@[simp] theorem uRegs_pcie (g) : (s.uRegs g).pcie = s.pcie := rfl
@[simp] theorem uRegs_tec (g) : (s.uRegs g).tec = s.tec := rfl
@[simp] theorem uRegs_las (g) : (s.uRegs g).las = s.las := rfl
@[simp] theorem uRegs_lnk (g) : (s.uRegs g).lnk = s.lnk := rfl
@[simp] theorem uRegs_repl (g) : (s.uRegs g).repl = s.repl := rfl
@[simp] theorem uRegs_pkg (g) : (s.uRegs g).pkg = s.pkg := rfl
@[simp] theorem uRegs_clu (g) : (s.uRegs g).clu = s.clu := rfl
@[simp] theorem uRegs_cl (g) : (s.uRegs g).cl = s.cl := rfl
@[simp] theorem uRegs_scr (g) : (s.uRegs g).scr = s.scr := rfl
@[simp] theorem uRegs_agree (g) : (s.uRegs g).agree = s.agree := rfl
@[simp] theorem uRegs_hmk (g) : (s.uRegs g).hmk = s.hmk := rfl
@[simp] theorem uRegs_fab (g) : (s.uRegs g).fab = s.fab := rfl
@[simp] theorem uRegs_rings (g) : (s.uRegs g).rings = s.rings := rfl
@[simp] theorem uRegs_maps (g) : (s.uRegs g).maps = s.maps := rfl
@[simp] theorem uRegs_tkt (g) : (s.uRegs g).tkt = s.tkt := rfl
@[simp] theorem uRegs_xfe (g) : (s.uRegs g).xfe = s.xfe := rfl
@[simp] theorem uRegs_mem (g) : (s.uRegs g).mem = s.mem := rfl
@[simp] theorem uRegs_mgmt (g) : (s.uRegs g).mgmt = s.mgmt := rfl

@[simp] theorem uHbm_pending (g) : (s.uHbm g).pending = s.pending := rfl
@[simp] theorem uHbm_ct (g) : (s.uHbm g).ct = s.ct := rfl
@[simp] theorem uHbm_ticks (g) : (s.uHbm g).ticks = s.ticks := rfl
@[simp] theorem uHbm_free (g) : (s.uHbm g).free = s.free := rfl
@[simp] theorem uHbm_regs (g) : (s.uHbm g).regs = s.regs := rfl
@[simp] theorem uHbm_hbm (g) : (s.uHbm g).hbm = g s.hbm := rfl
@[simp] theorem uHbm_hbmEcc (g) : (s.uHbm g).hbmEcc = s.hbmEcc := rfl
@[simp] theorem uHbm_vel (g) : (s.uHbm g).vel = s.vel := rfl
@[simp] theorem uHbm_velEcc (g) : (s.uHbm g).velEcc = s.velEcc := rfl
@[simp] theorem uHbm_flash (g) : (s.uHbm g).flash = s.flash := rfl
@[simp] theorem uHbm_fuses (g) : (s.uHbm g).fuses = s.fuses := rfl
@[simp] theorem uHbm_acc (g) : (s.uHbm g).acc = s.acc := rfl
@[simp] theorem uHbm_pins (g) : (s.uHbm g).pins = s.pins := rfl
@[simp] theorem uHbm_sbE (g) : (s.uHbm g).sbE = s.sbE := rfl
@[simp] theorem uHbm_sbW (g) : (s.uHbm g).sbW = s.sbW := rfl
@[simp] theorem uHbm_clk (g) : (s.uHbm g).clk = s.clk := rfl
@[simp] theorem uHbm_rst (g) : (s.uHbm g).rst = s.rst := rfl
@[simp] theorem uHbm_time (g) : (s.uHbm g).time = s.time := rfl
@[simp] theorem uHbm_pwr (g) : (s.uHbm g).pwr = s.pwr := rfl
@[simp] theorem uHbm_boot (g) : (s.uHbm g).boot = s.boot := rfl
@[simp] theorem uHbm_evt (g) : (s.uHbm g).evt = s.evt := rfl
@[simp] theorem uHbm_proof (g) : (s.uHbm g).proof = s.proof := rfl
@[simp] theorem uHbm_sty (g) : (s.uHbm g).sty = s.sty := rfl
@[simp] theorem uHbm_out (g) : (s.uHbm g).out = s.out := rfl
@[simp] theorem uHbm_plates (g) : (s.uHbm g).plates = s.plates := rfl
@[simp] theorem uHbm_pcie (g) : (s.uHbm g).pcie = s.pcie := rfl
@[simp] theorem uHbm_tec (g) : (s.uHbm g).tec = s.tec := rfl
@[simp] theorem uHbm_las (g) : (s.uHbm g).las = s.las := rfl
@[simp] theorem uHbm_lnk (g) : (s.uHbm g).lnk = s.lnk := rfl
@[simp] theorem uHbm_repl (g) : (s.uHbm g).repl = s.repl := rfl
@[simp] theorem uHbm_pkg (g) : (s.uHbm g).pkg = s.pkg := rfl
@[simp] theorem uHbm_clu (g) : (s.uHbm g).clu = s.clu := rfl
@[simp] theorem uHbm_cl (g) : (s.uHbm g).cl = s.cl := rfl
@[simp] theorem uHbm_scr (g) : (s.uHbm g).scr = s.scr := rfl
@[simp] theorem uHbm_agree (g) : (s.uHbm g).agree = s.agree := rfl
@[simp] theorem uHbm_hmk (g) : (s.uHbm g).hmk = s.hmk := rfl
@[simp] theorem uHbm_fab (g) : (s.uHbm g).fab = s.fab := rfl
@[simp] theorem uHbm_rings (g) : (s.uHbm g).rings = s.rings := rfl
@[simp] theorem uHbm_maps (g) : (s.uHbm g).maps = s.maps := rfl
@[simp] theorem uHbm_tkt (g) : (s.uHbm g).tkt = s.tkt := rfl
@[simp] theorem uHbm_xfe (g) : (s.uHbm g).xfe = s.xfe := rfl
@[simp] theorem uHbm_mem (g) : (s.uHbm g).mem = s.mem := rfl
@[simp] theorem uHbm_mgmt (g) : (s.uHbm g).mgmt = s.mgmt := rfl

@[simp] theorem uHbmEcc_pending (g) : (s.uHbmEcc g).pending = s.pending := rfl
@[simp] theorem uHbmEcc_ct (g) : (s.uHbmEcc g).ct = s.ct := rfl
@[simp] theorem uHbmEcc_ticks (g) : (s.uHbmEcc g).ticks = s.ticks := rfl
@[simp] theorem uHbmEcc_free (g) : (s.uHbmEcc g).free = s.free := rfl
@[simp] theorem uHbmEcc_regs (g) : (s.uHbmEcc g).regs = s.regs := rfl
@[simp] theorem uHbmEcc_hbm (g) : (s.uHbmEcc g).hbm = s.hbm := rfl
@[simp] theorem uHbmEcc_hbmEcc (g) : (s.uHbmEcc g).hbmEcc = g s.hbmEcc := rfl
@[simp] theorem uHbmEcc_vel (g) : (s.uHbmEcc g).vel = s.vel := rfl
@[simp] theorem uHbmEcc_velEcc (g) : (s.uHbmEcc g).velEcc = s.velEcc := rfl
@[simp] theorem uHbmEcc_flash (g) : (s.uHbmEcc g).flash = s.flash := rfl
@[simp] theorem uHbmEcc_fuses (g) : (s.uHbmEcc g).fuses = s.fuses := rfl
@[simp] theorem uHbmEcc_acc (g) : (s.uHbmEcc g).acc = s.acc := rfl
@[simp] theorem uHbmEcc_pins (g) : (s.uHbmEcc g).pins = s.pins := rfl
@[simp] theorem uHbmEcc_sbE (g) : (s.uHbmEcc g).sbE = s.sbE := rfl
@[simp] theorem uHbmEcc_sbW (g) : (s.uHbmEcc g).sbW = s.sbW := rfl
@[simp] theorem uHbmEcc_clk (g) : (s.uHbmEcc g).clk = s.clk := rfl
@[simp] theorem uHbmEcc_rst (g) : (s.uHbmEcc g).rst = s.rst := rfl
@[simp] theorem uHbmEcc_time (g) : (s.uHbmEcc g).time = s.time := rfl
@[simp] theorem uHbmEcc_pwr (g) : (s.uHbmEcc g).pwr = s.pwr := rfl
@[simp] theorem uHbmEcc_boot (g) : (s.uHbmEcc g).boot = s.boot := rfl
@[simp] theorem uHbmEcc_evt (g) : (s.uHbmEcc g).evt = s.evt := rfl
@[simp] theorem uHbmEcc_proof (g) : (s.uHbmEcc g).proof = s.proof := rfl
@[simp] theorem uHbmEcc_sty (g) : (s.uHbmEcc g).sty = s.sty := rfl
@[simp] theorem uHbmEcc_out (g) : (s.uHbmEcc g).out = s.out := rfl
@[simp] theorem uHbmEcc_plates (g) : (s.uHbmEcc g).plates = s.plates := rfl
@[simp] theorem uHbmEcc_pcie (g) : (s.uHbmEcc g).pcie = s.pcie := rfl
@[simp] theorem uHbmEcc_tec (g) : (s.uHbmEcc g).tec = s.tec := rfl
@[simp] theorem uHbmEcc_las (g) : (s.uHbmEcc g).las = s.las := rfl
@[simp] theorem uHbmEcc_lnk (g) : (s.uHbmEcc g).lnk = s.lnk := rfl
@[simp] theorem uHbmEcc_repl (g) : (s.uHbmEcc g).repl = s.repl := rfl
@[simp] theorem uHbmEcc_pkg (g) : (s.uHbmEcc g).pkg = s.pkg := rfl
@[simp] theorem uHbmEcc_clu (g) : (s.uHbmEcc g).clu = s.clu := rfl
@[simp] theorem uHbmEcc_cl (g) : (s.uHbmEcc g).cl = s.cl := rfl
@[simp] theorem uHbmEcc_scr (g) : (s.uHbmEcc g).scr = s.scr := rfl
@[simp] theorem uHbmEcc_agree (g) : (s.uHbmEcc g).agree = s.agree := rfl
@[simp] theorem uHbmEcc_hmk (g) : (s.uHbmEcc g).hmk = s.hmk := rfl
@[simp] theorem uHbmEcc_fab (g) : (s.uHbmEcc g).fab = s.fab := rfl
@[simp] theorem uHbmEcc_rings (g) : (s.uHbmEcc g).rings = s.rings := rfl
@[simp] theorem uHbmEcc_maps (g) : (s.uHbmEcc g).maps = s.maps := rfl
@[simp] theorem uHbmEcc_tkt (g) : (s.uHbmEcc g).tkt = s.tkt := rfl
@[simp] theorem uHbmEcc_xfe (g) : (s.uHbmEcc g).xfe = s.xfe := rfl
@[simp] theorem uHbmEcc_mem (g) : (s.uHbmEcc g).mem = s.mem := rfl
@[simp] theorem uHbmEcc_mgmt (g) : (s.uHbmEcc g).mgmt = s.mgmt := rfl

@[simp] theorem uVel_pending (g) : (s.uVel g).pending = s.pending := rfl
@[simp] theorem uVel_ct (g) : (s.uVel g).ct = s.ct := rfl
@[simp] theorem uVel_ticks (g) : (s.uVel g).ticks = s.ticks := rfl
@[simp] theorem uVel_free (g) : (s.uVel g).free = s.free := rfl
@[simp] theorem uVel_regs (g) : (s.uVel g).regs = s.regs := rfl
@[simp] theorem uVel_hbm (g) : (s.uVel g).hbm = s.hbm := rfl
@[simp] theorem uVel_hbmEcc (g) : (s.uVel g).hbmEcc = s.hbmEcc := rfl
@[simp] theorem uVel_vel (g) : (s.uVel g).vel = g s.vel := rfl
@[simp] theorem uVel_velEcc (g) : (s.uVel g).velEcc = s.velEcc := rfl
@[simp] theorem uVel_flash (g) : (s.uVel g).flash = s.flash := rfl
@[simp] theorem uVel_fuses (g) : (s.uVel g).fuses = s.fuses := rfl
@[simp] theorem uVel_acc (g) : (s.uVel g).acc = s.acc := rfl
@[simp] theorem uVel_pins (g) : (s.uVel g).pins = s.pins := rfl
@[simp] theorem uVel_sbE (g) : (s.uVel g).sbE = s.sbE := rfl
@[simp] theorem uVel_sbW (g) : (s.uVel g).sbW = s.sbW := rfl
@[simp] theorem uVel_clk (g) : (s.uVel g).clk = s.clk := rfl
@[simp] theorem uVel_rst (g) : (s.uVel g).rst = s.rst := rfl
@[simp] theorem uVel_time (g) : (s.uVel g).time = s.time := rfl
@[simp] theorem uVel_pwr (g) : (s.uVel g).pwr = s.pwr := rfl
@[simp] theorem uVel_boot (g) : (s.uVel g).boot = s.boot := rfl
@[simp] theorem uVel_evt (g) : (s.uVel g).evt = s.evt := rfl
@[simp] theorem uVel_proof (g) : (s.uVel g).proof = s.proof := rfl
@[simp] theorem uVel_sty (g) : (s.uVel g).sty = s.sty := rfl
@[simp] theorem uVel_out (g) : (s.uVel g).out = s.out := rfl
@[simp] theorem uVel_plates (g) : (s.uVel g).plates = s.plates := rfl
@[simp] theorem uVel_pcie (g) : (s.uVel g).pcie = s.pcie := rfl
@[simp] theorem uVel_tec (g) : (s.uVel g).tec = s.tec := rfl
@[simp] theorem uVel_las (g) : (s.uVel g).las = s.las := rfl
@[simp] theorem uVel_lnk (g) : (s.uVel g).lnk = s.lnk := rfl
@[simp] theorem uVel_repl (g) : (s.uVel g).repl = s.repl := rfl
@[simp] theorem uVel_pkg (g) : (s.uVel g).pkg = s.pkg := rfl
@[simp] theorem uVel_clu (g) : (s.uVel g).clu = s.clu := rfl
@[simp] theorem uVel_cl (g) : (s.uVel g).cl = s.cl := rfl
@[simp] theorem uVel_scr (g) : (s.uVel g).scr = s.scr := rfl
@[simp] theorem uVel_agree (g) : (s.uVel g).agree = s.agree := rfl
@[simp] theorem uVel_hmk (g) : (s.uVel g).hmk = s.hmk := rfl
@[simp] theorem uVel_fab (g) : (s.uVel g).fab = s.fab := rfl
@[simp] theorem uVel_rings (g) : (s.uVel g).rings = s.rings := rfl
@[simp] theorem uVel_maps (g) : (s.uVel g).maps = s.maps := rfl
@[simp] theorem uVel_tkt (g) : (s.uVel g).tkt = s.tkt := rfl
@[simp] theorem uVel_xfe (g) : (s.uVel g).xfe = s.xfe := rfl
@[simp] theorem uVel_mem (g) : (s.uVel g).mem = s.mem := rfl
@[simp] theorem uVel_mgmt (g) : (s.uVel g).mgmt = s.mgmt := rfl

@[simp] theorem uVelEcc_pending (g) : (s.uVelEcc g).pending = s.pending := rfl
@[simp] theorem uVelEcc_ct (g) : (s.uVelEcc g).ct = s.ct := rfl
@[simp] theorem uVelEcc_ticks (g) : (s.uVelEcc g).ticks = s.ticks := rfl
@[simp] theorem uVelEcc_free (g) : (s.uVelEcc g).free = s.free := rfl
@[simp] theorem uVelEcc_regs (g) : (s.uVelEcc g).regs = s.regs := rfl
@[simp] theorem uVelEcc_hbm (g) : (s.uVelEcc g).hbm = s.hbm := rfl
@[simp] theorem uVelEcc_hbmEcc (g) : (s.uVelEcc g).hbmEcc = s.hbmEcc := rfl
@[simp] theorem uVelEcc_vel (g) : (s.uVelEcc g).vel = s.vel := rfl
@[simp] theorem uVelEcc_velEcc (g) : (s.uVelEcc g).velEcc = g s.velEcc := rfl
@[simp] theorem uVelEcc_flash (g) : (s.uVelEcc g).flash = s.flash := rfl
@[simp] theorem uVelEcc_fuses (g) : (s.uVelEcc g).fuses = s.fuses := rfl
@[simp] theorem uVelEcc_acc (g) : (s.uVelEcc g).acc = s.acc := rfl
@[simp] theorem uVelEcc_pins (g) : (s.uVelEcc g).pins = s.pins := rfl
@[simp] theorem uVelEcc_sbE (g) : (s.uVelEcc g).sbE = s.sbE := rfl
@[simp] theorem uVelEcc_sbW (g) : (s.uVelEcc g).sbW = s.sbW := rfl
@[simp] theorem uVelEcc_clk (g) : (s.uVelEcc g).clk = s.clk := rfl
@[simp] theorem uVelEcc_rst (g) : (s.uVelEcc g).rst = s.rst := rfl
@[simp] theorem uVelEcc_time (g) : (s.uVelEcc g).time = s.time := rfl
@[simp] theorem uVelEcc_pwr (g) : (s.uVelEcc g).pwr = s.pwr := rfl
@[simp] theorem uVelEcc_boot (g) : (s.uVelEcc g).boot = s.boot := rfl
@[simp] theorem uVelEcc_evt (g) : (s.uVelEcc g).evt = s.evt := rfl
@[simp] theorem uVelEcc_proof (g) : (s.uVelEcc g).proof = s.proof := rfl
@[simp] theorem uVelEcc_sty (g) : (s.uVelEcc g).sty = s.sty := rfl
@[simp] theorem uVelEcc_out (g) : (s.uVelEcc g).out = s.out := rfl
@[simp] theorem uVelEcc_plates (g) : (s.uVelEcc g).plates = s.plates := rfl
@[simp] theorem uVelEcc_pcie (g) : (s.uVelEcc g).pcie = s.pcie := rfl
@[simp] theorem uVelEcc_tec (g) : (s.uVelEcc g).tec = s.tec := rfl
@[simp] theorem uVelEcc_las (g) : (s.uVelEcc g).las = s.las := rfl
@[simp] theorem uVelEcc_lnk (g) : (s.uVelEcc g).lnk = s.lnk := rfl
@[simp] theorem uVelEcc_repl (g) : (s.uVelEcc g).repl = s.repl := rfl
@[simp] theorem uVelEcc_pkg (g) : (s.uVelEcc g).pkg = s.pkg := rfl
@[simp] theorem uVelEcc_clu (g) : (s.uVelEcc g).clu = s.clu := rfl
@[simp] theorem uVelEcc_cl (g) : (s.uVelEcc g).cl = s.cl := rfl
@[simp] theorem uVelEcc_scr (g) : (s.uVelEcc g).scr = s.scr := rfl
@[simp] theorem uVelEcc_agree (g) : (s.uVelEcc g).agree = s.agree := rfl
@[simp] theorem uVelEcc_hmk (g) : (s.uVelEcc g).hmk = s.hmk := rfl
@[simp] theorem uVelEcc_fab (g) : (s.uVelEcc g).fab = s.fab := rfl
@[simp] theorem uVelEcc_rings (g) : (s.uVelEcc g).rings = s.rings := rfl
@[simp] theorem uVelEcc_maps (g) : (s.uVelEcc g).maps = s.maps := rfl
@[simp] theorem uVelEcc_tkt (g) : (s.uVelEcc g).tkt = s.tkt := rfl
@[simp] theorem uVelEcc_xfe (g) : (s.uVelEcc g).xfe = s.xfe := rfl
@[simp] theorem uVelEcc_mem (g) : (s.uVelEcc g).mem = s.mem := rfl
@[simp] theorem uVelEcc_mgmt (g) : (s.uVelEcc g).mgmt = s.mgmt := rfl

@[simp] theorem uFlash_pending (g) : (s.uFlash g).pending = s.pending := rfl
@[simp] theorem uFlash_ct (g) : (s.uFlash g).ct = s.ct := rfl
@[simp] theorem uFlash_ticks (g) : (s.uFlash g).ticks = s.ticks := rfl
@[simp] theorem uFlash_free (g) : (s.uFlash g).free = s.free := rfl
@[simp] theorem uFlash_regs (g) : (s.uFlash g).regs = s.regs := rfl
@[simp] theorem uFlash_hbm (g) : (s.uFlash g).hbm = s.hbm := rfl
@[simp] theorem uFlash_hbmEcc (g) : (s.uFlash g).hbmEcc = s.hbmEcc := rfl
@[simp] theorem uFlash_vel (g) : (s.uFlash g).vel = s.vel := rfl
@[simp] theorem uFlash_velEcc (g) : (s.uFlash g).velEcc = s.velEcc := rfl
@[simp] theorem uFlash_flash (g) : (s.uFlash g).flash = g s.flash := rfl
@[simp] theorem uFlash_fuses (g) : (s.uFlash g).fuses = s.fuses := rfl
@[simp] theorem uFlash_acc (g) : (s.uFlash g).acc = s.acc := rfl
@[simp] theorem uFlash_pins (g) : (s.uFlash g).pins = s.pins := rfl
@[simp] theorem uFlash_sbE (g) : (s.uFlash g).sbE = s.sbE := rfl
@[simp] theorem uFlash_sbW (g) : (s.uFlash g).sbW = s.sbW := rfl
@[simp] theorem uFlash_clk (g) : (s.uFlash g).clk = s.clk := rfl
@[simp] theorem uFlash_rst (g) : (s.uFlash g).rst = s.rst := rfl
@[simp] theorem uFlash_time (g) : (s.uFlash g).time = s.time := rfl
@[simp] theorem uFlash_pwr (g) : (s.uFlash g).pwr = s.pwr := rfl
@[simp] theorem uFlash_boot (g) : (s.uFlash g).boot = s.boot := rfl
@[simp] theorem uFlash_evt (g) : (s.uFlash g).evt = s.evt := rfl
@[simp] theorem uFlash_proof (g) : (s.uFlash g).proof = s.proof := rfl
@[simp] theorem uFlash_sty (g) : (s.uFlash g).sty = s.sty := rfl
@[simp] theorem uFlash_out (g) : (s.uFlash g).out = s.out := rfl
@[simp] theorem uFlash_plates (g) : (s.uFlash g).plates = s.plates := rfl
@[simp] theorem uFlash_pcie (g) : (s.uFlash g).pcie = s.pcie := rfl
@[simp] theorem uFlash_tec (g) : (s.uFlash g).tec = s.tec := rfl
@[simp] theorem uFlash_las (g) : (s.uFlash g).las = s.las := rfl
@[simp] theorem uFlash_lnk (g) : (s.uFlash g).lnk = s.lnk := rfl
@[simp] theorem uFlash_repl (g) : (s.uFlash g).repl = s.repl := rfl
@[simp] theorem uFlash_pkg (g) : (s.uFlash g).pkg = s.pkg := rfl
@[simp] theorem uFlash_clu (g) : (s.uFlash g).clu = s.clu := rfl
@[simp] theorem uFlash_cl (g) : (s.uFlash g).cl = s.cl := rfl
@[simp] theorem uFlash_scr (g) : (s.uFlash g).scr = s.scr := rfl
@[simp] theorem uFlash_agree (g) : (s.uFlash g).agree = s.agree := rfl
@[simp] theorem uFlash_hmk (g) : (s.uFlash g).hmk = s.hmk := rfl
@[simp] theorem uFlash_fab (g) : (s.uFlash g).fab = s.fab := rfl
@[simp] theorem uFlash_rings (g) : (s.uFlash g).rings = s.rings := rfl
@[simp] theorem uFlash_maps (g) : (s.uFlash g).maps = s.maps := rfl
@[simp] theorem uFlash_tkt (g) : (s.uFlash g).tkt = s.tkt := rfl
@[simp] theorem uFlash_xfe (g) : (s.uFlash g).xfe = s.xfe := rfl
@[simp] theorem uFlash_mem (g) : (s.uFlash g).mem = s.mem := rfl
@[simp] theorem uFlash_mgmt (g) : (s.uFlash g).mgmt = s.mgmt := rfl

@[simp] theorem uFuses_pending (g) : (s.uFuses g).pending = s.pending := rfl
@[simp] theorem uFuses_ct (g) : (s.uFuses g).ct = s.ct := rfl
@[simp] theorem uFuses_ticks (g) : (s.uFuses g).ticks = s.ticks := rfl
@[simp] theorem uFuses_free (g) : (s.uFuses g).free = s.free := rfl
@[simp] theorem uFuses_regs (g) : (s.uFuses g).regs = s.regs := rfl
@[simp] theorem uFuses_hbm (g) : (s.uFuses g).hbm = s.hbm := rfl
@[simp] theorem uFuses_hbmEcc (g) : (s.uFuses g).hbmEcc = s.hbmEcc := rfl
@[simp] theorem uFuses_vel (g) : (s.uFuses g).vel = s.vel := rfl
@[simp] theorem uFuses_velEcc (g) : (s.uFuses g).velEcc = s.velEcc := rfl
@[simp] theorem uFuses_flash (g) : (s.uFuses g).flash = s.flash := rfl
@[simp] theorem uFuses_fuses (g) : (s.uFuses g).fuses = g s.fuses := rfl
@[simp] theorem uFuses_acc (g) : (s.uFuses g).acc = s.acc := rfl
@[simp] theorem uFuses_pins (g) : (s.uFuses g).pins = s.pins := rfl
@[simp] theorem uFuses_sbE (g) : (s.uFuses g).sbE = s.sbE := rfl
@[simp] theorem uFuses_sbW (g) : (s.uFuses g).sbW = s.sbW := rfl
@[simp] theorem uFuses_clk (g) : (s.uFuses g).clk = s.clk := rfl
@[simp] theorem uFuses_rst (g) : (s.uFuses g).rst = s.rst := rfl
@[simp] theorem uFuses_time (g) : (s.uFuses g).time = s.time := rfl
@[simp] theorem uFuses_pwr (g) : (s.uFuses g).pwr = s.pwr := rfl
@[simp] theorem uFuses_boot (g) : (s.uFuses g).boot = s.boot := rfl
@[simp] theorem uFuses_evt (g) : (s.uFuses g).evt = s.evt := rfl
@[simp] theorem uFuses_proof (g) : (s.uFuses g).proof = s.proof := rfl
@[simp] theorem uFuses_sty (g) : (s.uFuses g).sty = s.sty := rfl
@[simp] theorem uFuses_out (g) : (s.uFuses g).out = s.out := rfl
@[simp] theorem uFuses_plates (g) : (s.uFuses g).plates = s.plates := rfl
@[simp] theorem uFuses_pcie (g) : (s.uFuses g).pcie = s.pcie := rfl
@[simp] theorem uFuses_tec (g) : (s.uFuses g).tec = s.tec := rfl
@[simp] theorem uFuses_las (g) : (s.uFuses g).las = s.las := rfl
@[simp] theorem uFuses_lnk (g) : (s.uFuses g).lnk = s.lnk := rfl
@[simp] theorem uFuses_repl (g) : (s.uFuses g).repl = s.repl := rfl
@[simp] theorem uFuses_pkg (g) : (s.uFuses g).pkg = s.pkg := rfl
@[simp] theorem uFuses_clu (g) : (s.uFuses g).clu = s.clu := rfl
@[simp] theorem uFuses_cl (g) : (s.uFuses g).cl = s.cl := rfl
@[simp] theorem uFuses_scr (g) : (s.uFuses g).scr = s.scr := rfl
@[simp] theorem uFuses_agree (g) : (s.uFuses g).agree = s.agree := rfl
@[simp] theorem uFuses_hmk (g) : (s.uFuses g).hmk = s.hmk := rfl
@[simp] theorem uFuses_fab (g) : (s.uFuses g).fab = s.fab := rfl
@[simp] theorem uFuses_rings (g) : (s.uFuses g).rings = s.rings := rfl
@[simp] theorem uFuses_maps (g) : (s.uFuses g).maps = s.maps := rfl
@[simp] theorem uFuses_tkt (g) : (s.uFuses g).tkt = s.tkt := rfl
@[simp] theorem uFuses_xfe (g) : (s.uFuses g).xfe = s.xfe := rfl
@[simp] theorem uFuses_mem (g) : (s.uFuses g).mem = s.mem := rfl
@[simp] theorem uFuses_mgmt (g) : (s.uFuses g).mgmt = s.mgmt := rfl

@[simp] theorem uAcc_pending (g) : (s.uAcc g).pending = s.pending := rfl
@[simp] theorem uAcc_ct (g) : (s.uAcc g).ct = s.ct := rfl
@[simp] theorem uAcc_ticks (g) : (s.uAcc g).ticks = s.ticks := rfl
@[simp] theorem uAcc_free (g) : (s.uAcc g).free = s.free := rfl
@[simp] theorem uAcc_regs (g) : (s.uAcc g).regs = s.regs := rfl
@[simp] theorem uAcc_hbm (g) : (s.uAcc g).hbm = s.hbm := rfl
@[simp] theorem uAcc_hbmEcc (g) : (s.uAcc g).hbmEcc = s.hbmEcc := rfl
@[simp] theorem uAcc_vel (g) : (s.uAcc g).vel = s.vel := rfl
@[simp] theorem uAcc_velEcc (g) : (s.uAcc g).velEcc = s.velEcc := rfl
@[simp] theorem uAcc_flash (g) : (s.uAcc g).flash = s.flash := rfl
@[simp] theorem uAcc_fuses (g) : (s.uAcc g).fuses = s.fuses := rfl
@[simp] theorem uAcc_acc (g) : (s.uAcc g).acc = g s.acc := rfl
@[simp] theorem uAcc_pins (g) : (s.uAcc g).pins = s.pins := rfl
@[simp] theorem uAcc_sbE (g) : (s.uAcc g).sbE = s.sbE := rfl
@[simp] theorem uAcc_sbW (g) : (s.uAcc g).sbW = s.sbW := rfl
@[simp] theorem uAcc_clk (g) : (s.uAcc g).clk = s.clk := rfl
@[simp] theorem uAcc_rst (g) : (s.uAcc g).rst = s.rst := rfl
@[simp] theorem uAcc_time (g) : (s.uAcc g).time = s.time := rfl
@[simp] theorem uAcc_pwr (g) : (s.uAcc g).pwr = s.pwr := rfl
@[simp] theorem uAcc_boot (g) : (s.uAcc g).boot = s.boot := rfl
@[simp] theorem uAcc_evt (g) : (s.uAcc g).evt = s.evt := rfl
@[simp] theorem uAcc_proof (g) : (s.uAcc g).proof = s.proof := rfl
@[simp] theorem uAcc_sty (g) : (s.uAcc g).sty = s.sty := rfl
@[simp] theorem uAcc_out (g) : (s.uAcc g).out = s.out := rfl
@[simp] theorem uAcc_plates (g) : (s.uAcc g).plates = s.plates := rfl
@[simp] theorem uAcc_pcie (g) : (s.uAcc g).pcie = s.pcie := rfl
@[simp] theorem uAcc_tec (g) : (s.uAcc g).tec = s.tec := rfl
@[simp] theorem uAcc_las (g) : (s.uAcc g).las = s.las := rfl
@[simp] theorem uAcc_lnk (g) : (s.uAcc g).lnk = s.lnk := rfl
@[simp] theorem uAcc_repl (g) : (s.uAcc g).repl = s.repl := rfl
@[simp] theorem uAcc_pkg (g) : (s.uAcc g).pkg = s.pkg := rfl
@[simp] theorem uAcc_clu (g) : (s.uAcc g).clu = s.clu := rfl
@[simp] theorem uAcc_cl (g) : (s.uAcc g).cl = s.cl := rfl
@[simp] theorem uAcc_scr (g) : (s.uAcc g).scr = s.scr := rfl
@[simp] theorem uAcc_agree (g) : (s.uAcc g).agree = s.agree := rfl
@[simp] theorem uAcc_hmk (g) : (s.uAcc g).hmk = s.hmk := rfl
@[simp] theorem uAcc_fab (g) : (s.uAcc g).fab = s.fab := rfl
@[simp] theorem uAcc_rings (g) : (s.uAcc g).rings = s.rings := rfl
@[simp] theorem uAcc_maps (g) : (s.uAcc g).maps = s.maps := rfl
@[simp] theorem uAcc_tkt (g) : (s.uAcc g).tkt = s.tkt := rfl
@[simp] theorem uAcc_xfe (g) : (s.uAcc g).xfe = s.xfe := rfl
@[simp] theorem uAcc_mem (g) : (s.uAcc g).mem = s.mem := rfl
@[simp] theorem uAcc_mgmt (g) : (s.uAcc g).mgmt = s.mgmt := rfl

@[simp] theorem uPins_pending (g) : (s.uPins g).pending = s.pending := rfl
@[simp] theorem uPins_ct (g) : (s.uPins g).ct = s.ct := rfl
@[simp] theorem uPins_ticks (g) : (s.uPins g).ticks = s.ticks := rfl
@[simp] theorem uPins_free (g) : (s.uPins g).free = s.free := rfl
@[simp] theorem uPins_regs (g) : (s.uPins g).regs = s.regs := rfl
@[simp] theorem uPins_hbm (g) : (s.uPins g).hbm = s.hbm := rfl
@[simp] theorem uPins_hbmEcc (g) : (s.uPins g).hbmEcc = s.hbmEcc := rfl
@[simp] theorem uPins_vel (g) : (s.uPins g).vel = s.vel := rfl
@[simp] theorem uPins_velEcc (g) : (s.uPins g).velEcc = s.velEcc := rfl
@[simp] theorem uPins_flash (g) : (s.uPins g).flash = s.flash := rfl
@[simp] theorem uPins_fuses (g) : (s.uPins g).fuses = s.fuses := rfl
@[simp] theorem uPins_acc (g) : (s.uPins g).acc = s.acc := rfl
@[simp] theorem uPins_pins (g) : (s.uPins g).pins = g s.pins := rfl
@[simp] theorem uPins_sbE (g) : (s.uPins g).sbE = s.sbE := rfl
@[simp] theorem uPins_sbW (g) : (s.uPins g).sbW = s.sbW := rfl
@[simp] theorem uPins_clk (g) : (s.uPins g).clk = s.clk := rfl
@[simp] theorem uPins_rst (g) : (s.uPins g).rst = s.rst := rfl
@[simp] theorem uPins_time (g) : (s.uPins g).time = s.time := rfl
@[simp] theorem uPins_pwr (g) : (s.uPins g).pwr = s.pwr := rfl
@[simp] theorem uPins_boot (g) : (s.uPins g).boot = s.boot := rfl
@[simp] theorem uPins_evt (g) : (s.uPins g).evt = s.evt := rfl
@[simp] theorem uPins_proof (g) : (s.uPins g).proof = s.proof := rfl
@[simp] theorem uPins_sty (g) : (s.uPins g).sty = s.sty := rfl
@[simp] theorem uPins_out (g) : (s.uPins g).out = s.out := rfl
@[simp] theorem uPins_plates (g) : (s.uPins g).plates = s.plates := rfl
@[simp] theorem uPins_pcie (g) : (s.uPins g).pcie = s.pcie := rfl
@[simp] theorem uPins_tec (g) : (s.uPins g).tec = s.tec := rfl
@[simp] theorem uPins_las (g) : (s.uPins g).las = s.las := rfl
@[simp] theorem uPins_lnk (g) : (s.uPins g).lnk = s.lnk := rfl
@[simp] theorem uPins_repl (g) : (s.uPins g).repl = s.repl := rfl
@[simp] theorem uPins_pkg (g) : (s.uPins g).pkg = s.pkg := rfl
@[simp] theorem uPins_clu (g) : (s.uPins g).clu = s.clu := rfl
@[simp] theorem uPins_cl (g) : (s.uPins g).cl = s.cl := rfl
@[simp] theorem uPins_scr (g) : (s.uPins g).scr = s.scr := rfl
@[simp] theorem uPins_agree (g) : (s.uPins g).agree = s.agree := rfl
@[simp] theorem uPins_hmk (g) : (s.uPins g).hmk = s.hmk := rfl
@[simp] theorem uPins_fab (g) : (s.uPins g).fab = s.fab := rfl
@[simp] theorem uPins_rings (g) : (s.uPins g).rings = s.rings := rfl
@[simp] theorem uPins_maps (g) : (s.uPins g).maps = s.maps := rfl
@[simp] theorem uPins_tkt (g) : (s.uPins g).tkt = s.tkt := rfl
@[simp] theorem uPins_xfe (g) : (s.uPins g).xfe = s.xfe := rfl
@[simp] theorem uPins_mem (g) : (s.uPins g).mem = s.mem := rfl
@[simp] theorem uPins_mgmt (g) : (s.uPins g).mgmt = s.mgmt := rfl

@[simp] theorem uSbE_pending (g) : (s.uSbE g).pending = s.pending := rfl
@[simp] theorem uSbE_ct (g) : (s.uSbE g).ct = s.ct := rfl
@[simp] theorem uSbE_ticks (g) : (s.uSbE g).ticks = s.ticks := rfl
@[simp] theorem uSbE_free (g) : (s.uSbE g).free = s.free := rfl
@[simp] theorem uSbE_regs (g) : (s.uSbE g).regs = s.regs := rfl
@[simp] theorem uSbE_hbm (g) : (s.uSbE g).hbm = s.hbm := rfl
@[simp] theorem uSbE_hbmEcc (g) : (s.uSbE g).hbmEcc = s.hbmEcc := rfl
@[simp] theorem uSbE_vel (g) : (s.uSbE g).vel = s.vel := rfl
@[simp] theorem uSbE_velEcc (g) : (s.uSbE g).velEcc = s.velEcc := rfl
@[simp] theorem uSbE_flash (g) : (s.uSbE g).flash = s.flash := rfl
@[simp] theorem uSbE_fuses (g) : (s.uSbE g).fuses = s.fuses := rfl
@[simp] theorem uSbE_acc (g) : (s.uSbE g).acc = s.acc := rfl
@[simp] theorem uSbE_pins (g) : (s.uSbE g).pins = s.pins := rfl
@[simp] theorem uSbE_sbE (g) : (s.uSbE g).sbE = g s.sbE := rfl
@[simp] theorem uSbE_sbW (g) : (s.uSbE g).sbW = s.sbW := rfl
@[simp] theorem uSbE_clk (g) : (s.uSbE g).clk = s.clk := rfl
@[simp] theorem uSbE_rst (g) : (s.uSbE g).rst = s.rst := rfl
@[simp] theorem uSbE_time (g) : (s.uSbE g).time = s.time := rfl
@[simp] theorem uSbE_pwr (g) : (s.uSbE g).pwr = s.pwr := rfl
@[simp] theorem uSbE_boot (g) : (s.uSbE g).boot = s.boot := rfl
@[simp] theorem uSbE_evt (g) : (s.uSbE g).evt = s.evt := rfl
@[simp] theorem uSbE_proof (g) : (s.uSbE g).proof = s.proof := rfl
@[simp] theorem uSbE_sty (g) : (s.uSbE g).sty = s.sty := rfl
@[simp] theorem uSbE_out (g) : (s.uSbE g).out = s.out := rfl
@[simp] theorem uSbE_plates (g) : (s.uSbE g).plates = s.plates := rfl
@[simp] theorem uSbE_pcie (g) : (s.uSbE g).pcie = s.pcie := rfl
@[simp] theorem uSbE_tec (g) : (s.uSbE g).tec = s.tec := rfl
@[simp] theorem uSbE_las (g) : (s.uSbE g).las = s.las := rfl
@[simp] theorem uSbE_lnk (g) : (s.uSbE g).lnk = s.lnk := rfl
@[simp] theorem uSbE_repl (g) : (s.uSbE g).repl = s.repl := rfl
@[simp] theorem uSbE_pkg (g) : (s.uSbE g).pkg = s.pkg := rfl
@[simp] theorem uSbE_clu (g) : (s.uSbE g).clu = s.clu := rfl
@[simp] theorem uSbE_cl (g) : (s.uSbE g).cl = s.cl := rfl
@[simp] theorem uSbE_scr (g) : (s.uSbE g).scr = s.scr := rfl
@[simp] theorem uSbE_agree (g) : (s.uSbE g).agree = s.agree := rfl
@[simp] theorem uSbE_hmk (g) : (s.uSbE g).hmk = s.hmk := rfl
@[simp] theorem uSbE_fab (g) : (s.uSbE g).fab = s.fab := rfl
@[simp] theorem uSbE_rings (g) : (s.uSbE g).rings = s.rings := rfl
@[simp] theorem uSbE_maps (g) : (s.uSbE g).maps = s.maps := rfl
@[simp] theorem uSbE_tkt (g) : (s.uSbE g).tkt = s.tkt := rfl
@[simp] theorem uSbE_xfe (g) : (s.uSbE g).xfe = s.xfe := rfl
@[simp] theorem uSbE_mem (g) : (s.uSbE g).mem = s.mem := rfl
@[simp] theorem uSbE_mgmt (g) : (s.uSbE g).mgmt = s.mgmt := rfl

@[simp] theorem uSbW_pending (g) : (s.uSbW g).pending = s.pending := rfl
@[simp] theorem uSbW_ct (g) : (s.uSbW g).ct = s.ct := rfl
@[simp] theorem uSbW_ticks (g) : (s.uSbW g).ticks = s.ticks := rfl
@[simp] theorem uSbW_free (g) : (s.uSbW g).free = s.free := rfl
@[simp] theorem uSbW_regs (g) : (s.uSbW g).regs = s.regs := rfl
@[simp] theorem uSbW_hbm (g) : (s.uSbW g).hbm = s.hbm := rfl
@[simp] theorem uSbW_hbmEcc (g) : (s.uSbW g).hbmEcc = s.hbmEcc := rfl
@[simp] theorem uSbW_vel (g) : (s.uSbW g).vel = s.vel := rfl
@[simp] theorem uSbW_velEcc (g) : (s.uSbW g).velEcc = s.velEcc := rfl
@[simp] theorem uSbW_flash (g) : (s.uSbW g).flash = s.flash := rfl
@[simp] theorem uSbW_fuses (g) : (s.uSbW g).fuses = s.fuses := rfl
@[simp] theorem uSbW_acc (g) : (s.uSbW g).acc = s.acc := rfl
@[simp] theorem uSbW_pins (g) : (s.uSbW g).pins = s.pins := rfl
@[simp] theorem uSbW_sbE (g) : (s.uSbW g).sbE = s.sbE := rfl
@[simp] theorem uSbW_sbW (g) : (s.uSbW g).sbW = g s.sbW := rfl
@[simp] theorem uSbW_clk (g) : (s.uSbW g).clk = s.clk := rfl
@[simp] theorem uSbW_rst (g) : (s.uSbW g).rst = s.rst := rfl
@[simp] theorem uSbW_time (g) : (s.uSbW g).time = s.time := rfl
@[simp] theorem uSbW_pwr (g) : (s.uSbW g).pwr = s.pwr := rfl
@[simp] theorem uSbW_boot (g) : (s.uSbW g).boot = s.boot := rfl
@[simp] theorem uSbW_evt (g) : (s.uSbW g).evt = s.evt := rfl
@[simp] theorem uSbW_proof (g) : (s.uSbW g).proof = s.proof := rfl
@[simp] theorem uSbW_sty (g) : (s.uSbW g).sty = s.sty := rfl
@[simp] theorem uSbW_out (g) : (s.uSbW g).out = s.out := rfl
@[simp] theorem uSbW_plates (g) : (s.uSbW g).plates = s.plates := rfl
@[simp] theorem uSbW_pcie (g) : (s.uSbW g).pcie = s.pcie := rfl
@[simp] theorem uSbW_tec (g) : (s.uSbW g).tec = s.tec := rfl
@[simp] theorem uSbW_las (g) : (s.uSbW g).las = s.las := rfl
@[simp] theorem uSbW_lnk (g) : (s.uSbW g).lnk = s.lnk := rfl
@[simp] theorem uSbW_repl (g) : (s.uSbW g).repl = s.repl := rfl
@[simp] theorem uSbW_pkg (g) : (s.uSbW g).pkg = s.pkg := rfl
@[simp] theorem uSbW_clu (g) : (s.uSbW g).clu = s.clu := rfl
@[simp] theorem uSbW_cl (g) : (s.uSbW g).cl = s.cl := rfl
@[simp] theorem uSbW_scr (g) : (s.uSbW g).scr = s.scr := rfl
@[simp] theorem uSbW_agree (g) : (s.uSbW g).agree = s.agree := rfl
@[simp] theorem uSbW_hmk (g) : (s.uSbW g).hmk = s.hmk := rfl
@[simp] theorem uSbW_fab (g) : (s.uSbW g).fab = s.fab := rfl
@[simp] theorem uSbW_rings (g) : (s.uSbW g).rings = s.rings := rfl
@[simp] theorem uSbW_maps (g) : (s.uSbW g).maps = s.maps := rfl
@[simp] theorem uSbW_tkt (g) : (s.uSbW g).tkt = s.tkt := rfl
@[simp] theorem uSbW_xfe (g) : (s.uSbW g).xfe = s.xfe := rfl
@[simp] theorem uSbW_mem (g) : (s.uSbW g).mem = s.mem := rfl
@[simp] theorem uSbW_mgmt (g) : (s.uSbW g).mgmt = s.mgmt := rfl

@[simp] theorem uClk_pending (g) : (s.uClk g).pending = s.pending := rfl
@[simp] theorem uClk_ct (g) : (s.uClk g).ct = s.ct := rfl
@[simp] theorem uClk_ticks (g) : (s.uClk g).ticks = s.ticks := rfl
@[simp] theorem uClk_free (g) : (s.uClk g).free = s.free := rfl
@[simp] theorem uClk_regs (g) : (s.uClk g).regs = s.regs := rfl
@[simp] theorem uClk_hbm (g) : (s.uClk g).hbm = s.hbm := rfl
@[simp] theorem uClk_hbmEcc (g) : (s.uClk g).hbmEcc = s.hbmEcc := rfl
@[simp] theorem uClk_vel (g) : (s.uClk g).vel = s.vel := rfl
@[simp] theorem uClk_velEcc (g) : (s.uClk g).velEcc = s.velEcc := rfl
@[simp] theorem uClk_flash (g) : (s.uClk g).flash = s.flash := rfl
@[simp] theorem uClk_fuses (g) : (s.uClk g).fuses = s.fuses := rfl
@[simp] theorem uClk_acc (g) : (s.uClk g).acc = s.acc := rfl
@[simp] theorem uClk_pins (g) : (s.uClk g).pins = s.pins := rfl
@[simp] theorem uClk_sbE (g) : (s.uClk g).sbE = s.sbE := rfl
@[simp] theorem uClk_sbW (g) : (s.uClk g).sbW = s.sbW := rfl
@[simp] theorem uClk_clk (g) : (s.uClk g).clk = g s.clk := rfl
@[simp] theorem uClk_rst (g) : (s.uClk g).rst = s.rst := rfl
@[simp] theorem uClk_time (g) : (s.uClk g).time = s.time := rfl
@[simp] theorem uClk_pwr (g) : (s.uClk g).pwr = s.pwr := rfl
@[simp] theorem uClk_boot (g) : (s.uClk g).boot = s.boot := rfl
@[simp] theorem uClk_evt (g) : (s.uClk g).evt = s.evt := rfl
@[simp] theorem uClk_proof (g) : (s.uClk g).proof = s.proof := rfl
@[simp] theorem uClk_sty (g) : (s.uClk g).sty = s.sty := rfl
@[simp] theorem uClk_out (g) : (s.uClk g).out = s.out := rfl
@[simp] theorem uClk_plates (g) : (s.uClk g).plates = s.plates := rfl
@[simp] theorem uClk_pcie (g) : (s.uClk g).pcie = s.pcie := rfl
@[simp] theorem uClk_tec (g) : (s.uClk g).tec = s.tec := rfl
@[simp] theorem uClk_las (g) : (s.uClk g).las = s.las := rfl
@[simp] theorem uClk_lnk (g) : (s.uClk g).lnk = s.lnk := rfl
@[simp] theorem uClk_repl (g) : (s.uClk g).repl = s.repl := rfl
@[simp] theorem uClk_pkg (g) : (s.uClk g).pkg = s.pkg := rfl
@[simp] theorem uClk_clu (g) : (s.uClk g).clu = s.clu := rfl
@[simp] theorem uClk_cl (g) : (s.uClk g).cl = s.cl := rfl
@[simp] theorem uClk_scr (g) : (s.uClk g).scr = s.scr := rfl
@[simp] theorem uClk_agree (g) : (s.uClk g).agree = s.agree := rfl
@[simp] theorem uClk_hmk (g) : (s.uClk g).hmk = s.hmk := rfl
@[simp] theorem uClk_fab (g) : (s.uClk g).fab = s.fab := rfl
@[simp] theorem uClk_rings (g) : (s.uClk g).rings = s.rings := rfl
@[simp] theorem uClk_maps (g) : (s.uClk g).maps = s.maps := rfl
@[simp] theorem uClk_tkt (g) : (s.uClk g).tkt = s.tkt := rfl
@[simp] theorem uClk_xfe (g) : (s.uClk g).xfe = s.xfe := rfl
@[simp] theorem uClk_mem (g) : (s.uClk g).mem = s.mem := rfl
@[simp] theorem uClk_mgmt (g) : (s.uClk g).mgmt = s.mgmt := rfl

@[simp] theorem uRst_pending (g) : (s.uRst g).pending = s.pending := rfl
@[simp] theorem uRst_ct (g) : (s.uRst g).ct = s.ct := rfl
@[simp] theorem uRst_ticks (g) : (s.uRst g).ticks = s.ticks := rfl
@[simp] theorem uRst_free (g) : (s.uRst g).free = s.free := rfl
@[simp] theorem uRst_regs (g) : (s.uRst g).regs = s.regs := rfl
@[simp] theorem uRst_hbm (g) : (s.uRst g).hbm = s.hbm := rfl
@[simp] theorem uRst_hbmEcc (g) : (s.uRst g).hbmEcc = s.hbmEcc := rfl
@[simp] theorem uRst_vel (g) : (s.uRst g).vel = s.vel := rfl
@[simp] theorem uRst_velEcc (g) : (s.uRst g).velEcc = s.velEcc := rfl
@[simp] theorem uRst_flash (g) : (s.uRst g).flash = s.flash := rfl
@[simp] theorem uRst_fuses (g) : (s.uRst g).fuses = s.fuses := rfl
@[simp] theorem uRst_acc (g) : (s.uRst g).acc = s.acc := rfl
@[simp] theorem uRst_pins (g) : (s.uRst g).pins = s.pins := rfl
@[simp] theorem uRst_sbE (g) : (s.uRst g).sbE = s.sbE := rfl
@[simp] theorem uRst_sbW (g) : (s.uRst g).sbW = s.sbW := rfl
@[simp] theorem uRst_clk (g) : (s.uRst g).clk = s.clk := rfl
@[simp] theorem uRst_rst (g) : (s.uRst g).rst = g s.rst := rfl
@[simp] theorem uRst_time (g) : (s.uRst g).time = s.time := rfl
@[simp] theorem uRst_pwr (g) : (s.uRst g).pwr = s.pwr := rfl
@[simp] theorem uRst_boot (g) : (s.uRst g).boot = s.boot := rfl
@[simp] theorem uRst_evt (g) : (s.uRst g).evt = s.evt := rfl
@[simp] theorem uRst_proof (g) : (s.uRst g).proof = s.proof := rfl
@[simp] theorem uRst_sty (g) : (s.uRst g).sty = s.sty := rfl
@[simp] theorem uRst_out (g) : (s.uRst g).out = s.out := rfl
@[simp] theorem uRst_plates (g) : (s.uRst g).plates = s.plates := rfl
@[simp] theorem uRst_pcie (g) : (s.uRst g).pcie = s.pcie := rfl
@[simp] theorem uRst_tec (g) : (s.uRst g).tec = s.tec := rfl
@[simp] theorem uRst_las (g) : (s.uRst g).las = s.las := rfl
@[simp] theorem uRst_lnk (g) : (s.uRst g).lnk = s.lnk := rfl
@[simp] theorem uRst_repl (g) : (s.uRst g).repl = s.repl := rfl
@[simp] theorem uRst_pkg (g) : (s.uRst g).pkg = s.pkg := rfl
@[simp] theorem uRst_clu (g) : (s.uRst g).clu = s.clu := rfl
@[simp] theorem uRst_cl (g) : (s.uRst g).cl = s.cl := rfl
@[simp] theorem uRst_scr (g) : (s.uRst g).scr = s.scr := rfl
@[simp] theorem uRst_agree (g) : (s.uRst g).agree = s.agree := rfl
@[simp] theorem uRst_hmk (g) : (s.uRst g).hmk = s.hmk := rfl
@[simp] theorem uRst_fab (g) : (s.uRst g).fab = s.fab := rfl
@[simp] theorem uRst_rings (g) : (s.uRst g).rings = s.rings := rfl
@[simp] theorem uRst_maps (g) : (s.uRst g).maps = s.maps := rfl
@[simp] theorem uRst_tkt (g) : (s.uRst g).tkt = s.tkt := rfl
@[simp] theorem uRst_xfe (g) : (s.uRst g).xfe = s.xfe := rfl
@[simp] theorem uRst_mem (g) : (s.uRst g).mem = s.mem := rfl
@[simp] theorem uRst_mgmt (g) : (s.uRst g).mgmt = s.mgmt := rfl

@[simp] theorem uTime_pending (g) : (s.uTime g).pending = s.pending := rfl
@[simp] theorem uTime_ct (g) : (s.uTime g).ct = s.ct := rfl
@[simp] theorem uTime_ticks (g) : (s.uTime g).ticks = s.ticks := rfl
@[simp] theorem uTime_free (g) : (s.uTime g).free = s.free := rfl
@[simp] theorem uTime_regs (g) : (s.uTime g).regs = s.regs := rfl
@[simp] theorem uTime_hbm (g) : (s.uTime g).hbm = s.hbm := rfl
@[simp] theorem uTime_hbmEcc (g) : (s.uTime g).hbmEcc = s.hbmEcc := rfl
@[simp] theorem uTime_vel (g) : (s.uTime g).vel = s.vel := rfl
@[simp] theorem uTime_velEcc (g) : (s.uTime g).velEcc = s.velEcc := rfl
@[simp] theorem uTime_flash (g) : (s.uTime g).flash = s.flash := rfl
@[simp] theorem uTime_fuses (g) : (s.uTime g).fuses = s.fuses := rfl
@[simp] theorem uTime_acc (g) : (s.uTime g).acc = s.acc := rfl
@[simp] theorem uTime_pins (g) : (s.uTime g).pins = s.pins := rfl
@[simp] theorem uTime_sbE (g) : (s.uTime g).sbE = s.sbE := rfl
@[simp] theorem uTime_sbW (g) : (s.uTime g).sbW = s.sbW := rfl
@[simp] theorem uTime_clk (g) : (s.uTime g).clk = s.clk := rfl
@[simp] theorem uTime_rst (g) : (s.uTime g).rst = s.rst := rfl
@[simp] theorem uTime_time (g) : (s.uTime g).time = g s.time := rfl
@[simp] theorem uTime_pwr (g) : (s.uTime g).pwr = s.pwr := rfl
@[simp] theorem uTime_boot (g) : (s.uTime g).boot = s.boot := rfl
@[simp] theorem uTime_evt (g) : (s.uTime g).evt = s.evt := rfl
@[simp] theorem uTime_proof (g) : (s.uTime g).proof = s.proof := rfl
@[simp] theorem uTime_sty (g) : (s.uTime g).sty = s.sty := rfl
@[simp] theorem uTime_out (g) : (s.uTime g).out = s.out := rfl
@[simp] theorem uTime_plates (g) : (s.uTime g).plates = s.plates := rfl
@[simp] theorem uTime_pcie (g) : (s.uTime g).pcie = s.pcie := rfl
@[simp] theorem uTime_tec (g) : (s.uTime g).tec = s.tec := rfl
@[simp] theorem uTime_las (g) : (s.uTime g).las = s.las := rfl
@[simp] theorem uTime_lnk (g) : (s.uTime g).lnk = s.lnk := rfl
@[simp] theorem uTime_repl (g) : (s.uTime g).repl = s.repl := rfl
@[simp] theorem uTime_pkg (g) : (s.uTime g).pkg = s.pkg := rfl
@[simp] theorem uTime_clu (g) : (s.uTime g).clu = s.clu := rfl
@[simp] theorem uTime_cl (g) : (s.uTime g).cl = s.cl := rfl
@[simp] theorem uTime_scr (g) : (s.uTime g).scr = s.scr := rfl
@[simp] theorem uTime_agree (g) : (s.uTime g).agree = s.agree := rfl
@[simp] theorem uTime_hmk (g) : (s.uTime g).hmk = s.hmk := rfl
@[simp] theorem uTime_fab (g) : (s.uTime g).fab = s.fab := rfl
@[simp] theorem uTime_rings (g) : (s.uTime g).rings = s.rings := rfl
@[simp] theorem uTime_maps (g) : (s.uTime g).maps = s.maps := rfl
@[simp] theorem uTime_tkt (g) : (s.uTime g).tkt = s.tkt := rfl
@[simp] theorem uTime_xfe (g) : (s.uTime g).xfe = s.xfe := rfl
@[simp] theorem uTime_mem (g) : (s.uTime g).mem = s.mem := rfl
@[simp] theorem uTime_mgmt (g) : (s.uTime g).mgmt = s.mgmt := rfl

@[simp] theorem uPwr_pending (g) : (s.uPwr g).pending = s.pending := rfl
@[simp] theorem uPwr_ct (g) : (s.uPwr g).ct = s.ct := rfl
@[simp] theorem uPwr_ticks (g) : (s.uPwr g).ticks = s.ticks := rfl
@[simp] theorem uPwr_free (g) : (s.uPwr g).free = s.free := rfl
@[simp] theorem uPwr_regs (g) : (s.uPwr g).regs = s.regs := rfl
@[simp] theorem uPwr_hbm (g) : (s.uPwr g).hbm = s.hbm := rfl
@[simp] theorem uPwr_hbmEcc (g) : (s.uPwr g).hbmEcc = s.hbmEcc := rfl
@[simp] theorem uPwr_vel (g) : (s.uPwr g).vel = s.vel := rfl
@[simp] theorem uPwr_velEcc (g) : (s.uPwr g).velEcc = s.velEcc := rfl
@[simp] theorem uPwr_flash (g) : (s.uPwr g).flash = s.flash := rfl
@[simp] theorem uPwr_fuses (g) : (s.uPwr g).fuses = s.fuses := rfl
@[simp] theorem uPwr_acc (g) : (s.uPwr g).acc = s.acc := rfl
@[simp] theorem uPwr_pins (g) : (s.uPwr g).pins = s.pins := rfl
@[simp] theorem uPwr_sbE (g) : (s.uPwr g).sbE = s.sbE := rfl
@[simp] theorem uPwr_sbW (g) : (s.uPwr g).sbW = s.sbW := rfl
@[simp] theorem uPwr_clk (g) : (s.uPwr g).clk = s.clk := rfl
@[simp] theorem uPwr_rst (g) : (s.uPwr g).rst = s.rst := rfl
@[simp] theorem uPwr_time (g) : (s.uPwr g).time = s.time := rfl
@[simp] theorem uPwr_pwr (g) : (s.uPwr g).pwr = g s.pwr := rfl
@[simp] theorem uPwr_boot (g) : (s.uPwr g).boot = s.boot := rfl
@[simp] theorem uPwr_evt (g) : (s.uPwr g).evt = s.evt := rfl
@[simp] theorem uPwr_proof (g) : (s.uPwr g).proof = s.proof := rfl
@[simp] theorem uPwr_sty (g) : (s.uPwr g).sty = s.sty := rfl
@[simp] theorem uPwr_out (g) : (s.uPwr g).out = s.out := rfl
@[simp] theorem uPwr_plates (g) : (s.uPwr g).plates = s.plates := rfl
@[simp] theorem uPwr_pcie (g) : (s.uPwr g).pcie = s.pcie := rfl
@[simp] theorem uPwr_tec (g) : (s.uPwr g).tec = s.tec := rfl
@[simp] theorem uPwr_las (g) : (s.uPwr g).las = s.las := rfl
@[simp] theorem uPwr_lnk (g) : (s.uPwr g).lnk = s.lnk := rfl
@[simp] theorem uPwr_repl (g) : (s.uPwr g).repl = s.repl := rfl
@[simp] theorem uPwr_pkg (g) : (s.uPwr g).pkg = s.pkg := rfl
@[simp] theorem uPwr_clu (g) : (s.uPwr g).clu = s.clu := rfl
@[simp] theorem uPwr_cl (g) : (s.uPwr g).cl = s.cl := rfl
@[simp] theorem uPwr_scr (g) : (s.uPwr g).scr = s.scr := rfl
@[simp] theorem uPwr_agree (g) : (s.uPwr g).agree = s.agree := rfl
@[simp] theorem uPwr_hmk (g) : (s.uPwr g).hmk = s.hmk := rfl
@[simp] theorem uPwr_fab (g) : (s.uPwr g).fab = s.fab := rfl
@[simp] theorem uPwr_rings (g) : (s.uPwr g).rings = s.rings := rfl
@[simp] theorem uPwr_maps (g) : (s.uPwr g).maps = s.maps := rfl
@[simp] theorem uPwr_tkt (g) : (s.uPwr g).tkt = s.tkt := rfl
@[simp] theorem uPwr_xfe (g) : (s.uPwr g).xfe = s.xfe := rfl
@[simp] theorem uPwr_mem (g) : (s.uPwr g).mem = s.mem := rfl
@[simp] theorem uPwr_mgmt (g) : (s.uPwr g).mgmt = s.mgmt := rfl

@[simp] theorem uBoot_pending (g) : (s.uBoot g).pending = s.pending := rfl
@[simp] theorem uBoot_ct (g) : (s.uBoot g).ct = s.ct := rfl
@[simp] theorem uBoot_ticks (g) : (s.uBoot g).ticks = s.ticks := rfl
@[simp] theorem uBoot_free (g) : (s.uBoot g).free = s.free := rfl
@[simp] theorem uBoot_regs (g) : (s.uBoot g).regs = s.regs := rfl
@[simp] theorem uBoot_hbm (g) : (s.uBoot g).hbm = s.hbm := rfl
@[simp] theorem uBoot_hbmEcc (g) : (s.uBoot g).hbmEcc = s.hbmEcc := rfl
@[simp] theorem uBoot_vel (g) : (s.uBoot g).vel = s.vel := rfl
@[simp] theorem uBoot_velEcc (g) : (s.uBoot g).velEcc = s.velEcc := rfl
@[simp] theorem uBoot_flash (g) : (s.uBoot g).flash = s.flash := rfl
@[simp] theorem uBoot_fuses (g) : (s.uBoot g).fuses = s.fuses := rfl
@[simp] theorem uBoot_acc (g) : (s.uBoot g).acc = s.acc := rfl
@[simp] theorem uBoot_pins (g) : (s.uBoot g).pins = s.pins := rfl
@[simp] theorem uBoot_sbE (g) : (s.uBoot g).sbE = s.sbE := rfl
@[simp] theorem uBoot_sbW (g) : (s.uBoot g).sbW = s.sbW := rfl
@[simp] theorem uBoot_clk (g) : (s.uBoot g).clk = s.clk := rfl
@[simp] theorem uBoot_rst (g) : (s.uBoot g).rst = s.rst := rfl
@[simp] theorem uBoot_time (g) : (s.uBoot g).time = s.time := rfl
@[simp] theorem uBoot_pwr (g) : (s.uBoot g).pwr = s.pwr := rfl
@[simp] theorem uBoot_boot (g) : (s.uBoot g).boot = g s.boot := rfl
@[simp] theorem uBoot_evt (g) : (s.uBoot g).evt = s.evt := rfl
@[simp] theorem uBoot_proof (g) : (s.uBoot g).proof = s.proof := rfl
@[simp] theorem uBoot_sty (g) : (s.uBoot g).sty = s.sty := rfl
@[simp] theorem uBoot_out (g) : (s.uBoot g).out = s.out := rfl
@[simp] theorem uBoot_plates (g) : (s.uBoot g).plates = s.plates := rfl
@[simp] theorem uBoot_pcie (g) : (s.uBoot g).pcie = s.pcie := rfl
@[simp] theorem uBoot_tec (g) : (s.uBoot g).tec = s.tec := rfl
@[simp] theorem uBoot_las (g) : (s.uBoot g).las = s.las := rfl
@[simp] theorem uBoot_lnk (g) : (s.uBoot g).lnk = s.lnk := rfl
@[simp] theorem uBoot_repl (g) : (s.uBoot g).repl = s.repl := rfl
@[simp] theorem uBoot_pkg (g) : (s.uBoot g).pkg = s.pkg := rfl
@[simp] theorem uBoot_clu (g) : (s.uBoot g).clu = s.clu := rfl
@[simp] theorem uBoot_cl (g) : (s.uBoot g).cl = s.cl := rfl
@[simp] theorem uBoot_scr (g) : (s.uBoot g).scr = s.scr := rfl
@[simp] theorem uBoot_agree (g) : (s.uBoot g).agree = s.agree := rfl
@[simp] theorem uBoot_hmk (g) : (s.uBoot g).hmk = s.hmk := rfl
@[simp] theorem uBoot_fab (g) : (s.uBoot g).fab = s.fab := rfl
@[simp] theorem uBoot_rings (g) : (s.uBoot g).rings = s.rings := rfl
@[simp] theorem uBoot_maps (g) : (s.uBoot g).maps = s.maps := rfl
@[simp] theorem uBoot_tkt (g) : (s.uBoot g).tkt = s.tkt := rfl
@[simp] theorem uBoot_xfe (g) : (s.uBoot g).xfe = s.xfe := rfl
@[simp] theorem uBoot_mem (g) : (s.uBoot g).mem = s.mem := rfl
@[simp] theorem uBoot_mgmt (g) : (s.uBoot g).mgmt = s.mgmt := rfl

@[simp] theorem uEvt_pending (g) : (s.uEvt g).pending = s.pending := rfl
@[simp] theorem uEvt_ct (g) : (s.uEvt g).ct = s.ct := rfl
@[simp] theorem uEvt_ticks (g) : (s.uEvt g).ticks = s.ticks := rfl
@[simp] theorem uEvt_free (g) : (s.uEvt g).free = s.free := rfl
@[simp] theorem uEvt_regs (g) : (s.uEvt g).regs = s.regs := rfl
@[simp] theorem uEvt_hbm (g) : (s.uEvt g).hbm = s.hbm := rfl
@[simp] theorem uEvt_hbmEcc (g) : (s.uEvt g).hbmEcc = s.hbmEcc := rfl
@[simp] theorem uEvt_vel (g) : (s.uEvt g).vel = s.vel := rfl
@[simp] theorem uEvt_velEcc (g) : (s.uEvt g).velEcc = s.velEcc := rfl
@[simp] theorem uEvt_flash (g) : (s.uEvt g).flash = s.flash := rfl
@[simp] theorem uEvt_fuses (g) : (s.uEvt g).fuses = s.fuses := rfl
@[simp] theorem uEvt_acc (g) : (s.uEvt g).acc = s.acc := rfl
@[simp] theorem uEvt_pins (g) : (s.uEvt g).pins = s.pins := rfl
@[simp] theorem uEvt_sbE (g) : (s.uEvt g).sbE = s.sbE := rfl
@[simp] theorem uEvt_sbW (g) : (s.uEvt g).sbW = s.sbW := rfl
@[simp] theorem uEvt_clk (g) : (s.uEvt g).clk = s.clk := rfl
@[simp] theorem uEvt_rst (g) : (s.uEvt g).rst = s.rst := rfl
@[simp] theorem uEvt_time (g) : (s.uEvt g).time = s.time := rfl
@[simp] theorem uEvt_pwr (g) : (s.uEvt g).pwr = s.pwr := rfl
@[simp] theorem uEvt_boot (g) : (s.uEvt g).boot = s.boot := rfl
@[simp] theorem uEvt_evt (g) : (s.uEvt g).evt = g s.evt := rfl
@[simp] theorem uEvt_proof (g) : (s.uEvt g).proof = s.proof := rfl
@[simp] theorem uEvt_sty (g) : (s.uEvt g).sty = s.sty := rfl
@[simp] theorem uEvt_out (g) : (s.uEvt g).out = s.out := rfl
@[simp] theorem uEvt_plates (g) : (s.uEvt g).plates = s.plates := rfl
@[simp] theorem uEvt_pcie (g) : (s.uEvt g).pcie = s.pcie := rfl
@[simp] theorem uEvt_tec (g) : (s.uEvt g).tec = s.tec := rfl
@[simp] theorem uEvt_las (g) : (s.uEvt g).las = s.las := rfl
@[simp] theorem uEvt_lnk (g) : (s.uEvt g).lnk = s.lnk := rfl
@[simp] theorem uEvt_repl (g) : (s.uEvt g).repl = s.repl := rfl
@[simp] theorem uEvt_pkg (g) : (s.uEvt g).pkg = s.pkg := rfl
@[simp] theorem uEvt_clu (g) : (s.uEvt g).clu = s.clu := rfl
@[simp] theorem uEvt_cl (g) : (s.uEvt g).cl = s.cl := rfl
@[simp] theorem uEvt_scr (g) : (s.uEvt g).scr = s.scr := rfl
@[simp] theorem uEvt_agree (g) : (s.uEvt g).agree = s.agree := rfl
@[simp] theorem uEvt_hmk (g) : (s.uEvt g).hmk = s.hmk := rfl
@[simp] theorem uEvt_fab (g) : (s.uEvt g).fab = s.fab := rfl
@[simp] theorem uEvt_rings (g) : (s.uEvt g).rings = s.rings := rfl
@[simp] theorem uEvt_maps (g) : (s.uEvt g).maps = s.maps := rfl
@[simp] theorem uEvt_tkt (g) : (s.uEvt g).tkt = s.tkt := rfl
@[simp] theorem uEvt_xfe (g) : (s.uEvt g).xfe = s.xfe := rfl
@[simp] theorem uEvt_mem (g) : (s.uEvt g).mem = s.mem := rfl
@[simp] theorem uEvt_mgmt (g) : (s.uEvt g).mgmt = s.mgmt := rfl

@[simp] theorem uProof_pending (g) : (s.uProof g).pending = s.pending := rfl
@[simp] theorem uProof_ct (g) : (s.uProof g).ct = s.ct := rfl
@[simp] theorem uProof_ticks (g) : (s.uProof g).ticks = s.ticks := rfl
@[simp] theorem uProof_free (g) : (s.uProof g).free = s.free := rfl
@[simp] theorem uProof_regs (g) : (s.uProof g).regs = s.regs := rfl
@[simp] theorem uProof_hbm (g) : (s.uProof g).hbm = s.hbm := rfl
@[simp] theorem uProof_hbmEcc (g) : (s.uProof g).hbmEcc = s.hbmEcc := rfl
@[simp] theorem uProof_vel (g) : (s.uProof g).vel = s.vel := rfl
@[simp] theorem uProof_velEcc (g) : (s.uProof g).velEcc = s.velEcc := rfl
@[simp] theorem uProof_flash (g) : (s.uProof g).flash = s.flash := rfl
@[simp] theorem uProof_fuses (g) : (s.uProof g).fuses = s.fuses := rfl
@[simp] theorem uProof_acc (g) : (s.uProof g).acc = s.acc := rfl
@[simp] theorem uProof_pins (g) : (s.uProof g).pins = s.pins := rfl
@[simp] theorem uProof_sbE (g) : (s.uProof g).sbE = s.sbE := rfl
@[simp] theorem uProof_sbW (g) : (s.uProof g).sbW = s.sbW := rfl
@[simp] theorem uProof_clk (g) : (s.uProof g).clk = s.clk := rfl
@[simp] theorem uProof_rst (g) : (s.uProof g).rst = s.rst := rfl
@[simp] theorem uProof_time (g) : (s.uProof g).time = s.time := rfl
@[simp] theorem uProof_pwr (g) : (s.uProof g).pwr = s.pwr := rfl
@[simp] theorem uProof_boot (g) : (s.uProof g).boot = s.boot := rfl
@[simp] theorem uProof_evt (g) : (s.uProof g).evt = s.evt := rfl
@[simp] theorem uProof_proof (g) : (s.uProof g).proof = g s.proof := rfl
@[simp] theorem uProof_sty (g) : (s.uProof g).sty = s.sty := rfl
@[simp] theorem uProof_out (g) : (s.uProof g).out = s.out := rfl
@[simp] theorem uProof_plates (g) : (s.uProof g).plates = s.plates := rfl
@[simp] theorem uProof_pcie (g) : (s.uProof g).pcie = s.pcie := rfl
@[simp] theorem uProof_tec (g) : (s.uProof g).tec = s.tec := rfl
@[simp] theorem uProof_las (g) : (s.uProof g).las = s.las := rfl
@[simp] theorem uProof_lnk (g) : (s.uProof g).lnk = s.lnk := rfl
@[simp] theorem uProof_repl (g) : (s.uProof g).repl = s.repl := rfl
@[simp] theorem uProof_pkg (g) : (s.uProof g).pkg = s.pkg := rfl
@[simp] theorem uProof_clu (g) : (s.uProof g).clu = s.clu := rfl
@[simp] theorem uProof_cl (g) : (s.uProof g).cl = s.cl := rfl
@[simp] theorem uProof_scr (g) : (s.uProof g).scr = s.scr := rfl
@[simp] theorem uProof_agree (g) : (s.uProof g).agree = s.agree := rfl
@[simp] theorem uProof_hmk (g) : (s.uProof g).hmk = s.hmk := rfl
@[simp] theorem uProof_fab (g) : (s.uProof g).fab = s.fab := rfl
@[simp] theorem uProof_rings (g) : (s.uProof g).rings = s.rings := rfl
@[simp] theorem uProof_maps (g) : (s.uProof g).maps = s.maps := rfl
@[simp] theorem uProof_tkt (g) : (s.uProof g).tkt = s.tkt := rfl
@[simp] theorem uProof_xfe (g) : (s.uProof g).xfe = s.xfe := rfl
@[simp] theorem uProof_mem (g) : (s.uProof g).mem = s.mem := rfl
@[simp] theorem uProof_mgmt (g) : (s.uProof g).mgmt = s.mgmt := rfl

@[simp] theorem uSty_pending (g) : (s.uSty g).pending = s.pending := rfl
@[simp] theorem uSty_ct (g) : (s.uSty g).ct = s.ct := rfl
@[simp] theorem uSty_ticks (g) : (s.uSty g).ticks = s.ticks := rfl
@[simp] theorem uSty_free (g) : (s.uSty g).free = s.free := rfl
@[simp] theorem uSty_regs (g) : (s.uSty g).regs = s.regs := rfl
@[simp] theorem uSty_hbm (g) : (s.uSty g).hbm = s.hbm := rfl
@[simp] theorem uSty_hbmEcc (g) : (s.uSty g).hbmEcc = s.hbmEcc := rfl
@[simp] theorem uSty_vel (g) : (s.uSty g).vel = s.vel := rfl
@[simp] theorem uSty_velEcc (g) : (s.uSty g).velEcc = s.velEcc := rfl
@[simp] theorem uSty_flash (g) : (s.uSty g).flash = s.flash := rfl
@[simp] theorem uSty_fuses (g) : (s.uSty g).fuses = s.fuses := rfl
@[simp] theorem uSty_acc (g) : (s.uSty g).acc = s.acc := rfl
@[simp] theorem uSty_pins (g) : (s.uSty g).pins = s.pins := rfl
@[simp] theorem uSty_sbE (g) : (s.uSty g).sbE = s.sbE := rfl
@[simp] theorem uSty_sbW (g) : (s.uSty g).sbW = s.sbW := rfl
@[simp] theorem uSty_clk (g) : (s.uSty g).clk = s.clk := rfl
@[simp] theorem uSty_rst (g) : (s.uSty g).rst = s.rst := rfl
@[simp] theorem uSty_time (g) : (s.uSty g).time = s.time := rfl
@[simp] theorem uSty_pwr (g) : (s.uSty g).pwr = s.pwr := rfl
@[simp] theorem uSty_boot (g) : (s.uSty g).boot = s.boot := rfl
@[simp] theorem uSty_evt (g) : (s.uSty g).evt = s.evt := rfl
@[simp] theorem uSty_proof (g) : (s.uSty g).proof = s.proof := rfl
@[simp] theorem uSty_sty (g) : (s.uSty g).sty = g s.sty := rfl
@[simp] theorem uSty_out (g) : (s.uSty g).out = s.out := rfl
@[simp] theorem uSty_plates (g) : (s.uSty g).plates = s.plates := rfl
@[simp] theorem uSty_pcie (g) : (s.uSty g).pcie = s.pcie := rfl
@[simp] theorem uSty_tec (g) : (s.uSty g).tec = s.tec := rfl
@[simp] theorem uSty_las (g) : (s.uSty g).las = s.las := rfl
@[simp] theorem uSty_lnk (g) : (s.uSty g).lnk = s.lnk := rfl
@[simp] theorem uSty_repl (g) : (s.uSty g).repl = s.repl := rfl
@[simp] theorem uSty_pkg (g) : (s.uSty g).pkg = s.pkg := rfl
@[simp] theorem uSty_clu (g) : (s.uSty g).clu = s.clu := rfl
@[simp] theorem uSty_cl (g) : (s.uSty g).cl = s.cl := rfl
@[simp] theorem uSty_scr (g) : (s.uSty g).scr = s.scr := rfl
@[simp] theorem uSty_agree (g) : (s.uSty g).agree = s.agree := rfl
@[simp] theorem uSty_hmk (g) : (s.uSty g).hmk = s.hmk := rfl
@[simp] theorem uSty_fab (g) : (s.uSty g).fab = s.fab := rfl
@[simp] theorem uSty_rings (g) : (s.uSty g).rings = s.rings := rfl
@[simp] theorem uSty_maps (g) : (s.uSty g).maps = s.maps := rfl
@[simp] theorem uSty_tkt (g) : (s.uSty g).tkt = s.tkt := rfl
@[simp] theorem uSty_xfe (g) : (s.uSty g).xfe = s.xfe := rfl
@[simp] theorem uSty_mem (g) : (s.uSty g).mem = s.mem := rfl
@[simp] theorem uSty_mgmt (g) : (s.uSty g).mgmt = s.mgmt := rfl

@[simp] theorem uOut_pending (g) : (s.uOut g).pending = s.pending := rfl
@[simp] theorem uOut_ct (g) : (s.uOut g).ct = s.ct := rfl
@[simp] theorem uOut_ticks (g) : (s.uOut g).ticks = s.ticks := rfl
@[simp] theorem uOut_free (g) : (s.uOut g).free = s.free := rfl
@[simp] theorem uOut_regs (g) : (s.uOut g).regs = s.regs := rfl
@[simp] theorem uOut_hbm (g) : (s.uOut g).hbm = s.hbm := rfl
@[simp] theorem uOut_hbmEcc (g) : (s.uOut g).hbmEcc = s.hbmEcc := rfl
@[simp] theorem uOut_vel (g) : (s.uOut g).vel = s.vel := rfl
@[simp] theorem uOut_velEcc (g) : (s.uOut g).velEcc = s.velEcc := rfl
@[simp] theorem uOut_flash (g) : (s.uOut g).flash = s.flash := rfl
@[simp] theorem uOut_fuses (g) : (s.uOut g).fuses = s.fuses := rfl
@[simp] theorem uOut_acc (g) : (s.uOut g).acc = s.acc := rfl
@[simp] theorem uOut_pins (g) : (s.uOut g).pins = s.pins := rfl
@[simp] theorem uOut_sbE (g) : (s.uOut g).sbE = s.sbE := rfl
@[simp] theorem uOut_sbW (g) : (s.uOut g).sbW = s.sbW := rfl
@[simp] theorem uOut_clk (g) : (s.uOut g).clk = s.clk := rfl
@[simp] theorem uOut_rst (g) : (s.uOut g).rst = s.rst := rfl
@[simp] theorem uOut_time (g) : (s.uOut g).time = s.time := rfl
@[simp] theorem uOut_pwr (g) : (s.uOut g).pwr = s.pwr := rfl
@[simp] theorem uOut_boot (g) : (s.uOut g).boot = s.boot := rfl
@[simp] theorem uOut_evt (g) : (s.uOut g).evt = s.evt := rfl
@[simp] theorem uOut_proof (g) : (s.uOut g).proof = s.proof := rfl
@[simp] theorem uOut_sty (g) : (s.uOut g).sty = s.sty := rfl
@[simp] theorem uOut_out (g) : (s.uOut g).out = g s.out := rfl
@[simp] theorem uOut_plates (g) : (s.uOut g).plates = s.plates := rfl
@[simp] theorem uOut_pcie (g) : (s.uOut g).pcie = s.pcie := rfl
@[simp] theorem uOut_tec (g) : (s.uOut g).tec = s.tec := rfl
@[simp] theorem uOut_las (g) : (s.uOut g).las = s.las := rfl
@[simp] theorem uOut_lnk (g) : (s.uOut g).lnk = s.lnk := rfl
@[simp] theorem uOut_repl (g) : (s.uOut g).repl = s.repl := rfl
@[simp] theorem uOut_pkg (g) : (s.uOut g).pkg = s.pkg := rfl
@[simp] theorem uOut_clu (g) : (s.uOut g).clu = s.clu := rfl
@[simp] theorem uOut_cl (g) : (s.uOut g).cl = s.cl := rfl
@[simp] theorem uOut_scr (g) : (s.uOut g).scr = s.scr := rfl
@[simp] theorem uOut_agree (g) : (s.uOut g).agree = s.agree := rfl
@[simp] theorem uOut_hmk (g) : (s.uOut g).hmk = s.hmk := rfl
@[simp] theorem uOut_fab (g) : (s.uOut g).fab = s.fab := rfl
@[simp] theorem uOut_rings (g) : (s.uOut g).rings = s.rings := rfl
@[simp] theorem uOut_maps (g) : (s.uOut g).maps = s.maps := rfl
@[simp] theorem uOut_tkt (g) : (s.uOut g).tkt = s.tkt := rfl
@[simp] theorem uOut_xfe (g) : (s.uOut g).xfe = s.xfe := rfl
@[simp] theorem uOut_mem (g) : (s.uOut g).mem = s.mem := rfl
@[simp] theorem uOut_mgmt (g) : (s.uOut g).mgmt = s.mgmt := rfl

@[simp] theorem uPlates_pending (g) : (s.uPlates g).pending = s.pending := rfl
@[simp] theorem uPlates_ct (g) : (s.uPlates g).ct = s.ct := rfl
@[simp] theorem uPlates_ticks (g) : (s.uPlates g).ticks = s.ticks := rfl
@[simp] theorem uPlates_free (g) : (s.uPlates g).free = s.free := rfl
@[simp] theorem uPlates_regs (g) : (s.uPlates g).regs = s.regs := rfl
@[simp] theorem uPlates_hbm (g) : (s.uPlates g).hbm = s.hbm := rfl
@[simp] theorem uPlates_hbmEcc (g) : (s.uPlates g).hbmEcc = s.hbmEcc := rfl
@[simp] theorem uPlates_vel (g) : (s.uPlates g).vel = s.vel := rfl
@[simp] theorem uPlates_velEcc (g) : (s.uPlates g).velEcc = s.velEcc := rfl
@[simp] theorem uPlates_flash (g) : (s.uPlates g).flash = s.flash := rfl
@[simp] theorem uPlates_fuses (g) : (s.uPlates g).fuses = s.fuses := rfl
@[simp] theorem uPlates_acc (g) : (s.uPlates g).acc = s.acc := rfl
@[simp] theorem uPlates_pins (g) : (s.uPlates g).pins = s.pins := rfl
@[simp] theorem uPlates_sbE (g) : (s.uPlates g).sbE = s.sbE := rfl
@[simp] theorem uPlates_sbW (g) : (s.uPlates g).sbW = s.sbW := rfl
@[simp] theorem uPlates_clk (g) : (s.uPlates g).clk = s.clk := rfl
@[simp] theorem uPlates_rst (g) : (s.uPlates g).rst = s.rst := rfl
@[simp] theorem uPlates_time (g) : (s.uPlates g).time = s.time := rfl
@[simp] theorem uPlates_pwr (g) : (s.uPlates g).pwr = s.pwr := rfl
@[simp] theorem uPlates_boot (g) : (s.uPlates g).boot = s.boot := rfl
@[simp] theorem uPlates_evt (g) : (s.uPlates g).evt = s.evt := rfl
@[simp] theorem uPlates_proof (g) : (s.uPlates g).proof = s.proof := rfl
@[simp] theorem uPlates_sty (g) : (s.uPlates g).sty = s.sty := rfl
@[simp] theorem uPlates_out (g) : (s.uPlates g).out = s.out := rfl
@[simp] theorem uPlates_plates (g) : (s.uPlates g).plates = g s.plates := rfl
@[simp] theorem uPlates_pcie (g) : (s.uPlates g).pcie = s.pcie := rfl
@[simp] theorem uPlates_tec (g) : (s.uPlates g).tec = s.tec := rfl
@[simp] theorem uPlates_las (g) : (s.uPlates g).las = s.las := rfl
@[simp] theorem uPlates_lnk (g) : (s.uPlates g).lnk = s.lnk := rfl
@[simp] theorem uPlates_repl (g) : (s.uPlates g).repl = s.repl := rfl
@[simp] theorem uPlates_pkg (g) : (s.uPlates g).pkg = s.pkg := rfl
@[simp] theorem uPlates_clu (g) : (s.uPlates g).clu = s.clu := rfl
@[simp] theorem uPlates_cl (g) : (s.uPlates g).cl = s.cl := rfl
@[simp] theorem uPlates_scr (g) : (s.uPlates g).scr = s.scr := rfl
@[simp] theorem uPlates_agree (g) : (s.uPlates g).agree = s.agree := rfl
@[simp] theorem uPlates_hmk (g) : (s.uPlates g).hmk = s.hmk := rfl
@[simp] theorem uPlates_fab (g) : (s.uPlates g).fab = s.fab := rfl
@[simp] theorem uPlates_rings (g) : (s.uPlates g).rings = s.rings := rfl
@[simp] theorem uPlates_maps (g) : (s.uPlates g).maps = s.maps := rfl
@[simp] theorem uPlates_tkt (g) : (s.uPlates g).tkt = s.tkt := rfl
@[simp] theorem uPlates_xfe (g) : (s.uPlates g).xfe = s.xfe := rfl
@[simp] theorem uPlates_mem (g) : (s.uPlates g).mem = s.mem := rfl
@[simp] theorem uPlates_mgmt (g) : (s.uPlates g).mgmt = s.mgmt := rfl

@[simp] theorem uPcie_pending (g) : (s.uPcie g).pending = s.pending := rfl
@[simp] theorem uPcie_ct (g) : (s.uPcie g).ct = s.ct := rfl
@[simp] theorem uPcie_ticks (g) : (s.uPcie g).ticks = s.ticks := rfl
@[simp] theorem uPcie_free (g) : (s.uPcie g).free = s.free := rfl
@[simp] theorem uPcie_regs (g) : (s.uPcie g).regs = s.regs := rfl
@[simp] theorem uPcie_hbm (g) : (s.uPcie g).hbm = s.hbm := rfl
@[simp] theorem uPcie_hbmEcc (g) : (s.uPcie g).hbmEcc = s.hbmEcc := rfl
@[simp] theorem uPcie_vel (g) : (s.uPcie g).vel = s.vel := rfl
@[simp] theorem uPcie_velEcc (g) : (s.uPcie g).velEcc = s.velEcc := rfl
@[simp] theorem uPcie_flash (g) : (s.uPcie g).flash = s.flash := rfl
@[simp] theorem uPcie_fuses (g) : (s.uPcie g).fuses = s.fuses := rfl
@[simp] theorem uPcie_acc (g) : (s.uPcie g).acc = s.acc := rfl
@[simp] theorem uPcie_pins (g) : (s.uPcie g).pins = s.pins := rfl
@[simp] theorem uPcie_sbE (g) : (s.uPcie g).sbE = s.sbE := rfl
@[simp] theorem uPcie_sbW (g) : (s.uPcie g).sbW = s.sbW := rfl
@[simp] theorem uPcie_clk (g) : (s.uPcie g).clk = s.clk := rfl
@[simp] theorem uPcie_rst (g) : (s.uPcie g).rst = s.rst := rfl
@[simp] theorem uPcie_time (g) : (s.uPcie g).time = s.time := rfl
@[simp] theorem uPcie_pwr (g) : (s.uPcie g).pwr = s.pwr := rfl
@[simp] theorem uPcie_boot (g) : (s.uPcie g).boot = s.boot := rfl
@[simp] theorem uPcie_evt (g) : (s.uPcie g).evt = s.evt := rfl
@[simp] theorem uPcie_proof (g) : (s.uPcie g).proof = s.proof := rfl
@[simp] theorem uPcie_sty (g) : (s.uPcie g).sty = s.sty := rfl
@[simp] theorem uPcie_out (g) : (s.uPcie g).out = s.out := rfl
@[simp] theorem uPcie_plates (g) : (s.uPcie g).plates = s.plates := rfl
@[simp] theorem uPcie_pcie (g) : (s.uPcie g).pcie = g s.pcie := rfl
@[simp] theorem uPcie_tec (g) : (s.uPcie g).tec = s.tec := rfl
@[simp] theorem uPcie_las (g) : (s.uPcie g).las = s.las := rfl
@[simp] theorem uPcie_lnk (g) : (s.uPcie g).lnk = s.lnk := rfl
@[simp] theorem uPcie_repl (g) : (s.uPcie g).repl = s.repl := rfl
@[simp] theorem uPcie_pkg (g) : (s.uPcie g).pkg = s.pkg := rfl
@[simp] theorem uPcie_clu (g) : (s.uPcie g).clu = s.clu := rfl
@[simp] theorem uPcie_cl (g) : (s.uPcie g).cl = s.cl := rfl
@[simp] theorem uPcie_scr (g) : (s.uPcie g).scr = s.scr := rfl
@[simp] theorem uPcie_agree (g) : (s.uPcie g).agree = s.agree := rfl
@[simp] theorem uPcie_hmk (g) : (s.uPcie g).hmk = s.hmk := rfl
@[simp] theorem uPcie_fab (g) : (s.uPcie g).fab = s.fab := rfl
@[simp] theorem uPcie_rings (g) : (s.uPcie g).rings = s.rings := rfl
@[simp] theorem uPcie_maps (g) : (s.uPcie g).maps = s.maps := rfl
@[simp] theorem uPcie_tkt (g) : (s.uPcie g).tkt = s.tkt := rfl
@[simp] theorem uPcie_xfe (g) : (s.uPcie g).xfe = s.xfe := rfl
@[simp] theorem uPcie_mem (g) : (s.uPcie g).mem = s.mem := rfl
@[simp] theorem uPcie_mgmt (g) : (s.uPcie g).mgmt = s.mgmt := rfl

@[simp] theorem uTec_pending (g) : (s.uTec g).pending = s.pending := rfl
@[simp] theorem uTec_ct (g) : (s.uTec g).ct = s.ct := rfl
@[simp] theorem uTec_ticks (g) : (s.uTec g).ticks = s.ticks := rfl
@[simp] theorem uTec_free (g) : (s.uTec g).free = s.free := rfl
@[simp] theorem uTec_regs (g) : (s.uTec g).regs = s.regs := rfl
@[simp] theorem uTec_hbm (g) : (s.uTec g).hbm = s.hbm := rfl
@[simp] theorem uTec_hbmEcc (g) : (s.uTec g).hbmEcc = s.hbmEcc := rfl
@[simp] theorem uTec_vel (g) : (s.uTec g).vel = s.vel := rfl
@[simp] theorem uTec_velEcc (g) : (s.uTec g).velEcc = s.velEcc := rfl
@[simp] theorem uTec_flash (g) : (s.uTec g).flash = s.flash := rfl
@[simp] theorem uTec_fuses (g) : (s.uTec g).fuses = s.fuses := rfl
@[simp] theorem uTec_acc (g) : (s.uTec g).acc = s.acc := rfl
@[simp] theorem uTec_pins (g) : (s.uTec g).pins = s.pins := rfl
@[simp] theorem uTec_sbE (g) : (s.uTec g).sbE = s.sbE := rfl
@[simp] theorem uTec_sbW (g) : (s.uTec g).sbW = s.sbW := rfl
@[simp] theorem uTec_clk (g) : (s.uTec g).clk = s.clk := rfl
@[simp] theorem uTec_rst (g) : (s.uTec g).rst = s.rst := rfl
@[simp] theorem uTec_time (g) : (s.uTec g).time = s.time := rfl
@[simp] theorem uTec_pwr (g) : (s.uTec g).pwr = s.pwr := rfl
@[simp] theorem uTec_boot (g) : (s.uTec g).boot = s.boot := rfl
@[simp] theorem uTec_evt (g) : (s.uTec g).evt = s.evt := rfl
@[simp] theorem uTec_proof (g) : (s.uTec g).proof = s.proof := rfl
@[simp] theorem uTec_sty (g) : (s.uTec g).sty = s.sty := rfl
@[simp] theorem uTec_out (g) : (s.uTec g).out = s.out := rfl
@[simp] theorem uTec_plates (g) : (s.uTec g).plates = s.plates := rfl
@[simp] theorem uTec_pcie (g) : (s.uTec g).pcie = s.pcie := rfl
@[simp] theorem uTec_tec (g) : (s.uTec g).tec = g s.tec := rfl
@[simp] theorem uTec_las (g) : (s.uTec g).las = s.las := rfl
@[simp] theorem uTec_lnk (g) : (s.uTec g).lnk = s.lnk := rfl
@[simp] theorem uTec_repl (g) : (s.uTec g).repl = s.repl := rfl
@[simp] theorem uTec_pkg (g) : (s.uTec g).pkg = s.pkg := rfl
@[simp] theorem uTec_clu (g) : (s.uTec g).clu = s.clu := rfl
@[simp] theorem uTec_cl (g) : (s.uTec g).cl = s.cl := rfl
@[simp] theorem uTec_scr (g) : (s.uTec g).scr = s.scr := rfl
@[simp] theorem uTec_agree (g) : (s.uTec g).agree = s.agree := rfl
@[simp] theorem uTec_hmk (g) : (s.uTec g).hmk = s.hmk := rfl
@[simp] theorem uTec_fab (g) : (s.uTec g).fab = s.fab := rfl
@[simp] theorem uTec_rings (g) : (s.uTec g).rings = s.rings := rfl
@[simp] theorem uTec_maps (g) : (s.uTec g).maps = s.maps := rfl
@[simp] theorem uTec_tkt (g) : (s.uTec g).tkt = s.tkt := rfl
@[simp] theorem uTec_xfe (g) : (s.uTec g).xfe = s.xfe := rfl
@[simp] theorem uTec_mem (g) : (s.uTec g).mem = s.mem := rfl
@[simp] theorem uTec_mgmt (g) : (s.uTec g).mgmt = s.mgmt := rfl

@[simp] theorem uLas_pending (g) : (s.uLas g).pending = s.pending := rfl
@[simp] theorem uLas_ct (g) : (s.uLas g).ct = s.ct := rfl
@[simp] theorem uLas_ticks (g) : (s.uLas g).ticks = s.ticks := rfl
@[simp] theorem uLas_free (g) : (s.uLas g).free = s.free := rfl
@[simp] theorem uLas_regs (g) : (s.uLas g).regs = s.regs := rfl
@[simp] theorem uLas_hbm (g) : (s.uLas g).hbm = s.hbm := rfl
@[simp] theorem uLas_hbmEcc (g) : (s.uLas g).hbmEcc = s.hbmEcc := rfl
@[simp] theorem uLas_vel (g) : (s.uLas g).vel = s.vel := rfl
@[simp] theorem uLas_velEcc (g) : (s.uLas g).velEcc = s.velEcc := rfl
@[simp] theorem uLas_flash (g) : (s.uLas g).flash = s.flash := rfl
@[simp] theorem uLas_fuses (g) : (s.uLas g).fuses = s.fuses := rfl
@[simp] theorem uLas_acc (g) : (s.uLas g).acc = s.acc := rfl
@[simp] theorem uLas_pins (g) : (s.uLas g).pins = s.pins := rfl
@[simp] theorem uLas_sbE (g) : (s.uLas g).sbE = s.sbE := rfl
@[simp] theorem uLas_sbW (g) : (s.uLas g).sbW = s.sbW := rfl
@[simp] theorem uLas_clk (g) : (s.uLas g).clk = s.clk := rfl
@[simp] theorem uLas_rst (g) : (s.uLas g).rst = s.rst := rfl
@[simp] theorem uLas_time (g) : (s.uLas g).time = s.time := rfl
@[simp] theorem uLas_pwr (g) : (s.uLas g).pwr = s.pwr := rfl
@[simp] theorem uLas_boot (g) : (s.uLas g).boot = s.boot := rfl
@[simp] theorem uLas_evt (g) : (s.uLas g).evt = s.evt := rfl
@[simp] theorem uLas_proof (g) : (s.uLas g).proof = s.proof := rfl
@[simp] theorem uLas_sty (g) : (s.uLas g).sty = s.sty := rfl
@[simp] theorem uLas_out (g) : (s.uLas g).out = s.out := rfl
@[simp] theorem uLas_plates (g) : (s.uLas g).plates = s.plates := rfl
@[simp] theorem uLas_pcie (g) : (s.uLas g).pcie = s.pcie := rfl
@[simp] theorem uLas_tec (g) : (s.uLas g).tec = s.tec := rfl
@[simp] theorem uLas_las (g) : (s.uLas g).las = g s.las := rfl
@[simp] theorem uLas_lnk (g) : (s.uLas g).lnk = s.lnk := rfl
@[simp] theorem uLas_repl (g) : (s.uLas g).repl = s.repl := rfl
@[simp] theorem uLas_pkg (g) : (s.uLas g).pkg = s.pkg := rfl
@[simp] theorem uLas_clu (g) : (s.uLas g).clu = s.clu := rfl
@[simp] theorem uLas_cl (g) : (s.uLas g).cl = s.cl := rfl
@[simp] theorem uLas_scr (g) : (s.uLas g).scr = s.scr := rfl
@[simp] theorem uLas_agree (g) : (s.uLas g).agree = s.agree := rfl
@[simp] theorem uLas_hmk (g) : (s.uLas g).hmk = s.hmk := rfl
@[simp] theorem uLas_fab (g) : (s.uLas g).fab = s.fab := rfl
@[simp] theorem uLas_rings (g) : (s.uLas g).rings = s.rings := rfl
@[simp] theorem uLas_maps (g) : (s.uLas g).maps = s.maps := rfl
@[simp] theorem uLas_tkt (g) : (s.uLas g).tkt = s.tkt := rfl
@[simp] theorem uLas_xfe (g) : (s.uLas g).xfe = s.xfe := rfl
@[simp] theorem uLas_mem (g) : (s.uLas g).mem = s.mem := rfl
@[simp] theorem uLas_mgmt (g) : (s.uLas g).mgmt = s.mgmt := rfl

@[simp] theorem uLnk_pending (g) : (s.uLnk g).pending = s.pending := rfl
@[simp] theorem uLnk_ct (g) : (s.uLnk g).ct = s.ct := rfl
@[simp] theorem uLnk_ticks (g) : (s.uLnk g).ticks = s.ticks := rfl
@[simp] theorem uLnk_free (g) : (s.uLnk g).free = s.free := rfl
@[simp] theorem uLnk_regs (g) : (s.uLnk g).regs = s.regs := rfl
@[simp] theorem uLnk_hbm (g) : (s.uLnk g).hbm = s.hbm := rfl
@[simp] theorem uLnk_hbmEcc (g) : (s.uLnk g).hbmEcc = s.hbmEcc := rfl
@[simp] theorem uLnk_vel (g) : (s.uLnk g).vel = s.vel := rfl
@[simp] theorem uLnk_velEcc (g) : (s.uLnk g).velEcc = s.velEcc := rfl
@[simp] theorem uLnk_flash (g) : (s.uLnk g).flash = s.flash := rfl
@[simp] theorem uLnk_fuses (g) : (s.uLnk g).fuses = s.fuses := rfl
@[simp] theorem uLnk_acc (g) : (s.uLnk g).acc = s.acc := rfl
@[simp] theorem uLnk_pins (g) : (s.uLnk g).pins = s.pins := rfl
@[simp] theorem uLnk_sbE (g) : (s.uLnk g).sbE = s.sbE := rfl
@[simp] theorem uLnk_sbW (g) : (s.uLnk g).sbW = s.sbW := rfl
@[simp] theorem uLnk_clk (g) : (s.uLnk g).clk = s.clk := rfl
@[simp] theorem uLnk_rst (g) : (s.uLnk g).rst = s.rst := rfl
@[simp] theorem uLnk_time (g) : (s.uLnk g).time = s.time := rfl
@[simp] theorem uLnk_pwr (g) : (s.uLnk g).pwr = s.pwr := rfl
@[simp] theorem uLnk_boot (g) : (s.uLnk g).boot = s.boot := rfl
@[simp] theorem uLnk_evt (g) : (s.uLnk g).evt = s.evt := rfl
@[simp] theorem uLnk_proof (g) : (s.uLnk g).proof = s.proof := rfl
@[simp] theorem uLnk_sty (g) : (s.uLnk g).sty = s.sty := rfl
@[simp] theorem uLnk_out (g) : (s.uLnk g).out = s.out := rfl
@[simp] theorem uLnk_plates (g) : (s.uLnk g).plates = s.plates := rfl
@[simp] theorem uLnk_pcie (g) : (s.uLnk g).pcie = s.pcie := rfl
@[simp] theorem uLnk_tec (g) : (s.uLnk g).tec = s.tec := rfl
@[simp] theorem uLnk_las (g) : (s.uLnk g).las = s.las := rfl
@[simp] theorem uLnk_lnk (g) : (s.uLnk g).lnk = g s.lnk := rfl
@[simp] theorem uLnk_repl (g) : (s.uLnk g).repl = s.repl := rfl
@[simp] theorem uLnk_pkg (g) : (s.uLnk g).pkg = s.pkg := rfl
@[simp] theorem uLnk_clu (g) : (s.uLnk g).clu = s.clu := rfl
@[simp] theorem uLnk_cl (g) : (s.uLnk g).cl = s.cl := rfl
@[simp] theorem uLnk_scr (g) : (s.uLnk g).scr = s.scr := rfl
@[simp] theorem uLnk_agree (g) : (s.uLnk g).agree = s.agree := rfl
@[simp] theorem uLnk_hmk (g) : (s.uLnk g).hmk = s.hmk := rfl
@[simp] theorem uLnk_fab (g) : (s.uLnk g).fab = s.fab := rfl
@[simp] theorem uLnk_rings (g) : (s.uLnk g).rings = s.rings := rfl
@[simp] theorem uLnk_maps (g) : (s.uLnk g).maps = s.maps := rfl
@[simp] theorem uLnk_tkt (g) : (s.uLnk g).tkt = s.tkt := rfl
@[simp] theorem uLnk_xfe (g) : (s.uLnk g).xfe = s.xfe := rfl
@[simp] theorem uLnk_mem (g) : (s.uLnk g).mem = s.mem := rfl
@[simp] theorem uLnk_mgmt (g) : (s.uLnk g).mgmt = s.mgmt := rfl

@[simp] theorem uRepl_pending (g) : (s.uRepl g).pending = s.pending := rfl
@[simp] theorem uRepl_ct (g) : (s.uRepl g).ct = s.ct := rfl
@[simp] theorem uRepl_ticks (g) : (s.uRepl g).ticks = s.ticks := rfl
@[simp] theorem uRepl_free (g) : (s.uRepl g).free = s.free := rfl
@[simp] theorem uRepl_regs (g) : (s.uRepl g).regs = s.regs := rfl
@[simp] theorem uRepl_hbm (g) : (s.uRepl g).hbm = s.hbm := rfl
@[simp] theorem uRepl_hbmEcc (g) : (s.uRepl g).hbmEcc = s.hbmEcc := rfl
@[simp] theorem uRepl_vel (g) : (s.uRepl g).vel = s.vel := rfl
@[simp] theorem uRepl_velEcc (g) : (s.uRepl g).velEcc = s.velEcc := rfl
@[simp] theorem uRepl_flash (g) : (s.uRepl g).flash = s.flash := rfl
@[simp] theorem uRepl_fuses (g) : (s.uRepl g).fuses = s.fuses := rfl
@[simp] theorem uRepl_acc (g) : (s.uRepl g).acc = s.acc := rfl
@[simp] theorem uRepl_pins (g) : (s.uRepl g).pins = s.pins := rfl
@[simp] theorem uRepl_sbE (g) : (s.uRepl g).sbE = s.sbE := rfl
@[simp] theorem uRepl_sbW (g) : (s.uRepl g).sbW = s.sbW := rfl
@[simp] theorem uRepl_clk (g) : (s.uRepl g).clk = s.clk := rfl
@[simp] theorem uRepl_rst (g) : (s.uRepl g).rst = s.rst := rfl
@[simp] theorem uRepl_time (g) : (s.uRepl g).time = s.time := rfl
@[simp] theorem uRepl_pwr (g) : (s.uRepl g).pwr = s.pwr := rfl
@[simp] theorem uRepl_boot (g) : (s.uRepl g).boot = s.boot := rfl
@[simp] theorem uRepl_evt (g) : (s.uRepl g).evt = s.evt := rfl
@[simp] theorem uRepl_proof (g) : (s.uRepl g).proof = s.proof := rfl
@[simp] theorem uRepl_sty (g) : (s.uRepl g).sty = s.sty := rfl
@[simp] theorem uRepl_out (g) : (s.uRepl g).out = s.out := rfl
@[simp] theorem uRepl_plates (g) : (s.uRepl g).plates = s.plates := rfl
@[simp] theorem uRepl_pcie (g) : (s.uRepl g).pcie = s.pcie := rfl
@[simp] theorem uRepl_tec (g) : (s.uRepl g).tec = s.tec := rfl
@[simp] theorem uRepl_las (g) : (s.uRepl g).las = s.las := rfl
@[simp] theorem uRepl_lnk (g) : (s.uRepl g).lnk = s.lnk := rfl
@[simp] theorem uRepl_repl (g) : (s.uRepl g).repl = g s.repl := rfl
@[simp] theorem uRepl_pkg (g) : (s.uRepl g).pkg = s.pkg := rfl
@[simp] theorem uRepl_clu (g) : (s.uRepl g).clu = s.clu := rfl
@[simp] theorem uRepl_cl (g) : (s.uRepl g).cl = s.cl := rfl
@[simp] theorem uRepl_scr (g) : (s.uRepl g).scr = s.scr := rfl
@[simp] theorem uRepl_agree (g) : (s.uRepl g).agree = s.agree := rfl
@[simp] theorem uRepl_hmk (g) : (s.uRepl g).hmk = s.hmk := rfl
@[simp] theorem uRepl_fab (g) : (s.uRepl g).fab = s.fab := rfl
@[simp] theorem uRepl_rings (g) : (s.uRepl g).rings = s.rings := rfl
@[simp] theorem uRepl_maps (g) : (s.uRepl g).maps = s.maps := rfl
@[simp] theorem uRepl_tkt (g) : (s.uRepl g).tkt = s.tkt := rfl
@[simp] theorem uRepl_xfe (g) : (s.uRepl g).xfe = s.xfe := rfl
@[simp] theorem uRepl_mem (g) : (s.uRepl g).mem = s.mem := rfl
@[simp] theorem uRepl_mgmt (g) : (s.uRepl g).mgmt = s.mgmt := rfl

@[simp] theorem uPkg_pending (g) : (s.uPkg g).pending = s.pending := rfl
@[simp] theorem uPkg_ct (g) : (s.uPkg g).ct = s.ct := rfl
@[simp] theorem uPkg_ticks (g) : (s.uPkg g).ticks = s.ticks := rfl
@[simp] theorem uPkg_free (g) : (s.uPkg g).free = s.free := rfl
@[simp] theorem uPkg_regs (g) : (s.uPkg g).regs = s.regs := rfl
@[simp] theorem uPkg_hbm (g) : (s.uPkg g).hbm = s.hbm := rfl
@[simp] theorem uPkg_hbmEcc (g) : (s.uPkg g).hbmEcc = s.hbmEcc := rfl
@[simp] theorem uPkg_vel (g) : (s.uPkg g).vel = s.vel := rfl
@[simp] theorem uPkg_velEcc (g) : (s.uPkg g).velEcc = s.velEcc := rfl
@[simp] theorem uPkg_flash (g) : (s.uPkg g).flash = s.flash := rfl
@[simp] theorem uPkg_fuses (g) : (s.uPkg g).fuses = s.fuses := rfl
@[simp] theorem uPkg_acc (g) : (s.uPkg g).acc = s.acc := rfl
@[simp] theorem uPkg_pins (g) : (s.uPkg g).pins = s.pins := rfl
@[simp] theorem uPkg_sbE (g) : (s.uPkg g).sbE = s.sbE := rfl
@[simp] theorem uPkg_sbW (g) : (s.uPkg g).sbW = s.sbW := rfl
@[simp] theorem uPkg_clk (g) : (s.uPkg g).clk = s.clk := rfl
@[simp] theorem uPkg_rst (g) : (s.uPkg g).rst = s.rst := rfl
@[simp] theorem uPkg_time (g) : (s.uPkg g).time = s.time := rfl
@[simp] theorem uPkg_pwr (g) : (s.uPkg g).pwr = s.pwr := rfl
@[simp] theorem uPkg_boot (g) : (s.uPkg g).boot = s.boot := rfl
@[simp] theorem uPkg_evt (g) : (s.uPkg g).evt = s.evt := rfl
@[simp] theorem uPkg_proof (g) : (s.uPkg g).proof = s.proof := rfl
@[simp] theorem uPkg_sty (g) : (s.uPkg g).sty = s.sty := rfl
@[simp] theorem uPkg_out (g) : (s.uPkg g).out = s.out := rfl
@[simp] theorem uPkg_plates (g) : (s.uPkg g).plates = s.plates := rfl
@[simp] theorem uPkg_pcie (g) : (s.uPkg g).pcie = s.pcie := rfl
@[simp] theorem uPkg_tec (g) : (s.uPkg g).tec = s.tec := rfl
@[simp] theorem uPkg_las (g) : (s.uPkg g).las = s.las := rfl
@[simp] theorem uPkg_lnk (g) : (s.uPkg g).lnk = s.lnk := rfl
@[simp] theorem uPkg_repl (g) : (s.uPkg g).repl = s.repl := rfl
@[simp] theorem uPkg_pkg (g) : (s.uPkg g).pkg = g s.pkg := rfl
@[simp] theorem uPkg_clu (g) : (s.uPkg g).clu = s.clu := rfl
@[simp] theorem uPkg_cl (g) : (s.uPkg g).cl = s.cl := rfl
@[simp] theorem uPkg_scr (g) : (s.uPkg g).scr = s.scr := rfl
@[simp] theorem uPkg_agree (g) : (s.uPkg g).agree = s.agree := rfl
@[simp] theorem uPkg_hmk (g) : (s.uPkg g).hmk = s.hmk := rfl
@[simp] theorem uPkg_fab (g) : (s.uPkg g).fab = s.fab := rfl
@[simp] theorem uPkg_rings (g) : (s.uPkg g).rings = s.rings := rfl
@[simp] theorem uPkg_maps (g) : (s.uPkg g).maps = s.maps := rfl
@[simp] theorem uPkg_tkt (g) : (s.uPkg g).tkt = s.tkt := rfl
@[simp] theorem uPkg_xfe (g) : (s.uPkg g).xfe = s.xfe := rfl
@[simp] theorem uPkg_mem (g) : (s.uPkg g).mem = s.mem := rfl
@[simp] theorem uPkg_mgmt (g) : (s.uPkg g).mgmt = s.mgmt := rfl

@[simp] theorem uClu_pending (g) : (s.uClu g).pending = s.pending := rfl
@[simp] theorem uClu_ct (g) : (s.uClu g).ct = s.ct := rfl
@[simp] theorem uClu_ticks (g) : (s.uClu g).ticks = s.ticks := rfl
@[simp] theorem uClu_free (g) : (s.uClu g).free = s.free := rfl
@[simp] theorem uClu_regs (g) : (s.uClu g).regs = s.regs := rfl
@[simp] theorem uClu_hbm (g) : (s.uClu g).hbm = s.hbm := rfl
@[simp] theorem uClu_hbmEcc (g) : (s.uClu g).hbmEcc = s.hbmEcc := rfl
@[simp] theorem uClu_vel (g) : (s.uClu g).vel = s.vel := rfl
@[simp] theorem uClu_velEcc (g) : (s.uClu g).velEcc = s.velEcc := rfl
@[simp] theorem uClu_flash (g) : (s.uClu g).flash = s.flash := rfl
@[simp] theorem uClu_fuses (g) : (s.uClu g).fuses = s.fuses := rfl
@[simp] theorem uClu_acc (g) : (s.uClu g).acc = s.acc := rfl
@[simp] theorem uClu_pins (g) : (s.uClu g).pins = s.pins := rfl
@[simp] theorem uClu_sbE (g) : (s.uClu g).sbE = s.sbE := rfl
@[simp] theorem uClu_sbW (g) : (s.uClu g).sbW = s.sbW := rfl
@[simp] theorem uClu_clk (g) : (s.uClu g).clk = s.clk := rfl
@[simp] theorem uClu_rst (g) : (s.uClu g).rst = s.rst := rfl
@[simp] theorem uClu_time (g) : (s.uClu g).time = s.time := rfl
@[simp] theorem uClu_pwr (g) : (s.uClu g).pwr = s.pwr := rfl
@[simp] theorem uClu_boot (g) : (s.uClu g).boot = s.boot := rfl
@[simp] theorem uClu_evt (g) : (s.uClu g).evt = s.evt := rfl
@[simp] theorem uClu_proof (g) : (s.uClu g).proof = s.proof := rfl
@[simp] theorem uClu_sty (g) : (s.uClu g).sty = s.sty := rfl
@[simp] theorem uClu_out (g) : (s.uClu g).out = s.out := rfl
@[simp] theorem uClu_plates (g) : (s.uClu g).plates = s.plates := rfl
@[simp] theorem uClu_pcie (g) : (s.uClu g).pcie = s.pcie := rfl
@[simp] theorem uClu_tec (g) : (s.uClu g).tec = s.tec := rfl
@[simp] theorem uClu_las (g) : (s.uClu g).las = s.las := rfl
@[simp] theorem uClu_lnk (g) : (s.uClu g).lnk = s.lnk := rfl
@[simp] theorem uClu_repl (g) : (s.uClu g).repl = s.repl := rfl
@[simp] theorem uClu_pkg (g) : (s.uClu g).pkg = s.pkg := rfl
@[simp] theorem uClu_clu (g) : (s.uClu g).clu = g s.clu := rfl
@[simp] theorem uClu_cl (g) : (s.uClu g).cl = s.cl := rfl
@[simp] theorem uClu_scr (g) : (s.uClu g).scr = s.scr := rfl
@[simp] theorem uClu_agree (g) : (s.uClu g).agree = s.agree := rfl
@[simp] theorem uClu_hmk (g) : (s.uClu g).hmk = s.hmk := rfl
@[simp] theorem uClu_fab (g) : (s.uClu g).fab = s.fab := rfl
@[simp] theorem uClu_rings (g) : (s.uClu g).rings = s.rings := rfl
@[simp] theorem uClu_maps (g) : (s.uClu g).maps = s.maps := rfl
@[simp] theorem uClu_tkt (g) : (s.uClu g).tkt = s.tkt := rfl
@[simp] theorem uClu_xfe (g) : (s.uClu g).xfe = s.xfe := rfl
@[simp] theorem uClu_mem (g) : (s.uClu g).mem = s.mem := rfl
@[simp] theorem uClu_mgmt (g) : (s.uClu g).mgmt = s.mgmt := rfl

@[simp] theorem uCl_pending (g) : (s.uCl g).pending = s.pending := rfl
@[simp] theorem uCl_ct (g) : (s.uCl g).ct = s.ct := rfl
@[simp] theorem uCl_ticks (g) : (s.uCl g).ticks = s.ticks := rfl
@[simp] theorem uCl_free (g) : (s.uCl g).free = s.free := rfl
@[simp] theorem uCl_regs (g) : (s.uCl g).regs = s.regs := rfl
@[simp] theorem uCl_hbm (g) : (s.uCl g).hbm = s.hbm := rfl
@[simp] theorem uCl_hbmEcc (g) : (s.uCl g).hbmEcc = s.hbmEcc := rfl
@[simp] theorem uCl_vel (g) : (s.uCl g).vel = s.vel := rfl
@[simp] theorem uCl_velEcc (g) : (s.uCl g).velEcc = s.velEcc := rfl
@[simp] theorem uCl_flash (g) : (s.uCl g).flash = s.flash := rfl
@[simp] theorem uCl_fuses (g) : (s.uCl g).fuses = s.fuses := rfl
@[simp] theorem uCl_acc (g) : (s.uCl g).acc = s.acc := rfl
@[simp] theorem uCl_pins (g) : (s.uCl g).pins = s.pins := rfl
@[simp] theorem uCl_sbE (g) : (s.uCl g).sbE = s.sbE := rfl
@[simp] theorem uCl_sbW (g) : (s.uCl g).sbW = s.sbW := rfl
@[simp] theorem uCl_clk (g) : (s.uCl g).clk = s.clk := rfl
@[simp] theorem uCl_rst (g) : (s.uCl g).rst = s.rst := rfl
@[simp] theorem uCl_time (g) : (s.uCl g).time = s.time := rfl
@[simp] theorem uCl_pwr (g) : (s.uCl g).pwr = s.pwr := rfl
@[simp] theorem uCl_boot (g) : (s.uCl g).boot = s.boot := rfl
@[simp] theorem uCl_evt (g) : (s.uCl g).evt = s.evt := rfl
@[simp] theorem uCl_proof (g) : (s.uCl g).proof = s.proof := rfl
@[simp] theorem uCl_sty (g) : (s.uCl g).sty = s.sty := rfl
@[simp] theorem uCl_out (g) : (s.uCl g).out = s.out := rfl
@[simp] theorem uCl_plates (g) : (s.uCl g).plates = s.plates := rfl
@[simp] theorem uCl_pcie (g) : (s.uCl g).pcie = s.pcie := rfl
@[simp] theorem uCl_tec (g) : (s.uCl g).tec = s.tec := rfl
@[simp] theorem uCl_las (g) : (s.uCl g).las = s.las := rfl
@[simp] theorem uCl_lnk (g) : (s.uCl g).lnk = s.lnk := rfl
@[simp] theorem uCl_repl (g) : (s.uCl g).repl = s.repl := rfl
@[simp] theorem uCl_pkg (g) : (s.uCl g).pkg = s.pkg := rfl
@[simp] theorem uCl_clu (g) : (s.uCl g).clu = s.clu := rfl
@[simp] theorem uCl_cl (g) : (s.uCl g).cl = g s.cl := rfl
@[simp] theorem uCl_scr (g) : (s.uCl g).scr = s.scr := rfl
@[simp] theorem uCl_agree (g) : (s.uCl g).agree = s.agree := rfl
@[simp] theorem uCl_hmk (g) : (s.uCl g).hmk = s.hmk := rfl
@[simp] theorem uCl_fab (g) : (s.uCl g).fab = s.fab := rfl
@[simp] theorem uCl_rings (g) : (s.uCl g).rings = s.rings := rfl
@[simp] theorem uCl_maps (g) : (s.uCl g).maps = s.maps := rfl
@[simp] theorem uCl_tkt (g) : (s.uCl g).tkt = s.tkt := rfl
@[simp] theorem uCl_xfe (g) : (s.uCl g).xfe = s.xfe := rfl
@[simp] theorem uCl_mem (g) : (s.uCl g).mem = s.mem := rfl
@[simp] theorem uCl_mgmt (g) : (s.uCl g).mgmt = s.mgmt := rfl

@[simp] theorem uScr_pending (g) : (s.uScr g).pending = s.pending := rfl
@[simp] theorem uScr_ct (g) : (s.uScr g).ct = s.ct := rfl
@[simp] theorem uScr_ticks (g) : (s.uScr g).ticks = s.ticks := rfl
@[simp] theorem uScr_free (g) : (s.uScr g).free = s.free := rfl
@[simp] theorem uScr_regs (g) : (s.uScr g).regs = s.regs := rfl
@[simp] theorem uScr_hbm (g) : (s.uScr g).hbm = s.hbm := rfl
@[simp] theorem uScr_hbmEcc (g) : (s.uScr g).hbmEcc = s.hbmEcc := rfl
@[simp] theorem uScr_vel (g) : (s.uScr g).vel = s.vel := rfl
@[simp] theorem uScr_velEcc (g) : (s.uScr g).velEcc = s.velEcc := rfl
@[simp] theorem uScr_flash (g) : (s.uScr g).flash = s.flash := rfl
@[simp] theorem uScr_fuses (g) : (s.uScr g).fuses = s.fuses := rfl
@[simp] theorem uScr_acc (g) : (s.uScr g).acc = s.acc := rfl
@[simp] theorem uScr_pins (g) : (s.uScr g).pins = s.pins := rfl
@[simp] theorem uScr_sbE (g) : (s.uScr g).sbE = s.sbE := rfl
@[simp] theorem uScr_sbW (g) : (s.uScr g).sbW = s.sbW := rfl
@[simp] theorem uScr_clk (g) : (s.uScr g).clk = s.clk := rfl
@[simp] theorem uScr_rst (g) : (s.uScr g).rst = s.rst := rfl
@[simp] theorem uScr_time (g) : (s.uScr g).time = s.time := rfl
@[simp] theorem uScr_pwr (g) : (s.uScr g).pwr = s.pwr := rfl
@[simp] theorem uScr_boot (g) : (s.uScr g).boot = s.boot := rfl
@[simp] theorem uScr_evt (g) : (s.uScr g).evt = s.evt := rfl
@[simp] theorem uScr_proof (g) : (s.uScr g).proof = s.proof := rfl
@[simp] theorem uScr_sty (g) : (s.uScr g).sty = s.sty := rfl
@[simp] theorem uScr_out (g) : (s.uScr g).out = s.out := rfl
@[simp] theorem uScr_plates (g) : (s.uScr g).plates = s.plates := rfl
@[simp] theorem uScr_pcie (g) : (s.uScr g).pcie = s.pcie := rfl
@[simp] theorem uScr_tec (g) : (s.uScr g).tec = s.tec := rfl
@[simp] theorem uScr_las (g) : (s.uScr g).las = s.las := rfl
@[simp] theorem uScr_lnk (g) : (s.uScr g).lnk = s.lnk := rfl
@[simp] theorem uScr_repl (g) : (s.uScr g).repl = s.repl := rfl
@[simp] theorem uScr_pkg (g) : (s.uScr g).pkg = s.pkg := rfl
@[simp] theorem uScr_clu (g) : (s.uScr g).clu = s.clu := rfl
@[simp] theorem uScr_cl (g) : (s.uScr g).cl = s.cl := rfl
@[simp] theorem uScr_scr (g) : (s.uScr g).scr = g s.scr := rfl
@[simp] theorem uScr_agree (g) : (s.uScr g).agree = s.agree := rfl
@[simp] theorem uScr_hmk (g) : (s.uScr g).hmk = s.hmk := rfl
@[simp] theorem uScr_fab (g) : (s.uScr g).fab = s.fab := rfl
@[simp] theorem uScr_rings (g) : (s.uScr g).rings = s.rings := rfl
@[simp] theorem uScr_maps (g) : (s.uScr g).maps = s.maps := rfl
@[simp] theorem uScr_tkt (g) : (s.uScr g).tkt = s.tkt := rfl
@[simp] theorem uScr_xfe (g) : (s.uScr g).xfe = s.xfe := rfl
@[simp] theorem uScr_mem (g) : (s.uScr g).mem = s.mem := rfl
@[simp] theorem uScr_mgmt (g) : (s.uScr g).mgmt = s.mgmt := rfl

@[simp] theorem uAgree_pending (g) : (s.uAgree g).pending = s.pending := rfl
@[simp] theorem uAgree_ct (g) : (s.uAgree g).ct = s.ct := rfl
@[simp] theorem uAgree_ticks (g) : (s.uAgree g).ticks = s.ticks := rfl
@[simp] theorem uAgree_free (g) : (s.uAgree g).free = s.free := rfl
@[simp] theorem uAgree_regs (g) : (s.uAgree g).regs = s.regs := rfl
@[simp] theorem uAgree_hbm (g) : (s.uAgree g).hbm = s.hbm := rfl
@[simp] theorem uAgree_hbmEcc (g) : (s.uAgree g).hbmEcc = s.hbmEcc := rfl
@[simp] theorem uAgree_vel (g) : (s.uAgree g).vel = s.vel := rfl
@[simp] theorem uAgree_velEcc (g) : (s.uAgree g).velEcc = s.velEcc := rfl
@[simp] theorem uAgree_flash (g) : (s.uAgree g).flash = s.flash := rfl
@[simp] theorem uAgree_fuses (g) : (s.uAgree g).fuses = s.fuses := rfl
@[simp] theorem uAgree_acc (g) : (s.uAgree g).acc = s.acc := rfl
@[simp] theorem uAgree_pins (g) : (s.uAgree g).pins = s.pins := rfl
@[simp] theorem uAgree_sbE (g) : (s.uAgree g).sbE = s.sbE := rfl
@[simp] theorem uAgree_sbW (g) : (s.uAgree g).sbW = s.sbW := rfl
@[simp] theorem uAgree_clk (g) : (s.uAgree g).clk = s.clk := rfl
@[simp] theorem uAgree_rst (g) : (s.uAgree g).rst = s.rst := rfl
@[simp] theorem uAgree_time (g) : (s.uAgree g).time = s.time := rfl
@[simp] theorem uAgree_pwr (g) : (s.uAgree g).pwr = s.pwr := rfl
@[simp] theorem uAgree_boot (g) : (s.uAgree g).boot = s.boot := rfl
@[simp] theorem uAgree_evt (g) : (s.uAgree g).evt = s.evt := rfl
@[simp] theorem uAgree_proof (g) : (s.uAgree g).proof = s.proof := rfl
@[simp] theorem uAgree_sty (g) : (s.uAgree g).sty = s.sty := rfl
@[simp] theorem uAgree_out (g) : (s.uAgree g).out = s.out := rfl
@[simp] theorem uAgree_plates (g) : (s.uAgree g).plates = s.plates := rfl
@[simp] theorem uAgree_pcie (g) : (s.uAgree g).pcie = s.pcie := rfl
@[simp] theorem uAgree_tec (g) : (s.uAgree g).tec = s.tec := rfl
@[simp] theorem uAgree_las (g) : (s.uAgree g).las = s.las := rfl
@[simp] theorem uAgree_lnk (g) : (s.uAgree g).lnk = s.lnk := rfl
@[simp] theorem uAgree_repl (g) : (s.uAgree g).repl = s.repl := rfl
@[simp] theorem uAgree_pkg (g) : (s.uAgree g).pkg = s.pkg := rfl
@[simp] theorem uAgree_clu (g) : (s.uAgree g).clu = s.clu := rfl
@[simp] theorem uAgree_cl (g) : (s.uAgree g).cl = s.cl := rfl
@[simp] theorem uAgree_scr (g) : (s.uAgree g).scr = s.scr := rfl
@[simp] theorem uAgree_agree (g) : (s.uAgree g).agree = g s.agree := rfl
@[simp] theorem uAgree_hmk (g) : (s.uAgree g).hmk = s.hmk := rfl
@[simp] theorem uAgree_fab (g) : (s.uAgree g).fab = s.fab := rfl
@[simp] theorem uAgree_rings (g) : (s.uAgree g).rings = s.rings := rfl
@[simp] theorem uAgree_maps (g) : (s.uAgree g).maps = s.maps := rfl
@[simp] theorem uAgree_tkt (g) : (s.uAgree g).tkt = s.tkt := rfl
@[simp] theorem uAgree_xfe (g) : (s.uAgree g).xfe = s.xfe := rfl
@[simp] theorem uAgree_mem (g) : (s.uAgree g).mem = s.mem := rfl
@[simp] theorem uAgree_mgmt (g) : (s.uAgree g).mgmt = s.mgmt := rfl

@[simp] theorem uHmk_pending (g) : (s.uHmk g).pending = s.pending := rfl
@[simp] theorem uHmk_ct (g) : (s.uHmk g).ct = s.ct := rfl
@[simp] theorem uHmk_ticks (g) : (s.uHmk g).ticks = s.ticks := rfl
@[simp] theorem uHmk_free (g) : (s.uHmk g).free = s.free := rfl
@[simp] theorem uHmk_regs (g) : (s.uHmk g).regs = s.regs := rfl
@[simp] theorem uHmk_hbm (g) : (s.uHmk g).hbm = s.hbm := rfl
@[simp] theorem uHmk_hbmEcc (g) : (s.uHmk g).hbmEcc = s.hbmEcc := rfl
@[simp] theorem uHmk_vel (g) : (s.uHmk g).vel = s.vel := rfl
@[simp] theorem uHmk_velEcc (g) : (s.uHmk g).velEcc = s.velEcc := rfl
@[simp] theorem uHmk_flash (g) : (s.uHmk g).flash = s.flash := rfl
@[simp] theorem uHmk_fuses (g) : (s.uHmk g).fuses = s.fuses := rfl
@[simp] theorem uHmk_acc (g) : (s.uHmk g).acc = s.acc := rfl
@[simp] theorem uHmk_pins (g) : (s.uHmk g).pins = s.pins := rfl
@[simp] theorem uHmk_sbE (g) : (s.uHmk g).sbE = s.sbE := rfl
@[simp] theorem uHmk_sbW (g) : (s.uHmk g).sbW = s.sbW := rfl
@[simp] theorem uHmk_clk (g) : (s.uHmk g).clk = s.clk := rfl
@[simp] theorem uHmk_rst (g) : (s.uHmk g).rst = s.rst := rfl
@[simp] theorem uHmk_time (g) : (s.uHmk g).time = s.time := rfl
@[simp] theorem uHmk_pwr (g) : (s.uHmk g).pwr = s.pwr := rfl
@[simp] theorem uHmk_boot (g) : (s.uHmk g).boot = s.boot := rfl
@[simp] theorem uHmk_evt (g) : (s.uHmk g).evt = s.evt := rfl
@[simp] theorem uHmk_proof (g) : (s.uHmk g).proof = s.proof := rfl
@[simp] theorem uHmk_sty (g) : (s.uHmk g).sty = s.sty := rfl
@[simp] theorem uHmk_out (g) : (s.uHmk g).out = s.out := rfl
@[simp] theorem uHmk_plates (g) : (s.uHmk g).plates = s.plates := rfl
@[simp] theorem uHmk_pcie (g) : (s.uHmk g).pcie = s.pcie := rfl
@[simp] theorem uHmk_tec (g) : (s.uHmk g).tec = s.tec := rfl
@[simp] theorem uHmk_las (g) : (s.uHmk g).las = s.las := rfl
@[simp] theorem uHmk_lnk (g) : (s.uHmk g).lnk = s.lnk := rfl
@[simp] theorem uHmk_repl (g) : (s.uHmk g).repl = s.repl := rfl
@[simp] theorem uHmk_pkg (g) : (s.uHmk g).pkg = s.pkg := rfl
@[simp] theorem uHmk_clu (g) : (s.uHmk g).clu = s.clu := rfl
@[simp] theorem uHmk_cl (g) : (s.uHmk g).cl = s.cl := rfl
@[simp] theorem uHmk_scr (g) : (s.uHmk g).scr = s.scr := rfl
@[simp] theorem uHmk_agree (g) : (s.uHmk g).agree = s.agree := rfl
@[simp] theorem uHmk_hmk (g) : (s.uHmk g).hmk = g s.hmk := rfl
@[simp] theorem uHmk_fab (g) : (s.uHmk g).fab = s.fab := rfl
@[simp] theorem uHmk_rings (g) : (s.uHmk g).rings = s.rings := rfl
@[simp] theorem uHmk_maps (g) : (s.uHmk g).maps = s.maps := rfl
@[simp] theorem uHmk_tkt (g) : (s.uHmk g).tkt = s.tkt := rfl
@[simp] theorem uHmk_xfe (g) : (s.uHmk g).xfe = s.xfe := rfl
@[simp] theorem uHmk_mem (g) : (s.uHmk g).mem = s.mem := rfl
@[simp] theorem uHmk_mgmt (g) : (s.uHmk g).mgmt = s.mgmt := rfl

@[simp] theorem uFab_pending (g) : (s.uFab g).pending = s.pending := rfl
@[simp] theorem uFab_ct (g) : (s.uFab g).ct = s.ct := rfl
@[simp] theorem uFab_ticks (g) : (s.uFab g).ticks = s.ticks := rfl
@[simp] theorem uFab_free (g) : (s.uFab g).free = s.free := rfl
@[simp] theorem uFab_regs (g) : (s.uFab g).regs = s.regs := rfl
@[simp] theorem uFab_hbm (g) : (s.uFab g).hbm = s.hbm := rfl
@[simp] theorem uFab_hbmEcc (g) : (s.uFab g).hbmEcc = s.hbmEcc := rfl
@[simp] theorem uFab_vel (g) : (s.uFab g).vel = s.vel := rfl
@[simp] theorem uFab_velEcc (g) : (s.uFab g).velEcc = s.velEcc := rfl
@[simp] theorem uFab_flash (g) : (s.uFab g).flash = s.flash := rfl
@[simp] theorem uFab_fuses (g) : (s.uFab g).fuses = s.fuses := rfl
@[simp] theorem uFab_acc (g) : (s.uFab g).acc = s.acc := rfl
@[simp] theorem uFab_pins (g) : (s.uFab g).pins = s.pins := rfl
@[simp] theorem uFab_sbE (g) : (s.uFab g).sbE = s.sbE := rfl
@[simp] theorem uFab_sbW (g) : (s.uFab g).sbW = s.sbW := rfl
@[simp] theorem uFab_clk (g) : (s.uFab g).clk = s.clk := rfl
@[simp] theorem uFab_rst (g) : (s.uFab g).rst = s.rst := rfl
@[simp] theorem uFab_time (g) : (s.uFab g).time = s.time := rfl
@[simp] theorem uFab_pwr (g) : (s.uFab g).pwr = s.pwr := rfl
@[simp] theorem uFab_boot (g) : (s.uFab g).boot = s.boot := rfl
@[simp] theorem uFab_evt (g) : (s.uFab g).evt = s.evt := rfl
@[simp] theorem uFab_proof (g) : (s.uFab g).proof = s.proof := rfl
@[simp] theorem uFab_sty (g) : (s.uFab g).sty = s.sty := rfl
@[simp] theorem uFab_out (g) : (s.uFab g).out = s.out := rfl
@[simp] theorem uFab_plates (g) : (s.uFab g).plates = s.plates := rfl
@[simp] theorem uFab_pcie (g) : (s.uFab g).pcie = s.pcie := rfl
@[simp] theorem uFab_tec (g) : (s.uFab g).tec = s.tec := rfl
@[simp] theorem uFab_las (g) : (s.uFab g).las = s.las := rfl
@[simp] theorem uFab_lnk (g) : (s.uFab g).lnk = s.lnk := rfl
@[simp] theorem uFab_repl (g) : (s.uFab g).repl = s.repl := rfl
@[simp] theorem uFab_pkg (g) : (s.uFab g).pkg = s.pkg := rfl
@[simp] theorem uFab_clu (g) : (s.uFab g).clu = s.clu := rfl
@[simp] theorem uFab_cl (g) : (s.uFab g).cl = s.cl := rfl
@[simp] theorem uFab_scr (g) : (s.uFab g).scr = s.scr := rfl
@[simp] theorem uFab_agree (g) : (s.uFab g).agree = s.agree := rfl
@[simp] theorem uFab_hmk (g) : (s.uFab g).hmk = s.hmk := rfl
@[simp] theorem uFab_fab (g) : (s.uFab g).fab = g s.fab := rfl
@[simp] theorem uFab_rings (g) : (s.uFab g).rings = s.rings := rfl
@[simp] theorem uFab_maps (g) : (s.uFab g).maps = s.maps := rfl
@[simp] theorem uFab_tkt (g) : (s.uFab g).tkt = s.tkt := rfl
@[simp] theorem uFab_xfe (g) : (s.uFab g).xfe = s.xfe := rfl
@[simp] theorem uFab_mem (g) : (s.uFab g).mem = s.mem := rfl
@[simp] theorem uFab_mgmt (g) : (s.uFab g).mgmt = s.mgmt := rfl

@[simp] theorem uRings_pending (g) : (s.uRings g).pending = s.pending := rfl
@[simp] theorem uRings_ct (g) : (s.uRings g).ct = s.ct := rfl
@[simp] theorem uRings_ticks (g) : (s.uRings g).ticks = s.ticks := rfl
@[simp] theorem uRings_free (g) : (s.uRings g).free = s.free := rfl
@[simp] theorem uRings_regs (g) : (s.uRings g).regs = s.regs := rfl
@[simp] theorem uRings_hbm (g) : (s.uRings g).hbm = s.hbm := rfl
@[simp] theorem uRings_hbmEcc (g) : (s.uRings g).hbmEcc = s.hbmEcc := rfl
@[simp] theorem uRings_vel (g) : (s.uRings g).vel = s.vel := rfl
@[simp] theorem uRings_velEcc (g) : (s.uRings g).velEcc = s.velEcc := rfl
@[simp] theorem uRings_flash (g) : (s.uRings g).flash = s.flash := rfl
@[simp] theorem uRings_fuses (g) : (s.uRings g).fuses = s.fuses := rfl
@[simp] theorem uRings_acc (g) : (s.uRings g).acc = s.acc := rfl
@[simp] theorem uRings_pins (g) : (s.uRings g).pins = s.pins := rfl
@[simp] theorem uRings_sbE (g) : (s.uRings g).sbE = s.sbE := rfl
@[simp] theorem uRings_sbW (g) : (s.uRings g).sbW = s.sbW := rfl
@[simp] theorem uRings_clk (g) : (s.uRings g).clk = s.clk := rfl
@[simp] theorem uRings_rst (g) : (s.uRings g).rst = s.rst := rfl
@[simp] theorem uRings_time (g) : (s.uRings g).time = s.time := rfl
@[simp] theorem uRings_pwr (g) : (s.uRings g).pwr = s.pwr := rfl
@[simp] theorem uRings_boot (g) : (s.uRings g).boot = s.boot := rfl
@[simp] theorem uRings_evt (g) : (s.uRings g).evt = s.evt := rfl
@[simp] theorem uRings_proof (g) : (s.uRings g).proof = s.proof := rfl
@[simp] theorem uRings_sty (g) : (s.uRings g).sty = s.sty := rfl
@[simp] theorem uRings_out (g) : (s.uRings g).out = s.out := rfl
@[simp] theorem uRings_plates (g) : (s.uRings g).plates = s.plates := rfl
@[simp] theorem uRings_pcie (g) : (s.uRings g).pcie = s.pcie := rfl
@[simp] theorem uRings_tec (g) : (s.uRings g).tec = s.tec := rfl
@[simp] theorem uRings_las (g) : (s.uRings g).las = s.las := rfl
@[simp] theorem uRings_lnk (g) : (s.uRings g).lnk = s.lnk := rfl
@[simp] theorem uRings_repl (g) : (s.uRings g).repl = s.repl := rfl
@[simp] theorem uRings_pkg (g) : (s.uRings g).pkg = s.pkg := rfl
@[simp] theorem uRings_clu (g) : (s.uRings g).clu = s.clu := rfl
@[simp] theorem uRings_cl (g) : (s.uRings g).cl = s.cl := rfl
@[simp] theorem uRings_scr (g) : (s.uRings g).scr = s.scr := rfl
@[simp] theorem uRings_agree (g) : (s.uRings g).agree = s.agree := rfl
@[simp] theorem uRings_hmk (g) : (s.uRings g).hmk = s.hmk := rfl
@[simp] theorem uRings_fab (g) : (s.uRings g).fab = s.fab := rfl
@[simp] theorem uRings_rings (g) : (s.uRings g).rings = g s.rings := rfl
@[simp] theorem uRings_maps (g) : (s.uRings g).maps = s.maps := rfl
@[simp] theorem uRings_tkt (g) : (s.uRings g).tkt = s.tkt := rfl
@[simp] theorem uRings_xfe (g) : (s.uRings g).xfe = s.xfe := rfl
@[simp] theorem uRings_mem (g) : (s.uRings g).mem = s.mem := rfl
@[simp] theorem uRings_mgmt (g) : (s.uRings g).mgmt = s.mgmt := rfl

@[simp] theorem uMaps_pending (g) : (s.uMaps g).pending = s.pending := rfl
@[simp] theorem uMaps_ct (g) : (s.uMaps g).ct = s.ct := rfl
@[simp] theorem uMaps_ticks (g) : (s.uMaps g).ticks = s.ticks := rfl
@[simp] theorem uMaps_free (g) : (s.uMaps g).free = s.free := rfl
@[simp] theorem uMaps_regs (g) : (s.uMaps g).regs = s.regs := rfl
@[simp] theorem uMaps_hbm (g) : (s.uMaps g).hbm = s.hbm := rfl
@[simp] theorem uMaps_hbmEcc (g) : (s.uMaps g).hbmEcc = s.hbmEcc := rfl
@[simp] theorem uMaps_vel (g) : (s.uMaps g).vel = s.vel := rfl
@[simp] theorem uMaps_velEcc (g) : (s.uMaps g).velEcc = s.velEcc := rfl
@[simp] theorem uMaps_flash (g) : (s.uMaps g).flash = s.flash := rfl
@[simp] theorem uMaps_fuses (g) : (s.uMaps g).fuses = s.fuses := rfl
@[simp] theorem uMaps_acc (g) : (s.uMaps g).acc = s.acc := rfl
@[simp] theorem uMaps_pins (g) : (s.uMaps g).pins = s.pins := rfl
@[simp] theorem uMaps_sbE (g) : (s.uMaps g).sbE = s.sbE := rfl
@[simp] theorem uMaps_sbW (g) : (s.uMaps g).sbW = s.sbW := rfl
@[simp] theorem uMaps_clk (g) : (s.uMaps g).clk = s.clk := rfl
@[simp] theorem uMaps_rst (g) : (s.uMaps g).rst = s.rst := rfl
@[simp] theorem uMaps_time (g) : (s.uMaps g).time = s.time := rfl
@[simp] theorem uMaps_pwr (g) : (s.uMaps g).pwr = s.pwr := rfl
@[simp] theorem uMaps_boot (g) : (s.uMaps g).boot = s.boot := rfl
@[simp] theorem uMaps_evt (g) : (s.uMaps g).evt = s.evt := rfl
@[simp] theorem uMaps_proof (g) : (s.uMaps g).proof = s.proof := rfl
@[simp] theorem uMaps_sty (g) : (s.uMaps g).sty = s.sty := rfl
@[simp] theorem uMaps_out (g) : (s.uMaps g).out = s.out := rfl
@[simp] theorem uMaps_plates (g) : (s.uMaps g).plates = s.plates := rfl
@[simp] theorem uMaps_pcie (g) : (s.uMaps g).pcie = s.pcie := rfl
@[simp] theorem uMaps_tec (g) : (s.uMaps g).tec = s.tec := rfl
@[simp] theorem uMaps_las (g) : (s.uMaps g).las = s.las := rfl
@[simp] theorem uMaps_lnk (g) : (s.uMaps g).lnk = s.lnk := rfl
@[simp] theorem uMaps_repl (g) : (s.uMaps g).repl = s.repl := rfl
@[simp] theorem uMaps_pkg (g) : (s.uMaps g).pkg = s.pkg := rfl
@[simp] theorem uMaps_clu (g) : (s.uMaps g).clu = s.clu := rfl
@[simp] theorem uMaps_cl (g) : (s.uMaps g).cl = s.cl := rfl
@[simp] theorem uMaps_scr (g) : (s.uMaps g).scr = s.scr := rfl
@[simp] theorem uMaps_agree (g) : (s.uMaps g).agree = s.agree := rfl
@[simp] theorem uMaps_hmk (g) : (s.uMaps g).hmk = s.hmk := rfl
@[simp] theorem uMaps_fab (g) : (s.uMaps g).fab = s.fab := rfl
@[simp] theorem uMaps_rings (g) : (s.uMaps g).rings = s.rings := rfl
@[simp] theorem uMaps_maps (g) : (s.uMaps g).maps = g s.maps := rfl
@[simp] theorem uMaps_tkt (g) : (s.uMaps g).tkt = s.tkt := rfl
@[simp] theorem uMaps_xfe (g) : (s.uMaps g).xfe = s.xfe := rfl
@[simp] theorem uMaps_mem (g) : (s.uMaps g).mem = s.mem := rfl
@[simp] theorem uMaps_mgmt (g) : (s.uMaps g).mgmt = s.mgmt := rfl

@[simp] theorem uTkt_pending (g) : (s.uTkt g).pending = s.pending := rfl
@[simp] theorem uTkt_ct (g) : (s.uTkt g).ct = s.ct := rfl
@[simp] theorem uTkt_ticks (g) : (s.uTkt g).ticks = s.ticks := rfl
@[simp] theorem uTkt_free (g) : (s.uTkt g).free = s.free := rfl
@[simp] theorem uTkt_regs (g) : (s.uTkt g).regs = s.regs := rfl
@[simp] theorem uTkt_hbm (g) : (s.uTkt g).hbm = s.hbm := rfl
@[simp] theorem uTkt_hbmEcc (g) : (s.uTkt g).hbmEcc = s.hbmEcc := rfl
@[simp] theorem uTkt_vel (g) : (s.uTkt g).vel = s.vel := rfl
@[simp] theorem uTkt_velEcc (g) : (s.uTkt g).velEcc = s.velEcc := rfl
@[simp] theorem uTkt_flash (g) : (s.uTkt g).flash = s.flash := rfl
@[simp] theorem uTkt_fuses (g) : (s.uTkt g).fuses = s.fuses := rfl
@[simp] theorem uTkt_acc (g) : (s.uTkt g).acc = s.acc := rfl
@[simp] theorem uTkt_pins (g) : (s.uTkt g).pins = s.pins := rfl
@[simp] theorem uTkt_sbE (g) : (s.uTkt g).sbE = s.sbE := rfl
@[simp] theorem uTkt_sbW (g) : (s.uTkt g).sbW = s.sbW := rfl
@[simp] theorem uTkt_clk (g) : (s.uTkt g).clk = s.clk := rfl
@[simp] theorem uTkt_rst (g) : (s.uTkt g).rst = s.rst := rfl
@[simp] theorem uTkt_time (g) : (s.uTkt g).time = s.time := rfl
@[simp] theorem uTkt_pwr (g) : (s.uTkt g).pwr = s.pwr := rfl
@[simp] theorem uTkt_boot (g) : (s.uTkt g).boot = s.boot := rfl
@[simp] theorem uTkt_evt (g) : (s.uTkt g).evt = s.evt := rfl
@[simp] theorem uTkt_proof (g) : (s.uTkt g).proof = s.proof := rfl
@[simp] theorem uTkt_sty (g) : (s.uTkt g).sty = s.sty := rfl
@[simp] theorem uTkt_out (g) : (s.uTkt g).out = s.out := rfl
@[simp] theorem uTkt_plates (g) : (s.uTkt g).plates = s.plates := rfl
@[simp] theorem uTkt_pcie (g) : (s.uTkt g).pcie = s.pcie := rfl
@[simp] theorem uTkt_tec (g) : (s.uTkt g).tec = s.tec := rfl
@[simp] theorem uTkt_las (g) : (s.uTkt g).las = s.las := rfl
@[simp] theorem uTkt_lnk (g) : (s.uTkt g).lnk = s.lnk := rfl
@[simp] theorem uTkt_repl (g) : (s.uTkt g).repl = s.repl := rfl
@[simp] theorem uTkt_pkg (g) : (s.uTkt g).pkg = s.pkg := rfl
@[simp] theorem uTkt_clu (g) : (s.uTkt g).clu = s.clu := rfl
@[simp] theorem uTkt_cl (g) : (s.uTkt g).cl = s.cl := rfl
@[simp] theorem uTkt_scr (g) : (s.uTkt g).scr = s.scr := rfl
@[simp] theorem uTkt_agree (g) : (s.uTkt g).agree = s.agree := rfl
@[simp] theorem uTkt_hmk (g) : (s.uTkt g).hmk = s.hmk := rfl
@[simp] theorem uTkt_fab (g) : (s.uTkt g).fab = s.fab := rfl
@[simp] theorem uTkt_rings (g) : (s.uTkt g).rings = s.rings := rfl
@[simp] theorem uTkt_maps (g) : (s.uTkt g).maps = s.maps := rfl
@[simp] theorem uTkt_tkt (g) : (s.uTkt g).tkt = g s.tkt := rfl
@[simp] theorem uTkt_xfe (g) : (s.uTkt g).xfe = s.xfe := rfl
@[simp] theorem uTkt_mem (g) : (s.uTkt g).mem = s.mem := rfl
@[simp] theorem uTkt_mgmt (g) : (s.uTkt g).mgmt = s.mgmt := rfl

@[simp] theorem uXfe_pending (g) : (s.uXfe g).pending = s.pending := rfl
@[simp] theorem uXfe_ct (g) : (s.uXfe g).ct = s.ct := rfl
@[simp] theorem uXfe_ticks (g) : (s.uXfe g).ticks = s.ticks := rfl
@[simp] theorem uXfe_free (g) : (s.uXfe g).free = s.free := rfl
@[simp] theorem uXfe_regs (g) : (s.uXfe g).regs = s.regs := rfl
@[simp] theorem uXfe_hbm (g) : (s.uXfe g).hbm = s.hbm := rfl
@[simp] theorem uXfe_hbmEcc (g) : (s.uXfe g).hbmEcc = s.hbmEcc := rfl
@[simp] theorem uXfe_vel (g) : (s.uXfe g).vel = s.vel := rfl
@[simp] theorem uXfe_velEcc (g) : (s.uXfe g).velEcc = s.velEcc := rfl
@[simp] theorem uXfe_flash (g) : (s.uXfe g).flash = s.flash := rfl
@[simp] theorem uXfe_fuses (g) : (s.uXfe g).fuses = s.fuses := rfl
@[simp] theorem uXfe_acc (g) : (s.uXfe g).acc = s.acc := rfl
@[simp] theorem uXfe_pins (g) : (s.uXfe g).pins = s.pins := rfl
@[simp] theorem uXfe_sbE (g) : (s.uXfe g).sbE = s.sbE := rfl
@[simp] theorem uXfe_sbW (g) : (s.uXfe g).sbW = s.sbW := rfl
@[simp] theorem uXfe_clk (g) : (s.uXfe g).clk = s.clk := rfl
@[simp] theorem uXfe_rst (g) : (s.uXfe g).rst = s.rst := rfl
@[simp] theorem uXfe_time (g) : (s.uXfe g).time = s.time := rfl
@[simp] theorem uXfe_pwr (g) : (s.uXfe g).pwr = s.pwr := rfl
@[simp] theorem uXfe_boot (g) : (s.uXfe g).boot = s.boot := rfl
@[simp] theorem uXfe_evt (g) : (s.uXfe g).evt = s.evt := rfl
@[simp] theorem uXfe_proof (g) : (s.uXfe g).proof = s.proof := rfl
@[simp] theorem uXfe_sty (g) : (s.uXfe g).sty = s.sty := rfl
@[simp] theorem uXfe_out (g) : (s.uXfe g).out = s.out := rfl
@[simp] theorem uXfe_plates (g) : (s.uXfe g).plates = s.plates := rfl
@[simp] theorem uXfe_pcie (g) : (s.uXfe g).pcie = s.pcie := rfl
@[simp] theorem uXfe_tec (g) : (s.uXfe g).tec = s.tec := rfl
@[simp] theorem uXfe_las (g) : (s.uXfe g).las = s.las := rfl
@[simp] theorem uXfe_lnk (g) : (s.uXfe g).lnk = s.lnk := rfl
@[simp] theorem uXfe_repl (g) : (s.uXfe g).repl = s.repl := rfl
@[simp] theorem uXfe_pkg (g) : (s.uXfe g).pkg = s.pkg := rfl
@[simp] theorem uXfe_clu (g) : (s.uXfe g).clu = s.clu := rfl
@[simp] theorem uXfe_cl (g) : (s.uXfe g).cl = s.cl := rfl
@[simp] theorem uXfe_scr (g) : (s.uXfe g).scr = s.scr := rfl
@[simp] theorem uXfe_agree (g) : (s.uXfe g).agree = s.agree := rfl
@[simp] theorem uXfe_hmk (g) : (s.uXfe g).hmk = s.hmk := rfl
@[simp] theorem uXfe_fab (g) : (s.uXfe g).fab = s.fab := rfl
@[simp] theorem uXfe_rings (g) : (s.uXfe g).rings = s.rings := rfl
@[simp] theorem uXfe_maps (g) : (s.uXfe g).maps = s.maps := rfl
@[simp] theorem uXfe_tkt (g) : (s.uXfe g).tkt = s.tkt := rfl
@[simp] theorem uXfe_xfe (g) : (s.uXfe g).xfe = g s.xfe := rfl
@[simp] theorem uXfe_mem (g) : (s.uXfe g).mem = s.mem := rfl
@[simp] theorem uXfe_mgmt (g) : (s.uXfe g).mgmt = s.mgmt := rfl

@[simp] theorem uMem_pending (g) : (s.uMem g).pending = s.pending := rfl
@[simp] theorem uMem_ct (g) : (s.uMem g).ct = s.ct := rfl
@[simp] theorem uMem_ticks (g) : (s.uMem g).ticks = s.ticks := rfl
@[simp] theorem uMem_free (g) : (s.uMem g).free = s.free := rfl
@[simp] theorem uMem_regs (g) : (s.uMem g).regs = s.regs := rfl
@[simp] theorem uMem_hbm (g) : (s.uMem g).hbm = s.hbm := rfl
@[simp] theorem uMem_hbmEcc (g) : (s.uMem g).hbmEcc = s.hbmEcc := rfl
@[simp] theorem uMem_vel (g) : (s.uMem g).vel = s.vel := rfl
@[simp] theorem uMem_velEcc (g) : (s.uMem g).velEcc = s.velEcc := rfl
@[simp] theorem uMem_flash (g) : (s.uMem g).flash = s.flash := rfl
@[simp] theorem uMem_fuses (g) : (s.uMem g).fuses = s.fuses := rfl
@[simp] theorem uMem_acc (g) : (s.uMem g).acc = s.acc := rfl
@[simp] theorem uMem_pins (g) : (s.uMem g).pins = s.pins := rfl
@[simp] theorem uMem_sbE (g) : (s.uMem g).sbE = s.sbE := rfl
@[simp] theorem uMem_sbW (g) : (s.uMem g).sbW = s.sbW := rfl
@[simp] theorem uMem_clk (g) : (s.uMem g).clk = s.clk := rfl
@[simp] theorem uMem_rst (g) : (s.uMem g).rst = s.rst := rfl
@[simp] theorem uMem_time (g) : (s.uMem g).time = s.time := rfl
@[simp] theorem uMem_pwr (g) : (s.uMem g).pwr = s.pwr := rfl
@[simp] theorem uMem_boot (g) : (s.uMem g).boot = s.boot := rfl
@[simp] theorem uMem_evt (g) : (s.uMem g).evt = s.evt := rfl
@[simp] theorem uMem_proof (g) : (s.uMem g).proof = s.proof := rfl
@[simp] theorem uMem_sty (g) : (s.uMem g).sty = s.sty := rfl
@[simp] theorem uMem_out (g) : (s.uMem g).out = s.out := rfl
@[simp] theorem uMem_plates (g) : (s.uMem g).plates = s.plates := rfl
@[simp] theorem uMem_pcie (g) : (s.uMem g).pcie = s.pcie := rfl
@[simp] theorem uMem_tec (g) : (s.uMem g).tec = s.tec := rfl
@[simp] theorem uMem_las (g) : (s.uMem g).las = s.las := rfl
@[simp] theorem uMem_lnk (g) : (s.uMem g).lnk = s.lnk := rfl
@[simp] theorem uMem_repl (g) : (s.uMem g).repl = s.repl := rfl
@[simp] theorem uMem_pkg (g) : (s.uMem g).pkg = s.pkg := rfl
@[simp] theorem uMem_clu (g) : (s.uMem g).clu = s.clu := rfl
@[simp] theorem uMem_cl (g) : (s.uMem g).cl = s.cl := rfl
@[simp] theorem uMem_scr (g) : (s.uMem g).scr = s.scr := rfl
@[simp] theorem uMem_agree (g) : (s.uMem g).agree = s.agree := rfl
@[simp] theorem uMem_hmk (g) : (s.uMem g).hmk = s.hmk := rfl
@[simp] theorem uMem_fab (g) : (s.uMem g).fab = s.fab := rfl
@[simp] theorem uMem_rings (g) : (s.uMem g).rings = s.rings := rfl
@[simp] theorem uMem_maps (g) : (s.uMem g).maps = s.maps := rfl
@[simp] theorem uMem_tkt (g) : (s.uMem g).tkt = s.tkt := rfl
@[simp] theorem uMem_xfe (g) : (s.uMem g).xfe = s.xfe := rfl
@[simp] theorem uMem_mem (g) : (s.uMem g).mem = g s.mem := rfl
@[simp] theorem uMem_mgmt (g) : (s.uMem g).mgmt = s.mgmt := rfl

@[simp] theorem uMgmt_pending (g) : (s.uMgmt g).pending = s.pending := rfl
@[simp] theorem uMgmt_ct (g) : (s.uMgmt g).ct = s.ct := rfl
@[simp] theorem uMgmt_ticks (g) : (s.uMgmt g).ticks = s.ticks := rfl
@[simp] theorem uMgmt_free (g) : (s.uMgmt g).free = s.free := rfl
@[simp] theorem uMgmt_regs (g) : (s.uMgmt g).regs = s.regs := rfl
@[simp] theorem uMgmt_hbm (g) : (s.uMgmt g).hbm = s.hbm := rfl
@[simp] theorem uMgmt_hbmEcc (g) : (s.uMgmt g).hbmEcc = s.hbmEcc := rfl
@[simp] theorem uMgmt_vel (g) : (s.uMgmt g).vel = s.vel := rfl
@[simp] theorem uMgmt_velEcc (g) : (s.uMgmt g).velEcc = s.velEcc := rfl
@[simp] theorem uMgmt_flash (g) : (s.uMgmt g).flash = s.flash := rfl
@[simp] theorem uMgmt_fuses (g) : (s.uMgmt g).fuses = s.fuses := rfl
@[simp] theorem uMgmt_acc (g) : (s.uMgmt g).acc = s.acc := rfl
@[simp] theorem uMgmt_pins (g) : (s.uMgmt g).pins = s.pins := rfl
@[simp] theorem uMgmt_sbE (g) : (s.uMgmt g).sbE = s.sbE := rfl
@[simp] theorem uMgmt_sbW (g) : (s.uMgmt g).sbW = s.sbW := rfl
@[simp] theorem uMgmt_clk (g) : (s.uMgmt g).clk = s.clk := rfl
@[simp] theorem uMgmt_rst (g) : (s.uMgmt g).rst = s.rst := rfl
@[simp] theorem uMgmt_time (g) : (s.uMgmt g).time = s.time := rfl
@[simp] theorem uMgmt_pwr (g) : (s.uMgmt g).pwr = s.pwr := rfl
@[simp] theorem uMgmt_boot (g) : (s.uMgmt g).boot = s.boot := rfl
@[simp] theorem uMgmt_evt (g) : (s.uMgmt g).evt = s.evt := rfl
@[simp] theorem uMgmt_proof (g) : (s.uMgmt g).proof = s.proof := rfl
@[simp] theorem uMgmt_sty (g) : (s.uMgmt g).sty = s.sty := rfl
@[simp] theorem uMgmt_out (g) : (s.uMgmt g).out = s.out := rfl
@[simp] theorem uMgmt_plates (g) : (s.uMgmt g).plates = s.plates := rfl
@[simp] theorem uMgmt_pcie (g) : (s.uMgmt g).pcie = s.pcie := rfl
@[simp] theorem uMgmt_tec (g) : (s.uMgmt g).tec = s.tec := rfl
@[simp] theorem uMgmt_las (g) : (s.uMgmt g).las = s.las := rfl
@[simp] theorem uMgmt_lnk (g) : (s.uMgmt g).lnk = s.lnk := rfl
@[simp] theorem uMgmt_repl (g) : (s.uMgmt g).repl = s.repl := rfl
@[simp] theorem uMgmt_pkg (g) : (s.uMgmt g).pkg = s.pkg := rfl
@[simp] theorem uMgmt_clu (g) : (s.uMgmt g).clu = s.clu := rfl
@[simp] theorem uMgmt_cl (g) : (s.uMgmt g).cl = s.cl := rfl
@[simp] theorem uMgmt_scr (g) : (s.uMgmt g).scr = s.scr := rfl
@[simp] theorem uMgmt_agree (g) : (s.uMgmt g).agree = s.agree := rfl
@[simp] theorem uMgmt_hmk (g) : (s.uMgmt g).hmk = s.hmk := rfl
@[simp] theorem uMgmt_fab (g) : (s.uMgmt g).fab = s.fab := rfl
@[simp] theorem uMgmt_rings (g) : (s.uMgmt g).rings = s.rings := rfl
@[simp] theorem uMgmt_maps (g) : (s.uMgmt g).maps = s.maps := rfl
@[simp] theorem uMgmt_tkt (g) : (s.uMgmt g).tkt = s.tkt := rfl
@[simp] theorem uMgmt_xfe (g) : (s.uMgmt g).xfe = s.xfe := rfl
@[simp] theorem uMgmt_mem (g) : (s.uMgmt g).mem = s.mem := rfl
@[simp] theorem uMgmt_mgmt (g) : (s.uMgmt g).mgmt = g s.mgmt := rfl

end Sys2Proof.Machine
end

