-- ==== Sys2Proof/Laws/Regs.lean ====
section
/-! SUPPORT. What a register write, an event, an output and a free value leave. -/

namespace Sys2Proof.Machine

variable {s : State}

/-- A register reads back what was written to it, and every other register as before. -/
theorem rd_wr (off v o : Nat) :
    (s.wr off v).rd o = if o = off then v % 2 ^ 32 else s.rd o := by
  unfold State.wr State.rd State.uRegs
  dsimp only
  rw [smGet_smSet regReset]
  split_ifs <;> simp

/-- A register write keeps the register table canonical. -/
theorem wr_wf (h : smWf regReset s.regs = true) (off v : Nat) : smWf regReset (s.wr off v).regs = true := smSet_wf h off _

/-- A field write writes one register. -/
theorem rd_fw_ne (off hi lo v : Nat) {o : Nat} (ho : o ≠ off) : (s.fw off hi lo v).rd o = s.rd o := by
  simp [State.fw, rd_wr, ho]

/-- A field write keeps the register table canonical. -/
theorem fw_wf (h : smWf regReset s.regs = true) (off hi lo v : Nat) : smWf regReset (s.fw off hi lo v).regs = true := wr_wf h _ _

/-- A saturating count keeps the register table canonical. -/
theorem sat_wf (h : smWf regReset s.regs = true) (off hi lo n : Nat) : smWf regReset (s.sat off hi lo n).regs = true := fw_wf h _ _ _ _

/-- A write of a pair keeps the register table canonical. -/
theorem wr64_wf (h : smWf regReset s.regs = true) (off v : Nat) : smWf regReset (s.wr64 off v).regs = true := wr_wf (wr_wf h _ _) _ _

/-- A pair reads back what was written to it. -/
theorem rd64_wr64 (off v : Nat) (hv : v < 2 ^ 64) : (s.wr64 off v).rd64 off = v := by
  unfold State.rd64 State.wr64
  simp only [rd_wr]
  simp
  omega

@[simp] theorem wr_out (off v : Nat) : (s.wr off v).out = s.out := rfl
@[simp] theorem wr_pending (off v : Nat) : (s.wr off v).pending = s.pending := rfl
@[simp] theorem wr_hbm (off v : Nat) : (s.wr off v).hbm = s.hbm := rfl
@[simp] theorem wr_vel (off v : Nat) : (s.wr off v).vel = s.vel := rfl
@[simp] theorem wr_flash (off v : Nat) : (s.wr off v).flash = s.flash := rfl
@[simp] theorem fw_out (off hi lo v : Nat) : (s.fw off hi lo v).out = s.out := rfl
@[simp] theorem fw_hbm (off hi lo v : Nat) : (s.fw off hi lo v).hbm = s.hbm := rfl
@[simp] theorem fw_vel (off hi lo v : Nat) : (s.fw off hi lo v).vel = s.vel := rfl
@[simp] theorem fw_flash (off hi lo v : Nat) : (s.fw off hi lo v).flash = s.flash := rfl
@[simp] theorem emit_out (o : Out) : (s.emit o).out = s.out ++ [o] := rfl
@[simp] theorem emit_regs (o : Out) : (s.emit o).regs = s.regs := rfl
@[simp] theorem emit_hbm (o : Out) : (s.emit o).hbm = s.hbm := rfl
@[simp] theorem emit_vel (o : Out) : (s.emit o).vel = s.vel := rfl
@[simp] theorem emit_flash (o : Out) : (s.emit o).flash = s.flash := rfl
@[simp] theorem draw_regs : s.draw.2.regs = s.regs := rfl
@[simp] theorem draw_hbm : s.draw.2.hbm = s.hbm := rfl
@[simp] theorem draw_vel : s.draw.2.vel = s.vel := rfl
@[simp] theorem draw_flash : s.draw.2.flash = s.flash := rfl

end Sys2Proof.Machine
end

