-- ==== Sys2Proof/Laws/Tables.lean ====
section
/-! SUPPORT. The register, event and memory operations keep the tables canonical; the state after reset has them so. -/

namespace Sys2Proof.Machine

open Sys2Proof

variable {s : State}

/-- Only the tables matter. -/
theorem Tables.of_eq {t : State} (h : Tables s) (hr : t.regs = s.regs) (hb : t.hbm = s.hbm) (hv : t.vel = s.vel) (hf : t.flash = s.flash)
    (he : t.hbmEcc = s.hbmEcc) (hw : t.velEcc = s.velEcc) (ha : t.acc.latch = s.acc.latch) : Tables t := by
  unfold Tables at *
  rw [hr, hb, hv, hf, he, hw, ha]
  exact h

/-- The tables after reset list nothing. -/
theorem reset_tables : Tables State.reset := by unfold Tables; decide

theorem wr_tables (h : Tables s) (off v : Nat) : Tables (s.wr off v) := ⟨wr_wf h.1 off v, h.2⟩

theorem fw_tables (h : Tables s) (off hi lo v : Nat) : Tables (s.fw off hi lo v) := wr_tables h _ _

theorem sat_tables (h : Tables s) (off hi lo n : Nat) : Tables (s.sat off hi lo n) := fw_tables h _ _ _ _

theorem wr64_tables (h : Tables s) (off v : Nat) : Tables (s.wr64 off v) := wr_tables (wr_tables h _ _) _ _

theorem put_tables (h : Tables s) (off v : Nat) : Tables (s.put off v) := wr_tables h _ _

theorem draw_tables (h : Tables s) : Tables s.draw.2 := h

theorem emit_tables (h : Tables s) (o : Out) : Tables (s.emit o) := h

theorem uEvt_tables (h : Tables s) (g : Evt → Evt) : Tables (s.uEvt g) := h

theorem uMem_tables (h : Tables s) (g : MemSt → MemSt) : Tables (s.uMem g) := h

/-- An event changes the collector alone, and the count of dropped records where the queue has no room (25 R626). -/
theorem ev_tables (h : Tables s) (code src : Nat) (args : List Nat) : Tables (s.ev code src args) := by
  unfold State.ev
  split_ifs
  · exact h
  · exact sat_tables (s := s.uEvt _) h _ _ _ _
  · exact h

theorem evKey_tables (h : Tables s) (interval key code src : Nat) (args : List Nat) : Tables (s.evKey interval key code src args) := by
  unfold State.evKey
  dsimp only
  split_ifs
  · exact h
  · exact ev_tables (s := s.uEvt _) h _ _ _

theorem evOnce_tables (h : Tables s) (interval code src : Nat) (args : List Nat) : Tables (s.evOnce interval code src args) :=
  evKey_tables h _ _ _ _ _

theorem deny_tables (h : Tables s) (code off v : Nat) (p : Path) : Tables (s.deny code off v p) := ev_tables h _ _ _

/-- An event with room is queued, and no register changes. -/
theorem ev_regs (h : RoomFor s) (code src : Nat) (args : List Nat) : (s.ev code src args).regs = s.regs := by
  unfold State.ev
  unfold RoomFor at h
  split_ifs
  · rfl
  · omega
  · rfl

theorem mem_evInsert (qs : List EvRec) (r : EvRec) : r ∈ evInsert qs r := by
  induction qs with
  | nil => simp [evInsert]
  | cons q qs ih =>
    unfold evInsert
    split_ifs
    · simp
    · exact List.mem_cons_of_mem _ ih

/-- An event with room is raised (25 R626). -/
theorem ev_raised (h : RoomFor s) (code src : Nat) (args : List Nat) : Raised (s.ev code src args) code src := by
  unfold State.ev
  unfold RoomFor at h
  split_ifs with h1 h2
  · obtain ⟨r, hr, he⟩ := List.any_eq_true.mp h1
    simp only [Bool.and_eq_true, beq_iff_eq] at he
    exact ⟨{ r with count := satN 255 (r.count + 1) }, List.mem_map.mpr ⟨r, hr, by simp [he.1, he.2]⟩, he⟩
  · omega
  · exact ⟨_, mem_evInsert _ _, rfl, rfl⟩

/-! Memories (21) -/

theorem putWord_tables (h : Tables s) (r : Ram) (k : Nat) (bs : List Byte) : Tables (putWord r k bs s) := by
  cases r
  · exact ⟨h.1, putBytes_wf h.2.1 _ _, h.2.2⟩
  · exact ⟨h.1, h.2.1, putBytes_wf h.2.2.1 _ _, h.2.2.2⟩

theorem putSyn_tables (h : Tables s) (r : Ram) (k syn : Nat) : Tables (putSyn r k syn s) := by
  obtain ⟨h1, h2, h3, h4, h5, h6, h7⟩ := h
  cases r
  · exact ⟨h1, h2, h3, h4, smSet_wf h5 _ _, h6, h7⟩
  · exact ⟨h1, h2, h3, h4, h5, smSet_wf h6 _ _, h7⟩

theorem writeSyn_tables (h : Tables s) (r : Ram) (k syn : Nat) : Tables (writeSyn r k syn s) := by
  unfold writeSyn
  dsimp only
  split_ifs
  · exact putSyn_tables (fw_tables h _ _ _ _) _ _ _
  · exact putSyn_tables (fw_tables h _ _ _ _) _ _ _
  · exact putSyn_tables h _ _ _

theorem noteCe_tables (h : Tables s) (r : Ram) (k : Nat) : Tables (noteCe r k s) := by
  cases r
  · unfold noteCe
    dsimp only
    split_ifs
    · exact ev_tables (evOnce_tables (sat_tables (sat_tables (uMem_tables h _) _ _ _ _) _ _ _ _) _ _ _ _) _ _ _
    · exact evOnce_tables (sat_tables (sat_tables (uMem_tables h _) _ _ _ _) _ _ _ _) _ _ _ _
  · exact evKey_tables (sat_tables h _ _ _ _) _ _ _ _ _

theorem noteUe_tables (h : Tables s) (src : Nat) (r : Ram) (k : Nat) : Tables (noteUe src r k s) := by
  cases r
  · exact writeSyn_tables (ev_tables (wr_tables (wr64_tables (sat_tables (sat_tables h _ _ _ _) _ _ _ _) _ _) _ _) _ _ _) _ _ _
  · exact writeSyn_tables (ev_tables (sat_tables h _ _ _ _) _ _ _) _ _ _

theorem notePoison_tables (h : Tables s) (r : Ram) (k : Nat) : Tables (notePoison r k s) := by
  cases r
  · exact evOnce_tables (sat_tables h _ _ _ _) _ _ _ _
  · exact h

theorem readWord_tables (h : Tables s) (src : Nat) (r : Ram) (k : Nat) : Tables (readWord src r k s).1 := by
  unfold readWord
  dsimp only
  cases fateOf (ramSyn s r k)
  · exact h
  · exact noteCe_tables h r k
  · exact notePoison_tables h r k
  · exact noteUe_tables h src r k

theorem readWords_tables (src : Nat) (r : Ram) (n k : Nat) (s : State) (h : Tables s) : Tables (readWords src r n k s).1 := by
  induction n generalizing k s with
  | zero => exact h
  | succ n ih => exact ih _ _ (readWord_tables h src r k)

/-- A read of HBM or Vellum keeps the tables canonical. -/
theorem memRead_tables (h : Tables s) (src : Nat) (r : Ram) (a n : Nat) : Tables (memRead src r a n s).1 := by
  unfold memRead
  split_ifs
  · exact h
  · exact readWords_tables _ _ _ _ _ h

theorem writeWord_tables (h : Tables s) (src : Nat) (r : Ram) (k : Nat) (xs : List (Option PByte)) : Tables (writeWord src r k xs s) := by
  unfold writeWord
  dsimp only
  split_ifs
  all_goals first
    | exact h
    | exact writeSyn_tables (putWord_tables h _ _ _) _ _ _
    | skip
  all_goals
    cases fateOf (ramSyn s r k)
    · exact writeSyn_tables (putWord_tables h _ _ _) _ _ _
    · exact writeSyn_tables (putWord_tables (noteCe_tables h _ _) _ _ _) _ _ _
    · exact writeSyn_tables (putWord_tables h _ _ _) _ _ _
    · exact writeSyn_tables (putWord_tables (noteUe_tables h _ _ _) _ _ _) _ _ _

theorem writeWords_tables (src : Nat) (r : Ram) (n k : Nat) (xs : List (Option PByte)) (s : State) (h : Tables s) :
    Tables (writeWords src r n k xs s) := by
  induction n generalizing k xs s with
  | zero => exact h
  | succ n ih => exact ih _ _ _ (writeWord_tables h src r k _)

/-- A write of HBM or Vellum keeps the tables canonical. -/
theorem memWriteOpt_tables (h : Tables s) (src : Nat) (r : Ram) (a : Nat) (xs : List (Option PByte)) : Tables (memWriteOpt src r a xs s) := by
  unfold memWriteOpt
  split_ifs
  · exact h
  · exact writeWords_tables _ _ _ _ _ _ h

theorem memWrite_tables (h : Tables s) (src : Nat) (r : Ram) (a : Nat) (xs : List PByte) : Tables (memWrite src r a xs s) :=
  memWriteOpt_tables h src r a _

end Sys2Proof.Machine
end

