-- ==== Sys2Proof/Laws/Memory.lean ====
section
/-! SUPPORT. What the shared operations answer where nothing stands in the way: reads and writes of memory words without errors, and
accesses that reach the registers. -/

namespace Sys2Proof.Machine

open Sys2Proof

variable {s : State}

/-! Accesses (00 R18, 22 R567) -/

/-- A write that reaches the registers has its effect. -/
theorem through_reaches {p : Path} (h : Reaches p s) (r : HostReq) (o : Host.Outcome State Fault Refusal) : through p r s o = o := by
  obtain ⟨h1, h2⟩ := h
  unfold through
  by_cases hp : p = .pcie
  · simp [h1, h2 hp]
  · simp [h1, hp]

/-- A read that reaches the registers answers what it finds. -/
theorem readThrough_reaches {p : Path} (h : Reaches p s) (r : HostReq) (f : State → List Word × State) :
    readThrough p r s f = .next ((f s).2.emit (.read p (f s).1)) := by
  unfold readThrough
  rw [if_pos h.1, through_reaches h]
  rfl

/-! Reads of words without errors (21 R549) -/

theorem fateOf_zero : fateOf 0 = .clean := rfl

theorem ramWord_eq (m : Ram) (k : Nat) : ramWord s m k = bytesAt ramD (ramOf s m) (8 * k) 8 := by cases m <;> rfl

theorem readWord_clean (src : Nat) (m : Ram) (k : Nat) (h : ramSyn s m k = 0) :
    readWord src m k s = (s, bytesAt ramD (ramOf s m) (8 * k) 8, false) := by
  unfold readWord
  simp only [h, fateOf_zero, ramWord_eq]

theorem bytesAt_append (d : Nat → Byte) (m : List Host.Cell) (a n k : Nat) : bytesAt d m a n ++ bytesAt d m (a + n) k = bytesAt d m a (n + k) := by
  unfold bytesAt
  rw [List.range_add, List.map_append, List.map_map]
  simp [Function.comp_def, Nat.add_assoc]

theorem readWords_clean (src : Nat) (m : Ram) (n k : Nat) (h : ∀ j, k ≤ j → j < k + n → ramSyn s m j = 0) :
    readWords src m n k s = (s, goodBytes (bytesAt ramD (ramOf s m) (8 * k) (8 * n))) := by
  induction n generalizing k with
  | zero => rfl
  | succ n ih =>
    unfold readWords
    rw [readWord_clean src m k (h k (Nat.le_refl _) (by omega))]
    dsimp only
    rw [ih (k + 1) (fun j h1 h2 => h j (by omega) (by omega))]
    have e : 8 * (n + 1) = 8 + 8 * n := by omega
    rw [e, ← bytesAt_append]
    simp [goodBytes, Nat.mul_add]

theorem bytesAt_drop (d : Nat → Byte) (m : List Host.Cell) (a n k : Nat) : (bytesAt d m a n).drop k = bytesAt d m (a + k) (n - k) := by
  apply List.ext_getElem
  · simp [bytesAt]
  · intro i h1 h2
    simp [bytesAt, Nat.add_assoc]

theorem bytesAt_take (d : Nat → Byte) (m : List Host.Cell) (a n k : Nat) (h : k ≤ n) : (bytesAt d m a n).take k = bytesAt d m a k := by
  apply List.ext_getElem
  · simp [bytesAt]
    omega
  · intro i h1 h2
    simp [bytesAt]

/-- A read of words without errors brings their bytes and changes nothing. -/
theorem memRead_clean (src : Nat) (m : Ram) (a n : Nat) (h : CleanWords s m a n) :
    memRead src m a n s = (s, goodBytes (bytesAt ramD (ramOf s m) a n)) := by
  unfold memRead
  split_ifs with hn
  · subst hn
    rfl
  · rw [readWords_clean src m _ _ (fun j h1 h2 => h j h1 (by omega))]
    dsimp only
    unfold goodBytes
    rw [← List.map_drop, ← List.map_take, bytesAt_drop, bytesAt_take _ _ _ _ _ (by omega)]
    congr 3
    omega

/-! Writes of words without errors (21 R551, R552) -/

theorem ramOf_putWord (m : Ram) (k : Nat) (bs : List Byte) : ramOf (putWord m k bs s) m = putBytes ramD (ramOf s m) (8 * k) bs := by
  cases m <;> rfl

theorem ramOf_putSyn (m q : Ram) (k v : Nat) : ramOf (putSyn m k v s) q = ramOf s q := by cases m <;> cases q <;> rfl

theorem ramSyn_putSyn (m : Ram) (k v j : Nat) (hv : v < 256) : ramSyn (putSyn m k v s) m j = if j = k then v else ramSyn s m j := by
  cases m <;> (simp only [ramSyn, putSyn, State.uHbmEcc, State.uVelEcc]; rw [smGet_smSet]; split_ifs) <;>
    first | rfl | simp [Nat.mod_eq_of_lt hv]

theorem ramSyn_putWord (m : Ram) (k j : Nat) (bs : List Byte) : ramSyn (putWord m k bs s) m j = ramSyn s m j := by cases m <;> rfl

/-- Without an armed injection a write's check byte is the one it brings. -/
theorem writeSyn_idle (m : Ram) (k v : Nat) (h : s.bit R.MEM_INJECT 31 = false) : writeSyn m k v s = putSyn m k v s := by
  have h' : bitOf (s.rd R.MEM_INJECT) 31 = false := h
  simp [writeSyn, h']

/-- What a byte list of a word holds after written bytes are merged into it. -/
theorem getD_mergeWord (bs : List Byte) (xs : List (Option PByte)) (i : Nat) (h : i < bs.length) :
    (mergeWord bs xs).getD i 0 = match xs.getD i none with
      | some x => x.1
      | none => bs.getD i 0 := by
  induction bs generalizing xs i with
  | nil => simp at h
  | cons b bs ih =>
    cases xs with
    | nil => simp [mergeWord]
    | cons x xs =>
      cases i with
      | zero => cases x <;> simp [mergeWord]
      | succ i =>
        have := ih xs i (by simpa using h)
        cases x <;> simpa [mergeWord] using this

theorem length_mergeWord (bs : List Byte) (xs : List (Option PByte)) : (mergeWord bs xs).length = bs.length := by
  induction bs generalizing xs with
  | nil => cases xs with
    | nil => rfl
    | cons x xs => cases x <;> rfl
  | cons b bs ih =>
    cases xs with
    | nil => rfl
    | cons x xs => cases x <;> simp [mergeWord, ih]

/-- A word is marked where one of the written bytes is poisoned. -/
def anyMark (xs : List (Option PByte)) : Bool := xs.any fun x => match x with
  | some y => y.2
  | none => false

/-- A write of a word without errors stores the merged bytes and one check byte. -/
theorem writeWord_clean (src : Nat) (m : Ram) (k : Nat) (xs : List (Option PByte)) (h : ramSyn s m k = 0) (hi : s.bit R.MEM_INJECT 31 = false) :
    writeWord src m k xs s = if xs.all (·.isNone) then s
      else putSyn m k (if anyMark xs then 3 else 0) (putWord m k (mergeWord (bytesAt ramD (ramOf s m) (8 * k) 8) xs) s) := by
  have hp : ∀ bs, (putWord m k bs s).bit R.MEM_INJECT 31 = false := fun bs => by cases m <;> exact hi
  unfold writeWord
  by_cases h1 : xs.all (·.isNone) = true
  · rw [if_pos h1, if_pos h1]
  · rw [if_neg h1, if_neg h1]
    simp only [h, fateOf_zero, ramWord_eq, ite_self]
    exact writeSyn_idle m k _ (hp _)

/-- Only a memory and its check bytes differ. -/
def MemOnly (m : Ram) (s t : State) : Prop :=
  t = match m with
    | .hbm => { s with hbm := t.hbm, hbmEcc := t.hbmEcc }
    | .vel => { s with vel := t.vel, velEcc := t.velEcc }

theorem MemOnly.refl (m : Ram) (s : State) : MemOnly m s s := by cases m <;> rfl

theorem MemOnly.trans {m : Ram} {s t u : State} (h : MemOnly m s t) (g : MemOnly m t u) : MemOnly m s u := by
  cases m <;> (unfold MemOnly at *; rw [g, h])

theorem MemOnly.regs {m : Ram} {s t : State} (h : MemOnly m s t) : t.regs = s.regs := by cases m <;> (unfold MemOnly at h; rw [h])

theorem MemOnly.evt {m : Ram} {s t : State} (h : MemOnly m s t) : t.evt = s.evt := by cases m <;> (unfold MemOnly at h; rw [h])

theorem MemOnly.out {m : Ram} {s t : State} (h : MemOnly m s t) : t.out = s.out := by cases m <;> (unfold MemOnly at h; rw [h])

theorem memOnly_put (m : Ram) (k v : Nat) (bs : List Byte) (s : State) : MemOnly m s (putSyn m k v (putWord m k bs s)) := by
  cases m <;> rfl

/-- A byte of a word after a write. -/
theorem writeWord_byte (src : Nat) (m : Ram) (k a : Nat) (xs : List (Option PByte)) (h : ramSyn s m k = 0)
    (hi : s.bit R.MEM_INJECT 31 = false) :
    smGet ramD (ramOf (writeWord src m k xs s) m) a = match (if a / 8 = k then xs.getD (a % 8) none else none) with
      | some x => x.1
      | none => smGet ramD (ramOf s m) a := by
  rw [writeWord_clean src m k xs h hi]
  by_cases hk : a / 8 = k
  · rw [if_pos hk]
    by_cases h1 : xs.all (·.isNone) = true
    · rw [if_pos h1]
      have : xs.getD (a % 8) none = none := by
        rw [List.getD_eq_getElem?_getD]
        cases hg : xs[a % 8]? with
        | none => rfl
        | some y =>
          have := List.all_eq_true.mp h1 y (List.mem_of_getElem? hg)
          simpa using this
      rw [this]
    · rw [if_neg h1]
      have hl : a = 8 * k + a % 8 := by omega
      have hlen : (mergeWord (bytesAt ramD (ramOf s m) (8 * k) 8) xs).length = 8 := by simp [length_mergeWord, bytesAt]
      have hm : a % 8 < (mergeWord (bytesAt ramD (ramOf s m) (8 * k) 8) xs).length := by omega
      rw [ramOf_putSyn, ramOf_putWord]
      conv_lhs => rw [hl]
      rw [smGet_putBytes_in _ _ _ _ _ hm, ← List.getD_eq_getElem (d := 0), getD_mergeWord _ _ _ (by simp [bytesAt]; omega)]
      cases hg : xs.getD (a % 8) none with
      | some x => rfl
      | none =>
        have h8 : a % 8 < 8 := by omega
        simp only [bytesAt]
        rw [List.getD_eq_getElem _ _ (by simp; omega)]
        simp [← hl]
  · rw [if_neg hk]
    by_cases h1 : xs.all (·.isNone) = true
    · rw [if_pos h1]
    · rw [if_neg h1]
      rw [ramOf_putSyn, ramOf_putWord, smGet_putBytes]
      simp [length_mergeWord, bytesAt]
      omega

theorem writeWord_only (src : Nat) (m : Ram) (k : Nat) (xs : List (Option PByte)) (h : ramSyn s m k = 0) (hi : s.bit R.MEM_INJECT 31 = false) :
    MemOnly m s (writeWord src m k xs s) := by
  rw [writeWord_clean src m k xs h hi]
  by_cases h1 : xs.all (·.isNone) = true
  · rw [if_pos h1]
    exact MemOnly.refl m s
  · rw [if_neg h1]
    exact memOnly_put m k _ _ s

theorem writeWord_syn (src : Nat) (m : Ram) (k j : Nat) (xs : List (Option PByte)) (h : ramSyn s m k = 0) (hi : s.bit R.MEM_INJECT 31 = false)
    (hj : j ≠ k) : ramSyn (writeWord src m k xs s) m j = ramSyn s m j := by
  rw [writeWord_clean src m k xs h hi]
  by_cases h1 : xs.all (·.isNone) = true
  · rw [if_pos h1]
  · rw [if_neg h1, ramSyn_putSyn _ _ _ _ (by split <;> decide), if_neg hj, ramSyn_putWord]

/-- Words from k on after a write. -/
theorem writeWords_clean (src : Nat) (m : Ram) (n k : Nat) (xs : List (Option PByte)) (s : State) (hx : xs.length ≤ 8 * n)
    (h : ∀ j, k ≤ j → j < k + n → ramSyn s m j = 0) (hi : s.bit R.MEM_INJECT 31 = false) :
    MemOnly m s (writeWords src m n k xs s) ∧ ∀ a, smGet ramD (ramOf (writeWords src m n k xs s) m) a =
      match (if 8 * k ≤ a then xs.getD (a - 8 * k) none else none) with
      | some x => x.1
      | none => smGet ramD (ramOf s m) a := by
  induction n generalizing k xs s with
  | zero =>
    have : xs = [] := List.length_eq_zero_iff.mp (by omega)
    subst this
    refine ⟨MemOnly.refl m s, fun a => ?_⟩
    simp [writeWords]
  | succ n ih =>
    have hk := h k (Nat.le_refl _) (by omega)
    have ho := writeWord_only src m k (xs.take 8) hk hi
    have hi' : (writeWord src m k (xs.take 8) s).bit R.MEM_INJECT 31 = false := by
      unfold State.bit State.rd
      rw [ho.regs]
      exact hi
    obtain ⟨h1, h2⟩ := ih (k + 1) (xs.drop 8) (writeWord src m k (xs.take 8) s) (by simp; omega)
      (fun j h1 h2 => by rw [writeWord_syn src m k j _ hk hi (by omega)]; exact h j (by omega) (by omega)) hi'
    refine ⟨MemOnly.trans ho h1, fun a => ?_⟩
    show smGet ramD (ramOf (writeWords src m n (k + 1) (xs.drop 8) (writeWord src m k (xs.take 8) s)) m) a = _
    rw [h2 a, writeWord_byte src m k a _ hk hi]
    by_cases c1 : 8 * (k + 1) ≤ a
    · have c2 : ¬ a / 8 = k := by omega
      have c3 : 8 * k ≤ a := by omega
      have e : (xs.drop 8).getD (a - 8 * (k + 1)) none = xs.getD (a - 8 * k) none := by
        rw [List.getD_eq_getElem?_getD, List.getD_eq_getElem?_getD, List.getElem?_drop]
        congr 2
        omega
      simp only [if_pos c1, if_neg c2, if_pos c3, e]
    · by_cases c3 : 8 * k ≤ a
      · have c2 : a / 8 = k := by omega
        have e : (xs.take 8).getD (a % 8) none = xs.getD (a - 8 * k) none := by
          rw [List.getD_eq_getElem?_getD, List.getD_eq_getElem?_getD, List.getElem?_take_of_lt (by omega)]
          congr 2
          omega
        simp only [if_neg c1, if_pos c2, if_pos c3, e]
      · have c2 : ¬ a / 8 = k := by omega
        simp only [if_neg c1, if_neg c2, if_neg c3]

/-- A write into words without errors changes its bytes and their check bytes alone (no injection being armed). -/
theorem memWriteOpt_clean (src : Nat) (m : Ram) (a : Nat) (xs : List (Option PByte)) (h : CleanWords s m a xs.length)
    (hi : s.bit R.MEM_INJECT 31 = false) :
    MemOnly m s (memWriteOpt src m a xs s) ∧ ∀ x, smGet ramD (ramOf (memWriteOpt src m a xs s) m) x =
      match (if a ≤ x then xs.getD (x - a) none else none) with
      | some y => y.1
      | none => smGet ramD (ramOf s m) x := by
  unfold memWriteOpt
  split_ifs with he
  · have : xs = [] := List.isEmpty_iff.mp he
    subst this
    exact ⟨MemOnly.refl m s, fun x => by simp⟩
  · have hl : xs.length ≠ 0 := fun e => he (List.isEmpty_iff.mpr (List.length_eq_zero_iff.mp e))
    obtain ⟨h1, h2⟩ := writeWords_clean src m ((a + xs.length + 7) / 8 - a / 8) (a / 8) (List.replicate (a % 8) none ++ xs) s
      (by simp; omega) (fun j g1 g2 => h j g1 (by omega)) hi
    refine ⟨h1, fun x => ?_⟩
    rw [h2 x]
    by_cases c : a ≤ x
    · have c1 : 8 * (a / 8) ≤ x := by omega
      have e : (List.replicate (a % 8) none ++ xs).getD (x - 8 * (a / 8)) none = xs.getD (x - a) none := by
        rw [List.getD_eq_getElem?_getD, List.getD_eq_getElem?_getD, List.getElem?_append_right (by simp; omega)]
        congr 2
        simp
        omega
      simp only [c, c1, if_true, e]
    · by_cases c1 : 8 * (a / 8) ≤ x
      · have e : (List.replicate (a % 8) none ++ xs).getD (x - 8 * (a / 8)) (none : Option PByte) = none := by
          rw [List.getD_eq_getElem?_getD, List.getElem?_append_left (by simp; omega), List.getElem?_replicate]
          split_ifs <;> rfl
        simp only [c, c1, if_true, if_false, e]
      · simp only [c, c1, if_false]

/-- A write of bytes into words without errors. -/
theorem memWrite_clean (src : Nat) (m : Ram) (a : Nat) (bs : List PByte) (h : CleanWords s m a bs.length) (hi : s.bit R.MEM_INJECT 31 = false) :
    MemOnly m s (memWrite src m a bs s) ∧ WroteAt s (memWrite src m a bs s) m a (plain bs) := by
  obtain ⟨h1, h2⟩ := memWriteOpt_clean src m a (bs.map some) (by simpa using h) hi
  refine ⟨h1, fun x => ?_⟩
  show smGet ramD (ramOf (memWriteOpt src m a (bs.map some) s) m) x = _
  rw [h2 x]
  by_cases c : a ≤ x
  · by_cases c2 : x < a + bs.length
    · have hb : x - a < bs.length := by omega
      simp [c, c2, plain, List.getD_eq_getElem?_getD, hb]
    · have hb : ¬ x - a < bs.length := by omega
      simp [c, c2, plain, List.getD_eq_getElem?_getD, hb]
  · simp [c]

end Sys2Proof.Machine
end

