-- ==== Sys2Proof/Tests/Slice0.lean ====
section
/-! SUPPORT. The model's own tests: numbers of the spec's worked examples, ill-formed commands, and for each statement a state that
meets its hypotheses. -/

section

set_option Elab.async false

open Sys2Proof Sys2Proof.Machine

/-- A package in READY with every domain ON. -/
def readyState : State :=
  { State.reset with
    regs := (0xC, 5) :: (0x10000, 1) :: ((List.range 10).map fun i => (0x30100 + 4 * i, 0xAAAAAAAA)) ++ [(0x30128, 0xAAAA)],
    boot := { State.reset.boot with rrs := false },
    mgmt := { State.reset.mgmt with live := 0 } }

/-- The same after BOOT_LOCK is set. -/
def lockedState : State := readyState.wr R.BOOT_LOCK 1

/-- Both sideband segments up, a message waiting to go east. -/
def sbUpState : State :=
  (readyState.setSb .east { readyState.sbE with lock := true, up := true, queue := [sbBuild 4 0 .east [0, 0]] }).setSb .west
    { readyState.sbW with lock := true, up := true }


/-- A member in TRACK: P0, up and ACTIVE, is its parent port with ASYM +16/16 tick (04, worked example); an exchange is out. -/
def trackState : State :=
  (((((readyState.fw R.PLATE_STATUS 5 0 0).wr (R.LNK_STATUS 0) 4).wr R.TIME_STATUS 2).uPlates fun _ => [(2, 0x80000000), (12, 16)]).wr R.CL_CFG 531).uTime
    fun t => { t with out := [⟨7, 0, ⟨1600000000, 0⟩, 0⟩] }

/-- The state a command leaves; the same state where it does not run. -/
def after (c : Instr) (s : State) : State :=
  match exec c s with
  | .next t => t
  | _ => s

/-- 05, worked example: a matrix ticket of 480,000 cycles, here of all 128 clusters' 768/16 W, LEAD 4. -/
def noteTicket : Tkt := ⟨0, [0x10000000, 0, 0x00040300] ++ List.replicate 13 0, false⟩

/-- The ticket waits on ring 3. -/
def notedState : State := uRing 3 (fun q => { q with queue := [noteTicket] }) readyState

/-- Bytes of dwords from an address, those that read as erased left out. -/
def seg (a : Nat) (ws : List Nat) : List Host.Cell :=
  (((ws.flatMap (natToBytes 4)).zip (List.range (4 * ws.length))).filter fun x => x.1 != 0xFF).map fun x => (a + x.2, x.1)

/-- SHA-384 of the empty string (FIPS 180-4), as dwords. -/
def sha384Empty : List Nat :=
  [0xa760b038, 0x3896ac51, 0x7e32d94c, 0x6ae3b1b1, 0x11b7fd21, 0x4307be14, 0xbfc70c4c, 0xdae1f663, 0xbfde4e27, 0xfb656fe7, 0xf1d21ad5, 0x5bb99848]

theorem test_sha384_empty : sha384 [] = sha384Empty.flatMap (natToBytes 4) := by decide +kernel

/-- What a header with one empty section holds before its zeros. -/
def headDws : List Host.Cell :=
  seg 0 [0x4C4D4E31, 0x00011000, 0x1608B001, 0x03050000, 0x2000] ++ seg 64 [0xFE, 0x1000, 0] ++ seg 80 sha384Empty

/-- A header with one empty section that passes every check but those CFG_OPEN leaves out. -/
def emptyHead : List Host.Cell := headDws ++ (List.range' 128 960).map fun i => (i, 0)

/-- IMAGE, CFG_OPEN strapped, that header in the first slot. -/
def imageState : State :=
  ((State.reset.fw R.GLB_STATE 3 0 1).uFlash fun _ => emptyHead).uPins fun p => { p with cfgOpen := true }

theorem smGet_append_other (d : Nat → Byte) (k : Nat) (xs ys : List Host.Cell) (h : ∀ c ∈ xs, c.1 ≠ k) : smGet d (xs ++ ys) k = smGet d ys k := by
  induction xs with
  | nil => rfl
  | cons c xs ih =>
    show (if c.1 = k then c.2 else smGet d (xs ++ ys) k) = _
    rw [if_neg (h c (List.mem_cons_self ..)), ih fun x hx => h x (List.mem_cons_of_mem _ hx)]

theorem smGet_zeros (d : Nat → Byte) (k : Nat) : ∀ n a, a ≤ k → k < a + n → smGet d ((List.range' a n).map fun i => (i, (0 : Byte))) k = 0
  | 0, _, h1, h2 => by omega
  | n + 1, a, h1, h2 => by
    rw [List.range'_succ]
    show (if a = k then (0 : Byte) else smGet d ((List.range' (a + 1) n).map fun i => (i, (0 : Byte))) k) = 0
    split
    · rfl
    · exact smGet_zeros d k n (a + 1) (by omega) (by omega)

/-- The dwords of the section table after its one entry read zero. -/
theorem imageState_table (i : Nat) (h1 : 16 ≤ i) (h2 : i < 256) : hdrDw imageState 0 (16 + i) = 0 := by
  have hb : ∀ k, 128 ≤ k → k < 1088 → smGet flashD emptyHead k = 0 := fun k hk hk2 => by
    have hlt : ∀ c ∈ headDws, c.1 < 128 := by decide +kernel
    rw [emptyHead, smGet_append_other _ _ _ _ fun c hc => by have := hlt c hc; omega, smGet_zeros _ _ _ _ hk (by omega)]
  show bytesToNat [smGet flashD emptyHead (slotBase 0 + 4 * (16 + i) + 0), smGet flashD emptyHead (slotBase 0 + 4 * (16 + i) + 1),
    smGet flashD emptyHead (slotBase 0 + 4 * (16 + i) + 2), smGet flashD emptyHead (slotBase 0 + 4 * (16 + i) + 3)] = 0
  have h0 : slotBase 0 = 0 := rfl
  rw [hb _ (by omega) (by omega), hb _ (by omega) (by omega), hb _ (by omega) (by omega), hb _ (by omega) (by omega)]
  rfl

theorem imageState_passes : imageCheck imageState 0 false none = 0 := by
  have hn : sectionCount imageState 0 = 1 := by decide +kernel
  have ht : tableOk imageState 0 none = true := by
    unfold tableOk
    simp only [hn, Bool.and_eq_true, List.all_eq_true]
    refine ⟨by decide +kernel, fun i hi => ?_⟩
    by_cases h : i < 16 * 1
    · simp [h]
    · simp [imageState_table i (by omega) (List.mem_range.mp hi)]
  have hd : digestsOk imageState 0 = true := by decide +kernel
  have h0 : hdrDw imageState 0 0 = 0x4C4D4E31 ∧ hdrDw imageState 0 1 = 0x00011000 ∧ hdrDw imageState 0 2 / 256 = 0x1608B0
    ∧ imageState.pins.cfgOpen = true := by decide +kernel
  simp [imageCheck, ht, hd, h0.1, h0.2.1, h0.2.2.1, h0.2.2.2]

/-- A part of 128 MiB with the 1-4-4 fast read and its 4-byte form: an SFDP header, a Basic Flash Parameter Table, a 4-byte Address
Instruction Table. -/
def goodPart : List Byte :=
  ([0x50444653, 0xFF010106, 0x10010600, 0xFF000030, 0x02010084, 0xFF000070] ++ List.replicate 6 0xFFFFFFFF ++ [0xFFF3FFFF, 0x3FFFFFFF, 0xFFFFFFE8]
    ++ List.replicate 13 0 ++ [0xFF, 0]).flatMap (natToBytes 4)

/-- READY, Scribe A holding the lease. -/
def activeState : State := setScribe 0 2 (setScribe 1 1 readyState)

/-- Every pixel sampled and no SETTLING proof due. -/
def proofState : State :=
  readyState.uProof fun p => { p with
    run := true, outs := (List.range 3072).map fun x => (x, ⟨36800, false, false, List.replicate 8 2300⟩) }
/-- 04, worked example, chip 532's first exchange: TIME_DELAY reads 0x180 and TIME_OFFSET saturates. -/
theorem test_join_first_exchange :
    (let t := after (.timeRspReceive 0 ⟨2, 0, 7, 531, ⟨1600000000, 0⟩, ⟨15032403024, 8⟩, ⟨15032406224, 8⟩⟩ ⟨1600003248, 0⟩) (trackState.fw R.TIME_STATUS 2 0 1)
     (t.rd R.TIME_DELAY, t.rd R.TIME_OFFSET)) = (0x180, 0x7FFFFFFF) := by decide +kernel

/-- 05, worked example: under S_eff 16 the first step of a 48 W rise above 300 W runs at duty 21. -/
theorem test_governor_first_step :
    (let s := ((((readyState.wr R.PWR_PAIR_IDLE_W 75).wr (R.PWR_GOV_CFG_G 0) 0x1A0020).wr R.PWR_HEADROOM 0xA7000D).uPwr fun p =>
        { p with g0 := { p.g0 with hist := List.replicate 100 (pu 4800) } })
     let s := uRing 3 (fun q => { q with run := [⟨noteTicket, 0, 0, 0, 2, 0, 0, [], [], 0, 0, false, 0, 0, 0, 0, 0⟩] }) s
     (after .governorStep s).fd (R.PWR_GOV_STATUS_G 0) 31 0) = 2 ^ 31 + 65536 * 21 + 16 := by decide +kernel

/-- 08, worked example, pixel 543: CIC, and the five stages give the pixel word 0xF7FA_021F. -/
theorem test_cic_steady : cicD (List.replicate 22 2300) = 36800 := by decide +kernel

theorem test_pixel_543 :
    (let s := ((((((readyState.wr (R.PROOF_DARK 543) 1040).wr (R.PROOF_SHADE 543) 15360).wr (R.PROOF_MIX (((0 * 48 + 27) * 18 + 3) * 5 + 1)) 0xFEB8).wr
        (R.PROOF_MIX (((0 * 48 + 27) * 18 + 3) * 5 + 2)) 16417).wr (R.PROOF_MIX (((0 * 48 + 27) * 18 + 3) * 5 + 3)) 0xFEB8).wr
        (R.PROOF_CURVE 239) 0xF7E3).wr (R.PROOF_CURVE 240) 0xF806
     let s := s.uProof fun p => { p with outs := [(542, ⟨30000, false, false, []⟩), (543, ⟨36800, false, false, []⟩), (544, ⟨28000, false, false, []⟩)] }
     livePix s 543) = 0xF7FA021F := by decide +kernel

theorem wit_PairReadLatchesPerPath : Tables State.reset ∧ Reaches .jtag State.reset
    ∧ (regRow R.TIME_CT_LO).map (fun r => (r.half, r.acc)) = some (.lo, .ro) ∧ State.reset.blockOn R.TIME_CT_LO = true
    ∧ (regRow R.TIME_CT_HI).map (fun r => (r.half, r.acc)) = some (.hi, .ro) ∧ State.reset.blockOn R.TIME_CT_HI = true := by
  unfold Tables Reaches; decide +kernel

theorem wit_PairWriteCommitsAtOnce : (match regRow (R.STY_TRACE_CT_LO 0), regRow (R.STY_TRACE_CT_LO 0 + 4) with
    | some a, some b => a.half == .lo && a.acc == .rw && b.half == .hi && b.acc == .rw
        && pairTakes .smbus a (R.STY_TRACE_CT_LO 0) readyState && pairTakes .smbus b (R.STY_TRACE_CT_LO 0 + 4) readyState
        && readyState.blockOn (R.STY_TRACE_CT_LO 0) && readyState.blockOn (R.STY_TRACE_CT_LO 0 + 4)
    | _, _ => false) = true ∧ Reaches .smbus readyState := by
  unfold Reaches; decide +kernel

theorem wit_ScratchHoldsWhatWasWritten : Tables State.reset ∧ Reaches .pcie readyState ∧ Reaches .jtag State.reset := by
  unfold Tables Reaches; decide +kernel

theorem wit_LockedWriteIsDiscarded : Tables lockedState ∧ Reaches .smbus lockedState
    ∧ (regRow R.CLK_REF_CFG).map (fun r => (r.acc, r.half)) = some (.rwl, .none) ∧ lockedState.blockOn R.CLK_REF_CFG = true
    ∧ lockedState.locked = true ∧ isShare R.CLK_REF_CFG = false ∧ isFeed R.CLK_REF_CFG = false ∧ RoomFor lockedState := by
  unfold Tables Reaches RoomFor; decide +kernel

theorem wit_UnmappedOffsetsAreInert : Reaches .jtag State.reset ∧ (regRow 0x3F00000).isNone = true ∧ (regRow 0x3F00004).isNone = true := by
  unfold Reaches; decide +kernel

theorem wit_CounterReadClearsOnce : Tables State.reset ∧ Reaches .jtag State.reset
    ∧ (regRow R.CLK_LOSS_CNT).map (fun r => (r.acc, r.half)) = some (.rc, .none) ∧ State.reset.blockOn R.CLK_LOSS_CNT = true := by
  unfold Tables Reaches; decide +kernel

theorem wit_BadAccessIsNotCarriedOut : Reaches .jtag State.reset ∧ Reaches .scribeA readyState ∧ Reaches .scribeB readyState := by
  unfold Reaches; decide +kernel

theorem wit_TwoDwordAccessIsTwoAccesses : Reaches .jtag State.reset ∧ Reaches .pcie readyState
    ∧ Reaches .jtag (regWrite .jtag R.GLB_SCRATCH 5 State.reset) := by
  unfold Reaches; decide +kernel

theorem wit_PowerOnResetSamplesStraps : Tables State.reset ∧ State.reset.rst.por = false
    ∧ (State.reset.uRst fun r => { r with por := true }).rst.por = true ∧ Tables (State.reset.uRst fun r => { r with por := true })
    ∧ (readyState.uPins fun p => { p with pwrok := false }).pins.pwrok = false ∧ (sbUpState.sb .east).up = true := by
  unfold Tables; decide +kernel

theorem wit_RootClockFollowsItsReferences : Tables State.reset ∧ State.reset.top = 0 ∧ State.reset.rst.chip = false ∧ State.reset.rst.por = false ∧ RoomFor State.reset
    ∧ State.reset.bit R.CLK_STATUS 0 = false ∧ State.reset.fd R.CLK_STATUS 2 1 = srcCode .rack
    ∧ (let h := ((readyState.wr R.CLK_STATUS 5).wr R.CLK_REF_CFG 0x300).uClk fun c => { c with lost := 1, away := true }
      h.rst.por = false ∧ (h.uClk fun c => { c with lost := 0, lane := some 3 }).clk.lane.isSome = true ∧ h.fd R.CLK_STATUS 2 1 = 2 ∧ h.bit R.CLK_REF_CFG 8 = true ∧ h.bit R.CLK_REF_CFG 9 = true ∧ refConfigured h = 0 ∧ Tables h) := by
  unfold Tables RoomFor; decide +kernel

theorem wit_SidebandSegmentsTrain : (sbUpState.sb .east).up = true ∧ (sbUpState.sb .east).queue ≠ [] ∧ (sbUpState.sb .east).again = []
    ∧ (let s := sbUpState.setSb .east { sbUpState.sbE with up := false }; (s.sb .east).up = false ∧ (s.sb .east).queue ≠ []) ∧ sbUpState.domUp 0xA7 = true ∧ readyState.domUp 0xA7 = true
    ∧ (let s := sbUpState.setSb .west { sbUpState.sbW with again := [sbBuild 4 0 .west [0, 0]] }
      (s.sb .west).queue = [] ∧ (s.sb .west).again = [sbBuild 4 0 .west [0, 0]] ∧ (s.sb .west).up = true)
    ∧ sbValid 0 ⟨1, 0⟩ = true ∧ sbValid 0 ⟨3, 0⟩ = false
    ∧ RoomFor readyState ∧ 16 ≤ ((false :: List.replicate 15 false).take 64).count false
    ∧ (let s := readyState.setSb .west { readyState.sbW with lock := true, trainRun := 15, hdrs := List.replicate 15 false }
      (s.sb .west).lock = true ∧ (s.sb .west).trainRun = 15)
    ∧ (let s := readyState.setSb .east { readyState.sbE with run := 63 }
      (s.sb .east).run = 63 ∧ (s.sb .east).lock = false) := by
  unfold RoomFor; decide +kernel

theorem wit_SidebandMessagesTravelOn : (sbUpState.sb (dirFlip .west)).up = true ∧ sbUpState.rst.por = false ∧ Tables sbUpState
    ∧ sbGood (sbBuild 4 7 .west [7, 0]) = true ∧ sbGood { sbBuild 4 7 .west [7, 0] with words := [1, 2, 3, 4] } = false
    ∧ sbUpState.chip ≠ 7 ∧ (sbBuild 4 0 .west [0, 0]).origin.toNat = sbUpState.chip := by
  unfold Tables; decide +kernel

theorem wit_ResetsReachTheirScope : Tables readyState ∧ Reaches .pcie readyState ∧ Reaches .smbus readyState ∧ RoomFor readyState
    ∧ readyState.dom 0xA4 = 2 ∧ readyState.rst.doms.contains 0xA4 = false ∧ hostLike .smbus = false
    ∧ (let s := (readyState.wr R.CLK_STATUS 1).uRst fun r => { r with chip := true }
      Tables s ∧ s.rst.chip = true ∧ s.mgmt.ir ≠ 3 ∧ s.bit R.CLK_STATUS 0 = true)
    ∧ (let s := readyState.uRst fun r => { r with doms := [0xA4] }
      Tables s ∧ s.rst.doms = [0xA4] ∧ s.pwr.waiting = []) := by
  unfold Tables Reaches RoomFor; decide +kernel

theorem wit_HostResetsKeepTheFabricSide : Tables readyState ∧ readyState.pins.perstHigh = true ∧ functionPowered readyState = true
    ∧ readyState.bit R.PCIE_STATUS 3 = false ∧ (let s := readyState.uPins fun p => { p with perstHigh := false }
      Tables s ∧ s.pins.perstHigh = false ∧ functionPowered s = true)
    ∧ (let s := readyState.wr R.PCIE_STATUS 8
      Tables s ∧ s.bit R.PCIE_STATUS 3 = true) := by
  unfold Tables; decide +kernel

theorem wit_StepMovesClusterTime : RoomFor readyState ∧ readyState.rst.por = false ∧ readyState.time.pending = none
    ∧ (readyState.uTime fun t => { t with pending := some (-12) }).time.pending = some (-12) := by
  unfold RoomFor; decide +kernel

theorem wit_TimeExchangeMeasuresOffsetAndDelay : trackState.tst = 2 ∧ trackState.time.cur = 0 ∧ candUsable trackState 0 = true
    ∧ candPort trackState 0 = some 0 ∧ trackState.fd R.TIME_STATUS 7 4 = 0 ∧ Tables trackState
    ∧ trackState.time.out = [⟨7, 0, ⟨1600000000, 0⟩, 0⟩] ∧ trackState.time.gone = [] ∧ trackState.time.seeded < 16 ∧ trackState.time.pending = none
    ∧ trackState.time.landed ≤ 0 ∧ (candAt trackState trackState.time.cur).discards < 7 ∧ State.reset.time.out = [] := by
  unfold Tables; decide +kernel

theorem wit_TimeStatesAndPtmPairs : candPort trackState 0 = some 0 ∧ portCarries trackState 0 = true ∧ trackState.tst = 2
    ∧ RoomFor trackState ∧ Reaches .smbus readyState ∧ Reaches .pcie readyState
    ∧ (let s := (readyState.uPcie fun p => { p with ptmEn := true }).wr R.TIME_PTM_CTL 0x100
      Tables s ∧ Reaches .pcie s ∧ s.pcie.ptmEn = true ∧ s.bit R.TIME_PTM_STATUS 2 = false ∧ s.fd R.TIME_PTM_CTL 15 8 ≠ 0)
    ∧ readyState.pcie.ptmEn = false
    ∧ (readyState.wr R.TIME_PTM_STATUS 4).bit R.TIME_PTM_STATUS 2 = true := by
  unfold Tables Reaches RoomFor; decide +kernel

theorem wit_PowerRequestsDenyRefuseAndRun : Tables readyState ∧ Reaches .pcie readyState ∧ Reaches .smbus readyState
    ∧ RoomFor readyState ∧ hostLike .pcie = true ∧ hostLike .smbus = false ∧ State.reset.dom 0 = 0 ∧ Tables State.reset
    ∧ readyState.dom 0xA4 = 2 ∧ domInUse readyState 0xA4 = true ∧ readyState.rst.doms.contains 0xA4 = false
    ∧ readyState.dom 0x7F = 2 ∧ domInUse readyState 0x7F = false ∧ readyState.domUp 0x7F = true
    ∧ (let s := State.reset.uPwr fun p => { p with upQ := [5, 0x40] }
      5 ∈ s.pwr.upQ ∧ s.rst.doms.contains 5 = false ∧ ∀ e < 5, e ∈ s.pwr.upQ → railOf e = railOf 5 → e ∈ s.rst.doms)
    ∧ (State.reset.setDom 5 1).dom 5 = 1 ∧ (State.reset.setDom 5 3).dom 5 = 3 ∧ State.reset.pwr.waiting = []
    ∧ (readyState.uPwr fun p => { p with auto := [5] }).pwr.auto.contains 5 = true := by
  unfold Tables Reaches RoomFor; decide +kernel

theorem wit_PackagePowerCapAndGovernor : Tables readyState ∧ RoomFor readyState ∧ readyState.bit R.PWR_STATUS 9 = false
    ∧ readyState.bit R.PWR_STATUS 8 = false ∧ measMean ((pkgPower ⟨4000, 6000, 4000, 1000⟩ 500 500 readyState :: readyState.pwr.meas).take 200) ≤ pkgLimit readyState
    ∧ pkgLimit readyState < measMean ((pkgPower ⟨4000, 6000, 4000, 8000⟩ 500 500 readyState :: readyState.pwr.meas).take 200)
    ∧ readyState.pwr.g0.sEff ≤ 256 ∧ readyState.pwr.g1.sEff ≤ 256
    ∧ (readyState.uPwr fun p => { p with overRun := 20 }).pwr.overRun = 20 ∧ readyState.pwr.overRun < 20
    ∧ readyState.tkt.rings = [] ∧ readyState.pwr.power = [] ∧ (readyState.wr R.PWR_STATUS 0x200).bit R.PWR_STATUS 9 = true := by
  unfold Tables RoomFor; decide +kernel

theorem wit_HeatNotesArePlannedDeliveredAndLapse : Tables notedState ∧ (ringOf notedState 3).queue = [noteTicket]
    ∧ (ringOf notedState 3).run = [] ∧ (ringOf notedState 3).bare = [] ∧ noteTicket.bad = false ∧ tKind noteTicket = 1 ∧ noteOf notedState 3 0 = none
    ∧ noteRoom notedState (dieOf 3) notedState.now = true ∧ RoomFor notedState
    ∧ (match (after (.lookaheadEntry 3) notedState).pwr.notes with
      | [n] => notePending (after (.lookaheadEntry 3) notedState) n && n.ring == 3
          && decide ((n.start / 8000 + 3) * 8000 ≤ ((after (.lookaheadEntry 3) notedState).uCt fun _ => 24000).now)
      | _ => false) = true := by
  unfold Tables RoomFor; decide +kernel

theorem goodPart_suffices : (sfdpRead goodPart).map nvmShort = some false := by decide +kernel

theorem attempt_passes : attemptReason ⟨0, goodPart, false⟩ imageState = 0 := by
  have hs : attemptSlot imageState = 0 := by decide +kernel
  have hp := goodPart_suffices
  unfold attemptReason
  cases h : sfdpRead goodPart with
  | none => rw [h] at hp; cases hp
  | some n =>
    rw [h] at hp
    have hn : nvmShort n = false := Option.some.inj hp
    simp only [hn, hs, imageState_passes, Bool.false_eq_true, if_false]

theorem attempt_fails : imageState.top = 1 ∧ imageState.pins.bootSel.toNat < 2 ∧ imageState.evt.queue.length < 1000
    ∧ imageState.boot.attempt = 0 ∧ attemptReason ⟨0, [], false⟩ imageState = 1 ∧ attemptReason ⟨0, [], true⟩ imageState = 9 := by
  decide +kernel

theorem wit_ImageAttemptsAndSafe :
    (imageState.top = 1 ∧ imageState.pins.bootSel.toNat < 2 ∧ imageState.evt.queue.length < 1000 ∧ imageState.boot.attempt = 0
      ∧ attemptReason ⟨0, [], false⟩ imageState = 1 ∧ attemptReason ⟨0, [], true⟩ imageState = 9)
    ∧ attemptReason ⟨0, goodPart, false⟩ imageState = 0
    ∧ (let s := imageState.uBoot fun b => { b with attempt := 1 }; s.boot.attempt = 1 ∧ s.top = 1 ∧ attemptReason ⟨0, [], false⟩ s = 1)
    ∧ (let s := imageState.uPins fun p => { p with bootSel := 2 }; s.pins.bootSel.toNat = 2 ∧ s.top = 1) :=
  ⟨attempt_fails, attempt_passes, by decide +kernel, by decide +kernel⟩

theorem wit_ConfigLoadTakesTheImageInForce : Tables readyState ∧ Reaches .pcie readyState ∧ 3 ≤ readyState.top
    ∧ Reaches .jtag State.reset ∧ State.reset.top ≤ 2 ∧ RoomFor State.reset
    ∧ chipNumber (State.reset.fw R.GLB_STATE 3 0 2) 0 = none ∧ (State.reset.fw R.GLB_STATE 3 0 2).top = 2
    ∧ (let s := ((State.reset.fw R.GLB_STATE 3 0 2).uFlash fun _ => [(20, 0)]).uFuses fun f => { f with chips := [1315] }
      chipNumber s (attemptSlot s) = some 1315 ∧ (loadAll 0 s).1.ok = false) ∧ State.reset.boot.attempt = 0
    ∧ (let s := (readyState.fw R.GLB_STATE 3 0 4).fw R.TIME_STATUS 2 0 2
      s.top = 4 ∧ readyNow s = true ∧ Tables s)
    ∧ scribeRuns activeState = true ∧ activeState.bit R.BOOT_STATUS 19 = false ∧ activeState.top = 5 := by
  unfold Tables Reaches RoomFor; decide +kernel

theorem wit_MailboxCommandsAndSessions : Tables readyState ∧ Reaches .smbus readyState ∧ RoomFor readyState
    ∧ readyState.bit R.BOOT_MB_STATUS 31 = false ∧ (readyState.wr R.BOOT_MB_STATUS 0x80000000).bit R.BOOT_MB_STATUS 31 = true
    ∧ (let s := (readyState.wr R.BOOT_STATUS 0x10000).uBoot fun b => { b with args := [(4 * Path.code .smbus + 1, 4096)] }
      Reaches .smbus s ∧ mbOwned s (Path.code .smbus) = false ∧ mbArg s (Path.code .smbus) 0 ≤ 1
        ∧ imgValid s (1 - mbArg s (Path.code .smbus) 0) = true ∧ 4096 ≤ mbArg s (Path.code .smbus) 1
        ∧ mbArg s (Path.code .smbus) 1 ≤ 33554432 ∧ s.boot.flash = none)
    ∧ (let s := readyState.uBoot fun b => { b with session := some ⟨1, 8192, 0, Path.code .smbus⟩, args := [(4 * Path.code .smbus + 1, 512)] }
      Reaches .smbus s ∧ mbArg s (Path.code .smbus) 0 = 0 ∧ mbArg s (Path.code .smbus) 1 = 512 ∧ s.boot.flash = none
        ∧ mbOwned s (Path.code .jtag) = true ∧ Path.code .smbus ≠ Path.code .jtag)
    ∧ (readyState.fw R.GLB_STATE 3 0 6).top = 6 ∧ Reaches .smbus (readyState.fw R.GLB_STATE 3 0 6)
    ∧ (let s := ((readyState.wr R.BOOT_STATUS 0x30000).uFlash fun _ => [(0xC, 5), (0xD, 0), (0x200000C, 5), (0x200000D, 0)]).uBoot fun b =>
        { b with args := [(4 * Path.code .smbus, 5)] }
      Tables s ∧ Reaches .smbus s ∧ s.pins.cfgOpen = false ∧ s.fuses.rollback < mbArg s (Path.code .smbus) 0 ∧ imgValid s 0 = true
        ∧ imgValid s 1 = true ∧ mbArg s (Path.code .smbus) 0 ≤ hdrDw s 0 3 % 128 ∧ mbArg s (Path.code .smbus) 0 ≤ hdrDw s 1 3 % 128) := by
  unfold Tables Reaches RoomFor; decide +kernel

theorem wit_FlashOperationsTakeEffectWhenTheyEnd : Tables readyState ∧ RoomFor readyState ∧ readyState.boot.flash = none
    ∧ (readyState.uBoot fun b => { b with flash := some (.eraseSlot 1 4096) }).boot.flash = some (.eraseSlot 1 4096)
    ∧ (readyState.uBoot fun b => { b with flash := some (.progSlot 1 0 [1, 2]), session := some ⟨1, 8192, 0, 3⟩ }).boot.session.isSome
      = true := by
  unfold Tables RoomFor; decide +kernel

theorem wit_ProofSamplesResetsAndProofs : Tables proofState ∧ proofState.proof.run = true ∧ RoomFor proofState
    ∧ Reaches .pcie proofState ∧ Reaches .smbus proofState ∧ proofState.dom 0xA5 = 2 ∧ proofState.domUp 0xA5 = true
    ∧ (proofState.uProof fun p => { p with sync := some 3 }).proof.sync = some 3
    ∧ (List.replicate 64 (List.replicate 8 (0 : BitVec 16))).length = 64 ∧ (∀ r ∈ List.replicate 64 (List.replicate 8 (0 : BitVec 16)), r.length = 8)
    ∧ (proofState.uProof fun p => { p with sync := some 1 }).proof.sync = some 1
    ∧ pixAll ≤ proofState.proof.outs.length ∧ proofState.proof.settle.contains proofState.proof.frame = false
    ∧ (proofState.uProof fun p => { p with settle := [p.frame] }).proof.settle.contains proofState.proof.frame = true
    ∧ (∀ c < 4, cropOf proofState c = none) ∧ (∀ p < 16, ∀ n < 18, proofState.lane false p n ≠ 3 ∧ proofState.lane false p n ≠ 4)
    ∧ readyState.proof.outs.length < pixAll := by
  unfold Tables Reaches RoomFor; decide +kernel

theorem wit_DarkCapturesAndTelemetryPeriods : Tables proofState ∧ Reaches .pcie proofState ∧ Reaches .smbus proofState
    ∧ RoomFor proofState ∧ darkRefused proofState 0x213 = true ∧ darkRefused proofState 0x10000 = false ∧ proofState.dom 0xA5 = 2
    ∧ (let s := proofState.uProof fun p => { p with caps := [⟨some 1, 4, [], [], 0⟩] }
      Tables s ∧ s.proof.caps = [⟨some (1 : BitVec 10).toNat, 4, [], [], 0⟩] ∧ max 1 (s.fd R.PROOF_DARK_CFG 3 0) ≤ 4
        ∧ s.evt.queue.length < 1000 ∧ lanePix 1 ≠ []) ∧ proofState.proof.caps = [] := by
  unfold Tables Reaches RoomFor; decide +kernel

/-- E9 in RUN with the words of 09's worked example for loop 0x1E9, whose engine runs. -/
def sampleState : State :=
  let s := [(0, 1), (1, 543), (2, 4294965120), (3, 0x84200C4), (39, 0x100000), (4, 0x40000), (5, 4294967056), (6, 4294868992),
      (7, 4294901760), (10, 0x9C400000)].foldl (fun s (x : Nat × Nat) => s.wr (coefOff 9 5 x.1) x.2) readyState
  let s := ((s.wr (R.STY_HN_G 9 0) 480).wr (R.STY_HN_G 9 1) 480).wr (R.STY_STATUS 9) 1
  ((s.setLp 9 5 { s.lp 9 5 with dac := 0xA022 }).uPins fun p => { p with vsqNew := -327500, vsqFrame := 7 }).uProof fun p =>
    { p with frame := 1, p0 := ⟨.live, 1, [(543, 0xF7FA021F)], []⟩ }

/-- 09, worked example: i, OUT, ERR of loop 0x1E9. -/
theorem test_sample_1E9 : (let t := after (.stylusSlot 9 5) sampleState
    (t.coef 9 5 10, t.coef 9 5 11, t.coefI 9 5 12)) = (0x9C386000, 0xA022B740, -122) := by decide +kernel

theorem wit_StylusSamplesFollowTheLaw : LawAlone sampleState 9 5 ∧ loopMode sampleState 9 5 = 1
    ∧ holdCauses sampleState 9 5 = (false, false, false) ∧ (sampleState.lp 9 5).guard = 0 ∧ (sampleState.lp 9 5).rolling = false
    ∧ (let s := sampleState.wr (coefOff 9 5 0) 2; LawAlone s 9 5 ∧ loopMode s 9 5 = 2 ∧ holdCauses s 9 5 = (false, false, false))
    ∧ (let s := sampleState.wr (coefOff 9 5 0) 0x11; LawAlone s 9 5 ∧ holdCauses s 9 5 = (true, false, false))
    ∧ (let s := (sampleState.wr (coefOff 9 5 0) 0x11).setEng 9 ⟨[(4, 8, 3), (5, 8, 7)], none, 0, none⟩
      engineRuns s 9 = true ∧ loopId 9 5 ≠ 0xFFF ∧ takeWord 5 (s.eng 9).wq = (some (8, 7), [(4, 8, 3)]) ∧ s.bit (coefOff 9 5 0) 4 = true
        ∧ (s.eng 9).relay = none ∧ rollSlot s 9 5 = false ∧ s.bit (supOff 9 5 0) 2 = false ∧ trState s 9 = 0 ∧ s.sty.todo = [])
    ∧ engineRuns readyState 9 = false := by
  unfold LawAlone; constructorm* _ ∧ _ <;> decide +kernel

/-- Loop 0x1C5 of 09's worked example before its wrap: m = sp − 3, i about to wrap. -/
def wrapState : State :=
  let s := [(0, 0x621), (1, 1000), (2, 3), (3, 0), (32, 0x8000), (4, 0x55555 + 1), (8, 0x70000), (9, 0x0C30C30C), (10, 0xFFEFFFFE)].foldl
    (fun s (x : Nat × Nat) => s.wr (coefOff 8 23 x.1) x.2) readyState
  let s := s.wr (R.STY_STATUS 8) 1
  (s.setLp 8 23 { s.lp 8 23 with dac := 0xFFF7 }).uProof fun p => { p with p0 := ⟨.live, p.frame, [], []⟩ }

/-- 09, worked example: loop 0x1C5 lands on SEED. -/
theorem test_wrap_1C5 : (let t := after (.stylusSlot 8 23) wrapState
    (t.coef 8 23 10, t.coef 8 23 11, (t.lp 8 23).guard)) = (0x0C30C30C, 0x0C37C30C, 6) := by decide +kernel

theorem wit_OrderRollsSeedGuardAndEnd : (LawAlone wrapState 8 23 ∧ loopMode wrapState 8 23 = 1 ∧ holdCauses wrapState 8 23 = (false, false, false)
      ∧ (wrapState.lp 8 23).guard = 0 ∧ (wrapState.lp 8 23).rolling = false ∧ isRing 23 = true ∧ wrapState.evt.queue.length < 1000)
    ∧ ((dacOf (i32 (lawBase wrapState 8 23 (i32 (wrapState.coefI 8 23 10 + lawD wrapState 8 23 3)) + lawP wrapState 8 23 3)) : Int) + 0x8000
        < (wrapState.lp 8 23).dac ∧ i32 (wrapState.coefI 8 23 2 - measure wrapState 8 23) = 3)
    ∧ (let s := wrapState.setLp 8 23 { wrapState.lp 8 23 with guard := 4 }
      LawAlone s 8 23 ∧ (s.lp 8 23).guard ≠ 0 ∧ ((dacOf (lawBase s 8 23 (s.coefI 8 23 10)) : Int) - (s.lp 8 23).dac).natAbs ≤ 0x8000)
    ∧ (let s := (sampleState.setLp 9 5 { sampleState.lp 9 5 with rolling := true })
      LawAlone s 9 5 ∧ (s.lp 9 5).rolling = true ∧ RoomFor s)
    ∧ (let s := ((((readyState.wr (coefOff 8 0 0) 1).wr (coefOff 8 0 8) 0x90000000).wr (R.STY_STATUS 8) 1).uProof fun p =>
        { p with frame := 1, p0 := ⟨.none, 1, [], []⟩, p1 := ⟨.live, 0, [], []⟩ })
      LawAlone s 8 0 ∧ loopMode s 8 0 = 1 ∧ holdCauses s 8 0 = (false, false, false) ∧ (s.lp 8 0).guard = 0
        ∧ 0x8000 < ((dacOf (i32 (lawBase s 8 0 0)) : Int) - (s.lp 8 0).dac).natAbs) := by
  unfold LawAlone RoomFor; constructorm* _ ∧ _ <;> decide +kernel

theorem wit_CoefficientWritesHousekeepingAndRelease : Reaches .pcie readyState ∧ Reaches .smbus readyState ∧ RoomFor readyState
    ∧ readyState.blockOn (coefOff 8 23 10) = true ∧ loopId 8 23 ≠ 0xFFF ∧ loopId 8 138 = 0xFFF ∧ (readyState.eng 8).wq.length < 128 ∧ readyState.sty.patient = false
    ∧ (let s := readyState.setEng 8 ⟨List.replicate 128 (0, 0, 0), none, 0, none⟩; 128 ≤ (s.eng 8).wq.length ∧ RoomFor s ∧ s.blockOn (coefOff 8 23 10) = true)
    ∧ (∀ e < 16, engineRuns readyState e = false)
    ∧ (let s := { State.reset with regs := [(0x30124, 0xAAAAAAAA), (R.STY_STATUS 8, 1)] }
      let s := s.setLp 8 23 { s.lp 8 23 with sup := (0x18, 0, 0) }
      engineRuns s 8 = true ∧ bitOf (s.lp 8 23).sup.1 3 = true ∧ bitOf (s.lp 8 23).sup.1 4 = true
        ∧ s.bit (R.STY_ROLL_DUE 8 0) 23 = false ∧ (s.lp 8 23).dac / 256 ≤ fieldOf (s.lp 8 23).sup.2.1 23 16
        ∧ (∀ d < 16, d ≠ 8 → engineRuns s d = false) ∧ RoomFor s
        ∧ ∀ k < 56, isRing k = true → k ≠ 23 → bitOf (s.lp 8 k).sup.1 4 = false)
    ∧ readyState.blockOn (R.STY_SUP_RELEASE 8) = true := by
  unfold Reaches RoomFor; constructorm* _ ∧ _ <;> decide +kernel

/-- 10, worked example: E8's TEC loop in maintenance, its relay begun. -/
def maintState : State :=
  let s := [(0, 1), (1, 0x8000001A), (2, 11520), (11, 0x70000000)].foldl (fun s (x : Nat × Nat) => s.wr (coefOff 8 137 x.1) x.2) readyState
  let s := ((s.wr (R.STY_RELAY_CFG 8) 0x040807D0).wr R.LAS_STATUS 0xFF).wr (R.STY_STATUS 8) 1
  (s.uLas fun x => { x with safe := List.replicate 8 16 }).uProof fun p =>
    { p with frame := 1, p0 := ⟨.live, 1, [], List.replicate 64 11500⟩, p1 := ⟨.live, 0, [], List.replicate 64 11500⟩ }

/-- Two states of the engine's relay: begun, and past its TIMEOUT. -/
def relayState (n : Nat) : State := maintState.setEng 8 ⟨[], some ⟨137, 0, 0, false, 0, n, 0, 0, none, none⟩, 0, none⟩

/-- 10, worked example: A2 = 128, h = 2,000 and 286 samples a period give KU 2,607,593 and TU 73,216. -/
theorem test_relay_T2 :
    (let s := (maintState.wr (R.STY_RELAY_CFG 8) 0x040807D0).setEng 8 ⟨[], some ⟨137, 0, 0, true, 5, 1715, 572, 1430, some 11456, some 11584⟩, 0, none⟩
     let t := after (.stylusSlot 8 137) s
     (t.rd (R.STY_RELAY_KU 8), t.rd (R.STY_RELAY_TU 8), t.rd (R.STY_RELAY_A2 8), t.fd (R.STY_RELAY_STATUS 8) 26 24)) = (2607593, 73216, 128, 1) := by
  decide +kernel

theorem wit_RelayTuningAndTraces : Reaches .pcie maintState ∧ Reaches .smbus maintState ∧ RoomFor maintState
    ∧ maintState.blockOn (R.STY_RELAY_CMD 8) = true ∧ relayEligible 8 137 = true ∧ relayEligible 8 3 = false ∧ inMaint maintState 8 137 = true
    ∧ inMaint readyState 8 137 = false ∧ (maintState.eng 8).relay = none ∧ bitOf 0x80000089 31 = true ∧ fieldOf 0x80000089 7 0 = 137
    ∧ (∀ b < 8, (maintState.las.safe.getD b 0 = 0 ↔ maintState.bit R.LAS_STATUS b = false))
    ∧ ((relayState 0).eng 8).relay.isSome = true ∧ inMaint (relayState 0) 8 137 = true ∧ engineRuns (relayState 0) 8 = true
    ∧ loopMode (relayState 0) 8 137 = 1 ∧ holdCauses (relayState 0) 8 137 = (false, false, false) ∧ trState (relayState 0) 8 = 0
    ∧ (relayState 4096).fd (R.STY_RELAY_LIMIT 8) 31 16 = 4096 ∧ readyState.blockOn (R.STY_TRACE_CMD 8) = true
    ∧ (let s := (readyState.wr (R.STY_TRACE_STATUS 8) 0x40000005).wr (R.STY_TRACE_CFG 8) 0x300000
      trState s 8 = 1 ∧ s.fd (R.STY_TRACE_CFG 8) 22 20 = 3 ∧ s.rd64 (R.STY_TRACE_CT_LO 8) ≤ s.now ∧ (s.eng 8).fired = none ∧ Reaches .pcie s ∧ s.blockOn (R.STY_TRACE_CMD 8) = true)
    ∧ (let s := readyState.wr (R.STY_TRACE_CT_LO 8) 9; s.now < s.rd64 (R.STY_TRACE_CT_LO 8)) ∧ trState readyState 8 = 0
    ∧ trState (readyState.wr (R.STY_TRACE_STATUS 8) 0x80000005) 8 = 2 ∧ ((readyState.wr (R.STY_TRACE_STATUS 8) 0x80000005).eng 8).post = 0 := by
  unfold Reaches RoomFor; constructorm* _ ∧ _ <;> decide +kernel

/-- T2 in RUN, both low sides on, its loop at code 0xA000, DEAD 80. -/
def tecRun : State :=
  let s := (readyState.wr R.TEC_STATE 0x200).wr (R.TEC_CFG 2) 80
  (s.uTk 2 fun t => { t with gates := 10 }).setLp 8 137 { s.lp 8 137 with dac := 0xA000 }

/-- 11, worked example of R293: q = +8,192, T = 1,000 ticks, leg A switches. -/
theorem test_pwm_A000 : ((after (.pwmPeriod 2 0) tecRun).rd (R.TEC_DUTY 2), (after (.pwmPeriod 2 0) tecRun).out.length) = (65536 * 1000 + 8192, 4) := by
  decide +kernel

theorem wit_TecDrivesFaultAndRestart : Reaches .pcie tecRun ∧ Reaches .smbus tecRun ∧ RoomFor tecRun ∧ tecRun.domUp 0xA6 = true ∧ tecState tecRun 2 = 2
    ∧ (tecRun.tk 2).gates = 10 ∧ 0 < tecQ tecRun 2 ∧ (∀ g < 4, (tecRun.tk 2).off.getD g none = none) ∧ tecRun.top ≠ 3
    ∧ (let s := tecRun.uTk 2 fun t => { t with ocRun := 4, openRun := 1000 }
      4 ≤ (s.tk 2).ocRun ∧ 1000 ≤ (s.tk 2).openRun ∧ s.bit R.TEC_FAULT 9 = false ∧ s.bit R.TEC_FAULT 10 = false ∧ s.evt.queue.length < 1000
        ∧ ∀ j < 8, (s.las.safe.getD j 0 = 0 ↔ s.bit R.LAS_STATUS j = false))
    ∧ (let s := tecRun.wr R.TEC_FAULT 0x230; s.fd R.TEC_FAULT 10 8 ≠ 0 ∧ fieldOf 0x700 10 8 = 7 ∧ s.blockOn R.TEC_FAULT = true)
    ∧ (∀ j : Fin 4, j ≠ 2 → fieldOf 0x700 (4 * j + 2) (4 * j) = 0)
    ∧ tecState readyState 2 = 0 ∧ readyState.blockOn (R.TEC_FORCE 2) = true ∧ bitOf 0x80000003 31 = true ∧ fieldOf 0x80000003 3 0 = 3
    ∧ violation (readyState.tk 2) (deadTime readyState 2) 1 readyState.ticks = none
    ∧ (let s := ((tecRun.wr R.TEC_STATE 0x100).wr R.LAS_STATUS 0x30).uLas fun x => { x with safe := List.replicate 8 4 }
      tecState s 2 = 1 ∧ s.fd (R.TEC_SETTLE 2) 31 16 ≤ ((s.uTk 2 fun t => { t with band := 1000 }).tk 2).band ∧ s.las.safe.getD 4 0 = 4)
    ∧ (let s := ((List.range 4).foldl (fun s i => s.fw (R.LNK_STATUS (8 + i)) 3 0 6) (tecRun.wr R.TEC_STATE 0x100))
      tecState s 2 = 1 ∧ s.top ≠ 3 ∧ RoomFor s ∧ ∀ i < 4, s.port (8 + i) = 6 ∧ ∀ n < 18, s.lane true (8 + i) n ∈ [0, 4, 6]) := by
  unfold Reaches RoomFor; constructorm* _ ∧ _ <;> decide +kernel

/-- 11, worked example: line 5 of B4 LIT, the power loop at 0xA000, TRIM 2,100. -/
def lineState : State :=
  let s := readyState.wr (R.LAS_LINE 4 5) 0x88340000
  s.setLp 8 0 { s.lp 8 0 with dac := 0xA000 }

theorem test_line_bias : lineWord lineState 4 5 = 0x88340200 := by decide +kernel

theorem wit_LaserBanksForceRestoreAndRecord : Reaches .pcie readyState ∧ Reaches .smbus readyState ∧ RoomFor readyState
    ∧ readyState.evt.queue.length < 900 ∧ (∀ b < 8, (readyState.las.safe.getD b 0 = 0 ↔ readyState.bit R.LAS_STATUS b = false))
    ∧ bitOf 0x12 4 ≠ readyState.bit R.LAS_STATUS 4
    ∧ (let s := (readyState.wr R.LAS_SHUT 0x200).wr R.LAS_SHUT_CAUSE 0x2000000
      s.bit R.LAS_SHUT 9 = true ∧ s.bit R.LAS_SHUT_CAUSE 25 = true ∧ s.bit R.LAS_SHUT_CAUSE 9 = false ∧ s.evt.queue.length < 900)
    ∧ readyState.bit R.LAS_SHUT 9 = false ∧ Reaches .smbus lineState ∧ lineState.line 4 5 = 2 ∧ lineState.bit R.LAS_STATUS 4 = false := by
  unfold Reaches RoomFor; constructorm* _ ∧ _ <;> decide +kernel

/-- P8's TX and RX ch9 in a lane state, local, slot 9; ch16 and ch17 SPARE. -/
def laneState (st : Nat) : State :=
  let s := [true, false].foldl (fun s tx => ((s.wr (laneReg tx 8 9) (2 ^ 28 * st + 2 ^ 26 + 2 ^ 16 * 9)).wr (laneReg tx 8 16) 0x5C1F0000).wr (laneReg tx 8 17) 0x5C1F0000) readyState
  ((s.wr (R.LNK_STATUS 8) 4).wr (R.LNK_PEER 8) (2 ^ 31 + 0x90000 + 563)).fw (R.LNK_LOCK_CFG 8) 23 16 0

/-- It sweeps, its ring's loop in SWEEP, from a baseline of zero. -/
def sweepState : State :=
  let s := (((laneState 1).wr (R.STY_STATUS 8) 1).wr (coefOff 8 (laneRing (laneState 1) true 8 9) 0) 2).uLs true 8 9 fun x => { x with sweep := some ⟨(0, 0, 0), 5, 300⟩ }
  s.uProof fun p => { p with frame := 1, p0 := ⟨.live, 1, [], []⟩, p1 := ⟨.live, 0, [], []⟩ }

theorem wit_LanesSweepLockAndFail : sweepState.lane true 8 9 = 1 ∧ sweepFound sweepState true 8 9 = some 300 ∧ sweepState.sty.patient = false
    ∧ (let l := laneRing sweepState true 8 9
      LawAlone sweepState 8 l ∧ l < 140 ∧ loopMode sweepState 8 l = 2 ∧ holdCauses sweepState 8 l = (false, false, false)
        ∧ (slotProof sweepState l).kind = .live ∧ (sweepState.ls true 8 9).sweep = some ⟨(0, 0, 0), 5, 300⟩)
    ∧ (8 : Nat) ≠ sweepState.fd R.CLK_REF_CFG 7 4
    ∧ (sweepState.eng 8).wq.length ≤ 126 ∧ (laneState 2).lane true 8 9 = 2
    ∧ (laneState 2).fd (R.LNK_LOCK_CFG 8) 23 16 ≤ ((laneState 2).lp 8 (laneRing (laneState 2) true 8 9)).lk
    ∧ ((laneState 2).lk 8).rxRot = none ∧ swapInto (laneState 2) false 8 9 = none
    ∧ ((laneState 2).ls true 8 9).recover = false ∧ swapInto (laneState 2) true 8 9 = none ∧ rotUses (laneState 2) true 8 9 = false
    ∧ (laneState 2).role true 8 9 ≠ 2 ∧ (laneState 2).slot true 8 9 ≠ 31 ∧ (laneState 2).bit (laneReg false 8 9) 8 = false
    ∧ ((laneState 2).fw (laneReg true 8 9) 27 26 2).role true 8 9 = 2 ∧ ((laneState 2).fw (laneReg true 8 9) 20 16 31).slot true 8 9 = 31
    ∧ (((laneState 2).uLs true 8 9 fun x => { x with fails := 2 }).ls true 8 9).fails = 2
    ∧ markOk (laneState 2) 8 9 ⟨563, 9, 9⟩ = true ∧ markOk (laneState 2) 8 9 ⟨562, 9, 9⟩ = false
    ∧ (((laneState 2).uLs false 8 9 fun x => { x with conf := true }).ls false 8 9).conf = true ∧ RoomFor (laneState 2)
    ∧ ((laneState 3).fw (laneReg false 8 9) 8 8 1).bit (laneReg false 8 9) 8 = true
    ∧ (let s := (laneState 3).uLs false 8 9 fun x => { x with unc := (0, 4) }
      s.lane false 8 9 = 3 ∧ (s.ls false 8 9).vac = false ∧ inApply s = false ∧ s.slot false 8 9 ≠ 31 ∧ (s.ls false 8 9).unc.1 = s.now / 8000
        ∧ s.fd (R.LNK_FEC_CFG 8) 31 24 ≤ (s.ls false 8 9).unc.2 ∧ (s.lk 8).swaps = [] ∧ lowSpare s false 8 = some 16 ∧ s.evt.queue.length < 1000) := by
  unfold LawAlone RoomFor; constructorm* _ ∧ _ <;> decide +kernel

/-- P8's ch9 LIVE with codeword lock; a link block of one's own choosing. -/
def blockState (L : Lnk) : State := ((laneState 3).fw (laneReg false 8 9) 8 8 1).uLk 8 fun _ => L

theorem wit_BlocksAcksAndRetry : (List.replicate 160 (0 : Word)).length = 160 ∧ (laneState 3).bit (laneReg false 8 9) 8 = false
    ∧ (let s := blockState { Lnk.init with rxBsn := 16383 }
      s.bit (laneReg false 8 9) 8 = true ∧ (s.ls false 8 9).heldRx = false ∧ swapInto s false 8 9 = none ∧ fieldOf (0 : BitVec 20).toNat 19 18 = 0
        ∧ fieldOf (0x40000 : BitVec 20).toNat 19 18 ≠ 0 ∧ retryRanges false (s.lk 8) = [] ∧ 2047 < (2047 + 16384 - (s.lk 8).rxBsn) % 16384 ∧ (s.lk 8).rxBsn = (16383 : BitVec 14).toNat
        ∧ (s.lk 8).rxHeld = [] ∧ (s.lk 8).rxBsn < 16384 ∧ (s.lk 8).rxBsn ≠ 5 ∧ (5 + 16384 - (s.lk 8).rxBsn) % 16384 ≤ 2047 ∧ (s.lk 8).queue = [])
    ∧ (let s := blockState { Lnk.init with rxHeld := (List.range 65).map fun i => (i + 1, []) }
      retryRanges false (s.lk 8) ≠ [] ∧ RoomFor s ∧ (Ev.LINK_RETRY, 8, s.now / 8000) ∉ s.evt.marks)
    ∧ anyLive readyState 8 = false
    ∧ (let s := blockState { Lnk.init with retry := [(16383, 9, []), (0, 9, [])] }
      RoomFor s ∧ anyLive s 8 = true ∧ (Ev.LINK_RETRY, 8, s.now / 8000) ∉ s.evt.marks ∧ (s.lk 8).retry ≠ [] ∧ s.port 8 = 4 ∧ s.evt.queue.length < 1000
        ∧ ((s.lk 8).retry.filter fun b => [((16383 : BitVec 14), (16383 : BitVec 14))].any fun r =>
            decide ((b.1 + 16384 - r.1.toNat) % 16384 ≤ (r.2.toNat + 16384 - r.1.toNat) % 16384)) = [(16383, 9, [])]) := by
  unfold RoomFor; constructorm* _ ∧ _ <;> decide +kernel

/-- P8 in a port state with one data lane each way, ch9, which has codeword lock. -/
def portState (st : Nat) : State :=
  ((((laneState 3).fw (laneReg false 8 9) 8 8 1).wr (R.LNK_STATUS 8) st).wr (R.HMK_P_STATUS 8) 0x10000000).fw (R.LNK_CFG 8) 28 24 1

theorem wit_PortsTrainExchangeAndLoop : (portState 1).port 8 = 1 ∧ (portState 1).bit (R.LNK_STATUS 8) 4 = false
    ∧ (⟨563, 9, 63, 512, 0, 512⟩ : TrainMsg).plate.toNat = (portState 1).curPlate ∧ dataLanes (portState 1) true 8 ≠ []
    ∧ applyWaits (portState 1) 8 = false
    ∧ (∀ n < 18, (bitOf 512 n = true → (portState 1).bit (laneReg false 8 n) 8 = true) ∧ ((portState 1).slot true 8 n ≠ 31 → bitOf 512 n = true))
    ∧ (let s := (portState 1).uLk 8 fun L => { L with train := some ⟨563, 9, 63, 512, 0, 512⟩ }
      (∀ tx, upLanes s tx 8 = dataLanes s tx 8) ∧ ∀ tx, s.fd (R.LNK_CFG 8) 28 24 ≤ (dataLanes s tx 8).length)
    ∧ (upLanes (portState 1) true 8).length < (portState 1).fd (R.LNK_CFG 8) 28 24 ∧ (portState 1).evt.queue.length < 1000
    ∧ (portState 2).port 8 = 2 ∧ ((portState 2).lk 8).cred = none ∧ (portState 6).domUp 0x88 = true ∧ tecOut (portState 6) 8 = false
    ∧ (let s := (portState 2).uLk 8 fun L => { L with cred := some [], peerV := some (0, 0) }; (s.lk 8).cred.isSome = true ∧ (s.lk 8).peerV.isSome = true)
    ∧ (portState 6).port 8 = 6 ∧ (portState 6).bit R.LAS_SHUT 8 = false ∧ verdict (portState 6) 8 = 1
    ∧ Reaches .pcie (portState 6) ∧ Reaches .smbus (portState 6) ∧ RoomFor (portState 6) ∧ (portState 6).dom 0x88 = 2
    ∧ (portState 6).bit (R.LNK_PEER 8) 31 = true
    ∧ (let s := (portState 0x10).wr (R.HMK_P_STATUS 8) 0x20000000
      s.port 8 = 0 ∧ verdict s 8 = 2 ∧ s.bit R.LAS_SHUT 8 = false ∧ s.bit (R.LNK_STATUS 8) 4 = true
        ∧ (s.wr (R.LNK_PEER 8) 0).bit (R.LNK_PEER 8) 31 = false ∧ s.domUp 0x88 = true ∧ tecOut s 8 = false
        ∧ (s.wr R.LAS_SHUT 0x100).bit R.LAS_SHUT 8 = true ∧ (s.wr R.LAS_SHUT 0x100).bit R.LAS_SHUT_CAUSE 24 = false
        ∧ ((s.wr R.LAS_SHUT 0x100).wr R.LAS_SHUT_CAUSE 0x1000000).bit R.LAS_SHUT_CAUSE 24 = true) := by
  unfold Reaches RoomFor; constructorm* _ ∧ _ <;> decide +kernel

/-- 12, worked example: P8:ch9/TX swaps to ch17, which is LIVE. -/
def swapState : State :=
  ((laneState 3).wr (laneReg true 8 17) 0x3C1F0000).uLk 8 fun L => { L with swaps := [⟨true, 9, 9, 17, true, true, .recover, 0⟩] }

/-- 12, worked example: after the swap ch17 reads 0x3E09_0000. -/
theorem test_swap_ch17 : (after (.laneSwapComplete 8 true 9 17) swapState).rd (laneReg true 8 17) = 0x3E090000 := by decide +kernel

theorem wit_SwapsRecoveryAndRotation : (laneState 3).slot true 8 9 = (9 : BitVec 5).toNat ∧ isSpare (laneState 3) true 8 16 = true
    ∧ ((laneState 3).lk 8).swaps = [] ∧ (∃ w ∈ (swapState.lk 8).swaps, w.tx = true ∧ w.slot = 9)
    ∧ ((swapState.lk 8).swaps.find? fun w => w.tx == true && w.slot == (9 : BitVec 5).toNat && w.new == 17) = some ⟨true, (9 : BitVec 5).toNat, 9, 17, true, true, .recover, 0⟩
    ∧ (let s := ((laneState 3).wr (laneReg false 8 17) 0x3C1F0000).uLk 8 fun L => { L with swaps := [⟨false, 9, 9, 17, false, false, .line, 0⟩] }
      swapReadyRx s 8 ⟨false, 9, 9, 17, false, false, .line, 0⟩ = true ∧ s.lane false 8 17 = 3 ∧ s.slot false 8 9 = 9
        ∧ (s.lk 8).swaps = [⟨false, 9, 9, 17, false, false, .line, 0⟩])
    ∧ swapInto (laneState 3) true 8 16 = none ∧ ((laneState 3).lk 8).rxRot = none ∧ rotStarving (laneState 3) 8 = false
    ∧ (let s := { laneState 3 with ticks := 4 * 16000000 * 0xFFFF }
      s.bit (R.LNK_ROT_CFG 8) 31 = true ∧ s.port 8 = 4 ∧ (s.lk 8).starve.1 + 4 * (16000000 * s.fd (R.LNK_ROT_CFG 8) 15 0) ≤ s.ticks)
    ∧ swapState.lane true 8 17 = 3 ∧ swapState.evt.queue.length < 1000 ∧ RoomFor swapState
    ∧ (let s := (laneState 2).uLs true 8 9 fun x => { x with recover := true, conf := true }
      (s.ls true 8 9).recover = true ∧ (s.ls true 8 9).conf = true ∧ s.proof.caps = [])
    ∧ (laneState 3).slot true 8 16 = 31 ∧ (laneState 3).lane true 8 16 = 5
    ∧ rotStopped (laneState 3) 8 = none ∧ ((laneState 3).lk 8).rot = none ∧ ((laneState 3).lk 8).now = none ∧ rotChoice (laneState 3) 8 = some (9, false)
    ∧ lowSpare (laneState 3) true 8 = some 16 ∧ rotStopped ((laneState 3).wr (R.LNK_STATUS 8) 5) 8 = some 2
    ∧ (let s := ((laneState 2).wr (laneReg true 8 16) 0x3C1F0000).uLk 8 fun L => { L with rot := some ⟨9, 16, 3, false, []⟩ }
      (s.lk 8).rot = some ⟨9, 16, 3, false, []⟩ ∧ s.lane true 8 16 = 3 ∧ s.lane true 8 9 = 2
        ∧ ((s.uLs true 8 9 fun x => { x with conf := true }).ls true 8 9).conf = true)
    ∧ (laneState 3).port 8 = 4 ∧ Reaches .smbus (laneState 3) ∧ (laneState 3).dom 0x88 = 2 ∧ (laneState 3).slot true 8 3 = 31
    ∧ bitOf 0x4000029 5 = true ∧ fieldOf 0x4000029 4 0 = 9 ∧ (laneState 3).lane true 8 9 = 3
    ∧ ((laneState 3).ls true 8 9).vac = false ∧ lowSpare (laneState 3) true 8 = some 16 := by
  unfold Reaches RoomFor; constructorm* _ ∧ _ <;> decide +kernel

/-- Plate 63 in force, plate 7 valid, this chip a member of both; a PREPARE of plate 7. -/
def plateState : State :=
  (((readyState.wr R.PLATE_STATUS 0x3003F).wr (R.PLATE_VALID_LO + 4) 0x80000000).wr R.PLATE_VALID_LO 0x80).wr R.PLATE_MEMBER_LO 0x80

/-- Its COMMIT at CT 400,000. -/
def plateMsg : PlateMsg := ⟨7, 63, 8, 60, 5, 400000⟩

theorem wit_MembersAnswerDecideAndApply : plateState.bit R.CL_STATUS 30 = false ∧ plateState.bit R.SCRIBE_STATUS 23 = false
    ∧ participant plateState 7 = true ∧ slotValid plateState 7 = true ∧ coldLines plateState 7 = [] ∧ (∀ p < 16, (plateState.lk p).rot = none)
    ∧ plateState.repl.open_ = none ∧ plateState.repl.app = none ∧ plateState.top = 5 ∧ plateState.curPlate = 63 ∧ plateState.now + 320000 ≤ 400000
    ∧ participant readyState 9 = false
    ∧ (let s := plateState.uRepl fun r => { r with open_ := some ⟨plateMsg, true⟩ }
      s.repl.app = none ∧ s.repl.catch_ = none ∧ s.now < plateMsg.applyCt.toNat)
    ∧ (let s := plateState.uRepl fun r => { r with app := some ⟨plateMsg, 400000, false, true, true⟩ }
      s.repl.app = some ⟨plateMsg, 400000, false, true, true⟩ ∧ isEtcher s = false ∧ (∀ p < 16, (s.lk p).queue = []) ∧ s.evt.queue.length < 900)
    ∧ (plateState.uRepl fun r => { r with catch_ := some plateMsg }).repl.catch_ = some plateMsg
    ∧ Reaches .pcie plateState ∧ RoomFor plateState ∧ bitOf 0x8005000C 31 = true ∧ etcherSeen plateState = false
    ∧ etcherSeen ((plateState.wr64 R.CL_LEASE_EXP_LO 500000).wr R.CL_STATUS 1) = true
    ∧ isEtcher ((plateState.wr64 R.CL_LEASE_EXP_LO 500000).wr R.CL_STATUS 1) = false
    ∧ (let s := plateState.wr R.PLATE_REQ_STATUS 0x8005000C
      s.bit R.PLATE_REQ_STATUS 31 = true ∧ s.fd R.PLATE_REQ_STATUS 23 16 = 5 ∧ s.fd R.PLATE_REQ_STATUS 5 0 = 12) := by
  unfold Reaches RoomFor; constructorm* _ ∧ _ <;> decide +kernel

/-- This package is the Etcher of plate 63, whose members are 531 and 532; Scribe A holds the lease. -/
def etchState : State :=
  let s := ((activeState.wr R.CL_STATUS 0x80000000).wr R.PLATE_STATUS 0x3F).wr R.GLB_CHIP 600
  s.uMaps fun _ => [(16384 * 63 + 531, 0x8000), (16384 * 63 + 532, 0x8001)]

theorem wit_TheEtcherDecidesAndReroutes : isEtcher readyState = false ∧ isEtcher etchState = true ∧ etchState.bit R.CL_STATUS 26 = false
    ∧ etchState.repl.etch = none ∧ participant etchState 7 = false ∧ participants etchState 7 none ≠ []
    ∧ (∀ c ∈ participants etchState 7 none, quarantined etchState c = false) ∧ RoomFor etchState
    ∧ (participants etchState 7 none).find? (quarantined (etchState.uAgree fun a => { a with quar := [(532, 1)] })) = some 532
    ∧ (let s := etchState.uRepl fun r => { r with etch := some ⟨plateMsg, 0, [531, 532], none, false, false, none, 6, (0, 0), none⟩ }
      isEtcher s = true ∧ s.bit R.CL_STATUS 27 = false ∧ s.repl.faultDue = false)
    ∧ (let s := etchState.uRepl fun r => { r with etch := some ⟨plateMsg, 0, [], some true, false, false, none, 6, (0, 0), none⟩ }
      isEtcher s = true ∧ isEtcher (s.wr R.CL_STATUS 0x40000000) = false ∧ (s.wr R.CL_STATUS 0x40000000).bit R.CL_STATUS 30 = true
        ∧ (s.wr R.CL_STATUS 0x40000000).agree.ports = [] ∧ s.repl.etch.bind (·.decision) = some true)
    ∧ (let s := (etchState.uRepl fun r => { r with dec := some ([], 5) })
      s.now < 5 + 1600000 ∧ 5 + 1600000 ≤ (s.uCt fun _ => 1600005).now)
    ∧ (63 : BitVec 6).toNat = etchState.curPlate ∧ bitOf 0x100 8 = true ∧ (531, 8) ∉ etchState.repl.pairs ∧ etchState.repl.window = false
    ∧ etchState.agree.ports = [] ∧ etchState.repl.lost = [] ∧ etchState.agree.quar = []
    ∧ (let s := etchState.uRepl fun r => { r with window := true, pairs := [(531, 8)] }
      fallbackMatch s [(531, 8)] [] = none ∧ fallbackMatch (s.uPlates fun _ => [(512 * 63 + 4, 0x80080213), (512 * 63 + 5, 0x100)]) [(531, 8)] [] = some (0, 8, none))
    ∧ (coordIn etchState etchState.curPlate 531).isSome = true ∧ fallbackMatch etchState [] [531] = none
    ∧ (let s := (etchState.uTicks fun _ => 1600000000).uRepl fun r => { r with wait := some ⟨7, 0, none, 531, 0⟩ }
      isEtcher s = true ∧ s.fd R.PLATE_ETCH_POLICY 7 0 * 160000000 ≤ s.ticks - 0)
    ∧ (etchState.wr R.PLATE_REQ_STATUS 0x80000000).bit R.PLATE_REQ_STATUS 31 = true ∧ etchState.chip < 16384
    ∧ etchState.bit R.PLATE_HOST_ALLOW_LO 12 = false := by
  unfold RoomFor; constructorm* _ ∧ _ <;> decide +kernel

theorem wit_LeaseCommandsMoveThePackageLease : Reaches .jtag activeState ∧ pathUnit .jtag = none ∧ RoomFor activeState
    ∧ Reaches .scribeA activeState ∧ pathUnit .scribeA = some 0 ∧ activeState.scr.halted.contains 0 = false ∧ activeUnit activeState = 0
    ∧ 2 ≤ scribeState activeState 0 ∧ Reaches .scribeB activeState ∧ pathUnit .scribeB = some 1 ∧ activeState.scr.halted.contains 1 = false
    ∧ ¬(activeUnit activeState = 1) ∧ activeState.rd64 R.SCRIBE_LEASE_EXP_LO ≤ activeState.now
    ∧ activeState.now < (activeState.wr R.SCRIBE_LEASE_EXP_LO 320000).rd64 R.SCRIBE_LEASE_EXP_LO := by
  unfold Reaches RoomFor; constructorm* _ ∧ _ <;> decide +kernel

/-- Bank 0 of the standby holds checkpoint 1,204 of SEQ 10; a copy into bank 1 goes on. -/
def ckptState : State :=
  (activeState.wr R.SCRIBE_EPOCH 7).uPkg fun a => { a with
    bank0 := ⟨some (1204, 7, 10, 0, 4096), []⟩, copy := some (1, 1205, 12, 16000000) }

theorem wit_ScribesCheckpointTakeOverAndJoin : hasStandby activeState .package = true ∧ (activeState.auth .package).copy = none
    ∧ hasStandby etchState .cluster = true ∧ (etchState.auth .cluster).copy = none ∧ hasStandby readyState .package = false
    ∧ (ckptState.auth .package).copy = some (1, 1205, 12, 16000000) ∧ bankValid ckptState .package ckptState.pkg.bank0 = some (1204, 10)
    ∧ bankValid ckptState .package ckptState.pkg.bank1 = none ∧ RoomFor ckptState
    ∧ scribeState ckptState (1 - activeUnit ckptState) = 1 ∧ ckptState.scr.halted.contains (1 - activeUnit ckptState) = false
    ∧ ckptState.rd64 R.SCRIBE_LEASE_EXP_LO ≤ ckptState.now ∧ ckptState.evt.queue.length < 1000
    ∧ (lastBank ckptState .package).isSome = true ∧ ckptState.bit R.SCRIBE_STATUS 22 = false ∧ ckptState.rd (R.SCRIBE_RX_HIGH 43) ≤ lastSeq ckptState .package
    ∧ ¬((ckptState.wr (R.SCRIBE_RX_HIGH 32) 11).rd (R.SCRIBE_RX_HIGH 32) ≤ lastSeq ckptState .package)
    ∧ (activeState.fw R.SCRIBE_STATUS 23 23 1).bit R.SCRIBE_STATUS 23 = true ∧ activeState.bit R.CL_STATUS 26 = false
    ∧ activeState.bit R.SCRIBE_STATUS 24 = false ∧ 2 ≤ scribeState activeState (activeUnit activeState)
    ∧ isEtcher etchState = true ∧ etchState.bit R.CL_STATUS 27 = false ∧ etchState.repl.etch = none ∧ RoomFor etchState ∧ cpHeard etchState = false
    ∧ ckptState.now ≤ 16000000 + 1600000 ∧ 16000000 + 1600000 < (ckptState.uCt fun _ => 18000000).now
    ∧ (let s := etchState.uRepl fun r => { r with etch := some ⟨plateMsg, 0, [], some true, false, false, none, 6, (0, 0), none⟩ }
      isEtcher s = true ∧ cpHeard s = false ∧ RoomFor s ∧ s.repl.etch.bind (·.decision) = some true)
    ∧ (let s := (etchState.wr R.CL_CFG 531).uCl fun c => { c with heard := [(531, ⟨0, 0, 0, false, false, false⟩)] }; cpHeard s = true)
    ∧ (setScribe 1 0 activeState).scr.displaced.contains 1 = false
    ∧ (let s := setScribe 1 0 activeState
      scribeState s (1 - activeUnit s) = 0 ∧ 2 ≤ scribeState s (activeUnit s) ∧ s.domUp (0xA0 + (1 - activeUnit s)) = true) := by
  unfold RoomFor; constructorm* _ ∧ _ <;> decide +kernel

/-- A LEASE of chip 531, SEQ 9, expiry 500,000. -/
def leaseFrame : List Word := orderFrame true false false 0x3F 0 9 531 0 ([w32 (2 ^ 24 * 0x3B + 531)] ++ w64 500000)

/-- A heartbeat of chip 531 holding the lease with epoch 5. -/
def beat : List Word :=
  let ws := [w32 (2 ^ 24 * 0x48 + 2 ^ 23), w32 531, w32 5, w32 9, w32 1] ++ w64 8
  ws ++ [w32 (crc32 (dwBytes ws))]

/-- The Etcher, both members of whose plate are heard. -/
def heardState : State :=
  etchState.uCl fun c => { c with heard := [(531, ⟨0, 0, 0, false, false, false⟩), (532, ⟨0, 0, 0, false, false, false⟩)] }

/-- The named standby, the lease having expired at CT 1,000. -/
def standState : State :=
  ((((heardState.wr R.CL_STATUS 0x40000000).wr R.CL_CFG 600).wr64 R.CL_LEASE_EXP_LO 1000).uCt fun _ => 2000000).wr R.CL_EPOCH 3

theorem wit_OrdersHeartbeatsAndTheClusterLease : frameOk [0, 1] = false ∧ frameOk leaseFrame = true
    ∧ frameOk (orderFrame false false false 32 7 9 0 0 [w32 0x01000000]) = true
    ∧ fieldOf (pkW (orderFrame false false false 32 7 9 0 0 [w32 0x01000000]) 0) 21 16 = 32 ∧ activeState.pkg.journal.length < 65536
    ∧ memberOp (frameOp leaseFrame) = false ∧ readyState.bit R.CL_STATUS 31 = false ∧ pkW leaseFrame 1 < (readyState.wr R.CL_EPOCH 1).rd R.CL_EPOCH
    ∧ pkW leaseFrame 2 + 1024 ≤ (readyState.wr R.CL_SEQ 4000).rd R.CL_SEQ ∧ pkW leaseFrame 1 = (readyState.wr R.CL_SEQ 4000).rd R.CL_EPOCH
    ∧ 531 ≠ readyState.chip ∧ readyState.bit R.CL_STATUS 30 = false ∧ 9 ∉ (winOf readyState.clu 0).2 ∧ readyState.rd R.CL_SEQ < 9 + 1024
    ∧ isEtcher heardState = true ∧ majority heardState = true ∧ heardState.sbE.queue.length ≤ 14 ∧ heardState.sbW.queue.length ≤ 14
    ∧ majority (heardState.uCl fun c => { c with heard := [] }) = false ∧ RoomFor heardState
    ∧ (let s := heardState.wr R.CL_STATUS 0xA0000000
      s.bit R.CL_STATUS 31 = true ∧ s.bit R.CL_STATUS 29 = true ∧ scribeRuns s = true ∧ s.rd64 R.CL_LEASE_EXP_LO ≤ s.now ∧ higherHeard s = false)
    ∧ heardState.now < (heardState.wr64 R.CL_LEASE_EXP_LO 9).rd64 R.CL_LEASE_EXP_LO
    ∧ isNamed standState = true ∧ standState.bit R.CL_STATUS 31 = false ∧ scribeRuns standState = true ∧ clExpired standState = true
    ∧ majority standState = true ∧ majority (standState.uCl fun c => { c with heard := [] }) = false ∧ standState.evt.queue.length < 900
    ∧ standState.repl.etch = none ∧ standState.agree.self_ = [] ∧ standState.agree.quar = [] ∧ standState.agree.dups = [] ∧ (∀ p < 16, standState.port p ≠ 3)
    ∧ (lastBank standState .cluster).isSome = false
    ∧ (let s := standState.uClu fun a => { a with bank0 := ⟨some (4, 3, 9, 0, 64), []⟩ }
      (lastBank s .cluster).isSome = true ∧ s.bit R.CL_STATUS 25 = false ∧ clAhead s (lastSeq s .cluster) = none)
    ∧ (let s := (((heardState.wr R.CL_STATUS 0).wr R.CL_CFG 600).uTicks fun _ => 3200000).uCl fun c => { c with heard := c.heard.map fun x => (x.1, { x.2 with tick := 3200000 }) }
      majority s = true ∧ s.bit R.CL_STATUS 31 = false ∧ s.top = 5 ∧ s.rd R.CL_EPOCH = 0 ∧ scribeRuns s = true ∧ s.fd R.CL_CFG 13 0 = s.chip ∧ s.cl.holderTick + 3200000 ≤ s.ticks)
    ∧ readyState.top = 5 ∧ beat.length = 8 ∧ fieldOf (pkW beat 0) 31 24 = 0x48 ∧ beat.getD 7 0 = w32 (crc32 (dwBytes (beat.take 7)))
    ∧ pkW beat 1 % 16384 ≠ etchState.chip ∧ etchState.rd R.CL_EPOCH < pkW beat 2
    ∧ standState.rd R.CL_EPOCH = 3 ∧ lastBank standState .cluster = none
    ∧ (let b := [w32 600, w32 4, w32 0, w32 8, 1, 2]
      pkW b 0 % 16384 = standState.chip ∧ standState.bit R.CL_STATUS 30 = true ∧ standState.clu.copy = none ∧ 0 < pkW b 3 ∧ pkW b 3 < 32
        ∧ pkW b 3 ≤ 4 * (b.length - 4)) := by
  unfold RoomFor; constructorm* _ ∧ _ <;> decide +kernel

/-- P0 in CREDENTIALS on a board of chip 541; the peer chip 540 of P1 sends its frame. -/
def credState : State :=
  ((((readyState.wr R.GLB_CHIP 541).fw R.PLATE_STATUS 5 0 63).wr (R.LNK_STATUS 0) 2).wr (R.LNK_PEER 0) (2 ^ 31 + 65536 + 540)).wr R.AGREE_NONCE 7

/-- The frame chip 540 sends on P1, with the same identity. -/
def peerCred : List Word := credFrame ((credState.wr R.GLB_CHIP 540).wr R.AGREE_NONCE 9) 1

/-- A SELF of chip 532 whose plate-set digest differs from the Etcher's. -/
def selfWords (digest : Nat) : List Word := noteWords ((etchState.wr R.GLB_CHIP 532).wr R.BOOT_PLATESET_LO digest) 0 0 0 0 0 0 0

theorem wit_CredentialsNotesAndMemberQuarantine : peerCred.length = 12 ∧ peerCred.getD 11 0 = w32 (crc32 (dwBytes (peerCred.take 11)))
    ∧ credState.port 0 = 2 ∧ (credState.lk 0).peerV = none ∧ pkW peerCred 0 % 16384 ≠ credState.chip ∧ pkW peerCred 3 ≤ credState.rd R.CL_EPOCH
    ∧ credTests credState 0 peerCred = [] ∧ fieldOf (credState.curRec 0x050) 31 28 ≠ 5
    ∧ (let f := credFrame (((credState.wr R.GLB_CHIP 540).wr R.AGREE_NONCE 9).wr R.CL_EPOCH 1) 1
      f.length = 12 ∧ f.getD 11 0 = w32 (crc32 (dwBytes (f.take 11))) ∧ (credTests credState 0 f).headD 0 = 9 ∧ credState.rd R.CL_EPOCH < pkW f 3)
    ∧ (credFrame credState 0).getLast? = some ((credFrame credState 0).getLastD 0) ∧ (credState.lk 0).cred = none
    ∧ (let s := credState.uLk 0 fun L => { L with cred := some peerCred, ownV := (1, 0) }
      s.port 0 = 2 ∧ (s.lk 0).cred.isSome = true ∧ isEtcher s = false ∧ s.evt.queue.length < 900 ∧ (s.lk 0).ownV.1 = 1)
    ∧ fieldOf 0x10000000 29 28 = 1 ∧ fieldOf 0x24000000 29 28 = 2
    ∧ isEtcher etchState = true ∧ (etchState.uCl fun c => { c with lastLease := some [], lastState := some [] }).cl.lastLease = some []
    ∧ etchState.sbE.queue.length ≤ 14 ∧ etchState.sbW.queue.length ≤ 14 ∧ (readyState.uAgree fun g => { g with pull := true }).agree.pull = true
    ∧ (readyState.wr R.AGREE_STATUS 0x84000000).bit R.AGREE_STATUS 31 = true ∧ isEtcher readyState = false
    ∧ bitOf (pkW (selfWords 0) 0) 23 = false ∧ etchState.agree.quar = [] ∧ etchState.agree.dups = [] ∧ etchState.agree.self_ = []
    ∧ selfMask etchState (selfWords 0) = 0 ∧ ([2, 3, 4, 5, 6].find? fun r => bitOf (selfMask etchState (selfWords 5)) r) = some 4
    ∧ pkW (selfWords 0) 1 % 16384 ≠ etchState.chip ∧ (∀ p < 16, (peerOf etchState p).1 ≠ pkW (selfWords 0) 1 % 16384)
    ∧ fallbackMatch etchState [] [pkW (selfWords 0) 1 % 16384] = none ∧ etchState.evt.queue.length < 900 ∧ RoomFor etchState
    ∧ (((etchState.uAgree fun g => { g with self_ := [(532, (77, false))] }).agree.self_).find? fun x => x.1 == pkW (selfWords 0) 1 % 16384) = some (532, (77, false))
    ∧ pkW (selfWords 0) 2 ≠ 77
    ∧ (let w := noteWords (etchState.wr R.GLB_CHIP 532) 1 2 8 4 531 0x100 0
      bitOf (pkW w 0) 23 = true ∧ pkW w 9 = 0 ∧ fieldOf (pkW w 0) 21 20 = 2 ∧ fieldOf (pkW w 0) 19 16 = 8)
    ∧ readyState.bit R.CL_STATUS 30 = false ∧ isEtcher standState = false ∧ standState.bit R.CL_STATUS 30 = true
    ∧ (532 : BitVec 14).toNat ≠ etchState.chip ∧ (541 : BitVec 14).toNat = credState.chip ∧ (7 : Word).toNat = credState.rd R.AGREE_NONCE
    ∧ (((etchState.uAgree fun g => { g with dups := [(532, [4, 5])] }).agree.dups).find? fun x => x.1 == (532 : BitVec 14).toNat) = some (532, [4, 5]) := by
  unfold RoomFor; constructorm* _ ∧ _ <;> decide +kernel

/-- A request of chip 1,090 to a byte address of this chip's HBM, or another space. -/
def sdfp (space off : Nat) (len : BitVec 10) (bs : List Byte) : SdfpReq :=
  ⟨false, 1090, 0x4155, 5, BitVec.ofNat 64 (2 ^ 50 * 531 + 2 ^ 48 * space + off), len, bs⟩

/-- READY as chip 531; HBM holds 1 and 2 at 0x1000 and a marked word at 0x2000; context 5 receives messages in 16 slots at 0x8000. -/
def targetState : State :=
  let s := (((readyState.wr R.GLB_CHIP 531).wr (R.XFE_CTL 5) 0xC0040000).wr (R.XFE_BASE_LO 5) 0x8000).uHbm fun _ => [(0x1000, 1), (0x1001, 2)]
  s.uHbmEcc fun _ => [(0x400, 3)]

theorem wit_TheTargetExecutesRequests : TargetTakes targetState (sdfp 0 0x1000 8 []) ∧ gaChip (sdfp 0 0x1000 8 []).addr.toNat = targetState.chip
    ∧ reqShape 1 (sdfp 0 0x1000 8 []).addr.toNat 8 = true ∧ Mapped targetState (sdfp 0 0x1000 8 []).addr.toNat 8 .hbm 0x1000
    ∧ ramSyn targetState .hbm 0x200 = 0 ∧ ramSyn targetState .hbm 0x201 = 0
    ∧ ramSyn targetState .hbm 0x400 = 3 ∧ Mapped targetState (sdfp 0 0x2000 8 []).addr.toNat 8 .hbm 0x2000 ∧ targetState.bit R.MEM_INJECT 31 = false
    ∧ (∀ o ∈ [2, 3, 4, 0x10, 0x18], reqShape o (sdfp 0 0x1000 8 []).addr.toNat 8 = true) ∧ reqShape 2 (sdfp 0 0xFFC 8 []).addr.toNat 8 = false
    ∧ gaSpace (sdfp 3 0 8 []).addr.toNat = 3 ∧ velKey 0x180000 8 = none
    ∧ (targetState.setDom 0 0).domUp 0 = false ∧ velKey 0x4A40000 8 = some (0x25, 0x4A40000)
    ∧ reqWaits (targetState.setDom 0x90 1) (reqPkt targetState 2 (sdfp 0 0 4 [1, 2, 3, 4])) = true
    ∧ gaSpace (sdfp 2 0xC02018 4 []).addr.toNat = 2 ∧ inWindow targetState 0xC02018 4 = false
    ∧ (let s := (targetState.wr (R.FAB_RCR_BASE 0) 0x700000).wr (R.FAB_RCR_SIZE 0) 0x80000100
      inWindow s 0x700010 4 = true ∧ s.blockOn 0x700010 = true ∧ pathDenies .sdfp 0x700010 5 s = false ∧ halfOfPair 0x700010 = false
        ∧ (regWrite .sdfp 0x700010 5 s).rst.chip = false ∧ (regWrite .sdfp 0x700010 5 s).fab.inbox = [])
    ∧ targetState.blockOn 0x600000 = true ∧ targetState.domUp 0xA3 = true ∧ ctxKind targetState 5 = 3 ∧ ctxKind targetState 6 ≠ 3
    ∧ (ctxHead targetState 5 + 65536 - ctxTail targetState 5) % 65536 < 2 ^ ctxLog targetState 5
    ∧ ¬((ctxHead (targetState.wr (R.XFE_PTR 5) 16) 5 + 65536 - ctxTail (targetState.wr (R.XFE_PTR 5) 16) 5) % 65536 < 2 ^ ctxLog targetState 5)
    ∧ (∀ j < 68, ramSyn targetState .hbm (0x1000 + j) = 0) ∧ targetState.bit (R.XFE_CTL 5) 25 = false
    ∧ (targetState.setDom 0xA4 0).domUp 0xA4 = false := by
  unfold TargetTakes Mapped; constructorm* _ ∧ _ <;> decide +kernel

theorem wit_TheTargetExecutesRequests_vellum : Mapped targetState (sdfp 1 0x4A40000 8 []).addr.toNat 8 .vel 0x4A40000 :=
  ⟨by decide +kernel, 0x25, by decide +kernel, by decide +kernel⟩

/-- P8 and P1 ACTIVE with lanes LIVE, plate 7's ROUTE of the worked example of 17, chip 531; a RD for chip 1,090 stands on P1. -/
def transitFlit (hops : Nat) : List Word :=
  [w32 (0x20000000 + 2 ^ 20 * hops + 0x4100), 0x04420213, 0x415502A0, 0x5E3A2C00, 0x04A40000, 0x11090000] ++ List.replicate 10 0

def transitState (fs : List (List Word)) : State :=
  let s := (((laneState 3).wr R.GLB_CHIP 531).fw R.PLATE_STATUS 5 0 7).wr (R.LNK_STATUS 1) 4
  let s := s.uPlates fun _ => [(512 * 7, 531), (512 * 7 + 1, 0x800), (512 * 7 + 3, 0x800), (512 * 7 + 0xC0, 0x82000000), (512 * 7 + 0xC8, 0x78900040),
    (512 * 7 + 0xC9, 0x20), (512 * 7 + 0xCA, 0x71000020), (512 * 7 + 0xCB, 1)]
  (s.uMaps fun _ => [(16384 * 7 + 531, 0x8213), (16384 * 7 + 1090, 0x8442)]).uLk 1 fun L => { L with flits := fs }

/-- A request of no owner in entry 5. -/
def heldWant : FabWant := ⟨1090, 672, 672, 0x18, false, 0, 4, [1, 2, 3, 4], .none, 0⟩

theorem wit_PortsCreditsTagsAndRelay : portHears readyState 1 = false ∧ portHears (transitState []) 1 = true ∧ ((transitState []).lk 1).flits = []
    ∧ (transitFlit 63).length = 16 ∧ (transitFlit 63).headD 0 ≠ 0 ∧ pkOpc (transitFlit 63) ≠ 0x3E ∧ pkFlits (transitFlit 63) ≤ 1
    ∧ ((transitState [transitFlit 63]).lk 1).flits = [transitFlit 63] ∧ pkFlits (0x20008200 :: (transitFlit 63).drop 1) = 9
    ∧ 5 < pkVc (0x60000000 :: (transitFlit 63).drop 1) ∧ pkVc (transitFlit 63) = 2 ∧ ((transitState []).wr (R.LNK_STATUS 1) 3).port 1 = 3
    ∧ (transitState []).port 1 = 4 ∧ routeMode (transitState []) 1 ≠ 5 ∧ opcVc (pkOpc (transitFlit 63)) = some 2 ∧ pkDest (transitFlit 63) ≠ (transitState []).chip
    ∧ pkHops (transitFlit 0) = 0 ∧ RoomFor (transitState []) ∧ egress (transitState []) 1090 = some (8, some 0, 0) ∧ (transitState []).port 8 = 4
    ∧ ((transitState []).lk 8).queue = [] ∧ nextClass (transitState []) (some 1) 0 (some 0) 0 = 0
    ∧ canSend (transitState []) 8 ⟨bufOf 2 0, hopPkt 0 62 (pkTrim (transitFlit 63))⟩ = true
    ∧ txSlots (transitState []) 8 ≠ [] ∧ ((transitState []).lk 8).retry.length < 2048 ∧ (transitState []).domUp 0xA4 = true ∧ txSlots (transitState []) 1 = []
    ∧ pkOpc ((creditFlit (List.replicate 10 0)).take 16) = 0x3E ∧ (creditFlit (List.replicate 10 0)).headD 0 ≠ 0
    ∧ readyState.domUp 0xA4 = true ∧ opcVc 0x20 = some 3 ∧ readyState.fab.inbox = [] ∧ readyState.fab.reqs = [] ∧ readyState.fab.held = []
    ∧ (let s := readyState.uFab fun f => { f with reqs := [(5, ⟨1, 0, heldWant⟩)] }
      (s.fab.reqs.find? fun e => e.1 == 0x4005 % 16384 && e.2.gen == 0x4005 / 16384) = some (5, ⟨1, 0, heldWant⟩) ∧ mustHold s [] heldWant = true)
    ∧ mustHold readyState [] heldWant = false ∧ freeEntry readyState = some 0 ∧ heldWant.dest % 16384 ≠ readyState.chip
    ∧ routeMode ((transitState []).uPlates fun _ => [(512 * 7 + 0x18, 0x50000000)]) 1 = 5 ∧ frameOk [0x80000000] = false ∧ bitOf (pkW [0x80000000] 0) 31 = true
    ∧ relayedNow readyState = [] ∧ Reaches .smbus readyState := by
  unfold Reaches RoomFor; constructorm* _ ∧ _ <;> decide +kernel

/-- P8 of the worked example of 18: TAG 0x0B00_0000_001F_353A, KIND 1; one round has found it. -/
def hmkState (x : Search) : State :=
  uHp 8 (fun h => { h with search := some x }) ((readyState.wr (R.HMK_P_MAP 8) 0x4009021C).wr64 (R.HMK_P_EXP_LO 8) 0x0B000000001F353A)

theorem wit_HallmarkPresenceSearchAndVerdict : hmkOn readyState = true ∧ hmkOn (readyState.setDom 0xA7 0) = false ∧ Reaches .scribeB readyState
    ∧ bitOf 0x80000100 31 = true ∧ (hp (hmkState ⟨[], none, 0, none, 0, true⟩) 8).search.isSome = true ∧ (hp readyState 8).search = none
    ∧ (hp readyState 8).empty = 0 ∧ (hp (uHp 8 (fun h => { h with empty := 1 }) readyState) 8).empty = 1 ∧ readyState.evt.queue.length < 900
    ∧ mapKind readyState 8 = 0 ∧ mapKind (hmkState ⟨[], none, 0, none, 0, true⟩) 8 = 1 ∧ readyState.fd R.HMK_CFG 7 0 ≠ 0
    ∧ (readyState.wr R.HMK_CFG 0).fd R.HMK_CFG 7 0 = 0 ∧ (hp (uHp 8 (fun h => { h with retry := true }) readyState) 8).retry = true
    ∧ (hp readyState 8).retry = false ∧ idValid 0x0B000000001F353A = true ∧ idValid 5 = false ∧ RoomFor readyState
    ∧ (hmkState ⟨[], none, 0, some ([0x0B000000001F353A], false), 7, false⟩).bit R.LAS_SHUT 8 = false
    ∧ (hmkState ⟨[], none, 0, none, 0, true⟩).port 8 = 0 ∧ (0x0B000000001F353A : Word64).toNat = (hmkState ⟨[], none, 0, none, 0, true⟩).rd64 (R.HMK_P_EXP_LO 8)
    ∧ (0x0B000000001F353A : Word64).toNat ≠ readyState.rd64 (R.HMK_P_EXP_LO 8) ∧ (0x0B000000001F353A : Word64).toNat ≠ readyState.rd64 (R.HMK_P_ALT_LO 8)
    ∧ (0x0B000000001F353A : Word64).toNat = ((readyState.wr64 (R.HMK_P_ALT_LO 8) 0x0B000000001F353A).rd64 (R.HMK_P_ALT_LO 8)) := by
  unfold Reaches RoomFor; constructorm* _ ∧ _ <;> decide +kernel

/-- Ring 40 goes; its tickets lie at 0x10000 in HBM, its records at 0x20000. -/
def ringState40 (tail : Nat) (q : List Tkt) (run : List RunT) : State :=
  let s := (((readyState.wr (R.TKT_CFG 40) 0x80060000).wr (R.TKT_STATE 40) 0x20000000).wr (R.TKT_BASE_LO 40) 0x10000).wr (R.TKT_CQ_LO 40) 0x20000
  uRing 40 (fun _ => { Ring.init with queue := q, run := run }) ((s.wr (R.TKT_PTR 40) (65536 * tail)).wr (R.GRV_HBM_SHARE 40) 3)

/-- A VECTOR ADD of 2 FP32 elements at 0 and 0x40 into 0x80. -/
def addTicket : Tkt := ⟨0, [0x20000000, 7, 2, 0, 0, 0, 0, 0x40, 0, 0x80, 0, 0, 0, 0, 0, 0], false⟩

/-- A MOVE COPY of 16 bytes from HBM 0x1000 to the cluster's own Vellum 0x100. -/
def copyTicket : Tkt := ⟨0, [0, 7, 16, 0, 0x1000, 0, 0x05000100, 0x10000, 0, 0, 0, 0, 0, 0, 0, 0], false⟩

/-- A ticket that started 100 ticks in. -/
def runOne (t : Tkt) (phase : Nat) : RunT := ⟨t, 100, 100, 0, phase, 0, 0, [], [], 0, 100, false, 0, 0, 0, 100, 0⟩

/-- Ring 40 when the cycles of its only started ticket are over. -/
def overState (t : Tkt) : State :=
  (ringState40 1 [] [{ runOne t 4 with issued := 64 * tktCycles (ringState40 1 [] []) 40 t, mark := 100000 }]).uTicks fun _ => 100000

theorem wit_TicketsFetchStartAndComplete : ringGoes readyState 40 = false ∧ ringGoes (ringState40 1 [] []) 40 = true
    ∧ (ringHead (ringState40 1 [] []) 40 + (ringOf (ringState40 1 [] []) 40).queue.length) % 65536 ≠ ringTail (ringState40 1 [] []) 40
    ∧ (ringState40 1 [] []).rd64 (R.TKT_BASE_LO 40) + 64 ≤ hbmSize ∧ (∀ j < 8, ramSyn (ringState40 1 [] []) .hbm (0x2000 + j) = 0) ∧ (∀ k ∈ stacksOf (0x10000, 64), (ringState40 1 [] []).domUp (0x90 + k) = true)
    ∧ ramSyn ((ringState40 1 [] []).uHbmEcc fun _ => [(0x2001, 3)]) .hbm 0x2001 = 3 ∧ (ringState40 1 [] []).fab.inbox = []
    ∧ (ringOf (ringState40 1 [addTicket] []) 40).queue = [addTicket] ∧ waitsOver (ringOf (ringState40 1 [addTicket] []) 40) addTicket = true
    ∧ (let x := { runOne addTicket 4 with issued := 64 * tktCycles (ringState40 1 [] []) 40 addTicket, mark := 100000 }
      runOf (overState addTicket) 40 0 = some x ∧ CyclesOver (overState addTicket) 40 x (0 : Word).toNat (0 : Word).toNat)
    ∧ (accrued (ringState40 1 [] [runOne addTicket 4]) 40 (runOne addTicket 4)).issued < 64 * tktCycles (ringState40 1 [] [runOne addTicket 4]) 40 addTicket
    ∧ (let x := { runOne copyTicket 4 with issued := 64 * tktCycles (ringState40 1 [] []) 40 copyTicket, mark := 100000 }
      runOf (overState copyTicket) 40 0 = some x ∧ CyclesOver (overState copyTicket) 40 x (0 : Word).toNat (0 : Word).toNat)
    ∧ (ringOf (ringState40 1 [addTicket] []) 40).after ≤ (ringState40 1 [addTicket] []).ticks
    ∧ (ringState40 1 [addTicket] []).ticks < (ringOf (uRing 40 (fun q => { q with after := 9 }) (ringState40 1 [addTicket] [])) 40).after
    ∧ (let k := { noteTicket with idx := 16 }
      let s := (ringState40 1 (k :: (List.range 16).map fun i => { noteTicket with idx := i }) []).uPwr fun p =>
        { p with notes := (List.range 16).map fun i => ⟨0, 40, i, 4, 0, 8000 * (i + 1), 0, 0, 0, [], none, 0, false⟩ }
      noteFits s 40 k = false ∧ s.domUp 20 = true ∧ waitsOver (ringOf s 40) k = true)
    ∧ (ringState40 1 [addTicket] []).domUp 20 = true ∧ tKind addTicket = 2 ∧ tKind copyTicket = 0 ∧ gaChip (tAddr copyTicket 6) = readyState.chip
    ∧ (ringOf (ringState40 1 [addTicket] [runOne addTicket 4]) 40).run.any (fun x => tUnit x.t == tUnit addTicket) = true
    ∧ (let s := ((ringState40 1 [addTicket] []).setDom 20 0).uPwr fun p => { p with auto := [20] }
      s.domUp 20 = false ∧ s.pwr.auto.contains 20 = true ∧ s.dom 20 = 0)
    ∧ slotOf (ringState40 1 [] []) 40 0 = 0x20000 ∧ (∀ j < 4, ramSyn (ringState40 1 [] []) .hbm (0x4000 + j) = 0)
    ∧ (ringState40 1 [] []).bit R.MEM_INJECT 31 = false ∧ bitOf (tktDw addTicket 0) 23 = false ∧ (ringState40 1 [] []).evt.queue.length < 900
    ∧ runOf (ringState40 1 [] [runOne addTicket 4]) 40 0 = some (runOne addTicket 4) ∧ runOf (ringState40 1 [] []) 40 0 = none
    ∧ (∀ x ∈ (ringOf (ringState40 1 [addTicket] [runOne copyTicket 4]) 40).run, x.t.idx = 0) ∧ clashes readyState 40 addTicket copyTicket = false
    ∧ clashes readyState 40 addTicket addTicket = true ∧ velOuts addTicket = [(0x80, 8)] ∧ (runOne addTicket 4).clash = false
    ∧ ((computeOut (ringState40 1 [] []) 40 addTicket).map fun o => (o.1, o.2.length)) = [(0x80, 8)] ∧ velIns addTicket = [(0, 8), (0x40, 8)]
    ∧ (∀ j < 20, ramSyn (ringState40 1 [] []) .vel (2 ^ 18 * 40 + j) = 0)
    ∧ memReady (ringState40 1 [] []) 40 copyTicket = true ∧ placeRam (placeOf (ringState40 1 [] []) 40 (tAddr copyTicket 4) 16) = some (.hbm, 0x1000)
    ∧ placeRam (placeOf (ringState40 1 [] []) 40 (tAddr copyTicket 6) 16) = some (.vel, 2 ^ 21 * 40 + 0x100) := by
  unfold CyclesOver; constructorm* _ ∧ _ <;> decide +kernel

/-- A barrier for CT 500, a FENCE, and a RECV with its flag at 0x40, LVAL 1 and LIMIT 2. -/
def barTicket : Tkt := ⟨0, [0x50000000, 7, 0, 0, 500, 0, 0, 0, 0, 0, 0, 0, 0, 0, 0, 0], false⟩
def fenceTicket : Tkt := ⟨0, [0x51000000, 7, 0, 0, 0, 0, 0, 0, 0, 0, 0, 0, 0, 0, 0, 0], false⟩
def recvTicket : Tkt := ⟨0, [0x41000000, 7, 2, 0, 0x40, 0, 0, 0, 0, 0, 0, 0, 0, 0, 1, 0], false⟩

theorem wit_BarriersFencesAndFlags : barrierDue readyState 40 = none ∧ barrierDue (ringState40 1 [] [runOne barTicket 0]) 40 = some (runOne barTicket 0)
    ∧ (ringOf (ringState40 1 [] [runOne barTicket 0]) 40).queue = [] ∧ 0 ≤ barrierAhead (ringState40 1 [] []) barTicket
    ∧ barrierAhead (ringState40 1 [] []) barTicket ≤ 2 ^ 34 ∧ barrierAhead ((ringState40 1 [] []).uCt fun _ => 700) barTicket < 0
    ∧ 2 ^ 34 < barrierAhead ((ringState40 1 [] []).uCt fun _ => (0 : Word64) - 2 ^ 34) barTicket ∧ slotOf (ringState40 1 [] []) 40 0 + 32 ≤ hbmSize
    ∧ bitOf (tktDw barTicket 0) 23 = false ∧ bitOf (tktDw barTicket 2) 0 = false ∧ ringState (ringState40 1 [] []) 40 ≠ 3
    ∧ (runOne barTicket 1).phase = 1 ∧ isBarrier barTicket = true ∧ (readyState.tkt.late.getD 0 (0, 0)).1 = 0
    ∧ ((readyState.uTkt fun t => { t with late := [(2, 133000), (0, 0)] }).tkt.late.getD 0 (0, 0)).1 ≠ 0 ∧ RoomFor readyState
    ∧ isFence fenceTicket = true ∧ runOf (ringState40 1 [] [runOne recvTicket 0]) 40 0 = some (runOne recvTicket 0) ∧ flagWaits (runOne recvTicket 0) = true
    ∧ ramSyn (ringState40 1 [] []) .vel (2 ^ 18 * 40 + 8) = 0 ∧ sgn 64 (wrapN 64 ((0 : Int) - tAddr recvTicket 14)) < 0
    ∧ (let s := (ringState40 1 [] [runOne recvTicket 0]).uVel fun _ => [(2 ^ 21 * 40 + 0x40, 1)]
      0 ≤ sgn 64 (wrapN 64 ((bytesToNat (bytesAt ramD s.vel (2 ^ 21 * 40 + 0x40) 8) : Int) - tAddr recvTicket 14)))
    ∧ tktDw recvTicket 2 % 65536 ≠ 0 ∧ (runOne recvTicket 0).last = (runOne recvTicket 0).tick
    ∧ (let s := (ringState40 1 [] [runOne fenceTicket 0]).uTicks fun _ => 108
      max (runOne fenceTicket 0).tick (runOne fenceTicket 0).last + 8 ≤ s.ticks ∧ ¬(max (runOne fenceTicket 0).tick (runOne fenceTicket 0).last + 8 ≤ (s.uTicks fun _ => 107).ticks))
    ∧ (let s := (ringState40 1 [] [runOne recvTicket 0]).uTicks fun _ => 3300
      (runOne recvTicket 0).tick + 1600 * (tktDw recvTicket 2 % 65536) ≤ s.ticks ∧ (s.uTicks fun _ => 3299).ticks < (runOne recvTicket 0).tick + 1600 * (tktDw recvTicket 2 % 65536)) := by
  unfold RoomFor; constructorm* _ ∧ _ <;> decide +kernel

theorem wit_RingsTakeDoorbellsConfigurationAbortAndRestart : Reaches .jtag (ringState40 1 [] []) ∧ mayRing (ringState40 1 [] []) .jtag 40 = true
    ∧ (2 ^ ringLog (ringState40 1 [] []) 40 < (300 + 65536 - ringHead (ringState40 1 [] []) 40) % 65536)
    ∧ ¬(2 ^ ringLog (ringState40 1 [] []) 40 < (5 + 65536 - ringHead (ringState40 1 [] []) 40) % 65536
      ∨ (5 + 65536 - ringHead (ringState40 1 [] []) 40) % 65536 < (ringTail (ringState40 1 [] []) 40 + 65536 - ringHead (ringState40 1 [] []) 40) % 65536)
    ∧ mayRing (readyState.wr (R.TKT_FEED 40) 1) .pcie 40 = false ∧ RoomFor readyState ∧ ringMaster .jtag = true ∧ ringState readyState 40 = 0
    ∧ ringState (readyState.wr (R.TKT_STATE 40) 0x10000000) 40 = 1 ∧ ringState (ringState40 1 [] []) 40 = 2 ∧ Reaches .pcie (readyState.wr (R.TKT_FEED 40) 1)
    ∧ (readyState.wr (R.TKT_FEED 40) 1).fd (R.TKT_FEED 40) 1 0 ≠ 0 ∧ (ringState40 1 [] []).fab.inbox = [] ∧ (ringOf (ringState40 1 [] []) 40).run = []
    ∧ (ringOf (ringState40 1 [] [runOne recvTicket 0]) 40).run = [runOne recvTicket 0] ∧ (runOne recvTicket 0).wait = 0
    ∧ slotOf (ringState40 1 [] []) 40 0 + 32 ≤ hbmSize ∧ (ringState40 1 [] []).evt.queue.length < 900
    ∧ ringState (readyState.wr (R.TKT_STATE 40) 0x31000000) 40 = 3 ∧ 1 ≤ (readyState.wr R.TKT_STATUS 0x10000).fd R.TKT_STATUS 24 16 := by
  unfold Reaches RoomFor; constructorm* _ ∧ _ <;> decide +kernel

/-- Stack 7 trained and due for its burst at local unit 4,772,185: word 1 of the unit at 0x12_3456_7800 may be bad (worked example of 21). -/
def scrubState (syn : Byte) : State :=
  ((((readyState.wr R.MEM_STATUS 0xFF).wr (R.MEM_S_PTR 7) 4772185).uTicks fun _ => 16384000000000 * 8 / 5 + 3500000).uHbmEcc
    fun _ => if syn = 0 then [] else [(0x1234567808 / 8, syn)]).uMem fun m =>
      { m with scrub := List.replicate 7 ⟨false, 0, 0, none, false, none⟩ ++ [⟨true, 0, 0, none, false, none⟩] }

/-- The same at the last burst of the pass. -/
def scrubLast : State := ((scrubState 0).wr (R.MEM_S_PTR 7) 25165823).uTicks fun _ => 86400 * 1600000000

/-- Vellum's scrubber at a pointer, its burst due. -/
def velScrub (ptr ticks : Nat) : State :=
  ((readyState.wr R.MEM_VEL_PTR ptr).uTicks fun _ => ticks).uMem fun m =>
    { m with scrub := List.replicate 8 ⟨false, 0, 0, none, false, none⟩ ++ [⟨true, 0, 0, none, false, none⟩] }

theorem wit_PatrolScrubWalksMarksAndIsInjected : 0x1234567800 < hbmSize ∧ unitPc (unitAt 4772185 59) = 59 ∧ unitAt 4772185 59 = 0x12345678
    ∧ readyState.bit R.MEM_STATUS 7 = false ∧ (scrubState 0).bit R.MEM_STATUS 7 = true ∧ (scrubAt readyState 7).begun = false
    ∧ scrubTarget readyState 7 ≤ scrubPtr readyState 7 ∧ BurstDue (scrubState 0) 7 ∧ BurstDue scrubLast 7 ∧ InBurst (scrubState 5) 7 (0x1234567808 / 8)
    ∧ ramSyn (scrubState 5) .hbm (0x1234567808 / 8) = 5 ∧ fateOf 5 = .bad ∧ fateOf 7 = .corrected ∧ (scrubState 5).bit R.MEM_INJECT 31 = false
    ∧ scrubPtr scrubLast 7 + 1 = 25165824 ∧ RoomFor (scrubState 5)
    ∧ one ((scrubState 0).fd R.MEM_SCRUB_CFG 31 24) * 1600000000 * 25165824
        < (scrubTarget ((scrubState 0).wr (R.MEM_S_PTR 7) 0) 7 - scrubPtr ((scrubState 0).wr (R.MEM_S_PTR 7) 0) 7) * scrubPeriod (scrubState 0) 7
    ∧ ScrubGoes ((scrubState 0).wr R.MEM_STATUS 0x800000FF) 7 ∧ ((scrubState 0).wr R.MEM_STATUS 0x800000FF).bit R.MEM_STATUS 31 = true
    ∧ (scrubAt (velScrub 0 200000) 8).begun = true ∧ scrubTarget (velScrub 0 200000) 8 = scrubPtr (velScrub 0 200000) 8 + 1
    ∧ (velScrub 0 200000).dom 0 = 2 ∧ scrubTarget (velScrub (255 * 2 ^ 21 + 0x180000 - 64) 960000000000) 8 = 6291456
    ∧ scrubPtr (velScrub (255 * 2 ^ 21 + 0x180000 - 64) 960000000000) 8 = 6291455 ∧ Reaches .jtag readyState ∧ hostLike .jtag = false
    ∧ Reaches .pcie (readyState.wr R.MEM_STATUS 1) ∧ readyState.bit R.GLB_STATE 5 = false ∧ (readyState.wr R.MEM_INJECT 0x80000001).bit R.MEM_INJECT 31 = true := by
  unfold BurstDue ScrubGoes InBurst Reaches RoomFor; constructorm* _ ∧ _ <;> decide +kernel

/-- Bus Master Enable and MSI-X Enable set, vector 17 pending and masked or not. -/
def busState (masked : Bool) : State :=
  (readyState.wr R.PCIE_STATUS 0xC6100380).uPcie fun p => { p with pend := [17], msix := if masked then [] else [(71, 0)] }

/-- Context 3 is a host-fed ring in HBM at 0x1000, running a descriptor of 139,264 bytes of which 77,809 are done (worked example of 23). -/
def ringThree (held : Bool) : State :=
  let d : Desc := ⟨0x41, [0x1F200000, 0x40, 0x34000000, 0x84C0012, 0x10022000, 0x100, 0, 0x80000000], false⟩
  let s := ((readyState.wr (R.XFE_CTL 3) 0x40050000).wr (R.XFE_STATE 3) (if held then 0x33800000 else 0x20000000)).wr (R.XFE_BASE_LO 3) 0x1000
  uCtx 3 (fun _ => ⟨[], if held then none else some ⟨d, 0x13000, [], 4577, [], 77809, 0, false, false⟩, 0, 0, false, false,
    if held then some (d, 77809) else none⟩) (s.wr R.PCIE_STATUS (if held then 4 else 0x100))

theorem wit_TheFunctionAnswersConfigurationAndFollowsItsLink : functionLive readyState = true
    ∧ functionLive (readyState.uPins fun p => { p with perstHigh := false }) = false ∧ readyState.bit R.PCIE_STATUS 31 = false
    ∧ (busState true).bit R.PCIE_STATUS 31 = true ∧ 2 ≤ readyState.top ∧ (readyState.wr R.GLB_STATE 1).top < 2 ∧ cfgTakes readyState = true
    ∧ (readyState.wr R.PCIE_STATUS 8).bit R.PCIE_STATUS 3 = true ∧ cfgTakes (readyState.wr R.PCIE_STATUS 8) = false
    ∧ pairAt cfgMask 0x10 = some 0xFC000000 ∧ (pairAt cfgFixed 0).isSome = true ∧ openCtxs (ringThree false) = [3] ∧ hostRing (ringThree false) 3 = true
    ∧ bme (ringThree false) = true ∧ d3hot (ringThree false) = false ∧ cfgTakes (ringThree false) = true ∧ ctxState (ringThree false) 3 = 2
    ∧ (ringThree false).evt.queue.length < 900 ∧ bme (busState true) = true ∧ d3hot ((busState true).wr R.PCIE_STATUS 0x3300) = true
    ∧ bme (readyState.wr R.PCIE_STATUS 0x200) = false ∧ (readyState.wr R.PCIE_STATUS 0x200).bit R.PCIE_STATUS 9 = true
    ∧ readyState.xfe.ctxs = [] ∧ openCtxs readyState = [] ∧ openCtxs (ringThree true) = [3] ∧ (ctxOf (ringThree true) 3).held.isSome = true ∧ smRising 0 (ringThree true).xfe.ctxs = true ∧ ctxState (ringThree true) 3 = 3
    ∧ bme (ringThree true) = false ∧ descAddr (ringThree true) 3 0x41 + 32 ≤ hbmSize ∧ (ringThree true).bit (R.XFE_CTL 3) 27 = false
    ∧ (ringThree true).hbmEcc = [] ∧ (ringThree true).bit R.MEM_INJECT 31 = false ∧ (ringThree true).bit R.PCIE_STATUS 9 = false
    ∧ Reaches .pcie (busState true) ∧ mayIssue (busState true) = true ∧ (busState true).bit R.PCIE_STATUS 10 = false
    ∧ (busState true).bit R.PCIE_STATUS 2 = false ∧ msixClear (busState true) 17 = false ∧ msixClear (busState false) 17 = true := by
  unfold Reaches; constructorm* _ ∧ _ <;> decide +kernel

/-- A BAR2 request of 16 bytes at window offset 0x1000. -/
def winReq (write : Bool) (len : Nat) : Bar2Req := ⟨write, 5, 0x1000, BitVec.ofNat 13 len, false, if write then (List.replicate len (1 : Byte)).map some else []⟩

/-- Ring 3 reads host memory with tag 256, its descriptor running; tag 700 of half 1 is fenced. -/
def tagState (lost : Bool) : State :=
  ((ringThree false).wr R.PCIE_STATUS 0x180).uPcie fun p => { p with np := [(256, ⟨3, some 9, 64, [], false, 0, lost⟩)], fenced := [(700, 1)] }

/-- Ring 40 runs a FILL of 16 bytes at HBM 0x1000. -/
def fillState : State :=
  ringState40 1 [] [runOne ⟨0, [0x01000000, 7, 16, 0, 0x1111, 0, 0x1000, 0, 0, 0, 0, 0, 0, 0, 0, 0], false⟩ 4]

theorem wit_MidTicketRead : midWriters fillState .hbm 0x1000 16 = [(40, runOne ⟨0, [0x01000000, 7, 16, 0, 0x1111, 0, 0x1000, 0, 0, 0, 0, 0, 0, 0, 0, 0], false⟩ 4)]
    ∧ (localWork 40 (runOne ⟨0, [0x01000000, 7, 16, 0, 0x1111, 0, 0x1000, 0, 0, 0, 0, 0, 0, 0, 0, 0], false⟩ 4) fillState).1.hbmEcc = []
    ∧ midWriters readyState .hbm 0x1000 16 = [] ∧ fillState.hbmEcc = [] := by
  constructorm* _ ∧ _ <;> decide +kernel

theorem wit_TheBar2WindowServesAndCompletionsFreeTheirTags : (⟨true, 5, 0, 16, false, []⟩ : Bar2Req).wellFormed = false ∧ (winReq true 16).wellFormed = true
    ∧ (winReq false 16).wellFormed = true ∧ functionLive readyState = true ∧ readyState.pathOpen .pcie = true ∧ readyState.hostBlocked = false
    ∧ (readyState.wr R.PCIE_STATUS 0x3000).pathOpen .pcie = false ∧ functionLive (readyState.wr R.PCIE_STATUS 0x3000) = true
    ∧ (readyState.uPcie fun p => { p with wait := [bar2At (winReq true 16) 0] }).hostBlocked = true ∧ holdsBase readyState = false
    ∧ (∀ k ∈ stacksAt (bar2Base readyState + 0x1000) 16, readyState.domUp (0x90 + k) = true ∧ readyState.dom (0x90 + k) ≠ 1)
    ∧ readyState.hbmEcc = [] ∧ readyState.bit R.MEM_INJECT 31 = false ∧ RoomFor readyState ∧ readyState.evt.marks = []
    ∧ stacksAt (bar2Base readyState + 0x1000) 16 = [2] ∧ stackWaits (readyState.setDom 0x92 1) 2 = true ∧ stackWaits (readyState.setDom 0x92 0) 2 = false
    ∧ (readyState.setDom 0x92 0).domUp 0x92 = false ∧ readyState.pcie.wait = [] ∧ readyState.pcie.held = [] ∧ Reaches .jtag readyState ∧ readyState.dom 0xA2 = 2
    ∧ (tagState false).pcie.np.find? (fun e => e.1 == 256) = some (256, ⟨3, some 9, 64, [], false, 0, false⟩) ∧ (700, 1) ∈ (tagState false).pcie.fenced
    ∧ bme (tagState false) = true ∧ (ctxOf (tagState false) 3).run.isSome = true ∧ (tagState false).fab.inbox = []
    ∧ ramSyn (readyState.uHbmEcc fun _ => [(0x200, 3)]) .hbm 0x200 = 3 := by
  unfold Reaches RoomFor; constructorm* _ ∧ _ <;> decide +kernel

/-- Context 3 as a host-fed ring in a state, with what it holds outside its registers. -/
def ctxThree (st : Nat) (x : XCtx) : State :=
  uCtx 3 (fun _ => x) (((readyState.wr (R.XFE_CTL 3) 0x40050000).wr (R.XFE_STATE 3) (2 ^ 28 * st)).wr (R.XFE_BASE_LO 3) 0x1000)

/-- A descriptor that copies 64 bytes from HBM 0x2000 to HBM 0x3000 of chip 0, no interrupt. -/
def copyDesc : Desc := ⟨0, [0x2000, 0, 0x3000, 0, 64, 0, 0, 0x80000000], false⟩

/-- It runs. -/
def copyRun (next : Nat) (bursts : List Burst) : XRun := ⟨copyDesc, next, [], 0, bursts, 0, 0, false, false⟩

theorem wit_StreamContextsOpenCloseAndTakeDoorbells : Reaches .jtag readyState ∧ Reaches .pcie readyState ∧ readyState.dom 0xA3 = 2
    ∧ (readyState.setDom 0xA3 0).dom 0xA3 ≠ 2 ∧ ctxKind readyState 3 = 0 ∧ fieldOf 0x40040000 31 30 = 1 ∧ ctlOk 0x40040000 = true
    ∧ fieldOf 0x40040000 31 28 = 4 ∧ ctlOk 0x70000000 = false ∧ RoomFor readyState ∧ mayCtx (ctxThree 1 XCtx.init) .pcie 3 = true
    ∧ ctxKind (ctxThree 1 XCtx.init) 3 = 1 ∧ ctxState (ctxThree 1 XCtx.init) 3 = 1 ∧ ctxState (ctxThree 2 XCtx.init) 3 = 2 ∧ 1 ≤ (readyState.wr R.XFE_STATUS 1).fd R.XFE_STATUS 12 0
    ∧ ctxBusy readyState 3 = false ∧ ctxKind (readyState.wr (R.XFE_CTL 3) 0xC0000000) 3 = 3
    ∧ heldLo (readyState.uAcc fun a => { a with held := [(Path.jtag.code, R.XFE_BASE_LO 3, 0x5000)] }) .jtag (R.XFE_BASE_LO 3) = some 0x5000
    ∧ mayCtx readyState .pcie 3 = false ∧ mayDoor (ctxThree 1 XCtx.init) .pcie 3 = true ∧ mayDoor (ctxThree 1 XCtx.init) .sdfp 3 = false
    ∧ 2 ^ ctxLog (ctxThree 1 XCtx.init) 3 < (100 + 65536 - ctxHead (ctxThree 1 XCtx.init) 3) % 65536
    ∧ (5 + 65536 - ctxHead (ctxThree 1 XCtx.init) 3) % 65536 ≤ 2 ^ ctxLog (ctxThree 1 XCtx.init) 3
    ∧ (ctxOf (ctxThree 1 XCtx.init) 3).run = none ∧ (ctxOf (ctxThree 2 { XCtx.init with run := some (copyRun 0 []) }) 3).run = some (copyRun 0 [])
    ∧ ctxState (ctxThree 3 XCtx.init) 3 = 3 := by
  unfold Reaches RoomFor; constructorm* _ ∧ _ <;> decide +kernel

/-- Context 3 with the descriptor in its ring's first slot and TAIL 1. -/
def fetchState (own : Byte) : State :=
  ((ctxThree 1 XCtx.init).wr (R.XFE_PTR 3) 0x10000).uHbm fun _ => [(0x1001, 0x20), (0x1009, 0x30), (0x1010, 64)] ++ if own = 0 then [] else [(0x101F, own)]

/-- A burst of the descriptor's 64 bytes, read and not landed. -/
def copyBurst : Burst := ⟨0, 0, 64, 0, (List.replicate 64 (7 : Byte)).map fun b => ⟨0, [b], false⟩, false, 0, 0⟩

theorem wit_DescriptorsRunInBurstsToTheirStatus : readyState.domUp 0xA3 = true ∧ (readyState.setDom 0xA3 0).domUp 0xA3 = false
    ∧ ctxGoes (fetchState 0x80) 3 = true ∧ (ctxOf (fetchState 0x80) 3).queue.length < 16 ∧ fetchIdx (fetchState 0x80) 3 ≠ ctxTail (fetchState 0x80) 3
    ∧ (fetchState 0x80).bit (R.XFE_CTL 3) 27 = false ∧ descAddr (fetchState 0x80) 3 0 + 32 ≤ hbmSize ∧ hbmUp (fetchState 0x80) 0x1000 32 = true
    ∧ (fetchState 0).hbmEcc = [] ∧ RoomFor (fetchState 0) ∧ (fetchState 0).evt.marks = [] ∧ descOk (fetchState 0x80) 3 copyDesc = true
    ∧ freeTag ((fetchState 0x80).wr R.PCIE_STATUS 0x180) = some 256 ∧ mayIssue ((fetchState 0x80).wr R.PCIE_STATUS 0x180) = true
    ∧ ((fetchState 0x80).wr (R.XFE_CTL 3) 0x48050000).bit (R.XFE_CTL 3) 27 = true ∧ ctxGoes readyState 3 = false ∧ readyState.fab.inbox = []
    ∧ (ctxOf (ctxThree 1 { XCtx.init with queue := [copyDesc] }) 3).queue = [copyDesc] ∧ DescSlot (ctxThree 1 XCtx.init) 3 0
    ∧ (copyRun 0 []).next ≠ dLen copyDesc ∧ burstLen (copyRun 0 []) = 64 ∧ xPlace readyState 0x2000 64 = .hbm 0x2000
    ∧ creditRate (ctxThree 2 XCtx.init) 3 0 = none ∧ creditRate ((ctxThree 2 XCtx.init).wr (R.XFE_RATE 3) 0x30000100) 3 0 = some (256 * 50 * 327680)
    ∧ srcHost copyDesc = false ∧ srcHost { copyDesc with dws := copyDesc.dws.set 5 0x100 } = true ∧ (hostSplit readyState 64).length = 1
    ∧ burstBytes (copyRun 64 [copyBurst]) copyBurst readyState = (List.replicate 64 (7 : Byte)).map (fun x => (x, false))
    ∧ xPlace readyState 0x3000 64 = .hbm 0x3000 ∧ hbmUp readyState 0x3000 64 = true ∧ dstHost copyDesc = false ∧ 64 ≤ maxPayload readyState
    ∧ dstHost { copyDesc with dws := copyDesc.dws.set 5 0x200 } = true ∧ dMode copyDesc = 0 ∧ dLen copyDesc = 64
    ∧ ctxState (ctxThree 2 XCtx.init) 3 = 2 ∧ readyState.bit R.PCIE_STATUS 9 = false ∧ (ctxThree 2 XCtx.init).bit (R.XFE_CTL 3) 24 = false := by
  unfold RoomFor DescSlot; constructorm* _ ∧ _ <;> decide +kernel

/-- A record waits; the HBM log of 1,024 records at 0 is on. -/
def logState (code : Nat) : State :=
  (readyState.wr R.EVT_HBM_CFG 0x800A0000).uEvt fun e => { e with queue := [⟨5, 5, code, 1, 3, [7]⟩] }

/-- The log's next page is slot 40 of sector 3, records wait. -/
def pageState (slot : Nat) : State :=
  (readyState.wr R.EVT_NVM_PTR (3 * 65536 + slot)).uEvt fun e => { e with flashQ := [List.replicate 8 1] }

theorem wit_TheCollectorRoutesRecordsAndTheLogsTakeThem : readyState.evt.queue = [] ∧ (logState Ev.MEM_UE).evt.queue = [⟨5, 5, Ev.MEM_UE, 1, 3, [7]⟩]
    ∧ Ev.MEM_UE / 256 < 32 ∧ bitOf (policyByte readyState Ev.MEM_TRAIN_FAIL) 3 = true ∧ bitOf (policyByte readyState Ev.MEM_TRAIN_FAIL) 4 = true
    ∧ bitOf (policyByte readyState Ev.MEM_UE) 1 = true ∧ bitOf (policyByte readyState Ev.MEM_UE) 0 = true ∧ bitOf (policyByte readyState Ev.MEM_UE) 2 = false
    ∧ bitOf (policyByte readyState Ev.EVT_SECTOR) 2 = true ∧ logOn (logState Ev.MEM_UE) = true ∧ logOn readyState = false ∧ readyState.evt.unwritten = []
    ∧ (logState Ev.MEM_UE).hbmEcc = [] ∧ readyState.bit R.MEM_INJECT 31 = false ∧ readyState.pins.perstHigh = true
    ∧ msixClear (busState false) 17 = true ∧ (0 + 65536 - 65530) % 65536 ≤ 64 ∧ 64 < (0 + 65536 - 65400) % 65536 ∧ readyState.evt.seq = 0
    ∧ Reaches .jtag readyState ∧ hostLike .jtag = false ∧ Reaches .pcie readyState ∧ RoomFor readyState ∧ nvmMay readyState = true
    ∧ pageBlank (pageState 40) = true ∧ nvmSlot (pageState 40) = 40 ∧ nvmSlot (pageState 0) = 0 ∧ (pageState 40).evt.flashQ ≠ []
    ∧ (pageState 40).boot.session = none ∧ flashBlank ((pageState 40).uFlash fun _ => [(logSector 4 + 5, 0)]) (logSector 4) 65536 = false
    ∧ readyState.evt.snap = none ∧ (readyState.wr R.EVT_TEL_CTL 0x80000000).bit R.EVT_TEL_CTL 31 = true ∧ (∀ k < 8, readyState.domUp (0x90 + k) = true)
    ∧ readyState.rd64 R.EVT_TEL_BASE_LO + 16384 + 16384 ≤ hbmSize := by
  unfold Reaches RoomFor; constructorm* _ ∧ _ <;> decide +kernel

/-- The pointer is set; PEC required or not. -/
def ptrState (space addr : Nat) (req : Bool) : State :=
  (readyState.wr R.MGMT_SMB_CFG (if req then 0x15C else 0x5C)).uMgmt fun m => { m with space := space, addr := addr }

theorem wit_SmbusCommandsPecAlertsAndFuses : smbLive readyState = true ∧ smbLive State.reset = false
    ∧ (ptrState 0 0 false).bit R.MGMT_SMB_CFG 8 = false ∧ (ptrState 0 0 true).bit R.MGMT_SMB_CFG 8 = true ∧ RoomFor readyState
    ∧ (ptrState 0 2 false).mgmt.addr % 4 ≠ 0 ∧ (ptrState 0 4 false).mgmt.space = 0 ∧ (ptrState 1 0x1000 false).mgmt.space = 1 ∧ 2 < (ptrState 3 0 false).mgmt.space
    ∧ (∀ k ∈ stacksAt 0x1000 8, readyState.domUp (0x90 + k) = true) ∧ readyState.hbmEcc = [] ∧ ramSyn (readyState.uHbmEcc fun _ => [(0x200, 3)]) .hbm 0x200 = 3
    ∧ readyState.rst.chip = false ∧ (ptrState 0 (R.GLB_SCRATCH) false).mgmt.addr = R.GLB_SCRATCH ∧ readyState.fab.inbox = []
    ∧ readyState.bit R.MEM_INJECT 31 = false ∧ readyState.evt.alerts = [] ∧ (readyState.uEvt fun e => { e with alerts := [9] }).evt.alerts = [9] ∧ readyState.pins.smbAlert = false
    ∧ (readyState.uPins fun p => { p with smbAlert := true }).pins.smbAlert = true ∧ readyState.mgmt.ara ≤ readyState.ticks
    ∧ readyState.ticks < (readyState.uMgmt fun m => { m with ara := 1600000 }).mgmt.ara
    ∧ Reaches .smbus readyState ∧ Reaches .pcie readyState ∧ mayFuse .smbus = true ∧ mayFuse .pcie = false ∧ readyState.mgmt.fuse = none
    ∧ readyState.fuses.chips.length < 4 ∧ 4 ≤ (readyState.uFuses fun f => { f with chips := [1, 2, 3, 4] }).fuses.chips.length ∧ readyState.fuses.keyHash = 0
    ∧ (readyState.uFuses fun f => { f with keyHash := 1 }).fuses.keyHash ≠ 0 ∧ fuseHash readyState = 0 ∧ fuseHash (readyState.wr (R.MGMT_FUSE_HASH 0) 1) ≠ 0
    ∧ (readyState.uMgmt fun m => { m with fuse := some (1, 1315) }).mgmt.fuse = some (1, 1315) := by
  unfold Reaches RoomFor; constructorm* _ ∧ _ <;> decide +kernel

/-- CFG_OPEN strapped, DEBUG_OPEN already raised, Scribe A halted or not. -/
def openState (halted : Bool) : State :=
  ((readyState.uPins fun p => { p with cfgOpen := true }).wr R.MGMT_STATUS 0x40000000).uScr fun x => { x with halted := if halted then [0] else [] }

theorem wit_JtagInstructionsActAsTheStrapAllows : readyState.pins.cfgOpen = false ∧ (openState false).pins.cfgOpen = true
    ∧ ((openState false).uMgmt fun m => { m with ir := 3 }).mgmt.ir = 3 ∧ (openState false).mgmt.ir ≠ 3 ∧ (openState false).rst.chip = false
    ∧ (openState false).rst.por = false ∧ (openState false).evt.queue.length < 900 ∧ (openState false).bit R.MGMT_STATUS 30 = true
    ∧ (R.GLB_SCRATCH) % 4 = 0 ∧ (openState false).fab.inbox = [] ∧ (∀ k ∈ stacksAt 0x1000 4, (openState false).domUp (0x90 + k) = true)
    ∧ (openState false).hbmEcc = [] ∧ (openState false).bit R.MEM_INJECT 31 = false ∧ ((openState false).wr R.MGMT_STATUS 0).bit R.MGMT_STATUS 30 = false
    ∧ RoomFor (openState false) ∧ (openState false).domUp 0xA0 = true ∧ (openState true).scr.halted.contains (unitNo .a) = true
    ∧ (openState false).scr.halted.contains (unitNo .a) = false := by
  unfold RoomFor; constructorm* _ ∧ _ <;> decide +kernel

theorem wit_StepRunsTheFrontCommand : State.reset.pending = [] ∧ State.reset.fab.inbox = [] ∧ (State.reset.ticks + 1) % 1600 ≠ 0
    ∧ State.reset.rst.por = false ∧ (State.reset.uRst fun r => { r with por := true }).rst.por = true ∧ State.reset.tkt.rings = [] ∧ State.reset.repl.app = none
    ∧ State.reset.top ≠ 3 ∧ (∀ p < 16, ∀ n < 18, sends State.reset p n = false) ∧ (State.reset.ct + 1).toNat % 8000 ≠ 0
    ∧ ((State.reset.uCt fun _ => 7999).ct + 1).toNat % 8000 = 0
    ∧ (State.reset.rest [.idcode]).pending = [.idcode] := by decide +kernel

theorem wit_EveryWellFormedCommandRuns : Instr.wellFormed .idcode = true ∧ Instr.wellFormed (.creditReceive 0 (List.replicate 10 0)) = true
    ∧ Instr.wellFormed (.creditReceive 0 []) = false := by decide

theorem wit_EveryStepKeepsTheTables : Tables State.reset ∧ (∃ t, step State.reset = .next t) := by
  refine ⟨by unfold Tables; decide +kernel, ?_⟩
  exact ⟨idleTick State.reset, rfl⟩

end
end

section
/-! Register access (00 R14–R24, R693): what a read and a write leave on each kind of register, and the statements about them. -/

namespace Sys2Proof

open Machine

/-! What a read of memories and registers sees of an update -/

theorem Machine.rd_of_regs_eq {s t : State} (h : t.regs = s.regs) (o : Nat) : t.rd o = s.rd o := by
  unfold State.rd
  rw [h]

theorem SameMem.of_eq {s t : State} (hh : t.hbm = s.hbm) (hv : t.vel = s.vel) (hf : t.flash = s.flash) : SameMem s t := by
  unfold SameMem
  rw [hh, hv, hf]
  exact ⟨fun _ => rfl, fun _ => rfl, fun _ => rfl⟩

theorem RegsKept.of_regs_eq {s t : State} (os : List Nat) (h : t.regs = s.regs) : RegsKept os s t := fun o _ => rd_of_regs_eq h o

theorem RegsKept.wr {s t : State} {os : List Nat} {off : Nat} (h : RegsKept os s t) (ho : off ∈ os) (v : Nat) :
    RegsKept os s (t.wr off v) := by
  intro o hn
  have hne : o ≠ off := fun e => hn (e ▸ ho)
  rw [rd_wr, if_neg hne, h o hn]

theorem RegsKept.put {s t : State} {os : List Nat} {off : Nat} (h : RegsKept os s t) (ho : off ∈ os) (v : Nat) :
    RegsKept os s (t.put off v) := h.wr ho _

end Sys2Proof

namespace Sys2Proof.Machine

theorem rd_put (s : State) (off v o : Nat) : (s.put off v).rd o = if o = off then keptBits off v % 2 ^ 32 else s.rd o := rd_wr _ _ _

/-- Whether it is queued, merged or dropped, an event changes no register but the count of dropped records (25 R622–R626). -/
theorem ev_regsKept (s : State) (code src : Nat) (args : List Nat) : RegsKept [R.EVT_DROP_CNT] s (s.ev code src args) := by
  unfold State.ev
  split_ifs
  · exact .of_regs_eq _ rfl
  · exact (RegsKept.of_regs_eq (t := s.uEvt _) _ rfl).wr List.mem_cons_self _
  · exact .of_regs_eq _ rfl

theorem ev_sameMem (s : State) (code src : Nat) (args : List Nat) : SameMem s (s.ev code src args) := by
  unfold State.ev
  split_ifs <;> exact .of_eq rfl rfl rfl

@[simp] theorem ev_out (s : State) (code src : Nat) (args : List Nat) : (s.ev code src args).out = s.out := by
  unfold State.ev
  split_ifs <;> rfl

@[simp] theorem emit_evt (s : State) (o : Out) : (s.emit o).evt = s.evt := rfl

theorem w32_mod (n : Nat) : w32 (n % 2 ^ 32) = w32 n := BitVec.eq_of_toNat_eq (by simp [w32])

theorem w32_toNat (w : Word) : w32 w.toNat = w := BitVec.ofNat_toNat _ _

/-! Commands whose path reaches the registers -/

section
variable {s : State} {p : Path} (h : Reaches p s)
include h

theorem exec_registerWrite (off : Nat) (v : Word) : exec (.registerWrite p off v) s = .next (regWrite p off v s) := through_reaches h _ _

theorem exec_nameLoWrite (off : Nat) (v : Word) : exec (.nameLoWrite p off v) s = .next (regWrite p off v s) := through_reaches h _ _

theorem exec_nameHiWrite (off : Nat) (v : Word) : exec (.nameHiWrite p off v) s = .next (regWrite p off v s) := through_reaches h _ _

theorem exec_twoDwordWrite (off : Nat) (a b : Word) : exec (.twoDwordAccess p off (some (a, b))) s = .next (write2 p off a b s) :=
  through_reaches h _ _

theorem exec_nameLoRead (off : Nat) :
    exec (.nameLoRead p off) s = .next ((regRead p off s).2.emit (.read p [w32 (regRead p off s).1])) := readThrough_reaches h _ _

theorem exec_nameHiRead (off : Nat) :
    exec (.nameHiRead p off) s = .next ((regRead p off s).2.emit (.read p [w32 (regRead p off s).1])) := readThrough_reaches h _ _

theorem exec_rcRead (off : Nat) :
    exec (.rcRead p off) s = .next ((regRead p off s).2.emit (.read p [w32 (regRead p off s).1])) := readThrough_reaches h _ _

theorem exec_twoDwordRead (off : Nat) :
    exec (.twoDwordAccess p off none) s = .next ((read2 p off s).2.emit (.read p (read2 p off s).1)) := readThrough_reaches h _ _

end

/-- A misaligned access answers zero where it reads, and JTAG notes BAD_ACC (00 R693, 26 R653). -/
theorem exec_badRegisterAccess {s : State} {p : Path} (h : Reaches p s) (w : Bool) (off : Nat) (v : Word) :
    exec (.badRegisterAccess p w off v) s =
      .next (if p = .jtag then (if w then s else s.emit (.read p [0])).uMgmt fun m => { m with result := (4, 0) }
        else if w then s else s.emit (.read p [0])) := by
  show execBadRegisterAccess p w off v s = _
  simp [execBadRegisterAccess, h.1, done]

/-! Reads, by the kind of register -/

section
variable {p : Path} {off : Nat} {r : RegRow} {s : State}

theorem regRead_unmapped (hr : regRow off = none) : regRead p off s = (0, s) := by simp [regRead, hr]

/-- A NAME_LO read answers the lower half and latches the upper one (00 R19). -/
theorem regRead_lo (hp : p ≠ .sdfp) (hr : regRow off = some r) (hh : r.half = .lo) (ha : r.acc ≠ .wo) (hb : s.blockOn off = true) :
    regRead p off s = (pairValue p off s % 2 ^ 32,
      s.uAcc fun a => { a with latch := smSet (fun _ => (0 : Word)) a.latch p.code (w32 (pairValue p off s / 2 ^ 32)) }) := by
  simp [regRead, hr, hh, ha, hb, hp]

/-- A NAME_HI read answers what its path latched (00 R21). -/
theorem regRead_hi (hp : p ≠ .sdfp) (hr : regRow off = some r) (hh : r.half = .hi) (ha : r.acc ≠ .wo) (hb : s.blockOn off = true) :
    regRead p off s = ((latchOf s p).toNat, s) := by
  simp [regRead, latchOf, hr, hh, ha, hb, hp]

/-- An RC read answers the value and clears it, over SDFP the value alone (00 Table 0.3, 17 R448). -/
theorem regRead_rc (hr : regRow off = some r) (hh : r.half = .none) (ha : r.acc = .rc) (hb : s.blockOn off = true) :
    regRead p off s = (regValue p off s, if p ≠ .sdfp then s.wr off 0 else s) := by
  simp [regRead, hr, hh, ha, hb]

/-- No read sends anything by itself. -/
theorem regRead_out (p : Path) (off : Nat) (s : State) : (regRead p off s).2.out = s.out := by
  unfold regRead
  split
  · rfl
  · split
    · rfl
    · split
      · by_cases hp : p = .sdfp <;> simp [hp]
      · rfl
      · rw [apply_ite State.out, wr_out, ite_self]

theorem read2_of_not_pair (h : ¬ (p = .sdfp ∧ isLo off = true)) :
    read2 p off s = ([w32 (regRead p off s).1, w32 (regRead p (off + 4) (regRead p off s).2).1],
      (regRead p (off + 4) (regRead p off s).2).2) := by
  simp only [read2, if_neg h]

/-! Writes, by the kind of register -/

theorem regWrite_unmapped (hr : regRow off = none) (v : Word) : regWrite p off v s = s := by simp [regWrite, hr]

/-- A write of a locked register is denied (00 R18). -/
theorem regWrite_locked (hr : regRow off = some r) (ha : r.acc = .rwl) (hh : r.half = .none) (hb : s.blockOn off = true)
    (hl : s.locked = true) (hp : ¬ ((isShare off ∨ isFeed off) ∧ hostLike p)) (v : Word) :
    regWrite p off v s = s.deny Ev.LOCKED_WRITE off v.toNat p := by
  have hp' : ((isShare off || isFeed off) && hostLike p) = false := by simpa using hp
  simp [regWrite, hr, ha, hh, hb, hl, hp']

/-- The state that holds a NAME_LO write for its path, in place of what the path held for that pair (00 R22). -/
def holdLo (p : Path) (off : Nat) (v : Word) (s : State) : State :=
  (dropHeld p off s).uAcc fun a => { a with held := a.held ++ [(p.code, off, v)] }

/-- The lower half a NAME_HI write commits: the held one, where its path holds one (00 R22). -/
def putHeld (p : Path) (lo : Nat) (s : State) : State :=
  match heldLo s p lo with
  | some w => s.put lo w.toNat
  | none => s

theorem regWrite_lo (hp : p ≠ .sdfp) (hr : regRow off = some r) (hh : r.half = .lo) (ho : r.acc ≠ .ro) (hc : r.acc ≠ .rc)
    (hb : s.blockOn off = true) (ht : pairTakes p r off s = true) (v : Word) : regWrite p off v s = holdLo p off v s := by
  simp [regWrite, holdLo, hr, hh, ho, hc, hb, hp, ht]

theorem regWrite_hi (hp : p ≠ .sdfp) (hr : regRow off = some r) (hh : r.half = .hi) (ho : r.acc ≠ .ro) (hc : r.acc ≠ .rc)
    (hb : s.blockOn off = true) (ht : pairTakes p r off s = true) (v : Word) :
    regWrite p off v s = dropHeld p (off - 4) ((putHeld p (off - 4) s).put off v.toNat) := by
  have hanswers : ¬ ((!s.blockOn off) = true ∨ r.acc = .ro ∨ r.acc = .rc) := by simp [ho, hc, hb]
  simp only [regWrite, hr, hh, if_neg hanswers, if_neg hp, if_pos ht]
  rfl

end

/-! The held NAME_LO writes (00 R22) -/

theorem heldLo_dropHeld_same (p : Path) (lo : Nat) (s : State) : heldLo (dropHeld p lo s) p lo = none := by
  simp only [heldLo, dropHeld, uAcc_acc, Option.map_eq_none_iff, List.find?_eq_none, List.mem_filter]
  rintro h ⟨-, hk⟩ hm
  simp [hm] at hk

theorem heldLo_dropHeld_of_ne {p q : Path} {lo off : Nat} (h : q.code ≠ p.code ∨ lo ≠ off) (s : State) :
    heldLo (dropHeld p off s) q lo = heldLo s q lo := by
  simp only [heldLo, dropHeld, uAcc_acc, List.find?_filter]
  congr 2
  funext x
  have hkept : x.1 = q.code ∧ x.2.1 = lo → ¬ x.1 = p.code ∨ ¬ x.2.1 = off := by omega
  rw [Bool.eq_iff_iff]
  simpa using hkept

theorem heldLo_holdLo (p q : Path) (off lo : Nat) (v : Word) (s : State) :
    heldLo (holdLo p off v s) q lo = (heldLo (dropHeld p off s) q lo).or (if p.code = q.code ∧ off = lo then some v else none) := by
  simp only [heldLo, holdLo, uAcc_acc, List.find?_append, Option.map_or]
  congr 1
  by_cases h : p.code = q.code ∧ off = lo <;> simp [h]

theorem heldLo_holdLo_same (p : Path) (off : Nat) (v : Word) (s : State) : heldLo (holdLo p off v s) p off = some v := by
  simp [heldLo_holdLo, heldLo_dropHeld_same]

theorem heldLo_holdLo_of_ne {p q : Path} {lo off : Nat} (h : q.code ≠ p.code ∨ lo ≠ off) (v : Word) (s : State) :
    heldLo (holdLo p off v s) q lo = heldLo s q lo := by
  have hne : ¬ (p.code = q.code ∧ off = lo) := by omega
  rw [heldLo_holdLo, heldLo_dropHeld_of_ne h, if_neg hne, Option.or_none]

theorem putHeld_of_held {p : Path} {lo : Nat} {w : Word} {s : State} (h : heldLo s p lo = some w) : putHeld p lo s = s.put lo w.toNat := by
  simp [putHeld, h]

theorem putHeld_of_none {p : Path} {lo : Nat} {s : State} (h : heldLo s p lo = none) : putHeld p lo s = s := by
  simp [putHeld, h]

theorem putHeld_regsKept {p : Path} {lo : Nat} {os : List Nat} (s : State) (h : lo ∈ os) : RegsKept os s (putHeld p lo s) := by
  cases hw : heldLo s p lo with
  | some w =>
    rw [putHeld_of_held hw]
    exact (RegsKept.of_regs_eq _ rfl).put h _
  | none =>
    rw [putHeld_of_none hw]
    exact .of_regs_eq _ rfl

theorem putHeld_sameMem (p : Path) (lo : Nat) (s : State) : SameMem s (putHeld p lo s) := by
  cases hw : heldLo s p lo with
  | some w =>
    rw [putHeld_of_held hw]
    exact .of_eq rfl rfl rfl
  | none =>
    rw [putHeld_of_none hw]
    exact .of_eq rfl rfl rfl

/-! The statements -/

/-- Settles O4: the write ends in an event, which changes no register but the count of dropped records. -/
theorem lockedWriteIsDiscarded : Obligations.LockedWriteIsDiscarded := by
  intro s p off v r hreach hr ha hh hb hl hp
  have hrun := exec_registerWrite hreach off v
  rw [regWrite_locked hr ha hh hb hl hp] at hrun
  exact ⟨_, hrun, ev_regsKept _ _ _ _, ev_sameMem .., ev_out .., fun room => ⟨rd_of_regs_eq (ev_regs room ..) off, ev_raised room ..⟩⟩

/-- Settles O1: a NAME_LO read writes one entry of the latch table, its path's, and a NAME_HI read answers that entry. -/
theorem pairReadLatchesPerPath : Obligations.PairReadLatchesPerPath := by
  refine ⟨fun p => rfl, ?_, ?_⟩
  · intro s p off r hreach hp hr hh ha hb
    have hrun := exec_nameLoRead hreach off
    rw [regRead_lo hp hr hh ha hb, w32_mod] at hrun
    refine ⟨_, hrun, rfl, ?_, fun q hq => ?_, rfl, .of_eq rfl rfl rfl⟩
    · exact (smGet_smSet ..).trans (if_pos rfl)
    · exact (smGet_smSet ..).trans (if_neg hq)
  · intro s p off r hreach hp hr hh ha hb
    rw [exec_nameHiRead hreach, regRead_hi hp hr hh ha hb, w32_toNat]

/-- Settles O2, by what a path holds after a NAME_LO write and what the NAME_HI write puts in the two registers. -/
theorem pairWriteCommitsAtOnce : Obligations.PairWriteCommitsAtOnce := by
  refine ⟨?_, ?_⟩
  · intro s p off v r hreach hp hr hh ho hc hb ht
    have hrun := exec_nameLoWrite hreach off v
    rw [regWrite_lo hp hr hh ho hc hb ht] at hrun
    exact ⟨_, hrun, rfl, .of_eq rfl rfl rfl, heldLo_holdLo_same .., fun q lo hne => heldLo_holdLo_of_ne hne ..⟩
  · intro s p lo v r hreach hp hr hh ho hc hb ht
    have hrun := exec_nameHiWrite hreach (lo + 4) v
    rw [regWrite_hi hp hr hh ho hc hb ht, Nat.add_sub_cancel] at hrun
    have hrd : ∀ o, (dropHeld p lo ((putHeld p lo s).put (lo + 4) v.toNat)).rd o = ((putHeld p lo s).put (lo + 4) v.toNat).rd o :=
      fun o => rfl
    refine ⟨_, hrun, ?_, ?_, heldLo_dropHeld_same .., ?_, putHeld_sameMem p lo s⟩
    · rw [hrd, rd_put, if_pos rfl]
    · rw [hrd, rd_put, if_neg (by omega)]
      cases hw : heldLo s p lo with
      | some w => rw [putHeld_of_held hw, rd_put, if_pos rfl]
      | none => rw [putHeld_of_none hw]
    · exact (putHeld_regsKept s List.mem_cons_self).put (List.mem_cons_of_mem _ List.mem_cons_self) _

/-- Settles O5: an offset without a row answers zero and takes nothing, on every path. -/
theorem unmappedOffsetsAreInert : Obligations.UnmappedOffsetsAreInert := by
  refine ⟨fun s p off hreach h1 h2 => ?_, fun s p off hreach h1 => ?_, fun s p off v hreach h1 => ?_⟩
  · have hlo : isLo off = false := by simp [isLo, h1]
    rw [exec_twoDwordRead hreach, read2_of_not_pair (by simp [hlo]), regRead_unmapped h1, regRead_unmapped h2]
    rfl
  · rw [exec_rcRead hreach, regRead_unmapped h1]
    rfl
  · rw [exec_registerWrite hreach, regWrite_unmapped h1]

/-- Settles O6: the read writes zero to the register it answers, and over SDFP it writes nothing. -/
theorem counterReadClearsOnce : Obligations.CounterReadClearsOnce := by
  intro s p off r hreach hr ha hh hb
  have hrun := exec_rcRead hreach off
  rw [regRead_rc hr hh ha hb] at hrun
  by_cases hp : p = .sdfp
  · rw [if_neg (not_not_intro hp)] at hrun
    exact ⟨_, hrun, rfl, (if_pos hp).symm, .of_regs_eq _ rfl, .of_eq rfl rfl rfl⟩
  · rw [if_pos hp] at hrun
    refine ⟨_, hrun, rfl, ?_, (RegsKept.of_regs_eq _ rfl).wr List.mem_cons_self 0, .of_eq rfl rfl rfl⟩
    rw [if_neg hp, rd_of_regs_eq (emit_regs _), rd_wr, if_pos rfl]
    rfl

/-- Settles O7: at most an answer leaves and JTAG's result changes. -/
theorem badAccessIsNotCarriedOut : Obligations.BadAccessIsNotCarriedOut := by
  intro s p w off v hreach _
  refine ⟨_, exec_badRegisterAccess hreach w off v, ?_⟩
  by_cases hp : p = .jtag <;> cases w <;> simp [hp, SameMem]

/-- Settles O8: except over SDFP, the two-dword access is made of the two 32-bit accesses. -/
theorem twoDwordAccessIsTwoAccesses : Obligations.TwoDwordAccessIsTwoAccesses := by
  refine ⟨?_, ?_⟩
  · intro s p off a b hreach hp hreach'
    rw [exec_twoDwordWrite hreach, exec_nameLoWrite hreach]
    dsimp only
    rw [exec_nameHiWrite hreach', write2, if_neg (fun h => hp h.1)]
  · intro s p off hreach hp
    have hrun := exec_twoDwordRead hreach off
    rw [read2_of_not_pair (fun h => hp h.1)] at hrun
    refine ⟨_, hrun, w32 (regRead p off s).1, _, _, exec_nameLoRead hreach off, ?_, ?_, rfl⟩
    · rw [emit_out, regRead_out]
    · rw [emit_out, regRead_out, regRead_out]

end Sys2Proof.Machine
end

section
/-! The machine seen from its host (01 R28, R34; 03 R93, R95; 22 R573, R574, R584): GLB_SCRATCH, and what PERST_N and a Function Level
Reset clear of the host's side and leave of the fabric's. -/

namespace Sys2Proof

open Machine

theorem RegsKept.fw {s t : State} {os : List Nat} {off : Nat} (h : RegsKept os s t) (ho : off ∈ os) (hi lo v : Nat) :
    RegsKept os s (t.fw off hi lo v) := h.wr ho _

theorem RegsKept.sat {s t : State} {os : List Nat} {off : Nat} (h : RegsKept os s t) (ho : off ∈ os) (hi lo n : Nat) :
    RegsKept os s (t.sat off hi lo n) := h.wr ho _

end Sys2Proof

namespace Sys2Proof.Machine

/-! Fields of a written register (00 R6) -/

theorem rd_lt (s : State) (off : Nat) : s.rd off < 2 ^ 32 := (smGet regReset s.regs off).isLt

theorem bitOf_eq_testBit (w n : Nat) : bitOf w n = w.testBit n := by
  rw [Nat.testBit_eq_decide_div_mod_eq, bitOf, Nat.shiftRight_eq_div_pow]
  exact beq_eq_decide ..

/-- A field reads back what was put in it, to its width. -/
theorem fieldOf_fieldSet (w v : Nat) {hi lo : Nat} : fieldOf (fieldSet w hi lo v) hi lo = v % 2 ^ (hi + 1 - lo) := by
  unfold fieldSet fieldOf
  simp only [Nat.shiftRight_eq_div_pow, Nat.shiftLeft_eq]
  generalize 2 ^ (hi + 1 - lo) = W
  have hP : 0 < 2 ^ lo := Nat.two_pow_pos lo
  generalize 2 ^ lo = P at hP
  have hw : w = P * (W * (w / P / W) + w / P % W) + w % P := by rw [Nat.div_add_mod, Nat.div_add_mod]
  have hput : w - w / P % W * P + v % W * P = w % P + P * (v % W + W * (w / P / W)) := by
    generalize w / P % W = f at hw
    have hcleared : w - f * P = P * (W * (w / P / W)) + w % P := by
      rw [Nat.mul_add] at hw
      rw [Nat.mul_comm f P]
      omega
    rw [hcleared]
    ring
  rw [hput, Nat.add_mul_div_left _ _ hP, Nat.div_eq_of_lt (Nat.mod_lt _ hP), Nat.zero_add, Nat.add_mul_mod_self_left, Nat.mod_mod]

theorem fieldOf_mod_word (w : Nat) {hi lo : Nat} (h : hi < 32) : fieldOf (w % 2 ^ 32) hi lo = fieldOf w hi lo := by
  apply Nat.eq_of_testBit_eq
  intro i
  simp only [fieldOf, Nat.testBit_mod_two_pow, Nat.testBit_shiftRight]
  by_cases hi' : i < hi + 1 - lo
  · have : lo + i < 32 := by omega
    simp [hi', this]
  · simp [hi']

theorem fd_fw_same (s : State) (off v : Nat) {hi lo : Nat} (h : hi < 32) : (s.fw off hi lo v).fd off hi lo = v % 2 ^ (hi + 1 - lo) := by
  rw [State.fd, State.fw, rd_wr, if_pos rfl, fieldOf_mod_word _ h, fieldOf_fieldSet]

/-- A bit of a register is a bit of a field it lies in. -/
theorem bit_of_fd (s : State) (off : Nat) {hi lo n : Nat} (hlo : lo ≤ n) (hhi : n ≤ hi) :
    s.bit off n = bitOf (s.fd off hi lo) (n - lo) := by
  have hin : n - lo < hi + 1 - lo := by omega
  simp only [State.bit, State.fd, fieldOf, bitOf_eq_testBit, Nat.testBit_mod_two_pow, Nat.testBit_shiftRight, hin, decide_true,
    Bool.true_and, Nat.add_sub_cancel' hlo]

theorem bit_fw {s : State} {off v hi lo n : Nat} (hlo : lo ≤ n) (hhi : n ≤ hi) (h : hi < 32) :
    (s.fw off hi lo v).bit off n = bitOf (v % 2 ^ (hi + 1 - lo)) (n - lo) := by
  rw [bit_of_fd _ _ hlo hhi, fd_fw_same _ _ _ h]

theorem bit_of_rd_eq {s t : State} {off : Nat} (h : t.rd off = s.rd off) (n : Nat) : t.bit off n = s.bit off n := by
  rw [State.bit, State.bit, h]

theorem bit_fw_ne {s : State} {off hi lo v n o : Nat} (h : o ≠ off) : (s.fw off hi lo v).bit o n = s.bit o n :=
  bit_of_rd_eq (rd_fw_ne _ _ _ _ h) n

theorem rd_sat_ne {s : State} {off hi lo n o : Nat} (h : o ≠ off) : (s.sat off hi lo n).rd o = s.rd o := rd_fw_ne _ _ _ _ h

theorem bit_sat_ne {s : State} {off hi lo k n o : Nat} (h : o ≠ off) : (s.sat off hi lo k).bit o n = s.bit o n :=
  bit_of_rd_eq (rd_sat_ne h) n

theorem fd_whole (s : State) (off : Nat) : s.fd off 31 0 = s.rd off := Nat.mod_eq_of_lt (rd_lt s off)

/-- A 32-bit counter counts up by one and saturates. -/
theorem rd_sat_count (s : State) (off : Nat) : (s.sat off 31 0 1).rd off = min 0xFFFFFFFF (s.rd off + 1) := by
  rw [← fd_whole, State.sat, fd_fw_same _ _ _ (by decide), fd_whole]
  simp only [satN, Nat.reduceAdd, Nat.reduceSub, Nat.reducePow]
  split_ifs <;> omega

/-! GLB_SCRATCH (01 R34) -/

/-- GLB_SCRATCH has no rule of its own: a write stores every bit. -/
theorem regWrite_scratch (p : Path) (v : Word) (s : State) : regWrite p R.GLB_SCRATCH v s = s.wr R.GLB_SCRATCH v.toNat := by
  have hrow : regRow R.GLB_SCRATCH = some ⟨R.GLB_SCRATCH, [], .rw, 0, 0xFFFFFFFF, [], .none⟩ := rfl
  have hon : s.blockOn R.GLB_SCRATCH = true := rfl
  have hact : regAct p R.GLB_SCRATCH v s = s.wr R.GLB_SCRATCH (v.toNat &&& (2 ^ 32 - 1)) := rfl
  simp only [regWrite, hrow, hon, hact, Nat.and_two_pow_sub_one_eq_mod, Nat.mod_eq_of_lt v.isLt]
  rfl

/-- Settles O3: GLB_SCRATCH reads back the whole word its write stores. -/
theorem scratchHoldsWhatWasWritten : Obligations.ScratchHoldsWhatWasWritten := by
  intro s p v hreach
  refine ⟨_, exec_registerWrite hreach _ v, regWrite_scratch p v s, ?_⟩
  rw [regWrite_scratch, rd_wr, if_pos rfl, Nat.mod_eq_of_lt v.isLt]

/-! What a step of the host's side leaves alone -/

/-- The fabric side of the package outside its registers, and its balls. -/
def fabricSide (s : State) :=
  (s.hbm, s.vel, s.flash, s.ct, s.lnk, s.plates, s.scr, s.pins)

/-- From s to t the fabric side stands as it was, and no register outside W has changed. -/
def HostFrame (W : Nat → Prop) (s t : State) : Prop :=
  fabricSide t = fabricSide s ∧ ∀ o, ¬ W o → t.rd o = s.rd o

namespace HostFrame

variable {W V : Nat → Prop} {s t u : State}

theorem of_eq (hf : fabricSide t = fabricSide s) (hr : t.regs = s.regs) : HostFrame W s t := ⟨hf, fun o _ => rd_of_regs_eq hr o⟩

theorem keep (h : HostFrame W s t) (hf : fabricSide u = fabricSide t) (hr : u.regs = t.regs) : HostFrame W s u :=
  ⟨hf.trans h.1, fun o ho => (rd_of_regs_eq hr o).trans (h.2 o ho)⟩

theorem uPcie (h : HostFrame W s t) (g : PcieSt → PcieSt) : HostFrame W s (t.uPcie g) := h.keep rfl rfl

theorem refl (s : State) : HostFrame W s s := of_eq rfl rfl

theorem trans (h : HostFrame W s t) (g : HostFrame W t u) : HostFrame W s u :=
  ⟨g.1.trans h.1, fun o ho => (g.2 o ho).trans (h.2 o ho)⟩

theorem mono (h : HostFrame V s t) (hV : ∀ o, V o → W o) : HostFrame W s t := ⟨h.1, fun o ho => h.2 o fun hv => ho (hV o hv)⟩

theorem wr (h : HostFrame W s t) {off : Nat} (ho : W off) (v : Nat) : HostFrame W s (t.wr off v) :=
  h.trans ⟨rfl, fun o hn => by rw [rd_wr, if_neg (fun e : o = off => hn (e ▸ ho))]⟩

theorem fw (h : HostFrame W s t) {off : Nat} (ho : W off) (hi lo v : Nat) : HostFrame W s (t.fw off hi lo v) := h.wr ho _

theorem ev (h : HostFrame W s t) (hd : W R.EVT_DROP_CNT) (code src : Nat) (args : List Nat) : HostFrame W s (t.ev code src args) := by
  refine h.trans ⟨?_, fun o hn => ev_regsKept t code src args o fun hm => hn (List.mem_singleton.mp hm ▸ hd)⟩
  unfold State.ev
  split_ifs <;> rfl

theorem pins (h : HostFrame W s t) : t.pins = s.pins := congrArg (fun x => x.2.2.2.2.2.2.2) h.1

theorem foldl {α : Type} {f : State → α → State} {l : List α} (hf : ∀ s, ∀ a ∈ l, HostFrame W s (f s a)) (s : State) :
    HostFrame W s (l.foldl f s) := by
  induction l generalizing s with
  | nil => exact refl s
  | cons a l ih => exact (hf s a List.mem_cons_self).trans (ih (fun s b hb => hf s b (List.mem_cons_of_mem _ hb)) _)

end HostFrame

/-! Ticket rings stop (20 R542, 22 R575) -/

/-- The registers that the stop of a ticket ring may write: those of the TKT and GRV blocks, PWR_HN_PENDING and EVT_DROP_CNT. -/
def TicketReg (o : Nat) : Prop := (0xC00000 ≤ o ∧ o < 0x2000000) ∨ o = R.PWR_HN_PENDING ∨ o = R.EVT_DROP_CNT

theorem ticketReg_state {r : Nat} (hr : r < 256) : TicketReg (R.TKT_STATE r) := by
  simp only [TicketReg, R.TKT_STATE]
  omega

theorem ticketReg_grv {r : Nat} (hr : r < 256) : TicketReg (R.GRV_STATUS r) := by
  simp only [TicketReg, R.GRV_STATUS]
  omega

theorem ticketReg_status : TicketReg R.TKT_STATUS := .inl (by decide)

theorem ticketReg_drops : TicketReg R.EVT_DROP_CNT := .inr (.inr rfl)

theorem hnPending_frame (s : State) : HostFrame TicketReg s (hnPending s) := (HostFrame.refl s).wr (.inr (.inl rfl)) _

theorem notesLapse_frame (cause : Nat) (which : Note → Bool) (s : State) : HostFrame TicketReg s (notesLapse cause which s) := by
  have hnote : ∀ (t : State), ∀ n ∈ s.pwr.notes.filter which,
      HostFrame TicketReg t ((if notePending t n then loseNote n.ring n.idx t else t).ev Ev.HEAT_NOTE_LAPSE n.ring [cause]) := by
    intro t n _
    refine HostFrame.ev ?_ ticketReg_drops _ _ _
    split_ifs
    · exact .of_eq rfl rfl
    · exact .refl t
  have hplan : HostFrame TicketReg s (s.uPwr fun x => { x with
      notes := x.notes.filter fun n => !which n,
      lapsed := x.lapsed ++ (s.pwr.notes.filter which).map fun n => ⟨n.die, n.last, 0, n.decay⟩ }) := .of_eq rfl rfl
  exact (hplan.trans (HostFrame.foldl hnote _)).trans (hnPending_frame _)

theorem withdraw_frame (r : Nat) (s : State) : HostFrame TicketReg s (withdraw r s) :=
  ((notesLapse_frame 1 _ s).keep rfl rfl).trans (hnPending_frame _)

theorem ringSync_frame {r : Nat} (hr : r < 256) (s : State) : HostFrame TicketReg s (ringSync r s) :=
  ((((HostFrame.refl s).fw (ticketReg_state hr) _ _ _).fw (ticketReg_state hr) _ _ _).wr (ticketReg_grv hr) _).fw ticketReg_status _ _ _

theorem stopRing_frame {r : Nat} (hr : r < 256) (cause : Nat) (s : State) : HostFrame TicketReg s (stopRing r cause s) := by
  unfold stopRing
  split_ifs
  · exact .refl s
  · refine HostFrame.trans (HostFrame.ev ?_ ticketReg_drops _ _ _) (ringSync_frame hr _)
    exact (((withdraw_frame r s).fw (ticketReg_state hr) _ _ _).fw (ticketReg_state hr) _ _ _).fw ticketReg_status _ _ _

theorem stopHostRings_frame (s : State) : HostFrame TicketReg s (stopHostRings s) :=
  HostFrame.foldl (fun t _ hr => stopRing_frame (List.mem_range.mp (List.mem_filter.mp hr).1) 4 t) s

/-! Transfer rings close (23 R591, R610) -/

/-- The registers that follow the held statuses. -/
def HeldReg (o : Nat) : Prop := o = R.XFE_HELD ∨ o = R.PCIE_STATUS

/-- The registers that the close of context c writes. -/
def ShutReg (c o : Nat) : Prop := HeldReg o ∨ o = R.XFE_STATUS ∨ o = R.XFE_CTL c ∨ o = R.XFE_STATE c

theorem heldSync_frame (s : State) : HostFrame HeldReg s (heldSync s) := ((HostFrame.refl s).wr (.inl rfl) _).fw (.inr rfl) _ _ _

theorem countOpen_frame (c : Nat) (up : Bool) (s : State) : HostFrame (· = R.XFE_STATUS) s (countOpen c up s) := by
  have hopen : ∀ v, HostFrame (· = R.XFE_STATUS) s (s.fw R.XFE_STATUS 12 0 v) := fun v =>
    HostFrame.fw (W := (· = R.XFE_STATUS)) (.refl s) rfl _ _ v
  unfold countOpen
  extract_lets n h t
  have ht : HostFrame (· = R.XFE_STATUS) s t := hopen _
  split_ifs
  · exact ht.fw rfl _ _ _
  · exact ht

/-- The context's registers as the close of context c leaves them. -/
def ctxCleared (c : Nat) (s : State) : State := ((countOpen c false s).fw (R.XFE_CTL c) 31 30 0).wr (R.XFE_STATE c) 0

theorem ctxShut_closed {c : Nat} {s : State} (h : ctxKind s c = 0) : ctxShut c s = s := if_pos h

theorem ctxShut_open {c : Nat} {s : State} (h : ctxKind s c ≠ 0) : ctxShut c s = heldSync (uCtx c (fun _ => XCtx.init) (ctxCleared c s)) :=
  if_neg h

theorem ctxCleared_frame (c : Nat) (s : State) : HostFrame (ShutReg c) s (ctxCleared c s) := by
  have hcount : HostFrame (ShutReg c) s (countOpen c false s) := (countOpen_frame c false s).mono fun _ h => .inr (.inl h)
  exact (hcount.fw (.inr (.inr (.inl rfl))) _ _ _).wr (.inr (.inr (.inr rfl))) _

theorem heldSync_uCtx_frame (c : Nat) (s : State) : HostFrame HeldReg s (heldSync (uCtx c (fun _ => XCtx.init) s)) :=
  HostFrame.trans (.of_eq rfl rfl) (heldSync_frame _)

theorem ctxShut_frame (c : Nat) (s : State) : HostFrame (ShutReg c) s (ctxShut c s) := by
  by_cases h : ctxKind s c = 0
  · rw [ctxShut_closed h]
    exact .refl s
  · rw [ctxShut_open h]
    exact (ctxCleared_frame c s).trans ((heldSync_uCtx_frame c _).mono fun _ => .inl)

theorem ctxKind_of_rd_eq {s t : State} {c : Nat} (h : t.rd (R.XFE_CTL c) = s.rd (R.XFE_CTL c)) : ctxKind t c = ctxKind s c := by
  rw [ctxKind, ctxKind, State.fd, State.fd, h]

theorem hostRing_of_rd_eq {s t : State} {c : Nat} (h : t.rd (R.XFE_CTL c) = s.rd (R.XFE_CTL c)) : hostRing t c = hostRing s c := by
  rw [hostRing, hostRing, ctxKind_of_rd_eq h, ctxFeed, ctxFeed, State.fd, State.fd, h]

theorem not_heldReg_ctl (c : Nat) : ¬ HeldReg (R.XFE_CTL c) := by
  simp only [HeldReg, R.XFE_HELD, R.PCIE_STATUS, R.XFE_CTL]
  omega

theorem not_shutReg_ctl {c d : Nat} (hd : d < 4096) (h : d ≠ c) : ¬ ShutReg c (R.XFE_CTL d) := by
  simp only [ShutReg, HeldReg, R.XFE_HELD, R.PCIE_STATUS, R.XFE_STATUS, R.XFE_CTL, R.XFE_STATE]
  omega

theorem ctxKind_ctxShut_same (c : Nat) (s : State) : ctxKind (ctxShut c s) c = 0 := by
  by_cases h : ctxKind s c = 0
  · rw [ctxShut_closed h, h]
  · have hne : R.XFE_CTL c ≠ R.XFE_STATE c := by
      simp only [R.XFE_CTL, R.XFE_STATE]
      omega
    rw [ctxShut_open h, ctxKind_of_rd_eq ((heldSync_uCtx_frame c _).2 _ (not_heldReg_ctl c)), ctxCleared,
      ctxKind_of_rd_eq ((rd_wr _ _ _).trans (if_neg hne))]
    exact fd_fw_same _ _ 0 (by decide)

/-- A closed context stays closed when another one is shut. -/
theorem ctxKind_ctxShut_of_closed (c : Nat) {d : Nat} (hd : d < 4096) {s : State} (h : ctxKind s d = 0) :
    ctxKind (ctxShut c s) d = 0 := by
  by_cases hcd : d = c
  · exact hcd ▸ ctxKind_ctxShut_same d s
  · rw [ctxKind_of_rd_eq ((ctxShut_frame c s).2 _ (not_shutReg_ctl hd hcd)), h]

theorem ctxKind_shutAll {c : Nat} (hc : c < 4096) (l : List Nat) (s : State) (h : c ∈ l ∨ ctxKind s c = 0) :
    ctxKind (l.foldl (fun s d => ctxShut d s) s) c = 0 := by
  induction l generalizing s with
  | nil => simpa using h
  | cons d l ih =>
    refine ih _ ?_
    rcases h with h | h
    · rcases List.mem_cons.mp h with rfl | h
      · exact .inr (ctxKind_ctxShut_same c s)
      · exact .inl h
    · exact .inr (ctxKind_ctxShut_of_closed d hc h)

/-- A key that does not read as unlisted is listed. -/
theorem mem_keys_of_smGet_ne {α : Type} (d : Nat → α) {m : SMap α} {k : Nat} (h : smGet d m k ≠ d k) : k ∈ m.map (·.1) := by
  induction m with
  | nil => exact absurd rfl h
  | cons p m ih =>
    obtain ⟨j, v⟩ := p
    by_cases hj : j = k
    · exact hj ▸ List.mem_cons_self
    · rw [smGet, if_neg hj] at h
      exact List.mem_cons_of_mem _ (ih h)

theorem blockRows_xfe {off : Nat} (hlo : 0x800000 ≤ off) (hhi : off < 0xC00000) : blockRows off = rowsXFE := by
  unfold blockRows
  iterate 16 rw [if_neg (by omega)]
  rw [if_pos hhi]

/-- After reset every context is closed (23 Table 23.1). -/
theorem regReset_ctl {c : Nat} (hc : c < 4096) : regReset (R.XFE_CTL c) = 0x40000 := by
  have hrow : regRow (R.XFE_CTL c) = some ⟨0x800000, [(4096, 0x40)], .rw, 0x40000, 0xFF0F07FF, [(19, 16, 4, 15)], .none⟩ := by
    simp only [R.XFE_CTL]
    rw [regRow, blockRows_xfe (by omega) (by omega), rowsXFE, List.find?_cons_of_pos]
    simp only [RegRow.hit, dimsHit, Bool.and_eq_true, decide_eq_true_eq, beq_iff_eq]
    omega
  have hpolicy : ¬ (0x2802000 ≤ R.XFE_CTL c ∧ R.XFE_CTL c < 0x2803800) := by
    simp only [R.XFE_CTL]
    omega
  rw [regReset, if_neg hpolicy, hrow]
  rfl

/-- An open context is found among the listed registers. -/
theorem mem_openCtxs {s : State} {c : Nat} (hc : c < 4096) (h : ctxKind s c ≠ 0) : c ∈ openCtxs s := by
  have hlisted : R.XFE_CTL c ∈ s.regs.map (·.1) := mem_keys_of_smGet_ne regReset fun he => h (by
    rw [ctxKind, State.fd, State.rd, he, regReset_ctl hc]
    rfl)
  obtain ⟨e, he, hk⟩ := List.mem_map.mp hlisted
  simp only [R.XFE_CTL] at hk
  have hctl : (decide (0x800000 ≤ e.1) && decide (e.1 < 0x840000) && e.1 % 0x40 == 0) = true := by
    simp only [hk, Bool.and_eq_true, decide_eq_true_eq, beq_iff_eq]
    omega
  have hctx : (e.1 - 0x800000) / 0x40 = c := by omega
  exact List.mem_filter.mpr ⟨List.mem_map.mpr ⟨e, List.mem_filter.mpr ⟨he, hctl⟩, hctx⟩, by simpa using h⟩

theorem lt_of_mem_openCtxs {s : State} {c : Nat} (h : c ∈ openCtxs s) : c < 4096 := by
  obtain ⟨e, he, rfl⟩ := List.mem_map.mp (List.mem_filter.mp h).1
  have hrange := (List.mem_filter.mp he).2
  simp only [Bool.and_eq_true, decide_eq_true_eq, beq_iff_eq] at hrange
  omega

theorem lt_of_mem_hostRings {s : State} {c : Nat} (h : c ∈ hostRings s) : c < 4096 := lt_of_mem_openCtxs (List.mem_filter.mp h).1

theorem mem_hostRings {s : State} {c : Nat} (hc : c < 4096) (h : hostRing s c = true) : c ∈ hostRings s := by
  have hkind : ctxKind s c = 1 := by
    rw [hostRing, Bool.and_eq_true, beq_iff_eq, beq_iff_eq] at h
    exact h.1
  exact List.mem_filter.mpr ⟨mem_openCtxs hc (by omega), h⟩

/-- Every host-fed ring is closed (23 R610). -/
theorem ctxKind_xHostReset {s : State} {c : Nat} (hc : c < 4096) (h : hostRing s c = true) : ctxKind (xHostReset s) c = 0 :=
  ctxKind_shutAll hc _ s (.inl (mem_hostRings hc h))

/-! PERST_N and FLR (03 R95, R96; 22 R574, R579–R584) -/

/-- Registers written after the host side is cleared: the end of a session, the fenced tags, the function's state. -/
def EndReg (o : Nat) : Prop := o ∈ [R.BOOT_MB_STATUS, R.EVT_DROP_CNT, R.PCIE_STATUS, R.PCIE_OUTSTANDING, R.CLK_STATUS]

/-- The registers that PERST_N or an FLR may write, but RST_BUSY and the counts. -/
def HostReg (o : Nat) : Prop := TicketReg o ∨ (0x800000 ≤ o ∧ o < 0xC00000) ∨ EndReg o ∨ o = R.PCIE_BAR2_BASE ∨ o = R.TIME_PTM_STATUS

/-- The blocks these registers lie in: PCIE and CLK, PWR to TIME, and XFE to EVT (27 Table 27.2). -/
theorem HostReg.blocks {o : Nat} (h : HostReg o) : (0x8000 ≤ o ∧ o < 0x20000) ∨ (0x30000 ≤ o ∧ o < 0x60000) ∨ 0x800000 ≤ o := by
  simp only [HostReg, TicketReg, EndReg, R.PWR_HN_PENDING, R.EVT_DROP_CNT, R.BOOT_MB_STATUS, R.PCIE_STATUS, R.PCIE_OUTSTANDING,
    R.CLK_STATUS, R.PCIE_BAR2_BASE, R.TIME_PTM_STATUS, List.mem_cons, List.not_mem_nil, or_false] at h
  omega

theorem EndReg.host {o : Nat} (h : EndReg o) : HostReg o := .inr (.inr (.inl h))

theorem ShutReg.host {c o : Nat} (hc : c < 4096) (h : ShutReg c o) : HostReg o := by
  by_cases ho : o = R.PCIE_STATUS
  · exact EndReg.host (by simp [EndReg, ho])
  · refine .inr (.inl ?_)
    simp only [ShutReg, HeldReg, R.XFE_HELD, R.PCIE_STATUS, R.XFE_STATUS, R.XFE_CTL, R.XFE_STATE] at h ho
    omega

theorem xHostReset_frame (s : State) : HostFrame HostReg s (xHostReset s) :=
  HostFrame.foldl (fun t c hc => (ctxShut_frame c t).mono fun _ => ShutReg.host (lt_of_mem_hostRings hc)) s

theorem hostSide_frame (s : State) : HostFrame HostReg s (hostSide s) :=
  (xHostReset_frame s).trans ((stopHostRings_frame _).mono fun _ => .inl)

/-- The registers of the function that a host-side reset writes itself. -/
def CfgReg (o : Nat) : Prop := o = R.PCIE_STATUS ∨ o = R.PCIE_BAR2_BASE ∨ o = R.TIME_PTM_STATUS

theorem CfgReg.host {o : Nat} (h : CfgReg o) : HostReg o := by
  rcases h with h | h | h
  · exact EndReg.host (by simp [EndReg, h])
  · exact .inr (.inr (.inr (.inl h)))
  · exact .inr (.inr (.inr (.inr h)))

theorem cfgReset_frame (s : State) : HostFrame CfgReg s (cfgReset s) := by
  have hpcie : HostFrame CfgReg s (s.uPcie fun p => { p with
      cfg := p.cfg.filter (fun e => isAer e.1), ptmEn := false, msix := [], pend := [] }) := .of_eq rfl rfl
  exact (((hpcie.fw (.inl rfl) _ _ _).fw (.inl rfl) _ _ _).fw (.inl rfl) _ _ _).wr (.inr (.inl rfl)) _

theorem pathClear_regs (c : Nat) (s : State) : (pathClear c s).regs = s.regs := rfl

theorem pathClear_frame (c : Nat) (s : State) : HostFrame CfgReg s (pathClear c s) := .of_eq rfl rfl

theorem hostReset_eq (s : State) : hostReset s =
    (((pathClear 0 (cfgReset (hostSide s))).fw R.TIME_PTM_STATUS 1 1 1).fw R.TIME_PTM_STATUS 2 2 0).uPcie
      fun p => { p with wait := [], held := [] } := rfl

/-- After the rings, a host-side reset clears configuration space and the host's path. -/
theorem hostReset_after_rings (s : State) : HostFrame CfgReg (hostSide s) (hostReset s) := by
  have hclear := (cfgReset_frame (hostSide s)).trans (pathClear_frame 0 _)
  rw [hostReset_eq]
  exact ((hclear.fw (.inr (.inr rfl)) _ _ _).fw (.inr (.inr rfl)) _ _ _).uPcie _

theorem hostReset_frame (s : State) : HostFrame HostReg s (hostReset s) :=
  (hostSide_frame s).trans ((hostReset_after_rings s).mono fun _ => CfgReg.host)

/-! What a host-side reset clears -/

/-- A host-fed ring stays closed while ticket rings stop and the function is cleared. -/
theorem ctxKind_hostReset {s : State} {c : Nat} (hc : c < 4096) (h : hostRing s c = true) : ctxKind (hostReset s) c = 0 := by
  have hcfg : ¬ CfgReg (R.XFE_CTL c) := by
    simp only [CfgReg, R.PCIE_STATUS, R.PCIE_BAR2_BASE, R.TIME_PTM_STATUS, R.XFE_CTL]
    omega
  have htkt : ¬ TicketReg (R.XFE_CTL c) := by
    simp only [TicketReg, R.PWR_HN_PENDING, R.EVT_DROP_CNT, R.XFE_CTL]
    omega
  rw [ctxKind_of_rd_eq ((hostReset_after_rings s).2 _ hcfg), hostSide, ctxKind_of_rd_eq ((stopHostRings_frame _).2 _ htkt),
    ctxKind_xHostReset hc h]

theorem rd_bar2_hostReset (s : State) : (hostReset s).rd R.PCIE_BAR2_BASE = 0 := by
  have hcfg : (cfgReset (hostSide s)).rd R.PCIE_BAR2_BASE = 0 := (rd_wr _ _ _).trans (if_pos rfl)
  rw [hostReset_eq, rd_of_regs_eq (uPcie_regs _ _), rd_fw_ne _ _ _ _ (by decide), rd_fw_ne _ _ _ _ (by decide),
    rd_of_regs_eq (pathClear_regs _ _), hcfg]

/-- The host's path holds no write after a host-side reset. -/
theorem heldLo_hostReset (s : State) (lo : Nat) : heldLo (hostReset s) .pcie lo = none := by
  have hheld : (hostReset s).acc.held = (cfgReset (hostSide s)).acc.held.filter fun h => h.1 != Path.pcie.code := rfl
  rw [heldLo, hheld, Option.map_eq_none_iff, List.find?_eq_none]
  intro h hmem hfound
  have hkept := (List.mem_filter.mp hmem).2
  simp only [Bool.and_eq_true, beq_iff_eq, bne_iff_ne] at hfound hkept
  exact hkept hfound.1

theorem hostReset_cleared (s : State) : HostCleared s (hostReset s) :=
  ⟨rd_bar2_hostReset s, rfl, rfl, (smGet_smErase _ _ 0 0).trans (if_pos rfl), heldLo_hostReset s, fun _ => ctxKind_hostReset⟩

/-- What follows the clearing of the host's side keeps it cleared, where it writes neither BAR2 nor a context's control register. -/
theorem hostCleared_of_frame {W : Nat → Prop} {s t u : State} (hbar : ¬ W R.PCIE_BAR2_BASE) (hctl : ∀ c, c < 4096 → ¬ W (R.XFE_CTL c))
    (h : HostCleared s t) (hf : HostFrame W t u) (ha : u.acc = t.acc) (hm : u.pcie.msix = t.pcie.msix)
    (hp : u.pcie.pend = t.pcie.pend) : HostCleared s u := by
  obtain ⟨hbase, hmsix, hpend, hlatch, hheld, hkind⟩ := h
  refine ⟨(hf.2 _ hbar).trans hbase, hm.trans hmsix, hp.trans hpend, ?_, fun lo => ?_, fun c hc h => ?_⟩
  · rw [latchOf, ha]
    exact hlatch
  · rw [heldLo, ha]
    exact hheld lo
  · rw [ctxKind_of_rd_eq (hf.2 _ (hctl c hc)), hkind c hc h]

theorem not_endReg_ctl (c : Nat) (hc : c < 4096) : ¬ EndReg (R.XFE_CTL c) := by
  simp only [EndReg, R.BOOT_MB_STATUS, R.EVT_DROP_CNT, R.PCIE_STATUS, R.PCIE_OUTSTANDING, R.CLK_STATUS, R.XFE_CTL, List.mem_cons,
    List.not_mem_nil, or_false]
  omega

/-- Only the control registers of the contexts say which rings are host-fed. -/
theorem hostCleared_of_ctl {s s' t : State} (h : HostCleared s' t) (hr : ∀ c, s'.rd (R.XFE_CTL c) = s.rd (R.XFE_CTL c)) :
    HostCleared s t := by
  obtain ⟨hbar, hmsix, hpend, hlatch, hheld, hkind⟩ := h
  exact ⟨hbar, hmsix, hpend, hlatch, hheld, fun c hc hring => hkind c hc (hostRing_of_rd_eq (hr c) ▸ hring)⟩

/-- The registers in which the two resets are shown and counted. -/
def NoteReg (o : Nat) : Prop := o = R.PCIE_STATUS ∨ (0x20000 ≤ o ∧ o < 0x30000)

theorem not_noteReg_ctl (c : Nat) : ¬ NoteReg (R.XFE_CTL c) := by
  simp only [NoteReg, R.PCIE_STATUS, R.XFE_CTL]
  omega

/-- The registers of a reset of the host's side are none of the router's, and not GLB_STATE (03 R95). -/
theorem fabricKept_of_frame {s t : State} (h : HostFrame (fun o => HostReg o ∨ NoteReg o) s t) : FabricKept s t := by
  obtain ⟨hf, hr⟩ := h
  simp only [fabricSide, Prod.mk.injEq] at hf
  obtain ⟨hhbm, hvel, hflash, hct, hlnk, hplates, hscr, -⟩ := hf
  have hclear : ∀ o, o < 0x8000 ∨ (0x600000 ≤ o ∧ o < 0x700000) → ¬ (HostReg o ∨ NoteReg o) := by
    rintro o ho (h | h)
    · have := h.blocks
      omega
    · simp only [NoteReg, R.PCIE_STATUS] at h
      omega
  exact ⟨hhbm, hvel, hflash, hct, hlnk, hplates, hscr, hr _ (hclear _ (.inl (by decide))), fun o hlo hhi => hr o (hclear o (.inr ⟨hlo, hhi⟩))⟩

/-! After the host's side is cleared: the session of its update ends (06 R184), the function is held or its tags are fenced -/

/-- A step from t to u that ends a reset of the host's side: it leaves what was cleared as it is. -/
def Ends (t u : State) : Prop :=
  HostFrame EndReg t u ∧ u.acc = t.acc ∧ u.pcie.msix = t.pcie.msix ∧ u.pcie.pend = t.pcie.pend

theorem Ends.refl (s : State) : Ends s s := ⟨.refl s, rfl, rfl, rfl⟩

theorem Ends.trans {s t u : State} (h : Ends s t) (g : Ends t u) : Ends s u := by
  obtain ⟨hf, ha, hm, hp⟩ := h
  obtain ⟨gf, ga, gm, gp⟩ := g
  exact ⟨hf.trans gf, ga.trans ha, gm.trans hm, gp.trans hp⟩

theorem Ends.fw {s t : State} (h : Ends s t) {off : Nat} (ho : EndReg off) (hi lo v : Nat) : Ends s (t.fw off hi lo v) :=
  h.trans ⟨(HostFrame.refl t).fw ho _ _ _, rfl, rfl, rfl⟩

theorem Ends.uPcie {s t : State} (h : Ends s t) {g : PcieSt → PcieSt} (hm : ∀ p, (g p).msix = p.msix) (hp : ∀ p, (g p).pend = p.pend) :
    Ends s (t.uPcie g) :=
  h.trans ⟨(HostFrame.refl t).uPcie g, rfl, hm _, hp _⟩

theorem endReg_mailbox : EndReg R.BOOT_MB_STATUS := List.mem_cons_self

theorem endReg_pcieStatus : EndReg R.PCIE_STATUS := by unfold EndReg; decide

theorem endReg_clkStatus : EndReg R.CLK_STATUS := by unfold EndReg; decide

theorem endReg_outstanding : EndReg R.PCIE_OUTSTANDING := by unfold EndReg; decide

theorem ev_ends (s : State) (code src : Nat) (args : List Nat) : Ends s (s.ev code src args) := by
  refine ⟨(HostFrame.refl s).ev (by unfold EndReg; decide) _ _ _, ?_⟩
  unfold State.ev
  split_ifs <;> exact ⟨rfl, rfl, rfl⟩

theorem sessionClose_ends (s : State) : Ends s (sessionClose s) :=
  Ends.fw (t := s.uBoot fun b => { b with session := none }) ⟨.of_eq rfl rfl, rfl, rfl, rfl⟩ endReg_mailbox _ _ _

theorem mbEnd_ends (p op result : Nat) (s : State) : Ends s (mbEnd p op result s) :=
  ((((Ends.refl s).fw endReg_mailbox _ _ _).fw endReg_mailbox _ _ _).fw endReg_mailbox _ _ _).trans (ev_ends _ _ _ _)

theorem sessionEnd_ends (who : Nat → Bool) (s : State) : Ends s (sessionEnd who s) := by
  unfold sessionEnd
  cases s.boot.session with
  | none => exact .refl s
  | some x =>
    dsimp only
    split_ifs
    · exact .refl s
    · exact ((sessionClose_ends s).trans (mbEnd_ends _ _ _ _)).fw endReg_mailbox _ _ _

theorem dropReads_ends (s : State) : Ends s (dropReads s) := (Ends.refl s).uPcie (fun _ => rfl) (fun _ => rfl)

theorem functionReset_eq (s : State) : functionReset s =
    (((dropReads (hostReset s)).fw R.PCIE_STATUS 31 31 0).fw R.PCIE_STATUS 3 3 0).fw R.CLK_STATUS 16 16 0 := rfl

theorem functionReset_ends (s : State) : Ends (hostReset s) (functionReset s) := by
  rw [functionReset_eq]
  exact (((dropReads_ends _).fw endReg_pcieStatus _ _ _).fw endReg_pcieStatus _ _ _).fw endReg_clkStatus _ _ _

theorem npCount_ends (s : State) : Ends s (npCount s) :=
  ((Ends.refl s).fw endReg_outstanding _ _ _).fw endReg_outstanding _ _ _

theorem fenceSync_ends (s : State) : Ends s (fenceSync s) := by
  unfold fenceSync
  extract_lets t
  have ht : Ends s t := ((Ends.refl s).fw endReg_pcieStatus _ _ _).trans (npCount_ends _)
  split_ifs
  · exact ht
  · exact (ht.fw endReg_pcieStatus _ _ _).uPcie (fun _ => rfl) (fun _ => rfl)

theorem fenceAll_ends (s : State) : Ends s (fenceAll s) := by
  unfold fenceAll
  extract_lets h other t
  have ht : Ends s t := (Ends.refl s).uPcie (fun _ => rfl) (fun _ => rfl)
  refine Ends.trans ?_ (fenceSync_ends _)
  split_ifs
  · exact ht
  · exact ht.fw endReg_pcieStatus _ _ _

/-- A reset that clears the host's side and ends: what is cleared, and what is kept. -/
theorem hostReset_ended {s t : State} (h : Ends (hostReset s) t) : HostCleared s t ∧ HostFrame HostReg s t := by
  obtain ⟨hf, ha, hm, hp⟩ := h
  exact ⟨hostCleared_of_frame (by unfold EndReg; decide) not_endReg_ctl (hostReset_cleared s) hf ha hm hp,
    (hostReset_frame s).trans (hf.mono fun _ => EndReg.host)⟩

/-! The outstanding tags after an FLR -/

theorem ev_pcie (s : State) (code src : Nat) (args : List Nat) : (s.ev code src args).pcie = s.pcie := by
  unfold State.ev
  split_ifs <;> rfl

theorem fw_pcie (s : State) (off hi lo v : Nat) : (s.fw off hi lo v).pcie = s.pcie := rfl

theorem mbEnd_pcie (p op result : Nat) (s : State) : (mbEnd p op result s).pcie = s.pcie := by
  rw [mbEnd, ev_pcie, fw_pcie, fw_pcie, fw_pcie]

theorem sessionEnd_pcie (who : Nat → Bool) (s : State) : (sessionEnd who s).pcie = s.pcie := by
  unfold sessionEnd
  cases s.boot.session with
  | none => rfl
  | some x =>
    dsimp only
    split_ifs
    · rfl
    · rw [fw_pcie, mbEnd_pcie, sessionClose, fw_pcie, uBoot_pcie]

theorem fenceSync_np (s : State) : (fenceSync s).pcie.np = s.pcie.np := by
  unfold fenceSync
  extract_lets t
  split_ifs <;> rfl

/-- An FLR leaves no outstanding tag: all are fenced (22 R581). -/
theorem fenceAll_np (s : State) : (fenceAll s).pcie.np = [] := by
  unfold fenceAll
  extract_lets h other t
  rw [fenceSync_np]
  split_ifs <;> rfl

/-! The statements of the two resets -/

/-- PERST_N counted and shown in RST_BUSY, before the host's side is cleared. -/
def perstNoted (s : State) : State :=
  ((s.uPins fun p => { p with perstHigh := false }).fw R.RST_BUSY 3 2 2).sat R.RST_PERST_CNT 31 0 1

theorem exec_perstNAssert {s : State} (h : s.pins.perstHigh = true) :
    exec .perstNAssert s = .next (sessionEnd (· == 0) (functionReset (perstNoted s))) := by
  show execPerstNAssert s = _
  rw [execPerstNAssert, if_neg (by simp [h])]
  rfl

/-- An FLR shown and counted, after the host's side is cleared and its tags are fenced. -/
def flrNoted (s : State) : State := ((s.fw R.PCIE_STATUS 3 3 1).fw R.RST_BUSY 2 2 1).sat R.RST_FLR_CNT 31 0 1

theorem exec_functionLevelReset {s : State} (hp : s.pins.perstHigh = true) (hb : s.bit R.PCIE_STATUS 3 = false)
    (hf : functionPowered s = true) :
    exec .functionLevelReset s = .next (flrNoted (sessionEnd (· == 0) (fenceAll (hostReset s)))) := by
  show execFunctionLevelReset s = _
  rw [execFunctionLevelReset, flrStart, if_neg (by simp [hp, hb, hf])]
  rfl

theorem exec_flrComplete {s : State} (h : s.bit R.PCIE_STATUS 3 = true) :
    exec .flrComplete s = .next (((s.fw R.PCIE_STATUS 3 3 0).fw R.RST_BUSY 2 2 0).sat R.PCIE_FLR_CNT 31 0 1) := by
  show execFlrComplete s = _
  rw [execFlrComplete, if_pos h]
  rfl

/-- PERST_N released, before the function comes out of reset. -/
def perstReleased (s : State) : State := (s.uPins fun p => { p with perstHigh := true }).fw R.RST_BUSY 3 3 0

theorem functionPowered_perstReleased (s : State) : functionPowered (perstReleased s) = functionPowered s := by
  have hdom : (perstReleased s).dom 0xA2 = s.dom 0xA2 := by
    rw [State.dom, State.dom, State.fd, State.fd, perstReleased, rd_fw_ne _ _ _ _ (by decide), rd_of_regs_eq (uPins_regs _ _)]
  have hrst : (perstReleased s).rst = s.rst := rfl
  rw [functionPowered, functionPowered, State.domUp, State.domUp, hdom, hrst]

theorem functionStart_eq (s : State) :
    functionStart s = ((drive [.pcieTx] s).fw R.CLK_STATUS 16 16 1).uBoot fun b => { b with rrs := true } := rfl

theorem functionStart_hbm (s : State) : (functionStart s).hbm = s.hbm := by rw [functionStart_eq, uBoot_hbm, fw_hbm, drive, uPins_hbm]

theorem functionStart_vel (s : State) : (functionStart s).vel = s.vel := by rw [functionStart_eq, uBoot_vel, fw_vel, drive, uPins_vel]

theorem functionStart_flash (s : State) : (functionStart s).flash = s.flash := by
  rw [functionStart_eq, uBoot_flash, fw_flash, drive, uPins_flash]

theorem rd_functionStart_ne (s : State) {o : Nat} (h : o ≠ R.CLK_STATUS) : (functionStart s).rd o = s.rd o := by
  rw [functionStart_eq, rd_of_regs_eq (uBoot_regs _ _), rd_fw_ne _ _ _ _ h, drive, rd_of_regs_eq (uPins_regs _ _)]

/-- The function's PLL is locked when it comes out of reset (22 R573). -/
theorem bit_functionStart (s : State) : (functionStart s).bit R.CLK_STATUS 16 = true := by
  rw [functionStart_eq, bit_of_rd_eq (rd_of_regs_eq (uBoot_regs _ _) _), bit_fw (by decide) (by decide) (by decide)]
  rfl

theorem exec_perstNRelease {s : State} (h : s.pins.perstHigh = false) (hf : functionPowered s = true) :
    exec .perstNRelease s = .next (functionStart (perstReleased s)) := by
  show execPerstNRelease s = _
  rw [execPerstNRelease, if_neg (by simp [h])]
  show done (if functionPowered (perstReleased s) then functionStart (perstReleased s) else perstReleased s) = _
  rw [if_pos (functionPowered_perstReleased s ▸ hf)]
  rfl

/-- A register of the RST block stays as it is noted while the host's side is cleared. -/
theorem rd_rst_of_frame {s t : State} (h : HostFrame HostReg s t) {o : Nat} (hlo : 0x20000 ≤ o) (hhi : o < 0x30000) : t.rd o = s.rd o :=
  h.2 o fun hreg => by
    have := hreg.blocks
    omega

theorem noteReg_rst {o : Nat} (hlo : 0x20000 ≤ o) (hhi : o < 0x30000) : NoteReg o := .inr ⟨hlo, hhi⟩

theorem perstNoted_frame (s : State) : HostFrame NoteReg (s.uPins fun p => { p with perstHigh := false }) (perstNoted s) :=
  ((HostFrame.refl _).fw (noteReg_rst (by decide) (by decide)) _ _ _).fw (noteReg_rst (by decide) (by decide)) _ _ _

theorem flrNoted_frame (s : State) : HostFrame NoteReg s (flrNoted s) :=
  (((HostFrame.refl s).fw (.inl rfl) _ _ _).fw (noteReg_rst (by decide) (by decide)) _ _ _).fw
    (noteReg_rst (by decide) (by decide)) _ _ _

theorem perstNAssert_runs {s : State} (h : s.pins.perstHigh = true) : Runs .perstNAssert s fun t =>
    t.pins.perstHigh = false ∧ t.bit R.RST_BUSY 3 = true ∧ t.rd R.RST_PERST_CNT = min 0xFFFFFFFF (s.rd R.RST_PERST_CNT + 1)
      ∧ HostCleared s t ∧ FabricKept s t := by
  obtain ⟨hcleared, hframe⟩ := hostReset_ended ((functionReset_ends (perstNoted s)).trans (sessionEnd_ends (· == 0) _))
  refine ⟨_, exec_perstNAssert h, ?_, ?_, ?_, hostCleared_of_ctl hcleared fun c => ?_, ?_⟩
  · rw [hframe.pins]
    rfl
  · rw [bit_of_rd_eq (rd_rst_of_frame hframe (by decide) (by decide)), perstNoted, bit_sat_ne (by decide),
      bit_fw (by decide) (by decide) (by decide)]
    rfl
  · rw [rd_rst_of_frame hframe (by decide) (by decide), perstNoted, rd_sat_count, rd_fw_ne _ _ _ _ (by decide),
      rd_of_regs_eq (uPins_regs _ _)]
  · exact ((perstNoted_frame s).2 _ (not_noteReg_ctl c)).trans (rd_of_regs_eq (uPins_regs s _) _)
  · have hkept : FabricKept (s.uPins fun p => { p with perstHigh := false }) _ :=
      fabricKept_of_frame (((perstNoted_frame s).mono fun _ => .inr).trans (hframe.mono fun _ => .inl))
    exact hkept

theorem perstNRelease_runs {s : State} (h : s.pins.perstHigh = false) (hf : functionPowered s = true) : Runs .perstNRelease s fun t =>
    t.pins.perstHigh = true ∧ t.boot.rrs = true ∧ t.bit R.RST_BUSY 3 = false ∧ t.bit R.CLK_STATUS 16 = true
      ∧ RegsKept [R.RST_BUSY, R.CLK_STATUS] s t ∧ SameMem s t := by
  have hbusy : (functionStart (perstReleased s)).rd R.RST_BUSY = (perstReleased s).rd R.RST_BUSY :=
    rd_functionStart_ne _ (by decide)
  refine ⟨_, exec_perstNRelease h hf, rfl, rfl, ?_, bit_functionStart _, ?_, ?_⟩
  · rw [bit_of_rd_eq hbusy, perstReleased, bit_fw (by decide) (by decide) (by decide)]
    rfl
  · intro o ho
    simp only [List.mem_cons, List.not_mem_nil, or_false, not_or] at ho
    rw [rd_functionStart_ne _ ho.2, perstReleased, rd_fw_ne _ _ _ _ ho.1, rd_of_regs_eq (uPins_regs _ _)]
  · exact .of_eq (functionStart_hbm _) (functionStart_vel _) (functionStart_flash _)

theorem functionLevelReset_runs {s : State} (hp : s.pins.perstHigh = true) (hb : s.bit R.PCIE_STATUS 3 = false)
    (hf : functionPowered s = true) : Runs .functionLevelReset s fun t => t.bit R.PCIE_STATUS 3 = true ∧ t.bit R.RST_BUSY 2 = true
      ∧ t.pcie.np = [] ∧ t.rd R.RST_FLR_CNT = min 0xFFFFFFFF (s.rd R.RST_FLR_CNT + 1) ∧ HostCleared s t ∧ FabricKept s t := by
  obtain ⟨hcleared, hframe⟩ := hostReset_ended ((fenceAll_ends (hostReset s)).trans (sessionEnd_ends (· == 0) _))
  have hnp : (sessionEnd (· == 0) (fenceAll (hostReset s))).pcie.np = [] := by rw [sessionEnd_pcie, fenceAll_np]
  refine ⟨_, exec_functionLevelReset hp hb hf, ?_⟩
  generalize sessionEnd (· == 0) (fenceAll (hostReset s)) = x at *
  refine ⟨?_, ?_, hnp, ?_, hostCleared_of_frame (by unfold NoteReg; decide) (fun c _ => not_noteReg_ctl c) hcleared
    (flrNoted_frame x) rfl rfl rfl, fabricKept_of_frame ((hframe.mono fun _ => .inl).trans ((flrNoted_frame x).mono fun _ => .inr))⟩
  · rw [flrNoted, bit_sat_ne (by decide), bit_fw_ne (by decide), bit_fw (by decide) (by decide) (by decide)]
    rfl
  · rw [flrNoted, bit_sat_ne (by decide), bit_fw (by decide) (by decide) (by decide)]
    rfl
  · rw [flrNoted, rd_sat_count, rd_fw_ne _ _ _ _ (by decide), rd_fw_ne _ _ _ _ (by decide),
      rd_rst_of_frame hframe (by decide) (by decide)]

theorem flrComplete_runs {s : State} (h : s.bit R.PCIE_STATUS 3 = true) : Runs .flrComplete s fun t =>
    t.bit R.PCIE_STATUS 3 = false ∧ t.bit R.RST_BUSY 2 = false ∧ t.rd R.PCIE_FLR_CNT = min 0xFFFFFFFF (s.rd R.PCIE_FLR_CNT + 1)
      ∧ RegsKept [R.PCIE_STATUS, R.RST_BUSY, R.PCIE_FLR_CNT] s t ∧ SameMem s t := by
  refine ⟨_, exec_flrComplete h, ?_, ?_, ?_, ?_, .of_eq rfl rfl rfl⟩
  · rw [bit_sat_ne (by decide), bit_fw_ne (by decide), bit_fw (by decide) (by decide) (by decide)]
    rfl
  · rw [bit_sat_ne (by decide), bit_fw (by decide) (by decide) (by decide)]
    rfl
  · rw [rd_sat_count, rd_fw_ne _ _ _ _ (by decide), rd_fw_ne _ _ _ _ (by decide)]
  · have hself : RegsKept [R.PCIE_STATUS, R.RST_BUSY, R.PCIE_FLR_CNT] s s := .of_regs_eq _ rfl
    exact ((hself.fw (by decide) _ _ _).fw (by decide) _ _ _).sat (by decide) _ _ _

/-- Settles O14: a reset of the host's side closes the listed host-fed rings, clears the host's path, and writes no register and no
state of the fabric's side; its release and its end are single field writes. -/
theorem hostResetsKeepTheFabricSide : Obligations.HostResetsKeepTheFabricSide :=
  ⟨fun _ => perstNAssert_runs, fun _ => perstNRelease_runs, fun _ => functionLevelReset_runs, fun _ => flrComplete_runs⟩

end Sys2Proof.Machine
end

section
/-! The sideband (02 R59–R65; 15 R415): a segment's port and its line, and what becomes of a message. -/

namespace Sys2Proof

open Machine

theorem SameMem.trans {s t u : State} (h : SameMem s t) (g : SameMem t u) : SameMem s u := by
  obtain ⟨hh, hv, hf⟩ := h
  obtain ⟨gh, gv, gf⟩ := g
  exact ⟨fun a => (gh a).trans (hh a), fun a => (gv a).trans (hv a), fun a => (gf a).trans (hf a)⟩

end Sys2Proof

namespace Sys2Proof.Machine

/-! A direction's port -/

@[simp] theorem sb_setSb_same (s : State) (d : Dir) (p : SbPort) : (s.setSb d p).sb d = p := by cases d <;> rfl

@[simp] theorem sb_setSb_flip (s : State) (d : Dir) (p : SbPort) : (s.setSb d p).sb (dirFlip d) = s.sb (dirFlip d) := by
  cases d <;> rfl

@[simp] theorem setSb_out (s : State) (d : Dir) (p : SbPort) : (s.setSb d p).out = s.out := by cases d <;> rfl

@[simp] theorem setSb_regs (s : State) (d : Dir) (p : SbPort) : (s.setSb d p).regs = s.regs := by cases d <;> rfl

theorem setSb_evt (s : State) (d : Dir) (p : SbPort) : (s.setSb d p).evt = s.evt := by cases d <;> rfl

theorem setSb_sameMem (s : State) (d : Dir) (p : SbPort) : SameMem s (s.setSb d p) := by cases d <;> exact .of_eq rfl rfl rfl

@[simp] theorem sb_emit (s : State) (o : Out) (d : Dir) : (s.emit o).sb d = s.sb d := by cases d <;> rfl

theorem sb_ev (s : State) (code src : Nat) (args : List Nat) (d : Dir) : (s.ev code src args).sb d = s.sb d := by
  unfold State.ev
  split_ifs <;> cases d <;> rfl

theorem dirFlip_ne (d : Dir) : dirFlip d ≠ d := by cases d <;> decide

/-- Setting a port sends at most a new filler block (02 R61, R62). -/
theorem sbSet_cases (d : Dir) (p : SbPort) (s : State) : sbSet d p s = s.setSb d p ∨ ∃ o, sbSet d p s = (s.setSb d p).emit o := by
  unfold sbSet
  extract_lets t
  split_ifs
  · exact .inl rfl
  · exact .inr ⟨_, rfl⟩

section
variable (d : Dir) (p : SbPort) (s : State)

theorem sb_sbSet_same : (sbSet d p s).sb d = p := by
  rcases sbSet_cases d p s with h | ⟨o, h⟩ <;> simp [h]

theorem sb_sbSet_flip : (sbSet d p s).sb (dirFlip d) = s.sb (dirFlip d) := by
  rcases sbSet_cases d p s with h | ⟨o, h⟩ <;> simp [h]

theorem sbSet_regs : (sbSet d p s).regs = s.regs := by
  rcases sbSet_cases d p s with h | ⟨o, h⟩ <;> simp [h]

theorem sbSet_evt : (sbSet d p s).evt = s.evt := by
  rcases sbSet_cases d p s with h | ⟨o, h⟩ <;> simp [h, setSb_evt]

theorem sbSet_sameMem : SameMem s (sbSet d p s) := by
  rcases sbSet_cases d p s with h | ⟨o, h⟩ <;> rw [h] <;> exact setSb_sameMem s d p

end

/-! Block lock (02 R61, R62) -/

/-- The 64th valid header in a row brings block lock. -/
theorem sbHeader_locks {p : SbPort} (hl : p.lock = false) (hr : p.run = 63) :
    sbHeader p true = { p with hdrs := [], run := 64, lock := true } := by
  simp [sbHeader, satN, hl, hr]

/-- The 16th invalid header among 64 takes the segment down. -/
theorem sbHeader_drops {p : SbPort} (hl : p.lock = true) (hc : 16 ≤ ((false :: p.hdrs).take 64).count false) :
    sbHeader p false = { sbDown p with hdrs := [] } := by
  have hbad : 16 ≤ (((false :: p.hdrs).take 64).filter (· == false)).length := by
    rwa [List.count, List.countP_eq_length_filter] at hc
  simp only [sbHeader, hl, if_true, if_pos hbad]
  rfl

/-- The port with the block's bits in its descrambler. -/
def sbShift (p : SbPort) (b : SbBlk) : SbPort := { p with scr := (scramble false 64 p.scr b.bits.toNat).2 }

theorem exec_sbBlockLock {s : State} (hup : s.domUp 0xA7 = true) (d : Dir) (b : SbBlk) :
    exec (.sbBlockLock d b) s = .next (sbSet d (sbHeader (sbShift (s.sb d) b) (sbValid (s.sb d).scr b)) s) := by
  show execSbBlockLock d b s = _
  rw [execSbBlockLock, if_neg (by simp [hup])]
  rfl

theorem sbBlockLock_gains {s : State} {d : Dir} {b : SbBlk} (hup : s.domUp 0xA7 = true) (hl : (s.sb d).lock = false)
    (hr : (s.sb d).run = 63) (hv : sbValid (s.sb d).scr b = true) : Runs (.sbBlockLock d b) s fun t =>
    (t.sb d).lock = true ∧ (t.sb d).up = (s.sb d).up ∧ t.sb (dirFlip d) = s.sb (dirFlip d) ∧ t.regs = s.regs ∧ SameMem s t := by
  have hport : sbHeader (sbShift (s.sb d) b) true = _ := sbHeader_locks hl hr
  refine ⟨_, exec_sbBlockLock hup d b, ?_, ?_, sb_sbSet_flip d _ s, sbSet_regs d _ s, sbSet_sameMem d _ s⟩ <;>
    rw [sb_sbSet_same, hv, hport]
  rfl

theorem sbBlockLock_loses {s : State} {d : Dir} {b : SbBlk} (hup : s.domUp 0xA7 = true) (hl : (s.sb d).lock = true)
    (hv : sbValid (s.sb d).scr b = false) (hc : 16 ≤ ((false :: (s.sb d).hdrs).take 64).count false) :
    Runs (.sbBlockLock d b) s fun t => (t.sb d).lock = false ∧ (t.sb d).up = false ∧ (t.sb d).queue = (s.sb d).queue
      ∧ t.sb (dirFlip d) = s.sb (dirFlip d) ∧ t.regs = s.regs ∧ SameMem s t := by
  have hport : sbHeader (sbShift (s.sb d) b) false = _ := sbHeader_drops hl hc
  refine ⟨_, exec_sbBlockLock hup d b, ?_, ?_, ?_, sb_sbSet_flip d _ s, sbSet_regs d _ s, sbSet_sameMem d _ s⟩ <;>
    rw [sb_sbSet_same, hv, hport] <;> rfl

/-! Training (02 R60, R62) -/

theorem exec_sbTrainReceive_own {s : State} {d : Dir} (hup : s.domUp 0xA7 = true) (hl : (s.sb d).lock = true) (locked : Bool) :
    exec (.sbTrainReceive d d locked) s = .next
      ((sbSet d { s.sb d with up := false, trainRun := 0, sending := none } s).ev Ev.SB_MISWIRE (dirCode d) []) := by
  show execSbTrainReceive d d locked s = _
  rw [execSbTrainReceive, if_neg (by simp [hup, hl]), if_pos rfl]
  rfl

theorem exec_sbTrainReceive_peer {s : State} {d : Dir} (hup : s.domUp 0xA7 = true) (hl : (s.sb d).lock = true) :
    exec (.sbTrainReceive d (dirFlip d) true) s = .next (sbSet d { s.sb d with
      trainRun := satN 16 ((s.sb d).trainRun + 1), up := (s.sb d).up || satN 16 ((s.sb d).trainRun + 1) == 16 } s) := by
  show execSbTrainReceive d (dirFlip d) true s = _
  rw [execSbTrainReceive, if_neg (by simp [hup, hl]), if_neg (dirFlip_ne d)]
  rfl

theorem sbTrainReceive_peer_runs {s : State} {d : Dir} (hup : s.domUp 0xA7 = true) (hl : (s.sb d).lock = true)
    (hr : (s.sb d).trainRun = 15) : Runs (.sbTrainReceive d (dirFlip d) true) s fun t =>
    (t.sb d).up = true ∧ t.regs = s.regs ∧ SameMem s t := by
  refine ⟨_, exec_sbTrainReceive_peer hup hl, ?_, sbSet_regs d _ s, sbSet_sameMem d _ s⟩
  simp [sb_sbSet_same, hr, satN]

theorem sbTrainReceive_own_runs {s : State} {d : Dir} (l : Bool) (hup : s.domUp 0xA7 = true) (hl : (s.sb d).lock = true)
    (room : RoomFor s) : Runs (.sbTrainReceive d d l) s fun t =>
    (t.sb d).up = false ∧ Raised t Ev.SB_MISWIRE (dirCode d) ∧ t.regs = s.regs ∧ SameMem s t := by
  have hroom : RoomFor (sbSet d { s.sb d with up := false, trainRun := 0, sending := none } s) := by rwa [RoomFor, sbSet_evt]
  refine ⟨_, exec_sbTrainReceive_own hup hl l, ?_, ev_raised hroom .., ?_, (sbSet_sameMem d _ s).trans (ev_sameMem ..)⟩
  · rw [sb_ev, sb_sbSet_same]
  · rw [ev_regs hroom, sbSet_regs]

/-! Sending (02 R65) -/

theorem exec_sbMessageSend_down {s : State} {d : Dir} (hdown : (s.sb d).up = false) : exec (.sbMessageSend d) s = .next s := by
  show execSbMessageSend d s = _
  rw [execSbMessageSend, if_pos (by simp [hdown])]
  rfl

/-- The message that comes next leaves, and its port keeps the rest. -/
theorem exec_sbMessageSend_next {s : State} {d : Dir} {m : SbMsg} {q : SbPort} (hup : s.domUp 0xA7 = true) (hd : (s.sb d).up = true)
    (hnext : sbNext (s.sb d) = some (m, q)) :
    exec (.sbMessageSend d) s = .next ((s.setSb d { q with sending := some m }).emit (.sb d m)) := by
  show execSbMessageSend d s = _
  simp only [execSbMessageSend, if_neg (show ¬ ((!s.domUp 0xA7) = true ∨ (!(s.sb d).up) = true) by simp [hup, hd]), hnext]
  rfl

theorem sbMessageSend_runs {s : State} {d : Dir} {m : SbMsg} {q : SbPort} (hup : s.domUp 0xA7 = true) (hd : (s.sb d).up = true)
    (hnext : sbNext (s.sb d) = some (m, q)) : Runs (.sbMessageSend d) s fun t =>
    t.out = s.out ++ [.sb d m] ∧ t.sb d = { q with sending := some m } ∧ t.regs = s.regs ∧ SameMem s t :=
  ⟨_, exec_sbMessageSend_next hup hd hnext, by simp, by simp, by simp, setSb_sameMem s d _⟩

theorem sbNext_of_queue {p : SbPort} {m : SbMsg} {q : List SbMsg} (hq : p.queue = m :: q) (ha : p.again = []) :
    sbNext p = some (m, { p with queue := q }) := by simp [sbNext, hq, ha]

theorem sbNext_of_again {p : SbPort} {a : SbMsg} {as : List SbMsg} (hq : p.queue = []) (ha : p.again = a :: as) :
    sbNext p = some (a, { p with again := as }) := by simp [sbNext, hq, ha]

/-- Settles O11, by what one header, one TRAIN block and one sending leave of a direction's port. -/
theorem sidebandSegmentsTrain : Obligations.SidebandSegmentsTrain := by
  refine ⟨fun s d b => sbBlockLock_gains, fun s d b => sbBlockLock_loses, fun s d => sbTrainReceive_peer_runs,
    fun s d l => sbTrainReceive_own_runs l, fun s d m q hup hq ha hd => ?_, fun s d a as hup hq ha hd => ?_,
    fun s d m q _ => exec_sbMessageSend_down⟩
  · obtain ⟨t, hrun, hout, hport, hkept⟩ := sbMessageSend_runs hup hd (sbNext_of_queue hq ha)
    exact ⟨t, hrun, hout, by rw [hport], by rw [hport], hkept⟩
  · obtain ⟨t, hrun, hout, hport, hkept⟩ := sbMessageSend_runs hup hd (sbNext_of_again hq ha)
    exact ⟨t, hrun, hout, by rw [hport], by rw [hport], hkept⟩

/-! Messages on their way (02 R59, R63, R64) -/

theorem sbOwn_iff (s : State) (d : Dir) (m : SbMsg) : sbOwn s d m = true ↔ m.origin.toNat = s.chip ∧ m.dir = d := by simp [sbOwn]

theorem exec_sbMessageReceive_own {s : State} {d : Dir} {m : SbMsg} (how : SbEnd) (duringOwn : Bool) (hown : sbOwn s d m = true) :
    exec (.sbMessageReceive d m how duringOwn) s = .next s := by
  show execSbMessageReceive d m how duringOwn s = _
  rw [execSbMessageReceive, if_pos hown]
  exact ite_self _

/-- A message of another package, or one that travels the other way, is sent on; then it is counted or acted on. -/
theorem exec_sbMessageReceive_other {s : State} {d : Dir} {m : SbMsg} (hin : (s.sb (dirFlip d)).up = true) (hup : s.domUp 0xA7 = true)
    (hother : ¬ (m.origin.toNat = s.chip ∧ m.dir = d)) (how : SbEnd) : exec (.sbMessageReceive d m how false) s = .next
    (if how = .whole ∧ sbGood m = true then sbAct m (sbForward d m how s) else (sbForward d m how s).sat R.CL_STALE_CNT 31 0 1) := by
  show execSbMessageReceive d m how false s = _
  rw [execSbMessageReceive, if_neg (by simp [hin, hup]), if_neg (by rwa [sbOwn_iff])]
  rfl

/-- What a forwarded message sends on its next segment. -/
def sbOnward (s : State) (d : Dir) (m : SbMsg) (how : SbEnd) : List Out :=
  if (s.sb d).up then .sb d m :: (if how = .aborted then [.sbAbort d] else []) else []

/-- Forwarding sends the message and changes nothing else. -/
theorem sbForward_eq (d : Dir) (m : SbMsg) (how : SbEnd) (s : State) :
    sbForward d m how s = s.uOut (· ++ sbOnward s d m how) := by
  unfold sbForward sbOnward
  by_cases hd : (s.sb d).up = true
  · by_cases ha : how = .aborted <;> simp [hd, ha, State.emit, State.uOut]
  · simp [hd, State.uOut]

theorem sbAct_depart {m : SbMsg} (hm : m.mtype = 4) (s : State) : sbAct m s = departHeard (pkW (sbBody m) 0 % 16384) s := by
  simp [sbAct, hm]

/-- A DEPART writes one register, CL_REACH (15 R415). -/
theorem departHeard_regsKept (chip : Nat) (s : State) : RegsKept [R.CL_REACH] s (departHeard chip s) :=
  RegsKept.wr (t := (s.uCl _).uAgree _) (.of_regs_eq _ rfl) List.mem_cons_self _

theorem departHeard_out (chip : Nat) (s : State) : (departHeard chip s).out = s.out := by
  rw [departHeard, reachReg, wr_out, uAgree_out, uCl_out]

theorem departHeard_heard (chip : Nat) (s : State) : (departHeard chip s).cl.heard = smErase s.cl.heard chip := by
  rw [departHeard, reachReg, State.wr, uRegs_cl, uAgree_cl, uCl_cl]

theorem departHeard_sameMem (chip : Nat) (s : State) : SameMem s (departHeard chip s) := .of_eq rfl rfl rfl

theorem sbMessageReceive_spoilt_runs {s : State} {d : Dir} {m : SbMsg} {how : SbEnd} (hin : (s.sb (dirFlip d)).up = true)
    (hup : s.domUp 0xA7 = true) (hother : ¬ (m.origin.toNat = s.chip ∧ m.dir = d)) (hbad : how ≠ .whole ∨ sbGood m = false) :
    Runs (.sbMessageReceive d m how false) s fun t => t.out = s.out ++ sbOnward s d m how
      ∧ t.rd R.CL_STALE_CNT = min 0xFFFFFFFF (s.rd R.CL_STALE_CNT + 1) ∧ RegsKept [R.CL_STALE_CNT] s t ∧ SameMem s t := by
  have hrun := exec_sbMessageReceive_other hin hup hother how
  have hspoilt : ¬ (how = .whole ∧ sbGood m = true) := by
    rintro ⟨hw, hg⟩
    exact hbad.elim (fun h => h hw) (fun h => by simp [hg] at h)
  rw [if_neg hspoilt, sbForward_eq] at hrun
  exact ⟨_, hrun, rfl, rd_sat_count _ _, RegsKept.sat (.of_regs_eq _ rfl) List.mem_cons_self _ _ _, .of_eq rfl rfl rfl⟩

theorem sbMessageReceive_depart_runs {s : State} {d : Dir} {m : SbMsg} (hin : (s.sb (dirFlip d)).up = true) (hup : s.domUp 0xA7 = true)
    (hother : ¬ (m.origin.toNat = s.chip ∧ m.dir = d)) (hgood : sbGood m = true) (hm : m.mtype = 4) :
    Runs (.sbMessageReceive d m .whole false) s fun t => t.out = s.out ++ sbOnward s d m .whole
      ∧ t.cl.heard = smErase s.cl.heard (pkW (sbBody m) 0 % 16384) ∧ RegsKept [R.CL_REACH] s t ∧ SameMem s t := by
  have hrun := exec_sbMessageReceive_other hin hup hother .whole
  rw [if_pos ⟨rfl, hgood⟩, sbAct_depart hm, sbForward_eq] at hrun
  have hsent : RegsKept [R.CL_REACH] s (s.uOut (· ++ sbOnward s d m .whole)) := .of_regs_eq _ rfl
  have hmem : SameMem s (s.uOut (· ++ sbOnward s d m .whole)) := .of_eq rfl rfl rfl
  exact ⟨_, hrun, departHeard_out _ _, departHeard_heard _ _, fun o ho => (departHeard_regsKept _ _ o ho).trans (hsent o ho),
    hmem.trans (departHeard_sameMem _ _)⟩

/-- Settles O12: an own message ends its way; any other is sent on, then counted or acted on. -/
theorem sidebandMessagesTravelOn : Obligations.SidebandMessagesTravelOn := by
  exact ⟨fun s d m how duringOwn _ ho hd => exec_sbMessageReceive_own how duringOwn ((sbOwn_iff s d m).mpr ⟨ho, hd⟩),
    fun s d m how => sbMessageReceive_spoilt_runs, fun s d m => sbMessageReceive_depart_runs⟩

end Sys2Proof.Machine
end

section
/-! Power (02 R44, R73, R74; 03 R95; 26 R640): the low of PWROK, the shutdown, and the rise that samples the straps. -/

namespace Sys2Proof.Machine

/-! Fields beside a written one (00 R6) -/

/-- A word with a field replaced is the bits above the field, the new field, and the bits below it. -/
theorem fieldSet_eq_parts (w v : Nat) {hi lo : Nat} (h : lo ≤ hi) : fieldSet w hi lo v
    = 2 ^ lo * (2 ^ (hi + 1 - lo) * (w / 2 ^ (hi + 1)) + v % 2 ^ (hi + 1 - lo)) + w % 2 ^ lo := by
  have hsplit : 2 ^ (hi + 1) = 2 ^ lo * 2 ^ (hi + 1 - lo) := by rw [← pow_add, Nat.add_sub_cancel' (by omega)]
  simp only [fieldSet, fieldOf, Nat.shiftRight_eq_div_pow, Nat.shiftLeft_eq, hsplit, ← Nat.div_div_eq_div_mul]
  generalize 2 ^ (hi + 1 - lo) = W
  generalize 2 ^ lo = P
  have hcleared : w - w / P % W * P = P * (W * (w / P / W)) + w % P := by
    apply Nat.sub_eq_of_eq_add
    calc w = P * (W * (w / P / W) + w / P % W) + w % P := by rw [Nat.div_add_mod, Nat.div_add_mod]
      _ = P * (W * (w / P / W)) + w % P + w / P % W * P := by ring
  rw [hcleared]
  ring

theorem testBit_fieldSet (w v i : Nat) {hi lo : Nat} (h : lo ≤ hi) :
    (fieldSet w hi lo v).testBit i = if lo ≤ i ∧ i ≤ hi then v.testBit (i - lo) else w.testBit i := by
  have hlow : w % 2 ^ lo < 2 ^ lo := Nat.mod_lt _ (Nat.two_pow_pos _)
  have hmid : v % 2 ^ (hi + 1 - lo) < 2 ^ (hi + 1 - lo) := Nat.mod_lt _ (Nat.two_pow_pos _)
  rw [fieldSet_eq_parts w v h, Nat.testBit_two_pow_mul_add _ hlow, Nat.testBit_two_pow_mul_add _ hmid]
  simp only [← Nat.shiftRight_eq_div_pow, Nat.testBit_mod_two_pow, Nat.testBit_shiftRight]
  by_cases hbelow : i < lo
  · rw [if_pos hbelow, if_neg (by omega)]
    simp [hbelow]
  · by_cases hin : i ≤ hi
    · have hfield : i - lo < hi + 1 - lo := by omega
      rw [if_neg hbelow, if_pos hfield, if_pos (by omega)]
      simp [hfield]
    · rw [if_neg hbelow, if_neg (by omega), if_neg (by omega)]
      congr 1
      omega

/-- A field reads as before where one apart from it is written. -/
theorem fieldOf_fieldSet_of_disjoint (w v : Nat) {hi lo top low : Nat} (h : lo ≤ hi) (h' : low ≤ top) (hd : hi < low ∨ top < lo) :
    fieldOf (fieldSet w hi lo v) top low = fieldOf w top low := by
  apply Nat.eq_of_testBit_eq
  intro i
  simp only [fieldOf, Nat.testBit_mod_two_pow, Nat.testBit_shiftRight, testBit_fieldSet _ _ _ h]
  by_cases hin : i < top + 1 - low
  · rw [if_neg (by omega)]
  · simp [hin]

theorem fd_fw_of_disjoint (s : State) (off v : Nat) {hi lo top low : Nat} (h : lo ≤ hi) (h' : low ≤ top) (hd : hi < low ∨ top < lo)
    (htop : top < 32) : (s.fw off hi lo v).fd off top low = s.fd off top low := by
  rw [State.fd, State.fw, rd_wr, if_pos rfl, fieldOf_mod_word _ htop, fieldOf_fieldSet_of_disjoint _ _ h h' hd, State.fd]

theorem fd_of_rd_eq {s t : State} {off : Nat} (h : t.rd off = s.rd off) (hi lo : Nat) : t.fd off hi lo = s.fd off hi lo := by
  rw [State.fd, State.fd, h]

theorem fd_fw_ne {s : State} {off hi lo v top low o : Nat} (h : o ≠ off) : (s.fw off hi lo v).fd o top low = s.fd o top low :=
  fd_of_rd_eq (rd_fw_ne _ _ _ _ h) _ _

theorem bitOf_b2n (c : Bool) : bitOf (b2n c) 0 = c := by cases c <;> rfl

/-! The shutdown (02 R74) -/

/-- From s to t only the TECs' gates and the outputs differ. -/
def GatesOnly (s t : State) : Prop := t = { s with tec := t.tec, out := t.out }

namespace GatesOnly

variable {s t u : State}

theorem refl (s : State) : GatesOnly s s := rfl

theorem trans (h : GatesOnly s t) (g : GatesOnly t u) : GatesOnly s u := by
  unfold GatesOnly at *
  rw [g, h]

theorem emit (s : State) (o : Out) : GatesOnly s (s.emit o) := rfl

theorem foldl {α : Type} {f : State → α → State} (hf : ∀ s a, GatesOnly s (f s a)) (l : List α) (s : State) :
    GatesOnly s (l.foldl f s) := by
  induction l generalizing s with
  | nil => exact refl s
  | cons a l ih => exact (hf s a).trans (ih _)

theorem regs (h : GatesOnly s t) : t.regs = s.regs := by rw [h]

theorem sb (h : GatesOnly s t) (d : Dir) : t.sb d = s.sb d := by cases d <;> rw [h] <;> rfl

theorem flash (h : GatesOnly s t) : t.flash = s.flash := by rw [h]

theorem fuses (h : GatesOnly s t) : t.fuses = s.fuses := by rw [h]

theorem boot (h : GatesOnly s t) : t.boot = s.boot := by rw [h]

theorem chip (h : GatesOnly s t) : t.chip = s.chip := fd_of_rd_eq (rd_of_regs_eq h.regs _) _ _

end GatesOnly

theorem readyDrop_gatesOnly (s : State) : GatesOnly s (readyDrop s) := by
  unfold readyDrop
  split_ifs
  · exact .emit s _
  · exact .refl s

theorem driveGates_gatesOnly (k g tick : Nat) (s : State) : GatesOnly s (driveGates k g tick s) := rfl

theorem gatesOff_gatesOnly (s : State) : GatesOnly s (gatesOff s) := GatesOnly.foldl (fun t k => driveGates_gatesOnly k 0 t.ticks t) _ s

/-- DEPART leaves on one direction, if its segment is up. -/
def departOn (cause : Nat) (d : Dir) (s : State) : State :=
  if (s.sb d).up then s.emit (.sb d (sbBuild 0x04 s.chip d [w32 s.chip, w32 cause])) else s

theorem departSend_eq (cause : Nat) (s : State) : departSend cause s = departOn cause .west (departOn cause .east s) := rfl

theorem departOn_gatesOnly (cause : Nat) (d : Dir) (s : State) : GatesOnly s (departOn cause d s) := by
  unfold departOn
  split_ifs
  · exact .emit s _
  · exact .refl s

theorem departOn_keeps_out {cause : Nat} {d : Dir} {s : State} {o : Out} (h : o ∈ s.out) : o ∈ (departOn cause d s).out := by
  unfold departOn
  split_ifs
  · exact List.mem_append_left _ h
  · exact h

theorem departOn_sends {cause : Nat} {d : Dir} {s : State} (h : (s.sb d).up = true) :
    Out.sb d (sbBuild 0x04 s.chip d [w32 s.chip, w32 cause]) ∈ (departOn cause d s).out := by
  rw [departOn, if_pos h]
  exact List.mem_append_right _ List.mem_cons_self

theorem departSend_sends {cause : Nat} {d : Dir} {s : State} (h : (s.sb d).up = true) :
    Out.sb d (sbBuild 0x04 s.chip d [w32 s.chip, w32 cause]) ∈ (departSend cause s).out := by
  have heast := departOn_gatesOnly cause .east s
  rw [departSend_eq]
  cases d with
  | east => exact departOn_keeps_out (departOn_sends h)
  | west =>
    have hwest := departOn_sends (cause := cause) (d := .west) (s := departOn cause .east s) (by rwa [heast.sb])
    rwa [heast.chip] at hwest

/-- READY low, gates off, DEPART sent: what a shutdown does before the reset takes hold. -/
def shutdown (s : State) : State := departSend 0 (gatesOff (readyDrop s))

theorem dark_gatesOnly (s : State) : GatesOnly s (gatesOff (readyDrop s)) := (readyDrop_gatesOnly s).trans (gatesOff_gatesOnly _)

theorem shutdown_gatesOnly (s : State) : GatesOnly s (shutdown s) :=
  (dark_gatesOnly s).trans ((departOn_gatesOnly 0 .east _).trans (departOn_gatesOnly 0 .west _))

theorem shutdown_sends {s : State} {d : Dir} (h : (s.sb d).up = true) :
    Out.sb d (sbBuild 0x04 s.chip d [w32 s.chip, w32 0]) ∈ (shutdown s).out := by
  have hdark := dark_gatesOnly s
  have hsent := departSend_sends (cause := 0) (d := d) (s := gatesOff (readyDrop s)) (by rwa [hdark.sb])
  rwa [hdark.chip] at hsent

/-! The power-on reset (02 R73, R74; 03 R95) -/

/-- What an interrupted flash operation leaves in the part. -/
def flashCut (op : Option FlashOp) (s : State) : State :=
  match op with
  | some op => freeFlash (flashSpan op).1 (flashSpan op).2 s
  | none => s

theorem flashCut_fuses (op : Option FlashOp) (s : State) : (flashCut op s).fuses = s.fuses := by cases op <;> rfl

theorem flashCut_out (op : Option FlashOp) (s : State) : (flashCut op s).out = s.out := by cases op <;> rfl

/-- Bytes outside the operation's own stay. -/
theorem smGet_flashCut {op : FlashOp} {a : Nat} (h : a < (flashSpan op).1 ∨ (flashSpan op).1 + (flashSpan op).2 ≤ a) (s : State) :
    smGet flashD (flashCut (some op) s).flash a = smGet flashD s.flash a :=
  smGet_putBytes _ _ _ _ _ (by simpa using h)

/-- The power-on reset holds: all of a state that it does not keep is at its reset value (03 Table 3.3). -/
def powerOnHeld (s : State) : State :=
  { State.reset with
    pending := s.pending, ticks := s.ticks, free := s.free, out := s.out, flash := s.flash, fuses := s.fuses,
    pins := { State.reset.pins with pwrok := false, perstHigh := s.pins.perstHigh },
    rst := ⟨false, true, []⟩ }

theorem exec_powerLossConfirmed {s : State} (h : s.pins.pwrok = false) :
    exec .powerLossConfirmed s = .next (powerOnHeld (flashCut s.boot.flash (shutdown s))) := by
  have hboot : (departSend 0 (gatesOff (readyDrop s))).boot = s.boot := (shutdown_gatesOnly s).boot
  show execPowerLossConfirmed s = _
  rw [execPowerLossConfirmed, if_neg (by simp [h])]
  simp only [hboot]
  cases s.boot.flash <;> rfl

theorem powerLossConfirmed_runs {s : State} (h : s.pins.pwrok = false) : Runs .powerLossConfirmed s fun t =>
    t.rst.por = true ∧ t.ct = 0 ∧ t.hbm = [] ∧ t.vel = []
      ∧ (s.boot.flash = none → t.flash = s.flash)
      ∧ (∀ op, s.boot.flash = some op → ∀ a, a < (flashSpan op).1 ∨ (flashSpan op).1 + (flashSpan op).2 ≤ a →
          smGet flashD t.flash a = smGet flashD s.flash a)
      ∧ t.fuses = s.fuses ∧ t.rd R.RST_CAUSE = 1 ∧ t.top = 0
      ∧ ∀ d : Dir, (s.sb d).up = true → Out.sb d (sbBuild 0x04 s.chip d [w32 s.chip, w32 0]) ∈ t.out := by
  have hdown := shutdown_gatesOnly s
  have hcause : ∀ u, (powerOnHeld u).rd R.RST_CAUSE = State.reset.rd R.RST_CAUSE := fun u => rd_of_regs_eq rfl _
  have htop : ∀ u, (powerOnHeld u).top = State.reset.top := fun u => fd_of_rd_eq (rd_of_regs_eq rfl _) _ _
  refine ⟨_, exec_powerLossConfirmed h, rfl, rfl, rfl, rfl, fun hnone => ?_, fun op hop a ha => ?_,
    (flashCut_fuses _ _).trans hdown.fuses, (hcause _).trans (by decide), (htop _).trans (by decide), fun d hd => ?_⟩
  · rw [hnone]
    exact hdown.flash
  · rw [hop]
    exact (smGet_flashCut ha _).trans (by rw [hdown.flash])
  · show _ ∈ (flashCut s.boot.flash (shutdown s)).out
    rw [flashCut_out]
    exact shutdown_sends hd

/-! PWROK rises (02 R44; 03 R101; 26 R640) -/

/-- The straps sampled, the power-on reset ended, the SMBus logic to answer in 2 ms. -/
def strapped (c : Bool) (b : BitVec 2) (r : BitVec 6) (s : State) : State :=
  let s := (s.uPins fun p => { p with pwrok := true, cfgOpen := c, bootSel := b, rackSlot := r }).uRst fun x => { x with por := false }
  let s := ((s.uCt fun _ => 0).fw R.GLB_STATE 5 5 (b2n c)).fw R.GLB_CHIP 21 16 r.toNat
  let s := s.uMgmt fun m => { m with live := s.ticks + 3200000 }
  (s.fw R.BOOT_STATUS 25 24 b.toNat).fw R.BOOT_STATUS 3 3 (b2n c)

/-- The PCI Express function starts, or PERST_N holds it. -/
def functionFollows (s : State) : State := if s.pins.perstHigh then functionStart s else s.fw R.RST_BUSY 3 3 1

theorem exec_pwrokRise {s : State} (h : s.rst.por = true) (c : Bool) (b : BitVec 2) (r : BitVec 6) :
    exec (.pwrokRise c b r) s = .next (functionFollows (strapped c b r s)) := by
  show execPwrokRise c b r s = _
  rw [execPwrokRise, if_neg (by simp [h])]
  rfl

theorem exec_pwrokRise_ignored {s : State} (h : s.rst.por = false) (c : Bool) (b : BitVec 2) (r : BitVec 6) :
    exec (.pwrokRise c b r) s = .next (s.uPins fun p => { p with pwrok := true }) := by
  show execPwrokRise c b r s = _
  rw [execPwrokRise, if_pos (by simp [h])]
  rfl

section
variable (s : State)

theorem functionFollows_cases : functionFollows s = functionStart s ∨ functionFollows s = s.fw R.RST_BUSY 3 3 1 := by
  unfold functionFollows
  split_ifs
  · exact .inl rfl
  · exact .inr rfl

theorem functionFollows_rst : (functionFollows s).rst = s.rst := by
  rcases functionFollows_cases s with h | h
  · rw [h, functionStart_eq, uBoot_rst, State.fw, State.wr, uRegs_rst, drive, uPins_rst]
  · rw [h, State.fw, State.wr, uRegs_rst]

theorem functionFollows_ct : (functionFollows s).ct = s.ct := by
  rcases functionFollows_cases s with h | h
  · rw [h, functionStart_eq, uBoot_ct, State.fw, State.wr, uRegs_ct, drive, uPins_ct]
  · rw [h, State.fw, State.wr, uRegs_ct]

theorem functionFollows_mgmt : (functionFollows s).mgmt = s.mgmt := by
  rcases functionFollows_cases s with h | h
  · rw [h, functionStart_eq, uBoot_mgmt, State.fw, State.wr, uRegs_mgmt, drive, uPins_mgmt]
  · rw [h, State.fw, State.wr, uRegs_mgmt]

/-- The function's start drives its balls; every other pin stands. -/
theorem functionFollows_pins : ∃ bs, (functionFollows s).pins = { s.pins with driven := bs } := by
  rcases functionFollows_cases s with h | h
  · rw [h, functionStart_eq, uBoot_pins, State.fw, State.wr, uRegs_pins, drive, uPins_pins]
    exact ⟨_, rfl⟩
  · rw [h, State.fw, State.wr, uRegs_pins]
    exact ⟨s.pins.driven, rfl⟩

theorem functionFollows_sameMem : SameMem s (functionFollows s) := by
  rcases functionFollows_cases s with h | h <;> rw [h]
  · exact .of_eq (functionStart_hbm s) (functionStart_vel s) (functionStart_flash s)
  · exact .of_eq rfl rfl rfl

end

theorem rd_functionFollows_ne (s : State) {o : Nat} (hclk : o ≠ R.CLK_STATUS) (hrst : o ≠ R.RST_BUSY) :
    (functionFollows s).rd o = s.rd o := by
  rcases functionFollows_cases s with h | h <;> rw [h]
  · exact rd_functionStart_ne s hclk
  · exact rd_fw_ne _ _ _ _ hrst

section
variable (c : Bool) (b : BitVec 2) (r : BitVec 6) (s : State)

theorem strapped_sameMem : SameMem s (strapped c b r s) := by
  refine .of_eq ?_ ?_ ?_
  · rw [strapped, fw_hbm, fw_hbm, uMgmt_hbm, fw_hbm, fw_hbm, uCt_hbm, uRst_hbm, uPins_hbm]
  · rw [strapped, fw_vel, fw_vel, uMgmt_vel, fw_vel, fw_vel, uCt_vel, uRst_vel, uPins_vel]
  · rw [strapped, fw_flash, fw_flash, uMgmt_flash, fw_flash, fw_flash, uCt_flash, uRst_flash, uPins_flash]

theorem bit_strapped_cfgOpen : (strapped c b r s).bit R.GLB_STATE 5 = c := by
  rw [strapped, bit_fw_ne (by decide), bit_fw_ne (by decide), bit_of_rd_eq (rd_of_regs_eq (uMgmt_regs _ _) _), bit_fw_ne (by decide),
    bit_fw (by decide) (by decide) (by decide)]
  cases c <;> rfl

theorem fd_strapped_rackSlot : (strapped c b r s).fd R.GLB_CHIP 21 16 = r.toNat := by
  rw [strapped, fd_fw_ne (by decide), fd_fw_ne (by decide), fd_of_rd_eq (rd_of_regs_eq (uMgmt_regs _ _) _),
    fd_fw_same _ _ _ (by decide)]
  exact Nat.mod_eq_of_lt r.isLt

theorem fd_strapped_bootSel : (strapped c b r s).fd R.BOOT_STATUS 25 24 = b.toNat := by
  rw [strapped, fd_fw_of_disjoint _ _ _ (by decide) (by decide) (by decide) (by decide), fd_fw_same _ _ _ (by decide)]
  exact Nat.mod_eq_of_lt b.isLt

end

theorem pwrokRise_runs {s : State} (c : Bool) (b : BitVec 2) (r : BitVec 6) (h : s.rst.por = true) : Runs (.pwrokRise c b r) s fun t =>
    t.rst.por = false ∧ t.pins.pwrok = true ∧ t.pins.cfgOpen = c ∧ t.pins.bootSel = b ∧ t.pins.rackSlot = r
      ∧ t.bit R.GLB_STATE 5 = c ∧ t.fd R.GLB_CHIP 21 16 = r.toNat ∧ t.fd R.BOOT_STATUS 25 24 = b.toNat ∧ t.ct = 0
      ∧ t.mgmt.live = s.ticks + 3200000 ∧ SameMem s t := by
  have hrd : ∀ o, o ≠ R.CLK_STATUS → o ≠ R.RST_BUSY → _ := fun o => rd_functionFollows_ne (strapped c b r s) (o := o)
  obtain ⟨bs, hpins⟩ := functionFollows_pins (strapped c b r s)
  refine ⟨_, exec_pwrokRise h c b r, ?_, ?_, ?_, ?_, ?_, ?_, ?_, ?_, ?_, ?_, ?_⟩
  · rw [functionFollows_rst]
    rfl
  iterate 4
    · rw [hpins]
      rfl
  · rw [bit_of_rd_eq (hrd _ (by decide) (by decide)), bit_strapped_cfgOpen]
  · rw [fd_of_rd_eq (hrd _ (by decide) (by decide)), fd_strapped_rackSlot]
  · rw [fd_of_rd_eq (hrd _ (by decide) (by decide)), fd_strapped_bootSel]
  · rw [functionFollows_ct]
    rfl
  · rw [functionFollows_mgmt]
    rfl
  · exact (strapped_sameMem c b r s).trans (functionFollows_sameMem _)

/-- Settles O9: the fall of PWROK is the pin's alone; the confirmed low shuts down and resets; the rise samples the straps, or ends a
low too short to count. -/
theorem powerOnResetSamplesStraps : Obligations.PowerOnResetSamplesStraps :=
  ⟨fun _ => rfl, fun _ => powerLossConfirmed_runs, fun _ => pwrokRise_runs, fun _ c b r h => exec_pwrokRise_ignored h c b r⟩

end Sys2Proof.Machine
end

section
/-! The root clock and its references (03 R77–R83; 25 R634): lock, loss, the choice of a source, holdover. -/

namespace Sys2Proof

open Machine

/-! What a register write and an event leave -/

theorem RegsKept.keep {s t u : State} {os : List Nat} (h : RegsKept os s t) (hr : u.regs = t.regs) : RegsKept os s u :=
  fun o ho => (Machine.rd_of_regs_eq hr o).trans (h o ho)

theorem RegsKept.mono {s t : State} {os ps : List Nat} (h : RegsKept os s t) (hsub : os ⊆ ps) : RegsKept ps s t :=
  fun o ho => h o fun hin => ho (hsub hin)

theorem RegsKept.ev {s t : State} {os : List Nat} (h : RegsKept os s t) (ho : R.EVT_DROP_CNT ∈ os) (code src : Nat) (args : List Nat) :
    RegsKept os s (t.ev code src args) := fun o hn =>
  (ev_regsKept t code src args o fun hin => hn (List.mem_singleton.mp hin ▸ ho)).trans (h o hn)

theorem RegsKept.wr64 {s t : State} {os : List Nat} {off : Nat} (h : RegsKept os s t) (hlo : off ∈ os) (hhi : off + 4 ∈ os) (v : Nat) :
    RegsKept os s (t.wr64 off v) := (h.wr hlo _).wr hhi _

end Sys2Proof

namespace Sys2Proof.Machine

theorem unlessPor_of_clear {s : State} (h : s.rst.por = false) (f : State → State) : unlessPor s f = .next (f s) := by
  rw [unlessPor, if_neg (by simp [h])]
  rfl

theorem rd_wr_ne {s : State} {off v o : Nat} (h : o ≠ off) : (s.wr off v).rd o = s.rd o := by rw [rd_wr, if_neg h]

theorem bit_fw_of_disjoint (s : State) (off v : Nat) {hi lo n : Nat} (h : lo ≤ hi) (hd : hi < n ∨ n < lo) (hn : n < 32) :
    (s.fw off hi lo v).bit off n = s.bit off n := by
  rw [bit_of_fd _ _ le_rfl le_rfl, fd_fw_of_disjoint _ _ _ h le_rfl hd hn, ← bit_of_fd _ _ le_rfl le_rfl]

theorem satN_eq_min (m x : Nat) : satN m x = min m x := by
  unfold satN
  split_ifs <;> omega

/-- A field that counts saturates at its width. -/
theorem fd_sat_same (s : State) (off n : Nat) {hi lo : Nat} (h : hi < 32) :
    (s.sat off hi lo n).fd off hi lo = min (2 ^ (hi + 1 - lo) - 1) (s.fd off hi lo + n) := by
  have hmax : 2 ^ (hi + 1 - lo) - 1 < 2 ^ (hi + 1 - lo) := Nat.sub_lt (Nat.two_pow_pos _) Nat.one_pos
  rw [State.sat, fd_fw_same _ _ _ h, satN_eq_min, Nat.mod_eq_of_lt (lt_of_le_of_lt (min_le_left _ _) hmax)]

/-- CT, the count of ticks, the time state and the memories stand. -/
structure CtKept (s t : State) : Prop where
  ct : t.ct = s.ct
  ticks : t.ticks = s.ticks
  time : t.time = s.time
  hbm : t.hbm = s.hbm
  vel : t.vel = s.vel
  flash : t.flash = s.flash

/-- And so do the events and the resets. -/
structure QuietKept (s t : State) : Prop extends CtKept s t where
  evt : t.evt = s.evt
  rst : t.rst = s.rst

namespace CtKept

variable {s t u : State}

theorem refl (s : State) : CtKept s s := ⟨rfl, rfl, rfl, rfl, rfl, rfl⟩

theorem sameMem (h : CtKept s t) : SameMem s t := .of_eq h.hbm h.vel h.flash

theorem wr (h : CtKept s t) (off v : Nat) : CtKept s (t.wr off v) := ⟨h.ct, h.ticks, h.time, h.hbm, h.vel, h.flash⟩

theorem uEvt (h : CtKept s t) (g : Evt → Evt) : CtKept s (t.uEvt g) := ⟨h.ct, h.ticks, h.time, h.hbm, h.vel, h.flash⟩

theorem ev (h : CtKept s t) (code src : Nat) (args : List Nat) : CtKept s (t.ev code src args) := by
  unfold State.ev
  split_ifs
  · exact h.uEvt _
  · exact (h.uEvt _).wr _ _
  · exact h.uEvt _

end CtKept

namespace QuietKept

variable {s t : State}

theorem refl (s : State) : QuietKept s s := ⟨.refl s, rfl, rfl⟩

theorem wr (h : QuietKept s t) (off v : Nat) : QuietKept s (t.wr off v) := ⟨h.toCtKept.wr off v, h.evt, h.rst⟩

theorem fw (h : QuietKept s t) (off hi lo v : Nat) : QuietKept s (t.fw off hi lo v) := h.wr _ _

theorem sat (h : QuietKept s t) (off hi lo n : Nat) : QuietKept s (t.sat off hi lo n) := h.wr _ _

theorem wr64 (h : QuietKept s t) (off v : Nat) : QuietKept s (t.wr64 off v) := (h.wr _ _).wr _ _

theorem uClk (h : QuietKept s t) (g : ClkSt → ClkSt) : QuietKept s (t.uClk g) :=
  ⟨⟨h.ct, h.ticks, h.time, h.hbm, h.vel, h.flash⟩, h.evt, h.rst⟩

theorem uProof (h : QuietKept s t) (g : ProofSt → ProofSt) : QuietKept s (t.uProof g) :=
  ⟨⟨h.ct, h.ticks, h.time, h.hbm, h.vel, h.flash⟩, h.evt, h.rst⟩

theorem draw (h : QuietKept s t) : QuietKept s t.draw.2 := ⟨⟨h.ct, h.ticks, h.time, h.hbm, h.vel, h.flash⟩, h.evt, h.rst⟩

theorem roomFor (h : QuietKept s t) (room : RoomFor s) : RoomFor t := by rwa [RoomFor, h.evt]

/-- An event after quiet writes leaves the memories too. -/
theorem sameMem_ev (h : QuietKept s t) (code src : Nat) (args : List Nat) : SameMem s (t.ev code src args) :=
  (h.toCtKept.ev code src args).sameMem

end QuietKept

theorem ev_clk (s : State) (code src : Nat) (args : List Nat) : (s.ev code src args).clk = s.clk := by
  unfold State.ev
  split_ifs <;> rfl

/-! Root lock (03 R77; 16 R424; 25 R634) -/

/-- The root PLL is locked to the rack reference. -/
def rackLocked (s : State) : State := ((s.fw R.CLK_STATUS 0 0 1).fw R.CLK_STATUS 2 1 0).fw R.CLK_STATUS 4 4 1

/-- Boot stands in IMAGE with a new nonce; RESET_RECORD is still to come. -/
def imageEntered (s : State) : State := drawNonce ((s.fw R.GLB_STATE 3 0 1).fw R.BOOT_STATUS 2 0 0)

theorem enterImage_eq (s : State) : enterImage s = (imageEntered s).ev Ev.RESET_RECORD 0
    [(imageEntered s).rd R.RST_CAUSE, (imageEntered s).rd R.BOOT_STATUS] := rfl

theorem rackLocked_quiet (s : State) : QuietKept s (rackLocked s) := (((QuietKept.refl s).fw _ _ _ _).fw _ _ _ _).fw _ _ _ _

theorem clearRefFault_quiet {s t : State} (h : QuietKept s t) : QuietKept s (clearRefFault t) := (h.fw _ _ _ _).fw _ _ _ _

theorem imageEntered_quiet {s t : State} (h : QuietKept s t) : QuietKept s (imageEntered t) := ((h.fw _ _ _ _).fw _ _ _ _).draw.wr _ _

theorem rackLocked_regsKept (s : State) : RegsKept [R.CLK_STATUS] s (rackLocked s) :=
  (((RegsKept.of_regs_eq _ rfl).fw (by decide) _ _ _).fw (by decide) _ _ _).fw (by decide) _ _ _

theorem clearRefFault_regsKept (s : State) : RegsKept [R.EVT_STATUS] s (clearRefFault s) :=
  ((RegsKept.of_regs_eq _ rfl).fw (by decide) _ _ _).fw (by decide) _ _ _

theorem drawNonce_regsKept (s : State) : RegsKept [R.AGREE_NONCE] s (drawNonce s) :=
  (RegsKept.of_regs_eq (t := s.draw.2) _ draw_regs).wr (by decide) _

theorem imageEntered_regsKept (s : State) : RegsKept [R.GLB_STATE, R.BOOT_STATUS, R.AGREE_NONCE] s (imageEntered s) :=
  (((RegsKept.of_regs_eq _ rfl).fw (by decide) _ _ _).fw (by decide) _ _ _).keep (u := State.draw _ |>.2) draw_regs |>.wr (by decide) _

theorem rd_drawNonce_ne_zero (s : State) : (drawNonce s).rd R.AGREE_NONCE ≠ 0 := by
  have hword : s.draw.1.toNat < 2 ^ 32 := s.draw.1.isLt
  rw [drawNonce, rd_wr, if_pos rfl]
  split_ifs <;> omega

theorem top_imageEntered (s : State) : (imageEntered s).top = 1 := by
  rw [State.top, imageEntered, fd_of_rd_eq (drawNonce_regsKept _ _ (by decide)), fd_fw_ne (by decide), fd_fw_same _ _ _ (by decide)]
  rfl

theorem bit_rackLocked_lock (s : State) : (rackLocked s).bit R.CLK_STATUS 0 = true := by
  rw [rackLocked, bit_fw_of_disjoint _ _ _ (by decide) (by decide) (by decide),
    bit_fw_of_disjoint _ _ _ (by decide) (by decide) (by decide), bit_fw (by decide) (by decide) (by decide)]
  rfl

theorem fd_rackLocked_src (s : State) : (rackLocked s).fd R.CLK_STATUS 2 1 = 0 := by
  rw [rackLocked, fd_fw_of_disjoint _ _ _ (by decide) (by decide) (by decide) (by decide), fd_fw_same _ _ _ (by decide)]
  rfl

theorem bit_clearRefFault (s : State) : (clearRefFault s).bit R.EVT_STATUS 30 = false := by
  rw [clearRefFault, bit_fw_of_disjoint _ _ _ (by decide) (by decide) (by decide), bit_fw (by decide) (by decide) (by decide)]
  rfl

theorem exec_rootPllLock {s : State} (htop : s.top = 0) (hchip : s.rst.chip = false) (hpor : s.rst.por = false) :
    exec .rootPllLock s = .next (enterImage (clearRefFault (rackLocked s))) := by
  have hstill : (clearRefFault (rackLocked s)).top = 0 := by
    rw [State.top, fd_of_rd_eq (clearRefFault_regsKept _ _ (by decide)), fd_of_rd_eq (rackLocked_regsKept _ _ (by decide))]
    exact htop
  have hup : ¬ (clearRefFault (rackLocked s)).rst.chip = true := by simp [(clearRefFault_quiet (rackLocked_quiet s)).rst, hchip]
  show execRootPllLock s = _
  rw [execRootPllLock, unlessPor_of_clear hpor]
  exact congrArg _ (if_pos ⟨hstill, hup⟩)

theorem rootPllLock_runs {s : State} (htop : s.top = 0) (hchip : s.rst.chip = false) (hpor : s.rst.por = false) (room : RoomFor s) :
    Runs .rootPllLock s fun t => t.bit R.CLK_STATUS 0 = true ∧ t.fd R.CLK_STATUS 2 1 = 0 ∧ t.bit R.EVT_STATUS 30 = false ∧ t.top = 1
      ∧ t.rd R.AGREE_NONCE ≠ 0 ∧ Raised t Ev.RESET_RECORD 0 ∧ SameMem s t := by
  have hquiet : QuietKept s (imageEntered (clearRefFault (rackLocked s))) :=
    imageEntered_quiet (clearRefFault_quiet (rackLocked_quiet s))
  have hroom := hquiet.roomFor room
  have hrd : ∀ o, (enterImage (clearRefFault (rackLocked s))).rd o = (imageEntered (clearRefFault (rackLocked s))).rd o := fun o => by
    rw [enterImage_eq]
    exact rd_of_regs_eq (ev_regs hroom ..) o
  have hclk : (enterImage (clearRefFault (rackLocked s))).rd R.CLK_STATUS = (rackLocked s).rd R.CLK_STATUS :=
    (hrd _).trans ((imageEntered_regsKept _ _ (by decide)).trans (clearRefFault_regsKept _ _ (by decide)))
  refine ⟨_, exec_rootPllLock htop hchip hpor, ?_, ?_, ?_, ?_, ?_, ev_raised hroom .., hquiet.sameMem_ev ..⟩
  · rw [bit_of_rd_eq hclk, bit_rackLocked_lock]
  · rw [fd_of_rd_eq hclk, fd_rackLocked_src]
  · rw [bit_of_rd_eq ((hrd _).trans (imageEntered_regsKept _ _ (by decide))), bit_clearRefFault]
  · exact (fd_of_rd_eq (hrd _) _ _).trans (top_imageEntered _)
  · rw [hrd]
    exact rd_drawNonce_ne_zero _

theorem exec_rootLockTimeout {s : State} (hpor : s.rst.por = false) (hlock : s.bit R.CLK_STATUS 0 = false) :
    exec .rootLockTimeout s = .next ((s.fw R.EVT_STATUS 30 30 1).fw R.EVT_STATUS 31 31 1) := by
  show execRootLockTimeout s = _
  rw [execRootLockTimeout, unlessPor_of_clear hpor, if_neg (by simp [hlock])]

theorem rootLockTimeout_runs {s : State} (hpor : s.rst.por = false) (hlock : s.bit R.CLK_STATUS 0 = false) :
    Runs .rootLockTimeout s fun t => t.bit R.EVT_STATUS 30 = true ∧ t.bit R.EVT_STATUS 31 = true
      ∧ RegsKept [R.EVT_STATUS] s t ∧ SameMem s t := by
  refine ⟨_, exec_rootLockTimeout hpor hlock, ?_, ?_, ?_, (((QuietKept.refl s).fw _ _ _ _).fw _ _ _ _).sameMem⟩
  · rw [bit_fw_of_disjoint _ _ _ (by decide) (by decide) (by decide), bit_fw (by decide) (by decide) (by decide)]
    rfl
  · rw [bit_fw (by decide) (by decide) (by decide)]
    rfl
  · exact ((RegsKept.of_regs_eq _ rfl).fw (by decide) _ _ _).fw (by decide) _ _ _

/-! Loss of a reference (03 R79, R80) -/

theorem srcCode_lt (r : RefSrc) : srcCode r < 2 := by cases r <;> decide

/-- A source is no longer valid, and its loss is counted. -/
def lossNoted (c : Nat) (s : State) : State := (s.fw R.CLK_STATUS (4 + c) (4 + c) 0).sat R.CLK_LOSS_CNT (15 + 16 * c) (16 * c) 1

/-- The root holds over from a source. -/
def heldOver (c : Nat) (s : State) : State :=
  ((s.fw R.CLK_STATUS 2 1 2).wr R.CLK_HOLD_FRAMES 0).uClk fun k => { k with lost := c, said := 0 }

theorem lossHeld_quiet (c : Nat) (s : State) : QuietKept s (heldOver c (lossNoted c s)) :=
  (((((QuietKept.refl s).fw _ _ _ _).sat _ _ _ _).fw _ _ _ _).wr _ _).uClk _

theorem refLost_eq (r : RefSrc) (s : State) : refLost r s =
    if (lossNoted (srcCode r) s).fd R.CLK_STATUS 2 1 = srcCode r then
      (heldOver (srcCode r) (lossNoted (srcCode r) s)).ev Ev.REF_LOST (srcCode r) []
    else lossNoted (srcCode r) s := by cases r <;> rfl

section
variable {c : Nat} (hc : c < 2) (s : State)
include hc

theorem fd_lossNoted_src : (lossNoted c s).fd R.CLK_STATUS 2 1 = s.fd R.CLK_STATUS 2 1 := by
  rw [lossNoted, fd_of_rd_eq (rd_sat_ne (by decide)), fd_fw_of_disjoint _ _ _ le_rfl (by decide) (.inr (by omega)) (by decide)]

theorem bit_lossNoted_valid : (lossNoted c s).bit R.CLK_STATUS (4 + c) = false := by
  rw [lossNoted, bit_sat_ne (by decide), bit_fw le_rfl le_rfl (by omega), Nat.zero_mod, bitOf_eq_testBit, Nat.zero_testBit]

theorem fd_lossNoted_count : (lossNoted c s).fd R.CLK_LOSS_CNT (15 + 16 * c) (16 * c)
    = min 0xFFFF (s.fd R.CLK_LOSS_CNT (15 + 16 * c) (16 * c) + 1) := by
  have hwidth : 15 + 16 * c + 1 - 16 * c = 16 := by omega
  rw [lossNoted, fd_sat_same _ _ _ (by omega), hwidth, fd_fw_ne (by decide)]
  rfl

theorem bit_heldOver_valid : (heldOver c s).bit R.CLK_STATUS (4 + c) = s.bit R.CLK_STATUS (4 + c) := by
  rw [heldOver, bit_of_rd_eq (rd_of_regs_eq (uClk_regs _ _) _), bit_of_rd_eq (rd_wr_ne (by decide)),
    bit_fw_of_disjoint _ _ _ (by decide) (.inl (by omega)) (by omega)]

end

theorem rd_heldOver_frames (c : Nat) (s : State) : (heldOver c s).rd R.CLK_HOLD_FRAMES = 0 := by
  rw [heldOver, rd_of_regs_eq (uClk_regs _ _), rd_wr, if_pos rfl]
  rfl

theorem fd_heldOver_src (c : Nat) (s : State) : (heldOver c s).fd R.CLK_STATUS 2 1 = 2 := by
  rw [heldOver, fd_of_rd_eq (rd_of_regs_eq (uClk_regs _ _) _), fd_of_rd_eq (rd_wr_ne (by decide)),
    fd_fw_same _ _ _ (by decide)]
  rfl

theorem heldOver_regsKept (c : Nat) (s : State) : RegsKept [R.CLK_STATUS, R.CLK_HOLD_FRAMES] s (heldOver c s) :=
  (((RegsKept.of_regs_eq _ rfl).fw (by decide) _ _ _).wr (by decide) _).keep (uClk_regs _ _)

theorem lossHeld_regsKept (c : Nat) (s : State) :
    RegsKept [R.CLK_STATUS, R.CLK_LOSS_CNT, R.CLK_HOLD_FRAMES] s (heldOver c (lossNoted c s)) :=
  (((((RegsKept.of_regs_eq _ rfl).fw (by decide) _ _ _).sat (by decide) _ _ _).fw (by decide) _ _ _).wr (by decide) _).keep
    (uClk_regs _ _)

theorem exec_refLost {s : State} {r : RefSrc} (hpor : s.rst.por = false) (hsrc : s.fd R.CLK_STATUS 2 1 = srcCode r) :
    exec (.refLost r) s = .next ((heldOver (srcCode r) (lossNoted (srcCode r) s)).ev Ev.REF_LOST (srcCode r) []) := by
  show execRefLost r s = _
  rw [execRefLost, unlessPor_of_clear hpor, refLost_eq, if_pos ((fd_lossNoted_src (srcCode_lt r) s).trans hsrc)]

theorem refLost_runs {s : State} {r : RefSrc} (hpor : s.rst.por = false) (hsrc : s.fd R.CLK_STATUS 2 1 = srcCode r) (room : RoomFor s) :
    Runs (.refLost r) s fun t => t.fd R.CLK_STATUS 2 1 = 2 ∧ t.rd R.CLK_HOLD_FRAMES = 0 ∧ Raised t Ev.REF_LOST (srcCode r)
      ∧ t.bit R.CLK_STATUS (4 + srcCode r) = false
      ∧ t.fd R.CLK_LOSS_CNT (15 + 16 * srcCode r) (16 * srcCode r)
        = min 0xFFFF (s.fd R.CLK_LOSS_CNT (15 + 16 * srcCode r) (16 * srcCode r) + 1)
      ∧ RegsKept [R.CLK_STATUS, R.CLK_LOSS_CNT, R.CLK_HOLD_FRAMES] s t ∧ SameMem s t := by
  have hroom := (lossHeld_quiet (srcCode r) s).roomFor room
  have hregs := ev_regs hroom Ev.REF_LOST (srcCode r) []
  refine ⟨_, exec_refLost hpor hsrc, ?_, ?_, ev_raised hroom .., ?_, ?_, (lossHeld_regsKept _ s).keep hregs,
    (lossHeld_quiet _ s).sameMem_ev ..⟩
  · rw [fd_of_rd_eq (rd_of_regs_eq hregs _), fd_heldOver_src]
  · rw [rd_of_regs_eq hregs, rd_heldOver_frames]
  · rw [bit_of_rd_eq (rd_of_regs_eq hregs _), bit_heldOver_valid (srcCode_lt r), bit_lossNoted_valid (srcCode_lt r)]
  · rw [fd_of_rd_eq ((rd_of_regs_eq hregs _).trans (heldOver_regsKept _ _ _ (by decide))), fd_lossNoted_count (srcCode_lt r)]

/-! The choice of a source (03 R81, R83) -/

/-- The reference monitor finds a source valid. -/
def FoundValid (s : State) (rackOk linkOk : Bool) (src : Nat) : Prop :=
  src = 0 ∧ rackOk = true ∨ src = 1 ∧ linkOk = true ∧ s.clk.lane.isSome = true

section
variable (s : State) (rackOk linkOk : Bool)

theorem refMonitor_regsKept : RegsKept [R.CLK_STATUS] s (refMonitor s rackOk linkOk) :=
  ((RegsKept.of_regs_eq _ rfl).fw (by decide) _ _ _).fw (by decide) _ _ _

theorem fd_refMonitor_src : (refMonitor s rackOk linkOk).fd R.CLK_STATUS 2 1 = s.fd R.CLK_STATUS 2 1 := by
  rw [refMonitor, fd_fw_of_disjoint _ _ _ (by decide) (by decide) (by decide) (by decide),
    fd_fw_of_disjoint _ _ _ (by decide) (by decide) (by decide) (by decide)]

theorem bit_refMonitor_cfg (n : Nat) : (refMonitor s rackOk linkOk).bit R.CLK_REF_CFG n = s.bit R.CLK_REF_CFG n :=
  bit_of_rd_eq (refMonitor_regsKept s rackOk linkOk _ (by decide)) n

theorem refConfigured_refMonitor : refConfigured (refMonitor s rackOk linkOk) = refConfigured s :=
  fd_of_rd_eq (refMonitor_regsKept s rackOk linkOk _ (by decide)) _ _

end

theorem refValid_refMonitor {s : State} {rackOk linkOk : Bool} {src : Nat} (h : FoundValid s rackOk linkOk src) :
    refValid (refMonitor s rackOk linkOk) src = true := by
  rcases h with ⟨rfl, hrack⟩ | ⟨rfl, hlink, hlane⟩
  · rw [refValid, refMonitor, bit_fw_of_disjoint _ _ _ (by decide) (by decide) (by decide),
      bit_fw (by decide) (by decide) (by decide), hrack]
    rfl
  · rw [refValid, refMonitor, bit_fw (by decide) (by decide) (by decide), hlink, hlane]
    rfl

theorem FoundValid.lt {s : State} {rackOk linkOk : Bool} {src : Nat} (h : FoundValid s rackOk linkOk src) : src < 2 := by
  rcases h with ⟨rfl, -⟩ | ⟨rfl, -⟩ <;> decide

theorem refTake_quiet (s : State) (rackOk linkOk : Bool) (src : Nat) : QuietKept s (refTake (refMonitor s rackOk linkOk) src) :=
  (((((QuietKept.refl s).fw _ _ _ _).fw _ _ _ _).fw _ _ _ _).wr _ _).uClk _

theorem refTake_regsKept (s : State) (rackOk linkOk : Bool) (src : Nat) :
    RegsKept [R.CLK_STATUS, R.CLK_HOLD_FRAMES] s (refTake (refMonitor s rackOk linkOk) src) :=
  (((((RegsKept.of_regs_eq _ rfl).fw (by decide) _ _ _).fw (by decide) _ _ _).fw (by decide) _ _ _).wr (by decide) _).keep
    (uClk_regs _ _)

theorem fd_refTake_src {src : Nat} (h : src < 2) (s : State) : (refTake s src).fd R.CLK_STATUS 2 1 = src := by
  rw [refTake, fd_of_rd_eq (rd_of_regs_eq (uClk_regs _ _) _), fd_of_rd_eq (rd_wr_ne (by decide)),
    fd_fw_same _ _ _ (by decide)]
  exact Nat.mod_eq_of_lt (by omega)

/-- A source that the monitor finds valid is selected: SRC names it, REF_SWITCH reports it, and the root is away exactly where it is not
the configured one. -/
theorem refSelect_found {s : State} {rackOk linkOk : Bool} {src : Nat} (h : FoundValid s rackOk linkOk src) (room : RoomFor s) :
    (refSelect (refMonitor s rackOk linkOk) src).fd R.CLK_STATUS 2 1 = src
      ∧ (refSelect (refMonitor s rackOk linkOk) src).clk.away = (src != refConfigured s)
      ∧ Raised (refSelect (refMonitor s rackOk linkOk) src) Ev.REF_SWITCH src
      ∧ RegsKept [R.CLK_STATUS, R.CLK_HOLD_FRAMES] s (refSelect (refMonitor s rackOk linkOk) src)
      ∧ SameMem s (refSelect (refMonitor s rackOk linkOk) src) := by
  have hquiet := refTake_quiet s rackOk linkOk src
  have hroom := hquiet.roomFor room
  have hregs := ev_regs hroom Ev.REF_SWITCH src []
  refine ⟨?_, ?_, ev_raised hroom .., (refTake_regsKept s rackOk linkOk src).keep hregs, hquiet.sameMem_ev ..⟩
  · rw [refSelect, fd_of_rd_eq (rd_of_regs_eq hregs _), fd_refTake_src h.lt]
  · rw [refSelect, ev_clk, ← refConfigured_refMonitor s rackOk linkOk]
    rfl

theorem exec_refSwitch {s : State} {rackOk linkOk : Bool} (hpor : s.rst.por = false) (hold : s.fd R.CLK_STATUS 2 1 = 2)
    (halt : s.bit R.CLK_REF_CFG 8 = true) (hfound : FoundValid s rackOk linkOk (1 - s.clk.lost)) :
    exec (.refSwitch rackOk linkOk) s = .next (refSelect (refMonitor s rackOk linkOk) (1 - s.clk.lost)) := by
  have hholds : (refMonitor s rackOk linkOk).fd R.CLK_STATUS 2 1 = 2 := (fd_refMonitor_src ..).trans hold
  have hother : (refMonitor s rackOk linkOk).bit R.CLK_REF_CFG 8 = true ∧ refValid (refMonitor s rackOk linkOk) (1 - s.clk.lost) = true :=
    ⟨(bit_refMonitor_cfg ..).trans halt, refValid_refMonitor hfound⟩
  show execRefSwitch rackOk linkOk s = _
  rw [execRefSwitch, unlessPor_of_clear hpor, refChoose, if_pos hholds]
  exact congrArg _ (if_pos hother)

theorem refSwitch_runs {s : State} {rackOk linkOk : Bool} (hpor : s.rst.por = false) (hold : s.fd R.CLK_STATUS 2 1 = 2)
    (halt : s.bit R.CLK_REF_CFG 8 = true)
    (hvalid : s.clk.lost = 1 ∧ rackOk = true ∨ s.clk.lost = 0 ∧ linkOk = true ∧ s.clk.lane.isSome = true)
    (room : RoomFor s) : Runs (.refSwitch rackOk linkOk) s fun t =>
      t.fd R.CLK_STATUS 2 1 = 1 - s.clk.lost ∧ Raised t Ev.REF_SWITCH (1 - s.clk.lost)
        ∧ RegsKept [R.CLK_STATUS, R.CLK_HOLD_FRAMES] s t ∧ SameMem s t := by
  have hfound : FoundValid s rackOk linkOk (1 - s.clk.lost) :=
    hvalid.imp (fun ⟨hlost, hok⟩ => ⟨by omega, hok⟩) fun ⟨hlost, hok⟩ => ⟨by omega, hok⟩
  obtain ⟨hsrc, -, hraised, hkept, hmem⟩ := refSelect_found hfound room
  exact ⟨_, exec_refSwitch hpor hold halt hfound, hsrc, hraised, hkept, hmem⟩

theorem exec_refRevert {s : State} {rackOk linkOk : Bool} (hpor : s.rst.por = false) (hrevert : s.bit R.CLK_REF_CFG 9 = true)
    (haway : s.clk.away = true) (hfound : FoundValid s rackOk linkOk (refConfigured s)) :
    exec (.refRevert rackOk linkOk) s = .next (refSelect (refMonitor s rackOk linkOk) (refConfigured s)) := by
  have hback : (refMonitor s rackOk linkOk).bit R.CLK_REF_CFG 9 = true ∧ (refMonitor s rackOk linkOk).clk.away = true
      ∧ refValid (refMonitor s rackOk linkOk) (refConfigured s) = true :=
    ⟨(bit_refMonitor_cfg ..).trans hrevert, haway, refValid_refMonitor hfound⟩
  show execRefRevert rackOk linkOk s = _
  rw [execRefRevert, unlessPor_of_clear hpor]
  simp only [refConfigured_refMonitor]
  exact congrArg _ (if_pos hback)

theorem refRevert_runs {s : State} {rackOk linkOk : Bool} (hpor : s.rst.por = false) (hrevert : s.bit R.CLK_REF_CFG 9 = true)
    (haway : s.clk.away = true) (hfound : FoundValid s rackOk linkOk (refConfigured s)) (room : RoomFor s) :
    Runs (.refRevert rackOk linkOk) s fun t =>
      t.fd R.CLK_STATUS 2 1 = refConfigured s ∧ t.clk.away = false ∧ Raised t Ev.REF_SWITCH (refConfigured s)
        ∧ RegsKept [R.CLK_STATUS, R.CLK_HOLD_FRAMES] s t ∧ SameMem s t := by
  obtain ⟨hsrc, hat, hrest⟩ := refSelect_found hfound room
  exact ⟨_, exec_refRevert hpor hrevert haway hfound, hsrc, hat.trans (bne_self_eq_false _), hrest⟩

/-! Holdover (03 R82, R100) -/

/-- Another 1,000 frames of holdover are counted. -/
def holdReached (s : State) : State :=
  (s.uClk fun c => { c with said := c.said + 1 }).wr R.CLK_HOLD_FRAMES
    (min 0xFFFFFFFF (max (s.rd R.CLK_HOLD_FRAMES) (1000 * (s.clk.said + 1))))

theorem exec_holdover {s : State} (hold : s.fd R.CLK_STATUS 2 1 = 2) :
    exec .holdover s = .next ((holdReached s).ev Ev.HOLDOVER 0 [(holdReached s).rd R.CLK_HOLD_FRAMES]) := by
  show execHoldover s = _
  rw [execHoldover, if_pos hold]
  rfl

theorem holdover_runs {s : State} (hold : s.fd R.CLK_STATUS 2 1 = 2) (room : RoomFor s) : Runs .holdover s fun t =>
    t.rd R.CLK_HOLD_FRAMES = min 0xFFFFFFFF (max (s.rd R.CLK_HOLD_FRAMES) (1000 * (s.clk.said + 1))) ∧ Raised t Ev.HOLDOVER 0
      ∧ RegsKept [R.CLK_HOLD_FRAMES] s t ∧ SameMem s t := by
  have hquiet : QuietKept s (holdReached s) := ((QuietKept.refl s).uClk _).wr _ _
  have hroom := hquiet.roomFor room
  have hkept : RegsKept [R.CLK_HOLD_FRAMES] s (holdReached s) := (RegsKept.of_regs_eq _ (uClk_regs _ _)).wr (by decide) _
  refine ⟨_, exec_holdover hold, ?_, ev_raised hroom .., hkept.keep (ev_regs hroom ..), hquiet.sameMem_ev ..⟩
  rw [rd_of_regs_eq (ev_regs hroom ..), holdReached, rd_wr, if_pos rfl]
  exact Nat.mod_eq_of_lt (by omega)

/-- Settles O10: lock, loss and selection write SRC in CLK_STATUS before their event, the monitor's findings stand in bits beside SRC,
and no event with room writes a register. -/
theorem rootClockFollowsItsReferences : Obligations.RootClockFollowsItsReferences :=
  ⟨fun _ => rootPllLock_runs, fun _ => rootLockTimeout_runs, fun _ _ => refLost_runs, fun _ _ _ => refSwitch_runs,
    fun _ => holdover_runs, fun _ _ _ => refRevert_runs⟩

end Sys2Proof.Machine
end

section
/-! A step correction of CT (03 R88; 04 R121, R123), VHTR_SENSE (02 R53), and the state after a power-on reset (03 R93). -/

namespace Sys2Proof.Machine

/-! The events that wait (25 R625, R626) -/

theorem evInsert_keeps {qs : List EvRec} {q : EvRec} (h : q ∈ qs) (r : EvRec) : q ∈ evInsert qs r := by
  induction qs with
  | nil => cases h
  | cons x xs ih =>
    unfold evInsert
    split_ifs
    · exact List.mem_cons_of_mem _ h
    · rcases List.mem_cons.mp h with rfl | h
      · exact List.mem_cons_self
      · exact List.mem_cons_of_mem _ (ih h)

/-- A raised event stays raised when another comes: merging keeps its code and source, and a queue without room drops only the newcomer
(25 R625, R626). -/
theorem raised_ev {s : State} {code src : Nat} (h : Raised s code src) (code' src' : Nat) (args : List Nat) :
    Raised (s.ev code' src' args) code src := by
  obtain ⟨r, hr, hcode, hsrc⟩ := h
  unfold State.ev
  split_ifs
  · refine ⟨_, List.mem_map_of_mem hr, ?_⟩
    split_ifs <;> exact ⟨hcode, hsrc⟩
  · exact ⟨r, hr, hcode, hsrc⟩
  · exact ⟨r, evInsert_keeps hr _, hcode, hsrc⟩

/-! The step -/

theorem wrapN_lt (n : Nat) (x : Int) : wrapN n x < 2 ^ n := by
  have hpos : (0 : Int) < ((2 ^ n : Nat) : Int) := by exact_mod_cast Nat.two_pow_pos n
  have hnonneg := Int.emod_nonneg x hpos.ne'
  have hlt := Int.emod_lt_of_pos x hpos
  unfold wrapN
  omega

theorem rd64_of_rd_eq {s t : State} {off : Nat} (hlo : t.rd off = s.rd off) (hhi : t.rd (off + 4) = s.rd (off + 4)) :
    t.rd64 off = s.rd64 off := by rw [State.rd64, State.rd64, hlo, hhi]

/-- CT has moved, with the notes that wait on it, and the step is no longer pending. -/
def ctMoved (d : Int) (s : State) : State :=
  ((s.uCt fun _ => BitVec.ofInt 64 ((s.now : Int) + d)).uTime fun t => { t with pending := none, landed := s.ticks }).uPwr
    fun p => { p with notes := p.notes.map fun n => { n with start := ((n.start : Int) + d).toNat } }

/-- One lease's deadline moves with the step, if it is set. -/
def shiftDeadline (d : Int) (off : Nat) (s : State) : State :=
  if s.rd64 off = 0 then s else s.wr64 off (wrapN 64 ((s.rd64 off : Int) + d))

theorem shiftDeadlines_eq (d : Int) (s : State) : shiftDeadlines d s
    = shiftDeadline d R.SCRIBE_LEASE_EXP_LO (if s.bit R.CL_STATUS 31 then shiftDeadline d R.CL_LEASE_EXP_LO s else s) := rfl

theorem shiftDeadline_cases (d : Int) (off : Nat) (s : State) :
    shiftDeadline d off s = s ∨ ∃ v, shiftDeadline d off s = s.wr64 off v := by
  unfold shiftDeadline
  split_ifs
  · exact .inl rfl
  · exact .inr ⟨_, rfl⟩

theorem QuietKept.shiftDeadline {s t : State} (h : QuietKept s t) (d : Int) (off : Nat) : QuietKept s (shiftDeadline d off t) := by
  rcases shiftDeadline_cases d off t with e | ⟨v, e⟩ <;> rw [e]
  · exact h
  · exact h.wr64 _ _

theorem shiftDeadline_regsKept {s t : State} {os : List Nat} {off : Nat} (h : RegsKept os s t) (hlo : off ∈ os) (hhi : off + 4 ∈ os)
    (d : Int) : RegsKept os s (shiftDeadline d off t) := by
  rcases shiftDeadline_cases d off t with e | ⟨v, e⟩ <;> rw [e]
  · exact h
  · exact h.wr64 hlo hhi _

theorem QuietKept.shiftDeadlines {s t : State} (h : QuietKept s t) (d : Int) : QuietKept s (shiftDeadlines d t) := by
  rw [shiftDeadlines_eq]
  split_ifs
  · exact (h.shiftDeadline d _).shiftDeadline d _
  · exact h.shiftDeadline d _

/-- The registers that hold deadlines. -/
def deadlineRegs : List Nat :=
  [R.SCRIBE_LEASE_EXP_LO, R.SCRIBE_LEASE_EXP_LO + 4, R.CL_LEASE_EXP_LO, R.CL_LEASE_EXP_LO + 4, R.PWR_HN_PENDING]

theorem shiftDeadlines_regsKept {s t : State} (h : RegsKept deadlineRegs s t) (d : Int) :
    RegsKept deadlineRegs s (shiftDeadlines d t) := by
  rw [shiftDeadlines_eq]
  split_ifs
  · exact shiftDeadline_regsKept (shiftDeadline_regsKept h (by decide) (by decide) d) (by decide) (by decide) d
  · exact shiftDeadline_regsKept h (by decide) (by decide) d

/-- The step is recorded and counted. -/
def stepRecorded (d : Int) (s : State) : State :=
  ((shiftDeadlines d (hnPending s)).wr64 R.TIME_LAST_STEP_LO (wrapN 64 d)).sat R.TIME_STEP_CNT 31 0 1

/-- A step of more than 8 ticks resets the decimators (03 R88). -/
def stepProofs (d : Int) (s : State) : State := if 8 < d.natAbs ∧ s.domUp 0xA5 then proofReset 2 s else s

/-- The step has been applied and reported; the decimators are still to be reset. -/
def stepRaised (d : Int) (s : State) : State :=
  (stepRecorded d (ctMoved d s)).ev Ev.TIME_STEP 0 [wrapN 64 d % 2 ^ 32, wrapN 64 d / 2 ^ 32]

theorem exec_stepCorrectionApply {s : State} {d : Int} (h : s.time.pending = some d) :
    exec .stepCorrectionApply s = .next (stepProofs d (stepRaised d s)) := by
  show execStepCorrectionApply s = _
  rw [execStepCorrectionApply, h]
  rfl

theorem stepRecorded_quiet (d : Int) (s : State) : QuietKept s (stepRecorded d s) :=
  ((((QuietKept.refl s).wr _ _).shiftDeadlines d).wr64 _ _).sat _ _ _ _

theorem rd64_stepRecorded (d : Int) (s : State) : (stepRecorded d s).rd64 R.TIME_LAST_STEP_LO = wrapN 64 d := by
  rw [stepRecorded, rd64_of_rd_eq (rd_sat_ne (by decide)) (rd_sat_ne (by decide)), rd64_wr64 _ _ (wrapN_lt 64 d)]

theorem rd_stepRecorded_count (d : Int) (s : State) :
    (stepRecorded d s).rd R.TIME_STEP_CNT = min 0xFFFFFFFF (s.rd R.TIME_STEP_CNT + 1) := by
  have hmoved : (shiftDeadlines d (hnPending s)).rd R.TIME_STEP_CNT = s.rd R.TIME_STEP_CNT :=
    shiftDeadlines_regsKept ((RegsKept.of_regs_eq _ rfl).wr (by decide) _) d _ (by decide)
  rw [stepRecorded, rd_sat_count, State.wr64, rd_wr_ne (by decide), rd_wr_ne (by decide), hmoved]

/-- A synchronising reset writes its two registers and then raises PROOF_SYNC_RESET. -/
theorem proofReset_cases (cause : Nat) (s : State) : ∃ u, QuietKept s u ∧ RegsKept [R.PROOF_STATUS, R.PROOF_SYNC_CNT] s u
    ∧ proofReset cause s = u.ev Ev.PROOF_SYNC_RESET 0 [cause] :=
  ⟨_, ((((QuietKept.refl s).uProof _).fw _ _ _ _).fw _ _ _ _).sat _ _ _ _,
    (((RegsKept.of_regs_eq (t := s.uProof _) _ rfl).fw (by decide) _ _ _).fw (by decide) _ _ _).sat (by decide) _ _ _, rfl⟩

/-- What a step's reset of the decimators leaves alone (03 R88). -/
theorem stepProofs_keeps (d : Int) (s : State) : CtKept s (stepProofs d s)
    ∧ RegsKept [R.PROOF_STATUS, R.PROOF_SYNC_CNT, R.EVT_DROP_CNT] s (stepProofs d s)
    ∧ ∀ code src, Raised s code src → Raised (stepProofs d s) code src := by
  unfold stepProofs
  split_ifs
  · obtain ⟨u, hquiet, hregs, hreset⟩ := proofReset_cases 2 s
    rw [hreset]
    refine ⟨hquiet.toCtKept.ev .., (hregs.mono (by simp)).ev (by decide) _ _ _, fun code src hraised => raised_ev ?_ ..⟩
    rwa [Raised, hquiet.evt]
  · exact ⟨.refl s, .of_regs_eq _ rfl, fun _ _ => id⟩

theorem stepCorrectionApply_runs {s : State} {d : Int} (h : s.time.pending = some d) (room : RoomFor s) :
    Runs .stepCorrectionApply s fun t =>
      t.ct = BitVec.ofInt 64 ((s.ct.toNat : Int) + d) ∧ t.ticks = s.ticks ∧ t.time.pending = none ∧ SameMem s t
        ∧ t.rd64 R.TIME_LAST_STEP_LO = wrapN 64 d ∧ t.rd R.TIME_STEP_CNT = min 0xFFFFFFFF (s.rd R.TIME_STEP_CNT + 1)
        ∧ Raised t Ev.TIME_STEP 0 := by
  have hquiet := stepRecorded_quiet d (ctMoved d s)
  have hroom := hquiet.roomFor (show RoomFor (ctMoved d s) from room)
  obtain ⟨hkept, hregs, hstays⟩ := stepProofs_keeps d (stepRaised d s)
  have hct : CtKept (ctMoved d s) (stepRaised d s) := hquiet.toCtKept.ev ..
  have hrd : ∀ o, o ∉ [R.PROOF_STATUS, R.PROOF_SYNC_CNT, R.EVT_DROP_CNT] →
      (stepProofs d (stepRaised d s)).rd o = (stepRecorded d (ctMoved d s)).rd o :=
    fun o ho => (hregs o ho).trans (rd_of_regs_eq (ev_regs hroom ..) o)
  have hmoved : SameMem s (ctMoved d s) := .of_eq rfl rfl rfl
  refine ⟨_, exec_stepCorrectionApply h, hkept.ct.trans hct.ct, hkept.ticks.trans hct.ticks, ?_,
    hmoved.trans (hct.sameMem.trans hkept.sameMem), ?_, ?_, hstays _ _ (ev_raised hroom ..)⟩
  · rw [hkept.time, hct.time]
    rfl
  · rw [rd64_of_rd_eq (hrd _ (by decide)) (hrd _ (by decide)), rd64_stepRecorded]
  · rw [hrd _ (by decide), rd_stepRecorded_count]
    rfl

theorem exec_stepCorrectionApply_none {s : State} (h : s.time.pending = none) : exec .stepCorrectionApply s = .next s := by
  show execStepCorrectionApply s = _
  rw [execStepCorrectionApply, h]
  rfl

/-! VHTR_SENSE (02 R53) -/

/-- A reading lies outside 2.8 to 3.8 V. -/
def senseOut (mv : Nat) : Bool := mv < 2800 || 3800 < mv

theorem senseOut_iff (mv : Nat) : senseOut mv = true ↔ mv < 2800 ∨ 3800 < mv := by simp [senseOut]

/-- The sample stands for the rail, or 3.3 V for it; the supply term goes on with its frame (09 R246). -/
def sensed (mv : Nat) (s : State) : State := s.uPins fun p => { p with
  vhtr := if senseOut mv then 3300 else mv, vhtrOut := senseOut mv,
  vsqWas := if p.vsqFrame = s.now / 8000 then p.vsqWas else p.vsqNew, vsqNew := vsqOf mv, vsqFrame := s.now / 8000 }

/-- The reading's leaving or entering the range is reported. -/
def senseReported (mv : Nat) (s : State) : State :=
  if senseOut mv != s.pins.vhtrOut then (sensed mv s).ev Ev.VHTR_SENSE_RANGE 0 [mv] else sensed mv s

theorem exec_vhtrSenseSample {s : State} (hpor : s.rst.por = false) (mv : Nat) :
    exec (.vhtrSenseSample mv) s = .next (senseReported mv s) := by
  show execVhtrSenseSample mv s = _
  rw [execVhtrSenseSample, unlessPor_of_clear hpor]
  rfl

theorem ev_pins (s : State) (code src : Nat) (args : List Nat) : (s.ev code src args).pins = s.pins := by
  unfold State.ev
  split_ifs <;> rfl

theorem senseReported_pins (mv : Nat) (s : State) : (senseReported mv s).pins = (sensed mv s).pins := by
  unfold senseReported
  split_ifs
  · exact ev_pins ..
  · rfl

theorem vhtrSenseSample_runs {s : State} (mv : Nat) (hpor : s.rst.por = false) (room : RoomFor s) : Runs (.vhtrSenseSample mv) s fun t =>
    t.pins.vhtr = (if 2800 ≤ mv ∧ mv ≤ 3800 then mv else 3300) ∧ (t.pins.vhtrOut = true ↔ mv < 2800 ∨ 3800 < mv)
      ∧ (t.pins.vhtrOut ≠ s.pins.vhtrOut → Raised t Ev.VHTR_SENSE_RANGE 0) ∧ t.regs = s.regs ∧ SameMem s t := by
  have hroom : RoomFor (sensed mv s) := room
  have hmem : SameMem s (sensed mv s) := .of_eq rfl rfl rfl
  refine ⟨_, exec_vhtrSenseSample hpor mv, ?_, ?_, fun hcross => ?_, ?_, ?_⟩
  · rw [senseReported_pins]
    show (if senseOut mv then 3300 else mv) = _
    simp only [senseOut_iff]
    split_ifs <;> omega
  · rw [senseReported_pins]
    exact senseOut_iff mv
  · rw [senseReported_pins] at hcross
    have hcrossed : (senseOut mv != s.pins.vhtrOut) = true := bne_iff_ne.mpr hcross
    rw [senseReported, if_pos hcrossed]
    exact ev_raised hroom ..
  · unfold senseReported
    split_ifs
    · exact ev_regs hroom ..
    · rfl
  · unfold senseReported
    split_ifs
    · exact hmem.trans (ev_sameMem ..)
    · exact hmem

/-- Settles O15: the step's writes leave CT where the move put it, and its event outlives the decimators' reset; a sample sets VHTR's
two pins, and its crossing of the range raises the event. -/
theorem stepMovesClusterTime : Obligations.StepMovesClusterTime :=
  ⟨fun _ _ => stepCorrectionApply_runs, fun _ => exec_stepCorrectionApply_none, fun _ mv => vhtrSenseSample_runs mv⟩

/-! The state after a power-on reset (03 R93) -/

/-- Settles O58: every table of the reset state is empty, and an empty table reads as unlisted everywhere. -/
theorem resetHasItsTablesCanonical : Obligations.ResetHasItsTablesCanonical :=
  ⟨reset_tables, rfl, fun _ => rfl, fun _ => rfl, fun _ => rfl⟩

end Sys2Proof.Machine
end

section
/-! One step (04 R104; 95): the front command, or a tick, and what a tick does where nothing of the package is at work (log 1). -/

namespace Sys2Proof.Machine

theorem step_of_front {s : State} {c : Instr} {q : List Instr} (h : s.pending = c :: q) : step s = exec c { s with pending := q } := by
  rw [step, h]
  rfl

theorem step_of_idle {s : State} (h : s.pending = []) : step s = .next (idleTick s) := by rw [step, h]

/-- A fold whose every step gives its start back ends where it starts. -/
theorem foldl_of_fixed {α β : Type} {f : β → α → β} {b : β} {l : List α} (h : ∀ a ∈ l, f b a = b) : l.foldl f b = b :=
  List.foldlRecOn (motive := (· = b)) l f rfl fun _ hb a ha => hb ▸ h a ha

/-! Each part of a tick, where it has nothing to do -/

/-- Where no ticket runs, no move waits for another (05 R146). -/
theorem contendTick_of_idle {s : State} (h : ∀ e ∈ s.tkt.rings, e.2.run = []) : contendTick s = s := by
  have hnone : (s.tkt.rings.flatMap fun e => e.2.run.filterMap fun x => (moveInto s e.1 x).map fun c => (e.1, x.t.idx, c)) = [] :=
    List.flatMap_eq_nil_iff.mpr fun e he => by rw [h e he]; rfl
  rw [contendTick, hnone]
  rfl

/-- No TX lane sends a stream. -/
def LanesDark (s : State) : Prop := ∀ p < 16, ∀ n < 18, sends s p n = false

/-- What a lane sends depends on its own register and its own state alone. -/
theorem sends_of_eq {s t : State} {p n : Nat} (hrd : t.rd (laneReg true p n) = s.rd (laneReg true p n)) (hlnk : t.lnk = s.lnk) :
    sends t p n = sends s p n := by
  simp only [sends, State.lane, State.role, State.ls, fd_of_rd_eq hrd, hlnk]

theorem findIdxFrom_eq_none {f : Nat → Bool} {n k : Nat} (h : ∀ i, k ≤ i → i < k + n → f i = false) : findIdxFrom f n k = none := by
  induction n generalizing k with
  | zero => rfl
  | succ n ih =>
    rw [findIdxFrom, h k le_rfl (by omega), if_neg Bool.false_ne_true]
    exact ih fun i hi hn => h i (by omega) (by omega)

theorem frameMark_of_dark {s : State} (h : LanesDark s) {p : Nat} (hp : p < 16) : frameMark s p = s := by
  have hnone : (lowest 18 fun n => sends s p n && s.lane true p n == 3) = none :=
    findIdxFrom_eq_none fun n _ hn => by rw [h p hp n (by omega), Bool.false_and]
  rw [frameMark, hnone]

theorem laneFill_of_dark {s : State} (h : LanesDark s) {c : Nat} (hc : c < 288) : laneFill s c = s := by
  have hdark : sends s (c / 18) (c % 18) = false := h _ (by omega) _ (by omega)
  exact if_pos (by rw [hdark]; rfl)

/-- Where no lane sends, neither a mark nor a filler leaves (12 R319, R321). -/
theorem lanesTick_of_dark {s : State} (h : LanesDark s) : lanesTick s = s := by
  have hmarks : (List.range 16).foldl frameMark s = s := foldl_of_fixed fun p hp => frameMark_of_dark h (List.mem_range.mp hp)
  have hfills : (List.range 288).foldl laneFill s = s := foldl_of_fixed fun c hc => laneFill_of_dark h (List.mem_range.mp hc)
  rw [lanesTick, hmarks, ite_self]
  exact (congrArg (ite _ · s) hfills).trans (ite_self s)

theorem repeats_of_within {s : State} (h : s.ticks % 1600 ≠ 0) : repeats s = s := if_neg h

theorem applyTick_of_none {s : State} (h : s.repl.app = none) : applyTick s = s := by rw [applyTick, h]

theorem photonicsCheck_of_unready {s : State} (h : s.top ≠ 3 ∨ s.boot.photo ≠ 1) : photonicsCheck s = s :=
  if_neg fun ⟨htop, hphoto, _⟩ => h.elim (· htop) (· hphoto)

theorem settle_of_empty {s : State} (h : s.fab.inbox = []) : settle s = s := by
  have hdrained : drainGo 4 s = s := if_pos (by rw [h]; rfl)
  rw [settle, hdrained, ite_self]

/-- Nothing of the package is at work in the tick that has just begun, and no µs ends with it. -/
structure Resting (s : State) : Prop where
  dark : LanesDark s
  app : s.repl.app = none
  boot : s.top ≠ 3 ∨ s.boot.photo ≠ 1
  inbox : s.fab.inbox = []
  within : s.ticks % 1600 ≠ 0

/-- What a tick does once time has moved and a frame has begun. -/
def tickWork (s : State) : State :=
  let s := photonicsCheck (applyTick (repeats (lanesTick s)))
  settle (if s.ticks % tickSecond = 0 then lineSecond s else s)

theorem tickWork_of_resting {s : State} (h : Resting s) : tickWork s = s := by
  have hsecond : ¬ s.ticks % tickSecond = 0 := by
    have hwithin := h.within
    unfold tickSecond
    omega
  rw [tickWork, lanesTick_of_dark h.dark, repeats_of_within h.within, applyTick_of_none h.app, photonicsCheck_of_unready h.boot]
  exact (congrArg settle (if_neg hsecond)).trans (settle_of_empty h.inbox)

/-! A tick of a package at rest -/

/-- Time has moved by a tick. -/
def ticked (s : State) : State := (s.uCt (· + 1)).uTicks (· + 1)

/-- A frame begins, and holdover counts it (03 R86, R100). -/
def frameBegun (s : State) : State := frameBegin (holdFrame s)

theorem idleTick_of_por {s : State} (h : s.rst.por = true) : idleTick s = { s with ticks := s.ticks + 1 } := if_pos h

theorem idleTick_of_clear {s : State} (h : s.rst.por = false) : idleTick s =
    tickWork (if (ticked (contendTick s)).now % 8000 = 0 then frameBegun (ticked (contendTick s)) else ticked (contendTick s)) :=
  if_neg (by rw [h]; exact Bool.false_ne_true)

theorem holdFrame_cases (s : State) : holdFrame s = s ∨ holdFrame s = s.sat R.CLK_HOLD_FRAMES 31 0 1 :=
  (ite_eq_or_eq _ _ _).symm

theorem rd_holdFrame (s : State) : (holdFrame s).rd R.CLK_HOLD_FRAMES =
    if s.fd R.CLK_STATUS 2 1 = 2 then min 0xFFFFFFFF (s.rd R.CLK_HOLD_FRAMES + 1) else s.rd R.CLK_HOLD_FRAMES := by
  rw [holdFrame, apply_ite (State.rd · R.CLK_HOLD_FRAMES), rd_sat_count]

theorem frameBegun_regsKept (s : State) : RegsKept [R.CLK_HOLD_FRAMES] s (frameBegun s) := by
  refine RegsKept.keep (t := holdFrame s) ?_ rfl
  rcases holdFrame_cases s with h | h <;> rw [h]
  · exact .of_regs_eq _ rfl
  · exact (RegsKept.of_regs_eq _ rfl).sat (by decide) _ _ _

/-- From s to t only registers and the proof pipeline differ. -/
def FrameOnly (s t : State) : Prop := t = { s with regs := t.regs, proof := t.proof }

theorem frameBegun_only (s : State) : FrameOnly s (frameBegun s) := by
  unfold FrameOnly frameBegun
  rcases holdFrame_cases s with h | h <;> rw [h] <;> rfl

theorem frameBegun_proof (s : State) :
    (frameBegun s).proof = { s.proof with frame := s.proof.frame + 1, was := s.proof.tag, tag := s.now / 8000 } := by
  unfold frameBegun
  rcases holdFrame_cases s with h | h <;> rw [h] <;> rfl

theorem Resting.of_frameBegun {s : State} (h : Resting s) : Resting (frameBegun s) := by
  obtain ⟨hdark, happ, hboot, hinbox, hwithin⟩ := h
  have hregs := frameBegun_regsKept s
  have honly := frameBegun_only s
  refine ⟨fun p hp n hn => ?_, by rwa [honly], ?_, by rwa [honly], by rwa [honly]⟩
  · have hreg : laneReg true p n ∉ [R.CLK_HOLD_FRAMES] := by
      simp only [laneReg, R.LNK_LANE_STATE, R.CLK_HOLD_FRAMES, List.mem_singleton]
      omega
    rw [sends_of_eq (hregs _ hreg) (by rw [honly])]
    exact hdark p hp n hn
  · rwa [State.top, fd_of_rd_eq (hregs _ (by decide)), show (frameBegun s).boot = s.boot by rw [honly]]

/-- A tick of a package at rest moves time, and begins a frame where one is due. -/
theorem idleTick_of_resting {s : State} (hpor : s.rst.por = false) (hruns : ∀ e ∈ s.tkt.rings, e.2.run = [])
    (hrest : Resting (ticked s)) :
    idleTick s = if (s.ct + 1).toNat % 8000 = 0 then frameBegun (ticked s) else ticked s := by
  rw [idleTick_of_clear hpor, contendTick_of_idle hruns]
  show tickWork (if (s.ct + 1).toNat % 8000 = 0 then _ else _) = _
  split_ifs
  · exact tickWork_of_resting hrest.of_frameBegun
  · exact tickWork_of_resting hrest

/-- Settles O57: each part of a tick gives back the state it has nothing to do in, so that a tick of a package at rest is the move of
time and the frame that begins with it. -/
theorem stepRunsTheFrontCommand : Obligations.StepRunsTheFrontCommand := by
  refine ⟨fun s c q => step_of_front, fun s hidle hpor => ?_, fun s hidle hpor hruns hdark happ hboot hinbox hwithin => ?_⟩
  · rw [step_of_idle hidle, idleTick_of_por hpor]
  · have htick := idleTick_of_resting hpor hruns (s := s) ⟨hdark, happ, hboot, hinbox, hwithin⟩
    refine ⟨fun hframe => ?_, fun hframe => ⟨frameBegun (ticked s), ?_, ?_⟩⟩
    · rw [step_of_idle hidle, htick, if_neg hframe]
      rfl
    · rw [step_of_idle hidle, htick, if_pos hframe]
    · have honly := frameBegun_only (ticked s)
      have hproof := frameBegun_proof (ticked s)
      exact ⟨by rw [honly]; rfl, by rw [honly]; rfl, by rw [honly]; exact hidle, by rw [hproof]; rfl, by rw [hproof]; rfl,
        rd_holdFrame (ticked s), by rw [honly]; rfl, by rw [honly]; rfl, frameBegun_regsKept (ticked s),
        .of_eq (by rw [honly]; rfl) (by rw [honly]; rfl) (by rw [honly]; rfl)⟩

end Sys2Proof.Machine
end

section
/-! Cluster time (04): the two-way exchange, its servo and its discards (R114–R118, R132), candidates, UNSYNCED and the PTM dialogue
(R125, R127, R130, R131; 22 R587). -/

namespace Sys2Proof

open Machine

theorem RegsKept.trans {os : List Nat} {s t u : State} (h : RegsKept os s t) (g : RegsKept os t u) : RegsKept os s u :=
  fun o ho => (g o ho).trans (h o ho)

end Sys2Proof

namespace Sys2Proof.Machine

/-- From s to t only registers, the time discipline and the outputs differ. -/
def SyncOnly (s t : State) : Prop := t = { s with regs := t.regs, time := t.time, out := t.out }

namespace SyncOnly

variable {s t u : State}

theorem refl (s : State) : SyncOnly s s := rfl

theorem trans (h : SyncOnly s t) (g : SyncOnly t u) : SyncOnly s u := by
  unfold SyncOnly at *
  rw [g, h]

theorem wr (h : SyncOnly s t) (off v : Nat) : SyncOnly s (t.wr off v) := h.trans rfl

theorem wr64 (h : SyncOnly s t) (off v : Nat) : SyncOnly s (t.wr64 off v) := h.trans rfl

theorem fw (h : SyncOnly s t) (off hi lo v : Nat) : SyncOnly s (t.fw off hi lo v) := h.trans rfl

theorem sat (h : SyncOnly s t) (off hi lo n : Nat) : SyncOnly s (t.sat off hi lo n) := h.trans rfl

theorem uTime (h : SyncOnly s t) (g : TimeSt → TimeSt) : SyncOnly s (t.uTime g) := h.trans rfl

theorem emit (h : SyncOnly s t) (o : Out) : SyncOnly s (t.emit o) := h.trans rfl

theorem ct (h : SyncOnly s t) : t.ct = s.ct := by rw [h]

theorem sameMem (h : SyncOnly s t) : SameMem s t := .of_eq (by rw [h]) (by rw [h]) (by rw [h])

theorem roomFor (h : SyncOnly s t) (room : RoomFor s) : RoomFor t := by rwa [RoomFor, show t.evt = s.evt by rw [h]]

/-- An event after such writes leaves the memories too. -/
theorem sameMem_ev (h : SyncOnly s t) (code src : Nat) (args : List Nat) : SameMem s (t.ev code src args) :=
  h.sameMem.trans (ev_sameMem ..)

end SyncOnly

theorem uTime_wr (s : State) (g : TimeSt → TimeSt) (off v : Nat) : (s.uTime g).wr off v = (s.wr off v).uTime g := rfl

theorem uTime_uTime (s : State) (g f : TimeSt → TimeSt) : (s.uTime g).uTime f = s.uTime fun t => f (g t) := rfl

theorem wrapN_mod (n : Nat) (x : Int) : wrapN n x % 2 ^ n = wrapN n x := Nat.mod_eq_of_lt (wrapN_lt n x)

/-! A request leaves, and is answered (R114, R115) -/

/-- A member that disciplines to its first candidate keeps it while it is usable (R127). -/
theorem chooseParent_of_first {s : State} {p : Nat} (htst : s.tst = 2) (hcur : s.time.cur = 0) (hu : candUsable s 0 = true)
    (hport : candPort s 0 = some p) (hparent : s.fd R.TIME_STATUS 7 4 = p) : chooseParent s = s := by
  have hfirst : firstCand (candUsable s) = some 0 := by simp [firstCand, lowest, findIdxFrom, hu]
  rw [chooseParent, if_pos (.inr (.inl htst)), hfirst]
  exact if_pos ⟨hcur.symm, by rw [hport, hparent]; rfl⟩

theorem candUsable_of_port {s : State} {i p : Nat} (h : candPort s i = some p) :
    candUsable s i = (portCarries s p && !(candAt s i).passed) := by rw [candUsable, h]

theorem candUp_of_usable {s : State} {i p : Nat} (hport : candPort s i = some p) (h : candUsable s i = true) : candUp s i = true := by
  rw [candUsable_of_port hport] at h
  rw [candUp, hport]
  exact (Bool.and_eq_true_iff.mp h).1

/-- The exchange is open, and its request has left. -/
def requested (p : Nat) (t1 : FineStamp) (s : State) : State :=
  (s.uTime fun t => { t with
    out := t.out ++ [⟨s.time.seq, p, t1, s.ticks⟩], seq := (s.time.seq + 1) % 65536, gone := t.gone.filter (· != s.time.seq) }).emit
  (.port p 5 [w32 s.time.seq, w32 (t1.ct.toNat / 2 ^ 32), w32 (t1.ct.toNat % 2 ^ 32), w32 t1.frac.toNat])

theorem exec_timeReqSend {s : State} {p : Nat} (t1 : FineStamp) (htst : s.tst = 2) (hcur : s.time.cur = 0) (hu : candUsable s 0 = true)
    (hport : candPort s 0 = some p) (hparent : s.fd R.TIME_STATUS 7 4 = p) :
    exec (.timeReqSend t1) s = .next (requested p t1 s) := by
  have haim : ¬ (s.tst = 3 ∨ s.tst = 4 ∧ candUsable s 0 = false) := by omega
  have hgoes : ¬ (s.tst = 0 ∨ s.tst = 5 ∨ candUp s 0 = false) := by simp [htst, candUp_of_usable hport hu]
  show execTimeReqSend t1 s = _
  simp only [execTimeReqSend, chooseParent_of_first htst hcur hu hport hparent, hcur, if_neg haim, if_neg hgoes, hport]
  rfl

theorem timeReqSend_runs {s : State} {p : Nat} (t1 : FineStamp) (htst : s.tst = 2) (hcur : s.time.cur = 0) (hu : candUsable s 0 = true)
    (hport : candPort s 0 = some p) (hparent : s.fd R.TIME_STATUS 7 4 = p) : Runs (.timeReqSend t1) s fun t =>
      t.out = s.out ++ [.port p 5 [w32 s.time.seq, w32 (t1.ct.toNat / 2 ^ 32), w32 (t1.ct.toNat % 2 ^ 32), w32 t1.frac.toNat]]
        ∧ t.time.out = s.time.out ++ [⟨s.time.seq, p, t1, s.ticks⟩] ∧ t.time.seq = (s.time.seq + 1) % 65536 ∧ t.regs = s.regs
        ∧ SameMem s t :=
  ⟨_, exec_timeReqSend t1 htst hcur hu hport hparent, rfl, rfl, rfl, rfl, .of_eq rfl rfl rfl⟩

/-! A discarded exchange (R117, R127) -/

/-- A discard that is not the eighth in a row is counted, and else noted in the candidate's record and HOLD's run alone. -/
theorem chargeDiscard_of_few {s : State} (h : (candAt s s.time.cur).discards < 7) : ∃ n cs,
    chargeDiscard s = (s.sat R.TIME_XCHG_DROP 31 0 1).uTime fun t => { t with holdRun := n, cands := cs } := by
  have hfew : ¬ 8 ≤ (candAt s s.time.cur).discards + 1 := by omega
  by_cases hhold : (s.sat R.TIME_XCHG_DROP 31 0 1).tst = 3
  · exact ⟨0, _, (if_pos hhold).trans (if_neg hfew)⟩
  · exact ⟨s.time.holdRun, _, (if_neg hhold).trans (if_neg hfew)⟩

theorem chargeDiscard_counts {s : State} (h : (candAt s s.time.cur).discards < 7) :
    (chargeDiscard s).rd R.TIME_XCHG_DROP = min 0xFFFFFFFF (s.rd R.TIME_XCHG_DROP + 1) ∧ (chargeDiscard s).time.out = s.time.out
      ∧ RegsKept [R.TIME_XCHG_DROP] s (chargeDiscard s) ∧ SameMem s (chargeDiscard s) := by
  obtain ⟨n, cs, hcharge⟩ := chargeDiscard_of_few h
  rw [hcharge]
  exact ⟨rd_sat_count s _, rfl, ((RegsKept.of_regs_eq (t := s) _ rfl).sat (by decide) _ _ _).keep (uTime_regs _ _),
    (((SyncOnly.refl s).sat _ _ _ _).uTime _).sameMem⟩

theorem timeXchgTimeout_runs {s : State} {x : Xchg} {xs : List Xchg} (hopen : s.time.out = x :: xs)
    (hfew : (candAt s s.time.cur).discards < 7) : Runs .timeXchgTimeout s fun t =>
      t.rd R.TIME_XCHG_DROP = min 0xFFFFFFFF (s.rd R.TIME_XCHG_DROP + 1) ∧ t.time.out = xs
        ∧ RegsKept [R.TIME_XCHG_DROP] s t ∧ SameMem s t := by
  have hexec : exec .timeXchgTimeout s = .next (chargeDiscard (s.uTime fun t => { t with out := xs, gone := x.seq :: t.gone })) := by
    show execTimeXchgTimeout s = _
    rw [execTimeXchgTimeout, hopen]
    rfl
  exact ⟨_, hexec, chargeDiscard_counts (s := s.uTime _) hfew⟩

/-! A response, and the exchange it ends (R116, R117) -/

/-- The offset that an exchange measures, in 1/16 tick, corrected for the port's asymmetry (R116). -/
def offsetOf (s : State) (p : Nat) (x : Xchg) (r : TimeRsp) (t4 : FineStamp) : Int :=
  tdivI (fine r.t2 - fine x.t1 - (fine t4 - fine r.t3) - portAsym s p) 2

/-- The delay that an exchange measures, in 1/16 tick (R116). -/
def delayOf (x : Xchg) (r : TimeRsp) (t4 : FineStamp) : Int := tdivI (fine r.t2 - fine x.t1 + (fine t4 - fine r.t3)) 2

/-- A delay is near the mean of those before it, or the mean is not yet seeded (R117). -/
def delayNear (s : State) (d : Int) : Bool :=
  decide (s.time.seeded < 16) || decide (absI (d - delayMean s.time.delays) ≤ (s.fd R.TIME_CFG 23 16 : Int))

/-- An exchange is open no more. -/
def xchgClosed (x : Xchg) (s : State) : State := s.uTime fun t => { t with out := t.out.filter (· != x) }

theorem rspXchg_of_head {s : State} {x : Xchg} {xs : List Xchg} {q : Nat} (hopen : s.time.out = x :: xs) (hseq : x.seq = q) :
    rspXchg s q = some x := by
  rw [rspXchg, hopen, List.find?_cons_of_pos (by simp [hseq])]

section
variable {s : State} (p : Fin 16) {r : TimeRsp} (t4 : FineStamp)

theorem exec_timeRspReceive_gone (h : s.time.gone.contains r.seq.toNat = true) :
    exec (.timeRspReceive p r t4) s = .next (s.uTime fun t => { t with gone := t.gone.filter (· != r.seq.toNat) }) := if_pos h

theorem exec_timeRspReceive_none (hopen : s.time.out = []) (h : s.time.gone.contains r.seq.toNat = false) :
    exec (.timeRspReceive p r t4) s = .next s := by
  have hnone : rspXchg s r.seq.toNat = none := by rw [rspXchg, hopen]; rfl
  show execTimeRspReceive p r t4 s = _
  rw [execTimeRspReceive, if_neg (by rw [h]; exact Bool.false_ne_true), hnone]
  rfl

theorem exec_timeRspReceive_found {x : Xchg} (h : s.time.gone.contains r.seq.toNat = false) (hx : rspXchg s r.seq.toNat = some x) :
    exec (.timeRspReceive p r t4) s =
      if rspGood s x p.val r && delayNear s (delayOf x r t4) then
        .next (acceptXchg (xchgClosed x s) x r (offsetOf s p x r t4) (delayOf x r t4))
      else .next (chargeDiscard (xchgClosed x s)) := by
  show execTimeRspReceive p r t4 s = _
  rw [execTimeRspReceive, if_neg (by rw [h]; exact Bool.false_ne_true), hx]
  rfl

/-- A parent that is FREE, ACQUIRE or UNSYNCED gives no good response (R117). -/
theorem rspGood_of_unfit (x : Xchg) (h : r.state = 0 ∨ r.state = 1 ∨ r.state = 4) : rspGood s x p.val r = false := by
  have hunfit : (r.state.toNat == 0 || r.state.toNat == 1 || r.state.toNat == 4) = true := by
    rcases h with h | h | h <;> rw [h] <;> rfl
  rw [rspGood, hunfit, Bool.not_true, Bool.and_false]

theorem timeRspReceive_unfit_runs {x : Xchg} {xs : List Xchg} (hopen : s.time.out = x :: xs) (hseq : x.seq = r.seq.toNat)
    (hgone : s.time.gone.contains r.seq.toNat = false) (hunfit : r.state = 0 ∨ r.state = 1 ∨ r.state = 4)
    (hfew : (candAt s s.time.cur).discards < 7) : Runs (.timeRspReceive p r t4) s fun t =>
      t.rd R.TIME_XCHG_DROP = min 0xFFFFFFFF (s.rd R.TIME_XCHG_DROP + 1) ∧ t.time.out = (x :: xs).filter (· != x)
        ∧ RegsKept [R.TIME_XCHG_DROP] s t ∧ SameMem s t := by
  refine ⟨chargeDiscard (xchgClosed x s), ?_, ?_⟩
  · rw [exec_timeRspReceive_found p t4 hgone (rspXchg_of_head hopen hseq), rspGood_of_unfit p x hunfit, Bool.false_and,
      if_neg Bool.false_ne_true]
  · rw [← hopen]
    exact chargeDiscard_counts (s := xchgClosed x s) hfew

end

/-! An accepted exchange in TRACK (R117, R118, R132) -/

/-- The candidate's run of discards is over (R127). -/
def candCleared (s : State) : State := setCand s s.time.cur { candAt s s.time.cur with discards := 0 }

/-- The exchange is accepted, and its offset stands in the registers (R132). -/
def offsetTaken (r : TimeRsp) (th : Int) (s : State) : State := acceptRegs (candCleared s) r th

/-- The accepted delays have a new mean, and the attempt timer restarts where the offset is small (R117, R125). -/
def delayTaken (th : Int) (ds : List Int) (s : State) : State :=
  attemptRestart ((s.wr R.TIME_DELAY (wrapN 32 (delayMean ds))).uTime fun t => { t with
    delays := ds, seeded := satN 16 (t.seeded + 1) }) th

/-- The run of large offsets of R120 goes on or ends. -/
def runCounted (th : Int) (s : State) : State :=
  let run := if stepThresh s < absI th then s.time.run + 1 else 0
  if run = 3 ∧ s.time.pending.isNone then s.uTime fun t => { t with run := 0, pending := some (tdivI th 16) }
  else s.uTime fun t => { t with run := satN 3 run }

/-- The servo's integrator after an offset (R118). -/
def servoSum (s : State) (th : Int) : Int := clampI (-200000) 200000 (s.time.facc + th * s.fd R.TIME_SERVO_CFG 15 8)

/-- The servo's trim after an offset, held to its slew (R118). -/
def servoTrim (s : State) (th : Int) : Int :=
  let last := sgn 32 (s.rd R.CLK_ROOT_TRIM)
  let want := clampI (-200000) 200000 (servoSum s th + th * s.fd R.TIME_SERVO_CFG 7 0)
  let slew : Int := s.fd R.TIME_SERVO_CFG 23 16 * 1000
  last + clampI (-slew) slew (want - last)

theorem servo_eq (s : State) (th : Int) :
    servo s th = (s.wr R.CLK_ROOT_TRIM (wrapN 32 (servoTrim s th))).uTime fun t => { t with facc := servoSum s th } := rfl

/-- The servo's sum and trim depend on the integrator, the trim in force and the servo's settings alone. -/
theorem servo_of_eq {s t : State} (hfacc : t.time.facc = s.time.facc) (hcfg : t.rd R.TIME_SERVO_CFG = s.rd R.TIME_SERVO_CFG)
    (htrim : t.rd R.CLK_ROOT_TRIM = s.rd R.CLK_ROOT_TRIM) (th : Int) : servoSum t th = servoSum s th ∧ servoTrim t th = servoTrim s th := by
  simp only [servoTrim, servoSum, hfacc, htrim, fd_of_rd_eq hcfg, and_self]

theorem attemptRestart_eq (s : State) (th : Int) : ∃ a, attemptRestart s th = s.uTime fun t => { t with attempt := a } := by
  unfold attemptRestart
  split_ifs
  · exact ⟨_, rfl⟩
  · exact ⟨s.time.attempt, rfl⟩

theorem delayTaken_eq (th : Int) (ds : List Int) (s : State) : ∃ n a, delayTaken th ds s =
    (s.wr R.TIME_DELAY (wrapN 32 (delayMean ds))).uTime fun t => { t with delays := ds, seeded := n, attempt := a } := by
  obtain ⟨a, hrestart⟩ := attemptRestart_eq ((s.wr R.TIME_DELAY (wrapN 32 (delayMean ds))).uTime fun t => { t with
    delays := ds, seeded := satN 16 (t.seeded + 1) }) th
  exact ⟨satN 16 (s.time.seeded + 1), a, hrestart⟩

theorem runCounted_eq (th : Int) (s : State) : ∃ n q, runCounted th s = s.uTime fun t => { t with run := n, pending := q } := by
  unfold runCounted
  extract_lets run
  split_ifs
  · exact ⟨_, _, rfl⟩
  · exact ⟨_, s.time.pending, rfl⟩

theorem tst_of_rd_eq {s t : State} (h : t.rd R.TIME_STATUS = s.rd R.TIME_STATUS) : t.tst = s.tst := fd_of_rd_eq h _ _

/-- What a member's accepted exchange writes of its offset (R132). -/
def offsetWritten (r : TimeRsp) (th : Int) (s : State) : State :=
  ((s.wr R.TIME_OFFSET (wrapN 32 (clampI (-2147483648) 2147483647 th))).fw R.TIME_STATUS 29 16 r.root.toNat).fw R.TIME_STATUS 12 8
    (r.depth.toNat + 1)

/-- An accepted exchange has been measured; the servo is still to act on it. -/
def measured (r : TimeRsp) (th d : Int) (s : State) : State :=
  delayTaken th ((d :: s.time.delays).take 16) (offsetTaken r th s)

/-- The servo acts on an offset, and the run of large offsets goes on or ends. -/
def steered (th : Int) (s : State) : State := runCounted th (servo s th)

section
variable (r : TimeRsp) (th d : Int) {s : State}

theorem offsetTaken_of_member (h : s.tst ≠ 5) : ∃ cs, offsetTaken r th s =
    (offsetWritten r th s).uTime fun t => { t with cands := cs, root := r.root.toNat } := by
  have hmember : ¬ ((candCleared s).wr R.TIME_OFFSET (wrapN 32 (clampI (-2147483648) 2147483647 th))).tst = 5 := by
    rwa [tst_of_rd_eq (rd_wr_ne (by decide))]
  refine ⟨(candCleared s).time.cands, ?_⟩
  rw [offsetTaken, acceptRegs, if_neg hmember]
  rfl

theorem measured_of_member (h : s.tst ≠ 5) : ∃ cs n a, measured r th d s =
    ((offsetWritten r th s).wr R.TIME_DELAY (wrapN 32 (delayMean ((d :: s.time.delays).take 16)))).uTime fun t => { t with
      cands := cs, root := r.root.toNat, delays := (d :: s.time.delays).take 16, seeded := n, attempt := a } := by
  obtain ⟨cs, hoffset⟩ := offsetTaken_of_member r th h
  obtain ⟨n, a, hdelay⟩ := delayTaken_eq th ((d :: s.time.delays).take 16) (offsetTaken r th s)
  refine ⟨cs, n, a, ?_⟩
  rw [measured, hdelay, hoffset, uTime_wr, uTime_uTime]

theorem steered_eq (s : State) : ∃ n q, steered th s = (s.wr R.CLK_ROOT_TRIM (wrapN 32 (servoTrim s th))).uTime fun t => { t with
    facc := servoSum s th, run := n, pending := q } := by
  obtain ⟨n, q, hrun⟩ := runCounted_eq th (servo s th)
  exact ⟨n, q, hrun⟩

theorem track_of_tst_two (h : s.tst = 2) : track s th = steered th s := by
  obtain ⟨n, q, hsteered⟩ := steered_eq th s
  have htrack : ¬ (steered th s).tst = 4 := by
    rw [hsteered, tst_of_rd_eq (rd_of_regs_eq (uTime_regs _ _) _), tst_of_rd_eq (rd_wr_ne (by decide)), h]
    decide
  exact if_neg htrack

end

theorem offsetWritten_regsKept (r : TimeRsp) (th : Int) (s : State) : RegsKept [R.TIME_OFFSET, R.TIME_STATUS] s (offsetWritten r th s) :=
  (((RegsKept.of_regs_eq _ rfl).wr (by decide) _).fw (by decide) _ _ _).fw (by decide) _ _ _

theorem rd_offsetWritten_offset (r : TimeRsp) (th : Int) (s : State) :
    (offsetWritten r th s).rd R.TIME_OFFSET = wrapN 32 (clampI (-2147483648) 2147483647 th) := by
  rw [offsetWritten, rd_fw_ne _ _ _ _ (by decide), rd_fw_ne _ _ _ _ (by decide), rd_wr, if_pos rfl, wrapN_mod]

theorem fd_offsetWritten_root (r : TimeRsp) (th : Int) (s : State) : (offsetWritten r th s).fd R.TIME_STATUS 29 16 = r.root.toNat := by
  rw [offsetWritten, fd_fw_of_disjoint _ _ _ (by decide) (by decide) (by decide) (by decide), fd_fw_same _ _ _ (by decide)]
  exact Nat.mod_eq_of_lt r.root.isLt

theorem tst_offsetWritten (r : TimeRsp) (th : Int) (s : State) : (offsetWritten r th s).tst = s.tst := by
  rw [State.tst, offsetWritten, fd_fw_of_disjoint _ _ _ (by decide) (by decide) (by decide) (by decide),
    fd_fw_of_disjoint _ _ _ (by decide) (by decide) (by decide) (by decide), fd_of_rd_eq (rd_wr_ne (by decide))]
  rfl

/-- What the measuring of an exchange leaves: its offset, its delay, its root, and the servo as it was. -/
theorem measured_leaves (r : TimeRsp) (th d : Int) {s : State} (h : s.tst ≠ 5) :
    (measured r th d s).rd R.TIME_OFFSET = wrapN 32 (clampI (-2147483648) 2147483647 th)
      ∧ (measured r th d s).fd R.TIME_STATUS 29 16 = r.root.toNat ∧ (measured r th d s).tst = s.tst
      ∧ (measured r th d s).time.delays.head? = some d ∧ (measured r th d s).time.facc = s.time.facc
      ∧ RegsKept [R.TIME_OFFSET, R.TIME_DELAY, R.TIME_STATUS] s (measured r th d s) ∧ SyncOnly s (measured r th d s) := by
  obtain ⟨cs, n, a, hmeasured⟩ := measured_of_member r th d h
  have hrd : ∀ o, o ≠ R.TIME_DELAY → (measured r th d s).rd o = (offsetWritten r th s).rd o := fun o ho => by
    rw [hmeasured, rd_of_regs_eq (uTime_regs _ _), rd_wr_ne ho]
  refine ⟨?_, ?_, ?_, ?_, ?_, ?_, ?_⟩
  · rw [hrd _ (by decide), rd_offsetWritten_offset]
  · rw [fd_of_rd_eq (hrd _ (by decide)), fd_offsetWritten_root]
  · rw [tst_of_rd_eq (hrd _ (by decide)), tst_offsetWritten]
  · rw [hmeasured]
    rfl
  · rw [hmeasured]
    rfl
  · rw [hmeasured]
    exact (((offsetWritten_regsKept r th s).mono (by simp)).wr (by decide) _).keep (uTime_regs _ _)
  · rw [hmeasured]
    exact (((((SyncOnly.refl s).wr _ _).fw _ _ _ _).fw _ _ _ _).wr _ _).uTime _

/-- What the servo leaves of a measured exchange (R118). -/
theorem steered_leaves (th : Int) (s : State) :
    (steered th s).rd R.CLK_ROOT_TRIM = wrapN 32 (servoTrim s th) ∧ (steered th s).time.facc = servoSum s th
      ∧ (steered th s).time.delays = s.time.delays ∧ RegsKept [R.CLK_ROOT_TRIM] s (steered th s) ∧ SyncOnly s (steered th s) := by
  obtain ⟨n, q, hsteered⟩ := steered_eq th s
  rw [hsteered]
  refine ⟨?_, rfl, rfl, ?_, ((SyncOnly.refl s).wr _ _).uTime _⟩
  · rw [rd_of_regs_eq (uTime_regs _ _), rd_wr, if_pos rfl, wrapN_mod]
  · exact ((RegsKept.of_regs_eq (t := s) _ rfl).wr (by decide) _).keep (uTime_regs _ _)

/-- A member in TRACK takes an exchange that no step has overtaken, and steers its clock by it (R118, R692). -/
theorem acceptXchg_of_track {s : State} {x : Xchg} (r : TimeRsp) (th d : Int) (htst : s.tst = 2) (hpending : s.time.pending = none)
    (hlanded : s.time.landed ≤ x.tick) : acceptXchg s x r th d = steered th (measured r th d s) := by
  have hfresh : ¬ (s.time.pending.isSome = true ∨ x.tick < s.time.landed) := by
    rw [hpending]
    simpa using hlanded
  have hmember : s.tst ≠ 5 := by omega
  obtain ⟨-, -, htrack, -⟩ := measured_leaves r th d hmember
  rw [htst] at htrack
  have hacts : acceptByState (measured r th d s) (fine x.t1) th = track (measured r th d s) th := by
    rw [acceptByState, htrack]
    rfl
  rw [← track_of_tst_two th htrack, ← hacts]
  exact if_neg hfresh

theorem timeRspReceive_track_runs {s : State} (p : Fin 16) {r : TimeRsp} (t4 : FineStamp) {x : Xchg} {xs : List Xchg}
    (hopen : s.time.out = x :: xs) (hport : x.port = p.val) (hseq : x.seq = r.seq.toNat)
    (hgone : s.time.gone.contains r.seq.toNat = false) (hroot : r.root.toNat = s.fd R.CL_CFG 13 0) (hstate : r.state = 2)
    (hseeded : s.time.seeded < 16) (htst : s.tst = 2) (hpending : s.time.pending = none) (hlanded : s.time.landed ≤ x.tick) :
    Runs (.timeRspReceive p r t4) s fun t =>
      t.rd R.TIME_OFFSET = wrapN 32 (clampI (-2147483648) 2147483647 (offsetOf s p x r t4))
        ∧ t.rd R.CLK_ROOT_TRIM = wrapN 32 (servoTrim s (offsetOf s p x r t4))
        ∧ t.time.delays.head? = some (delayOf x r t4) ∧ t.time.facc = servoSum s (offsetOf s p x r t4)
        ∧ t.fd R.TIME_STATUS 29 16 = r.root.toNat ∧ t.tst = 2 ∧ t.ct = s.ct
        ∧ RegsKept [R.TIME_OFFSET, R.TIME_DELAY, R.TIME_STATUS, R.CLK_ROOT_TRIM] s t ∧ SameMem s t := by
  have hgood : rspGood s x p.val r = true := by simp [rspGood, hport, hseq, hroot, hstate]
  have hnear : delayNear s (delayOf x r t4) = true := by simp [delayNear, hseeded]
  generalize hth : offsetOf s p x r t4 = th
  have hexec : exec (.timeRspReceive p r t4) s = .next (steered th (measured r th (delayOf x r t4) (xchgClosed x s))) := by
    rw [exec_timeRspReceive_found p t4 hgone (rspXchg_of_head hopen hseq), hgood, hnear, hth,
      acceptXchg_of_track (s := xchgClosed x s) r th _ htst hpending hlanded]
    rfl
  have hmember : (xchgClosed x s).tst ≠ 5 := by
    rw [show (xchgClosed x s).tst = 2 from htst]
    decide
  obtain ⟨hoffset, hrootAt, htrack, hdelay, hfacc, hregs, honly⟩ := measured_leaves r th (delayOf x r t4) hmember
  generalize measured r th (delayOf x r t4) (xchgClosed x s) = u at *
  obtain ⟨htrim, hsum, hdelays, hkept, hsteered⟩ := steered_leaves th u
  obtain ⟨hsumEq, htrimEq⟩ := servo_of_eq hfacc (hregs R.TIME_SERVO_CFG (by decide)) (hregs R.CLK_ROOT_TRIM (by decide)) th
  have hclosed : SyncOnly s (xchgClosed x s) := (SyncOnly.refl s).uTime _
  have hall := (hclosed.trans honly).trans hsteered
  refine ⟨_, hexec, ?_, ?_, ?_, ?_, ?_, ?_, hall.ct, ?_, hall.sameMem⟩
  · rw [hkept _ (by decide), hoffset]
  · rw [htrim, htrimEq]
    rfl
  · rw [hdelays, hdelay]
  · rw [hsum, hsumEq]
    rfl
  · rw [fd_of_rd_eq (hkept _ (by decide)), hrootAt]
  · rw [tst_of_rd_eq (hkept _ (by decide)), htrack]
    exact htst
  · exact (hregs.mono (by simp)).trans (hkept.mono (by simp))

/-- Settles O16: what an accepted exchange writes before the servo, and what the servo writes of it; a discard is a count and a note in
the candidate's record. -/
theorem timeExchangeMeasuresOffsetAndDelay : Obligations.TimeExchangeMeasuresOffsetAndDelay := by
  refine ⟨fun _ _ => timeReqSend_runs, ?_, ?_, fun _ p _ t4 _ _ => timeRspReceive_unfit_runs p t4,
    fun _ p _ => exec_timeRspReceive_none p, ?_, fun _ _ _ => timeXchgTimeout_runs⟩
  · exact fun _ _ _ _ _ _ => ⟨_, rfl, rfl⟩
  · exact fun _ p _ t4 _ _ => timeRspReceive_track_runs p t4
  · exact fun _ p _ t4 hgone => ⟨_, exec_timeRspReceive_gone p t4 hgone, rfl, rfl, rfl, .of_eq rfl rfl rfl⟩

/-! Candidates and UNSYNCED (R125, R127) -/

theorem candAt_setCand_same (s : State) (i : Nat) (c : Cand) : candAt (setCand s i c) i = c := by
  show (setAt _ _ i c).getD i _ = c
  rw [getD_setAt, if_pos rfl]

theorem parentCandidateReinstate_runs {s : State} (c : Fin 3) {p : Nat} (hport : candPort s c.val = some p)
    (hcarries : portCarries s p = true) : Runs (.parentCandidateReinstate c) s fun t =>
      candUsable t c.val = true ∧ (candAt t c.val).discards = 0 ∧ t.regs = s.regs ∧ SameMem s t := by
  refine ⟨setCand s c.val ⟨0, false⟩, rfl, ?_, by rw [candAt_setCand_same], rfl, .of_eq rfl rfl rfl⟩
  rw [candUsable_of_port (s := setCand s c.val ⟨0, false⟩) hport, candAt_setCand_same,
    show portCarries (setCand s c.val ⟨0, false⟩) p = true from hcarries]
  rfl

/-- The member is UNSYNCED, and GLB_STATE shows it. -/
def wentUnsynced (s : State) : State := ((s.setTst 4).uTime fun t => { t with lockRun := 0 }).fw R.GLB_STATE 8 8 1

theorem exec_timeUnsynced {s : State} (h : s.tst = 1 ∨ s.tst = 2 ∨ s.tst = 3) :
    exec .timeUnsynced s = .next ((wentUnsynced s).ev Ev.TIME_UNSYNCED 0 []) := if_pos h

theorem tst_wentUnsynced (s : State) : (wentUnsynced s).tst = 4 := by
  rw [wentUnsynced, tst_of_rd_eq (rd_fw_ne _ _ _ _ (by decide)), tst_of_rd_eq (rd_of_regs_eq (uTime_regs _ _) _)]
  exact fd_fw_same _ _ _ (by decide)

theorem bit_wentUnsynced (s : State) : (wentUnsynced s).bit R.GLB_STATE 8 = true := by
  rw [wentUnsynced, bit_fw le_rfl le_rfl (by decide)]
  rfl

theorem top_wentUnsynced (s : State) : (wentUnsynced s).top = s.top := by
  rw [State.top, wentUnsynced, fd_fw_of_disjoint _ _ _ (by decide) (by decide) (by decide) (by decide),
    fd_of_rd_eq (rd_of_regs_eq (uTime_regs _ _) _)]
  exact fd_fw_ne (by decide)

theorem wentUnsynced_regsKept (s : State) : RegsKept [R.TIME_STATUS, R.GLB_STATE] s (wentUnsynced s) :=
  (((RegsKept.of_regs_eq (t := s) _ rfl).fw (by decide) _ _ _).keep (uTime_regs _ _)).fw (by decide) _ _ _

theorem timeUnsynced_runs {s : State} (h : s.tst = 1 ∨ s.tst = 2 ∨ s.tst = 3) (room : RoomFor s) : Runs .timeUnsynced s fun t =>
    t.tst = 4 ∧ t.bit R.GLB_STATE 8 = true ∧ t.top = s.top ∧ Raised t Ev.TIME_UNSYNCED 0
      ∧ RegsKept [R.TIME_STATUS, R.GLB_STATE] s t ∧ SameMem s t := by
  have honly : SyncOnly s (wentUnsynced s) := (((SyncOnly.refl s).fw _ _ _ _).uTime _).fw _ _ _ _
  have hroom := honly.roomFor room
  have hrd := rd_of_regs_eq (ev_regs hroom Ev.TIME_UNSYNCED 0 [])
  exact ⟨_, exec_timeUnsynced h, (tst_of_rd_eq (hrd _)).trans (tst_wentUnsynced s), (bit_of_rd_eq (hrd _) _).trans (bit_wentUnsynced s),
    (fd_of_rd_eq (hrd _) _ _).trans (top_wentUnsynced s), ev_raised hroom .., (wentUnsynced_regsKept s).keep (ev_regs hroom ..),
    honly.sameMem_ev ..⟩

/-! The PTM dialogue (R130, R131; 22 R587) -/

/-- A PTM dialogue has started. -/
def ptmBusy (s : State) : State := (s.fw R.TIME_PTM_STATUS 2 2 1).emit .ptm

theorem ptmStart_of_enabled {s : State} (hen : s.pcie.ptmEn = true) (hidle : s.bit R.TIME_PTM_STATUS 2 = false) :
    ptmStart s = ptmBusy s := by
  rw [ptmStart, if_pos hen, if_neg (by rw [hidle]; exact Bool.false_ne_true)]
  rfl

theorem ptmStart_of_disabled {s : State} (hen : s.pcie.ptmEn = false) : ptmStart s = s.ev Ev.PTM_DISABLED 0 [] :=
  if_neg (by rw [hen]; exact Bool.false_ne_true)

theorem bit_ptmBusy (s : State) : (ptmBusy s).bit R.TIME_PTM_STATUS 2 = true := by
  rw [ptmBusy, bit_of_rd_eq (rd_of_regs_eq (emit_regs _) _), bit_fw le_rfl le_rfl (by decide)]
  rfl

theorem ptmBusy_regsKept (s : State) : RegsKept [R.TIME_PTM_STATUS] s (ptmBusy s) :=
  ((RegsKept.of_regs_eq (t := s) _ rfl).fw (by decide) _ _ _).keep (emit_regs _)

theorem ptmBusy_only {s t : State} (h : SyncOnly s t) : SyncOnly s (ptmBusy t) := (h.fw _ _ _ _).emit _

/-- AUTO of a written TIME_PTM_CTL is stored; GO is still to act. -/
def ptmCtlStored (v : Nat) (s : State) : State := s.wr R.TIME_PTM_CTL (fieldOf v 15 8 * 256)

theorem rd_ptmCtlStored (v : Nat) (s : State) : (ptmCtlStored v s).rd R.TIME_PTM_CTL = fieldOf v 15 8 * 256 := by
  have hauto : fieldOf v 15 8 < 2 ^ 8 := Nat.mod_lt _ (by decide)
  rw [ptmCtlStored, rd_wr, if_pos rfl]
  exact Nat.mod_eq_of_lt (by omega)

theorem ptmCtlStored_regsKept (v : Nat) (s : State) : RegsKept [R.TIME_PTM_CTL] s (ptmCtlStored v s) :=
  (RegsKept.of_regs_eq _ rfl).wr (by decide) _

theorem ptmCtlStored_only (v : Nat) (s : State) : SyncOnly s (ptmCtlStored v s) := (SyncOnly.refl s).wr _ _

theorem exec_timePtmGo {s : State} {p : Path} (h : Reaches p s) (v : Word) :
    exec (.timePtmGo p v) s = .next (if bitOf v.toNat 0 then ptmStart (ptmCtlStored v.toNat s) else ptmCtlStored v.toNat s) :=
  through_reaches h _ _

theorem timePtmGo_runs {s : State} {p : Path} (v : Word) (h : Reaches p s) (hen : s.pcie.ptmEn = true)
    (hidle : s.bit R.TIME_PTM_STATUS 2 = false) : Runs (.timePtmGo p v) s fun t => t.bit R.TIME_PTM_STATUS 2 = bitOf v.toNat 0
      ∧ t.out = s.out ++ (if bitOf v.toNat 0 then [.ptm] else []) ∧ t.rd R.TIME_PTM_CTL = fieldOf v.toNat 15 8 * 256
      ∧ RegsKept [R.TIME_PTM_CTL, R.TIME_PTM_STATUS] s t ∧ SameMem s t := by
  have hstored := ptmCtlStored_regsKept v.toNat s
  have hstill : (ptmCtlStored v.toNat s).bit R.TIME_PTM_STATUS 2 = false := (bit_of_rd_eq (hstored _ (by decide)) 2).trans hidle
  refine ⟨_, exec_timePtmGo h v, ?_⟩
  cases bitOf v.toNat 0 with
  | false =>
    rw [if_neg Bool.false_ne_true, if_neg Bool.false_ne_true, List.append_nil]
    exact ⟨hstill, rfl, rd_ptmCtlStored .., hstored.mono (by simp), (ptmCtlStored_only ..).sameMem⟩
  | true =>
    have hkept := ptmBusy_regsKept (ptmCtlStored v.toNat s)
    rw [if_pos rfl, if_pos rfl, ptmStart_of_enabled (s := ptmCtlStored v.toNat s) hen hstill]
    exact ⟨bit_ptmBusy _, rfl, (hkept _ (by decide)).trans (rd_ptmCtlStored ..),
      (hstored.mono (by simp)).trans (hkept.mono (by simp)), (ptmBusy_only (ptmCtlStored_only ..)).sameMem⟩

theorem timePtmGo_disabled_runs {s : State} {p : Path} {v : Word} (h : Reaches p s) (hen : s.pcie.ptmEn = false)
    (hgo : bitOf v.toNat 0 = true) (room : RoomFor s) : Runs (.timePtmGo p v) s fun t =>
      Raised t Ev.PTM_DISABLED 0 ∧ t.out = s.out ∧ t.rd R.TIME_PTM_STATUS = s.rd R.TIME_PTM_STATUS
        ∧ RegsKept [R.TIME_PTM_CTL] s t ∧ SameMem s t := by
  have hroom : RoomFor (ptmCtlStored v.toNat s) := room
  have hkept := (ptmCtlStored_regsKept v.toNat s).keep (ev_regs hroom Ev.PTM_DISABLED 0 [])
  refine ⟨_, exec_timePtmGo h v, ?_⟩
  rw [if_pos hgo, ptmStart_of_disabled (s := ptmCtlStored v.toNat s) hen]
  exact ⟨ev_raised hroom .., ev_out .., hkept _ (by decide), hkept, (ptmCtlStored_only ..).sameMem_ev ..⟩

theorem ptmAutoTrigger_runs {s : State} (hauto : s.fd R.TIME_PTM_CTL 15 8 ≠ 0) (hen : s.pcie.ptmEn = true)
    (hidle : s.bit R.TIME_PTM_STATUS 2 = false) : Runs .ptmAutoTrigger s fun t => t.bit R.TIME_PTM_STATUS 2 = true
      ∧ t.out = s.out ++ [.ptm] ∧ RegsKept [R.TIME_PTM_STATUS] s t ∧ SameMem s t := by
  have hexec : exec .ptmAutoTrigger s = .next (ptmBusy s) := by
    rw [← ptmStart_of_enabled hen hidle]
    exact if_pos ⟨hauto, hen⟩
  exact ⟨_, hexec, bit_ptmBusy s, rfl, ptmBusy_regsKept s, (ptmBusy_only (.refl s)).sameMem⟩

/-- The pair is stored and VALID alone is set (R131). -/
def ptmStored (c h : Word64) (s : State) : State :=
  ((s.wr64 R.TIME_PTM_CT_LO c.toNat).wr64 R.TIME_PTM_HOST_LO h.toNat).wr R.TIME_PTM_STATUS 1

theorem ptmResponse_runs {s : State} (c h : Word64) (hbusy : s.bit R.TIME_PTM_STATUS 2 = true) : Runs (.ptmResponse c h) s fun t =>
    t.rd64 R.TIME_PTM_CT_LO = c.toNat ∧ t.rd64 R.TIME_PTM_HOST_LO = h.toNat ∧ t.rd R.TIME_PTM_STATUS = 1
      ∧ RegsKept [R.TIME_PTM_CT_LO, R.TIME_PTM_CT_LO + 4, R.TIME_PTM_HOST_LO, R.TIME_PTM_HOST_LO + 4, R.TIME_PTM_STATUS] s t
      ∧ SameMem s t := by
  have hct : RegsKept [R.TIME_PTM_HOST_LO, R.TIME_PTM_HOST_LO + 4, R.TIME_PTM_STATUS] (s.wr64 R.TIME_PTM_CT_LO c.toNat) (ptmStored c h s) :=
    ((RegsKept.of_regs_eq _ rfl).wr64 (by decide) (by decide) _).wr (by decide) _
  refine ⟨ptmStored c h s, if_pos hbusy, ?_, ?_, ?_, ?_, ((((SyncOnly.refl s).wr64 _ _).wr64 _ _).wr _ _).sameMem⟩
  · rw [rd64_of_rd_eq (hct _ (by decide)) (hct _ (by decide)), rd64_wr64 _ _ c.isLt]
  · rw [ptmStored, rd64_of_rd_eq (rd_wr_ne (by decide)) (rd_wr_ne (by decide)), rd64_wr64 _ _ h.isLt]
  · rw [ptmStored, rd_wr, if_pos rfl]
    rfl
  · exact (((RegsKept.of_regs_eq _ rfl).wr64 (by decide) (by decide) _).wr64 (by decide) (by decide) _).wr (by decide) _

theorem ptmTimeout_runs {s : State} (hbusy : s.bit R.TIME_PTM_STATUS 2 = true) (room : RoomFor s) : Runs .ptmTimeout s fun t =>
    t.bit R.TIME_PTM_STATUS 2 = false ∧ Raised t Ev.PTM_TIMEOUT 0 ∧ t.rd64 R.TIME_PTM_CT_LO = s.rd64 R.TIME_PTM_CT_LO
      ∧ RegsKept [R.TIME_PTM_STATUS] s t ∧ SameMem s t := by
  have honly : SyncOnly s (s.fw R.TIME_PTM_STATUS 2 2 0) := (SyncOnly.refl s).fw _ _ _ _
  have hroom := honly.roomFor room
  have hregs := ev_regs hroom Ev.PTM_TIMEOUT 0 []
  have hkept : RegsKept [R.TIME_PTM_STATUS] s _ := ((RegsKept.of_regs_eq (t := s) _ rfl).fw (by decide) 2 2 0).keep hregs
  refine ⟨_, if_pos hbusy, ?_, ev_raised hroom .., rd64_of_rd_eq (hkept _ (by decide)) (hkept _ (by decide)), hkept,
    honly.sameMem_ev ..⟩
  rw [bit_of_rd_eq (rd_of_regs_eq hregs _), bit_fw le_rfl le_rfl (by decide)]
  rfl

/-- Settles O17: a reinstated candidate's record is new, UNSYNCED and its mark stand before the event, and a PTM dialogue is one bit of
TIME_PTM_STATUS from its start to its response or timeout. -/
theorem timeStatesAndPtmPairs : Obligations.TimeStatesAndPtmPairs :=
  ⟨fun _ c _ => parentCandidateReinstate_runs c, fun _ => timeUnsynced_runs, fun _ _ v => timePtmGo_runs v,
    fun _ _ _ => timePtmGo_disabled_runs, fun _ => ptmAutoTrigger_runs, fun _ => ptmResponse_runs, fun _ => ptmTimeout_runs⟩

end Sys2Proof.Machine
end

section
/-! Heat notes (05 R150–R155; 20 R525): the note of a matrix ticket, what a frame boundary delivers, and a note that lapses. -/

namespace Sys2Proof.Machine

/-! A prediction for a ring with one ticket (R150) -/

theorem isBarrier_of_matrix {t : Tkt} (h : tKind t = 1) : isBarrier t = false := by simp [isBarrier, h]

theorem tUnit_of_matrix {t : Tkt} (h : tKind t = 1) : tUnit t = some 0 := by simp [tUnit, h]

/-- A matrix ticket with nothing ahead of it starts at once. -/
theorem predStart_of_free {t : Tkt} (h : tKind t = 1) (now : Nat) : predStart now ⟨[0, 0, 0], [], 0, none, none⟩ t = now := by
  simp [predStart, isBarrier_of_matrix h, tUnit_of_matrix h]

theorem predict_of_single {s : State} {r : Nat} {t : Tkt} (hq : (ringOf s r).queue = [t]) (hrun : (ringOf s r).run = [])
    (hk : tKind t = 1) : predict s r = [(t, s.now)] := by
  rw [predict, hq, hrun, List.foldl_nil, predGo, predGo, predStart_of_free hk]

/-! The note of a matrix ticket (R150, R154) -/

theorem planGo_length (base : Nat → Int) (sEff : Int) (cap : Option Nat) (fuel step : Nat) (win : List Int) (same : Nat) (xs : List PlanT) :
    (planGo base sEff cap fuel step win same xs).length = xs.length := by
  induction fuel generalizing step win same xs with
  | zero => rfl
  | succ fuel ih =>
    unfold planGo
    split_ifs
    · rfl
    · rw [ih, List.length_map]

/-- Planning gives each note its values, and leaves what identifies it. -/
theorem exists_mem_planMatrix (s : State) (others : List Note) (g : Nat) {xs : List Note} {n : Note} (h : n ∈ xs) :
    ∃ vals rest, { n with vals := vals, rest := rest } ∈ planMatrix s others g xs := by
  unfold planMatrix
  extract_lets n0 ts
  obtain ⟨i, hi, rfl⟩ := List.mem_iff_getElem.mp h
  have hts : i < ts.length := by rwa [planGo_length, List.length_map]
  have hzip : (xs[i], ts[i]) ∈ xs.zip ts := by
    rw [← List.getElem_zip (h := by rw [List.length_zip]; exact lt_min hi hts)]
    exact List.getElem_mem _
  exact ⟨_, _, List.mem_map_of_mem hzip⟩

/-- The note of a matrix ticket is among those the die plans at this tick; PWR_HN_PENDING follows. -/
theorem noteAdd_of_matrix {t : Tkt} (h : tKind t = 1) (r cycles start lead : Nat) (s : State) :
    ∃ ns, noteAdd r t cycles start lead s = hnPending (s.uPwr fun p => { p with notes := ns })
      ∧ ∃ n ∈ ns, n.ring = r ∧ n.idx = t.idx ∧ n.lead = lead ∧ n.start = start ∧ n.p = fieldOf (tktDw t 2) 15 0 := by
  have hpw : (tKind t == 6) = false := by rw [h]; rfl
  unfold noteAdd
  simp only [hpw, Bool.false_eq_true, if_false]
  refine ⟨_, rfl, ?_⟩
  obtain ⟨vals, rest, hn⟩ := exists_mem_planMatrix s _ _ (List.mem_append_right _ (List.mem_singleton_self _))
  exact ⟨_, List.mem_append_right _ hn, rfl, rfl, rfl, rfl, rfl⟩

/-- A ticket that asked for a lead and gets none is counted (R154). -/
def shortCounted (t : Tkt) (s : State) : State :=
  if 0 < fieldOf (tktDw t 2) 19 16 then s.sat R.PWR_HN_SHORT_CNT 31 0 1 else s

theorem noteEnter_now (r : Nat) (t : Tkt) (s : State) :
    noteEnter r t s.now s = noteAdd r t (tktCycles (shortCounted t s) r t) s.now 0 (shortCounted t s) := by
  simp [noteEnter, shortCounted]

theorem rd_shortCounted (t : Tkt) (s : State) : (shortCounted t s).rd R.PWR_HN_SHORT_CNT
    = min 0xFFFFFFFF (s.rd R.PWR_HN_SHORT_CNT + (if 0 < fieldOf (tktDw t 2) 19 16 then 1 else 0)) := by
  have hword := rd_lt s R.PWR_HN_SHORT_CNT
  unfold shortCounted
  split_ifs
  · exact rd_sat_count s _
  · omega

theorem shortCounted_regsKept (t : Tkt) (s : State) : RegsKept [R.PWR_HN_SHORT_CNT, R.PWR_HN_PENDING] s (shortCounted t s) := by
  unfold shortCounted
  split_ifs
  · exact RegsKept.sat (.of_regs_eq _ rfl) (by decide) _ _ _
  · exact .of_regs_eq _ rfl

theorem shortCounted_sameMem (t : Tkt) (s : State) : SameMem s (shortCounted t s) := by
  unfold shortCounted
  split_ifs <;> exact .of_eq rfl rfl rfl

theorem exec_lookaheadEntry {s : State} {r : Fin 256} {t : Tkt} (hq : (ringOf s r.val).queue = [t]) (hrun : (ringOf s r.val).run = [])
    (hbare : (ringOf s r.val).bare = []) (hbad : t.bad = false) (hk : tKind t = 1) (hnote : noteOf s r.val t.idx = none)
    (hroom : noteRoom s (dieOf r.val) s.now = true) : exec (.lookaheadEntry r) s = .next (noteEnter r.val t s.now s) := by
  have hplan : lookPlan r.val s (t, s.now) = noteEnter r.val t s.now s := by
    simp [lookPlan, isBare, hbare, hbad, hk, hnote, hroom]
  show execLookaheadEntry r s = _
  rw [execLookaheadEntry, predict_of_single hq hrun hk, List.foldl_cons, hplan]
  rfl

theorem lookaheadEntry_runs {s : State} {r : Fin 256} {t : Tkt} (hq : (ringOf s r.val).queue = [t]) (hrun : (ringOf s r.val).run = [])
    (hbare : (ringOf s r.val).bare = []) (hbad : t.bad = false) (hk : tKind t = 1) (hnote : noteOf s r.val t.idx = none)
    (hroom : noteRoom s (dieOf r.val) s.now = true) : Runs (.lookaheadEntry r) s fun u =>
      (∃ n ∈ u.pwr.notes, n.ring = r.val ∧ n.idx = t.idx ∧ n.lead = 0 ∧ n.start = s.now ∧ n.p = fieldOf (tktDw t 2) 15 0)
        ∧ u.rd R.PWR_HN_SHORT_CNT = min 0xFFFFFFFF (s.rd R.PWR_HN_SHORT_CNT + (if 0 < fieldOf (tktDw t 2) 19 16 then 1 else 0))
        ∧ RegsKept [R.PWR_HN_SHORT_CNT, R.PWR_HN_PENDING] s u ∧ SameMem s u := by
  obtain ⟨ns, hadd, hn⟩ := noteAdd_of_matrix hk r.val (tktCycles (shortCounted t s) r.val t) s.now 0 (shortCounted t s)
  have hmem : SameMem (shortCounted t s) (noteAdd r.val t (tktCycles (shortCounted t s) r.val t) s.now 0 (shortCounted t s)) := by
    rw [hadd]
    exact .of_eq rfl rfl rfl
  refine ⟨_, exec_lookaheadEntry hq hrun hbare hbad hk hnote hroom, ?_⟩
  rw [noteEnter_now]
  refine ⟨?_, ?_, ?_, (shortCounted_sameMem t s).trans hmem⟩ <;> rw [hadd]
  · exact hn
  · rw [hnPending, rd_wr_ne (by decide), rd_of_regs_eq (uPwr_regs _ _), rd_shortCounted]
  · exact ((shortCounted_regsKept t s).keep (uPwr_regs _ _)).wr (by decide) _

/-! Delivery at a frame boundary (R151, R152) -/

/-- A frame later, the remainders of the lapsed notes have decayed on. -/
def lapsedOn (s : State) : State :=
  s.uPwr fun p => { p with lapsed := (p.lapsed.map fun x => { x with k := x.k + 1 }).filter fun x => decide (x.k < x.decay) }

theorem uPwr_sameMem (s : State) (g : Pwr → Pwr) : SameMem s (s.uPwr g) := .of_eq rfl rfl rfl

/-- The registers that show HN_g: PWR_HN_Gg and each engine's. -/
def HnReg (g o : Nat) : Prop := o = R.PWR_HN_G g ∨ ∃ e < 16, o = R.STY_HN_G e g

theorem rd_wrAll (f : Nat → Nat) (w : Nat) (l : List Nat) (s : State) (o : Nat) :
    (l.foldl (fun s e => s.wr (f e) w) s).rd o = if ∃ e ∈ l, o = f e then w % 2 ^ 32 else s.rd o := by
  induction l generalizing s with
  | nil => simp
  | cons a l ih =>
    rw [List.foldl_cons, ih, rd_wr]
    by_cases hl : ∃ e ∈ l, o = f e <;> by_cases ha : o = f a <;> simp [hl, ha]

theorem rd_hnSend (g : Nat) (v : Int) (s : State) (o : Nat) [Decidable (HnReg g o)] :
    (hnSend g v s).rd o = if HnReg g o then wrapN 32 v else s.rd o := by
  rw [hnSend, rd_wrAll, rd_wr, wrapN_mod]
  by_cases hpwr : o = R.PWR_HN_G g <;> by_cases heng : ∃ e < 16, o = R.STY_HN_G e g <;> simp [HnReg, hpwr, heng]

theorem hnSend_out (g : Nat) (v : Int) (s : State) : (hnSend g v s).out = s.out :=
  List.foldlRecOn (motive := fun t : State => t.out = s.out) _ _ rfl fun _ h _ _ => h

theorem hnSend_sameMem (g : Nat) (v : Int) (s : State) : SameMem s (hnSend g v s) :=
  List.foldlRecOn (motive := SameMem s) _ _ (.of_eq rfl rfl rfl) fun _ h _ _ => h.trans (.of_eq rfl rfl rfl)

/-- No register shows both dies' values. -/
theorem HnReg.die_eq {g h o : Nat} (hg : g < 2) (hh : h < 2) (ho : HnReg g o) (ho' : HnReg h o) : g = h := by
  rcases ho with rfl | ⟨e, he, rfl⟩ <;> rcases ho' with ho' | ⟨f, hf, ho'⟩ <;>
    simp only [R.PWR_HN_G, R.STY_HN_G] at ho' <;> omega

/-- Both dies' values have been sent. -/
def hnSent (s : State) : State := hnSend 1 (hnValue s 1 (s.now / 8000)) (hnSend 0 (hnValue s 0 (s.now / 8000)) s)

theorem rd_hnSent {g o : Nat} (hg : g < 2) (ho : HnReg g o) (s : State) : (hnSent s).rd o = wrapN 32 (hnValue s g (s.now / 8000)) := by
  classical
  rw [hnSent, rd_hnSend, rd_hnSend]
  by_cases h1 : HnReg 1 o
  · rw [if_pos h1, ho.die_eq hg (by decide) h1]
  · have h0 : HnReg 0 o := by
      interval_cases g
      · exact ho
      · exact absurd ho h1
    rw [if_neg h1, if_pos h0, h0.die_eq (by decide) hg ho]

theorem rd_hnSent_ne {o : Nat} (ho : ∀ g < 2, ¬ HnReg g o) (s : State) : (hnSent s).rd o = s.rd o := by
  classical
  rw [hnSent, rd_hnSend, rd_hnSend, if_neg (ho 1 (by decide)), if_neg (ho 0 (by decide))]

/-- The notes go on from what has been sent. -/
theorem exec_heatNoteDelivery (s : State) : ∃ g, exec .heatNoteDelivery s = .next ((hnSent (lapsedOn s)).uPwr g) := ⟨_, rfl⟩

theorem hnSent_sameMem (s : State) : SameMem s (hnSent s) := (hnSend_sameMem 0 _ _).trans (hnSend_sameMem 1 _ _)

theorem heatNoteDelivery_runs (s : State) : Runs .heatNoteDelivery s fun t =>
    (∀ g < 2, ∀ o, HnReg g o → t.rd o = wrapN 32 (hnValue (lapsedOn s) g (s.now / 8000)))
      ∧ (∀ o, (∀ g < 2, ¬ HnReg g o) → t.rd o = s.rd o) ∧ SameMem s t ∧ t.out = s.out := by
  obtain ⟨f, hrun⟩ := exec_heatNoteDelivery s
  have hnow : (lapsedOn s).now = s.now := rfl
  have hmem := (uPwr_sameMem s _).trans ((hnSent_sameMem (lapsedOn s)).trans (uPwr_sameMem _ f))
  refine ⟨_, hrun, fun g hg o ho => ?_, fun o ho => ?_, hmem, ?_⟩
  · rw [rd_of_regs_eq (uPwr_regs _ _), rd_hnSent hg ho, hnow]
  · rw [rd_of_regs_eq (uPwr_regs _ _), rd_hnSent_ne ho, lapsedOn, rd_of_regs_eq (uPwr_regs _ _)]
  · rw [uPwr_out, hnSent, hnSend_out, hnSend_out, lapsedOn, uPwr_out]

/-! A lapse (R152) -/

/-- Notes leave the plan, and their last delivered values begin to decay. -/
def notesDropped (which : Note → Bool) (s : State) : State := s.uPwr fun x => { x with
  notes := x.notes.filter fun n => !which n,
  lapsed := x.lapsed ++ (s.pwr.notes.filter which).map fun n => ⟨n.die, n.last, 0, n.decay⟩ }

/-- One lapsed note's ticket waits without it, if it has not started; the lapse is reported. -/
def noteReported (cause : Nat) (s : State) (n : Note) : State :=
  (if notePending s n then loseNote n.ring n.idx s else s).ev Ev.HEAT_NOTE_LAPSE n.ring [cause]

theorem notesLapse_eq (cause : Nat) (which : Note → Bool) (s : State) :
    notesLapse cause which s = hnPending ((s.pwr.notes.filter which).foldl (noteReported cause) (notesDropped which s)) := rfl

/-- From s to t only the registers, the events and the rings differ. -/
def LapseOnly (s t : State) : Prop := t = { s with regs := t.regs, evt := t.evt, tkt := t.tkt }

theorem LapseOnly.trans {s t u : State} (h : LapseOnly s t) (g : LapseOnly t u) : LapseOnly s u := by
  unfold LapseOnly at *
  rw [g, h]

theorem ev_lapseOnly (s : State) (code src : Nat) (args : List Nat) : LapseOnly s (s.ev code src args) := by
  unfold State.ev
  split_ifs <;> rfl

theorem noteReported_keeps (cause : Nat) (s : State) (n : Note) : LapseOnly s (noteReported cause s n)
    ∧ RegsKept [R.EVT_DROP_CNT] s (noteReported cause s n) := by
  unfold noteReported
  split_ifs
  · exact ⟨LapseOnly.trans (t := loseNote n.ring n.idx s) rfl (ev_lapseOnly ..), RegsKept.ev (.of_regs_eq _ rfl) (by decide) _ _ _⟩
  · exact ⟨ev_lapseOnly .., ev_regsKept _ _ _ _⟩

/-- An event raised before a lapse is reported stays raised. -/
theorem raised_noteReported {s : State} {code src : Nat} (h : Raised s code src) (cause : Nat) (n : Note) :
    Raised (noteReported cause s n) code src := by
  unfold noteReported
  split_ifs
  · exact raised_ev (s := loseNote n.ring n.idx s) h ..
  · exact raised_ev h ..

theorem noteReported_raises {s : State} (room : RoomFor s) (cause : Nat) (n : Note) :
    Raised (noteReported cause s n) Ev.HEAT_NOTE_LAPSE n.ring := by
  unfold noteReported
  split_ifs
  · exact ev_raised (s := loseNote n.ring n.idx s) room ..
  · exact ev_raised room ..

section
variable (cause : Nat) (ns : List Note) (s : State)

theorem notesReported_keeps : LapseOnly s (ns.foldl (noteReported cause) s)
    ∧ RegsKept [R.EVT_DROP_CNT] s (ns.foldl (noteReported cause) s) := by
  induction ns generalizing s with
  | nil => exact ⟨rfl, .of_regs_eq _ rfl⟩
  | cons n ns ih =>
    obtain ⟨honly, hregs⟩ := noteReported_keeps cause s n
    obtain ⟨honly', hregs'⟩ := ih (noteReported cause s n)
    exact ⟨honly.trans honly', hregs.trans hregs'⟩

theorem raised_notesReported {code src : Nat} (h : Raised s code src) : Raised (ns.foldl (noteReported cause) s) code src :=
  List.foldlRecOn (motive := fun t => Raised t code src) ns _ h fun _ ht n _ => raised_noteReported ht cause n

end

/-- Where all of the lapsed notes are one ring's, the first of them raises HEAT_NOTE_LAPSE for it. -/
theorem notesReported_raises {ns : List Note} {n : Note} (h : n ∈ ns) {r : Nat} (hr : ∀ m ∈ ns, m.ring = r) {s : State} (room : RoomFor s)
    (cause : Nat) : Raised (ns.foldl (noteReported cause) s) Ev.HEAT_NOTE_LAPSE r := by
  cases ns with
  | nil => cases h
  | cons m ns =>
    rw [← hr m List.mem_cons_self]
    exact raised_notesReported cause ns _ (noteReported_raises room cause m)

section
variable (cause : Nat) (which : Note → Bool) (s : State)

theorem notesLapse_only : LapseOnly (notesDropped which s) (notesLapse cause which s) := by
  rw [notesLapse_eq]
  exact (notesReported_keeps cause _ _).1.trans rfl

theorem notesLapse_pwr : (notesLapse cause which s).pwr = (notesDropped which s).pwr := by rw [notesLapse_only cause which s]

theorem notesLapse_regsKept : RegsKept [R.PWR_HN_PENDING, R.EVT_DROP_CNT] s (notesLapse cause which s) := by
  have hdropped : RegsKept [R.EVT_DROP_CNT] s (notesDropped which s) := .of_regs_eq _ rfl
  rw [notesLapse_eq]
  exact ((hdropped.trans (notesReported_keeps cause _ _).2).mono (by simp)).wr (by decide) _

theorem notesLapse_sameMem : SameMem s (notesLapse cause which s) := by
  have honly := notesLapse_only cause which s
  exact .of_eq (by rw [honly]; rfl) (by rw [honly]; rfl) (by rw [honly]; rfl)

theorem raised_notesLapse {code src : Nat} (h : Raised s code src) : Raised (notesLapse cause which s) code src := by
  rw [notesLapse_eq]
  exact raised_notesReported cause _ (notesDropped which s) h

end

/-- The notes of a ring whose tickets have not started in time (R152). -/
def noteLate (s : State) (r : Nat) (n : Note) : Bool := n.ring == r && notePending s n && decide ((n.start / 8000 + 3) * 8000 ≤ s.now)

theorem heatNoteLapse_runs {s : State} {r : Fin 256} {n : Note} (hn : n ∈ s.pwr.notes) (hring : n.ring = r.val)
    (hwaits : notePending s n = true) (hlate : (n.start / 8000 + 3) * 8000 ≤ s.now) (room : RoomFor s) :
    Runs (.heatNoteLapse r 2) s fun t =>
      n ∉ t.pwr.notes ∧ (⟨n.die, n.last, 0, n.decay⟩ : Lapsed) ∈ t.pwr.lapsed ∧ Raised t Ev.HEAT_NOTE_LAPSE r.val
        ∧ RegsKept [R.PWR_HN_PENDING, R.EVT_DROP_CNT] s t ∧ SameMem s t := by
  have hgone : noteLate s r.val n = true := by simp [noteLate, hring, hwaits, hlate]
  have hmem : n ∈ s.pwr.notes.filter (noteLate s r.val) := List.mem_filter.mpr ⟨hn, hgone⟩
  have hrings : ∀ m ∈ s.pwr.notes.filter (noteLate s r.val), m.ring = r.val := fun m hm => by
    have hm' := (List.mem_filter.mp hm).2
    simp only [noteLate, Bool.and_eq_true, beq_iff_eq] at hm'
    exact hm'.1.1
  refine ⟨notesLapse 2 (noteLate s r.val) s, rfl, ?_, ?_, ?_, notesLapse_regsKept _ _ _, notesLapse_sameMem ..⟩
  · rw [notesLapse_pwr]
    exact fun hin => by simpa [hgone] using (List.mem_filter.mp hin).2
  · rw [notesLapse_pwr]
    exact List.mem_append_right _ (List.mem_map_of_mem hmem)
  · rw [notesLapse_eq]
    exact notesReported_raises hmem hrings (s := notesDropped _ s) room 2

theorem exec_heatNoteLapse_ne (s : State) (r : Fin 256) {c : Fin 5} (h : c ≠ 2) : exec (.heatNoteLapse r c) s = .next s := by
  have hval : c.val ≠ 2 := fun e => h (Fin.ext e)
  exact if_pos hval

/-- Settles O20: the one ticket of its ring is predicted to start now, so its note has no lead; a delivery writes the registers of the
two dies, which are apart; a lapse reports the ring of each note it takes from the plan. -/
theorem heatNotesArePlannedDeliveredAndLapse : Obligations.HeatNotesArePlannedDeliveredAndLapse := by
  refine ⟨fun _ _ _ => lookaheadEntry_runs, fun s => ?_, fun _ _ _ => heatNoteLapse_runs, fun s r _ => exec_heatNoteLapse_ne s r⟩
  obtain ⟨t, hrun, hsent, hkept, hrest⟩ := heatNoteDelivery_runs s
  refine ⟨t, hrun, fun g hg => ⟨hsent g hg _ (.inl rfl), fun e he => hsent g hg _ (.inr ⟨e, he, rfl⟩)⟩, fun o ho => hkept o ?_, hrest⟩
  rintro g hg (h | ⟨e, he, h⟩)
  · exact (ho g hg).1 h
  · exact (ho g hg).2 e he h

end Sys2Proof.Machine
end

section
/-! Package power and the slew governor (05 R142–R149): a frame's measurement, the cap, overload, and one governor step. -/

namespace Sys2Proof.Machine

theorem ev_pwr (s : State) (code src : Nat) (args : List Nat) : (s.ev code src args).pwr = s.pwr := by
  unfold State.ev
  split_ifs <;> rfl

/-- From s to t only registers, power state and tickets differ. -/
def PowerOnly (s t : State) : Prop := t = { s with regs := t.regs, pwr := t.pwr, tkt := t.tkt }

namespace PowerOnly

variable {s t u : State}

theorem refl (s : State) : PowerOnly s s := rfl

theorem trans (h : PowerOnly s t) (g : PowerOnly t u) : PowerOnly s u := by
  unfold PowerOnly at *
  rw [g, h]

theorem wr (h : PowerOnly s t) (off v : Nat) : PowerOnly s (t.wr off v) := h.trans rfl

theorem fw (h : PowerOnly s t) (off hi lo v : Nat) : PowerOnly s (t.fw off hi lo v) := h.trans rfl

theorem uPwr (h : PowerOnly s t) (g : Pwr → Pwr) : PowerOnly s (t.uPwr g) := h.trans rfl

theorem uGov (h : PowerOnly s t) (g : Nat) (f : Gov → Gov) : PowerOnly s (uGov g f t) := h.uPwr _

theorem evt (h : PowerOnly s t) : t.evt = s.evt := by rw [h]

theorem out (h : PowerOnly s t) : t.out = s.out := by rw [h]

theorem now (h : PowerOnly s t) : t.now = s.now := by rw [h]; rfl

theorem roomFor (h : PowerOnly s t) (room : RoomFor s) : RoomFor t := by rwa [RoomFor, h.evt]

theorem sameMem (h : PowerOnly s t) : SameMem s t := .of_eq (by rw [h]) (by rw [h]) (by rw [h])

end PowerOnly

/-! A frame's measurement (R142) -/

/-- The measurements of a frame join those of the last 200. -/
def measHeld (pkg g0 g1 : Nat) (s : State) : State :=
  uGov 1 (fun g => { g with meas := (g1 :: g.meas).take 200 }) (uGov 0 (fun g => { g with meas := (g0 :: g.meas).take 200 })
    (s.uPwr fun p => { p with meas := (pkg :: p.meas).take 200 }))

/-- An average as its register shows it. -/
def measWord (l : List Nat) : Nat := satN (2 ^ 20 - 1) (measMean l)

theorem measTake_eq (pkg g0 g1 : Nat) (s : State) : measTake pkg g0 g1 s =
    (((measHeld pkg g0 g1 s).wr R.PWR_PKG_MEAS (measWord ((pkg :: s.pwr.meas).take 200))).wr (R.PWR_DIE_MEAS_G 0)
      (measWord ((g0 :: s.pwr.g0.meas).take 200))).wr (R.PWR_DIE_MEAS_G 1) (measWord ((g1 :: s.pwr.g1.meas).take 200)) := rfl

theorem measWord_mod (l : List Nat) : measWord l % 2 ^ 32 = min (2 ^ 20 - 1) (measMean l) := by
  rw [measWord, satN_eq_min]
  exact Nat.mod_eq_of_lt (lt_of_le_of_lt (min_le_left _ _) (by decide))

/-- The measurement is recorded, and the run of frames above 1,470 W counted. -/
def frameMeasured (pkg g0 g1 : Nat) (s : State) : State :=
  (measTake pkg g0 g1 s).uPwr fun p => { p with overRun := if 23520 < pkg then min 20 (p.overRun + 1) else 0 }

section
variable (pkg g0 g1 : Nat) (s : State)

theorem frameMeasured_only : PowerOnly s (frameMeasured pkg g0 g1 s) :=
  (((((((PowerOnly.refl s).uPwr _).uGov _ _).uGov _ _).wr _ _).wr _ _).wr _ _).uPwr _

theorem frameMeasured_regsKept : RegsKept [R.PWR_PKG_MEAS, R.PWR_DIE_MEAS_G 0, R.PWR_DIE_MEAS_G 1] s (frameMeasured pkg g0 g1 s) := by
  have hheld : RegsKept [R.PWR_PKG_MEAS, R.PWR_DIE_MEAS_G 0, R.PWR_DIE_MEAS_G 1] s (measHeld pkg g0 g1 s) := .of_regs_eq _ rfl
  rw [frameMeasured, measTake_eq]
  exact (((hheld.wr (by decide) _).wr (by decide) _).wr (by decide) _).keep (uPwr_regs _ _)

theorem frameMeasured_meas : (frameMeasured pkg g0 g1 s).pwr.meas = (pkg :: s.pwr.meas).take 200 := rfl

theorem frameMeasured_notes : (frameMeasured pkg g0 g1 s).pwr.notes = s.pwr.notes := rfl

theorem bit_frameMeasured (n : Nat) : (frameMeasured pkg g0 g1 s).bit R.PWR_STATUS n = s.bit R.PWR_STATUS n :=
  bit_of_rd_eq (frameMeasured_regsKept pkg g0 g1 s _ (by decide)) n

theorem pkgLimit_frameMeasured : pkgLimit (frameMeasured pkg g0 g1 s) = pkgLimit s := by
  rw [pkgLimit, fd_of_rd_eq (frameMeasured_regsKept pkg g0 g1 s _ (by decide)), pkgLimit]

/-- The averages as the registers show them. -/
theorem rd_frameMeasured : (frameMeasured pkg g0 g1 s).rd R.PWR_PKG_MEAS = min (2 ^ 20 - 1) (measMean ((pkg :: s.pwr.meas).take 200))
    ∧ (frameMeasured pkg g0 g1 s).rd (R.PWR_DIE_MEAS_G 0) = min (2 ^ 20 - 1) (measMean ((g0 :: s.pwr.g0.meas).take 200))
    ∧ (frameMeasured pkg g0 g1 s).rd (R.PWR_DIE_MEAS_G 1) = min (2 ^ 20 - 1) (measMean ((g1 :: s.pwr.g1.meas).take 200)) := by
  refine ⟨?_, ?_, ?_⟩ <;> rw [frameMeasured, rd_of_regs_eq (uPwr_regs _ _), measTake_eq]
  · rw [rd_wr_ne (by decide), rd_wr_ne (by decide), rd_wr, if_pos rfl, measWord_mod]
  · rw [rd_wr_ne (by decide), rd_wr, if_pos rfl, measWord_mod]
  · rw [rd_wr, if_pos rfl, measWord_mod]

end

theorem exec_packagePowerMeasure {s : State} (h : s.bit R.PWR_STATUS 9 = false) (m : Rails) (g0 g1 : Nat) :
    exec (.packagePowerMeasure m g0 g1) s = .next (capTake (frameMeasured (pkgPower m g0 g1 s) g0 g1 s)) := by
  have hover : overTake (pkgPower m g0 g1 s) g0 g1 (measTake (pkgPower m g0 g1 s) g0 g1 s) = frameMeasured (pkgPower m g0 g1 s) g0 g1 s := by
    have hbit := bit_frameMeasured (pkgPower m g0 g1 s) g0 g1 s 9
    exact if_neg fun hreleased => Bool.false_ne_true (h.symm.trans (hbit.symm.trans hreleased.1))
  show execPackagePowerMeasure m g0 g1 s = _
  rw [execPackagePowerMeasure, hover]
  rfl

/-! The cap (R143) -/

theorem capTake_within {s : State} (hcap : s.bit R.PWR_STATUS 8 = false) (h : measMean s.pwr.meas ≤ pkgLimit s) : capTake s = s := by
  have hover : ¬ pkgLimit s < measMean s.pwr.meas := by omega
  rw [capTake]
  simp [hcap, hover]

/-- Each die has a cap. -/
def capSet (c0 c1 : Nat) (s : State) : State :=
  uGov 1 (fun g => { g with cap := some c1 }) (uGov 0 (fun g => { g with cap := some c0 }) s)

/-- The cap is in force, and PWR_CAP raised; the planned notes are still to lapse. -/
def capBegun (c0 c1 : Nat) (s : State) : State := ((capSet c0 c1 s).fw R.PWR_STATUS 8 8 1).ev Ev.PWR_CAP 0 []

theorem capTake_begins {s : State} (hcap : s.bit R.PWR_STATUS 8 = false) (h : pkgLimit s < measMean s.pwr.meas) :
    ∃ c0 c1, capTake s = notesLapse 3 (fun n => !n.bare) (capBegun c0 c1 s) := by
  unfold capTake
  simp only [hcap, h, if_true, Bool.false_eq_true, if_false]
  exact ⟨_, _, rfl⟩

/-- The planned notes lapse; a bare one stays. -/
theorem notesLapse_planned (cause : Nat) (s : State) :
    (notesLapse cause (fun n => !n.bare) s).pwr.notes = s.pwr.notes.filter (·.bare) := by
  rw [notesLapse_pwr]
  simp [notesDropped]

theorem packagePowerMeasure_within {s : State} (m : Rails) (g0 g1 : Nat) (hover : s.bit R.PWR_STATUS 9 = false)
    (hcap : s.bit R.PWR_STATUS 8 = false) (h : measMean ((pkgPower m g0 g1 s :: s.pwr.meas).take 200) ≤ pkgLimit s) :
    exec (.packagePowerMeasure m g0 g1) s = .next (frameMeasured (pkgPower m g0 g1 s) g0 g1 s) := by
  rw [exec_packagePowerMeasure hover, capTake_within (by rwa [bit_frameMeasured]) (by rwa [pkgLimit_frameMeasured, frameMeasured_meas])]

theorem packagePowerMeasure_above {s : State} (m : Rails) (g0 g1 : Nat) (hover : s.bit R.PWR_STATUS 9 = false)
    (hcap : s.bit R.PWR_STATUS 8 = false) (room : RoomFor s)
    (h : pkgLimit s < measMean ((pkgPower m g0 g1 s :: s.pwr.meas).take 200)) : Runs (.packagePowerMeasure m g0 g1) s fun t =>
      t.bit R.PWR_STATUS 8 = true ∧ Raised t Ev.PWR_CAP 0 ∧ t.pwr.notes = s.pwr.notes.filter (·.bare)
        ∧ t.pwr.g0.cap.isSome = true ∧ t.pwr.g1.cap.isSome = true ∧ SameMem s t := by
  have hrun := exec_packagePowerMeasure hover m g0 g1
  generalize hu : frameMeasured (pkgPower m g0 g1 s) g0 g1 s = u at hrun
  have honly : PowerOnly s u := hu ▸ frameMeasured_only _ _ _ _
  obtain ⟨c0, c1, hbegins⟩ : ∃ c0 c1, capTake u = notesLapse 3 (fun n => !n.bare) (capBegun c0 c1 u) := by
    subst hu
    exact capTake_begins (by rwa [bit_frameMeasured]) (by rwa [pkgLimit_frameMeasured, frameMeasured_meas])
  have hset : PowerOnly s ((capSet c0 c1 u).fw R.PWR_STATUS 8 8 1) := ((honly.uGov _ _).uGov _ _).fw _ _ _ _
  have hroom := hset.roomFor room
  have hpwr : (capBegun c0 c1 u).pwr = (capSet c0 c1 u).pwr := ev_pwr ..
  rw [hbegins] at hrun
  refine ⟨_, hrun, ?_, raised_notesLapse _ _ _ (ev_raised hroom ..), ?_, ?_, ?_,
    hset.sameMem.trans ((ev_sameMem ..).trans (notesLapse_sameMem ..))⟩
  · rw [bit_of_rd_eq (notesLapse_regsKept _ _ _ _ (by decide)), capBegun, bit_of_rd_eq (rd_of_regs_eq (ev_regs hroom ..) _),
      bit_fw (by decide) (by decide) (by decide)]
    rfl
  · rw [notesLapse_planned, hpwr]
    subst hu
    rfl
  · rw [notesLapse_pwr, notesDropped, uPwr_pwr, hpwr]
    rfl
  · rw [notesLapse_pwr, notesDropped, uPwr_pwr, hpwr]
    rfl

/-! Overload (R144) -/

/-- Overload is in force, and PWR_OVERLOAD raised. -/
def overloadBegun (s : State) : State := ((accrueDie 1 (accrueDie 0 s)).fw R.PWR_STATUS 9 9 1).ev Ev.PWR_OVERLOAD 0 []

/-- Both duties are zero. -/
def dutiesCut (s : State) : State := (s.fw (R.PWR_GOV_STATUS_G 0) 22 16 0).fw (R.PWR_GOV_STATUS_G 1) 22 16 0

theorem exec_pwrOverload {s : State} (hrun : 20 ≤ s.pwr.overRun) (hover : s.bit R.PWR_STATUS 9 = false) :
    exec .pwrOverload s = .next (notesLapse 4 (fun n => !n.bare) (dutiesCut (overloadBegun s))) := by
  have hgoes : ¬ (s.pwr.overRun < 20 ∨ s.bit R.PWR_STATUS 9 = true) := by simp [hover]; omega
  exact if_neg hgoes

theorem exec_pwrOverload_few {s : State} (h : s.pwr.overRun < 20) : exec .pwrOverload s = .next s := if_pos (.inl h)

theorem pwrOverload_runs {s : State} (hrun : 20 ≤ s.pwr.overRun) (hover : s.bit R.PWR_STATUS 9 = false) (room : RoomFor s) :
    Runs .pwrOverload s fun t => t.bit R.PWR_STATUS 9 = true ∧ Raised t Ev.PWR_OVERLOAD 0
      ∧ t.pwr.notes = s.pwr.notes.filter (·.bare) ∧ t.fd (R.PWR_GOV_STATUS_G 0) 22 16 = 0 ∧ t.fd (R.PWR_GOV_STATUS_G 1) 22 16 = 0
      ∧ SameMem s t := by
  have hset : PowerOnly s ((accrueDie 1 (accrueDie 0 s)).fw R.PWR_STATUS 9 9 1) :=
    PowerOnly.fw (t := accrueDie 1 (accrueDie 0 s)) rfl _ _ _ _
  have hroom := hset.roomFor room
  have hcut : PowerOnly (overloadBegun s) (dutiesCut (overloadBegun s)) := ((PowerOnly.refl _).fw _ _ _ _).fw _ _ _ _
  have hraised : Raised (dutiesCut (overloadBegun s)) Ev.PWR_OVERLOAD 0 := by
    rw [Raised, hcut.evt]
    exact ev_raised hroom ..
  have hrd : ∀ o, o ∉ [R.PWR_HN_PENDING, R.EVT_DROP_CNT] → _ := notesLapse_regsKept 4 (fun n => !n.bare) (dutiesCut (overloadBegun s))
  refine ⟨_, exec_pwrOverload hrun hover, ?_, raised_notesLapse _ _ _ hraised, ?_, ?_, ?_,
    hset.sameMem.trans ((ev_sameMem ..).trans (hcut.sameMem.trans (notesLapse_sameMem ..)))⟩
  · rw [bit_of_rd_eq (hrd _ (by decide)), dutiesCut, bit_fw_ne (by decide), bit_fw_ne (by decide), overloadBegun,
      bit_of_rd_eq (rd_of_regs_eq (ev_regs hroom ..) _), bit_fw (by decide) (by decide) (by decide)]
    rfl
  · rw [notesLapse_planned]
    show (overloadBegun s).pwr.notes.filter _ = _
    rw [overloadBegun, ev_pwr]
    rfl
  · rw [fd_of_rd_eq (hrd _ (by decide)), dutiesCut, fd_fw_ne (by decide), fd_fw_same _ _ _ (by decide)]
    rfl
  · rw [fd_of_rd_eq (hrd _ (by decide)), dutiesCut, fd_fw_same _ _ _ (by decide)]
    rfl

/-! One die's governor -/

theorem govOf_uGov_same (g : Nat) (f : Gov → Gov) (s : State) : govOf (uGov g f s) g = f (govOf s g) := by
  unfold govOf uGov
  split_ifs <;> rfl

theorem govOf_uGov_other {g h : Nat} (hne : (h = 0) ≠ (g = 0)) (f : Gov → Gov) (s : State) : govOf (uGov g f s) h = govOf s h := by
  unfold govOf uGov
  split_ifs <;> simp_all

theorem uGov_regs (g : Nat) (f : Gov → Gov) (s : State) : (uGov g f s).regs = s.regs := rfl

theorem uGov_power (g : Nat) (f : Gov → Gov) (s : State) : (uGov g f s).pwr.power = s.pwr.power := by
  unfold uGov
  split_ifs <;> rfl

theorem uGov_notes (g : Nat) (f : Gov → Gov) (s : State) : (uGov g f s).pwr.notes = s.pwr.notes := by
  unfold uGov
  split_ifs <;> rfl

/-- Both dies' effective limits lie within the field that shows them. -/
def SlewHeld (s : State) : Prop := s.pwr.g0.sEff ≤ 256 ∧ s.pwr.g1.sEff ≤ 256

theorem SlewHeld.govOf {s : State} (h : SlewHeld s) (g : Nat) : (govOf s g).sEff ≤ 256 := by
  unfold Machine.govOf
  split_ifs
  · exact h.1
  · exact h.2

theorem SlewHeld.wr {s : State} (h : SlewHeld s) (off v : Nat) : SlewHeld (s.wr off v) := h

theorem SlewHeld.uGov {s : State} (h : SlewHeld s) (g : Nat) {f : Gov → Gov} (hf : ∀ x, x.sEff ≤ 256 → (f x).sEff ≤ 256) :
    SlewHeld (uGov g f s) := by
  unfold Machine.uGov
  split_ifs
  · exact ⟨hf _ h.1, h.2⟩
  · exact ⟨h.1, hf _ h.2⟩

theorem slewOf_le (s : State) (g : Nat) : slewOf s g ≤ 256 := by
  unfold slewOf
  omega

/-- The effective limit is S, or less where the headroom lies below the knee, but never below 4 (R149). -/
theorem seffOf_le (s : State) (g : Nat) : seffOf s g ≤ 256 := by
  unfold seffOf
  extract_lets h k
  split_ifs with hknee
  · exact slewOf_le s g
  · have hscaled : slewOf s g * h / k ≤ slewOf s g := Nat.div_le_of_le_mul (by rw [Nat.mul_comm k]; exact Nat.mul_le_mul_left _ (by omega))
    have hslew := slewOf_le s g
    omega

/-- Duty is between 0 and 64 (R145). -/
theorem dutyOf_bounds (room scal : Int) : 0 ≤ dutyOf room scal ∧ dutyOf room scal ≤ 64 := by
  unfold dutyOf clampI
  split_ifs <;> omega

/-! One die's step (R145, R146, R149) -/

/-- At a frame's first step the effective limit follows the headroom (R149). -/
def slewTaken (g : Nat) (s : State) : State :=
  if s.now % 8000 < 1600 then uGov g (fun x => { x with sEff := seffOf s g }) s else s

/-- A die before its step is set: cycles counted, effective limit and power tickets at this step. -/
def govReady (g : Nat) (s : State) : State := powerStep g (stepOf s.now) (slewTaken g (accrueDie g s))

/-- The declared power of the tickets that the duty throttles. -/
def dieScalable (s : State) (g : Nat) : Int := (throttledOn s g).foldl (fun a x => a + (declared s x.2.t : Int)) 0

/-- The planned power of the throttled tickets at a step. -/
def diePlanned (s : State) (g step : Nat) : Int := (throttledOn s g).foldl (fun a x => a + (plannedOf s step x).getD 0) 0

/-- The demand of the throttled tickets that no plan carries. -/
def dieBare (s : State) (g step : Nat) : Int :=
  (throttledOn s g).foldl (fun a x => a + (if (plannedOf s step x).isSome then 0 else pu (declared s x.2.t))) 0

/-- The power the governor admits at a step. -/
def dieAdmits (s : State) (g step : Nat) : Int :=
  capped (govOf s g).cap (fixedOf s g + diePlanned s g step
    + min (dieBare s g step) (max 0 (ceilOf s g - fixedOf s g - diePlanned s g step)))

/-- The duty of a step, 0 in overload. -/
def dieDuty (s : State) (g step : Nat) : Int :=
  if s.bit R.PWR_STATUS 9 then 0 else dutyOf (dieAdmits s g step - fixedOf s g) (dieScalable s g)

/-- PWR_GOV_STATUS_Gg under a duty. -/
def govWord (s : State) (g : Nat) (d : Int) : Nat :=
  2 ^ 31 * b2n (decide ((govOf s g).sEff < slewOf s g)) + 2 ^ 30 * b2n (govOf s g).cap.isSome + 65536 * d.toNat + (govOf s g).sEff

/-- The admitted power is recorded. -/
def govRecord (g : Nat) (h : Int) (s : State) : State := uGov g (fun x => { x with hist := (h :: x.hist).take 100, given := 0 }) s

/-- A step is set: the admitted power recorded, the status shown. -/
def govSet (g : Nat) (d h : Int) (s : State) : State :=
  (govRecord g h s).wr (R.PWR_GOV_STATUS_G g) (govWord (govRecord g h s) g d)

theorem govStep_eq (g : Nat) (s : State) : govStep g s =
    govSet g (dieDuty (govReady g s) g (stepOf s.now))
      (fixedOf (govReady g s) g + dieDuty (govReady g s) g (stepOf s.now) * dieScalable (govReady g s) g) (govReady g s) := rfl

theorem dieDuty_bounds (s : State) (g step : Nat) : 0 ≤ dieDuty s g step ∧ dieDuty s g step ≤ 64 := by
  unfold dieDuty
  split_ifs
  · decide
  · exact dutyOf_bounds _ _

section
variable (g : Nat) (s : State)

theorem slewTaken_cases : slewTaken g s = s ∨ slewTaken g s = uGov g (fun x => { x with sEff := seffOf s g }) s := by
  unfold slewTaken
  split_ifs
  · exact .inr rfl
  · exact .inl rfl

theorem slewTaken_only : PowerOnly s (slewTaken g s) := by
  rcases slewTaken_cases g s with h | h <;> rw [h]
  · exact .refl s
  · exact (PowerOnly.refl s).uGov _ _

theorem slewTaken_regs : (slewTaken g s).regs = s.regs := by
  rcases slewTaken_cases g s with h | h <;> rw [h]
  exact uGov_regs ..

theorem slewTaken_notes : (slewTaken g s).pwr.notes = s.pwr.notes := by
  rcases slewTaken_cases g s with h | h <;> rw [h]
  exact uGov_notes ..

theorem slewTaken_power : (slewTaken g s).pwr.power = s.pwr.power := by
  rcases slewTaken_cases g s with h | h <;> rw [h]
  exact uGov_power ..

theorem slewTaken_tkt : (slewTaken g s).tkt = s.tkt := by
  rcases slewTaken_cases g s with h | h <;> rw [h]
  rfl

variable {s} in
theorem SlewHeld.slewTaken (h : SlewHeld s) : SlewHeld (slewTaken g s) := by
  rcases slewTaken_cases g s with e | e <;> rw [e]
  · exact h
  · exact h.uGov g fun _ _ => seffOf_le s g

theorem powerStep_only (step : Nat) : PowerOnly s (powerStep g step s) := rfl

theorem powerStep_regs (step : Nat) : (powerStep g step s).regs = s.regs := rfl

theorem powerStep_notes (step : Nat) : (powerStep g step s).pwr.notes = s.pwr.notes := rfl

theorem powerStep_tkt (step : Nat) : (powerStep g step s).tkt = s.tkt := rfl

theorem powerStep_govOf (step h : Nat) : govOf (powerStep g step s) h = govOf s h := rfl

variable {s} in
theorem SlewHeld.powerStep (h : SlewHeld s) (step : Nat) : SlewHeld (powerStep g step s) := h

theorem govReady_only : PowerOnly s (govReady g s) :=
  PowerOnly.trans (t := accrueDie g s) rfl ((slewTaken_only g _).trans (powerStep_only g _ _))

theorem govReady_regs : (govReady g s).regs = s.regs := by
  rw [govReady, powerStep_regs, slewTaken_regs, accrueDie, uTkt_regs]

theorem govReady_notes : (govReady g s).pwr.notes = s.pwr.notes := by
  rw [govReady, powerStep_notes, slewTaken_notes, accrueDie, uTkt_pwr]

variable {s} in
theorem SlewHeld.govReady (h : SlewHeld s) : SlewHeld (govReady g s) := by
  have haccrued : SlewHeld (accrueDie g s) := h
  exact (haccrued.slewTaken g).powerStep g _

theorem govSet_only (d h : Int) : PowerOnly s (govSet g d h s) := ((PowerOnly.refl s).uGov _ _).wr _ _

theorem govSet_govOf (d h : Int) (k : Nat) : govOf (govSet g d h s) k = govOf (govRecord g h s) k := rfl

theorem govSet_notes (d h : Int) : (govSet g d h s).pwr.notes = s.pwr.notes := by
  show (govRecord g h s).pwr.notes = _
  rw [govRecord, uGov_notes]

theorem govSet_power (d h : Int) : (govSet g d h s).pwr.power = s.pwr.power := by
  show (govRecord g h s).pwr.power = _
  rw [govRecord, uGov_power]

variable {s} in
theorem SlewHeld.govRecord (hs : SlewHeld s) (h : Int) : SlewHeld (govRecord g h s) := by
  unfold Machine.govRecord
  exact hs.uGov g fun _ hx => hx

theorem govStep_only : PowerOnly s (govStep g s) := by
  rw [govStep_eq]
  exact (govReady_only g s).trans (govSet_only g _ _ _)

theorem govStep_regsKept : RegsKept [R.PWR_GOV_STATUS_G g] s (govStep g s) := by
  have hready : RegsKept [R.PWR_GOV_STATUS_G g] s (govReady g s) := .of_regs_eq _ (govReady_regs g s)
  rw [govStep_eq]
  exact (hready.keep (uGov_regs _ _ _)).wr (by simp) _

theorem govStep_notes : (govStep g s).pwr.notes = s.pwr.notes := by
  rw [govStep_eq]
  exact (govSet_notes ..).trans (govReady_notes g s)

variable {s} in
theorem SlewHeld.govStep (h : SlewHeld s) : SlewHeld (govStep g s) := by
  rw [govStep_eq]
  exact ((h.govReady g).govRecord g _).wr _ _

end

/-- The status register shows the duty (R146). -/
theorem fd_govSet_duty {s : State} (hs : SlewHeld s) (g : Nat) {d : Int} (hd : 0 ≤ d ∧ d ≤ 64) (h : Int) :
    (govSet g d h s).fd (R.PWR_GOV_STATUS_G g) 22 16 = d.toNat := by
  have hslew : (govOf (govRecord g h s) g).sEff ≤ 256 := (hs.govRecord g h).govOf g
  rw [State.fd, govSet, rd_wr, if_pos rfl, fieldOf_mod_word _ (by decide), govWord]
  simp only [fieldOf, Nat.shiftRight_eq_div_pow]
  omega

/-- The duty that a step sets and shows: at most 64, and 0 in overload (R144, R146). -/
theorem govStep_duty {s : State} (hs : SlewHeld s) (g : Nat) : (govStep g s).fd (R.PWR_GOV_STATUS_G g) 22 16 ≤ 64
    ∧ (s.bit R.PWR_STATUS 9 = true → (govStep g s).fd (R.PWR_GOV_STATUS_G g) 22 16 = 0) := by
  have hd := dieDuty_bounds (govReady g s) g (stepOf s.now)
  rw [govStep_eq, fd_govSet_duty (hs.govReady g) g hd]
  refine ⟨by omega, fun hover => ?_⟩
  have hready : (govReady g s).bit R.PWR_STATUS 9 = true := by rwa [bit_of_rd_eq (rd_of_regs_eq (govReady_regs g s) _)]
  rw [dieDuty, if_pos hready]
  rfl

theorem exec_governorStep (s : State) : exec .governorStep s = .next (govStep 1 (govStep 0 s)) := rfl

theorem governorStep_runs {s : State} (h0 : s.pwr.g0.sEff ≤ 256) (h1 : s.pwr.g1.sEff ≤ 256) : Runs .governorStep s fun t =>
    t.pwr.g0.sEff ≤ 256 ∧ t.pwr.g1.sEff ≤ 256 ∧ t.fd (R.PWR_GOV_STATUS_G 0) 22 16 ≤ 64 ∧ t.fd (R.PWR_GOV_STATUS_G 1) 22 16 ≤ 64
      ∧ (s.bit R.PWR_STATUS 9 = true → t.fd (R.PWR_GOV_STATUS_G 0) 22 16 = 0 ∧ t.fd (R.PWR_GOV_STATUS_G 1) 22 16 = 0)
      ∧ t.pwr.notes = s.pwr.notes ∧ t.evt = s.evt ∧ t.out = s.out
      ∧ RegsKept [R.PWR_GOV_STATUS_G 0, R.PWR_GOV_STATUS_G 1] s t ∧ SameMem s t := by
  have hs : SlewHeld s := ⟨h0, h1⟩
  have honly := (govStep_only 0 s).trans (govStep_only 1 _)
  obtain ⟨hle0, hcut0⟩ := govStep_duty hs 0
  obtain ⟨hle1, hcut1⟩ := govStep_duty (hs.govStep 0) 1
  obtain ⟨hslew0, hslew1⟩ := (hs.govStep 0).govStep 1
  have hshown : (govStep 1 (govStep 0 s)).fd (R.PWR_GOV_STATUS_G 0) 22 16 = (govStep 0 s).fd (R.PWR_GOV_STATUS_G 0) 22 16 :=
    fd_of_rd_eq (govStep_regsKept 1 _ _ (by decide)) _ _
  have hover : (govStep 0 s).bit R.PWR_STATUS 9 = s.bit R.PWR_STATUS 9 := bit_of_rd_eq (govStep_regsKept 0 s _ (by decide)) 9
  refine ⟨_, exec_governorStep s, hslew0, hslew1, hshown.le.trans hle0, hle1, fun h => ⟨?_, hcut1 (hover.trans h)⟩, ?_, honly.evt, honly.out,
    ((govStep_regsKept 0 s).mono (by simp)).trans ((govStep_regsKept 1 _).mono (by simp)), honly.sameMem⟩
  · rw [hshown, hcut0 h]
  · rw [govStep_notes, govStep_notes]

/-! A die without tickets -/

theorem dom_of_rd_eq {s t : State} {d : Nat} (h : t.rd (0x30100 + 4 * (d / 16)) = s.rd (0x30100 + 4 * (d / 16))) : t.dom d = s.dom d :=
  fd_of_rd_eq h _ _

theorem pairIdle_of_regsKept {s t : State} {os : List Nat} (h : RegsKept os s t) (hlow : ∀ o ∈ os, o < R.PWR_PAIR_IDLE_W) (g : Nat) :
    pairIdle t g = pairIdle s g := by
  have hrd : ∀ o, R.PWR_PAIR_IDLE_W ≤ o → t.rd o = s.rd o := fun o ho => h o fun hin => by have := hlow o hin; omega
  have hdom : ∀ d, t.dom d = s.dom d := fun d => dom_of_rd_eq (hrd _ (by simp only [R.PWR_PAIR_IDLE_W]; omega))
  rw [pairIdle, fd_of_rd_eq (hrd _ le_rfl), pairIdle]
  simp only [hdom]

/-- No ticket runs and no power ticket is in force. -/
structure NoDemand (s : State) : Prop where
  rings : s.tkt.rings = []
  power : s.pwr.power = []

theorem NoDemand.govReady {s : State} (h : NoDemand s) (g : Nat) : NoDemand (govReady g s) := by
  obtain ⟨hrings, hpower⟩ := h
  refine ⟨?_, ?_⟩
  · rw [Machine.govReady, powerStep_tkt, slewTaken_tkt, accrueDie, uTkt_tkt, hrings]
    rfl
  · have hslew : (slewTaken g (accrueDie g s)).pwr.power = [] := (slewTaken_power g _).trans hpower
    simp [Machine.govReady, powerStep, hslew]

theorem NoDemand.govStep {s : State} (h : NoDemand s) (g : Nat) : NoDemand (govStep g s) := by
  obtain ⟨hrings, hpower⟩ := h.govReady g
  rw [govStep_eq]
  exact ⟨hrings, (govSet_power ..).trans hpower⟩

theorem dieScalable_of_noDemand {s : State} (h : NoDemand s) (g : Nat) : dieScalable s g = 0 := by
  simp [dieScalable, throttledOn, h.rings]

theorem fixedOf_of_noDemand {s : State} (h : NoDemand s) (g : Nat) : fixedOf s g = pu (pairIdle s g) := by
  simp [fixedOf, h.power]

theorem govReady_hist (g h : Nat) (s : State) : (govOf (govReady g s) h).hist = (govOf s h).hist := by
  rw [govReady, powerStep_govOf]
  unfold slewTaken govOf uGov
  split_ifs <;> rfl

/-- With no ticket running the admitted power recorded is the idle demand (R145). -/
theorem govStep_hist_idle {s : State} (h : NoDemand s) (g : Nat) :
    (govOf (govStep g s) g).hist = (pu (pairIdle s g) :: (govOf s g).hist).take 100 := by
  have hready := h.govReady g
  have hidle : pairIdle (govReady g s) g = pairIdle s g :=
    pairIdle_of_regsKept (os := []) (.of_regs_eq _ (govReady_regs g s)) (by simp) g
  rw [govStep_eq, dieScalable_of_noDemand hready, fixedOf_of_noDemand hready, hidle, mul_zero, add_zero,
    govSet_govOf, govRecord, govOf_uGov_same, ← govReady_hist g g s]

theorem govStep_hist_other {g h : Nat} (hne : (h = 0) ≠ (g = 0)) (s : State) : (govOf (govStep g s) h).hist = (govOf s h).hist := by
  rw [govStep_eq, govSet_govOf, govRecord, govOf_uGov_other hne, govReady_hist]

theorem governorStep_idle_runs {s : State} (hrings : s.tkt.rings = []) (hpower : s.pwr.power = []) : Runs .governorStep s fun t =>
    t.pwr.g0.hist = (pu (pairIdle s 0) :: s.pwr.g0.hist).take 100 ∧ t.pwr.g1.hist = (pu (pairIdle s 1) :: s.pwr.g1.hist).take 100 := by
  have hnone : NoDemand s := ⟨hrings, hpower⟩
  refine ⟨_, exec_governorStep s, ?_, ?_⟩
  · exact (govStep_hist_other (h := 0) (by simp) _).trans (govStep_hist_idle hnone 0)
  · have hfirst : (govStep 0 s).pwr.g1.hist = s.pwr.g1.hist := govStep_hist_other (g := 0) (h := 1) (by simp) s
    have hidle := pairIdle_of_regsKept (govStep_regsKept 0 s) (by decide) 1
    rw [← hidle, ← hfirst]
    exact govStep_hist_idle (hnone.govStep 0) 1

/-- Settles O19: a measurement writes its three registers before the cap is judged; a cap and an overload raise their event before the
planned notes lapse; each die's step shows a duty that is clamped, and records the idle demand where nothing adds to it. -/
theorem packagePowerCapAndGovernor : Obligations.PackagePowerCapAndGovernor := by
  refine ⟨fun s m g0 g1 hover hcap h => ⟨_, packagePowerMeasure_within m g0 g1 hover hcap h, ?_⟩,
    fun _ => packagePowerMeasure_above, fun _ => pwrOverload_runs, fun _ => exec_pwrOverload_few, fun _ => governorStep_runs,
    fun _ => governorStep_idle_runs⟩
  have honly := frameMeasured_only (pkgPower m g0 g1 s) g0 g1 s
  obtain ⟨hpkg, hdie0, hdie1⟩ := rd_frameMeasured (pkgPower m g0 g1 s) g0 g1 s
  exact ⟨hpkg, hdie0, hdie1, frameMeasured_notes .., honly.evt, frameMeasured_regsKept _ _ _ s, honly.sameMem⟩

end Sys2Proof.Machine
end

section
/-! What a domain's return leaves of the power block (05 R136, R138): each operation it comes to writes registers of its own block. -/

namespace Sys2Proof.Machine

/-- From s to t the power state stands, and so does every register of the PWR block (05 Table 5.2). -/
structure PwrKept (s t : State) : Prop where
  pwr : t.pwr = s.pwr
  rd : ∀ o, 0x30000 ≤ o → o < 0x40000 → t.rd o = s.rd o

namespace PwrKept

/-! Updates, register writes and events -/

section
variable {s t u : State}

theorem refl (s : State) : PwrKept s s := ⟨rfl, fun _ _ _ => rfl⟩

theorem of_eq (hp : t.pwr = s.pwr) (hr : t.regs = s.regs) : PwrKept s t := ⟨hp, fun o _ _ => rd_of_regs_eq hr o⟩

theorem trans (h : PwrKept s t) (g : PwrKept t u) : PwrKept s u :=
  ⟨g.pwr.trans h.pwr, fun o hlo hhi => (g.rd o hlo hhi).trans (h.rd o hlo hhi)⟩

theorem foldl {α : Type} {f : State → α → State} (hf : ∀ s a, PwrKept s (f s a)) (h : PwrKept s t) (l : List α) :
    PwrKept s (l.foldl f t) :=
  List.foldlRecOn (motive := PwrKept s) l f h fun t ht a _ => ht.trans (hf t a)

variable (h : PwrKept s t)
include h

theorem uVel {g} : PwrKept s (t.uVel g) := h.trans (.of_eq rfl rfl)
theorem uVelEcc {g} : PwrKept s (t.uVelEcc g) := h.trans (.of_eq rfl rfl)
theorem uHbm {g} : PwrKept s (t.uHbm g) := h.trans (.of_eq rfl rfl)
theorem uHbmEcc {g} : PwrKept s (t.uHbmEcc g) := h.trans (.of_eq rfl rfl)
theorem uEvt {g} : PwrKept s (t.uEvt g) := h.trans (.of_eq rfl rfl)
theorem uTkt {g} : PwrKept s (t.uTkt g) := h.trans (.of_eq rfl rfl)
theorem uLnk {g} : PwrKept s (t.uLnk g) := h.trans (.of_eq rfl rfl)
theorem uSty {g} : PwrKept s (t.uSty g) := h.trans (.of_eq rfl rfl)
theorem uRepl {g} : PwrKept s (t.uRepl g) := h.trans (.of_eq rfl rfl)
theorem uClk {g} : PwrKept s (t.uClk g) := h.trans (.of_eq rfl rfl)
theorem uMem {g} : PwrKept s (t.uMem g) := h.trans (.of_eq rfl rfl)
theorem uFab {g} : PwrKept s (t.uFab g) := h.trans (.of_eq rfl rfl)
theorem uScr {g} : PwrKept s (t.uScr g) := h.trans (.of_eq rfl rfl)
theorem uPins {g} : PwrKept s (t.uPins g) := h.trans (.of_eq rfl rfl)
theorem uBoot {g} : PwrKept s (t.uBoot g) := h.trans (.of_eq rfl rfl)
theorem uProof {g} : PwrKept s (t.uProof g) := h.trans (.of_eq rfl rfl)
theorem uHmk {g} : PwrKept s (t.uHmk g) := h.trans (.of_eq rfl rfl)
theorem emit {o} : PwrKept s (t.emit o) := h.trans (.of_eq rfl rfl)
theorem draw : PwrKept s t.draw.2 := h.trans (.of_eq rfl rfl)

/-- A register write outside the PWR block. -/
theorem wr {off v : Nat} (ho : off < 0x30000 ∨ 0x40000 ≤ off := by grind) : PwrKept s (t.wr off v) :=
  h.trans ⟨rfl, fun o hlo hhi => rd_wr_ne (by omega)⟩

theorem fw {off hi lo v : Nat} (ho : off < 0x30000 ∨ 0x40000 ≤ off := by grind) : PwrKept s (t.fw off hi lo v) := h.wr ho

theorem sat {off hi lo n : Nat} (ho : off < 0x30000 ∨ 0x40000 ≤ off := by grind) : PwrKept s (t.sat off hi lo n) := h.wr ho

theorem wr64 {off v : Nat} (ho : off + 4 < 0x30000 ∨ 0x40000 ≤ off := by grind) : PwrKept s (t.wr64 off v) :=
  (h.wr (by omega)).wr (by omega)

theorem count64 {off n : Nat} (ho : off + 4 < 0x30000 ∨ 0x40000 ≤ off := by grind) : PwrKept s (t.count64 off n) := h.wr64 ho

theorem ev {code src : Nat} {args : List Nat} : PwrKept s (t.ev code src args) :=
  h.trans ⟨ev_pwr .., fun o hlo hhi => ev_regsKept t code src args o (by grind)⟩

theorem evKey {interval key code src : Nat} {args : List Nat} : PwrKept s (t.evKey interval key code src args) := by
  unfold State.evKey
  extract_lets n
  split_ifs
  · exact h
  · exact h.uEvt.ev

theorem evOnce {interval code src : Nat} {args : List Nat} : PwrKept s (t.evOnce interval code src args) := h.evKey

end

/-! Rings and Vellum (20 R520; 05 R134, R139) -/

section
variable {s t : State} (h : PwrKept s t)
include h

theorem uRing {r f} : PwrKept s (uRing r f t) := h.uTkt

theorem uRun {r idx f} : PwrKept s (uRun r idx f t) := h.uRing

theorem ringSync {r} : PwrKept s (ringSync r t) := h.fw.fw.wr.fw

theorem pairSync {d} : PwrKept s (pairSync d t) := h.ringSync.ringSync

theorem wakeOver {r} : PwrKept s (wakeOver r t) := h.uRing

theorem zeroVellum {d} : PwrKept s (zeroVellum d t) := h.uVel.uVelEcc

/-! Lanes' streams and packets (12 R315–R324; 17 R440–R445) -/

theorem uLk {p f} : PwrKept s (t.uLk p f) := h.uLnk

theorem uLs {tx p n f} : PwrKept s (t.uLs tx p n f) := h.uLnk

theorem laneBlock {p n hdr payload} : PwrKept s (laneBlock p n hdr payload t) := h.uLs.emit

theorem marksGo {p n k} : PwrKept s (marksGo p n k t) := by
  induction k generalizing t with
  | zero => exact h
  | succ k ih =>
    unfold Machine.marksGo
    split_ifs
    · exact ih h.laneBlock
    · exact h

theorem laneSend {p n hdr payload} : PwrKept s (laneSend p n hdr payload t) := h.marksGo.laneBlock

theorem lctl {p kind fields} : PwrKept s (lctl p kind fields t) := by
  unfold Machine.lctl
  extract_lets t'
  have ht : PwrKept s t' := h.emit
  split
  · exact ht.laneSend
  · exact ht

theorem retryStatus {p} : PwrKept s (retryStatus p t) := h.fw.fw

theorem slotSend {p k bsn payload} : PwrKept s (slotSend p k bsn payload t) := h.foldl (fun _ _ => (refl _).laneSend) _

theorem dataBlock {p payload} : PwrKept s (dataBlock p payload t) := h.uLk.retryStatus.slotSend

theorem sendBlock {p k} : PwrKept s (sendBlock p k t) := h.uLk.count64.emit.dataBlock

end

theorem pumpGo {p : Nat} (ks : List Pkt) (blocked : List Nat) {s t : State} (h : PwrKept s t) : PwrKept s (pumpGo p ks blocked t).1 := by
  induction ks generalizing blocked t with
  | nil => exact h
  | cons k ks ih =>
    unfold Machine.pumpGo
    split_ifs
    · exact ih _ h.sendBlock
    · exact ih _ h

section
variable {s t : State} (h : PwrKept s t)
include h

theorem pump {p} : PwrKept s (pump p t) := by
  unfold Machine.pump
  exact (pumpGo _ _ h).uLk

theorem sendPkt {p k} : PwrKept s (sendPkt p k t) := h.uLk.pump

theorem setSb {d q} : PwrKept s (t.setSb d q) := by cases d <;> exact h.trans (.of_eq rfl rfl)

theorem sbQueue {d mtype body} : PwrKept s (t.sbQueue d mtype body) := h.setSb

theorem sbBoth {mtype body} : PwrKept s (t.sbBoth mtype body) := h.sbQueue.sbQueue

theorem cordOut {hops src skip frame} : PwrKept s (cordOut hops src skip frame t) := h.draw.foldl (fun _ _ => (refl _).sendPkt) _

theorem memberOrder {payload} : PwrKept s (memberOrder payload t) := h.draw.sbBoth.cordOut

/-! Notes of failed ports (14 R390) -/

theorem faultReg : PwrKept s (faultReg t) := h.wr

theorem clearPairs {gone} : PwrKept s (clearPairs gone t) := by
  unfold Machine.clearPairs
  split_ifs
  · exact h.uRepl
  · exact h.uRepl.faultReg

theorem addPairs {chip ports} : PwrKept s (addPairs chip ports t) := by
  unfold Machine.addPairs
  extract_lets new
  split_ifs
  · exact h.uRepl
  · exact h.uRepl.faultReg

theorem standbyPairs {chip ports gone} : PwrKept s (standbyPairs chip ports gone t) := by
  unfold Machine.standbyPairs
  split_ifs
  · exact h.uRepl.faultReg
  · exact h

theorem portNote {op} : PwrKept s (portNote op t) := by
  unfold Machine.portNote
  extract_lets t'
  have ht : PwrKept s t' := h.memberOrder
  split_ifs
  · exact ht.addPairs.clearPairs
  · exact ht.standbyPairs

/-! Lanes and ports take their roles (12 R315–R332; 09 R254; 11 R302) -/

theorem portSet {p st} : PwrKept s (portSet p st t) := by
  unfold Machine.portSet
  extract_lets old t'
  have ht : PwrKept s t' := h.fw.fw
  split_ifs
  · exact ht
  · exact ht.uLk.ev
  · exact ht.ev
  · exact ht

theorem wqPush {e l w v} : PwrKept s (wqPush e l w v t) := by
  unfold Machine.wqPush
  extract_lets g
  split_ifs
  · exact h.uSty
  · exact h.sat.ev
  · exact h.uSty.fw

theorem ringMove {p l integ mode} : PwrKept s (ringMove p l integ mode t) := h.wqPush.wqPush

theorem refLost {src} : PwrKept s (refLost src t) := by
  unfold Machine.refLost
  extract_lets t'
  have ht : PwrKept s t' := by
    cases src
    · exact h.fw.sat
    · exact h.fw.sat
  split_ifs
  · exact ht.fw.wr.uClk.ev
  · exact ht

theorem linkFollow : PwrKept s (linkFollow t) := by
  unfold Machine.linkFollow
  extract_lets was t'
  split_ifs
  · exact h.uClk.refLost
  · exact h.uClk

theorem updLine {b n} : PwrKept s (updLine b n t) := by
  unfold Machine.updLine
  split_ifs
  · exact h
  · exact h.fw

theorem sendStop {p n st} : PwrKept s (sendStop p n st t) := by
  unfold Machine.sendStop
  split_ifs
  · exact h
  · exact h.uLs

theorem fwLane {tx p n hi lo v} : PwrKept s (t.fw (laneReg tx p n) hi lo v) := h.fw (by unfold laneReg; grind)

theorem setLane {tx p n st} : PwrKept s (setLane tx p n st t) := by
  unfold Machine.setLane
  extract_lets t'
  have ht : PwrKept s t' := h.fwLane
  split_ifs
  · exact ht.sendStop.updLine
  · exact ht.linkFollow
  · exact ht

theorem setSlot {tx p n slot remapped} : PwrKept s (setSlot tx p n slot remapped t) := h.fwLane.fwLane

theorem parkLane {tx p n} : PwrKept s (parkLane tx p n t) := h.ringMove

theorem sweepLane {tx p n} : PwrKept s (sweepLane tx p n t) := h.wqPush.ringMove.uLs.setLane

theorem lockLane {tx p n} : PwrKept s (lockLane tx p n t) := by
  unfold Machine.lockLane
  split
  · exact h.ringMove.uLs.setLane
  · exact h.sweepLane

theorem laneCounts {p} : PwrKept s (laneCounts p t) := h.fw.fw.fw.fw

theorem enterTraining {p} : PwrKept s (enterTraining p t) := by
  unfold Machine.enterTraining
  extract_lets was t1 t2 t3 t4
  have hlocked : PwrKept s t3 := h.uLk.portSet.foldl (fun a n => (refl a).foldl (fun b tx => by
    split_ifs
    · exact (refl b).lockLane
    · exact refl b) _) _
  split_ifs
  · exact hlocked.lctl.portNote
  · exact hlocked.lctl

theorem enterFailed {p cause} : PwrKept s (enterFailed p cause t) := by
  unfold Machine.enterFailed
  split_ifs
  · exact h
  · exact h.portSet.ev.portNote

theorem tryTrain {p} : PwrKept s (tryTrain p t) := by
  unfold Machine.tryTrain
  split_ifs
  · exact h
  · exact h.enterTraining
  · exact h
  · exact h.draw.enterFailed

theorem linkOnPort {p} : PwrKept s (linkOnPort p t) := by
  unfold Machine.linkOnPort
  extract_lets a mode t'
  have ht : PwrKept s t' := h.wr
  split_ifs
  · exact ht
  · exact ht.portSet.portNote
  · exact ht.portSet
  · exact ht.tryTrain

theorem roleLane {tx p n slot} : PwrKept s (roleLane tx p n slot t) := by
  unfold Machine.roleLane
  extract_lets r was oldRole t0 t1 t2 t3 t4
  have h0 : PwrKept s t0 := by
    unfold t0
    split_ifs
    · exact h.parkLane
    · exact h
  have h2 : PwrKept s t2 := h0.fwLane.setSlot
  have h3 : PwrKept s t3 := by
    unfold t3
    split_ifs
    · exact h2
    · exact h2.parkLane
  have h4 : PwrKept s t4 := by
    unfold t4
    split_ifs
    · exact h2.fwLane
    · exact h2
  split_ifs
  · exact h2
  · exact h3.fwLane.setLane
  · exact h4.setLane
  · exact h4.parkLane.setLane
  · exact h4.setLane
  · exact h4.lockLane

theorem roleLanes {tx p} : PwrKept s (roleLanes tx p t) :=
  List.foldlRecOn (motive := fun a : State × Nat => PwrKept s a.1) _ _ h fun _ ha _ _ => ha.roleLane

theorem replaceRetired {tx p} : PwrKept s (replaceRetired tx p t) :=
  List.foldlRecOn (motive := fun a : State × Nat => PwrKept s a.1) _ _ h fun a ha n _ => by
    simp only []
    split_ifs
    · exact ha
    · exact ha
    · split
      · exact ha.setSlot.lockLane
      · exact ha.ev

theorem selFollow {p} : PwrKept s (selFollow p t) := h.foldl (fun a n => by
  simp only []
  split_ifs
  · exact refl a
  · exact (refl a).uLs.wqPush) _

theorem byScribe {f : State → State} (hf : ∀ {u}, PwrKept s u → PwrKept s (f u)) : PwrKept s (byScribe f t) := (hf h.uSty).uSty

theorem rolesOnPort {p} : PwrKept s (rolesOnPort p t) := by
  unfold Machine.rolesOnPort
  extract_lets t0 t1 t2 t3
  have h3 : PwrKept s t3 := h.uLk.fw.fw.fw.roleLanes.roleLanes.replaceRetired.replaceRetired
  split_ifs
  · exact h3.laneCounts
  · exact (h3.byScribe fun g => g.selFollow).laneCounts

theorem portWake {p} : PwrKept s (portWake p t) := by
  unfold Machine.portWake
  split_ifs
  · exact h.rolesOnPort.linkOnPort
  · exact h.rolesOnPort
  · exact h

/-! Words of memory and their check bits (21 R536, R538, R560, R561) -/

theorem putSyn {r k syn} : PwrKept s (putSyn r k syn t) := by
  unfold Machine.putSyn
  cases r
  · exact h.uHbmEcc
  · exact h.uVelEcc

theorem putWord {r k bs} : PwrKept s (putWord r k bs t) := by
  unfold Machine.putWord
  cases r
  · exact h.uHbm
  · exact h.uVel

theorem writeSyn {r k syn} : PwrKept s (writeSyn r k syn t) := by
  unfold Machine.writeSyn
  extract_lets w
  split
  · exact putSyn (h.fw (off := R.MEM_INJECT))
  · exact h.putSyn

theorem noteCe {r k} : PwrKept s (noteCe r k t) := by
  unfold Machine.noteCe
  extract_lets a st pc n m t1 t2 t3
  cases r with
  | vel => exact h.sat.evKey
  | hbm =>
    have h3 : PwrKept s t3 := h.uMem.sat.sat.evOnce
    simp only []
    split_ifs
    · exact h3.ev
    · exact h3

theorem notePoison {r k} : PwrKept s (notePoison r k t) := by
  cases r
  · exact h.sat.evOnce
  · exact h

theorem noteUe {src r k} : PwrKept s (noteUe src r k t) := by
  cases r
  · exact h.sat.sat.wr64.wr.ev.writeSyn
  · exact h.sat.ev.writeSyn

theorem readWord {src r k} : PwrKept s (readWord src r k t).1 := by
  unfold Machine.readWord
  extract_lets bs syn
  split
  · exact h
  · exact h.noteCe
  · exact h.notePoison
  · exact h.noteUe

theorem readWords {src r n k} : PwrKept s (readWords src r n k t).1 := by
  induction n generalizing k t with
  | zero => exact h
  | succ n ih => exact ih h.readWord

theorem memRead {src r a n} : PwrKept s (memRead src r a n t).1 := by
  unfold Machine.memRead
  split_ifs
  · exact h
  · exact h.readWords

theorem writeWord {src r k xs} : PwrKept s (writeWord src r k xs t) := by
  unfold Machine.writeWord
  extract_lets mark full old syn
  split
  · exact h
  split
  · exact h.putWord.writeSyn
  · split
    · exact h.putWord.writeSyn
    · exact h.noteCe.putWord.writeSyn
    · exact h.putWord.writeSyn
    · exact h.noteUe.putWord.writeSyn

theorem writeWords {src r n k xs} : PwrKept s (writeWords src r n k xs t) := by
  induction n generalizing k xs t with
  | zero => exact h
  | succ n ih => exact ih h.writeWord

theorem memWrite {src r a xs} : PwrKept s (memWrite src r a xs t) := by
  unfold Machine.memWrite Machine.memWriteOpt
  split_ifs
  · exact h
  · exact h.writeWords

theorem placeRead {src p n} : PwrKept s (placeRead src p n t).1 := by
  unfold Machine.placeRead
  split
  · exact h.memRead
  · exact h

theorem placeWrite {src p off bs} : PwrKept s (placeWrite src p off bs t) := by
  unfold Machine.placeWrite
  split
  · exact h.memWrite
  · exact h

theorem blur {x bs} : PwrKept s (blur x bs t).1 := by
  unfold Machine.blur
  split_ifs
  · exact h.draw
  · exact h

/-! Packets and requests of the fabric (17 R440–R470) -/

theorem toLocal {ws} : PwrKept s (toLocal ws t) := h.uFab

theorem noteUnreach {dest} : PwrKept s (noteUnreach dest t) := h.sat.evOnce

theorem forwardBy {stuck : State → State} (hstuck : ∀ {u}, PwrKept s u → PwrKept s (stuck u)) {ingress dec ws} :
    PwrKept s (forwardBy stuck ingress dec ws t) := by
  unfold Machine.forwardBy
  split_ifs
  · exact h.sat.ev
  · split
    · exact hstuck h
    · split_ifs
      · exact h.sendPkt
      · exact hstuck h

theorem sendRsp {ws} : PwrKept s (sendRsp ws t) := by
  unfold Machine.sendRsp
  split_ifs
  · exact h.toLocal
  · exact h.forwardBy fun g => g.noteUnreach

theorem countErr {status} : PwrKept s (countErr status t) := by
  unfold Machine.countErr
  split_ifs
  · exact h
  · exact h.sat

theorem answer {req status bytes} : PwrKept s (answer req status bytes t) := h.countErr.sendRsp

theorem forward {ingress dec ws} : PwrKept s (forward ingress dec ws t) := h.forwardBy fun g => by
  simp only []
  split_ifs
  · exact g.noteUnreach.answer
  · exact g.noteUnreach

theorem inject {ws} : PwrKept s (inject ws t) := by
  unfold Machine.inject
  split_ifs
  · exact h.toLocal
  · exact h.forward

theorem injectWant {n w e} : PwrKept s (injectWant n w e t) := h.uFab.fw.inject

end

theorem pumpReqs (xs kept : List (Nat × FabWant)) {s t : State} (h : PwrKept s t) : PwrKept s (pumpReqs xs kept t) := by
  induction xs generalizing kept t with
  | nil => exact h.uFab
  | cons x xs ih =>
    unfold Machine.pumpReqs
    split_ifs
    · exact ih _ h
    · split
      · exact ih _ h
      · exact ih _ h.injectWant

section
variable {s t : State} (h : PwrKept s t)
include h

theorem issueReq {w} : PwrKept s (issueReq w t) := pumpReqs _ _ h.uFab

theorem issueReqs {ws} : PwrKept s (issueReqs ws t) := h.foldl (fun _ _ => (refl _).issueReq) _

/-! A ticket takes its source (20 R520–R533), a stack wakes (21 R544) -/

theorem flagPhase {r idx} : PwrKept s (flagPhase r idx t) := by
  unfold Machine.flagPhase
  split
  · exact h
  · split_ifs
    · exact h.uRun
    · exact h.uRun.issueReq

theorem writePhase {r idx data} : PwrKept s (writePhase r idx data t) := by
  unfold Machine.writePhase
  split
  · exact h
  · extract_lets dst z t1 data1 ws back ws1
    have h1 : PwrKept s t1 := h.blur
    split_ifs
    · exact h1.flagPhase
    · exact h1.uRun.issueReqs

theorem arsegSum {r idx a} : PwrKept s (arsegSum r idx a t) := by
  unfold Machine.arsegSum
  split
  · exact h
  · extract_lets y d t1 z t2
    have h1 : PwrKept s t1 := h.memRead.uRun
    have hz : PwrKept s z.1 := h1.blur
    exact hz.placeWrite.writePhase

theorem withSource {r idx data} : PwrKept s (withSource r idx data t) := by
  unfold Machine.withSource
  split
  · exact h
  · extract_lets t1
    have h1 : PwrKept s t1 := h.uRun
    split_ifs
    · exact h1.uRun
    · exact h1.arsegSum
    · exact h1.writePhase

theorem sourcePhase {r idx} : PwrKept s (sourcePhase r idx t) := by
  unfold Machine.sourcePhase
  split
  · exact h
  · simp only []
    split_ifs
    · exact h.withSource
    · exact h.uRun.issueReqs
    · exact h.placeRead.withSource
    · exact h.uRun

theorem memBack {k} : PwrKept s (memBack k t) := h.foldl (fun a y => by
  simp only []
  split_ifs
  · exact (refl a).uRun.sourcePhase
  · exact (refl a).uRun) _

theorem setScrub {i f} : PwrKept s (setScrub i f t) := h.uMem

theorem memSelf {k on} : PwrKept s (memSelf k on t) := h.fw.fw

theorem styGate {i on} : PwrKept s (styGate i on t) := h.fw.fw.fw

/-! Scribes, the function, the sideband and the Hallmark buses start again (15 R409; 22 R570; 02 R62; 18 R482) -/

theorem setScribe {u st} : PwrKept s (setScribe u st t) := h.fw

theorem ckptRegs : PwrKept s (ckptRegs t) := h.fw.fw.wr.fw.fw

theorem pkgRenew : PwrKept s (pkgRenew t) := h.wr64

theorem pkgTake {u st} : PwrKept s (pkgTake u st t) := h.uScr.setScribe.setScribe.fw.fw.wr.pkgRenew.ckptRegs

theorem scribeStart : PwrKept s (scribeStart t) := by
  unfold Machine.scribeStart
  extract_lets t1
  have h1 : PwrKept s t1 := h.uScr
  split_ifs
  · exact h1.pkgTake.setScribe
  · exact h1

theorem drive {bs} : PwrKept s (drive bs t) := h.uPins

theorem functionStart : PwrKept s (functionStart t) := h.drive.fw.uBoot

theorem hmkSearch {p} : PwrKept s (hmkSearch p t) := by
  unfold Machine.hmkSearch
  split_ifs
  · exact h
  · exact h.drive.uHmk.fw.fw.fw.sat

theorem searchAll : PwrKept s (searchAll t) := by
  unfold Machine.searchAll
  split_ifs
  · exact h.foldl (fun _ _ => (refl _).hmkSearch) _
  · exact h

theorem sbStart : PwrKept s (sbStart t) := h.drive.emit.emit

/-- What a domain's return changes leaves the power block as it is (R136). -/
theorem domBack {d} : PwrKept s (domBack d t) := by
  unfold Machine.domBack
  extract_lets k x lost
  split_ifs
  · exact h.zeroVellum.wakeOver.wakeOver.pairSync
  · exact h.portWake
  · exact h.memSelf.setScrub.memBack
  · exact h.styGate
  · exact h.uScr.scribeStart
  · exact h.functionStart
  · exact h
  · exact h.uProof
  · exact h.sbStart.searchAll
  · exact h

end

end PwrKept

end Sys2Proof.Machine
end

section
/-! Requests and sequences of the power domains (05 R134–R139). -/

namespace Sys2Proof.Machine

/-! The state of a domain (Table 5.2) -/

theorem dom_setDom (s : State) (d v : Nat) : (s.setDom d v).dom d = v % 4 := by
  rw [State.dom, State.setDom, fd_fw_same _ _ _ (by omega)]
  rw [show 2 * (d % 16) + 1 + 1 - 2 * (d % 16) = 2 by omega]
  rfl

theorem setDom_sameMem (s : State) (d v : Nat) : SameMem s (s.setDom d v) := .of_eq rfl rfl rfl

theorem rd_setDom_ne (s : State) (d v : Nat) {o : Nat} (h : o ≠ 0x30100 + 4 * (d / 16)) : (s.setDom d v).rd o = s.rd o := rd_fw_ne _ _ _ _ h

/-- A register write below the states of the domains changes none of them. -/
theorem dom_wr {s : State} {off v d : Nat} (h : off < 0x30100) : (s.wr off v).dom d = s.dom d := dom_of_rd_eq (rd_wr_ne (by omega))

theorem dom_wakingCount (s : State) (d : Nat) : (wakingCount s).dom d = s.dom d := dom_wr (by decide)

theorem wakingCount_sameMem (s : State) : SameMem s (wakingCount s) := .of_eq rfl rfl rfl

theorem fd_wakingCount (s : State) :
    (wakingCount s).fd R.PWR_STATUS 7 0 = ((List.range 168).filter fun d => (wakingCount s).dom d == 1).length := by
  have hle : ((List.range 168).filter fun d => s.dom d == 1).length ≤ 168 := (List.length_filter_le ..).trans List.length_range.le
  simp only [dom_wakingCount]
  rw [wakingCount, fd_fw_same _ _ _ (by decide), Nat.mod_eq_of_lt (by omega)]

/-! PWR_DOM_RESULT (R138) -/

theorem wr_sameMem (s : State) (off v : Nat) : SameMem s (s.wr off v) := .of_eq rfl rfl rfl

theorem rd_result {v : Nat} (h : v < 2 ^ 32) (s : State) : (s.wr R.PWR_DOM_RESULT v).rd R.PWR_DOM_RESULT = v := by
  rw [rd_wr, if_pos rfl, Nat.mod_eq_of_lt h]

theorem result_regsKept (v : Nat) (s : State) : RegsKept [R.PWR_DOM_RESULT] s (s.wr R.PWR_DOM_RESULT v) :=
  (RegsKept.of_regs_eq _ rfl).wr List.mem_cons_self v

theorem domResult_eq {s : State} {d : Nat} (h : s.rd R.PWR_DOM_RESULT = 256 + d) (r : Nat) : domResult d r s = s.wr R.PWR_DOM_RESULT (256 * r + d) :=
  if_pos h

theorem rd_domResult {s : State} {d r : Nat} (h : s.rd R.PWR_DOM_RESULT = 256 + d) (hlt : 256 * r + d < 2 ^ 32) :
    (domResult d r s).rd R.PWR_DOM_RESULT = 256 * r + d := by
  rw [domResult_eq h, rd_result hlt]

theorem domResult_dom (s : State) (d r e : Nat) : (domResult d r s).dom e = s.dom e := by
  unfold domResult
  split_ifs
  · exact dom_wr (by decide)
  · rfl

/-- A result leaves the state but its register. -/
theorem domResult_only (s : State) (d r : Nat) : domResult d r s = { s with regs := (domResult d r s).regs } := by
  unfold domResult
  split_ifs <;> rfl

theorem domResult_pwr (s : State) (d r : Nat) : (domResult d r s).pwr = s.pwr := by rw [domResult_only]

theorem domResult_hbm (s : State) (d r : Nat) : (domResult d r s).hbm = s.hbm := by rw [domResult_only]

theorem domResult_vel (s : State) (d r : Nat) : (domResult d r s).vel = s.vel := by rw [domResult_only]

theorem domResult_flash (s : State) (d r : Nat) : (domResult d r s).flash = s.flash := by rw [domResult_only]

theorem domResult_sameMem (s : State) (d r : Nat) : SameMem s (domResult d r s) :=
  .of_eq (domResult_hbm s d r) (domResult_vel s d r) (domResult_flash s d r)

/-- Where no request waits, a sequence that ends reports that it is done. -/
theorem domDone_of_none {s : State} (h : s.pwr.waiting = []) (d : Nat) : domDone d s = domResult d 0 s := by
  rw [domDone, h]
  rfl

/-! Requests (R138) -/

section
variable {p : Path} {s : State} (h : Reaches p s)
include h

theorem exec_pwrDomOn (d : Byte) : exec (.pwrDomOn p d) s = .next (domReq p d.toNat .on s) := by
  show execPwrDomOn p d s = _
  rw [execPwrDomOn, through_reaches h]
  rfl

theorem exec_pwrDomOff (d : Byte) : exec (.pwrDomOff p d) s = .next (domReq p d.toNat .off s) := by
  show execPwrDomOff p d s = _
  rw [execPwrDomOff, through_reaches h]
  rfl

theorem exec_pwrDomAuto (d : Byte) : exec (.pwrDomAuto p d) s = .next (domReq p d.toNat .auto s) := by
  show execPwrDomAuto p d s = _
  rw [execPwrDomAuto, through_reaches h]
  rfl

/-- Each of the three commands is one request. -/
theorem exec_domReq {d : Byte} {c : Instr} (hc : c ∈ [Instr.pwrDomOn p d, .pwrDomOff p d, .pwrDomAuto p d]) :
    ∃ a, exec c s = .next (domReq p d.toNat a s) := by
  simp only [List.mem_cons, List.not_mem_nil, or_false] at hc
  rcases hc with rfl | rfl | rfl
  · exact ⟨_, exec_pwrDomOn h d⟩
  · exact ⟨_, exec_pwrDomOff h d⟩
  · exact ⟨_, exec_pwrDomAuto h d⟩

end

/-- The state in which a valid request on domain d is acted on: PWR_DOM_RESULT names it. -/
def asked (d : Nat) (s : State) : State := s.wr R.PWR_DOM_RESULT (256 + d)

section
variable (d : Nat) (s : State)

theorem rd_asked {d : Nat} (h : d < 0xA8) (s : State) : (asked d s).rd R.PWR_DOM_RESULT = 256 + d := rd_result (by omega) s

theorem rd_asked_ne {o : Nat} (h : o ≠ R.PWR_DOM_RESULT) : (asked d s).rd o = s.rd o := rd_wr_ne h

theorem asked_regsKept : RegsKept [R.PWR_DOM_RESULT] s (asked d s) := result_regsKept _ s

theorem asked_sameMem : SameMem s (asked d s) := wr_sameMem ..

theorem dom_asked (e : Nat) : (asked d s).dom e = s.dom e := dom_wr (by decide)

end

section
variable {p : Path} {d : Nat} {a : DomAct} {s : State}

theorem domReq_denied (h : hostLike p = true) :
    ∃ args, domReq p d a s = (s.wr R.PWR_DOM_RESULT (768 + d)).ev Ev.PWR_DENIED 0 args := ⟨_, if_pos h⟩

theorem domReq_invalid (h : hostLike p = false) (hd : 0xA8 ≤ d ∨ (a = .auto ∧ 0x80 ≤ d)) : domReq p d a s = s.wr R.PWR_DOM_RESULT (1024 + d) := by
  unfold domReq
  rw [if_neg (by simp [h]), if_pos hd]

theorem domReq_acts (h : hostLike p = false) (hd : d < 0xA8) (ha : a = .auto → d < 0x80) (hdom : s.dom d = 0 ∨ s.dom d = 2)
    (hrst : s.rst.doms.contains d = false) : domReq p d a s = domAct d a (asked d s) := by
  have hvalid : ¬(0xA8 ≤ d ∨ (a = .auto ∧ 0x80 ≤ d)) := by
    rintro (hge | ⟨hauto, hge⟩)
    · omega
    · have := ha hauto
      omega
  have hnow : ¬((asked d s).dom d = 1 ∨ (asked d s).dom d = 3 ∨ (asked d s).rst.doms.contains d = true) := by
    rw [dom_asked, show (asked d s).rst = s.rst from rfl, hrst]
    simp only [Bool.false_eq_true, or_false]
    omega
  unfold domReq
  rw [if_neg (by simp [h]), if_neg hvalid]
  exact if_neg hnow

end

/-! In use (Table 5.1) -/

section
variable (d : Nat) (s : State)

theorem fd_asked_ne {o : Nat} (h : o ≠ R.PWR_DOM_RESULT) (hi lo : Nat) : (asked d s).fd o hi lo = s.fd o hi lo := fd_of_rd_eq (rd_asked_ne d s h) hi lo

theorem lane_asked (tx : Bool) (p n : Nat) : (asked d s).lane tx p n = s.lane tx p n := fd_asked_ne d s (by unfold laneReg; grind) _ _

theorem loopsOn_asked (e : Nat) : loopsOn (asked d s) e = loopsOn s e := by
  have hcoef : ∀ l w, (asked d s).coef e l w = s.coef e l w := fun l w => rd_asked_ne d s (by unfold coefOff; grind)
  simp only [loopsOn, loopMode, hcoef]

theorem placeOf_asked (c a n : Nat) : placeOf (asked d s) c a n = placeOf s c a n := by
  have hchip : (asked d s).chip = s.chip := fd_asked_ne d s (by decide) _ _
  simp only [placeOf, hchip]

theorem memInUse_asked (k : Nat) : memInUse (asked d s) k = memInUse s k := by
  have hops : ∀ r t, hbmOperands (asked d s) r t = hbmOperands s r t := fun r t => by simp only [hbmOperands, placeOf_asked]
  have hdesc : ∀ x, descTouches (asked d s) k x = descTouches s k x := fun x => by simp only [descTouches, xPlace, placeOf_asked]
  simp only [memInUse, hops, hdesc]
  rfl

theorem scribe_asked (u : Nat) : activeUnit (asked d s) = activeUnit s ∧ scribeState (asked d s) u = scribeState s u :=
  ⟨fd_asked_ne d s (by decide) _ _, fd_asked_ne d s (by decide) _ _⟩

/-- A request does not bear on what its domain is in use for. -/
theorem domInUse_asked (e : Nat) : domInUse (asked d s) e = domInUse s e := by
  have hring : ∀ r, ringBusy (asked d s) r = ringBusy s r := fun _ => rfl
  have hscrub : ∀ k, scrubbing (asked d s) k = scrubbing s k := fun _ => rfl
  have hxfe : (asked d s).fd R.XFE_STATUS 12 0 = s.fd R.XFE_STATUS 12 0 := fd_asked_ne d s (by decide) _ _
  have htop : (asked d s).top = s.top := fd_asked_ne d s (by decide) _ _
  obtain ⟨hunit, hst⟩ := scribe_asked d s (e - 0xA0)
  simp only [domInUse, hring, lane_asked, memInUse_asked, hscrub, loopsOn_asked, hunit, hst, hxfe, htop]

end

/-! What a request does (R137–R139) -/

section
variable (d : Nat) (s : State)

theorem mem_queueUp : d ∈ (queueUp d s).pwr.upQ := by
  unfold queueUp
  split_ifs with h
  · exact List.contains_iff_mem.mp h
  · exact List.mem_append_right _ List.mem_cons_self

/-- Queueing changes the list of the rails alone. -/
theorem queueUp_only : ∃ g, queueUp d s = s.uPwr g := by
  unfold queueUp
  split_ifs
  · exact ⟨id, rfl⟩
  · exact ⟨_, rfl⟩

variable {d s}

theorem domAct_on (h : s.dom d = 0) : domAct d .on s = queueUp d (setAuto d false s) := if_pos (by simp [h])

/-- OFF of a domain in use is refused; a scrub burst that stands in the way is held first (21 R555). -/
theorem domAct_off_inUse (h : s.dom d = 2) (hin : domInUse s d = true) :
    ∃ g, domAct d .off s = (domResult d 2 (s.uMem g)).ev Ev.PWR_REFUSED d [] := by
  simp only [domAct, h, Nat.reduceBEq, Bool.false_eq_true, ↓reduceIte, hin]
  split_ifs
  · exact ⟨_, rfl⟩
  · exact ⟨id, rfl⟩

theorem domAct_off_idle (h : s.dom d = 2) (hin : domInUse s d = false) : domAct d .off s = sleepStart d (setAuto d false s) := by
  simp only [domAct, h, Nat.reduceBEq, Bool.false_eq_true, ↓reduceIte, hin]

theorem domAct_auto_up (h : s.dom d = 2) : domAct d .auto s = domResult d 0 (setAuto d true s) := by
  simp only [domAct, h, Nat.reduceBEq, Bool.false_and, Bool.false_eq_true, ↓reduceIte]

end

/-! What a domain's leaving ON keeps (R136) -/

theorem HostFrame.hbm {W : Nat → Prop} {s t : State} (h : HostFrame W s t) : t.hbm = s.hbm := congrArg (fun x => x.1) h.1

theorem HostFrame.vel {W : Nat → Prop} {s t : State} (h : HostFrame W s t) : t.vel = s.vel := congrArg (fun x => x.2.1) h.1

theorem HostFrame.flash {W : Nat → Prop} {s t : State} (h : HostFrame W s t) : t.flash = s.flash := congrArg (fun x => x.2.2.1) h.1

/-- The registers of the domains: the outcome of a request and their states. -/
def DomReg (o : Nat) : Prop := o = R.PWR_DOM_RESULT ∨ (0x30100 ≤ o ∧ o < 0x30200)

/-- From s to t memory reads the same, and the registers of the domains stand. -/
structure DomKept (s t : State) : Prop where
  mem : SameMem s t
  rd : ∀ o, DomReg o → t.rd o = s.rd o

namespace DomKept

variable {s t u : State}

theorem of_eq (hh : t.hbm = s.hbm) (hv : t.vel = s.vel) (hf : t.flash = s.flash) (hr : t.regs = s.regs) : DomKept s t :=
  ⟨.of_eq hh hv hf, fun o _ => rd_of_regs_eq hr o⟩

theorem refl (s : State) : DomKept s s := of_eq rfl rfl rfl rfl

theorem trans (h : DomKept s t) (g : DomKept t u) : DomKept s u := ⟨h.mem.trans g.mem, fun o ho => (g.rd o ho).trans (h.rd o ho)⟩

theorem fw (h : DomKept s t) {off hi lo v : Nat} (ho : ¬DomReg off := by grind [DomReg]) : DomKept s (t.fw off hi lo v) :=
  h.trans ⟨.of_eq rfl rfl rfl, fun _ hdom => rd_fw_ne _ _ _ _ fun he => ho (he ▸ hdom)⟩

theorem ev (h : DomKept s t) {code src : Nat} {args : List Nat} : DomKept s (t.ev code src args) :=
  h.trans ⟨ev_sameMem .., fun o hdom => ev_regsKept t code src args o (by grind [DomReg])⟩

theorem uMem (h : DomKept s t) {g} : DomKept s (t.uMem g) := h.trans (.of_eq rfl rfl rfl rfl)
theorem uLk (h : DomKept s t) {p g} : DomKept s (t.uLk p g) := h.trans (.of_eq rfl rfl rfl rfl)
theorem uPkg (h : DomKept s t) {g} : DomKept s (t.uPkg g) := h.trans (.of_eq rfl rfl rfl rfl)
theorem uScr (h : DomKept s t) {g} : DomKept s (t.uScr g) := h.trans (.of_eq rfl rfl rfl rfl)
theorem uFab (h : DomKept s t) {g} : DomKept s (t.uFab g) := h.trans (.of_eq rfl rfl rfl rfl)
theorem uProof (h : DomKept s t) {g} : DomKept s (t.uProof g) := h.trans (.of_eq rfl rfl rfl rfl)

/-- None of what a reset of the host's side writes is a domain's. -/
theorem of_host (h : HostFrame HostReg s t) : DomKept s t := by
  refine ⟨.of_eq h.hbm h.vel h.flash, fun o hdom => h.2 o fun ho => ?_⟩
  simp only [DomReg, HostReg, TicketReg, EndReg, R.PWR_DOM_RESULT, R.PWR_HN_PENDING, R.EVT_DROP_CNT, R.BOOT_MB_STATUS, R.PCIE_STATUS,
    R.PCIE_OUTSTANDING, R.CLK_STATUS, R.PCIE_BAR2_BASE, R.TIME_PTM_STATUS, List.mem_cons, List.not_mem_nil, or_false] at hdom ho
  omega

theorem dom (h : DomKept s t) {d : Nat} (hd : d < 168) : t.dom d = s.dom d := dom_of_rd_eq (h.rd _ (.inr (by omega)))

theorem result (h : DomKept s t) : t.rd R.PWR_DOM_RESULT = s.rd R.PWR_DOM_RESULT := h.rd _ (.inl rfl)

end DomKept

theorem pairSync_frame {d : Nat} (hd : d < 0x80) (s : State) : HostFrame TicketReg s (pairSync d s) :=
  (ringSync_frame (by omega) s).trans (ringSync_frame (by omega) _)

theorem pairSync_domKept {d : Nat} (hd : d < 0x80) (s : State) : DomKept s (pairSync d s) := .of_host ((pairSync_frame hd s).mono fun _ => .inl)

section
variable {s t : State} (h : DomKept s t)
include h

theorem portSet_domKept {p st : Nat} : DomKept s (portSet p st t) := by
  unfold portSet
  extract_lets old t1
  have h1 : DomKept s t1 := h.fw.fw
  split_ifs
  · exact h1
  · exact h1.uLk.ev
  · exact h1.ev
  · exact h1

/-! A Scribe stops (06 R184; 15 R412) -/

theorem sessionEnd_domKept (who : Nat → Bool) : DomKept s (sessionEnd who t) :=
  h.trans (.of_host ((sessionEnd_ends who t).1.mono fun _ => EndReg.host))

theorem ckptAbandon_domKept : DomKept s (ckptAbandon .package t) := by
  unfold ckptAbandon
  split_ifs
  · exact h
  · exact h.uPkg.ev

theorem scribeSolo_domKept : DomKept s (scribeSolo t) := by
  unfold scribeSolo
  split_ifs
  · exact h
  · exact ckptAbandon_domKept h.fw.fw.ev

theorem scribeGone_domKept {u : Nat} : DomKept s (scribeGone u t) := by
  unfold scribeGone
  extract_lets t1 t2
  have h2 : DomKept s t2 := (sessionEnd_domKept h _).uScr.fw
  split_ifs
  · exact h2
  · exact scribeSolo_domKept h2

end

theorem functionReset_domKept (s : State) : DomKept s (functionReset s) := .of_host (hostReset_ended (functionReset_ends s)).2

theorem gatesOff_domKept (s : State) : DomKept s (gatesOff s) := by
  have hgates := gatesOff_gatesOnly s
  exact .of_eq (by rw [hgates]) (by rw [hgates]) hgates.flash hgates.regs

theorem sbSet_domKept (d : Dir) (p : SbPort) (s : State) : DomKept s (sbSet d p s) := ⟨sbSet_sameMem .., fun o _ => rd_of_regs_eq (sbSet_regs ..) o⟩

/-- A domain that quiesces for power-down changes no memory, no domain's state and no request's outcome (R136). -/
theorem domDown_domKept (d : Nat) (s : State) : DomKept s (domDown d s) := by
  have h := DomKept.refl s
  unfold domDown
  split_ifs with hpair
  · exact pairSync_domKept hpair s
  · exact portSet_domKept h
  · exact h.fw.fw.uMem
  · exact h.fw.fw.fw
  · exact scribeGone_domKept h
  · exact functionReset_domKept s
  · exact h.uFab
  · exact h.uProof.fw.fw
  · exact gatesOff_domKept s
  · exact (sbSet_domKept ..).trans (sbSet_domKept ..)
  · exact h

theorem sleepStart_dom {d : Nat} (hd : d < 168) (s : State) : (sleepStart d s).dom d = 3 := by rw [sleepStart, (domDown_domKept d _).dom hd, dom_setDom]

theorem sleepStart_result (d : Nat) (s : State) : (sleepStart d s).rd R.PWR_DOM_RESULT = s.rd R.PWR_DOM_RESULT := by
  rw [sleepStart, (domDown_domKept d _).result, rd_setDom_ne _ _ _ (by simp only [R.PWR_DOM_RESULT]; omega)]

theorem sleepStart_sameMem (d : Nat) (s : State) : SameMem s (sleepStart d s) := (setDom_sameMem s d 3).trans (domDown_domKept d _).mem

/-! The lowest waiting domain of a rail (R137) -/

theorem findIdxFrom_eq_some {f : Nat → Bool} {n k i : Nat} (hk : k ≤ i) (hn : i < k + n) (hi : f i = true) (hlow : ∀ j, k ≤ j → j < i → f j = false) :
    findIdxFrom f n k = some i := by
  induction n generalizing k with
  | zero => omega
  | succ n ih =>
    unfold findIdxFrom
    by_cases hki : k = i
    · rw [if_pos (hki ▸ hi), hki]
    · rw [if_neg (by rw [hlow k le_rfl (by omega)]; exact Bool.false_ne_true)]
      exact ih (by omega) (by omega) fun j hj => hlow j (by omega)

theorem lowest_eq_some {f : Nat → Bool} {n i : Nat} (hn : i < n) (hi : f i = true) (hlow : ∀ j < i, f j = false) : lowest n f = some i :=
  findIdxFrom_eq_some (Nat.zero_le i) (by omega) hi fun j _ => hlow j

/-- The domain whose turn it is on its rail leaves the queue and is WAKING (R137). -/
def railTurn (d : Nat) (s : State) : State := wakingCount ((s.uPwr fun p => { p with upQ := p.upQ.filter (· != d) }).setDom d 1)

theorem exec_powerUpStart {s : State} {d : Nat} (hd : d < 168) (hq : d ∈ s.pwr.upQ) (hdom : s.dom d = 0) (hrst : s.rst.doms.contains d = false)
    (hlow : ∀ e < d, e ∈ s.pwr.upQ → railOf e = railOf d → s.dom e = 0 → e ∈ s.rst.doms) :
    exec (.powerUpStart (railOf d)) s = .next (railTurn d s) := by
  have hfound : (lowest 168 fun e => railOf e == railOf d && s.pwr.upQ.contains e && s.dom e == 0 && !s.rst.doms.contains e) = some d := by
    refine lowest_eq_some hd ?_ fun e he => ?_
    · simpa [hdom, hq] using hrst
    · have := hlow e he
      simp only [Bool.and_eq_false_imp, beq_iff_eq, List.contains_iff_mem, Bool.not_eq_false', Bool.and_eq_true, and_imp]
      exact fun hrail hmem hoff => this hmem hrail hoff
  show execPowerUpStart (railOf d) s = _
  rw [execPowerUpStart, hfound]
  rfl

theorem railTurn_dom (d : Nat) (s : State) : (railTurn d s).dom d = 1 := by rw [railTurn, dom_wakingCount, dom_setDom]

theorem railTurn_upQ (d : Nat) (s : State) : d ∉ (railTurn d s).pwr.upQ := fun h => by
  have hmem : d ∈ s.pwr.upQ.filter (· != d) := h
  simp at hmem

theorem railTurn_regsKept (d : Nat) (s : State) : RegsKept [0x30100 + 4 * (d / 16), R.PWR_STATUS] s (railTurn d s) :=
  ((RegsKept.of_regs_eq (t := s.uPwr _) _ rfl).fw (by simp) _ _ _).fw (by simp) _ _ _

/-! A domain comes ON (R134, R136) -/

theorem smGet_filter_of_not {α : Type} (d : Nat → α) {f : Nat × α → Bool} {a : Nat} (h : ∀ v, f (a, v) = false) (m : SMap α) :
    smGet d (m.filter f) a = d a := by
  induction m with
  | nil => rfl
  | cons e m ih =>
    obtain ⟨j, v⟩ := e
    by_cases hj : j = a
    · rw [List.filter_cons_of_neg (by rw [hj, h v]; exact Bool.false_ne_true), ih]
    · by_cases hf : f (j, v) = true
      · rw [List.filter_cons_of_pos hf, smGet, if_neg hj, ih]
      · rw [List.filter_cons_of_neg hf, ih]

theorem smGet_zeroVellum (d : Nat) (s : State) {a : Nat} (hlo : 2 ^ 22 * d ≤ a) (hhi : a < 2 ^ 22 * (d + 1)) :
    smGet ramD (zeroVellum d s).vel a = 0 :=
  smGet_filter_of_not ramD (f := fun e => decide (e.1 < 2 ^ 22 * d) || decide (2 ^ 22 * (d + 1) ≤ e.1)) (fun v => by simp; omega) s.vel

/-- A domain's state and the count of WAKING as it comes ON, before what its return changes. -/
def wokenBare (d : Nat) (s : State) : State := wakingCount (s.setDom d 2)

section
variable {d : Nat} (hd : d < 168) {s : State}

theorem wokenBare_dom (d : Nat) (s : State) : (wokenBare d s).dom d = 2 := by rw [wokenBare, dom_wakingCount, dom_setDom]

theorem wokenBare_result (d : Nat) (s : State) : (wokenBare d s).rd R.PWR_DOM_RESULT = s.rd R.PWR_DOM_RESULT := by
  have hne : R.PWR_DOM_RESULT ≠ 0x30100 + 4 * (d / 16) := by simp only [R.PWR_DOM_RESULT]; omega
  rw [wokenBare, wakingCount, rd_fw_ne _ _ _ _ (by decide), rd_setDom_ne _ _ _ hne]

theorem wakeDone_eq (hw : s.pwr.waiting = []) : wakeDone d s = domResult d 0 (domBack d (wokenBare d s)) := by
  have hback : PwrKept (wokenBare d s) (domBack d (wokenBare d s)) := (PwrKept.refl _).domBack
  exact domDone_of_none ((congrArg Pwr.waiting hback.pwr).trans hw) d

include hd in
/-- A domain that wakes is ON, and the request that began it is done. -/
theorem wakeDone_state (hw : s.pwr.waiting = []) :
    (wakeDone d s).dom d = 2 ∧ (s.rd R.PWR_DOM_RESULT = 256 + d → (wakeDone d s).rd R.PWR_DOM_RESULT = d) := by
  have hback : PwrKept (wokenBare d s) (domBack d (wokenBare d s)) := (PwrKept.refl _).domBack
  rw [wakeDone_eq hw]
  refine ⟨?_, fun hres => ?_⟩
  · rw [domResult_dom, dom_of_rd_eq (hback.rd _ (by omega) (by omega)), wokenBare_dom]
  · have hnamed : (domBack d (wokenBare d s)).rd R.PWR_DOM_RESULT = 256 + d := by
      rw [hback.rd _ (by decide) (by decide), wokenBare_result, hres]
    rw [rd_domResult hnamed (by omega)]
    omega

/-- A pair, the transfer engine and the fabric block lose nothing but the pair's Vellum. -/
theorem domBack_mem (h : d < 0x80 ∨ d = 0xA3 ∨ d = 0xA4) (s : State) :
    (domBack d s).hbm = s.hbm ∧ (domBack d s).flash = s.flash ∧ (d < 0x80 → (domBack d s).vel = (zeroVellum d s).vel) := by
  rcases h with hpair | rfl | rfl
  · have heq : domBack d s = pairSync d (wakeOver (2 * d + 1) (wakeOver (2 * d) (zeroVellum d s))) := if_pos hpair
    have hside := pairSync_frame hpair (wakeOver (2 * d + 1) (wakeOver (2 * d) (zeroVellum d s)))
    rw [heq]
    exact ⟨hside.hbm, hside.flash, fun _ => hside.vel⟩
  · exact ⟨rfl, rfl, fun hlt => absurd hlt (by decide)⟩
  · exact ⟨rfl, rfl, fun hlt => absurd hlt (by decide)⟩

theorem wakeDone_mem (h : d < 0x80 ∨ d = 0xA3 ∨ d = 0xA4) (hw : s.pwr.waiting = []) :
    (wakeDone d s).hbm = s.hbm ∧ (wakeDone d s).flash = s.flash
      ∧ (d < 0x80 → ∀ a, 2 ^ 22 * d ≤ a → a < 2 ^ 22 * (d + 1) → smGet ramD (wakeDone d s).vel a = 0) := by
  obtain ⟨hhbm, hflash, hvel⟩ := domBack_mem h (wokenBare d s)
  rw [wakeDone_eq hw, domResult_hbm, domResult_flash, domResult_vel]
  refine ⟨hhbm, hflash, fun hpair a hlo hhi => ?_⟩
  rw [hvel hpair]
  exact smGet_zeroVellum d _ hlo hhi

end

theorem exec_domainWakeDone {s : State} {d : Fin 168} (h : s.dom d.val = 1) : exec (.domainWakeDone d) s = .next (wakeDone d.val s) :=
  congrArg Host.Outcome.next (if_pos h)

/-! A domain reaches OFF (R136) -/

/-- A domain in OFF with its sequence at an end. -/
def slept (d : Nat) (s : State) : State :=
  let t := domResult d 0 (s.setDom d 0)
  if d < 0x80 then pairSync d t else t

theorem exec_domainSleepDone {s : State} {d : Fin 168} (hdom : s.dom d.val = 3) (hw : s.pwr.waiting = []) (ha : s.pwr.auto.contains d.val = false) :
    exec (.domainSleepDone d) s = .next (slept d.val s) := by
  have hdone : domDone d.val (s.setDom d.val 0) = domResult d.val 0 (s.setDom d.val 0) := domDone_of_none (s := s.setDom d.val 0) hw d.val
  have hpwr : (slept d.val s).pwr = s.pwr := by
    unfold slept
    extract_lets t
    have ht : t.pwr = s.pwr := domResult_pwr ..
    split_ifs
    · exact (PwrKept.refl t).pairSync.pwr.trans ht
    · exact ht
  show execDomainSleepDone d s = _
  unfold execDomainSleepDone
  extract_lets d' t1 t2 calls
  have ht2 : t2 = slept d.val s := by simp only [t2, t1, d', hdone, slept]
  rw [if_neg (not_not.mpr hdom), ht2, hpwr, if_neg (by rw [ha]; simp)]
  rfl

theorem slept_domKept {d : Nat} (s : State) : DomKept (domResult d 0 (s.setDom d 0)) (slept d s) := by
  unfold slept
  extract_lets t
  split_ifs with hpair
  · exact pairSync_domKept hpair t
  · exact .refl t

theorem slept_state {d : Nat} (hd : d < 168) (s : State) : (slept d s).dom d = 0 ∧ SameMem s (slept d s)
    ∧ (s.rd R.PWR_DOM_RESULT = 256 + d → (slept d s).rd R.PWR_DOM_RESULT = d) := by
  have hkept := slept_domKept (d := d) s
  refine ⟨?_, ((setDom_sameMem s d 0).trans (domResult_sameMem ..)).trans hkept.mem, fun hres => ?_⟩
  · rw [hkept.dom hd, domResult_dom, dom_setDom]
  · have hnamed : (s.setDom d 0).rd R.PWR_DOM_RESULT = 256 + d := by
      rw [rd_setDom_ne _ _ _ (by simp only [R.PWR_DOM_RESULT]; omega), hres]
    rw [hkept.result, rd_domResult hnamed (by omega)]
    omega

theorem railTurn_sameMem (d : Nat) (s : State) : SameMem s (railTurn d s) :=
  (uPwr_sameMem s _).trans ((setDom_sameMem _ d 1).trans (wakingCount_sameMem _))

theorem exec_autoIdlePowerOff {s : State} {d : Fin 128} (ha : s.pwr.auto.contains d.val = true) (hup : s.domUp d.val = true)
    (hin : domInUse s d.val = false) : exec (.autoIdlePowerOff d) s = .next (sleepStart d.val s) := if_pos ⟨ha, hup, hin⟩

/-! The parts of the obligation: what each request and each end of a sequence comes to -/

/-- A request from the host's paths is denied (R138). -/
theorem domReq_denied_state {s : State} {p : Path} {d : Nat} (a : DomAct) (hroom : RoomFor s) (hp : hostLike p = true) (hd : d < 256) :
    Raised (domReq p d a s) Ev.PWR_DENIED 0 ∧ (domReq p d a s).rd R.PWR_DOM_RESULT = 768 + d ∧ (domReq p d a s).pwr = s.pwr
      ∧ RegsKept [R.PWR_DOM_RESULT] s (domReq p d a s) ∧ SameMem s (domReq p d a s) := by
  obtain ⟨args, heq⟩ := domReq_denied (d := d) (a := a) (s := s) hp
  have hroom' : RoomFor (s.wr R.PWR_DOM_RESULT (768 + d)) := hroom
  have hregs := ev_regs hroom' Ev.PWR_DENIED 0 args
  rw [heq]
  exact ⟨ev_raised hroom' .., (rd_of_regs_eq hregs _).trans (rd_result (by omega) s), ev_pwr .., (result_regsKept _ s).keep hregs,
    (wr_sameMem ..).trans (ev_sameMem ..)⟩

section
variable {s : State} {p : Path} {d : Byte} (hreach : Reaches p s) (hp : hostLike p = false)
include hreach hp

/-- An invalid request only answers (R138). -/
theorem invalid_runs {c : Instr}
    (hc : (0xA8 ≤ d.toNat ∧ c ∈ [Instr.pwrDomOn p d, .pwrDomOff p d, .pwrDomAuto p d]) ∨ (0x80 ≤ d.toNat ∧ c = .pwrDomAuto p d)) :
    Runs c s fun t => t.rd R.PWR_DOM_RESULT = 1024 + d.toNat ∧ t.pwr = s.pwr ∧ t.evt = s.evt ∧ RegsKept [R.PWR_DOM_RESULT] s t ∧ SameMem s t := by
  have hd := d.isLt
  have hrun : exec c s = .next (s.wr R.PWR_DOM_RESULT (1024 + d.toNat)) := by
    rcases hc with ⟨hge, hmem⟩ | ⟨hge, rfl⟩
    · obtain ⟨a, ha⟩ := exec_domReq hreach hmem
      rw [ha, domReq_invalid hp (.inl hge)]
    · rw [exec_pwrDomAuto hreach, domReq_invalid hp (.inr ⟨rfl, hge⟩)]
  exact ⟨_, hrun, rd_result (by omega) s, rfl, rfl, result_regsKept _ s, wr_sameMem ..⟩

variable (hrst : s.rst.doms.contains d.toNat = false)
include hrst

section
variable (hd : d.toNat < 0xA8)
include hd

/-- ON of an OFF domain queues it for its rail (R137). -/
theorem on_runs (hdom : s.dom d.toNat = 0) : Runs (.pwrDomOn p d) s fun t =>
    d.toNat ∈ t.pwr.upQ ∧ t.rd R.PWR_DOM_RESULT = 256 + d.toNat ∧ RegsKept [R.PWR_DOM_RESULT] s t ∧ SameMem s t := by
  have hact := domReq_acts (a := .on) hp hd (fun h => nomatch h) (.inl hdom) hrst
  rw [domAct_on ((dom_asked ..).trans hdom)] at hact
  obtain ⟨g, hg⟩ := queueUp_only d.toNat (setAuto d.toNat false (asked d.toNat s))
  refine ⟨_, exec_pwrDomOn hreach d, ?_⟩
  rw [hact]
  refine ⟨mem_queueUp .., ?_⟩
  rw [hg]
  have hregs : ((setAuto d.toNat false (asked d.toNat s)).uPwr g).regs = (asked d.toNat s).regs := rfl
  exact ⟨(rd_of_regs_eq hregs _).trans (rd_asked hd s), (asked_regsKept _ s).keep hregs,
    (asked_sameMem ..).trans ((uPwr_sameMem ..).trans (uPwr_sameMem ..))⟩

variable (hdom : s.dom d.toNat = 2)
include hdom

/-- OFF of a domain in use is refused (R138, Table 5.1). -/
theorem off_inUse_runs (hin : domInUse s d.toNat = true) (hroom : RoomFor s) : Runs (.pwrDomOff p d) s fun t =>
    t.rd R.PWR_DOM_RESULT = 512 + d.toNat ∧ Raised t Ev.PWR_REFUSED d.toNat ∧ t.pwr = s.pwr ∧ RegsKept [R.PWR_DOM_RESULT] s t ∧ SameMem s t := by
  have hact := domReq_acts (a := .off) hp hd (fun h => nomatch h) (.inr hdom) hrst
  obtain ⟨g, hg⟩ := domAct_off_inUse ((dom_asked ..).trans hdom) ((domInUse_asked ..).trans hin)
  have hres : ((asked d.toNat s).uMem g).rd R.PWR_DOM_RESULT = 256 + d.toNat := rd_asked hd s
  rw [domResult_eq hres] at hg
  have hroom' : RoomFor (((asked d.toNat s).uMem g).wr R.PWR_DOM_RESULT (256 * 2 + d.toNat)) := hroom
  have hregs := ev_regs hroom' Ev.PWR_REFUSED d.toNat []
  refine ⟨_, exec_pwrDomOff hreach d, ?_⟩
  rw [hact, hg]
  refine ⟨(rd_of_regs_eq hregs _).trans (rd_result (by omega) _), ev_raised hroom' .., ev_pwr .., ?_, ?_⟩
  · have hmem : RegsKept [R.PWR_DOM_RESULT] s ((asked d.toNat s).uMem g) := (asked_regsKept _ s).keep rfl
    exact (hmem.wr List.mem_cons_self _).keep hregs
  · have hmem : SameMem s ((asked d.toNat s).uMem g) := .of_eq rfl rfl rfl
    exact hmem.trans ((wr_sameMem ..).trans (ev_sameMem ..))

/-- OFF of a domain that is not in use begins to power it down (R136). -/
theorem off_idle_runs (hin : domInUse s d.toNat = false) : Runs (.pwrDomOff p d) s fun t =>
    t.dom d.toNat = 3 ∧ t.rd R.PWR_DOM_RESULT = 256 + d.toNat ∧ SameMem s t := by
  have hact := domReq_acts (a := .off) hp hd (fun h => nomatch h) (.inr hdom) hrst
  rw [domAct_off_idle ((dom_asked ..).trans hdom) ((domInUse_asked ..).trans hin)] at hact
  refine ⟨_, exec_pwrDomOff hreach d, ?_⟩
  rw [hact]
  have hregs : (setAuto d.toNat false (asked d.toNat s)).regs = (asked d.toNat s).regs := rfl
  exact ⟨sleepStart_dom hd _, (sleepStart_result ..).trans ((rd_of_regs_eq hregs _).trans (rd_asked hd s)),
    (asked_sameMem ..).trans ((uPwr_sameMem ..).trans (sleepStart_sameMem ..))⟩

end

/-- AUTO is kept for a pair, and done at once where it is ON (R139). -/
theorem auto_runs (hd : d.toNat < 0x80) (hdom : s.dom d.toNat = 2) : Runs (.pwrDomAuto p d) s fun t =>
    d.toNat ∈ t.pwr.auto ∧ t.rd R.PWR_DOM_RESULT = d.toNat ∧ RegsKept [R.PWR_DOM_RESULT] s t ∧ SameMem s t := by
  have hact := domReq_acts (a := .auto) hp (by omega) (fun _ => hd) (.inr hdom) hrst
  have hres : (setAuto d.toNat true (asked d.toNat s)).rd R.PWR_DOM_RESULT = 256 + d.toNat := rd_asked (by omega) s
  rw [domAct_auto_up ((dom_asked ..).trans hdom), domResult_eq hres] at hact
  refine ⟨_, exec_pwrDomAuto hreach d, ?_⟩
  rw [hact]
  have hauto : RegsKept [R.PWR_DOM_RESULT] s (setAuto d.toNat true (asked d.toNat s)) := (asked_regsKept _ s).keep rfl
  refine ⟨List.mem_cons_self, (rd_result (by omega) _).trans (by omega), hauto.wr List.mem_cons_self _, ?_⟩
  exact (asked_sameMem ..).trans ((uPwr_sameMem ..).trans (wr_sameMem ..))

end

/-- Settles O18: a request that is acted on finds PWR_DOM_RESULT naming it; what a domain's leaving ON changes keeps the domains' registers and
memory, and what its return changes keeps the power block. -/
theorem powerRequestsDenyRefuseAndRun : Obligations.PowerRequestsDenyRefuseAndRun := by
  refine ⟨fun s p d c hreach hroom hp hc => ?_, fun s p d c hreach hp hc => invalid_runs hreach hp hc,
    fun s p d hreach hp hd hdom hrst => on_runs hreach hp hrst hd hdom,
    fun s p d hreach hp hd hdom hrst hin hroom => off_inUse_runs hreach hp hrst hd hdom hin hroom,
    fun s p d hreach hp hd hdom hrst hin => off_idle_runs hreach hp hrst hd hdom hin,
    fun s p d hreach hp hd hdom hrst => auto_runs hreach hp hrst hd hdom,
    fun s d hd hq hdom hrst hlow => ⟨_, exec_powerUpStart hd hq hdom hrst hlow, railTurn_dom d s, railTurn_upQ d s, fd_wakingCount _,
      railTurn_regsKept d s, railTurn_sameMem d s⟩,
    fun s d hkind hdom hw => ?_, fun s d hdom hw => ⟨_, exec_domainWakeDone hdom, wakeDone_state d.isLt hw⟩,
    fun s d hdom hw ha => ⟨_, exec_domainSleepDone hdom hw ha, slept_state d.isLt s⟩,
    fun s d ha hup hin => ⟨_, exec_autoIdlePowerOff ha hup hin, sleepStart_dom (by omega) s, sleepStart_sameMem ..⟩⟩
  · obtain ⟨a, ha⟩ := exec_domReq hreach hc
    exact ⟨_, ha, domReq_denied_state a hroom hp d.isLt⟩
  · obtain ⟨hon, hres⟩ := wakeDone_state d.isLt hw
    obtain ⟨hhbm, hflash, hvel⟩ := wakeDone_mem hkind hw
    exact ⟨_, exec_domainWakeDone hdom, hon, hhbm, hflash, hres, hvel⟩

end Sys2Proof.Machine
end

section
/-! The end of a mailbox command (06 R182), and the flash operations (06 R186, R694): an erase and a program take effect when they end. -/

namespace Sys2Proof.Machine

theorem ev_boot (s : State) (code src : Nat) (args : List Nat) : (s.ev code src args).boot = s.boot := by
  unfold State.ev
  split_ifs <;> rfl

theorem ev_rst (s : State) (code src : Nat) (args : List Nat) : (s.ev code src args).rst = s.rst := by
  unfold State.ev
  split_ifs <;> rfl

theorem ev_fuses (s : State) (code src : Nat) (args : List Nat) : (s.ev code src args).fuses = s.fuses := by
  unfold State.ev
  split_ifs <;> rfl

/-- From s to t only registers differ. -/
def RegsOnly (s t : State) : Prop := t = { s with regs := t.regs }

namespace RegsOnly

variable {s t u : State}

theorem refl (s : State) : RegsOnly s s := rfl

theorem trans (h : RegsOnly s t) (g : RegsOnly t u) : RegsOnly s u := by
  unfold RegsOnly at *
  rw [g, h]

theorem wr (h : RegsOnly s t) (off v : Nat) : RegsOnly s (t.wr off v) := h.trans rfl

theorem fw (h : RegsOnly s t) (off hi lo v : Nat) : RegsOnly s (t.fw off hi lo v) := h.wr _ _

theorem wr64 (h : RegsOnly s t) (off v : Nat) : RegsOnly s (t.wr64 off v) := (h.wr _ _).wr _ _

theorem sat (h : RegsOnly s t) (off hi lo n : Nat) : RegsOnly s (t.sat off hi lo n) := h.wr _ _

theorem foldl {α : Type} {f : State → α → State} (hf : ∀ s a, RegsOnly s (f s a)) (h : RegsOnly s t) (l : List α) : RegsOnly s (l.foldl f t) :=
  List.foldlRecOn (motive := RegsOnly s) l f h fun t ht a _ => ht.trans (hf t a)

theorem boot (h : RegsOnly s t) : t.boot = s.boot := by rw [h]

theorem evt (h : RegsOnly s t) : t.evt = s.evt := by rw [h]

theorem pins (h : RegsOnly s t) : t.pins = s.pins := by rw [h]

theorem fuses (h : RegsOnly s t) : t.fuses = s.fuses := by rw [h]

theorem rst (h : RegsOnly s t) : t.rst = s.rst := by rw [h]

theorem ct (h : RegsOnly s t) : t.ct = s.ct := by rw [h]

theorem hbm (h : RegsOnly s t) : t.hbm = s.hbm := by rw [h]

theorem vel (h : RegsOnly s t) : t.vel = s.vel := by rw [h]

theorem flash (h : RegsOnly s t) : t.flash = s.flash := by rw [h]

theorem sameMem (h : RegsOnly s t) : SameMem s t := .of_eq h.hbm h.vel h.flash

theorem roomFor (h : RegsOnly s t) (room : RoomFor s) : RoomFor t := by rwa [RoomFor, h.evt]

end RegsOnly

theorem roomFor_of_evt_eq {s t : State} (h : t.evt = s.evt) (room : RoomFor s) : RoomFor t := by rwa [RoomFor, h]

/-! A command ends (R182) -/

/-- BOOT_MB_STATUS as the end of a command leaves it: RESULT, OP and no BUSY. -/
def mbShown (op result : Nat) (s : State) : State :=
  ((s.fw R.BOOT_MB_STATUS 15 8 result).fw R.BOOT_MB_STATUS 7 0 op).fw R.BOOT_MB_STATUS 31 31 0

theorem mbEnd_eq (p op result : Nat) (s : State) : mbEnd p op result s = (mbShown op result s).ev Ev.MB_DONE 0 [op, result, p] := rfl

theorem mbShown_only (op result : Nat) (s : State) : RegsOnly s (mbShown op result s) := (((RegsOnly.refl s).fw _ _ _ _).fw _ _ _ _).fw _ _ _ _

theorem mbShown_regsKept (op result : Nat) (s : State) : RegsKept [R.BOOT_MB_STATUS] s (mbShown op result s) :=
  (((RegsKept.of_regs_eq _ rfl).fw List.mem_cons_self _ _ _).fw List.mem_cons_self _ _ _).fw List.mem_cons_self _ _ _

section
variable (p op result : Nat) (s : State)

theorem rd_mbEnd_status : (mbEnd p op result s).rd R.BOOT_MB_STATUS = (mbShown op result s).rd R.BOOT_MB_STATUS :=
  ev_regsKept _ _ _ _ _ (by decide)

theorem mbEnd_result (h : result < 256) : (mbEnd p op result s).fd R.BOOT_MB_STATUS 15 8 = result := by
  rw [fd_of_rd_eq (rd_mbEnd_status ..), mbShown, fd_fw_of_disjoint _ _ _ (by decide) (by decide) (by decide) (by decide),
    fd_fw_of_disjoint _ _ _ (by decide) (by decide) (by decide) (by decide), fd_fw_same _ _ _ (by decide)]
  exact Nat.mod_eq_of_lt h

theorem mbEnd_op (h : op < 256) : (mbEnd p op result s).fd R.BOOT_MB_STATUS 7 0 = op := by
  rw [fd_of_rd_eq (rd_mbEnd_status ..), mbShown, fd_fw_of_disjoint _ _ _ (by decide) (by decide) (by decide) (by decide),
    fd_fw_same _ _ _ (by decide)]
  exact Nat.mod_eq_of_lt h

theorem fieldOf_halves (w : Nat) : fieldOf w 15 0 = 256 * fieldOf w 15 8 + fieldOf w 7 0 := by
  simp only [fieldOf, Nat.shiftRight_eq_div_pow]
  omega

/-- RESULT and OP read as one number. -/
theorem mbEnd_answer (hr : result < 256) (ho : op < 256) : (mbEnd p op result s).fd R.BOOT_MB_STATUS 15 0 = 256 * result + op := by
  rw [State.fd, fieldOf_halves, ← State.fd, ← State.fd, mbEnd_result _ _ _ _ hr, mbEnd_op _ _ _ _ ho]

theorem mbEnd_idle : (mbEnd p op result s).bit R.BOOT_MB_STATUS 31 = false := by
  rw [bit_of_rd_eq (rd_mbEnd_status ..), mbShown, bit_fw (by decide) (by decide) (by decide)]
  rfl

theorem mbEnd_raised (room : RoomFor s) : Raised (mbEnd p op result s) Ev.MB_DONE 0 := by
  rw [mbEnd_eq]
  exact ev_raised ((mbShown_only ..).roomFor room) _ _ _

/-- Where the queue has room, the end of a command changes its status register alone. -/
theorem mbEnd_regsKept_of_room (room : RoomFor s) : RegsKept [R.BOOT_MB_STATUS] s (mbEnd p op result s) := by
  rw [mbEnd_eq]
  exact (mbShown_regsKept op result s).keep (ev_regs ((mbShown_only ..).roomFor room) _ _ _)

theorem mbEnd_regsKept : RegsKept [R.BOOT_MB_STATUS, R.EVT_DROP_CNT] s (mbEnd p op result s) :=
  ((mbShown_regsKept op result s).mono (by simp)).ev (by simp) _ _ _

theorem mbEnd_boot : (mbEnd p op result s).boot = s.boot := by
  rw [mbEnd_eq, ev_boot, (mbShown_only ..).boot]

theorem mbEnd_rst : (mbEnd p op result s).rst = s.rst := by rw [mbEnd_eq, ev_rst, (mbShown_only ..).rst]

theorem mbEnd_fuses : (mbEnd p op result s).fuses = s.fuses := by rw [mbEnd_eq, ev_fuses, (mbShown_only ..).fuses]

theorem mbEnd_hbm : (mbEnd p op result s).hbm = s.hbm := (mbEnd_ends p op result s).1.hbm

theorem mbEnd_vel : (mbEnd p op result s).vel = s.vel := (mbEnd_ends p op result s).1.vel

theorem mbEnd_flash : (mbEnd p op result s).flash = s.flash := (mbEnd_ends p op result s).1.flash

theorem mbEnd_sameMem : SameMem s (mbEnd p op result s) := .of_eq (mbEnd_hbm ..) (mbEnd_vel ..) (mbEnd_flash ..)

end

/-! The bytes of the flash (R694) -/

theorem smGet_filter_of_kept {α : Type} (d : Nat → α) {f : Nat × α → Bool} {a : Nat} (h : ∀ v, f (a, v) = true) (m : SMap α) :
    smGet d (m.filter f) a = smGet d m a := by
  induction m with
  | nil => rfl
  | cons e m ih =>
    obtain ⟨j, v⟩ := e
    by_cases hf : f (j, v) = true
    · rw [List.filter_cons_of_pos hf, smGet, smGet, ih]
    · have hj : j ≠ a := fun e => hf (e ▸ h v)
      rw [List.filter_cons_of_neg hf, ih, smGet, if_neg hj]

/-- An erased range reads all ones, every other byte as before. -/
theorem smGet_eraseFlash (a n : Nat) (s : State) (x : Nat) :
    smGet flashD (eraseFlash a n s).flash x = if a ≤ x ∧ x < a + n then 0xFF else smGet flashD s.flash x := by
  split_ifs with h
  · exact smGet_filter_of_not flashD (by simpa using h) s.flash
  · exact smGet_filter_of_kept flashD (fun _ => by simp; omega) s.flash

theorem smGet_progFlash (a : Nat) (bs : List Byte) (s : State) {x : Nat} (h : x < a ∨ a + bs.length ≤ x) :
    smGet flashD (progFlash a bs s).flash x = smGet flashD s.flash x := smGet_putBytes _ _ _ _ _ h

theorem smGet_progFlash_in (a : Nat) (bs : List Byte) (s : State) {i : Nat} (h : i < bs.length) :
    smGet flashD (progFlash a bs s).flash (a + i) = bs.getD i 0 := by
  rw [List.getD_eq_getElem _ _ h]
  exact smGet_putBytes_in _ _ _ _ _ h

/-- A failed operation leaves what lies outside its range (log 3). -/
theorem smGet_freeFlash (a n : Nat) (s : State) {x : Nat} (h : x < a ∨ a + n ≤ x) :
    smGet flashD (freeFlash a n s).flash x = smGet flashD s.flash x := smGet_putBytes _ _ _ _ _ (by rwa [List.length_map, List.length_range])

/-! An operation ends (R186) -/

theorem exec_flashOpDone {s : State} {op : FlashOp} (h : s.boot.flash = some op) : exec .flashOpDone s = .next (flashDone op (flashTurn s)) := by
  show execFlashOpDone s = _
  rw [execFlashOpDone, h]
  rfl

theorem exec_flashOpTimeout {s : State} {op : FlashOp} (h : s.boot.flash = some op) : exec .flashOpTimeout s = .next (flashFail op (flashTurn s)) := by
  show execFlashOpTimeout s = _
  rw [execFlashOpTimeout, h]
  rfl

/-- The session that an erase of a slot opens, before the command ends. -/
def sessionOpened (k n : Nat) (s : State) : State :=
  ((s.uBoot fun b => { b with session := some ⟨k, n, 0, s.fd R.BOOT_MB_STATUS 18 16⟩ }).wr R.BOOT_MB_PROGRESS ((n + 65535) / 65536 * 65536)).fw
    R.BOOT_MB_STATUS 24 24 1

theorem flashDone_eraseSlot (k n : Nat) (s : State) : flashDone (.eraseSlot k n) s =
    mbEnd (s.fd R.BOOT_MB_STATUS 18 16) 0x10 0 (sessionOpened k n (eraseFlash (slotBase k) ((n + 65535) / 65536 * 65536) s)) := rfl

theorem sessionOpened_only (k n : Nat) (s : State) :
    RegsOnly (s.uBoot fun b => { b with session := some ⟨k, n, 0, s.fd R.BOOT_MB_STATUS 18 16⟩ }) (sessionOpened k n s) :=
  ((RegsOnly.refl _).wr _ _).fw _ _ _ _

theorem sessionOpened_regsKept (k n : Nat) (s : State) : RegsKept [R.BOOT_MB_STATUS, R.BOOT_MB_PROGRESS] s (sessionOpened k n s) :=
  ((RegsKept.of_regs_eq (t := s.uBoot _) _ rfl).wr (by simp) _).fw (by simp) _ _ _

theorem eraseDone_runs {s : State} {k n : Nat} (h : s.boot.flash = some (.eraseSlot k n)) (room : RoomFor s) : Runs .flashOpDone s fun t =>
    (∀ a, smGet flashD t.flash a = if slotBase k ≤ a ∧ a < slotBase k + (n + 65535) / 65536 * 65536 then 0xFF else smGet flashD s.flash a)
      ∧ t.boot.session = some ⟨k, n, 0, s.fd R.BOOT_MB_STATUS 18 16⟩ ∧ t.fd R.BOOT_MB_STATUS 15 0 = 0x10
      ∧ t.bit R.BOOT_MB_STATUS 31 = false ∧ Raised t Ev.MB_DONE 0
      ∧ RegsKept [R.BOOT_MB_STATUS, R.BOOT_MB_PROGRESS] s t ∧ t.hbm = s.hbm ∧ t.vel = s.vel := by
  refine ⟨_, exec_flashOpDone h, ?_⟩
  rw [flashDone_eraseSlot]
  have honly := sessionOpened_only k n (eraseFlash (slotBase k) ((n + 65535) / 65536 * 65536) (flashTurn s))
  have hroom := roomFor_of_evt_eq honly.evt room
  refine ⟨fun a => ?_, ?_, mbEnd_answer _ _ _ _ (by decide) (by decide), mbEnd_idle .., mbEnd_raised _ _ _ _ hroom, ?_, (mbEnd_hbm ..).trans honly.hbm,
    (mbEnd_vel ..).trans honly.vel⟩
  · rw [mbEnd_flash, honly.flash]
    exact smGet_eraseFlash _ _ (flashTurn s) a
  · rw [mbEnd_boot, honly.boot]
    rfl
  · exact ((sessionOpened_regsKept k n (eraseFlash _ _ (flashTurn s))).keep rfl).trans ((mbEnd_regsKept_of_room _ _ _ _ hroom).mono (by simp))

/-- A program of the session's slot, counted in the session, before the command ends. -/
def programmed (x : Session) (bs : List Byte) (s : State) : State :=
  (s.uBoot fun b => { b with session := some { x with written := x.written + bs.length } }).wr R.BOOT_MB_PROGRESS bs.length

theorem programmed_only (x : Session) (bs : List Byte) (s : State) :
    RegsOnly (s.uBoot fun b => { b with session := some { x with written := x.written + bs.length } }) (programmed x bs s) :=
  (RegsOnly.refl _).wr _ _

theorem flashDone_progSlot {s : State} {x : Session} (h : s.boot.session = some x) (k off : Nat) (bs : List Byte) :
    flashDone (.progSlot k off bs) s = mbEnd x.owner 0x11 0 (programmed x bs (progFlash (slotBase k + off) bs s)) := by
  have hsession : ((progFlash (slotBase k + off) bs s).wr R.BOOT_MB_PROGRESS bs.length).boot.session = some x := h
  simp only [flashDone, hsession]
  rfl

theorem programDone_runs {s : State} {k off : Nat} {bs : List Byte} {x : Session} (h : s.boot.flash = some (.progSlot k off bs))
    (hx : s.boot.session = some x) (room : RoomFor s) : Runs .flashOpDone s fun t =>
      (∀ i < bs.length, smGet flashD t.flash (slotBase k + off + i) = bs.getD i 0)
        ∧ (∀ a, a < slotBase k + off ∨ slotBase k + off + bs.length ≤ a → smGet flashD t.flash a = smGet flashD s.flash a)
        ∧ t.boot.session = some { x with written := x.written + bs.length } ∧ t.fd R.BOOT_MB_STATUS 15 0 = 0x11
        ∧ t.bit R.BOOT_MB_STATUS 31 = false ∧ RegsKept [R.BOOT_MB_STATUS, R.BOOT_MB_PROGRESS] s t ∧ t.hbm = s.hbm ∧ t.vel = s.vel := by
  refine ⟨_, exec_flashOpDone h, ?_⟩
  rw [flashDone_progSlot (s := flashTurn s) hx]
  have honly := programmed_only x bs (progFlash (slotBase k + off) bs (flashTurn s))
  have hroom := roomFor_of_evt_eq honly.evt room
  refine ⟨fun i hi => ?_, fun a ha => ?_, ?_, mbEnd_answer _ _ _ _ (by decide) (by decide), mbEnd_idle .., ?_,
    (mbEnd_hbm ..).trans honly.hbm, (mbEnd_vel ..).trans honly.vel⟩
  · rw [mbEnd_flash, honly.flash]
    exact smGet_progFlash_in _ bs (flashTurn s) hi
  · rw [mbEnd_flash, honly.flash]
    exact smGet_progFlash _ bs (flashTurn s) ha
  · rw [mbEnd_boot, honly.boot]
    rfl
  · have hcount : RegsKept [R.BOOT_MB_STATUS, R.BOOT_MB_PROGRESS] s (programmed x bs (progFlash (slotBase k + off) bs (flashTurn s))) :=
      RegsKept.wr (t := State.uBoot (progFlash _ bs (flashTurn s)) _) (.of_regs_eq _ rfl) (by simp) _
    exact hcount.trans ((mbEnd_regsKept_of_room _ _ _ _ hroom).mono (by simp))

/-! An operation fails (R694) -/

theorem flashFail_eraseSlot (k n : Nat) (s : State) : flashFail (.eraseSlot k n) s =
    mbEnd (s.fd R.BOOT_MB_STATUS 18 16) 0x10 8 (freeFlash (slotBase k) ((n + 65535) / 65536 * 65536) s) := rfl

theorem flashFail_progSlot {s : State} {x : Session} (h : s.boot.session = some x) (k off : Nat) (bs : List Byte) :
    flashFail (.progSlot k off bs) s = mbEnd x.owner 0x11 8 (freeFlash (slotBase k + off) bs.length s) := by
  have hsession : (freeFlash (slotBase k + off) bs.length s).boot.session = some x := h
  simp only [flashFail, flashSpan, hsession]

/-- A command whose operation fails ends with FLASH_ERROR; what the operation may have touched is its range. -/
theorem flashFailed {s : State} {op a n : Nat} (p : Nat) (hop : op < 256) (room : RoomFor s) :
    let t := mbEnd p op 8 (freeFlash a n (flashTurn s))
    (∀ x, x < a ∨ a + n ≤ x → smGet flashD t.flash x = smGet flashD s.flash x)
      ∧ t.boot.session = s.boot.session ∧ t.fd R.BOOT_MB_STATUS 15 0 = 256 * 8 + op ∧ t.bit R.BOOT_MB_STATUS 31 = false
      ∧ RegsKept [R.BOOT_MB_STATUS] s t ∧ t.hbm = s.hbm ∧ t.vel = s.vel := by
  refine ⟨fun x hx => ?_, ?_, mbEnd_answer _ _ _ _ (by decide) hop, mbEnd_idle .., ?_, mbEnd_hbm .., mbEnd_vel ..⟩
  · rw [mbEnd_flash]
    exact smGet_freeFlash _ _ (flashTurn s) hx
  · rw [mbEnd_boot]
    rfl
  · exact (RegsKept.of_regs_eq (t := freeFlash a n (flashTurn s)) _ rfl).trans (mbEnd_regsKept_of_room _ _ _ _ room)

/-- Settles O24: an operation's bytes are written when it ends, by one erase or one program of its range, and the command's end writes
BOOT_MB_STATUS alone. -/
theorem flashOperationsTakeEffectWhenTheyEnd : Obligations.FlashOperationsTakeEffectWhenTheyEnd := by
  refine ⟨fun s k n => eraseDone_runs, fun s k off bs x => programDone_runs, fun s k n h room => ⟨_, exec_flashOpTimeout h, ?_⟩,
    fun s k off bs x h hx room => ⟨_, exec_flashOpTimeout h, ?_⟩, fun s h => ⟨?_, ?_⟩⟩
  · rw [flashFail_eraseSlot]
    exact flashFailed _ (by decide) room
  · rw [flashFail_progSlot (s := flashTurn s) hx, ← hx]
    exact flashFailed _ (by decide) room
  · show execFlashOpDone s = _
    rw [execFlashOpDone, h]
    rfl
  · show execFlashOpTimeout s = _
    rw [execFlashOpTimeout, h]
    rfl

end Sys2Proof.Machine
end

section
/-! The mailbox and the update session (06 R182–R188): what each command leaves in the mailbox's registers, the slot flags and the session. -/

namespace Sys2Proof.Machine

/-! What a mailbox command reads stands where only registers change -/

theorem bytesToNat_lt (bs : List Byte) : bytesToNat bs < 256 ^ bs.length := by
  induction bs with
  | nil => decide
  | cons b bs ih =>
    have hb := b.isLt
    rw [bytesToNat, List.length_cons, pow_succ]
    omega

theorem hdrDw_lt (s : State) (k i : Nat) : hdrDw s k i < 2 ^ 32 :=
  lt_of_lt_of_eq (bytesToNat_lt _) (by simp [bytesAt])

section
variable {s t : State}

theorem hdrDw_of_flash_eq (h : t.flash = s.flash) : hdrDw t = hdrDw s := by
  funext k i
  rw [hdrDw, hdrDw, State.flashDw, State.flashDw, h]

theorem flashBytes_of_flash_eq (h : t.flash = s.flash) : flashBytes t = flashBytes s := by
  funext a n
  rw [flashBytes, flashBytes, h]

/-- The checks of a slot read the flash, the fuses and CFG_OPEN alone (R171–R173). -/
theorem imageCheck_of_eq (hf : t.flash = s.flash) (hu : t.fuses = s.fuses) (hp : t.pins.cfgOpen = s.pins.cfgOpen) (k : Nat) (late : Bool)
    (limit : Option Nat) : imageCheck t k late limit = imageCheck s k late limit := by
  have hentry : sectionEntry t k = sectionEntry s k := by
    funext i
    simp only [sectionEntry, hdrDw_of_flash_eq hf]
  simp only [imageCheck, tableOk, keyOk, sigOk, digestsOk, regionHash, sectionCount, hentry, hdrDw_of_flash_eq hf,
    flashBytes_of_flash_eq hf, hu, hp]
  rfl

theorem mbArg_of_boot_eq (h : t.boot = s.boot) (p i : Nat) : mbArg t p i = mbArg s p i := by rw [mbArg, mbArg, h]

theorem mbOwned_of_boot_eq (h : t.boot = s.boot) (p : Nat) : mbOwned t p = mbOwned s p := by rw [mbOwned, mbOwned, h]

end

/-- A check ends in one of ten reason codes (Table 6.5). -/
theorem imageCheck_le (s : State) (k : Nat) (late : Bool) (limit : Option Nat) : imageCheck s k late limit ≤ 9 := by
  unfold imageCheck
  split_ifs <;> decide

/-! A slot's VALID flag and reason code (R185, R191) -/

/-- The two slots' reason codes lie side by side. -/
theorem noteCheck_eq {k : Nat} (hk : k ≤ 1) (r : Nat) (s : State) :
    noteCheck k r s = (setValid k (r == 0) s).fw R.BOOT_STATUS (15 - 4 * k) (12 - 4 * k) r := by
  interval_cases k <;> rfl

theorem noteCheck_only (k r : Nat) (s : State) : RegsOnly s (noteCheck k r s) := by
  have hvalid : RegsOnly s (setValid k (r == 0) s) := (RegsOnly.refl s).fw _ _ _ _
  unfold noteCheck
  extract_lets t
  split_ifs
  · exact hvalid.fw _ _ _ _
  · exact hvalid.fw _ _ _ _

theorem noteCheck_regsKept (k r : Nat) (s : State) : RegsKept [R.BOOT_STATUS] s (noteCheck k r s) := by
  have hvalid : RegsKept [R.BOOT_STATUS] s (setValid k (r == 0) s) := (RegsKept.of_regs_eq _ rfl).fw List.mem_cons_self _ _ _
  unfold noteCheck
  extract_lets t
  split_ifs
  · exact hvalid.fw List.mem_cons_self _ _ _
  · exact hvalid.fw List.mem_cons_self _ _ _

theorem imgValid_of_rd_eq {s t : State} (h : t.rd R.BOOT_STATUS = s.rd R.BOOT_STATUS) (k : Nat) : imgValid t k = imgValid s k :=
  bit_of_rd_eq h _

theorem imgValid_setValid {k : Nat} (v : Bool) (s : State) : imgValid (setValid k v s) k = v := by
  rw [imgValid, setValid, bit_fw le_rfl le_rfl (by omega)]
  have hbit : b2n v % 2 ^ (17 - k + 1 - (17 - k)) = b2n v := by
    rw [Nat.add_sub_cancel_left]
    cases v <;> rfl
  rw [hbit, Nat.sub_self, bitOf_b2n]

theorem imgValid_noteCheck {k : Nat} (hk : k ≤ 1) (r : Nat) (s : State) : imgValid (noteCheck k r s) k = (r == 0) := by
  rw [noteCheck_eq hk, imgValid, bit_fw_of_disjoint _ _ _ (by omega) (by omega) (by omega)]
  exact imgValid_setValid _ _

theorem fd_noteCheck {k r : Nat} (hk : k ≤ 1) (hr : r < 16) (s : State) :
    (noteCheck k r s).fd R.BOOT_STATUS (15 - 4 * k) (12 - 4 * k) = r := by
  have hwidth : 15 - 4 * k + 1 - (12 - 4 * k) = 4 := by omega
  rw [noteCheck_eq hk, fd_fw_same _ _ _ (by omega), hwidth]
  exact Nat.mod_eq_of_lt hr

/-! Commands -/

/-- A command is taken: BOOT_MB_PROGRESS begins at zero. -/
def mbTaken (s : State) : State := s.wr R.BOOT_MB_PROGRESS 0

theorem mbTaken_only (s : State) : RegsOnly s (mbTaken s) := (RegsOnly.refl s).wr _ _

theorem mbTaken_regsKept (s : State) : RegsKept [R.BOOT_MB_PROGRESS] s (mbTaken s) := (RegsKept.of_regs_eq _ rfl).wr List.mem_cons_self _

theorem rd_mbTaken_ne {s : State} {o : Nat} (h : o ≠ R.BOOT_MB_PROGRESS) : (mbTaken s).rd o = s.rd o := rd_wr_ne h

theorem mbCommand_busy {s : State} (h : s.bit R.BOOT_MB_STATUS 31 = true) (p op : Nat) (late : Bool) :
    mbCommand p op late s = s.ev Ev.MB_CONFLICT 0 [] := if_pos h

theorem mbCommand_idle {s : State} (h : s.bit R.BOOT_MB_STATUS 31 = false) (p op : Nat) (late : Bool) :
    mbCommand p op late s = mbRun p op late (mbTaken s) := if_neg (by rw [h]; decide)

section
variable {s : State} {p : Path} (h : Reaches p s)
include h

theorem exec_query : exec (.query p) s = .next (mbCommand p.code 0x01 false s) := through_reaches h _ _

theorem exec_updBegin : exec (.updBegin p) s = .next (mbCommand p.code 0x10 false s) := through_reaches h _ _

theorem exec_updWrite : exec (.updWrite p) s = .next (mbCommand p.code 0x11 false s) := through_reaches h _ _

theorem exec_updVerify (late : Bool) : exec (.updVerify p late) s = .next (mbCommand p.code 0x12 late s) := through_reaches h _ _

theorem exec_updAbort : exec (.updAbort p) s = .next (mbCommand p.code 0x13 false s) := through_reaches h _ _

theorem exec_restart : exec (.restart p) s = .next (mbCommand p.code 0x20 false s) := through_reaches h _ _

theorem exec_rollbackAdvance : exec (.rollbackAdvance p) s = .next (mbCommand p.code 0x21 false s) := through_reaches h _ _

theorem exec_mbUnknownOp {o : Byte} (ho : o.toNat ≠ 0x12) : exec (.mbUnknownOp p o) s = .next (mbCommand p.code o.toNat false s) := by
  have hcmd : mbWriteCmd p.code o.toNat s = mbCommand p.code o.toNat false s := if_neg ho
  rw [← hcmd]
  exact through_reaches h _ _

/-- Every write of BOOT_MB_CMD is a command by its opcode (R182). -/
theorem exec_mbCommand {f : Bool} {o : Byte} (ho : o.toNat ≠ 0x12) {c : Instr}
    (hc : c ∈ [Instr.query p, .updBegin p, .updWrite p, .updVerify p f, .updAbort p, .restart p, .rollbackAdvance p, .mbUnknownOp p o]) :
    ∃ op late, exec c s = .next (mbCommand p.code op late s) := by
  simp only [List.mem_cons, List.not_mem_nil, or_false] at hc
  rcases hc with rfl | rfl | rfl | rfl | rfl | rfl | rfl | rfl
  exacts [⟨_, _, exec_query h⟩, ⟨_, _, exec_updBegin h⟩, ⟨_, _, exec_updWrite h⟩, ⟨_, _, exec_updVerify h f⟩, ⟨_, _, exec_updAbort h⟩,
    ⟨_, _, exec_restart h⟩, ⟨_, _, exec_rollbackAdvance h⟩, ⟨_, _, exec_mbUnknownOp h ho⟩]

end

/-- A command that ends at once leaves its result, and writes no register but the mailbox's. -/
theorem mbEnd_taken_state {s u : State} (honly : RegsOnly s u) (hkept : RegsKept [R.BOOT_MB_PROGRESS] s u) {op result : Nat} (p : Nat)
    (hop : op < 256) (hres : result < 256) :
    (mbEnd p op result u).fd R.BOOT_MB_STATUS 15 8 = result ∧ (mbEnd p op result u).fd R.BOOT_MB_STATUS 7 0 = op
      ∧ (mbEnd p op result u).boot = s.boot
      ∧ RegsKept [R.BOOT_MB_STATUS, R.BOOT_MB_PROGRESS, R.EVT_DROP_CNT] s (mbEnd p op result u) ∧ SameMem s (mbEnd p op result u) :=
  ⟨mbEnd_result _ _ _ _ hres, mbEnd_op _ _ _ _ hop, (mbEnd_boot ..).trans honly.boot,
    (hkept.mono (by simp)).trans ((mbEnd_regsKept _ _ _ _).mono (by simp)), honly.sameMem.trans (mbEnd_sameMem ..)⟩

/-! QUERY (Table 6.6) -/

/-- Words written one by one at rising offsets read back, where a write does not change the words still to come. -/
theorem rd_wrEach {f : Nat → Nat} (hf : f.Injective) {g : State → Nat → Nat} (hg : ∀ s off v, g (s.wr off v) = g s) (n : Nat) (s : State) {i : Nat}
    (hi : i < n) : ((List.range n).foldl (fun s i => s.wr (f i) (g s i)) s).rd (f i) = g s i % 2 ^ 32 := by
  have hsame : ∀ n, g ((List.range n).foldl (fun s i => s.wr (f i) (g s i)) s) = g s := fun n =>
    List.foldlRecOn (motive := fun t => g t = g s) _ _ rfl fun t ht _ _ => (hg t _ _).trans ht
  induction n with
  | zero => omega
  | succ n ih =>
    rw [List.range_succ, List.foldl_append, List.foldl_cons, List.foldl_nil, rd_wr]
    by_cases hin : i = n
    · rw [if_pos (congrArg f hin), hsame, hin]
    · rw [if_neg fun he => hin (hf he), ih (by omega)]

/-- BOOT_MB_BUF holds the two headers. -/
def headersShown (s : State) : State := (List.range 32).foldl (fun s i => s.wr (R.BOOT_MB_BUF i) (hdrDw s (i / 16) (i % 16))) s

theorem headersShown_only (s : State) : RegsOnly s (headersShown s) := (RegsOnly.refl s).foldl (fun _ _ => (RegsOnly.refl _).wr _ _) _

theorem rd_headersShown (s : State) {i : Nat} (hi : i < 32) : (headersShown s).rd (R.BOOT_MB_BUF i) = hdrDw s (i / 16) (i % 16) := by
  have hread := rd_wrEach (f := fun i => R.BOOT_MB_BUF i) (fun a b (h : 0x48000 + 0x4 * a = 0x48000 + 0x4 * b) => by omega)
    (g := fun s i => hdrDw s (i / 16) (i % 16)) (fun s off v => by rw [hdrDw_of_flash_eq (wr_flash off v)]) 32 s hi
  exact hread.trans (Nat.mod_eq_of_lt (hdrDw_lt ..))

theorem query_runs {s : State} {p : Path} (hreach : Reaches p s) (hidle : s.bit R.BOOT_MB_STATUS 31 = false) (room : RoomFor s) :
    Runs (.query p) s fun t => (∀ i < 32, t.rd (R.BOOT_MB_BUF i) = hdrDw s (i / 16) (i % 16)) ∧ t.fd R.BOOT_MB_STATUS 15 0 = 1
      ∧ Raised t Ev.MB_DONE 0 ∧ t.boot = s.boot ∧ SameMem s t := by
  have honly := (mbTaken_only s).trans (headersShown_only _)
  have hrun := exec_query hreach
  rw [mbCommand_idle hidle] at hrun
  refine ⟨mbEnd p.code 1 0 (headersShown (mbTaken s)), hrun, fun i hi => ?_, mbEnd_answer _ _ _ _ (by decide) (by decide),
    mbEnd_raised _ _ _ _ (honly.roomFor room), (mbEnd_boot ..).trans honly.boot, honly.sameMem.trans (mbEnd_sameMem ..)⟩
  have hne : R.BOOT_MB_BUF i ∉ [R.BOOT_MB_STATUS, R.EVT_DROP_CNT] := by
    simp only [R.BOOT_MB_BUF, R.BOOT_MB_STATUS, R.EVT_DROP_CNT, List.mem_cons, List.not_mem_nil, or_false]
    omega
  rw [mbEnd_regsKept _ _ _ _ _ hne, rd_headersShown _ hi, hdrDw_of_flash_eq (mbTaken_only s).flash]

/-! The update commands of another path (R183) -/

theorem mbRun_notOwned {s : State} {p : Nat} (h : mbOwned s p = true) {op : Nat} (hop : op ∈ [0x10, 0x11, 0x12, 0x13]) (late : Bool) :
    mbRun p op late s = mbEnd p op 2 s := by
  simp only [List.mem_cons, List.not_mem_nil, or_false] at hop
  rcases hop with rfl | rfl | rfl | rfl
  · show mbBegin p s = _
    rw [mbBegin, if_pos h]
  · show mbWrite p s = _
    rw [mbWrite, if_pos h]
  · show mbVerify p late s = _
    rw [mbVerify, if_pos h]
  · show mbAbort p s = _
    rw [mbAbort, if_pos h]

theorem notOwned_runs {s : State} {p : Path} {f : Bool} {x : Session} {c : Instr} (hreach : Reaches p s)
    (hidle : s.bit R.BOOT_MB_STATUS 31 = false) (hx : s.boot.session = some x) (hother : x.owner ≠ p.code)
    (hc : c ∈ [Instr.updBegin p, .updWrite p, .updVerify p f, .updAbort p]) :
    Runs c s fun t => t.fd R.BOOT_MB_STATUS 15 8 = 2 ∧ t.boot.session = some x ∧ SameMem s t := by
  have howned : mbOwned (mbTaken s) p.code = true := by
    rw [mbOwned_of_boot_eq (mbTaken_only s).boot, mbOwned, hx]
    exact bne_iff_ne.mpr hother
  have hrun : ∃ op ∈ [0x10, 0x11, 0x12, 0x13], ∃ late, exec c s = .next (mbCommand p.code op late s) := by
    simp only [List.mem_cons, List.not_mem_nil, or_false] at hc
    rcases hc with rfl | rfl | rfl | rfl
    exacts [⟨0x10, by decide, false, exec_updBegin hreach⟩, ⟨0x11, by decide, false, exec_updWrite hreach⟩,
      ⟨0x12, by decide, f, exec_updVerify hreach f⟩, ⟨0x13, by decide, false, exec_updAbort hreach⟩]
  obtain ⟨op, hop, late, hrun⟩ := hrun
  have hlt : op < 256 := by
    simp only [List.mem_cons, List.not_mem_nil, or_false] at hop
    omega
  rw [mbCommand_idle hidle, mbRun_notOwned howned hop] at hrun
  obtain ⟨hres, -, hboot, -, hmem⟩ := mbEnd_taken_state (mbTaken_only s) (mbTaken_regsKept s) p.code hlt (result := 2) (by decide)
  exact ⟨_, hrun, hres, by rw [hboot, hx], hmem⟩

/-! UPD_BEGIN and UPD_WRITE: the flash operation begins (R182, R183) -/

/-- Where the part is not busy, an operation begins at once (R190). -/
theorem startFlash_free {s : State} (h : s.boot.flash = none) (op : FlashOp) :
    startFlash op s = (s.fw R.BOOT_MB_STATUS 31 31 1).uBoot fun b => { b with flash := some op } := by
  have hboot := ((RegsOnly.refl s).fw R.BOOT_MB_STATUS 31 31 1).boot
  simp only [startFlash, State.uBoot, hboot, h, Option.isNone_none, if_true]

/-- What the start of an operation leaves: the part busy with it, BUSY, every register but BOOT_MB_STATUS. -/
theorem startFlash_state {s : State} (h : s.boot.flash = none) (op : FlashOp) :
    (startFlash op s).boot.flash = some op ∧ (startFlash op s).bit R.BOOT_MB_STATUS 31 = true
      ∧ RegsKept [R.BOOT_MB_STATUS] s (startFlash op s) ∧ SameMem s (startFlash op s) := by
  have hbusy : (s.fw R.BOOT_MB_STATUS 31 31 1).bit R.BOOT_MB_STATUS 31 = true := by
    rw [bit_fw (by decide) (by decide) (by decide)]
    rfl
  have honly := (RegsOnly.refl s).fw R.BOOT_MB_STATUS 31 31 1
  have hkept : RegsKept [R.BOOT_MB_STATUS] s (s.fw R.BOOT_MB_STATUS 31 31 1) := (RegsKept.of_regs_eq _ rfl).fw List.mem_cons_self _ _ _
  have hregs := uBoot_regs (s.fw R.BOOT_MB_STATUS 31 31 1) fun b => { b with flash := some op }
  rw [startFlash_free h]
  refine ⟨by rw [uBoot_boot], ?_, hkept.keep hregs, .of_eq ?_ ?_ ?_⟩
  · rw [bit_of_rd_eq (rd_of_regs_eq hregs _), hbusy]
  · rw [uBoot_hbm, honly.hbm]
  · rw [uBoot_vel, honly.vel]
  · rw [uBoot_flash, honly.flash]

/-- An update begins: the slot's flag is cleared, the command's path and opcode show. -/
def updBegun (p k : Nat) (s : State) : State := ((setValid k false s).fw R.BOOT_MB_STATUS 18 16 p).fw R.BOOT_MB_STATUS 7 0 0x10

theorem updBegun_only (p k : Nat) (s : State) : RegsOnly s (updBegun p k s) := (((RegsOnly.refl s).fw _ _ _ _).fw _ _ _ _).fw _ _ _ _

theorem updBegun_regsKept (p k : Nat) (s : State) : RegsKept [R.BOOT_STATUS, R.BOOT_MB_STATUS] s (updBegun p k s) :=
  (((RegsKept.of_regs_eq _ rfl).fw (by simp) _ _ _).fw (by simp) _ _ _).fw (by simp) _ _ _

theorem imgValid_updBegun (p k : Nat) (s : State) : imgValid (updBegun p k s) k = false := by
  rw [updBegun, imgValid_of_rd_eq (rd_fw_ne _ _ _ _ (by decide)), imgValid_of_rd_eq (rd_fw_ne _ _ _ _ (by decide)), imgValid_setValid]

theorem mbBegin_eq {s : State} {p : Nat} (howned : mbOwned s p = false) (hk : mbArg s p 0 ≤ 1)
    (hother : imgValid s (1 - mbArg s p 0) = true ∨ s.top = 6) (hlo : 4096 ≤ mbArg s p 1) (hhi : mbArg s p 1 ≤ 33554432) :
    mbBegin p s = startFlash (.eraseSlot (mbArg s p 0) (mbArg s p 1)) (updBegun p (mbArg s p 0) s) := by
  have hkeep : ¬ ((!imgValid s (1 - mbArg s p 0)) = true ∧ s.top ≠ 6) := by
    rcases hother with h | h <;> simp [h]
  unfold mbBegin
  extract_lets k n
  rw [if_neg (by rw [howned]; decide), if_neg (by omega), if_neg hkeep, if_neg (by omega)]
  rfl

theorem updBegin_runs {s : State} {p : Path} (hreach : Reaches p s) (hidle : s.bit R.BOOT_MB_STATUS 31 = false)
    (howned : mbOwned s p.code = false) (hk : mbArg s p.code 0 ≤ 1) (hother : imgValid s (1 - mbArg s p.code 0) = true ∨ s.top = 6)
    (hlo : 4096 ≤ mbArg s p.code 1) (hhi : mbArg s p.code 1 ≤ 33554432) (hfree : s.boot.flash = none) :
    Runs (.updBegin p) s fun t => t.boot.flash = some (.eraseSlot (mbArg s p.code 0) (mbArg s p.code 1))
      ∧ imgValid t (mbArg s p.code 0) = false ∧ t.bit R.BOOT_MB_STATUS 31 = true
      ∧ RegsKept [R.BOOT_STATUS, R.BOOT_MB_STATUS, R.BOOT_MB_PROGRESS] s t ∧ SameMem s t := by
  have hboot := (mbTaken_only s).boot
  have hvalid : ∀ k, imgValid (mbTaken s) k = imgValid s k := imgValid_of_rd_eq (rd_mbTaken_ne (by decide))
  have htop : (mbTaken s).top = s.top := fd_of_rd_eq (rd_mbTaken_ne (by decide)) _ _
  have hrun := exec_updBegin hreach
  rw [mbCommand_idle hidle] at hrun
  have hbegin := mbBegin_eq (s := mbTaken s) (p := p.code) (by rwa [mbOwned_of_boot_eq hboot]) (by rwa [mbArg_of_boot_eq hboot])
    (by rwa [mbArg_of_boot_eq hboot, hvalid, htop]) (by rwa [mbArg_of_boot_eq hboot]) (by rwa [mbArg_of_boot_eq hboot])
  rw [mbArg_of_boot_eq hboot, mbArg_of_boot_eq hboot] at hbegin
  have honly := (mbTaken_only s).trans (updBegun_only p.code (mbArg s p.code 0) (mbTaken s))
  obtain ⟨hflash, hbusy, hkept, hmem⟩ := startFlash_state (by rw [honly.boot, hfree] :
    (updBegun p.code (mbArg s p.code 0) (mbTaken s)).boot.flash = none) (.eraseSlot (mbArg s p.code 0) (mbArg s p.code 1))
  refine ⟨_, hrun.trans (congrArg _ hbegin), hflash, ?_, hbusy, ?_, honly.sameMem.trans hmem⟩
  · rw [imgValid_of_rd_eq (hkept _ (by decide)), imgValid_updBegun]
  · exact (((mbTaken_regsKept s).mono (by simp)).trans ((updBegun_regsKept _ _ _).mono (by simp))).trans (hkept.mono (by simp))

theorem mbBuf_of_kept {s t : State} (h : ∀ i, t.rd (R.BOOT_MB_BUF i) = s.rd (R.BOOT_MB_BUF i)) (n : Nat) : mbBuf t n = mbBuf s n := by
  simp only [mbBuf, h]

theorem mbWrite_eq {s : State} {p : Nat} {x : Session} (hx : s.boot.session = some x) (howner : x.owner = p) (hoff : mbArg s p 0 = x.written)
    (hpos : 0 < mbArg s p 1) (hmax : mbArg s p 1 ≤ 32768) (hpages : mbArg s p 1 % 256 = 0) (hlen : x.written + mbArg s p 1 ≤ x.len) :
    mbWrite p s = startFlash (.progSlot x.slot x.written (mbBuf s (mbArg s p 1))) (s.fw R.BOOT_MB_STATUS 7 0 0x11) := by
  have howned : mbOwned s p = false := by
    rw [mbOwned, hx]
    exact bne_eq_false_iff_eq.mpr howner
  unfold mbWrite
  simp only [hx, Option.getD_some, hoff]
  rw [if_neg (by rw [howned]; decide), if_neg (fun h => h rfl), if_neg (by omega), if_neg (by omega)]

theorem updWrite_runs {s : State} {p : Path} {x : Session} (hreach : Reaches p s) (hidle : s.bit R.BOOT_MB_STATUS 31 = false)
    (hx : s.boot.session = some x) (howner : x.owner = p.code) (hoff : mbArg s p.code 0 = x.written) (hpos : 0 < mbArg s p.code 1)
    (hmax : mbArg s p.code 1 ≤ 32768) (hpages : mbArg s p.code 1 % 256 = 0) (hlen : x.written + mbArg s p.code 1 ≤ x.len)
    (hfree : s.boot.flash = none) : Runs (.updWrite p) s fun t =>
      t.boot.flash = some (.progSlot x.slot x.written (mbBuf s (mbArg s p.code 1))) ∧ t.bit R.BOOT_MB_STATUS 31 = true
        ∧ RegsKept [R.BOOT_MB_STATUS, R.BOOT_MB_PROGRESS] s t ∧ SameMem s t := by
  have hboot := (mbTaken_only s).boot
  have harg := mbArg_of_boot_eq hboot p.code
  have hbuf : mbBuf (mbTaken s) (mbArg s p.code 1) = mbBuf s (mbArg s p.code 1) :=
    mbBuf_of_kept (fun i => rd_mbTaken_ne (by simp only [R.BOOT_MB_BUF, R.BOOT_MB_PROGRESS]; omega)) _
  have hrun := exec_updWrite hreach
  rw [mbCommand_idle hidle] at hrun
  have hwrite := mbWrite_eq (s := mbTaken s) (p := p.code) (by rw [hboot, hx]) howner (by rwa [harg]) (by rwa [harg]) (by rwa [harg])
    (by rwa [harg]) (by rwa [harg])
  rw [harg, hbuf] at hwrite
  have honly := (mbTaken_only s).fw R.BOOT_MB_STATUS 7 0 0x11
  obtain ⟨hflash, hbusy, hkept, hmem⟩ := startFlash_state (by rw [honly.boot, hfree] :
    ((mbTaken s).fw R.BOOT_MB_STATUS 7 0 0x11).boot.flash = none) (.progSlot x.slot x.written (mbBuf s (mbArg s p.code 1)))
  refine ⟨_, hrun.trans (congrArg _ hwrite), hflash, hbusy, ?_, honly.sameMem.trans hmem⟩
  exact (((mbTaken_regsKept s).mono (by simp)).fw (by simp) _ _ _).trans (hkept.mono (by simp))

/-! The session closes: UPD_VERIFY, UPD_ABORT and the limit of 10 s (R184, R185) -/

theorem sessionClose_only (s : State) : RegsOnly (s.uBoot fun b => { b with session := none }) (sessionClose s) := (RegsOnly.refl _).fw _ _ _ _

theorem sessionClose_session (s : State) : (sessionClose s).boot.session = none := by rw [(sessionClose_only s).boot, uBoot_boot]

theorem sessionClose_regsKept (s : State) : RegsKept [R.BOOT_MB_STATUS] s (sessionClose s) :=
  RegsKept.fw (t := s.uBoot _) (.of_regs_eq _ rfl) List.mem_cons_self _ _ _

theorem sessionClose_sameMem (s : State) : SameMem s (sessionClose s) :=
  .of_eq (sessionClose_only s).hbm (sessionClose_only s).vel (sessionClose_only s).flash

/-- What a check of the session's slot leaves, before the command ends. -/
def verified (x : Session) (r : Nat) (s : State) : State := sessionClose ((noteCheck x.slot r s).wr R.BOOT_MB_PROGRESS x.written)

theorem verified_regsKept (x : Session) (r : Nat) (s : State) :
    RegsKept [R.BOOT_STATUS, R.BOOT_MB_STATUS, R.BOOT_MB_PROGRESS] s (verified x r s) :=
  (((noteCheck_regsKept _ _ _).mono (by simp)).wr (by simp) _).trans ((sessionClose_regsKept _).mono (by simp))

theorem verified_sameMem (x : Session) (r : Nat) (s : State) : SameMem s (verified x r s) :=
  ((noteCheck_only ..).wr _ _).sameMem.trans (sessionClose_sameMem _)

theorem imgValid_verified {x : Session} (hk : x.slot ≤ 1) (r : Nat) (s : State) : imgValid (verified x r s) x.slot = (r == 0) := by
  rw [verified, imgValid_of_rd_eq (sessionClose_regsKept _ _ (by decide)), imgValid_of_rd_eq (rd_wr_ne (by decide)), imgValid_noteCheck hk]

/-- The end of UPD_VERIFY, after its check. -/
def verifyEnd (p : Nat) (x : Session) (r : Nat) (s : State) : State :=
  if r = 0 then (mbEnd p 0x12 0 (verified x r s)).ev Ev.IMAGE_UPDATED x.slot [] else mbEnd p 0x12 (0x10 + r) (verified x r s)

theorem mbVerify_eq {s : State} {p : Nat} {x : Session} (hx : s.boot.session = some x) (howner : x.owner = p) (late : Bool) :
    mbVerify p late s = verifyEnd p x (imageCheck s x.slot late (some x.written)) s := by
  have howned : mbOwned s p = false := by
    rw [mbOwned, hx]
    exact bne_eq_false_iff_eq.mpr howner
  rw [mbVerify, if_neg (by rw [howned]; decide), hx]
  rfl

/-- The registers of BOOT stand through the end of UPD_VERIFY. -/
theorem verifyEnd_state {r : Nat} (hr : r ≤ 9) (p : Nat) (x : Session) (s : State) :
    (verifyEnd p x r s).boot.session = none ∧ (verifyEnd p x r s).rd R.BOOT_STATUS = (verified x r s).rd R.BOOT_STATUS
      ∧ (verifyEnd p x r s).fd R.BOOT_MB_STATUS 15 8 = (if r = 0 then 0 else 0x10 + r)
      ∧ RegsKept [R.BOOT_MB_STATUS, R.EVT_DROP_CNT] (verified x r s) (verifyEnd p x r s)
      ∧ SameMem (verified x r s) (verifyEnd p x r s) := by
  have hsession : (verified x r s).boot.session = none := sessionClose_session _
  unfold verifyEnd
  split_ifs
  · have hev : ∀ o, o ≠ R.EVT_DROP_CNT → ((mbEnd p 0x12 0 (verified x r s)).ev Ev.IMAGE_UPDATED x.slot []).rd o
        = (mbEnd p 0x12 0 (verified x r s)).rd o := fun o ho => ev_regsKept _ _ _ _ o (by simpa using ho)
    refine ⟨by rw [ev_boot, mbEnd_boot, hsession], ?_, ?_, (mbEnd_regsKept _ _ _ _).ev (by simp) _ _ _, (mbEnd_sameMem ..).trans (ev_sameMem ..)⟩
    · rw [hev _ (by decide), mbEnd_regsKept _ _ _ _ _ (by decide)]
    · rw [fd_of_rd_eq (hev _ (by decide)), mbEnd_result _ _ _ _ (by decide)]
  · exact ⟨by rw [mbEnd_boot, hsession], mbEnd_regsKept _ _ _ _ _ (by decide), mbEnd_result _ _ _ _ (by omega),
      mbEnd_regsKept _ _ _ _, mbEnd_sameMem ..⟩

theorem updVerify_runs {s : State} {p : Path} {x : Session} (f : Bool) (hreach : Reaches p s) (hidle : s.bit R.BOOT_MB_STATUS 31 = false)
    (hx : s.boot.session = some x) (howner : x.owner = p.code) (hk : x.slot ≤ 1) : Runs (.updVerify p f) s fun t =>
      t.boot.session = none ∧ imgValid t x.slot = (imageCheck s x.slot f (some x.written) == 0)
        ∧ t.fd R.BOOT_MB_STATUS 15 8 = (if imageCheck s x.slot f (some x.written) = 0 then 0 else 0x10 + imageCheck s x.slot f (some x.written))
        ∧ RegsKept [R.BOOT_STATUS, R.BOOT_MB_STATUS, R.BOOT_MB_PROGRESS, R.EVT_DROP_CNT] s t ∧ SameMem s t := by
  have htaken := mbTaken_only s
  have hcheck := imageCheck_of_eq htaken.flash htaken.fuses (congrArg Pins.cfgOpen htaken.pins) x.slot f (some x.written)
  have hrun := exec_updVerify hreach f
  rw [mbCommand_idle hidle] at hrun
  have hverify := mbVerify_eq (s := mbTaken s) (p := p.code) (by rw [htaken.boot, hx]) howner f
  rw [hcheck] at hverify
  obtain ⟨hsession, hstatus, hres, hkept, hmem⟩ := verifyEnd_state (imageCheck_le s x.slot f (some x.written)) p.code x (mbTaken s)
  refine ⟨_, hrun.trans (congrArg _ hverify), hsession, ?_, hres, ?_, (htaken.sameMem.trans (verified_sameMem ..)).trans hmem⟩
  · rw [imgValid_of_rd_eq hstatus, imgValid_verified hk]
  · exact (((mbTaken_regsKept s).mono (by simp)).trans ((verified_regsKept _ _ _).mono (by simp))).trans (hkept.mono (by simp))

theorem updAbort_runs {s : State} {p : Path} (hreach : Reaches p s) (hidle : s.bit R.BOOT_MB_STATUS 31 = false) (howned : mbOwned s p.code = false) :
    Runs (.updAbort p) s fun t => t.boot.session = none ∧ t.fd R.BOOT_MB_STATUS 15 8 = 0
      ∧ RegsKept [R.BOOT_MB_STATUS, R.BOOT_MB_PROGRESS, R.EVT_DROP_CNT] s t ∧ SameMem s t := by
  have habort : mbAbort p.code (mbTaken s) = mbEnd p.code 0x13 0 (sessionClose (mbTaken s)) :=
    if_neg (by rw [mbOwned_of_boot_eq (mbTaken_only s).boot, howned]; decide)
  have hrun := exec_updAbort hreach
  rw [mbCommand_idle hidle] at hrun
  refine ⟨_, hrun.trans (congrArg _ habort), (congrArg BootSt.session (mbEnd_boot ..)).trans (sessionClose_session _),
    mbEnd_result _ _ _ _ (by decide), ?_, ((mbTaken_only s).sameMem.trans (sessionClose_sameMem _)).trans (mbEnd_sameMem ..)⟩
  exact (((mbTaken_regsKept s).mono (by simp)).trans ((sessionClose_regsKept _).mono (by simp))).trans ((mbEnd_regsKept _ _ _ _).mono (by simp))

theorem exec_updSessionTimeout {s : State} {x : Session} (hx : s.boot.session = some x) : exec .updSessionTimeout s =
    .next ((mbEnd x.owner 0x13 0x0A (sessionClose s)).fw R.BOOT_MB_STATUS 31 31 (s.fd R.BOOT_MB_STATUS 31 31)) := by
  show done (sessionEnd (fun _ => true) s) = _
  rw [sessionEnd, hx]
  rfl

theorem updSessionTimeout_runs {s : State} {x : Session} (hx : s.boot.session = some x) (room : RoomFor s) : Runs .updSessionTimeout s fun t =>
    t.boot.session = none ∧ t.fd R.BOOT_MB_STATUS 15 0 = 0x0A13 ∧ Raised t Ev.MB_DONE 0 ∧ RegsKept [R.BOOT_MB_STATUS] s t ∧ SameMem s t := by
  have hroom : RoomFor (sessionClose s) := roomFor_of_evt_eq (sessionClose_only s).evt room
  have hfw := (RegsOnly.refl (mbEnd x.owner 0x13 0x0A (sessionClose s))).fw R.BOOT_MB_STATUS 31 31 (s.fd R.BOOT_MB_STATUS 31 31)
  refine ⟨_, exec_updSessionTimeout hx, ?_, ?_, ?_, ?_, ((sessionClose_sameMem s).trans (mbEnd_sameMem ..)).trans hfw.sameMem⟩
  · rw [hfw.boot, mbEnd_boot, sessionClose_session]
  · rw [fd_fw_of_disjoint _ _ _ (by decide) (by decide) (by decide) (by decide), mbEnd_answer _ _ _ _ (by decide) (by decide)]
  · rw [Raised, hfw.evt]
    exact mbEnd_raised _ _ _ _ hroom
  · exact ((sessionClose_regsKept s).trans (mbEnd_regsKept_of_room _ _ _ _ hroom)).fw List.mem_cons_self _ _ _

/-! RESTART (R187) -/

/-- What precedes a chip reset changes gates and outputs alone (Table 3.6). -/
theorem chipDown_gatesOnly (cause : Nat) (s : State) : GatesOnly s (departSend cause (gatesOff (readyDrop s))) :=
  (dark_gatesOnly s).trans ((departOn_gatesOnly cause .east _).trans (departOn_gatesOnly cause .west _))

/-- The state that a chip reset holds, but for the parts of registers it keeps. -/
def chipHeld (s : State) : State :=
  { State.reset with
    pending := s.pending, ct := s.ct, ticks := s.ticks, free := s.free, out := s.out,
    regs := s.regs.filter fun e => chipKeeps e.1,
    hbm := s.hbm, hbmEcc := s.hbmEcc, flash := s.flash, fuses := s.fuses, pins := { s.pins with driven := [] },
    evt := { s.evt with marks := s.evt.marks, snap := none },
    boot := { State.reset.boot with flash := s.boot.flash.map FlashOp.late },
    mgmt := s.mgmt,
    rst := ⟨true, false, []⟩ }

theorem rd_chipHeld_kept (s : State) {o : Nat} (h : chipKeeps o = true) : (chipHeld s).rd o = s.rd o :=
  congrArg BitVec.toNat (smGet_filter_of_kept regReset (f := fun e => chipKeeps e.1) (fun _ => h) s.regs)

theorem rd_chipHeld_cleared (s : State) {o : Nat} (h : chipKeeps o = false) : (chipHeld s).rd o = (regReset o).toNat :=
  congrArg BitVec.toNat (smGet_filter_of_not regReset (f := fun e => chipKeeps e.1) (fun _ => h) s.regs)

theorem chipFields_only (old s : State) : RegsOnly s (chipFields old s) :=
  (((((((RegsOnly.refl s).fw _ _ _ _).fw _ _ _ _).fw _ _ _ _).fw _ _ _ _).fw _ _ _ _).fw _ _ _ _).fw _ _ _ _

theorem chipFields_regsKept (old s : State) :
    RegsKept [R.GLB_STATE, R.GLB_CHIP, R.BOOT_STATUS, R.CLK_STATUS, R.RST_BUSY] s (chipFields old s) :=
  (((((((RegsKept.of_regs_eq _ rfl).fw (by simp) _ _ _).fw (by simp) _ _ _).fw (by simp) _ _ _).fw (by simp) _ _ _).fw (by simp) _ _ _).fw
    (by simp) _ _ _).fw (by simp) _ _ _

theorem top_chipFields (old s : State) : (chipFields old s).top = s.top := by
  rw [State.top, chipFields, fd_fw_ne (by decide), fd_fw_ne (by decide), fd_fw_ne (by decide), fd_fw_ne (by decide), fd_fw_ne (by decide),
    fd_fw_ne (by decide), fd_fw_of_disjoint _ _ _ (by decide) (by decide) (by decide) (by decide)]
  rfl

theorem chipClear_eq (s : State) : chipClear s = chipFields s (chipHeld s) := rfl

theorem chipReset_eq {s : State} (hchip : s.rst.chip = false) (hpor : s.rst.por = false) (bit : Nat) : chipReset bit s =
    (chipClear ((departSend (2 ^ bit) (gatesOff (readyDrop s))).fw R.RST_CAUSE bit bit 1)).sat R.RST_CHIP_CNT 31 0 1 := if_neg (by simp [hchip, hpor])

/-- A chip reset holds the package with its cause noted, and keeps HBM and flash (Table 3.3). -/
theorem chipReset_state {s : State} (hchip : s.rst.chip = false) (hpor : s.rst.por = false) {bit : Nat} (hbit : bit < 32) :
    (chipReset bit s).rst.chip = true ∧ (chipReset bit s).bit R.RST_CAUSE bit = true ∧ (chipReset bit s).top = 0
      ∧ (chipReset bit s).hbm = s.hbm ∧ (chipReset bit s).flash = s.flash := by
  have hdown := chipDown_gatesOnly (2 ^ bit) s
  rw [chipReset_eq hchip hpor, chipClear_eq]
  generalize departSend (2 ^ bit) (gatesOff (readyDrop s)) = u at hdown ⊢
  have honly : RegsOnly (chipHeld (u.fw R.RST_CAUSE bit bit 1)) _ := (chipFields_only (u.fw R.RST_CAUSE bit bit 1) _).sat R.RST_CHIP_CNT 31 0 1
  refine ⟨by rw [honly.rst]; rfl, ?_, ?_, ?_, ?_⟩
  · rw [bit_sat_ne (by decide), bit_of_rd_eq (chipFields_regsKept _ _ _ (by decide)), bit_of_rd_eq (rd_chipHeld_kept _ (by decide)),
      bit_fw le_rfl le_rfl hbit, Nat.add_sub_cancel_left, Nat.sub_self]
    rfl
  · rw [State.top, State.sat, fd_fw_ne (by decide), ← State.top, top_chipFields, State.top, State.fd, rd_chipHeld_cleared _ (by decide)]
    decide
  · rw [honly.hbm]
    show u.hbm = s.hbm
    rw [hdown]
  · rw [honly.flash]
    show u.flash = s.flash
    rw [hdown]

theorem restart_runs {s : State} {p : Path} (hreach : Reaches p s) (hidle : s.bit R.BOOT_MB_STATUS 31 = false)
    (hpolicy : s.top = 6 ∨ fieldOf (s.boot.hdr.getD 5 0).toNat 5 4 = 1) : Runs (.restart p) s fun t =>
      t.rst.chip = true ∧ t.bit R.RST_CAUSE 1 = true ∧ t.top = 0 ∧ t.hbm = s.hbm ∧ t.flash = s.flash := by
  have htaken := mbTaken_only s
  have htop : (mbTaken s).top = s.top := fd_of_rd_eq (rd_mbTaken_ne (by decide)) _ _
  have hrestart : mbRestart p.code (mbTaken s) = chipReset 1 (mbEnd p.code 0x20 0 (mbTaken s)) :=
    if_pos (by rwa [htop, htaken.boot])
  have hrst : (mbEnd p.code 0x20 0 (mbTaken s)).rst = s.rst := by rw [mbEnd_rst, htaken.rst]
  have hopen := hreach.1
  simp only [State.pathOpen, Bool.and_eq_true, Bool.not_eq_true'] at hopen
  obtain ⟨⟨hchip, hpor⟩, -⟩ := hopen
  obtain ⟨hheld, hcause, hpoweron, hhbm, hflash⟩ := chipReset_state (s := mbEnd p.code 0x20 0 (mbTaken s)) (by rw [hrst, hchip]) (by rw [hrst, hpor])
    (bit := 1) (by decide)
  have hrun := exec_restart hreach
  rw [mbCommand_idle hidle] at hrun
  exact ⟨_, hrun.trans (congrArg _ hrestart), hheld, hcause, hpoweron, by rw [hhbm, mbEnd_hbm, htaken.hbm], by rw [hflash, mbEnd_flash, htaken.flash]⟩

/-! ROLLBACK_ADVANCE (R188) -/

/-- The fused count advances, before the command ends. -/
def rolledBack (n : Nat) (s : State) : State := (s.uFuses fun f => { f with rollback := n }).ev Ev.ROLLBACK_ADVANCED 0 [n]

theorem mbRollback_eq {s : State} {p n : Nat} (hn : mbArg s p 0 = n) (hopen : s.pins.cfgOpen = false) (hmore : s.fuses.rollback < n) (hmax : n ≤ 64)
    (h0 : imgValid s 0 = true) (h1 : imgValid s 1 = true) (hr0 : n ≤ hdrDw s 0 3 % 128) (hr1 : n ≤ hdrDw s 1 3 % 128) :
    mbRollback p s = mbEnd p 0x21 0 (rolledBack n s) := by
  unfold mbRollback
  rw [hn]
  refine if_neg ?_
  simp only [hopen, h0, h1, Bool.not_true, Bool.false_eq_true, false_or]
  omega

theorem rollbackAdvance_runs {s : State} {p : Path} (hreach : Reaches p s) (hidle : s.bit R.BOOT_MB_STATUS 31 = false) (room : RoomFor s)
    (hopen : s.pins.cfgOpen = false) (hmore : s.fuses.rollback < mbArg s p.code 0) (hmax : mbArg s p.code 0 ≤ 64) (h0 : imgValid s 0 = true)
    (h1 : imgValid s 1 = true) (hr0 : mbArg s p.code 0 ≤ hdrDw s 0 3 % 128) (hr1 : mbArg s p.code 0 ≤ hdrDw s 1 3 % 128) :
    Runs (.rollbackAdvance p) s fun t =>
      t.fuses.rollback = mbArg s p.code 0 ∧ t.fd R.BOOT_MB_STATUS 15 8 = 0 ∧ Raised t Ev.ROLLBACK_ADVANCED 0 ∧ SameMem s t := by
  have htaken := mbTaken_only s
  have hvalid : ∀ k, imgValid (mbTaken s) k = imgValid s k := imgValid_of_rd_eq (rd_mbTaken_ne (by decide))
  have hhdr := hdrDw_of_flash_eq htaken.flash
  have hrun := exec_rollbackAdvance hreach
  rw [mbCommand_idle hidle] at hrun
  have hroll := mbRollback_eq (mbArg_of_boot_eq htaken.boot p.code 0) (by rw [htaken.pins, hopen]) (by rwa [htaken.fuses]) hmax
    (by rw [hvalid, h0]) (by rw [hvalid, h1]) (by rwa [hhdr]) (by rwa [hhdr])
  generalize mbArg s p.code 0 = n at hroll hmax ⊢
  have hroom : RoomFor ((mbTaken s).uFuses fun f => { f with rollback := n }) := roomFor_of_evt_eq htaken.evt room
  have hmem : SameMem s ((mbTaken s).uFuses fun f => { f with rollback := n }) := .of_eq htaken.hbm htaken.vel htaken.flash
  refine ⟨_, hrun.trans (congrArg _ hroll), ?_, mbEnd_result _ _ _ _ (by decide), ?_, (hmem.trans (ev_sameMem ..)).trans (mbEnd_sameMem ..)⟩
  · rw [mbEnd_fuses, rolledBack, ev_fuses]
    rfl
  · rw [mbEnd_eq, Raised, ← Raised]
    exact raised_ev (by rw [Raised, (mbShown_only ..).evt]; exact ev_raised hroom ..) _ _ _

/-! An unknown opcode -/

theorem mbRun_unknown {op : Nat} (h : op ∉ [1, 0x10, 0x11, 0x12, 0x13, 0x20, 0x21]) (p : Nat) (late : Bool) (s : State) :
    mbRun p op late s = mbEnd p op 9 s := by
  unfold mbRun
  split
  case h_8 => rfl
  all_goals exact absurd (by decide) h

/-- Settles O23: a command's end writes the mailbox's status beside its event, and each command's own effect stands before it. -/
theorem mailboxCommandsAndSessions : Obligations.MailboxCommandsAndSessions := by
  refine ⟨fun s p f o c hreach hbusy room hc ho => ?_, fun s p => query_runs, fun s p f x c => notOwned_runs, fun s p => updBegin_runs,
    fun s p x => updWrite_runs, fun s p f x hreach hidle _ => updVerify_runs f hreach hidle, fun s p => updAbort_runs, fun s p => restart_runs,
    fun s p => rollbackAdvance_runs, fun s p o hreach hidle ho => ?_, fun s x => updSessionTimeout_runs⟩
  · obtain ⟨op, late, hrun⟩ := exec_mbCommand hreach ho hc
    rw [mbCommand_busy hbusy] at hrun
    exact ⟨_, hrun, ev_raised room .., ev_regs room .., ev_boot .., ev_sameMem ..⟩
  · have hrun := exec_mbUnknownOp hreach (o := o) (fun h => ho (by rw [h]; decide))
    rw [mbCommand_idle hidle, mbRun_unknown ho] at hrun
    obtain ⟨hres, hop, -, hkept, hmem⟩ := mbEnd_taken_state (mbTaken_only s) (mbTaken_regsKept s) p.code o.isLt (result := 9) (by decide)
    exact ⟨_, hrun, hres, hop, hkept, hmem⟩

end Sys2Proof.Machine
end

section
/-! What stands through a boot (06 R171–R179, R193): the attempt under way, BOOT_SEL and the registers of the boot. Each operation that boot
comes to writes registers of other blocks. -/

namespace Sys2Proof.Machine

/-- GLB_STATE and the registers of the BOOT block; where `plate`, PLATE_STATUS too. -/
abbrev BootReg (plate : Prop) (o : Nat) : Prop := o = R.GLB_STATE ∨ (0x40000 ≤ o ∧ o < 0x50000) ∨ (plate ∧ o = R.PLATE_STATUS)

/-- From s to t the attempt, BOOT_SEL and the registers of the boot stand; where `mem`, memory reads the same. -/
structure BootKept (plate mem : Prop) (s t : State) : Prop where
  attempt : t.boot.attempt = s.boot.attempt
  sel : t.pins.bootSel = s.pins.bootSel
  rd : ∀ o, BootReg plate o → t.rd o = s.rd o
  mem : mem → SameMem s t

namespace BootKept

-- A default argument (`ho`, `hp`, `hn`) waits for all declarations before it, and a proof that waits holds a thread: one proof at a time.
set_option Elab.async false

/-! Updates, register writes and events -/

section
variable {plate mem : Prop} {s t u : State}

theorem of_eq (hboot : t.boot = s.boot) (hpins : t.pins = s.pins) (hregs : t.regs = s.regs) (hmem : mem → SameMem s t) : BootKept plate mem s t :=
  ⟨by rw [hboot], by rw [hpins], fun o _ => rd_of_regs_eq hregs o, hmem⟩

theorem refl (s : State) : BootKept plate mem s s := of_eq rfl rfl rfl fun _ => .of_eq rfl rfl rfl

theorem trans (h : BootKept plate mem s t) (g : BootKept plate mem t u) : BootKept plate mem s u :=
  ⟨g.attempt.trans h.attempt, g.sel.trans h.sel, fun o ho => (g.rd o ho).trans (h.rd o ho), fun hm => (h.mem hm).trans (g.mem hm)⟩

theorem foldl {α : Type} {f : State → α → State} {l : List α} (h : BootKept plate mem s t)
    (hf : ∀ u, ∀ a ∈ l, BootKept plate mem u (f u a)) : BootKept plate mem s (l.foldl f t) :=
  List.foldlRecOn (motive := BootKept plate mem s) l f h fun u hu a ha => hu.trans (hf u a ha)

theorem ite {c : Prop} [Decidable c] (ht : c → BootKept plate mem s t) (hu : ¬c → BootKept plate mem s u) :
    BootKept plate mem s (if c then t else u) := by
  split
  next hc => exact ht hc
  next hc => exact hu hc

theorem attemptSlot (h : BootKept plate mem s t) : attemptSlot t = attemptSlot s := by rw [Machine.attemptSlot, Machine.attemptSlot, h.sel, h.attempt]

theorem top (h : BootKept plate mem s t) : t.top = s.top := fd_of_rd_eq (h.rd _ (.inl rfl)) _ _

theorem rd_boot (h : BootKept plate mem s t) {o : Nat} (hlo : 0x40000 ≤ o) (hhi : o < 0x50000) : t.rd o = s.rd o := h.rd o (.inr (.inl ⟨hlo, hhi⟩))

theorem status (h : BootKept plate mem s t) : t.rd R.BOOT_STATUS = s.rd R.BOOT_STATUS := h.rd_boot (by decide) (by decide)

theorem locked (h : BootKept plate mem s t) : t.locked = s.locked := bit_of_rd_eq (h.rd_boot (by decide) (by decide)) _

variable (h : BootKept plate mem s t)
include h

/-- A register write outside the boot's registers. -/
theorem wr {off v : Nat} (ho : ¬BootReg plate off := by grind) : BootKept plate mem s (t.wr off v) :=
  h.trans ⟨rfl, rfl, fun _ hb => rd_wr_ne fun he => ho (he ▸ hb), fun _ => .of_eq rfl rfl rfl⟩

theorem fw {off hi lo v : Nat} (ho : ¬BootReg plate off := by grind) : BootKept plate mem s (t.fw off hi lo v) := h.wr ho

theorem sat {off hi lo n : Nat} (ho : ¬BootReg plate off := by grind) : BootKept plate mem s (t.sat off hi lo n) := h.wr ho

theorem wr64 {off v : Nat} (hlo : ¬BootReg plate off := by grind) (hhi : ¬BootReg plate (off + 4) := by grind) :
    BootKept plate mem s (t.wr64 off v) := (h.wr hlo).wr hhi

theorem count64 {off n : Nat} (hlo : ¬BootReg plate off := by grind) (hhi : ¬BootReg plate (off + 4) := by grind) :
    BootKept plate mem s (t.count64 off n) := h.wr64 hlo hhi

theorem ev {code src : Nat} {args : List Nat} : BootKept plate mem s (t.ev code src args) :=
  h.trans ⟨by rw [ev_boot], by rw [ev_pins], fun o hb => ev_regsKept t code src args o (by grind), fun _ => ev_sameMem ..⟩

theorem uLnk {g} : BootKept plate mem s (t.uLnk g) := h.trans (.of_eq rfl rfl rfl fun _ => .of_eq rfl rfl rfl)
theorem uPwr {g} : BootKept plate mem s (t.uPwr g) := h.trans (.of_eq rfl rfl rfl fun _ => .of_eq rfl rfl rfl)
theorem uMem {g} : BootKept plate mem s (t.uMem g) := h.trans (.of_eq rfl rfl rfl fun _ => .of_eq rfl rfl rfl)
theorem uFab {g} : BootKept plate mem s (t.uFab g) := h.trans (.of_eq rfl rfl rfl fun _ => .of_eq rfl rfl rfl)
theorem uScr {g} : BootKept plate mem s (t.uScr g) := h.trans (.of_eq rfl rfl rfl fun _ => .of_eq rfl rfl rfl)
theorem uProof {g} : BootKept plate mem s (t.uProof g) := h.trans (.of_eq rfl rfl rfl fun _ => .of_eq rfl rfl rfl)
theorem emit {o} : BootKept plate mem s (t.emit o) := h.trans (.of_eq rfl rfl rfl fun _ => .of_eq rfl rfl rfl)
theorem uLk {p g} : BootKept plate mem s (t.uLk p g) := h.uLnk
theorem setSb {d q} : BootKept plate mem s (t.setSb d q) := by cases d <;> exact h.trans (.of_eq rfl rfl rfl fun _ => .of_eq rfl rfl rfl)
theorem setDom {d v : Nat} (hd : d < 168) : BootKept plate mem s (t.setDom d v) := h.fw

end

/-! A domain's leaving ON (05 R136) -/

section
variable {plate mem : Prop} {s t : State} (h : BootKept plate mem s t)
include h

theorem ringSync {r} : BootKept plate mem s (ringSync r t) := h.fw.fw.wr.fw

theorem pairSync {d} : BootKept plate mem s (pairSync d t) := h.ringSync.ringSync

theorem portSet {p st} (hp : plate → p < 16 := by grind) : BootKept plate mem s (portSet p st t) := by
  unfold Machine.portSet
  extract_lets old t1
  have h1 : BootKept plate mem s t1 := h.fw.fw
  split_ifs
  · exact h1
  · exact h1.uLk.ev
  · exact h1.ev
  · exact h1

theorem setScrub {i f} : BootKept plate mem s (setScrub i f t) := h.uMem

theorem memSelf {k on} : BootKept plate mem s (memSelf k on t) := h.fw.fw

theorem styGate {i on} (hi : plate → i < 16) : BootKept plate mem s (styGate i on t) := h.fw.fw.fw

theorem gatesOff : BootKept plate mem s (gatesOff t) := by
  have hgates := gatesOff_gatesOnly t
  refine h.trans (.of_eq ?_ ?_ hgates.regs fun _ => .of_eq ?_ ?_ hgates.flash) <;> rw [hgates]

theorem sbSet {d q} : BootKept plate mem s (sbSet d q t) := by
  obtain he | ⟨o, he⟩ := sbSet_cases d q t
  · exact he ▸ h.setSb
  · exact he ▸ h.setSb.emit

theorem wakingCount : BootKept plate mem s (wakingCount t) := h.fw

/-- The domains that may leave ON in a boot are neither a Scribe's nor the function's (05 R140). -/
theorem domDown {d} (hd : ¬(0xA0 ≤ d ∧ d ≤ 0xA2)) : BootKept plate mem s (domDown d t) := by
  unfold Machine.domDown
  exact ite (fun _ => h.pairSync) fun _ => ite (fun _ => h.portSet fun _ => by omega) fun _ => ite (fun _ => h.memSelf.setScrub) fun _ =>
    ite (fun _ => h.styGate fun _ => by omega) fun _ => ite (fun _ => by omega) fun _ => ite (fun _ => by omega) fun _ =>
    ite (fun _ => h.uFab) fun _ => ite (fun _ => h.uProof.fw.fw) fun _ => ite (fun _ => h.gatesOff) fun _ =>
    ite (fun _ => h.sbSet.sbSet) fun _ => h

end

end BootKept

end Sys2Proof.Machine
end

section
/-! The attempts on the image slots, and SAFE (06 R171–R176). -/

namespace Sys2Proof.Machine

/-! The queue of events grows by one record at most (25 R622–R626) -/

theorem length_evInsert (qs : List EvRec) (r : EvRec) : (evInsert qs r).length = qs.length + 1 := by
  induction qs with
  | nil => rfl
  | cons q qs ih =>
    unfold evInsert
    split_ifs
    · rfl
    · rw [List.length_cons, ih, List.length_cons]

/-- Events that may have been raised from s to t, n of them at most. -/
def Raises (n : Nat) (s t : State) : Prop := t.evt.queue.length ≤ s.evt.queue.length + n

namespace Raises

variable {n m : Nat} {s t u : State}

theorem of_evt_eq (h : t.evt = s.evt) : Raises 0 s t := le_of_eq (by rw [h]; rfl)

theorem ev (s : State) (code src : Nat) (args : List Nat) : Raises 1 s (s.ev code src args) := by
  unfold Raises State.ev
  split_ifs
  · exact le_of_eq_of_le (List.length_map _) (Nat.le_succ _)
  · exact Nat.le_succ _
  · exact le_of_eq (length_evInsert ..)

theorem trans (h : Raises n s t) (g : Raises m t u) : Raises (n + m) s u := by
  unfold Raises at *
  omega

theorem mono (h : Raises n s t) (hm : n ≤ m) : Raises m s t := by
  unfold Raises at *
  omega

theorem roomFor (h : Raises n s t) (hn : n ≤ 24) (hs : s.evt.queue.length < 1000) : RoomFor t := by
  unfold Raises at h
  unfold RoomFor
  omega

end Raises

theorem raised_of_evt_eq {s t : State} {code src : Nat} (h : t.evt = s.evt) (hr : Raised s code src) : Raised t code src := by rwa [Raised, h]

/-! Every domain that CONFIG powered goes OFF (R175) -/

theorem dom_setDom_ne (s : State) {d e : Nat} (v : Nat) (h : e ≠ d) : (s.setDom d v).dom e = s.dom e := by
  by_cases hw : e / 16 = d / 16
  · rw [State.dom, State.dom, State.setDom, hw]
    exact fd_fw_of_disjoint _ _ _ (by omega) (by omega) (by omega) (by omega)
  · exact dom_of_rd_eq (rd_setDom_ne _ _ _ (by omega))

theorem pairSync_evt (d : Nat) (s : State) : (pairSync d s).evt = s.evt := by
  have hring : ∀ r t, RegsOnly t (ringSync r t) := fun r t => (((RegsOnly.refl t).fw _ _ _ _).fw _ _ _ _).wr _ _ |>.fw _ _ _ _
  exact ((hring _ s).trans (hring _ _)).evt

theorem portDown_evt (p : Nat) (s : State) : (portSet p 0 s).evt = s.evt := by
  unfold portSet
  extract_lets old t
  have honly : RegsOnly s t := ((RegsOnly.refl s).fw _ _ _ _).fw _ _ _ _
  rw [if_neg (by decide : ¬(0 : Nat) = 4), if_neg (by decide : ¬(0 : Nat) = 5), ite_self, honly.evt]

theorem memSelf_evt (k : Nat) (on : Bool) (s : State) : (memSelf k on s).evt = s.evt := (((RegsOnly.refl s).fw _ _ _ _).fw _ _ _ _).evt

theorem styGate_evt (i : Nat) (on : Bool) (s : State) : (styGate i on s).evt = s.evt := ((((RegsOnly.refl s).fw _ _ _ _).fw _ _ _ _).fw _ _ _ _).evt

theorem proofStop_evt (s : State) : (proofStop s).evt = s.evt := (((RegsOnly.refl (s.uProof _)).fw _ _ _ _).fw _ _ _ _).evt

theorem evt_ite {c : Prop} [Decidable c] {s t u : State} (ht : c → t.evt = s.evt) (hu : ¬c → u.evt = s.evt) : (if c then t else u).evt = s.evt := by
  split
  next hc => exact ht hc
  next hc => exact hu hc

theorem gatesOff_evt (s : State) : (gatesOff s).evt = s.evt := by
  have hgates := gatesOff_gatesOnly s
  rw [hgates]

theorem sidebandDown_evt (s : State) : (sidebandDown s).evt = s.evt := by rw [sidebandDown, sbSet_evt, sbSet_evt]

/-- A domain of a boot that leaves ON raises no event. -/
theorem domDown_evt {d : Nat} (hd : ¬(0xA0 ≤ d ∧ d ≤ 0xA2)) (s : State) : (domDown d s).evt = s.evt := by
  unfold domDown
  exact evt_ite (fun _ => pairSync_evt ..) fun _ => evt_ite (fun _ => portDown_evt ..) fun _ =>
    evt_ite (fun _ => by rw [setScrub, uMem_evt, memSelf_evt]) fun _ => evt_ite (fun _ => styGate_evt ..) fun _ =>
    evt_ite (fun _ => by omega) fun _ => evt_ite (fun _ => by omega) fun _ => evt_ite (fun _ => uFab_evt ..) fun _ =>
    evt_ite (fun _ => proofStop_evt _) fun _ => evt_ite (fun _ => gatesOff_evt s) fun _ => evt_ite (fun _ => sidebandDown_evt s) fun _ => rfl

/-- One domain goes OFF, unless it is OFF or one of R140. -/
def domainOff (s : State) (d : Nat) : State := if s.dom d = 0 ∨ (0xA0 ≤ d ∧ d ≤ 0xA2) then s else (domDown d s).setDom d 0

/-- What the shutdown of one domain, or of all, leaves of a boot: its registers, memory and the queue of events. -/
def OffKept (s t : State) : Prop := BootKept True True s t ∧ t.evt = s.evt

theorem domainOff_kept (s : State) {d : Nat} (hd : d < 168) : OffKept s (domainOff s d) := by
  unfold domainOff
  split_ifs with h
  · exact ⟨.refl s, rfl⟩
  · push Not at h
    have hout : ¬(0xA0 ≤ d ∧ d ≤ 0xA2) := by omega
    exact ⟨((BootKept.refl s).domDown hout).setDom hd, (((RegsOnly.refl (domDown d s)).fw _ _ _ _).evt).trans (domDown_evt hout s)⟩

theorem dom_domainOff (s : State) {d e : Nat} (he : e < 168) :
    (domainOff s d).dom e = if e = d ∧ ¬(0xA0 ≤ d ∧ d ≤ 0xA2) then 0 else s.dom e := by
  unfold domainOff
  by_cases hed : e = d
  · subst hed
    by_cases hkept : 0xA0 ≤ e ∧ e ≤ 0xA2
    · rw [if_pos (.inr hkept), if_neg fun h => h.2 hkept]
    · rw [if_pos (show e = e ∧ _ from ⟨rfl, hkept⟩)]
      split_ifs with hoff
      · exact hoff.resolve_right hkept
      · exact dom_setDom _ _ _
  · rw [if_neg (show ¬(e = d ∧ _) from fun h => hed h.1)]
    split_ifs
    · rfl
    · rw [dom_setDom_ne _ _ hed, (domDown_domKept d s).dom he]

/-- The shutdown of the domains below n. -/
def domainsDown (n : Nat) (s : State) : State := (List.range n).foldl domainOff s

theorem domainsDown_succ (n : Nat) (s : State) : domainsDown (n + 1) s = domainOff (domainsDown n s) n := by
  rw [domainsDown, List.range_succ, List.foldl_append, domainsDown]
  rfl

theorem domainsDown_kept {n : Nat} (hn : n ≤ 168) (s : State) : OffKept s (domainsDown n s) := by
  induction n with
  | zero => exact ⟨.refl s, rfl⟩
  | succ n ih =>
    obtain ⟨hkept, hevt⟩ := ih (by omega)
    obtain ⟨hlast, hlastEvt⟩ := domainOff_kept (domainsDown n s) (d := n) (by omega)
    rw [domainsDown_succ]
    exact ⟨hkept.trans hlast, hlastEvt.trans hevt⟩

theorem dom_domainsDown (n : Nat) (s : State) {e : Nat} (he : e < 168) :
    (domainsDown n s).dom e = if e < n ∧ ¬(0xA0 ≤ e ∧ e ≤ 0xA2) then 0 else s.dom e := by
  induction n with
  | zero => rw [if_neg fun h => absurd h.1 (Nat.not_lt_zero e)]; rfl
  | succ n ih =>
    rw [domainsDown_succ, dom_domainOff _ he, ih]
    grind

theorem domainsOff_eq (s : State) :
    domainsOff s = wakingCount ((domainsDown 168 s).uPwr fun p => { p with auto := [], upQ := [], waiting := [] }) := rfl

theorem domainsOff_kept (s : State) : OffKept s (domainsOff s) := by
  obtain ⟨hkept, hevt⟩ := domainsDown_kept le_rfl s
  rw [domainsOff_eq]
  exact ⟨hkept.uPwr.wakingCount, ((RegsOnly.refl _).fw _ _ _ _).evt.trans hevt⟩

theorem dom_domainsOff (s : State) {d : Nat} (hd : d < 168) : (domainsOff s).dom d = if 0xA0 ≤ d ∧ d ≤ 0xA2 then s.dom d else 0 := by
  rw [domainsOff_eq, dom_wakingCount, dom_of_rd_eq (rd_of_regs_eq (uPwr_regs ..) _), dom_domainsDown _ _ hd]
  grind

/-! The replay of the event log writes registers of the lines (24 R636) -/

/-- From s to t only registers of the lines and EVT_NVM_PTR differ. -/
def LinesOnly (s t : State) : Prop := RegsOnly s t ∧ ∀ o, ¬((0x71000 ≤ o ∧ o < 0x73000) ∨ o = R.EVT_NVM_PTR) → t.rd o = s.rd o

namespace LinesOnly

variable {s t u : State}

theorem refl (s : State) : LinesOnly s s := ⟨.refl s, fun _ _ => rfl⟩

theorem trans (h : LinesOnly s t) (g : LinesOnly t u) : LinesOnly s u := ⟨h.1.trans g.1, fun o ho => (g.2 o ho).trans (h.2 o ho)⟩

theorem wr (h : LinesOnly s t) {off : Nat} (ho : (0x71000 ≤ off ∧ off < 0x73000) ∨ off = R.EVT_NVM_PTR) (v : Nat) : LinesOnly s (t.wr off v) :=
  ⟨h.1.wr _ _, fun o hn => (rd_wr_ne fun he => hn (by rwa [he])).trans (h.2 o hn)⟩

theorem foldl {α : Type} {f : State → α → State} {l : List α} (h : LinesOnly s t) (hf : ∀ u, ∀ a ∈ l, LinesOnly u (f u a)) :
    LinesOnly s (l.foldl f t) :=
  List.foldlRecOn (motive := LinesOnly s) l f h fun u hu a ha => hu.trans (hf u a ha)

theorem bootKept {plate mem : Prop} (h : LinesOnly s t) : BootKept plate mem s t :=
  ⟨by rw [h.1.boot], by rw [h.1.pins], fun o ho => h.2 o (by grind), fun _ => h.1.sameMem⟩

end LinesOnly

theorem replayHours_lines (k : Nat) (s : State) (slot : Nat) : LinesOnly s (replayHours k s slot) := by
  unfold replayHours
  extract_lets src
  split_ifs
  · refine (LinesOnly.refl s).foldl fun u j _ => ?_
    extract_lets l
    split_ifs
    · exact (LinesOnly.refl u).wr (by simp only [R.LAS_LINE_HOURS]; omega) _
    · exact .refl u
  · exact .refl s

theorem replaySlot_lines (k : Nat) (s : State) (slot : Nat) : LinesOnly s (replaySlot k s slot) := by
  unfold replaySlot
  extract_lets c src arg
  split_ifs
  · refine (LinesOnly.refl s).foldl fun u j hj => ?_
    have hlt := List.mem_range.mp hj
    extract_lets l
    split_ifs
    · exact (LinesOnly.refl u).wr (by simp only [R.LAS_LINE]; omega) _
    · exact .refl u
  · exact (LinesOnly.refl s).wr (by simp only [R.LAS_LINE]; omega) _
  · exact replayHours_lines k s slot

theorem replayLog_lines (s : State) : LinesOnly s (replayLog s) := by
  unfold replayLog
  split
  · exact (LinesOnly.refl s).wr (.inr rfl) _
  · next k _ =>
    extract_lets e t u
    have ht : LinesOnly s t := (LinesOnly.refl s).foldl fun v j _ => (LinesOnly.refl v).foldl fun w i _ => replayHours_lines j w i
    have hu : LinesOnly s u := ht.foldl fun v i _ => replaySlot_lines k v i
    split_ifs
    · exact hu.wr (.inr rfl) _
    · exact hu.wr (.inr rfl) _

/-! SAFE (R175, R176) -/

/-- The registers that show SAFE. -/
def safeShown (s : State) : State := chipUnset ((s.fw R.GLB_STATE 3 0 6).fw R.BOOT_STATUS 2 0 6)

theorem safeShown_only (s : State) : RegsOnly s (safeShown s) := ((((RegsOnly.refl s).fw _ _ _ _).fw _ _ _ _).fw _ _ _ _).fw _ _ _ _

theorem top_safeShown (s : State) : (safeShown s).top = 6 := by
  rw [State.top, safeShown, chipUnset, fd_fw_ne (by decide), fd_fw_ne (by decide), fd_fw_ne (by decide), fd_fw_same _ _ _ (by decide)]
  rfl

theorem status_safeShown (s : State) : (safeShown s).fd R.BOOT_STATUS 2 0 = 6 := by
  rw [safeShown, chipUnset, fd_fw_ne (by decide), fd_fw_ne (by decide), fd_fw_same _ _ _ (by decide)]
  rfl

theorem fd_safeShown (s : State) {hi lo : Nat} (hlo : 2 < lo) (h : lo ≤ hi) (hhi : hi < 32) :
    (safeShown s).fd R.BOOT_STATUS hi lo = s.fd R.BOOT_STATUS hi lo := by
  rw [safeShown, chipUnset, fd_fw_ne (by decide), fd_fw_ne (by decide), fd_fw_of_disjoint _ _ _ (by decide) h (.inl hlo) hhi, fd_fw_ne (by decide)]

theorem chip_safeShown (s : State) : (safeShown s).bit R.GLB_CHIP 31 = false := by
  rw [safeShown, chipUnset, bit_fw_of_disjoint _ _ _ (by decide) (by decide) (by decide), bit_fw (by decide) (by decide) (by decide)]
  rfl

theorem enterSafe_eq (s : State) :
    enterSafe s = ((safeShown (replayLog (domainsOff s))).uBoot fun b => { b with rrs := false }).ev Ev.BOOT_SAFE 0 [] := rfl

theorem safeEntry_kept (s : State) : BootKept True True s (replayLog (domainsOff s)) :=
  (domainsOff_kept s).1.trans (replayLog_lines _).bootKept

theorem safeEntry_evt (s : State) : (replayLog (domainsOff s)).evt = s.evt := (replayLog_lines _).1.evt.trans (domainsOff_kept s).2

theorem rd_enterSafe (s : State) {o : Nat} (h : o ≠ R.EVT_DROP_CNT) : (enterSafe s).rd o = (safeShown (replayLog (domainsOff s))).rd o := by
  rw [enterSafe_eq, ev_regsKept _ _ _ _ o (by simpa using h)]
  exact rd_of_regs_eq (uBoot_regs ..) o

theorem top_enterSafe (s : State) : (enterSafe s).top = 6 := (fd_of_rd_eq (rd_enterSafe s (by decide)) 3 0).trans (top_safeShown _)

theorem status_enterSafe (s : State) : (enterSafe s).fd R.BOOT_STATUS 2 0 = 6 :=
  (fd_of_rd_eq (rd_enterSafe s (by decide)) 2 0).trans (status_safeShown _)

/-- The results of the checks stand. -/
theorem fd_enterSafe (s : State) {hi lo : Nat} (hlo : 2 < lo) (h : lo ≤ hi) (hhi : hi < 32) :
    (enterSafe s).fd R.BOOT_STATUS hi lo = s.fd R.BOOT_STATUS hi lo := by
  rw [fd_of_rd_eq (rd_enterSafe s (by decide)), fd_safeShown _ hlo h hhi, fd_of_rd_eq (safeEntry_kept s).status]

theorem chip_enterSafe (s : State) : (enterSafe s).bit R.GLB_CHIP 31 = false :=
  (bit_of_rd_eq (rd_enterSafe s (by decide)) 31).trans (chip_safeShown _)

theorem rrs_enterSafe (s : State) : (enterSafe s).boot.rrs = false := by rw [enterSafe_eq, ev_boot, uBoot_boot]

theorem enterSafe_sameMem (s : State) : SameMem s (enterSafe s) := by
  have hshown := safeShown_only (replayLog (domainsOff s))
  have hboot : SameMem (replayLog (domainsOff s)) ((safeShown (replayLog (domainsOff s))).uBoot fun b => { b with rrs := false }) :=
    .of_eq ((uBoot_hbm ..).trans hshown.hbm) ((uBoot_vel ..).trans hshown.vel) ((uBoot_flash ..).trans hshown.flash)
  exact (((safeEntry_kept s).mem trivial).trans hboot).trans (ev_sameMem ..)

theorem enterSafe_raised {s : State} (room : RoomFor s) : Raised (enterSafe s) Ev.BOOT_SAFE 0 := by
  rw [enterSafe_eq]
  exact ev_raised (roomFor_of_evt_eq ((uBoot_evt ..).trans ((safeShown_only _).evt.trans (safeEntry_evt s))) room) _ _ _

/-! An attempt fails (R175) -/

/-- A failed check of slot k, noted. -/
def failNoted (k r : Nat) (s : State) : State := ((noteCheck k r s).uScr fun x => { x with prog := none }).ev Ev.BOOT_FAIL k [r]

theorem attemptSlot_le (s : State) : attemptSlot s ≤ 1 := by
  unfold attemptSlot
  omega

section
variable (k r : Nat) (s : State)

theorem failNoted_boot : (failNoted k r s).boot = s.boot := by rw [failNoted, ev_boot, uScr_boot, (noteCheck_only ..).boot]

theorem failNoted_regsKept : RegsKept [R.BOOT_STATUS, R.EVT_DROP_CNT] s (failNoted k r s) :=
  (((noteCheck_regsKept k r s).mono (by simp)).keep (uScr_regs ..)).ev (by simp) _ _ _

theorem failNoted_status : (failNoted k r s).rd R.BOOT_STATUS = (noteCheck k r s).rd R.BOOT_STATUS := by
  rw [failNoted, ev_regsKept _ _ _ _ _ (by decide)]
  exact rd_of_regs_eq (uScr_regs ..) _

theorem failNoted_sameMem : SameMem s (failNoted k r s) := by
  have hnoted := noteCheck_only k r s
  have hscr : SameMem s ((noteCheck k r s).uScr fun x => { x with prog := none }) :=
    .of_eq ((uScr_hbm ..).trans hnoted.hbm) ((uScr_vel ..).trans hnoted.vel) ((uScr_flash ..).trans hnoted.flash)
  exact hscr.trans (ev_sameMem ..)

theorem failNoted_evt : ((noteCheck k r s).uScr fun x => { x with prog := none }).evt = s.evt := (uScr_evt ..).trans (noteCheck_only ..).evt

theorem failNoted_raises : Raises 1 s (failNoted k r s) := (Raises.of_evt_eq (failNoted_evt k r s)).trans (.ev ..)

theorem failNoted_raised (room : RoomFor s) : Raised (failNoted k r s) Ev.BOOT_FAIL k := ev_raised (roomFor_of_evt_eq (failNoted_evt k r s) room) _ _ _

end

/-- The restart at IMAGE, on the other slot. -/
def bootRestarted (s : State) : State :=
  (((chipUnset (domainsOff s)).uBoot fun b => { b with attempt := 1 }).fw R.GLB_STATE 3 0 1).fw R.BOOT_STATUS 2 0 0

theorem bootFail_first {s : State} (h : s.boot.attempt = 0) (r : Nat) : bootFail r s = bootRestarted (failNoted (attemptSlot s) r s) :=
  if_pos ((congrArg BootSt.attempt (failNoted_boot ..)).trans h)

theorem bootFail_again {s : State} (h : s.boot.attempt ≠ 0) (r : Nat) : bootFail r s = enterSafe (failNoted (attemptSlot s) r s) :=
  if_neg (by rwa [← failNoted_boot (attemptSlot s) r s] at h)

/-- What precedes the registers of the restart keeps those of the boot. -/
theorem restart_kept (s : State) : BootKept True True s (chipUnset (domainsOff s)) := (domainsOff_kept s).1.fw.fw

theorem bootRestarted_only (s : State) : RegsOnly ((chipUnset (domainsOff s)).uBoot fun b => { b with attempt := 1 }) (bootRestarted s) :=
  ((RegsOnly.refl _).fw _ _ _ _).fw _ _ _ _

theorem attempt_bootRestarted (s : State) : (bootRestarted s).boot.attempt = 1 := by rw [(bootRestarted_only s).boot, uBoot_boot]

theorem rd_bootRestarted_ne (s : State) {o : Nat} (hstate : o ≠ R.GLB_STATE) (hstatus : o ≠ R.BOOT_STATUS) :
    (bootRestarted s).rd o = (chipUnset (domainsOff s)).rd o := by
  rw [bootRestarted, rd_fw_ne _ _ _ _ hstatus, rd_fw_ne _ _ _ _ hstate]
  exact rd_of_regs_eq (uBoot_regs ..) o

theorem top_bootRestarted (s : State) : (bootRestarted s).top = 1 := by
  rw [State.top, bootRestarted, fd_fw_ne (by decide), fd_fw_same _ _ _ (by decide)]
  rfl

theorem fd_bootRestarted (s : State) {hi lo : Nat} (hlo : 2 < lo) (h : lo ≤ hi) (hhi : hi < 32) :
    (bootRestarted s).fd R.BOOT_STATUS hi lo = s.fd R.BOOT_STATUS hi lo := by
  rw [bootRestarted, fd_fw_of_disjoint _ _ _ (by decide) h (.inl hlo) hhi, fd_fw_ne (by decide), fd_of_rd_eq (rd_of_regs_eq (uBoot_regs ..) _),
    fd_of_rd_eq (restart_kept s).status]

theorem locked_bootRestarted (s : State) : (bootRestarted s).locked = s.locked :=
  (bit_of_rd_eq (rd_bootRestarted_ne s (by decide) (by decide)) 0).trans (restart_kept s).locked

theorem dom_chipUnset (s : State) (d : Nat) : (chipUnset s).dom d = s.dom d := (dom_wr (by decide)).trans (dom_wr (by decide))

theorem dom_bootRestarted (s : State) {d : Nat} (hd : d < 168) : (bootRestarted s).dom d = if 0xA0 ≤ d ∧ d ≤ 0xA2 then s.dom d else 0 := by
  rw [dom_of_rd_eq (rd_bootRestarted_ne s (by simp only [R.GLB_STATE]; omega) (by simp only [R.BOOT_STATUS]; omega)), dom_chipUnset, dom_domainsOff _ hd]

theorem bootRestarted_sameMem (s : State) : SameMem s (bootRestarted s) := by
  have hboot : SameMem (chipUnset (domainsOff s)) ((chipUnset (domainsOff s)).uBoot fun b => { b with attempt := 1 }) :=
    .of_eq (uBoot_hbm ..) (uBoot_vel ..) (uBoot_flash ..)
  exact (((restart_kept s).mem trivial).trans hboot).trans (bootRestarted_only s).sameMem

theorem bootRestarted_evt (s : State) : (bootRestarted s).evt = s.evt := by
  rw [(bootRestarted_only s).evt, uBoot_evt, ← (domainsOff_kept s).2]
  exact (((RegsOnly.refl (domainsOff s)).fw _ _ _ _).fw _ _ _ _).evt

/-- A failed attempt leaves its reason, and IMAGE or SAFE. -/
theorem bootFail_shows {r : Nat} (hr : r < 16) (s : State) :
    (bootFail r s).top = (if s.boot.attempt = 0 then 1 else 6)
      ∧ (bootFail r s).fd R.BOOT_STATUS (15 - 4 * attemptSlot s) (12 - 4 * attemptSlot s) = r := by
  have hk := attemptSlot_le s
  have hreason : (failNoted (attemptSlot s) r s).fd R.BOOT_STATUS (15 - 4 * attemptSlot s) (12 - 4 * attemptSlot s) = r := by
    rw [fd_of_rd_eq (failNoted_status ..), fd_noteCheck hk hr]
  split_ifs with h
  · rw [bootFail_first h, fd_bootRestarted _ (by omega) (by omega) (by omega)]
    exact ⟨top_bootRestarted _, hreason⟩
  · rw [bootFail_again h, fd_enterSafe _ (by omega) (by omega) (by omega)]
    exact ⟨top_enterSafe _, hreason⟩

/-- A failed first attempt restarts at IMAGE, with the other slot to try. -/
theorem bootFail_first_state {s : State} {r : Nat} (h : s.boot.attempt = 0) (hr : r ≠ 0) :
    (bootFail r s).boot.attempt = 1 ∧ imgValid (bootFail r s) (attemptSlot s) = false ∧ (bootFail r s).locked = s.locked
      ∧ (∀ d < 168, (bootFail r s).dom d = if 0xA0 ≤ d ∧ d ≤ 0xA2 then s.dom d else 0) ∧ SameMem s (bootFail r s)
      ∧ (RoomFor s → Raised (bootFail r s) Ev.BOOT_FAIL (attemptSlot s)) := by
  have hk := attemptSlot_le s
  rw [bootFail_first h]
  refine ⟨attempt_bootRestarted _, ?_, ?_, fun d hd => ?_, (failNoted_sameMem ..).trans (bootRestarted_sameMem _),
    fun room => raised_of_evt_eq (bootRestarted_evt _) (failNoted_raised _ _ _ room)⟩
  · rw [imgValid, bit_of_fd _ _ le_rfl le_rfl, fd_bootRestarted _ (by omega) le_rfl (by omega), ← bit_of_fd _ _ le_rfl le_rfl, ← imgValid,
      imgValid_of_rd_eq (failNoted_status ..), imgValid_noteCheck hk, beq_eq_false_iff_ne]
    exact hr
  · rw [locked_bootRestarted, State.locked, bit_of_rd_eq (failNoted_regsKept _ _ _ _ (by decide)), State.locked]
  · have hdom : (failNoted (attemptSlot s) r s).dom d = s.dom d := dom_of_rd_eq (failNoted_regsKept _ _ _ _ (by
      simp only [R.BOOT_STATUS, R.EVT_DROP_CNT, List.mem_cons, List.not_mem_nil, or_false]; omega))
    rw [dom_bootRestarted _ hd, hdom]

/-! Discovery and the attempt (R160, R171, R172) -/

/-- What precedes the checks of an attempt leaves: the attempt itself, every register but BOOT's of the part, memory; two events at most. -/
structure Discovered (s t : State) : Prop where
  attempt : t.boot.attempt = s.boot.attempt
  pins : t.pins = s.pins
  rd : RegsKept [R.BOOT_NVM_ID, R.BOOT_NVM_SIZE, R.BOOT_STATUS, R.EVT_DROP_CNT] s t
  mem : SameMem s t

namespace Discovered

variable {s t u : State}

theorem refl (s : State) : Discovered s s := ⟨rfl, rfl, fun _ _ => rfl, .of_eq rfl rfl rfl⟩

theorem trans (h : Discovered s t) (g : Discovered t u) : Discovered s u :=
  ⟨g.attempt.trans h.attempt, g.pins.trans h.pins, h.rd.trans g.rd, h.mem.trans g.mem⟩

theorem ev (h : Discovered s t) (code src : Nat) (args : List Nat) : Discovered s (t.ev code src args) :=
  h.trans ⟨by rw [ev_boot], ev_pins .., (ev_regsKept _ _ _ _).mono (by simp), ev_sameMem ..⟩

theorem wr (h : Discovered s t) {off : Nat} (ho : off ∈ [R.BOOT_NVM_ID, R.BOOT_NVM_SIZE, R.BOOT_STATUS, R.EVT_DROP_CNT]) (v : Nat) :
    Discovered s (t.wr off v) :=
  h.trans ⟨rfl, rfl, (RegsKept.of_regs_eq _ rfl).wr ho v, .of_eq rfl rfl rfl⟩

theorem uNvm (h : Discovered s t) (n : NvmPart) : Discovered s (t.uBoot fun b => { b with nvm := some n }) :=
  h.trans ⟨rfl, rfl, .of_regs_eq _ rfl, .of_eq rfl rfl rfl⟩

theorem attemptSlot (h : Discovered s t) : attemptSlot t = attemptSlot s := by rw [Machine.attemptSlot, Machine.attemptSlot, h.pins, h.attempt]

theorem dom (h : Discovered s t) {d : Nat} (hd : d < 168) : t.dom d = s.dom d := dom_of_rd_eq (h.rd _ (by
  simp only [R.BOOT_NVM_ID, R.BOOT_NVM_SIZE, R.BOOT_STATUS, R.EVT_DROP_CNT, List.mem_cons, List.not_mem_nil, or_false]; omega))

end Discovered

theorem bootOpen_discovered (s : State) : Discovered s (bootOpen s) ∧ Raises 1 s (bootOpen s) := by
  unfold bootOpen
  split_ifs
  · exact ⟨(Discovered.refl s).ev _ _ _, .ev ..⟩
  · exact ⟨.refl s, (Raises.of_evt_eq rfl).mono (by decide)⟩

theorem nvmFound_discovered (f : SlotFind) (s : State) : Discovered s (nvmFound f s) ∧ Raises 1 s (nvmFound f s) := by
  have hnone : Discovered s s ∧ Raises 1 s s := ⟨.refl s, (Raises.of_evt_eq rfl).mono (by decide)⟩
  unfold nvmFound
  split_ifs
  · exact hnone
  split
  · exact hnone
  next n _ =>
    extract_lets t u
    have ht : Discovered s t := ((Discovered.refl s).wr (by simp) _).wr (by simp) _
    have hu : Discovered s u := (ht.uNvm n).wr (by simp) _
    have hevt : u.evt = s.evt := by
      have htOnly : RegsOnly s t := ((RegsOnly.refl s).wr _ _).wr _ _
      exact (((RegsOnly.refl _).fw _ _ _ _).evt.trans (uBoot_evt ..)).trans htOnly.evt
    split_ifs
    · exact ⟨hu.ev _ _ _, (Raises.of_evt_eq hevt).trans (.ev ..)⟩
    · exact ⟨hu, (Raises.of_evt_eq hevt).mono (by decide)⟩

theorem discovery (f : SlotFind) (s : State) : Discovered s (nvmFound f (bootOpen s)) ∧ Raises 2 s (nvmFound f (bootOpen s)) := by
  obtain ⟨hopen, hopenRaises⟩ := bootOpen_discovered s
  obtain ⟨hfound, hfoundRaises⟩ := nvmFound_discovered f (bootOpen s)
  exact ⟨hopen.trans hfound, hopenRaises.trans hfoundRaises⟩

section
variable {s : State} (f : SlotFind) (htop : s.top = 1)
include htop

theorem exec_attempt_safe (hsel : 2 ≤ s.pins.bootSel.toNat) : exec (.imageSlotAttempt f) s = .next (enterSafe (bootOpen s)) := by
  show execImageSlotAttempt f s = _
  rw [execImageSlotAttempt, if_neg (by rw [htop]; decide), if_pos hsel]
  rfl

theorem exec_attempt_fails (hsel : s.pins.bootSel.toNat < 2) (hr : attemptReason f s ≠ 0) :
    exec (.imageSlotAttempt f) s = .next (bootFail (attemptReason f s) (nvmFound f (bootOpen s))) := by
  show execImageSlotAttempt f s = _
  rw [execImageSlotAttempt, if_neg (by rw [htop]; decide), if_neg (by omega), if_pos hr]
  rfl

/-- The registers of an attempt that CONFIG follows. -/
theorem exec_attempt_taken (hsel : s.pins.bootSel.toNat < 2) (hr : attemptReason f s = 0) :
    exec (.imageSlotAttempt f) s = .next ((((imageRegs (attemptSlot s) (noteCheck (attemptSlot s) 0 (nvmFound f (bootOpen s)))).fw R.GLB_STATE 3 0 2).fw
      R.BOOT_STATUS 2 0 4).uBoot fun b => { b with rrs := false }) := by
  show execImageSlotAttempt f s = _
  rw [execImageSlotAttempt, if_neg (by rw [htop]; decide), if_neg (by omega)]
  simp only [hr]
  rfl

end

theorem attemptReason_lt (f : SlotFind) (s : State) : attemptReason f s < 16 := by
  unfold attemptReason
  split_ifs
  · decide
  split
  · decide
  split_ifs
  · decide
  · exact (imageCheck_le ..).trans_lt (by decide)

theorem flashBytes_of_sameMem {s t : State} (h : SameMem s t) (a n : Nat) : flashBytes t a n = flashBytes s a n := by
  simp only [flashBytes, bytesAt, h.2.2]

theorem regionHash_of_sameMem {s t : State} (h : SameMem s t) (k : Nat) : regionHash t k = regionHash s k := by
  rw [regionHash, regionHash, flashBytes_of_sameMem h]

/-- The running image's registers, with the digest of its signed region shown among them. -/
theorem imageRegs_eq (k : Nat) (s : State) : ∃ id plates cluster hdr, imageRegs k s =
    ((((s.wr R.BOOT_IMAGE_ID id).wr64 R.BOOT_DIGEST_LO (bytesToNat ((regionHash s k).take 8))).wr64 R.BOOT_PLATESET_LO plates).wr64
      R.BOOT_CLUSTER_LO cluster).uBoot fun b => { b with hdr := hdr } := ⟨_, _, _, _, rfl⟩

theorem digest_lt (s : State) (k : Nat) : bytesToNat ((regionHash s k).take 8) < 2 ^ 64 := by
  have hlen : ((regionHash s k).take 8).length ≤ 8 := List.length_take_le ..
  calc bytesToNat ((regionHash s k).take 8) < 256 ^ ((regionHash s k).take 8).length := bytesToNat_lt _
    _ ≤ 256 ^ 8 := Nat.pow_le_pow_right (by decide) hlen
    _ = 2 ^ 64 := by decide

theorem rd_wr64_ne {s : State} {off v o : Nat} (hlo : o ≠ off) (hhi : o ≠ off + 4) : (s.wr64 off v).rd o = s.rd o := by
  rw [State.wr64, rd_wr_ne hhi, rd_wr_ne hlo]

theorem rd64_digest_imageRegs (k : Nat) (s : State) : (imageRegs k s).rd64 R.BOOT_DIGEST_LO = bytesToNat ((regionHash s k).take 8) := by
  obtain ⟨id, plates, cluster, hdr, he⟩ := imageRegs_eq k s
  have hlater : ∀ o, o ≠ R.BOOT_PLATESET_LO → o ≠ R.BOOT_PLATESET_LO + 4 → o ≠ R.BOOT_CLUSTER_LO → o ≠ R.BOOT_CLUSTER_LO + 4 →
      (imageRegs k s).rd o = ((s.wr R.BOOT_IMAGE_ID id).wr64 R.BOOT_DIGEST_LO (bytesToNat ((regionHash s k).take 8))).rd o := by
    intro o h1 h2 h3 h4
    rw [he, rd_of_regs_eq (uBoot_regs ..), rd_wr64_ne h3 h4, rd_wr64_ne h1 h2]
  rw [rd64_of_rd_eq (hlater _ (by decide) (by decide) (by decide) (by decide)) (hlater _ (by decide) (by decide) (by decide) (by decide)),
    rd64_wr64 _ _ (digest_lt s k)]

theorem rd_status_imageRegs (k : Nat) (s : State) : (imageRegs k s).rd R.BOOT_STATUS = s.rd R.BOOT_STATUS := by
  obtain ⟨id, plates, cluster, hdr, he⟩ := imageRegs_eq k s
  rw [he, rd_of_regs_eq (uBoot_regs ..), rd_wr64_ne (by decide) (by decide), rd_wr64_ne (by decide) (by decide), rd_wr64_ne (by decide) (by decide),
    rd_wr_ne (by decide)]

theorem imageRegs_sameMem (k : Nat) (s : State) : SameMem s (imageRegs k s) := by
  obtain ⟨id, plates, cluster, hdr, he⟩ := imageRegs_eq k s
  have honly := (((RegsOnly.refl s).wr R.BOOT_IMAGE_ID id).wr64 R.BOOT_DIGEST_LO (bytesToNat ((regionHash s k).take 8))).wr64 R.BOOT_PLATESET_LO plates
    |>.wr64 R.BOOT_CLUSTER_LO cluster
  rw [he]
  exact .of_eq ((uBoot_hbm ..).trans honly.hbm) ((uBoot_vel ..).trans honly.vel) ((uBoot_flash ..).trans honly.flash)

/-- An image is taken: CONFIG begins and Request Retry Status ends. -/
def configBegun (s : State) : State := ((s.fw R.GLB_STATE 3 0 2).fw R.BOOT_STATUS 2 0 4).uBoot fun b => { b with rrs := false }

theorem rd_configBegun (s : State) (o : Nat) : (configBegun s).rd o = ((s.fw R.GLB_STATE 3 0 2).fw R.BOOT_STATUS 2 0 4).rd o :=
  rd_of_regs_eq (uBoot_regs ..) o

theorem top_configBegun (s : State) : (configBegun s).top = 2 := by
  rw [State.top, fd_of_rd_eq (rd_configBegun s _), fd_fw_ne (by decide), fd_fw_same _ _ _ (by decide)]
  rfl

theorem status_configBegun (s : State) : (configBegun s).fd R.BOOT_STATUS 2 0 = 4 := by
  rw [fd_of_rd_eq (rd_configBegun s _), fd_fw_same _ _ _ (by decide)]
  rfl

theorem imgValid_configBegun (s : State) {k : Nat} (hk : k ≤ 1) : imgValid (configBegun s) k = imgValid s k := by
  rw [imgValid_of_rd_eq (rd_configBegun s _), imgValid, bit_fw_of_disjoint _ _ _ (by decide) (by omega) (by omega), bit_fw_ne (by decide), imgValid]

theorem configBegun_sameMem (s : State) : SameMem s (configBegun s) := by
  have honly := ((RegsOnly.refl s).fw R.GLB_STATE 3 0 2).fw R.BOOT_STATUS 2 0 4
  exact .of_eq ((uBoot_hbm ..).trans honly.hbm) ((uBoot_vel ..).trans honly.vel) ((uBoot_flash ..).trans honly.flash)

theorem attempt_taken_runs {s : State} (f : SlotFind) (htop : s.top = 1) (hsel : s.pins.bootSel.toNat < 2) (hr : attemptReason f s = 0) :
    Runs (.imageSlotAttempt f) s fun t => t.top = 2 ∧ imgValid t (attemptSlot s) = true
      ∧ t.rd64 R.BOOT_DIGEST_LO = bytesToNat ((regionHash s (attemptSlot s)).take 8) ∧ t.fd R.BOOT_STATUS 2 0 = 4 ∧ t.boot.rrs = false
      ∧ SameMem s t := by
  have hk := attemptSlot_le s
  have hmem : SameMem s (noteCheck (attemptSlot s) 0 (nvmFound f (bootOpen s))) := (discovery f s).1.mem.trans (noteCheck_only ..).sameMem
  refine ⟨_, exec_attempt_taken f htop hsel hr, top_configBegun _, ?_, ?_, status_configBegun _, ?_,
    (hmem.trans (imageRegs_sameMem ..)).trans (configBegun_sameMem _)⟩
  · refine (imgValid_configBegun _ hk).trans ?_
    rw [imgValid_of_rd_eq (rd_status_imageRegs ..), imgValid_noteCheck hk]
    rfl
  · have hdigest : ∀ o, o ≠ R.GLB_STATE → o ≠ R.BOOT_STATUS → ∀ u, (configBegun u).rd o = u.rd o := fun o h1 h2 u => by
      rw [rd_configBegun, rd_fw_ne _ _ _ _ h2, rd_fw_ne _ _ _ _ h1]
    refine (rd64_of_rd_eq (hdigest _ (by decide) (by decide) _) (hdigest _ (by decide) (by decide) _)).trans ?_
    rw [rd64_digest_imageRegs, regionHash_of_sameMem hmem]
  · show (State.uBoot _ _).boot.rrs = false
    rw [uBoot_boot]

theorem attempt_fails_runs {s : State} (f : SlotFind) (htop : s.top = 1) (hsel : s.pins.bootSel.toNat < 2) (hr : attemptReason f s ≠ 0)
    (hfirst : s.boot.attempt = 0) (hqueue : s.evt.queue.length < 1000) : Runs (.imageSlotAttempt f) s fun t =>
      t.top = 1 ∧ t.boot.attempt = 1 ∧ imgValid t (attemptSlot s) = false ∧ Raised t Ev.BOOT_FAIL (attemptSlot s)
        ∧ t.fd R.BOOT_STATUS (15 - 4 * attemptSlot s) (12 - 4 * attemptSlot s) = attemptReason f s
        ∧ (∀ d < 168, t.dom d = if 0xA0 ≤ d ∧ d ≤ 0xA2 then s.dom d else 0) ∧ SameMem s t := by
  obtain ⟨hfound, hraises⟩ := discovery f s
  have hattempt : (nvmFound f (bootOpen s)).boot.attempt = 0 := hfound.attempt.trans hfirst
  obtain ⟨htop', hreason⟩ := bootFail_shows (attemptReason_lt f s) (nvmFound f (bootOpen s))
  obtain ⟨hnext, hvalid, -, hdom, hmem, hraised⟩ := bootFail_first_state hattempt hr
  rw [if_pos hattempt] at htop'
  rw [hfound.attemptSlot] at hreason hvalid hraised
  refine ⟨_, exec_attempt_fails f htop hsel hr, htop', hnext, hvalid, hraised (hraises.roomFor (by decide) hqueue), hreason, fun d hd => ?_,
    hfound.mem.trans hmem⟩
  rw [hdom d hd, hfound.dom hd]

/-- What entering SAFE shows, after n events at most. -/
theorem safe_shows {s u : State} {n : Nat} (hmem : SameMem s u) (hraises : Raises n s u) (hn : n ≤ 24) (hqueue : s.evt.queue.length < 1000) :
    (enterSafe u).top = 6 ∧ (enterSafe u).fd R.BOOT_STATUS 2 0 = 6 ∧ (enterSafe u).bit R.GLB_CHIP 31 = false ∧ (enterSafe u).boot.rrs = false
      ∧ Raised (enterSafe u) Ev.BOOT_SAFE 0 ∧ SameMem s (enterSafe u) :=
  ⟨top_enterSafe u, status_enterSafe u, chip_enterSafe u, rrs_enterSafe u, enterSafe_raised (hraises.roomFor hn hqueue),
    hmem.trans (enterSafe_sameMem u)⟩

theorem attempt_safe_runs {s : State} (f : SlotFind) (htop : s.top = 1) (hqueue : s.evt.queue.length < 1000)
    (h : 2 ≤ s.pins.bootSel.toNat ∨ (s.boot.attempt = 1 ∧ attemptReason f s ≠ 0)) : Runs (.imageSlotAttempt f) s fun t =>
      t.top = 6 ∧ t.fd R.BOOT_STATUS 2 0 = 6 ∧ t.bit R.GLB_CHIP 31 = false ∧ t.boot.rrs = false ∧ Raised t Ev.BOOT_SAFE 0 ∧ SameMem s t := by
  obtain ⟨hopen, hopenRaises⟩ := bootOpen_discovered s
  obtain ⟨hfound, hfoundRaises⟩ := discovery f s
  by_cases hsel : 2 ≤ s.pins.bootSel.toNat
  · exact ⟨_, exec_attempt_safe f htop hsel, safe_shows hopen.mem hopenRaises (by decide) hqueue⟩
  · obtain ⟨hsecond, hr⟩ := h.resolve_left hsel
    have hagain : (nvmFound f (bootOpen s)).boot.attempt ≠ 0 := by rw [hfound.attempt, hsecond]; decide
    refine ⟨_, exec_attempt_fails f htop (by omega) hr, ?_⟩
    rw [bootFail_again hagain]
    exact safe_shows (hfound.mem.trans (failNoted_sameMem ..)) (hfoundRaises.trans (failNoted_raises ..)) (by decide) hqueue

/-- Settles O21: the registers of an attempt, its end in a failure by the attempt before it, and SAFE. -/
theorem imageAttemptsAndSafe : Obligations.ImageAttemptsAndSafe :=
  ⟨fun _ f => attempt_taken_runs f, fun _ f => attempt_fails_runs f, fun _ f => attempt_safe_runs f,
    fun s => ⟨_, rfl, by rw [uBoot_boot], uBoot_regs .., .of_eq rfl rfl rfl⟩⟩

end Sys2Proof.Machine
end

section
/-! What the lanes, the lasers and the fabric do in a boot (06 Table 6.8; 05 R136): none of it writes a register of the boot. -/

namespace Sys2Proof.Machine

theorem lt_of_findIdxFrom {f : Nat → Bool} {n k i : Nat} (h : findIdxFrom f n k = some i) : i < k + n := by
  induction n generalizing k with
  | zero => simp [findIdxFrom] at h
  | succ n ih =>
    unfold findIdxFrom at h
    split_ifs at h
    · cases h
      omega
    · have := ih h
      omega

theorem lt_of_lowest {f : Nat → Bool} {n i : Nat} (h : lowest n f = some i) : i < n := by
  have := lt_of_findIdxFrom h
  omega

namespace BootKept

-- A default argument (`ho`, `hp`, `hn`) waits for all declarations before it, and a proof that waits holds a thread: one proof at a time.
set_option Elab.async false

/-! Updates and events -/

section
variable {plate mem : Prop} {s t : State} (h : BootKept plate mem s t)
include h

theorem uEvt {g} : BootKept plate mem s (t.uEvt g) := h.trans (.of_eq rfl rfl rfl fun _ => .of_eq rfl rfl rfl)
theorem uSty {g} : BootKept plate mem s (t.uSty g) := h.trans (.of_eq rfl rfl rfl fun _ => .of_eq rfl rfl rfl)
theorem uLas {g} : BootKept plate mem s (t.uLas g) := h.trans (.of_eq rfl rfl rfl fun _ => .of_eq rfl rfl rfl)
theorem uTec {g} : BootKept plate mem s (t.uTec g) := h.trans (.of_eq rfl rfl rfl fun _ => .of_eq rfl rfl rfl)
theorem uClk {g} : BootKept plate mem s (t.uClk g) := h.trans (.of_eq rfl rfl rfl fun _ => .of_eq rfl rfl rfl)
theorem uHmk {g} : BootKept plate mem s (t.uHmk g) := h.trans (.of_eq rfl rfl rfl fun _ => .of_eq rfl rfl rfl)
theorem uTkt {g} : BootKept plate mem s (t.uTkt g) := h.trans (.of_eq rfl rfl rfl fun _ => .of_eq rfl rfl rfl)
theorem uRepl {g} : BootKept plate mem s (t.uRepl g) := h.trans (.of_eq rfl rfl rfl fun _ => .of_eq rfl rfl rfl)
theorem uAgree {g} : BootKept plate mem s (t.uAgree g) := h.trans (.of_eq rfl rfl rfl fun _ => .of_eq rfl rfl rfl)
theorem uPkg {g} : BootKept plate mem s (t.uPkg g) := h.trans (.of_eq rfl rfl rfl fun _ => .of_eq rfl rfl rfl)
theorem uClu {g} : BootKept plate mem s (t.uClu g) := h.trans (.of_eq rfl rfl rfl fun _ => .of_eq rfl rfl rfl)
theorem uCl {g} : BootKept plate mem s (t.uCl g) := h.trans (.of_eq rfl rfl rfl fun _ => .of_eq rfl rfl rfl)
theorem draw : BootKept plate mem s t.draw.2 := h.trans (.of_eq rfl rfl rfl fun _ => .of_eq rfl rfl rfl)
theorem uLs {tx p n g} : BootKept plate mem s (t.uLs tx p n g) := h.uLnk
theorem drive {bs} : BootKept plate mem s (drive bs t) := h.trans ⟨rfl, rfl, fun _ _ => rfl, fun _ => .of_eq rfl rfl rfl⟩
theorem uPhoto {n : Nat} : BootKept plate mem s (t.uBoot fun b => { b with photo := n }) :=
  h.trans ⟨rfl, rfl, fun _ _ => rfl, fun _ => .of_eq rfl rfl rfl⟩

theorem evKey {interval key code src : Nat} {args : List Nat} : BootKept plate mem s (t.evKey interval key code src args) := by
  unfold State.evKey
  extract_lets n
  split_ifs
  · exact h
  · exact h.uEvt.ev

theorem evOnce {interval code src : Nat} {args : List Nat} : BootKept plate mem s (t.evOnce interval code src args) := h.evKey

end

/-! Queues of engines, lines and lanes (09 R254; 11 R302, R303; 12 R315–R321) -/

section
variable {plate mem : Prop} {s t : State} (h : BootKept plate mem s t)
include h

theorem wqPush {e l w v} (he : plate → e < 16 := by grind) : BootKept plate mem s (wqPush e l w v t) := by
  unfold Machine.wqPush
  extract_lets g
  split_ifs
  · exact h.uSty
  · exact h.sat.ev
  · exact h.uSty.fw

theorem ringMove {p l integ mode} (hp : plate → p < 16 := by grind) : BootKept plate mem s (ringMove p l integ mode t) := h.wqPush.wqPush

theorem refLost {src} : BootKept plate mem s (refLost src t) := by
  unfold Machine.refLost
  extract_lets t1
  have h1 : BootKept plate mem s t1 := by
    cases src
    · exact h.fw.sat
    · exact h.fw.sat
  split_ifs
  · exact h1.fw.wr.uClk.ev
  · exact h1

theorem linkFollow : BootKept plate mem s (linkFollow t) := by
  unfold Machine.linkFollow
  extract_lets was t1
  split_ifs
  · exact h.uClk.refLost
  · exact h.uClk

theorem updLine {b n} (hb : plate → b < 8 := by grind) (hn : plate → n < 18 := by grind) :
    BootKept plate mem s (updLine b n t) := by
  unfold Machine.updLine
  split_ifs
  · exact h
  · exact h.fw

theorem sendStop {p n st} : BootKept plate mem s (sendStop p n st t) := by
  unfold Machine.sendStop
  split_ifs
  · exact h
  · exact h.uLs

theorem fwLane {tx p n hi lo v} (hp : plate → p < 16 := by grind) (hn : plate → n < 18 := by grind) :
    BootKept plate mem s (t.fw (laneReg tx p n) hi lo v) := h.fw (by cases tx <;> simp only [laneReg, b2n] <;> grind)

theorem setLane {tx p n st} (hp : plate → p < 16 := by grind) (hn : plate → n < 18 := by grind) : BootKept plate mem s (setLane tx p n st t) := by
  unfold Machine.setLane
  extract_lets t1
  have h1 : BootKept plate mem s t1 := h.fwLane
  split_ifs
  · exact h1.sendStop.updLine
  · exact h1.linkFollow
  · exact h1

theorem setSlot {tx p n slot remapped} (hp : plate → p < 16 := by grind) (hn : plate → n < 18 := by grind) :
    BootKept plate mem s (setSlot tx p n slot remapped t) := h.fwLane.fwLane

theorem parkLane {tx p n} (hp : plate → p < 16 := by grind) : BootKept plate mem s (parkLane tx p n t) := h.ringMove

theorem sweepLane {tx p n} (hp : plate → p < 16 := by grind) (hn : plate → n < 18 := by grind) : BootKept plate mem s (sweepLane tx p n t) :=
  h.wqPush.ringMove.uLs.setLane

theorem lockLane {tx p n} (hp : plate → p < 16 := by grind) (hn : plate → n < 18 := by grind) : BootKept plate mem s (lockLane tx p n t) := by
  unfold Machine.lockLane
  split
  · exact h.ringMove.uLs.setLane
  · exact h.sweepLane

theorem toSpare {tx p n uncal} (hp : plate → p < 16 := by grind) (hn : plate → n < 18 := by grind) : BootKept plate mem s (toSpare tx p n uncal t) :=
  h.parkLane.fwLane.uLs.setLane

theorem laneCounts {p} (hp : plate → p < 16 := by grind) : BootKept plate mem s (laneCounts p t) := h.fw.fw.fw.fw

/-! Roles of lanes under a plate (12 R315, R316) -/

theorem roleLane {tx p n slot} (hp : plate → p < 16 := by grind) (hn : plate → n < 18 := by grind) :
    BootKept plate mem s (roleLane tx p n slot t) := by
  unfold Machine.roleLane
  extract_lets r was oldRole t0 t1 t2 t3 t4
  have h0 : BootKept plate mem s t0 := by
    unfold t0
    split_ifs
    · exact h.parkLane
    · exact h
  have h2 : BootKept plate mem s t2 := h0.fwLane.setSlot
  have h3 : BootKept plate mem s t3 := by
    unfold t3
    split_ifs
    · exact h2
    · exact h2.parkLane
  have h4 : BootKept plate mem s t4 := by
    unfold t4
    split_ifs
    · exact h2.fwLane
    · exact h2
  split_ifs
  · exact h2
  · exact h3.fwLane.setLane
  · exact h4.setLane
  · exact h4.parkLane.setLane
  · exact h4.setLane
  · exact h4.lockLane

theorem roleLanes {tx p} (hp : plate → p < 16 := by grind) : BootKept plate mem s (roleLanes tx p t) :=
  List.foldlRecOn (motive := fun a : State × Nat => BootKept plate mem s a.1) _ _ h fun _ ha n hn => by
    have hlt := List.mem_range.mp hn
    exact ha.roleLane

theorem replaceRetired {tx p} (hp : plate → p < 16 := by grind) : BootKept plate mem s (replaceRetired tx p t) :=
  List.foldlRecOn (motive := fun a : State × Nat => BootKept plate mem s a.1) _ _ h fun a ha n _ => by
    simp only []
    split_ifs
    · exact ha
    · exact ha
    · split
      next m hm =>
        have hlt := lt_of_lowest hm
        exact ha.setSlot.lockLane
      · exact ha.ev

theorem selFollow {p} (hp : plate → p < 16 := by grind) : BootKept plate mem s (selFollow p t) := h.foldl fun u n _ => by
  simp only []
  split_ifs
  · exact refl u
  · exact (refl u).uLs.wqPush

theorem byScribe {f : State → State} (hf : ∀ {u}, BootKept plate mem s u → BootKept plate mem s (f u)) : BootKept plate mem s (byScribe f t) :=
  (hf h.uSty).uSty

theorem rolesOnPort {p} (hp : plate → p < 16 := by grind) : BootKept plate mem s (rolesOnPort p t) := by
  unfold Machine.rolesOnPort
  extract_lets t0 t1 t2 t3
  have h3 : BootKept plate mem s t3 := h.uLk.fw.fw.fw.roleLanes.roleLanes.replaceRetired.replaceRetired
  split_ifs
  · exact h3.laneCounts
  · exact (h3.byScribe fun g => g.selFollow).laneCounts

/-! PHOTONICS (06 Table 6.8) -/

theorem safeOn {cause b} : BootKept plate mem s (safeOn cause b t) := by
  unfold Machine.safeOn
  extract_lets w t1
  have h1 : BootKept plate mem s t1 := h.uLas
  split_ifs
  · exact h
  · exact h1.fw.ev
  · exact h1

theorem orderDark {lane} : BootKept plate mem s (orderDark lane t) := by
  unfold Machine.orderDark
  split_ifs
  · exact h
  · exact h.uProof.fw

theorem photonicsCheck : BootKept plate mem s (photonicsCheck t) := by
  unfold Machine.photonicsCheck
  split_ifs
  · exact h.uPhoto.orderDark
  · exact h

theorem lasersOn : BootKept plate mem s (lasersOn t) := by
  unfold Machine.lasersOn
  split_ifs
  · refine (h.uPhoto.foldl fun u p hp => ?_).photonicsCheck
    have hlt := List.mem_range.mp hp
    exact (refl u).rolesOnPort
  · exact h

theorem driveGates {k g tick} : BootKept plate mem s (driveGates k g tick t) := h.uTec.emit

theorem tecBringup {k} : BootKept plate mem s (tecBringup k t) := by
  unfold Machine.tecBringup
  extract_lets t0 t1 t2 t3 t4
  have h0 : BootKept plate mem s t0 := by
    unfold t0
    split_ifs
    · exact h.driveGates
    · exact h
  have h4 : BootKept plate mem s t4 := (h0.fw.fw.fw.uTec.wr (by simp only [coefOff]; grind)).wr (by simp only [coefOff]; grind)
  exact h4.safeOn.safeOn

theorem hmkSearch {p} : BootKept plate mem s (hmkSearch p t) := by
  unfold Machine.hmkSearch
  split_ifs
  · exact h
  · exact h.drive.uHmk.fw.fw.fw.sat

theorem searchAll : BootKept plate mem s (searchAll t) := by
  unfold Machine.searchAll
  split_ifs
  · exact h.foldl fun u _ _ => (refl u).hmkSearch
  · exact h

end

end BootKept

end Sys2Proof.Machine
end

section
/-! Packets, cluster orders and a domain's return in a boot (12 R315–R332; 14 R390; 15 R397, R399; 17; 20; 21): none of them writes a register
of the boot. -/

namespace Sys2Proof.Machine

namespace BootKept

-- A default argument (`ho`, `hp`, `hn`) waits for all declarations before it, and a proof that waits holds a thread: one proof at a time.
set_option Elab.async false

/-! Lanes' streams and packets (12 R315–R324; 17 R440–R445) -/

section
variable {mem : Prop} {s t : State} (h : BootKept False mem s t)
include h

theorem laneBlock {p n hdr payload} : BootKept False mem s (laneBlock p n hdr payload t) := h.uLs.emit

theorem marksGo {p n k} : BootKept False mem s (marksGo p n k t) := by
  induction k generalizing t with
  | zero => exact h
  | succ k ih =>
    unfold Machine.marksGo
    split_ifs
    · exact ih h.laneBlock
    · exact h

theorem laneSend {p n hdr payload} : BootKept False mem s (laneSend p n hdr payload t) := h.marksGo.laneBlock

theorem lctl {p kind fields} : BootKept False mem s (lctl p kind fields t) := by
  unfold Machine.lctl
  extract_lets t1
  have h1 : BootKept False mem s t1 := h.emit
  split
  · exact h1.laneSend
  · exact h1

theorem slotSend {p k bsn payload} : BootKept False mem s (slotSend p k bsn payload t) := h.foldl fun u _ _ => (refl u).laneSend

theorem retryStatus {p} : BootKept False mem s (retryStatus p t) := h.fw.fw

theorem dataBlock {p payload} : BootKept False mem s (dataBlock p payload t) := h.uLk.retryStatus.slotSend

theorem sendBlock {p k} : BootKept False mem s (sendBlock p k t) := h.uLk.count64.emit.dataBlock

end

theorem pumpGo {mem : Prop} {p : Nat} (ks : List Pkt) (blocked : List Nat) {s t : State} (h : BootKept False mem s t) :
    BootKept False mem s (pumpGo p ks blocked t).1 := by
  induction ks generalizing blocked t with
  | nil => exact h
  | cons k ks ih =>
    unfold Machine.pumpGo
    split_ifs
    · exact ih _ h.sendBlock
    · exact ih _ h

section
variable {mem : Prop} {s t : State} (h : BootKept False mem s t)
include h

theorem pump {p} : BootKept False mem s (pump p t) := by
  unfold Machine.pump
  exact (pumpGo _ _ h).uLk

theorem sendPkt {p k} : BootKept False mem s (sendPkt p k t) := h.uLk.pump

/-! Orders of the cluster (02 R65; 14 R370; 15 R399, R407, R689) -/

theorem sbQueue {d mtype body} : BootKept False mem s (t.sbQueue d mtype body) := h.setSb

theorem sbBoth {mtype body} : BootKept False mem s (t.sbBoth mtype body) := h.sbQueue.sbQueue

theorem cordOut {hops src skip frame} : BootKept False mem s (cordOut hops src skip frame t) := h.draw.foldl fun u _ _ => (refl u).sendPkt

theorem clTransport {frame} : BootKept False mem s (clTransport frame t) := h.sbBoth.cordOut

theorem memberOrder {payload} : BootKept False mem s (memberOrder payload t) := h.draw.clTransport

theorem faultReg : BootKept False mem s (faultReg t) := h.wr

theorem clearPairs {gone} : BootKept False mem s (clearPairs gone t) := by
  unfold Machine.clearPairs
  split_ifs
  · exact h.uRepl
  · exact h.uRepl.faultReg

theorem addPairs {chip ports} : BootKept False mem s (addPairs chip ports t) := by
  unfold Machine.addPairs
  extract_lets new
  split_ifs
  · exact h.uRepl
  · exact h.uRepl.faultReg

theorem standbyPairs {chip ports gone} : BootKept False mem s (standbyPairs chip ports gone t) := by
  unfold Machine.standbyPairs
  split_ifs
  · exact h.uRepl.faultReg
  · exact h

theorem portNote {op} : BootKept False mem s (portNote op t) := by
  unfold Machine.portNote
  extract_lets t1
  have h1 : BootKept False mem s t1 := h.memberOrder
  split_ifs
  · exact h1.addPairs.clearPairs
  · exact h1.standbyPairs

/-! A port takes its peer and trains (12 R329, R330) -/

theorem recount {p} : BootKept False mem s (recount p t) := by
  unfold Machine.recount
  extract_lets t1
  have h1 : BootKept False mem s t1 := h.laneCounts
  split_ifs
  · exact h1.portSet.pump
  · exact h1.pump

theorem enterTraining {p} : BootKept False mem s (enterTraining p t) := by
  unfold Machine.enterTraining
  extract_lets was t1 t2 t3 t4
  have h3 : BootKept False mem s t3 := h.uLk.portSet.foldl fun u n _ => (refl u).foldl fun v tx _ => by
    split_ifs
    · exact (refl v).lockLane
    · exact refl v
  split_ifs
  · exact h3.lctl.portNote
  · exact h3.lctl

theorem enterFailed {p cause} : BootKept False mem s (enterFailed p cause t) := by
  unfold Machine.enterFailed
  split_ifs
  · exact h
  · exact h.portSet.ev.portNote

theorem tryTrain {p} : BootKept False mem s (tryTrain p t) := by
  unfold Machine.tryTrain
  split_ifs
  · exact h
  · exact h.enterTraining
  · exact h
  · exact h.draw.enterFailed

theorem linkOnPort {p} : BootKept False mem s (linkOnPort p t) := by
  unfold Machine.linkOnPort
  extract_lets a mode t1
  have h1 : BootKept False mem s t1 := h.wr
  split_ifs
  · exact h1
  · exact h1.portSet.portNote
  · exact h1.portSet
  · exact h1.tryTrain

theorem portWake {p} : BootKept False mem s (portWake p t) := by
  unfold Machine.portWake
  split_ifs
  · exact h.rolesOnPort.linkOnPort
  · exact h.rolesOnPort
  · exact h

end

/-! Rings, Vellum and HBM (20 R520; 21 R536; 05 R134): what may write memory -/

section
variable {s t : State} (h : BootKept False False s t)
include h

theorem uVel {g} : BootKept False False s (t.uVel g) := h.trans (.of_eq rfl rfl rfl fun hf => hf.elim)
theorem uVelEcc {g} : BootKept False False s (t.uVelEcc g) := h.trans (.of_eq rfl rfl rfl fun hf => hf.elim)
theorem uHbm {g} : BootKept False False s (t.uHbm g) := h.trans (.of_eq rfl rfl rfl fun hf => hf.elim)
theorem uHbmEcc {g} : BootKept False False s (t.uHbmEcc g) := h.trans (.of_eq rfl rfl rfl fun hf => hf.elim)

theorem uRing {r f} : BootKept False False s (uRing r f t) := h.uTkt

theorem uRun {r idx f} : BootKept False False s (uRun r idx f t) := h.uRing

theorem wakeOver {r} : BootKept False False s (wakeOver r t) := h.uRing

theorem zeroVellum {d} : BootKept False False s (zeroVellum d t) := h.uVel.uVelEcc

/-! Words of memory and their check bits (21 R536, R538, R560, R561) -/

theorem putSyn {r k syn} : BootKept False False s (putSyn r k syn t) := by
  unfold Machine.putSyn
  cases r
  · exact h.uHbmEcc
  · exact h.uVelEcc

theorem putWord {r k bs} : BootKept False False s (putWord r k bs t) := by
  unfold Machine.putWord
  cases r
  · exact h.uHbm
  · exact h.uVel

theorem writeSyn {r k syn} : BootKept False False s (writeSyn r k syn t) := by
  unfold Machine.writeSyn
  extract_lets w
  split
  · exact putSyn (h.fw (off := R.MEM_INJECT))
  · exact h.putSyn

theorem noteCe {r k} : BootKept False False s (noteCe r k t) := by
  unfold Machine.noteCe
  extract_lets a st pc n m t1 t2 t3
  cases r with
  | vel => exact h.sat.evKey
  | hbm =>
    have h3 : BootKept False False s t3 := h.uMem.sat.sat.evOnce
    simp only []
    split_ifs
    · exact h3.ev
    · exact h3

theorem notePoison {r k} : BootKept False False s (notePoison r k t) := by
  cases r
  · exact h.sat.evOnce
  · exact h

theorem noteUe {src r k} : BootKept False False s (noteUe src r k t) := by
  cases r
  · exact h.sat.sat.wr64.wr.ev.writeSyn
  · exact h.sat.ev.writeSyn

theorem readWord {src r k} : BootKept False False s (readWord src r k t).1 := by
  unfold Machine.readWord
  extract_lets bs syn
  split
  · exact h
  · exact h.noteCe
  · exact h.notePoison
  · exact h.noteUe

theorem readWords {src r n k} : BootKept False False s (readWords src r n k t).1 := by
  induction n generalizing k t with
  | zero => exact h
  | succ n ih => exact ih h.readWord

theorem memRead {src r a n} : BootKept False False s (memRead src r a n t).1 := by
  unfold Machine.memRead
  split_ifs
  · exact h
  · exact h.readWords

theorem writeWord {src r k xs} : BootKept False False s (writeWord src r k xs t) := by
  unfold Machine.writeWord
  extract_lets mark full old syn
  split
  · exact h
  split
  · exact h.putWord.writeSyn
  · split
    · exact h.putWord.writeSyn
    · exact h.noteCe.putWord.writeSyn
    · exact h.putWord.writeSyn
    · exact h.noteUe.putWord.writeSyn

theorem writeWords {src r n k xs} : BootKept False False s (writeWords src r n k xs t) := by
  induction n generalizing k xs t with
  | zero => exact h
  | succ n ih => exact ih h.writeWord

theorem memWrite {src r a xs} : BootKept False False s (memWrite src r a xs t) := by
  unfold Machine.memWrite Machine.memWriteOpt
  split_ifs
  · exact h
  · exact h.writeWords

theorem placeRead {src p n} : BootKept False False s (placeRead src p n t).1 := by
  unfold Machine.placeRead
  split
  · exact h.memRead
  · exact h

theorem placeWrite {src p off bs} : BootKept False False s (placeWrite src p off bs t) := by
  unfold Machine.placeWrite
  split
  · exact h.memWrite
  · exact h

theorem blur {x bs} : BootKept False False s (blur x bs t).1 := by
  unfold Machine.blur
  split_ifs
  · exact h.draw
  · exact h

/-! Packets and requests of the fabric (17 R440–R470) -/

theorem toLocal {ws} : BootKept False False s (toLocal ws t) := h.uFab

theorem noteUnreach {dest} : BootKept False False s (noteUnreach dest t) := h.sat.evOnce

theorem forwardBy {stuck : State → State} (hstuck : ∀ {u}, BootKept False False s u → BootKept False False s (stuck u)) {ingress dec ws} :
    BootKept False False s (forwardBy stuck ingress dec ws t) := by
  unfold Machine.forwardBy
  split_ifs
  · exact h.sat.ev
  · split
    · exact hstuck h
    · split_ifs
      · exact h.sendPkt
      · exact hstuck h

theorem sendRsp {ws} : BootKept False False s (sendRsp ws t) := by
  unfold Machine.sendRsp
  split_ifs
  · exact h.toLocal
  · exact h.forwardBy fun g => g.noteUnreach

theorem countErr {status} : BootKept False False s (countErr status t) := by
  unfold Machine.countErr
  split_ifs
  · exact h
  · exact h.sat

theorem answer {req status bytes} : BootKept False False s (answer req status bytes t) := h.countErr.sendRsp

theorem forward {ingress dec ws} : BootKept False False s (forward ingress dec ws t) := h.forwardBy fun g => by
  simp only []
  split_ifs
  · exact g.noteUnreach.answer
  · exact g.noteUnreach

theorem inject {ws} : BootKept False False s (inject ws t) := by
  unfold Machine.inject
  split_ifs
  · exact h.toLocal
  · exact h.forward

theorem injectWant {n w e} : BootKept False False s (injectWant n w e t) := h.uFab.fw.inject

end

theorem pumpReqs (xs kept : List (Nat × FabWant)) {s t : State} (h : BootKept False False s t) : BootKept False False s (pumpReqs xs kept t) := by
  induction xs generalizing kept t with
  | nil => exact h.uFab
  | cons x xs ih =>
    unfold Machine.pumpReqs
    split_ifs
    · exact ih _ h
    · split
      · exact ih _ h
      · exact ih _ h.injectWant

section
variable {s t : State} (h : BootKept False False s t)
include h

theorem issueReq {w} : BootKept False False s (issueReq w t) := pumpReqs _ _ h.uFab

theorem issueReqs {ws} : BootKept False False s (issueReqs ws t) := h.foldl fun u _ _ => (refl u).issueReq

/-! A ticket takes its source (20 R520–R533), a stack wakes (21 R544) -/

theorem flagPhase {r idx} : BootKept False False s (flagPhase r idx t) := by
  unfold Machine.flagPhase
  split
  · exact h
  · split_ifs
    · exact h.uRun
    · exact h.uRun.issueReq

theorem writePhase {r idx data} : BootKept False False s (writePhase r idx data t) := by
  unfold Machine.writePhase
  split
  · exact h
  · extract_lets dst z t1 data1 ws back ws1
    have h1 : BootKept False False s t1 := h.blur
    split_ifs
    · exact h1.flagPhase
    · exact h1.uRun.issueReqs

theorem arsegSum {r idx a} : BootKept False False s (arsegSum r idx a t) := by
  unfold Machine.arsegSum
  split
  · exact h
  · extract_lets y d t1 z t2
    have h1 : BootKept False False s t1 := h.memRead.uRun
    have hz : BootKept False False s z.1 := h1.blur
    exact hz.placeWrite.writePhase

theorem withSource {r idx data} : BootKept False False s (withSource r idx data t) := by
  unfold Machine.withSource
  split
  · exact h
  · extract_lets t1
    have h1 : BootKept False False s t1 := h.uRun
    split_ifs
    · exact h1.uRun
    · exact h1.arsegSum
    · exact h1.writePhase

theorem sourcePhase {r idx} : BootKept False False s (sourcePhase r idx t) := by
  unfold Machine.sourcePhase
  split
  · exact h
  · simp only []
    split_ifs
    · exact h.withSource
    · exact h.uRun.issueReqs
    · exact h.placeRead.withSource
    · exact h.uRun

theorem memBack {k} : BootKept False False s (memBack k t) := h.foldl fun a y _ => by
  simp only []
  split_ifs
  · exact (refl a).uRun.sourcePhase
  · exact (refl a).uRun

theorem sbStart : BootKept False False s (sbStart t) := h.drive.emit.emit

/-- The domains that may come ON in a boot are neither a Scribe's nor the function's (05 R140). -/
theorem domBack {d} (hd : ¬(0xA0 ≤ d ∧ d ≤ 0xA2)) : BootKept False False s (domBack d t) := by
  unfold Machine.domBack
  extract_lets k x lost
  exact ite (fun _ => h.zeroVellum.wakeOver.wakeOver.pairSync) fun _ => ite (fun _ => h.portWake) fun _ =>
    ite (fun _ => h.memSelf.setScrub.memBack) fun _ => ite (fun _ => h.styGate fun hf => hf.elim) fun _ => ite (fun _ => by omega) fun _ =>
    ite (fun _ => by omega) fun _ => ite (fun _ => h.uProof) fun _ => ite (fun _ => h.sbStart.searchAll) fun _ => h

/-! The power policy and the training of HBM (06 R168; 21 R544) -/

theorem setAuto {d on} : BootKept False False s (setAuto d on t) := h.uPwr

theorem domainSet {b i d} (hd : d < 168) : BootKept False False s (domainSet b i t d) := by
  unfold Machine.domainSet
  extract_lets was t1 off
  have h1 : BootKept False False s t1 := h.uPwr
  by_cases hout : 0xA0 ≤ d ∧ d ≤ 0xA2
  · rw [if_pos hout]
    exact h
  rw [if_neg hout]
  have hoff : BootKept False False s (off t1) := by
    unfold off
    split_ifs
    · exact h1
    · exact (h1.setDom hd).domDown hout
  split
  · split_ifs
    · exact h1
    · exact (h1.setDom hd).domBack hout
  · exact hoff.setAuto
  · exact hoff

theorem trainHbm {tries} : BootKept False False s (trainHbm tries t).1 :=
  List.foldlRecOn (motive := fun a : State × Bool => BootKept False False s a.1) _ _ h fun a ha i _ => by
    simp only []
    split_ifs
    · exact ha
    · exact ha.ev
    · exact ha.fw.fw

end

end BootKept

end Sys2Proof.Machine
end

section
/-! What a package's own SELF comes to (14 R371–R394; 16 R433–R437): no register of the boot and no memory. -/

namespace Sys2Proof.Machine

/-! The chain of PREPAREs by its steps (14 R371) -/

theorem issueGo_zero (target cause : Nat) (skip cold host) (s : State) : issueGo 0 target cause skip cold host s = s := rfl

/-- The issue of a PREPARE, whose own answer may lead to another, `re`. -/
def issueStep (re : Reissue) : Reissue := fun target cause skip cold host s =>
  if !isEtcher s ∨ s.bit R.CL_STATUS 26 ∨ s.repl.etch.isSome then s
  else
    match (if skip.isSome then none else (participants s target skip).find? (quarantined s)) with
    | some q => hostDone host 6 (s.ev Ev.AGREE_BLOCKED target [q])
    | none =>
      let parts := participants s target skip
      let xid := (s.repl.lastXid + 1) % 65536
      let m : PlateMsg := ⟨BitVec.ofNat 6 target, BitVec.ofNat 6 s.curPlate, BitVec.ofNat 8 (s.fd R.PLATE_ETCH_TIMING 15 8),
        BitVec.ofNat 8 (s.fd R.PLATE_ETCH_TIMING 23 16), BitVec.ofNat 16 xid, BitVec.ofNat 64 (applyAt s cause cold)⟩
      let digest := BitVec.ofNat 64 (s.rd64 R.BOOT_PLATESET_LO)
      let s := s.uRepl fun r => { r with
        lastXid := xid, etch := some ⟨m, cause, parts, none, false, cold, host, 6, (0, 0), skip⟩ }
      let s := s.wr R.PLATE_ETCH_STATUS (65536 * (parts.length % 16384) + xid)
      let w := decWords 0x30 m
      let w := w32 ((w.getD 0 0).toNat + 2 ^ 20 * cause) :: w.drop 1
      let s := clusterOrder (w ++ w64 digest.toNat) s
      match memberPrepare m digest s with
      | (s, some r) => etchAnswer re s.chip xid r s
      | (s, none) => if parts.isEmpty then decide_ re true s else s

theorem issueGo_succ (n : Nat) : issueGo (n+1) = issueStep (issueGo n) := by
  funext target cause skip cold host s
  delta issueGo issueGo._f
  rfl

namespace BootKept

-- A default argument (`ho`, `hp`, `hn`) waits for all declarations before it, and a proof that waits holds a thread: one proof at a time.
set_option Elab.async false

/-! Orders of the cluster and their journal (15 R399, R407, R689) -/

section
variable {s t : State} (h : BootKept False True s t)
include h

theorem journalAdd {cluster frame} : BootKept False True s (journalAdd cluster frame t) := by
  unfold Machine.journalAdd
  extract_lets a full j t1 t2
  have h1 : BootKept False True s t1 := by
    unfold t1
    split_ifs
    · exact h.uClu
    · exact h.uPkg
  have h2 : BootKept False True s t2 := by
    unfold t2
    split_ifs
    · exact h1.fw
    · exact h1.fw
  split_ifs
  · exact h2
  · exact h2.fw.ev
  · exact h2.fw.ev

theorem busJournal {frame} : BootKept False True s (busJournal frame t) := by
  unfold Machine.busJournal
  split_ifs
  · exact h.journalAdd
  · exact h

theorem throughBus {frame} : BootKept False True s (throughBus frame t) := h.wr.busJournal

theorem clusterOrderR {resync payload} : BootKept False True s (clusterOrderR resync payload t).1 := h.uClu.wr.throughBus.clTransport

theorem clusterOrder {payload} : BootKept False True s (clusterOrder payload t) := h.clusterOrderR

theorem agreeOrder {op chip nonce reason} : BootKept False True s (agreeOrder op chip nonce reason t) := h.clusterOrder

/-! The member's part in a replate (14 R372–R375) -/

theorem rotEnd {p ch} : BootKept False True s (rotEnd p ch t) := h.uLk.fw.fw.sat.ev.recount

theorem rotUndo {p r} : BootKept False True s (rotUndo p r t) := by
  unfold Machine.rotUndo
  extract_lets t1 t2
  have h2 : BootKept False True s t2 := h.uLk.fw.fw
  split_ifs
  · exact h2.setSlot.toSpare.lctl
  · exact h2.setSlot.toSpare.lctl

theorem rotBack {p} : BootKept False True s (rotBack p t) := by
  unfold Machine.rotBack
  split
  · exact h
  · split_ifs
    · exact h.toSpare.rotEnd
    · exact h.rotUndo.uLk.sat.ev.recount

theorem rpAnswer {m reason} : BootKept False True s (rpAnswer m reason t) := by
  unfold Machine.rpAnswer
  split
  · exact h
  · exact h.wr.wr64

theorem memberPrepare {m digest} : BootKept False True s (memberPrepare m digest t).1 := by
  unfold Machine.memberPrepare
  split
  · exact h
  extract_lets cold reason t1 t2 t3 opened t4
  have h2 : BootKept False True s t2 := h.uLas.foldl fun u _ _ => (refl u).updLine
  split
  · exact h2
  have h3 : BootKept False True s t3 := h2.rpAnswer
  have h4 : BootKept False True s t4 := by
    unfold t4
    split
    · exact h3
    · refine h3.uRepl.foldl fun u _ _ => ?_
      split_ifs
      · exact (refl u).rotBack
      · exact refl u
  exact h4.memberOrder

theorem setRpPhase {k} : BootKept False True s (setRpPhase k t) := h.fw

theorem memberCommit {m} : BootKept False True s (memberCommit m t) := by
  unfold Machine.memberCommit
  split
  · exact h
  · split_ifs
    · exact h
    extract_lets t1
    split_ifs
    · exact h.uRepl.setRpPhase
    · exact h.uRepl.uRepl.setRpPhase

theorem memberAbandon {m} : BootKept False True s (memberAbandon m t) := by
  unfold Machine.memberAbandon
  split
  · exact h
  · split_ifs
    · exact h
    · exact h.uRepl.setRpPhase.sat.ev

/-! The Etcher's side of a replate (14 R371–R374, R390–R395) -/

theorem reqDone {tag slot result} : BootKept False True s (reqDone tag slot result t) := h.fw.fw.ev

theorem hostDone {host result} : BootKept False True s (hostDone host result t) := by
  unfold Machine.hostDone
  split
  · exact h
  next chip tag slot =>
    extract_lets t1
    have h1 : BootKept False True s t1 := h.clusterOrder
    split_ifs
    · exact h1.reqDone
    · exact h1

end

/-- A further PREPARE keeps what a boot needs. -/
def Reissues (re : Reissue) : Prop :=
  ∀ target cause skip cold host s t, BootKept False True s t → BootKept False True s (re target cause skip cold host t)

section
variable {re : Reissue} (hre : Reissues re) {s t : State} (h : BootKept False True s t)
include hre h

theorem faultEval {pairs gone} : BootKept False True s (faultEval re pairs gone t) := by
  unfold Machine.faultEval
  split
  · exact hre _ _ _ _ _ _ _ h.ev
  · exact h.ev

theorem faultDue : BootKept False True s (faultDue re t) := by
  unfold Machine.faultDue
  split
  · extract_lets t1 gone
    split_ifs
    · exact h.uRepl
    · exact faultEval hre h.uRepl
  · exact h

theorem unsyncPolicy {x chip} : BootKept False True s (unsyncPolicy re x chip t) := by
  unfold Machine.unsyncPolicy
  split
  · exact hre _ _ _ _ _ _ _ h.hostDone
  · exact h.uRepl

theorem closeEtch : BootKept False True s (closeEtch re t) := by
  unfold Machine.closeEtch
  split
  · exact h
  next x _ =>
    extract_lets t1 t2
    have h1 : BootKept False True s t1 := h.uRepl.fw
    have h2 : BootKept False True s t2 := by
      unfold t2
      split_ifs
      · exact hre _ _ _ _ _ _ _ h1
      · exact unsyncPolicy hre h1
      · exact h1.hostDone
    exact faultDue hre h2

theorem sendDecision {commit} : BootKept False True s (sendDecision re commit t) := by
  unfold Machine.sendDecision
  split
  · exact h
  next x _ =>
    have hsent := h.clusterOrderR (resync := false) (payload := decWords (if commit then 0x33 else 0x34) x.msg)
    split
    next t1 f he =>
      have h1 : BootKept False True s t1 := by rwa [he] at hsent
      extract_lets t2
      split_ifs
      · exact h1.uRepl.uRepl.memberCommit
      · exact closeEtch hre h1.uRepl.memberAbandon

theorem decide_ {commit} : BootKept False True s (decide_ re commit t) := by
  unfold Machine.decide_
  split
  · exact h
  · split
    · exact h
    extract_lets t1
    split
    · exact sendDecision hre h.uRepl
    · exact h.uRepl.emit

theorem etchAnswer {chip xid reason} : BootKept False True s (etchAnswer re chip xid reason t) := by
  unfold Machine.etchAnswer
  split
  · exact h
  · split
    · exact h
    extract_lets x1 x2 t1 t2
    have h1 : BootKept False True s t1 := h.uRepl.fw
    have h2 : BootKept False True s t2 := by
      unfold t2
      split_ifs
      · exact h1.ev
      · exact h1
    split_ifs
    · exact decide_ hre h1
    · exact h1
    · exact decide_ hre h2

end

theorem issueStep {re : Reissue} (hre : Reissues re) : Reissues (issueStep re) := by
  intro target cause skip cold host s t h
  unfold Machine.issueStep
  split
  · exact h
  split
  · exact h.ev.hostDone
  · extract_lets parts xid m digest t1 t2 w w1 t3
    have h3 : BootKept False True s t3 := h.uRepl.wr.clusterOrder
    have hprep := h3.memberPrepare (m := m) (digest := digest)
    generalize Machine.memberPrepare m digest t3 = prepared at hprep ⊢
    obtain ⟨t4, answer⟩ := prepared
    cases answer with
    | some reason => exact etchAnswer hre hprep
    | none =>
      dsimp only
      split_ifs
      · exact decide_ hre hprep
      · exact hprep

theorem issueGo (n : Nat) : Reissues (issueGo n) := by
  induction n with
  | zero =>
    intro target cause skip cold host s t h
    rwa [issueGo_zero]
  | succ n ih =>
    rw [issueGo_succ]
    exact issueStep ih

theorem reissue : Reissues reissue := issueGo 130

/-! The Etcher's list and its orders (16 R430–R436) -/

section
variable {s t : State} (h : BootKept False True s t)
include h

theorem faultNow {pairs gone} : BootKept False True s (faultNow pairs gone t) := by
  unfold Machine.faultNow
  split
  · exact faultEval reissue h
  · extract_lets t1
    have h1 : BootKept False True s t1 := h.uRepl
    split_ifs
    · exact decide_ reissue h1.uRepl
    · exact h1

theorem memberKey {chip} : BootKept False True s (memberKey chip t) := by
  unfold Machine.memberKey
  split_ifs
  · exact h.faultNow
  · exact h

theorem etchList : BootKept False True s (etchList t) := by
  unfold Machine.etchList
  extract_lets q full t1 t2
  have h2 : BootKept False True s t2 := h.wr.foldl fun u i _ => by
    split
    · exact (refl u).wr.wr
    · exact (refl u).wr.wr
  split_ifs
  · exact h2.ev
  · exact h2

theorem credRepeat {p} : BootKept False True s (credRepeat p t) := by
  unfold Machine.credRepeat
  split_ifs
  · exact h
  · exact h.uLk.lctl

theorem dupHeard {chip nonce} : BootKept False True s (dupHeard chip nonce t) := by
  unfold Machine.dupHeard
  split
  · exact h
  · exact h.uAgree

theorem countVerdict {quar} : BootKept False True s (countVerdict quar t) := by
  unfold Machine.countVerdict
  split_ifs
  · exact h.sat
  · exact h.sat

theorem standbyQuar {chip nonce reason} : BootKept False True s (standbyQuar chip nonce reason t) := by
  unfold Machine.standbyQuar
  split
  · exact h.uAgree
  · exact h

theorem memberClear {chip} : BootKept False True s (memberClear chip t) := by
  unfold Machine.memberClear
  extract_lets t1 t2 me t3
  have h1 : BootKept False True s t1 := h.uAgree
  have h2 : BootKept False True s t2 := by
    unfold t2
    split_ifs
    · exact h1.uAgree
    · exact h1
  have h3 : BootKept False True s t3 := by
    unfold t3
    split_ifs
    · exact h2.fw.fw
    · exact h2
  exact h3.foldl fun u _ _ => by
    split_ifs
    · exact (refl u).credRepeat
    · exact refl u

theorem oddCheck : BootKept False True s (oddCheck t) := by
  unfold Machine.oddCheck
  split
  · split_ifs
    · exact h
    · exact h.fw.ev
  · exact h.fw

theorem clearMember {chip nonce reason} : BootKept False True s (clearMember chip nonce reason t) := h.uAgree.etchList.agreeOrder.memberClear

theorem standbyNoted {w} : BootKept False True s (standbyNoted w t) := by
  unfold Machine.standbyNoted
  extract_lets chip port quar reason bad mask m was t1
  have h1 : BootKept False True s t1 := h.uAgree
  split_ifs
  · exact h
  · exact h.uAgree
  · exact h1.standbyPairs
  · exact h1.standbyPairs
  · exact h1

end

/-- A note to the Etcher keeps what a boot needs. -/
def Notes (note : List Word → State → State) : Prop := ∀ w s t, BootKept False True s t → BootKept False True s (note w t)

section
variable {note : List Word → State → State} (hnote : Notes note) {s t : State} (h : BootKept False True s t)
include hnote h

theorem portQuar {p reason} : BootKept False True s (portQuar note p reason t) := hnote _ _ _ h.portSet.ev.countVerdict

theorem memberQuar {chip nonce reason} : BootKept False True s (memberQuar note chip nonce reason t) := by
  unfold Machine.memberQuar
  extract_lets t1 t2 me t3 why
  have h2 : BootKept False True s t2 := h.standbyQuar.uAgree
  have h3 : BootKept False True s t3 := by
    unfold t3
    split_ifs
    · exact h2.fw.fw
    · exact h2
  exact h3.foldl fun u _ _ => by
    split_ifs
    · exact portQuar hnote (refl u).fw.fw.fw
    · exact refl u

theorem declareQuar {event chip nonce reason} : BootKept False True s (declareQuar note event chip nonce reason t) :=
  (memberQuar hnote h.uAgree.ev.etchList.agreeOrder).memberKey

theorem dupDeclare {chip} : BootKept False True s (dupDeclare note chip t) := by
  unfold Machine.dupDeclare
  split_ifs
  · exact h
  · exact declareQuar hnote h.uAgree

theorem selfNoted {w} : BootKept False True s (selfNoted note w t) := by
  unfold Machine.selfNoted
  extract_lets chip nonce before dup mask t1 t2
  have h2 : BootKept False True s t2 := h.uAgree.dupHeard.oddCheck
  split_ifs
  · exact dupDeclare hnote h2
  split
  · split_ifs
    · exact h2
    · exact declareQuar hnote h2
  · exact declareQuar hnote h2
  · split_ifs
    · exact h2.clearMember.ev
    · exact h2
  · exact h2

theorem portNoted {w} : BootKept False True s (portNoted note w t) := by
  unfold Machine.portNoted
  extract_lets chip peer peerNonce port quar reason bad dup m was t1 t2 t3
  have h2 : BootKept False True s t2 := h.uAgree.dupHeard.dupHeard.etchList
  have h3 : BootKept False True s t3 := by
    unfold t3
    split_ifs
    · exact h2.addPairs
    · exact h2.clearPairs
    · exact h2
  split_ifs
  · exact dupDeclare hnote h3
  · exact h3

end

theorem agreeNoteGo (n : Nat) : Notes (agreeNoteGo n) := by
  induction n with
  | zero =>
    intro w s t h
    rwa [Machine.agreeNoteGo]
  | succ n ih =>
    intro w s t h
    unfold Machine.agreeNoteGo
    split_ifs
    · exact h.standbyNoted
    · exact portNoted (fun _ _ _ g => ih _ _ _ g.memberOrder) h
    · exact selfNoted (fun _ _ _ g => ih _ _ _ g.memberOrder) h

theorem selfNote {s t : State} (h : BootKept False True s t) : BootKept False True s (selfNote t) := agreeNoteGo 4 _ _ _ h.memberOrder

end BootKept

end Sys2Proof.Machine
end

section
/-! CONFIG, the boot lock and READY (06 R167, R177–R179, R185, R193). -/

namespace Sys2Proof.Machine

/-! The end of CONFIG (R178, R179) -/

/-- Plate 63 in force. -/
def platePut (s : State) : State := routeStatus ((s.wr R.PLATE_STATUS 0x33F3F).wr64 R.PLATE_APPLY_CT_LO s.now)

/-- The lock, and the slot that runs. -/
def lockPut (k : Nat) (s : State) : State := (((s.wr R.BOOT_LOCK 1).fw R.BOOT_STATUS 2 0 5).fw R.BOOT_STATUS 20 20 k).fw R.GLB_STATE 4 4 k

/-- An image of the other slot than the first is noted. -/
def backupNoted (s : State) : State := if s.boot.attempt = 1 then s.ev Ev.BOOT_BACKUP 0 [] else s

/-- PHOTONICS begins. -/
def photonicsBegun (s : State) : State := (s.fw R.GLB_STATE 3 0 3).uBoot fun b => { b with photo := 0 }

theorem configEnd_eq (k : Nat) (s : State) :
    configEnd k s = searchAll (photonicsStart (scribeStart (backupNoted (lockPut k (platePut (replayLog s)))))) := rfl

theorem curPlate_platePut (s : State) : (platePut s).curPlate = 63 := by
  rw [State.curPlate, platePut, routeStatus]
  rw [fd_fw_ne (by decide), fd_fw_ne (by decide), fd_fw_ne (by decide), fd_of_rd_eq (rd_wr64_ne (by decide) (by decide)), State.fd, rd_wr,
    if_pos rfl]
  rfl

theorem lockPut_shows {k : Nat} (hk : k ≤ 1) (s : State) :
    (lockPut k s).locked = true ∧ (lockPut k s).fd R.BOOT_STATUS 2 0 = 5 ∧ (lockPut k s).fd R.BOOT_STATUS 20 20 = k
      ∧ (lockPut k s).curPlate = s.curPlate := by
  unfold lockPut
  refine ⟨?_, ?_, ?_, ?_⟩
  · rw [State.locked, bit_fw_ne (by decide), bit_fw_ne (by decide), bit_fw_ne (by decide), State.bit, rd_wr, if_pos rfl]
    rfl
  · rw [fd_fw_ne (by decide), fd_fw_of_disjoint _ _ _ (by decide) (by decide) (by decide) (by decide), fd_fw_same _ _ _ (by decide)]
    rfl
  · rw [fd_fw_ne (by decide), fd_fw_same _ _ _ (by decide)]
    exact Nat.mod_eq_of_lt (by omega)
  · rw [State.curPlate, fd_fw_ne (by decide), fd_fw_ne (by decide), fd_fw_ne (by decide), fd_of_rd_eq (rd_wr_ne (by decide)), State.curPlate]

theorem backupNoted_regsKept (s : State) : RegsKept [R.EVT_DROP_CNT] s (backupNoted s) := by
  unfold backupNoted
  split_ifs
  · exact ev_regsKept _ _ _ _
  · exact fun _ _ => rfl

/-- The registers that the Scribes' start writes (15 R404, R420). -/
def scribeRegs : List Nat := [R.GLB_STATE, R.SCRIBE_STATUS, R.SCRIBE_EPOCH, R.SCRIBE_LEASE_EXP_LO, R.SCRIBE_LEASE_EXP_LO + 4, R.SCRIBE_CKPT,
  R.SCRIBE_JOURNAL, R.CL_JOURNAL]

theorem scribeStart_regsKept (s : State) : RegsKept scribeRegs s (scribeStart s) := by
  have hrun : RegsKept scribeRegs s (scribesRun s) := .of_regs_eq _ rfl
  have hset : ∀ {u st t}, RegsKept scribeRegs s t → RegsKept scribeRegs s (setScribe u st t) := fun h => h.fw (by decide) _ _ _
  have hckpt : ∀ {t}, RegsKept scribeRegs s t → RegsKept scribeRegs s (ckptRegs t) := fun h =>
    ((((h.fw (by decide) _ _ _).fw (by decide) _ _ _).wr (by decide) _).fw (by decide) _ _ _).fw (by decide) _ _ _
  have htake : ∀ {u st t}, RegsKept scribeRegs s t → RegsKept scribeRegs s (pkgTake u st t) := fun {u st t} h => by
    unfold pkgTake
    extract_lets was t1 t2 t3
    have h1 : RegsKept scribeRegs s t1 := h.keep rfl
    exact hckpt (((((hset (hset h1)).fw (by decide) _ _ _).fw (by decide) _ _ _).wr (by decide) _).wr64 (by decide) (by decide) _)
  unfold scribeStart
  extract_lets t
  split_ifs
  · exact hset (htake hrun)
  · exact hrun

theorem photonicsStart_kept (s : State) : BootKept True False (photonicsBegun s) (photonicsStart s) := by
  have hbanks := (BootKept.refl (plate := True) (mem := False) (photonicsBegun s)).foldl (f := fun s b => safeOn 1 b s) (l := List.range 8)
    fun u _ _ => (BootKept.refl u).safeOn
  refine (hbanks.foldl fun u k _ => ?_).lasersOn
  split_ifs
  · exact (BootKept.refl u).tecBringup
  · exact .refl u

theorem top_photonicsBegun (s : State) : (photonicsBegun s).top = 3 := by
  rw [State.top, photonicsBegun, fd_of_rd_eq (rd_of_regs_eq (uBoot_regs ..) _), fd_fw_same _ _ _ (by decide)]
  rfl

theorem rd_photonicsBegun_ne {o : Nat} (h : o ≠ R.GLB_STATE) (s : State) : (photonicsBegun s).rd o = s.rd o := by
  rw [photonicsBegun, rd_of_regs_eq (uBoot_regs ..), rd_fw_ne _ _ _ _ h]

/-- What CONFIG has put in the registers of the boot shows in PHOTONICS. -/
theorem rd_configEnd {o : Nat} (ho : o = R.BOOT_LOCK ∨ o = R.BOOT_STATUS ∨ o = R.PLATE_STATUS) (k : Nat) (s : State) :
    (configEnd k s).rd o = (lockPut k (platePut (replayLog s))).rd o := by
  have hboot : BootReg True o := by grind
  have hne : o ≠ R.GLB_STATE ∧ o ∉ scribeRegs ∧ o ∉ [R.EVT_DROP_CNT] := by
    rcases ho with rfl | rfl | rfl <;> decide
  obtain ⟨hstate, hscribe, hdrop⟩ := hne
  rw [configEnd_eq, (photonicsStart_kept _).searchAll.rd o hboot, rd_photonicsBegun_ne hstate, scribeStart_regsKept _ o hscribe,
    backupNoted_regsKept _ o hdrop]

theorem configEnd_shows {k : Nat} (hk : k ≤ 1) (s : State) :
    (configEnd k s).top = 3 ∧ (configEnd k s).locked = true ∧ (configEnd k s).curPlate = 63 ∧ (configEnd k s).fd R.BOOT_STATUS 2 0 = 5
      ∧ (configEnd k s).fd R.BOOT_STATUS 20 20 = k := by
  obtain ⟨hlock, hstatus, hslot, hplate⟩ := lockPut_shows hk (platePut (replayLog s))
  have hrd := fun o ho => rd_configEnd (o := o) ho k s
  refine ⟨?_, (bit_of_rd_eq (hrd _ (.inl rfl)) _).trans hlock, ?_, (fd_of_rd_eq (hrd _ (.inr (.inl rfl))) _ _).trans hstatus,
    (fd_of_rd_eq (hrd _ (.inr (.inl rfl))) _ _).trans hslot⟩
  · rw [configEnd_eq, (photonicsStart_kept _).searchAll.top, top_photonicsBegun]
  · exact (fd_of_rd_eq (hrd _ (.inr (.inr rfl))) _ _).trans (hplate.trans (curPlate_platePut _))

/-! CONFIG (R167, R171, R177) -/

/-- The state whose stacks have trained as they could. -/
def trainedBy (h : List Nat) (b i : Nat) (s : State) : State × Bool := trainHbm h (wakingCount ((List.range 168).foldl (domainSet b i) s))

theorem trainedBy_kept (h : List Nat) (b i : Nat) (s : State) : BootKept False False s (trainedBy h b i s).1 :=
  ((BootKept.refl s).foldl fun u _ hd => (BootKept.refl u).domainSet (List.mem_range.mp hd)).wakingCount.trainHbm

/-- What the load of the sections comes to. -/
def loadOutcome (h : List Nat) (k : Nat) (r : Loaded × State) : State :=
  match r.1.ok, r.1.doms with
  | true, some (b, i) => if (trainedBy h b i r.2).2 then configEnd k (vellumZero (trainedBy h b i r.2).1) else bootFail 0xC (trainedBy h b i r.2).1
  | _, _ => bootFail 0xA r.2

theorem exec_configLoad {s : State} (h : List Nat) {c : Nat} (htop : s.top = 2) (hchip : chipNumber s (attemptSlot s) = some c) :
    exec (.configLoad h) s =
      .next (loadOutcome h (attemptSlot s) (loadAll (attemptSlot s) ((s.fw R.GLB_CHIP 13 0 c).fw R.GLB_CHIP 31 31 1))) := by
  show execConfigLoad h s = _
  rw [execConfigLoad, if_neg (by rw [htop]; decide)]
  simp only [hchip]
  generalize loadAll (attemptSlot s) ((s.fw R.GLB_CHIP 13 0 c).fw R.GLB_CHIP 31 31 1) = r
  obtain ⟨⟨ok, doms, seen⟩, u⟩ := r
  rcases ok with _ | _
  · rfl
  rcases doms with _ | ⟨b, i⟩
  · rfl
  · show (if (trainedBy h b i u).2 = true then _ else _) = Host.Outcome.next (if (trainedBy h b i u).2 = true then _ else _)
    split_ifs <;> rfl

theorem exec_configLoad_unset {s : State} (h : List Nat) (htop : s.top = 2) (hchip : chipNumber s (attemptSlot s) = none) :
    exec (.configLoad h) s = .next (bootFail 0xB s) := by
  show execConfigLoad h s = _
  rw [execConfigLoad, if_neg (by rw [htop]; decide)]
  simp only [hchip]
  rfl

/-- A stack that does not train fails the attempt that the load left. -/
theorem trainFail_shows (h : List Nat) (b i : Nat) (s : State) :
    (bootFail 0xC (trainedBy h b i s).1).top = (if s.boot.attempt = 0 then 1 else 6)
      ∧ (bootFail 0xC (trainedBy h b i s).1).fd R.BOOT_STATUS (15 - 4 * attemptSlot s) (12 - 4 * attemptSlot s) = 0xC := by
  have hkept := trainedBy_kept h b i s
  have hshows := bootFail_shows (r := 0xC) (by decide) (trainedBy h b i s).1
  rwa [hkept.attempt, hkept.attemptSlot] at hshows

theorem configUnset_runs {s : State} (h : List Nat) (htop : s.top = 2) (hchip : chipNumber s (attemptSlot s) = none) (hfirst : s.boot.attempt = 0) :
    Runs (.configLoad h) s fun t => t.top = 1 ∧ t.boot.attempt = 1 ∧ t.locked = s.locked
      ∧ t.fd R.BOOT_STATUS (15 - 4 * attemptSlot s) (12 - 4 * attemptSlot s) = 0xB ∧ SameMem s t := by
  obtain ⟨hstate, hreason⟩ := bootFail_shows (r := 0xB) (by decide) s
  obtain ⟨hnext, -, hlocked, -, hmem, -⟩ := bootFail_first_state (r := 0xB) hfirst (by decide)
  rw [if_pos hfirst] at hstate
  exact ⟨_, exec_configLoad_unset h htop hchip, hstate, hnext, hlocked, hreason, hmem⟩

/-! BOOT_LOCK (R178) -/

theorem exec_bootLockWrite {s : State} {p : Path} (h : Reaches p s) (v : Word) : exec (.bootLockWrite p v) s = .next (bootLock p v.toNat s) :=
  through_reaches h _ _

theorem bootLock_early {s : State} (h : s.top ≤ 2) (p : Path) (v : Nat) : bootLock p v s = s.deny Ev.LOCKED_WRITE R.BOOT_LOCK v p := if_pos h

/-- After CONFIG a write of BOOT_LOCK writes that register or nothing. -/
theorem bootLock_late {s : State} (h : 3 ≤ s.top) (p : Path) (v : Nat) :
    (bootLock p v s).locked = (if bitOf v 0 then true else if p = .jtag ∧ s.pins.cfgOpen = true then false else s.locked)
      ∧ RegsKept [R.BOOT_LOCK] s (bootLock p v s) ∧ SameMem s (bootLock p v s) := by
  have hput : ∀ w, RegsKept [R.BOOT_LOCK] s (s.wr R.BOOT_LOCK w) ∧ SameMem s (s.wr R.BOOT_LOCK w) := fun w =>
    ⟨(RegsKept.of_regs_eq _ rfl).wr List.mem_cons_self _, wr_sameMem ..⟩
  have hlocked : ∀ w, (s.wr R.BOOT_LOCK w).locked = bitOf (w % 2 ^ 32) 0 := fun w => by rw [State.locked, State.bit, rd_wr, if_pos rfl]
  rw [bootLock, if_neg (by omega)]
  split_ifs
  · exact ⟨hlocked 1, hput 1⟩
  · exact ⟨hlocked 0, hput 0⟩
  · exact ⟨rfl, fun _ _ => rfl, .of_eq rfl rfl rfl⟩

/-! READY (R193) -/

/-- READY, before the package announces itself. -/
def readyShown (s : State) : State :=
  (((s.emit (.ready true)).fw R.GLB_STATE 3 0 5).wr64 R.BOOT_READY_CT_LO s.now).uCl fun c => { c with readyTick := s.ticks }

theorem readyGo_eq (s : State) : readyGo s = selfNote (readyShown s) := rfl

theorem exec_ready {s : State} {c : Instr} (htop : s.top = 4) (hc : (c = .readyEntry ∧ readyNow s = true) ∨ c = .bootLinkWaitExpiry) :
    exec c s = .next (readyGo s) := by
  rcases hc with ⟨rfl, hready⟩ | rfl
  · exact congrArg Host.Outcome.next (if_pos ⟨htop, hready⟩)
  · exact congrArg Host.Outcome.next (if_pos htop)

theorem ready_runs {s : State} {c : Instr} (htop : s.top = 4) (hc : (c = .readyEntry ∧ readyNow s = true) ∨ c = .bootLinkWaitExpiry) :
    Runs c s fun t => t.top = 5 ∧ t.rd64 R.BOOT_READY_CT_LO = s.now ∧ SameMem s t := by
  have hkept := (BootKept.refl (plate := False) (mem := True) (readyShown s)).selfNote
  have hregs : (readyShown s).regs = (((s.emit (.ready true)).fw R.GLB_STATE 3 0 5).wr64 R.BOOT_READY_CT_LO s.now).regs := uCl_regs ..
  refine ⟨_, exec_ready htop hc, ?_, ?_, ?_⟩
  · rw [readyGo_eq, hkept.top, State.top, fd_of_rd_eq (rd_of_regs_eq hregs _), fd_of_rd_eq (rd_wr64_ne (by decide) (by decide)),
      fd_fw_same _ _ _ (by decide)]
    rfl
  · rw [readyGo_eq, rd64_of_rd_eq (hkept.rd_boot (by decide) (by decide)) (hkept.rd_boot (by decide) (by decide)),
      rd64_of_rd_eq (rd_of_regs_eq hregs _) (rd_of_regs_eq hregs _), rd64_wr64 _ _ (show s.now < 2 ^ 64 from s.ct.isLt)]
  · have honly := ((RegsOnly.refl (s.emit (.ready true))).fw R.GLB_STATE 3 0 5).wr64 R.BOOT_READY_CT_LO s.now
    have hshown : SameMem s (readyShown s) :=
      .of_eq ((uCl_hbm ..).trans honly.hbm) ((uCl_vel ..).trans honly.vel) ((uCl_flash ..).trans honly.flash)
    rw [readyGo_eq]
    exact hshown.trans (hkept.mem trivial)

/-! The other slot is checked once READY stands (R185) -/

theorem background_runs {s : State} (f : Bool) (htop : s.top = 5) (hrun : scribeRuns s = true) (hbit : s.bit R.BOOT_STATUS 19 = false) :
    Runs (.backgroundAuthentication f) s fun t => t.bit R.BOOT_STATUS 19 = true
      ∧ imgValid t (1 - s.fd R.BOOT_STATUS 20 20) = (imageCheck s (1 - s.fd R.BOOT_STATUS 20 20) f none == 0)
      ∧ RegsKept [R.BOOT_STATUS] s t ∧ SameMem s t := by
  have hk : 1 - s.fd R.BOOT_STATUS 20 20 ≤ 1 := Nat.sub_le _ _
  have hexec : exec (.backgroundAuthentication f) s = .next ((noteCheck (1 - s.fd R.BOOT_STATUS 20 20)
      (imageCheck s (1 - s.fd R.BOOT_STATUS 20 20) f none) s).fw R.BOOT_STATUS 19 19 1) := if_neg (by simp [htop, hrun, hbit])
  generalize 1 - s.fd R.BOOT_STATUS 20 20 = k at hk hexec ⊢
  generalize imageCheck s k f none = r at hexec ⊢
  refine ⟨_, hexec, ?_, ?_, (noteCheck_regsKept k r s).fw List.mem_cons_self _ _ _, ((noteCheck_only k r s).fw _ _ _ _).sameMem⟩
  · rw [bit_fw le_rfl le_rfl (by decide)]
    rfl
  · rw [imgValid, bit_fw_of_disjoint _ _ _ le_rfl (by omega) (by omega), ← imgValid, imgValid_noteCheck hk]

/-- Settles O22: the load's outcome case by case, BOOT_LOCK by the state, READY through the package's own note. -/
theorem configLoadTakesTheImageInForce : Obligations.ConfigLoadTakesTheImageInForce := by
  refine ⟨fun s h c htop _ hchip => ?_, fun s h htop _ => configUnset_runs h htop, fun s p v hreach htop room => ?_,
    fun s p v hreach htop => ⟨_, exec_bootLockWrite hreach v, bootLock_late htop p v.toNat⟩, fun s c => ready_runs,
    fun s f => background_runs f⟩
  · have hexec := exec_configLoad h htop hchip
    have hk := attemptSlot_le s
    refine ⟨_, hexec, ?_⟩
    generalize loadAll (attemptSlot s) ((s.fw R.GLB_CHIP 13 0 c).fw R.GLB_CHIP 31 31 1) = r
    generalize attemptSlot s = k at hk
    obtain ⟨⟨ok, doms, seen⟩, u⟩ := r
    have hfail := bootFail_shows (r := 0xA) (by decide) u
    rcases ok with _ | _
    · exact hfail
    rcases doms with _ | ⟨b, i⟩
    · exact hfail
    · show if (trainedBy h b i u).2 = true then _ else _
      have hout : loadOutcome h k ⟨⟨true, some (b, i), seen⟩, u⟩ = if (trainedBy h b i u).2 then configEnd k (vellumZero (trainedBy h b i u).1)
        else bootFail 0xC (trainedBy h b i u).1 := rfl
      rw [hout]
      split
      · exact configEnd_shows hk _
      · exact trainFail_shows h b i u
  · have hexec := exec_bootLockWrite hreach v
    rw [bootLock_early htop] at hexec
    exact ⟨_, hexec, ev_raised room .., ev_regs room .., ev_sameMem ..⟩

end Sys2Proof.Machine
end

section
/-! What the links and lasers leave of the Proof array (08 R237; 11 R300–R310; 12 R315–R342; 14 R390): nothing but the dark captures they
order, which PROOF_STATUS shows. -/

namespace Sys2Proof.Machine

theorem ev_proof (s : State) (code src : Nat) (args : List Nat) : (s.ev code src args).proof = s.proof := by
  unfold State.ev
  split_ifs <;> rfl

theorem ev_lnk (s : State) (code src : Nat) (args : List Nat) : (s.ev code src args).lnk = s.lnk := by
  unfold State.ev
  split_ifs <;> rfl

/-- From s to t the array stands but for its captures and PROOF_STATUS, its registers at least in their lower halves; so do memory, the
events raised and the sums of the last period. Unless `busy`, where lanes may fail and a rotation may name any channel, the captures and
all registers of the array stand too. -/
structure ArrayKept (busy : Prop) (s t : State) : Prop where
  proof : t.proof = { s.proof with caps := t.proof.caps }
  caps : ¬busy → t.proof.caps = s.proof.caps
  period : t.lnk.period = s.lnk.period
  low : ∀ o, 0x80000 ≤ o → o < 0x100000 → o ≠ R.PROOF_STATUS → t.fd o 15 0 = s.fd o 15 0
  rd : ¬busy → ∀ o, 0x80000 ≤ o → o < 0x100000 → t.rd o = s.rd o
  mem : SameMem s t
  raised : ∀ code src, Raised s code src → Raised t code src

namespace ArrayKept

-- A default argument (`ho`, `hp`, `hn`) waits for all declarations before it, and a proof that waits holds a thread: one proof at a time.
set_option Elab.async false

/-! Updates, register writes and events -/

section
variable {busy : Prop} {s t u : State}

theorem refl (s : State) : ArrayKept busy s s :=
  ⟨rfl, fun _ => rfl, rfl, fun _ _ _ _ => rfl, fun _ _ _ _ => rfl, .of_eq rfl rfl rfl, fun _ _ h => h⟩

theorem trans (h : ArrayKept busy s t) (g : ArrayKept busy t u) : ArrayKept busy s u where
  proof := by rw [g.proof, h.proof]
  caps hb := (g.caps hb).trans (h.caps hb)
  period := g.period.trans h.period
  low o hlo hhi hne := (g.low o hlo hhi hne).trans (h.low o hlo hhi hne)
  rd hb o hlo hhi := (g.rd hb o hlo hhi).trans (h.rd hb o hlo hhi)
  mem := h.mem.trans g.mem
  raised code src hr := g.raised code src (h.raised code src hr)

theorem foldl {α : Type} {f : State → α → State} {l : List α} (h : ArrayKept busy s t) (hf : ∀ u, ∀ a ∈ l, ArrayKept busy u (f u a)) :
    ArrayKept busy s (l.foldl f t) :=
  List.foldlRecOn (motive := ArrayKept busy s) l f h fun u hu a ha => hu.trans (hf u a ha)

/-- The array stands, and whatever the change writes lies outside its registers. -/
theorem of_rd (hproof : t.proof = s.proof) (hlnk : t.lnk = s.lnk) (hrd : ∀ o, 0x80000 ≤ o → o < 0x100000 → t.rd o = s.rd o)
    (hmem : SameMem s t) (hev : ∀ code src, Raised s code src → Raised t code src) : ArrayKept busy s t :=
  ⟨by rw [hproof], fun _ => by rw [hproof], by rw [hlnk], fun o hlo hhi _ => fd_of_rd_eq (hrd o hlo hhi) _ _, fun _ => hrd, hmem, hev⟩

variable (h : ArrayKept busy s t)
include h

/-- A register write outside the array's registers. -/
theorem wr {off v : Nat} (ho : off < 0x80000 ∨ 0x100000 ≤ off := by grind) : ArrayKept busy s (t.wr off v) :=
  h.trans (.of_rd rfl rfl (fun _ hlo hhi => rd_wr_ne (by omega)) (.of_eq rfl rfl rfl) fun _ _ hr => hr)

theorem fw {off hi lo v : Nat} (ho : off < 0x80000 ∨ 0x100000 ≤ off := by grind) : ArrayKept busy s (t.fw off hi lo v) := h.wr ho

theorem sat {off hi lo n : Nat} (ho : off < 0x80000 ∨ 0x100000 ≤ off := by grind) : ArrayKept busy s (t.sat off hi lo n) := h.wr ho

theorem count64 {off n : Nat} (ho : off + 4 < 0x80000 ∨ 0x100000 ≤ off := by grind) : ArrayKept busy s (t.count64 off n) :=
  (h.wr (by omega)).wr (by omega)

theorem ev {code src : Nat} {args : List Nat} : ArrayKept busy s (t.ev code src args) :=
  h.trans (.of_rd (ev_proof ..) (ev_lnk ..) (fun o _ _ => ev_regsKept t code src args o (by grind)) (ev_sameMem ..)
    fun _ _ hr => raised_ev hr code src args)

/-- A field of a laser line is written in the upper half of its register, whichever line a rotation names. -/
theorem fwLine {b n hi lo v : Nat} (hlo : 16 ≤ lo := by decide) (hhi : lo ≤ hi := by decide) (hb : ¬busy → b < 8 := by grind)
    (hn : ¬busy → n < 18 := by grind) : ArrayKept busy s (t.fw (R.LAS_LINE b n) hi lo v) := by
  refine h.trans ⟨rfl, fun _ => rfl, rfl, fun o _ _ _ => ?_, fun hbusy o hstart _ => rd_fw_ne _ _ _ _ ?_, .of_eq rfl rfl rfl, fun _ _ hr => hr⟩
  · by_cases ho : o = R.LAS_LINE b n
    · rw [ho, fd_fw_of_disjoint _ _ _ hhi (by decide) (by omega) (by decide)]
    · exact fd_fw_ne ho
  · have := hb hbusy
    have := hn hbusy
    grind

/-- The array, the links and the events stand where another part of the state changes. -/
theorem of_eq (hproof : u.proof = t.proof) (hlnk : u.lnk = t.lnk) (hregs : u.regs = t.regs) (hevt : u.evt = t.evt) (hmem : SameMem t u) :
    ArrayKept busy s u :=
  h.trans (.of_rd hproof hlnk (fun o _ _ => rd_of_regs_eq hregs o) hmem fun _ _ => raised_of_evt_eq hevt)

theorem uSty {g} : ArrayKept busy s (t.uSty g) := h.of_eq rfl rfl rfl rfl (.of_eq rfl rfl rfl)
theorem uLas {g} : ArrayKept busy s (t.uLas g) := h.of_eq rfl rfl rfl rfl (.of_eq rfl rfl rfl)
theorem uClk {g} : ArrayKept busy s (t.uClk g) := h.of_eq rfl rfl rfl rfl (.of_eq rfl rfl rfl)
theorem uRepl {g} : ArrayKept busy s (t.uRepl g) := h.of_eq rfl rfl rfl rfl (.of_eq rfl rfl rfl)
theorem uMem {g} : ArrayKept busy s (t.uMem g) := h.of_eq rfl rfl rfl rfl (.of_eq rfl rfl rfl)
theorem emit {o} : ArrayKept busy s (t.emit o) := h.of_eq rfl rfl rfl rfl (.of_eq rfl rfl rfl)
theorem draw : ArrayKept busy s t.draw.2 := h.of_eq rfl rfl rfl rfl (.of_eq rfl rfl rfl)
theorem setSb {d q} : ArrayKept busy s (t.setSb d q) := by cases d <;> exact h.of_eq rfl rfl rfl rfl (.of_eq rfl rfl rfl)

theorem uLk {p g} : ArrayKept busy s (t.uLk p g) :=
  h.trans ⟨rfl, fun _ => rfl, rfl, fun _ _ _ _ => rfl, fun _ _ _ _ => rfl, .of_eq rfl rfl rfl, fun _ _ hr => hr⟩

theorem uLs {tx p n g} : ArrayKept busy s (t.uLs tx p n g) :=
  h.trans ⟨rfl, fun _ => rfl, rfl, fun _ _ _ _ => rfl, fun _ _ _ _ => rfl, .of_eq rfl rfl rfl, fun _ _ hr => hr⟩

end

/-! Queues of engines, lines and lanes (09 R254; 11 R302; 12 R315–R321) -/

section
variable {busy : Prop} {s t : State} (h : ArrayKept busy s t)
include h

theorem wqPush {e l w v} : ArrayKept busy s (wqPush e l w v t) := by
  unfold Machine.wqPush
  extract_lets g
  split_ifs
  · exact h.uSty
  · exact h.sat.ev
  · exact h.uSty.fw

theorem ringMove {p l integ mode} : ArrayKept busy s (ringMove p l integ mode t) := h.wqPush.wqPush

theorem parkLane {tx p n} : ArrayKept busy s (parkLane tx p n t) := h.ringMove

theorem refLost {src} : ArrayKept busy s (refLost src t) := by
  unfold Machine.refLost
  extract_lets t1
  have h1 : ArrayKept busy s t1 := by
    cases src
    · exact h.fw.sat
    · exact h.fw.sat
  split_ifs
  · exact h1.fw.wr.uClk.ev
  · exact h1

theorem linkFollow : ArrayKept busy s (linkFollow t) := by
  unfold Machine.linkFollow
  extract_lets was t1
  split_ifs
  · exact h.uClk.refLost
  · exact h.uClk

theorem updLine {b n} (hb : ¬busy → b < 8 := by grind) (hn : ¬busy → n < 18 := by grind) : ArrayKept busy s (updLine b n t) := by
  unfold Machine.updLine
  split_ifs
  · exact h
  · exact h.fwLine

theorem sendStop {p n st} : ArrayKept busy s (sendStop p n st t) := by
  unfold Machine.sendStop
  split_ifs
  · exact h
  · exact h.uLs

theorem fwLane {tx p n hi lo v} : ArrayKept busy s (t.fw (laneReg tx p n) hi lo v) :=
  h.fw (.inr (by rw [laneReg, R.LNK_LANE_STATE]; omega))

theorem setLane {tx p n st} (hp : ¬busy → p < 16 := by grind) (hn : ¬busy → n < 18 := by grind) :
    ArrayKept busy s (setLane tx p n st t) := by
  unfold Machine.setLane
  extract_lets t1
  have h1 : ArrayKept busy s t1 := h.fwLane
  split_ifs
  · exact h1.sendStop.updLine
  · exact h1.linkFollow
  · exact h1

theorem setSlot {tx p n slot remapped} : ArrayKept busy s (setSlot tx p n slot remapped t) := h.fwLane.fwLane

theorem sweepLane {tx p n} (hp : ¬busy → p < 16 := by grind) (hn : ¬busy → n < 18 := by grind) :
    ArrayKept busy s (sweepLane tx p n t) := h.wqPush.ringMove.uLs.setLane

theorem lockLane {tx p n} (hp : ¬busy → p < 16 := by grind) (hn : ¬busy → n < 18 := by grind) :
    ArrayKept busy s (lockLane tx p n t) := by
  unfold Machine.lockLane
  split
  · exact h.ringMove.uLs.setLane
  · exact h.sweepLane

theorem vacSweep {tx p n} (hp : ¬busy → p < 16 := by grind) (hn : ¬busy → n < 18 := by grind) :
    ArrayKept busy s (vacSweep tx p n t) := by
  unfold Machine.vacSweep
  extract_lets l x
  split_ifs
  · exact h.sweepLane
  · exact h

theorem laneCounts {p} : ArrayKept busy s (laneCounts p t) := h.fw.fw.fw.fw

/-! Lanes' streams and packets (12 R315–R324; 17 R440–R445) -/

theorem laneBlock {p n hdr payload} : ArrayKept busy s (laneBlock p n hdr payload t) := h.uLs.emit

theorem marksGo {p n k} : ArrayKept busy s (marksGo p n k t) := by
  induction k generalizing t with
  | zero => exact h
  | succ k ih =>
    unfold Machine.marksGo
    split_ifs
    · exact ih h.laneBlock
    · exact h

theorem laneSend {p n hdr payload} : ArrayKept busy s (laneSend p n hdr payload t) := h.marksGo.laneBlock

theorem lctl {p kind fields} : ArrayKept busy s (lctl p kind fields t) := by
  unfold Machine.lctl
  extract_lets t1
  have h1 : ArrayKept busy s t1 := h.emit
  split
  · exact h1.laneSend
  · exact h1

theorem slotSend {p k bsn payload} : ArrayKept busy s (slotSend p k bsn payload t) := h.foldl fun u _ _ => (refl u).laneSend

theorem retryStatus {p} : ArrayKept busy s (retryStatus p t) := h.fw.fw

theorem dataBlock {p payload} : ArrayKept busy s (dataBlock p payload t) := h.uLk.retryStatus.slotSend

theorem sendBlock {p k} : ArrayKept busy s (sendBlock p k t) := h.uLk.count64.emit.dataBlock

end

theorem pumpGo {busy : Prop} {p : Nat} (ks : List Pkt) (blocked : List Nat) {s t : State} (h : ArrayKept busy s t) :
    ArrayKept busy s (pumpGo p ks blocked t).1 := by
  induction ks generalizing blocked t with
  | nil => exact h
  | cons k ks ih =>
    unfold Machine.pumpGo
    split_ifs
    · exact ih _ h.sendBlock
    · exact ih _ h

section
variable {busy : Prop} {s t : State} (h : ArrayKept busy s t)
include h

theorem pump {p} : ArrayKept busy s (pump p t) := by
  unfold Machine.pump
  exact (pumpGo _ _ h).uLk

theorem sendPkt {p k} : ArrayKept busy s (sendPkt p k t) := h.uLk.pump

/-! Notes of failed ports (14 R370, R390; 15 R397) -/

theorem cordOut {hops src skip frame} : ArrayKept busy s (cordOut hops src skip frame t) := h.draw.foldl fun u _ _ => (refl u).sendPkt

theorem sbQueue {d mtype body} : ArrayKept busy s (t.sbQueue d mtype body) := h.setSb

theorem sbBoth {mtype body} : ArrayKept busy s (t.sbBoth mtype body) := h.sbQueue.sbQueue

theorem clTransport {frame} : ArrayKept busy s (clTransport frame t) := h.sbBoth.cordOut

theorem memberOrder {payload} : ArrayKept busy s (memberOrder payload t) := h.draw.clTransport

theorem faultReg : ArrayKept busy s (faultReg t) := h.wr

theorem clearPairs {gone} : ArrayKept busy s (clearPairs gone t) := by
  unfold Machine.clearPairs
  split_ifs
  · exact h.uRepl
  · exact h.uRepl.faultReg

theorem addPairs {chip ports} : ArrayKept busy s (addPairs chip ports t) := by
  unfold Machine.addPairs
  extract_lets new
  split_ifs
  · exact h.uRepl
  · exact h.uRepl.faultReg

theorem standbyPairs {chip ports gone} : ArrayKept busy s (standbyPairs chip ports gone t) := by
  unfold Machine.standbyPairs
  split_ifs
  · exact h.uRepl.faultReg
  · exact h

theorem portNote {op} : ArrayKept busy s (portNote op t) := by
  unfold Machine.portNote
  extract_lets t1
  have h1 : ArrayKept busy s t1 := h.memberOrder
  split_ifs
  · exact h1.addPairs.clearPairs
  · exact h1.standbyPairs

/-! A port trains or fails (12 R330, R332) -/

theorem portSet {p st} : ArrayKept busy s (portSet p st t) := by
  unfold Machine.portSet
  extract_lets old t1
  have h1 : ArrayKept busy s t1 := h.fw.fw
  split_ifs
  · exact h1
  · exact h1.uLk.ev
  · exact h1.ev
  · exact h1

theorem recount {p} : ArrayKept busy s (recount p t) := by
  unfold Machine.recount
  extract_lets t1
  have h1 : ArrayKept busy s t1 := h.laneCounts
  split_ifs
  · exact h1.portSet.pump
  · exact h1.pump

theorem enterFailed {p cause} : ArrayKept busy s (enterFailed p cause t) := by
  unfold Machine.enterFailed
  split_ifs
  · exact h
  · exact h.portSet.ev.portNote

theorem enterTraining {p} (hp : ¬busy → p < 16 := by grind) : ArrayKept busy s (enterTraining p t) := by
  unfold Machine.enterTraining
  extract_lets was t1 t2 t3 t4
  have h3 : ArrayKept busy s t3 := h.uLk.portSet.foldl fun u n hn => (refl u).foldl fun v tx _ => by
    have hlt := List.mem_range.mp hn
    split_ifs
    · exact (refl v).lockLane
    · exact refl v
  split_ifs
  · exact h3.lctl.portNote
  · exact h3.lctl

theorem tryTrain {p} (hp : ¬busy → p < 16 := by grind) : ArrayKept busy s (tryTrain p t) := by
  unfold Machine.tryTrain
  split_ifs
  · exact h
  · exact h.enterTraining
  · exact h
  · exact h.draw.enterFailed

/-! The interlock and the reserved paths that a LIVE proof moves (11 R306–R310; 13 R357) -/

theorem brightStep {l} : ArrayKept busy s (brightStep t l) := by
  unfold Machine.brightStep
  dsimp -zeta only
  extract_lets v
  split_ifs
  · exact h
  · exact h.uLas

theorem portShut {p cause} (hp : ¬busy → p < 16 := by grind) : ArrayKept busy s (portShut p cause t) := by
  unfold Machine.portShut
  extract_lets was t1 t2 t3
  have h1 : ArrayKept busy s t1 := h.fw
  have h3 : ArrayKept busy s t3 := h1.fw.uLas.foldl fun u n hn => by
    have hlt := List.mem_range.mp hn
    extract_lets u1 u2
    have h2 : ArrayKept busy u u2 := (refl u).ringMove.ringMove
    split_ifs
    · exact h2
    · exact h2.setLane
  split_ifs
  · exact h1
  · exact h3.laneCounts.ev.enterFailed

theorem lightLane {tx p n} (hp : ¬busy → p < 16 := by grind) (hn : ¬busy → n < 18 := by grind) :
    ArrayKept busy s (lightLane tx p n t) := by
  unfold Machine.lightLane
  split_ifs
  · exact h.lockLane
  · exact h

theorem portRestore {p} (hp : ¬busy → p < 16 := by grind) : ArrayKept busy s (portRestore p t) := by
  unfold Machine.portRestore
  extract_lets t1 t2 t3
  have h3 : ArrayKept busy s t3 := h.fw.uLas.fw.fw.ev.foldl fun u n hn => by
    have hlt := List.mem_range.mp hn
    exact (refl u).lightLane
  split_ifs
  · exact h
  · exact h3.laneCounts.tryTrain

theorem shutClear {p cause} (hp : ¬busy → p < 16 := by grind) : ArrayKept busy s (shutClear p cause t) := by
  unfold Machine.shutClear
  extract_lets t1
  have h1 : ArrayKept busy s t1 := h.fw
  split_ifs
  · exact h1.portRestore
  · exact h1

theorem inputCheck {p} (hp : ¬busy → p < 16 := by grind) : ArrayKept busy s (inputCheck t p) := by
  unfold Machine.inputCheck
  extract_lets v low k t1
  have h1 : ArrayKept busy s t1 := h.uLas
  split_ifs
  · exact h1.portShut
  · exact h1.shutClear
  · exact h1

theorem rsvCheck {p n} : ArrayKept busy s (rsvCheck t p n) := by
  unfold Machine.rsvCheck
  extract_lets b o v mode go
  have hgo : ∀ q l code {u}, ArrayKept busy s u → ArrayKept busy s (go q l code u) := fun q l code u hu => by
    unfold go
    split_ifs
    · exact hu
    · exact hu.ringMove
    · exact hu.wqPush
  split_ifs
  · exact h
  · exact hgo _ _ _ (hgo _ _ _ h)

end

/-! Swaps, rotations and lanes that fail (12 R333–R342, Table 12.5) -/

section
variable {s t : State} (h : ArrayKept True s t)
include h

theorem orderDark {lane} : ArrayKept True s (orderDark lane t) := by
  unfold Machine.orderDark
  split_ifs
  · exact h
  · exact h.trans ⟨rfl, fun hbusy => (hbusy trivial).elim, rfl, fun _ _ _ hne => fd_fw_ne hne, fun hbusy => (hbusy trivial).elim,
      .of_eq rfl rfl rfl, fun _ _ hr => hr⟩

theorem toSpare {tx p n uncal} : ArrayKept True s (toSpare tx p n uncal t) := h.parkLane.fwLane.uLs.setLane

theorem retireLine {b n} : ArrayKept True s (retireLine b n t) := by
  unfold Machine.retireLine
  split_ifs
  · exact h
  · exact h.fwLine.ev.recount.recount

theorem wearEnd {b n} : ArrayKept True s (wearEnd b n t) := by
  unfold Machine.wearEnd
  split_ifs
  · exact h.retireLine
  · exact h

theorem selFollow {p} : ArrayKept True s (selFollow p t) := h.foldl fun u n _ => by
  simp only []
  split_ifs
  · exact refl u
  · exact (refl u).uLs.wqPush

theorem toRetired {tx p n cause} : ArrayKept True s (toRetired tx p n cause t) := by
  unfold Machine.toRetired
  extract_lets t1 t2 t3
  have h3 : ArrayKept True s t3 := h.parkLane.fwLane.uLs.setLane
  split_ifs
  · exact h3.wearEnd
  · exact h3.uSty.selFollow.uSty

theorem afterFault {tx p n} : ArrayKept True s (afterFault tx p n t) := by
  unfold Machine.afterFault
  extract_lets c
  split_ifs
  · exact h.uLs.uLs.orderDark
  · exact h.toRetired

theorem laneLost {tx p n} : ArrayKept True s (laneLost tx p n t) := by
  unfold Machine.laneLost
  extract_lets t1 t2 t3
  have h3 : ArrayKept True s t3 := h.setSlot.ev.afterFault.recount
  split_ifs
  · exact h3.enterFailed
  · exact h3

theorem beginSwap {tx p slot old new own why} : ArrayKept True s (beginSwap tx p slot old new own why t) := by
  unfold Machine.beginSwap
  extract_lets t1 t2
  have h1 : ArrayKept True s t1 := by
    unfold t1
    split_ifs
    · exact h.lctl
    · exact h
  have h2 : ArrayKept True s t2 := h1.uLk
  split_ifs
  · exact h2.lockLane.recount
  · exact h2.recount

theorem rotEnd {p ch} : ArrayKept True s (rotEnd p ch t) := h.uLk.fw.fw.sat.ev.recount

theorem rotUndo {p r} : ArrayKept True s (rotUndo p r t) := by
  unfold Machine.rotUndo
  extract_lets t1 t2
  have h2 : ArrayKept True s t2 := h.uLk.fw.fw
  split_ifs
  · exact h2.setSlot.toSpare.lctl
  · exact h2.setSlot.toSpare.lctl

theorem rotBack {p} : ArrayKept True s (rotBack p t) := by
  unfold Machine.rotBack
  split
  · exact h
  · split_ifs
    · exact h.toSpare.rotEnd
    · exact h.rotUndo.uLk.sat.ev.recount

theorem rxBack {p} : ArrayKept True s (rxBack p t) := by
  unfold Machine.rxBack
  split
  · exact h.uLk.toSpare
  · exact h

theorem rotYield {tx p} : ArrayKept True s (rotYield tx p t) := by
  unfold Machine.rotYield
  split_ifs
  · exact h.rxBack
  · split
    · split_ifs
      · exact h
      · exact h.rotBack
    · exact h

theorem swapLane {tx p n why} : ArrayKept True s (swapLane tx p n why t) := by
  unfold Machine.swapLane
  extract_lets t1
  have h1 : ArrayKept True s t1 := by
    unfold t1
    split_ifs
    · exact h
    · exact h.rotYield
  split_ifs
  · exact h
  · split
    · exact h1.beginSwap
    · exact h1.uLk.laneLost
  · split
    · exact h1.beginSwap
    · exact h1.laneLost

theorem faultLane {tx p n retire} : ArrayKept True s (faultLane tx p n retire t) := by
  unfold Machine.faultLane
  extract_lets st t1
  have h1 : ArrayKept True s t1 := h.uLs
  split_ifs
  · exact h
  · exact h1.sweepLane
  · exact h1.swapLane
  · exact h1
  · exact h1.afterFault.recount

/-! The laser checks at a telemetry period's end (11 R300, R305, R306; 21 R550) -/

theorem equalise {l} : ArrayKept True s (equalise t l) := by
  unfold Machine.equalise
  dsimp -zeta only
  extract_lets g v trim
  split_ifs
  · exact h
  all_goals exact h.fwLine

theorem wearCheck {l} : ArrayKept True s (wearCheck t l) := by
  unfold Machine.wearCheck
  dsimp -zeta only
  extract_lets off t1
  have h1 : ArrayKept True s t1 := by
    unfold t1
    split_ifs
    · exact h
    · exact h.fwLine.ev
  split_ifs
  · exact h1
  · exact h1.wearEnd

theorem failCheck {starved l} : ArrayKept True s (failCheck starved t l) := by
  unfold Machine.failCheck
  dsimp -zeta only
  extract_lets off st high t1
  have h1 : ArrayKept True s t1 := h.fwLine.ev.retireLine
  split_ifs
  · exact h
  · exact h1.foldl fun u p _ => by
      split_ifs
      · exact refl u
      · exact (refl u).faultLane

theorem lasPeriod {counted} : ArrayKept True s (lasPeriod counted t) := by
  unfold Machine.lasPeriod
  extract_lets bright t1 t2 t3
  have h1 : ArrayKept True s t1 := by
    unfold t1
    split_ifs
    · exact h.foldl fun u _ _ => (refl u).equalise
    · exact h
  have h2 : ArrayKept True s t2 := h1.foldl fun u _ _ => (refl u).wearCheck
  exact (h2.foldl fun u _ _ => (refl u).failCheck).uLas

theorem readDieCe : ArrayKept True s (readDieCe t) := h.foldl fun u i _ => by
  split_ifs
  · exact (refl u).draw.wr
  · exact refl u

end

end ArrayKept

end Sys2Proof.Machine
end

section
/-! The Proof array's samples, synchronising resets and proofs (08 R219–R236). -/

namespace Sys2Proof.Machine

/-- A command denied for its path raises its event and changes nothing else (25 R623). -/
theorem deny_leaves {s : State} (room : RoomFor s) (code off v : Nat) (p : Path) :
    Raised (s.deny code off v p) code 0 ∧ (s.deny code off v p).proof = s.proof ∧ (s.deny code off v p).regs = s.regs
      ∧ SameMem s (s.deny code off v p) :=
  ⟨ev_raised room .., ev_proof .., ev_regs room .., ev_sameMem ..⟩

/-- A table listed key by key. -/
theorem smGet_map_self {α : Type} (d f : Nat → α) {ks : List Nat} {k : Nat} (h : k ∈ ks) : smGet d (ks.map fun x => (x, f x)) k = f k := by
  induction ks with
  | nil => cases h
  | cons j ks ih =>
    rw [List.map_cons, smGet]
    split_ifs with hj
    · rw [hj]
    · exact ih ((List.mem_cons.mp h).resolve_left (Ne.symm hj))

/-! Eight samples (R220) -/

/-- A pixel's newest 22 samples, newest first, once eight more have come. -/
def newSamples (x : Nat) (w : List (BitVec 12)) (s : State) : List Nat :=
  ((w.map (·.toNat)).reverse ++ smGet (fun _ => []) s.proof.hist x).take 22

theorem cicOutput_runs {s : State} {x : Fin 3072} {w : List (BitVec 12)} (hrun : s.proof.run = true) (hlen : w.length = 8) :
    Runs (.cicOutput x w) s fun t =>
      (smGet (fun _ => ⟨0, false, false, []⟩) t.proof.outs x.val).d = cicD (newSamples x w s)
        ∧ (∀ y, y ≠ x.val → pixOut t y = pixOut s y) ∧ t.regs = s.regs ∧ SameMem s t := by
  refine ⟨_, (if_neg (by simp [hlen])).trans (if_neg (by simp [hrun])), ?_, fun y hy => ?_, rfl, .of_eq rfl rfl rfl⟩
  · rw [uProof_proof, smGet_smSet, if_pos rfl]
    rfl
  · rw [pixOut, uProof_proof, smGet_smSet, if_neg hy, ← pixOut]

/-! PROOF_SYNC and the reset it orders (R221, R222, R236) -/

theorem proofSync_denied {s : State} {p : Path} {v : Word} (hreach : Reaches p s) (hhost : hostLike p = true) :
    exec (.proofSync p v) s = .next (s.deny Ev.PROOF_DENIED R.PROOF_SYNC v.toNat p) :=
  (through_reaches hreach _ _).trans (if_pos hhost)

/-- The Proof domain's registers answer while it is ON. -/
theorem blockOn_of_proofDom {s : State} (hdom : s.dom 0xA5 = 2) {off : Nat} (h : blockDom off = some 0xA5) : s.blockOn off = true := by
  rw [State.blockOn, h]
  exact beq_iff_eq.mpr hdom

theorem proofSync_orders {s : State} {p : Path} {v : Word} (hreach : Reaches p s) (hhost : hostLike p = false)
    (hbit : bitOf v.toNat 0 = true) (hdom : s.dom 0xA5 = 2) :
    exec (.proofSync p v) s = .next (s.uProof fun t => { t with sync := some (t.sync.getD 3) }) :=
  (through_reaches hreach _ _).trans ((if_neg (by simp [hhost])).trans (if_neg (by simp [hbit, blockOn_of_proofDom (off := R.PROOF_SYNC) hdom rfl])))

/-- PROOF_STATUS shows how many SETTLING proofs are due, and whether the domain samples. -/
theorem proofStatus_fd_settle (s : State) : (proofStatus s).fd R.PROOF_STATUS 1 0 = s.proof.settle.length % 4 := by
  rw [proofStatus, fd_fw_of_disjoint _ _ _ le_rfl (by decide) (by decide) (by decide), fd_fw_same _ _ _ (by decide)]
  rfl

theorem proofStatus_bit_run (s : State) : (proofStatus s).bit R.PROOF_STATUS 2 = s.proof.run := by
  rw [proofStatus, bit_fw le_rfl le_rfl (by decide)]
  exact (congrArg (bitOf · 0) (Nat.mod_eq_of_lt (by cases s.proof.run <;> decide))).trans (bitOf_b2n _)

theorem proofStatus_regsKept (s : State) : RegsKept [R.PROOF_STATUS] s (proofStatus s) :=
  ((RegsKept.of_regs_eq (s := s) _ rfl).fw List.mem_cons_self _ _ _).fw List.mem_cons_self _ _ _

theorem proofStatus_only (s : State) : RegsOnly s (proofStatus s) := ((RegsOnly.refl s).fw _ _ _ _).fw _ _ _ _

/-- The array's state once its decimators are reset for a cause, before its registers show it. -/
def arrayReset (cause : Nat) (s : State) : State := s.uProof fun t => { t with
  hist := [], sync := none, run := if cause = 1 then true else if cause = 4 then false else t.run,
  outs := if cause = 1 ∨ cause = 4 then [] else t.outs,
  settle := if cause = 1 then [t.frame + 1, t.frame + 2] else if cause = 4 then []
    else t.settle.filter (decide <| · ≤ t.frame + 1) ++ [t.frame + 2, t.frame + 3] }

theorem proofReset_eq (cause : Nat) (s : State) :
    proofReset cause s = ((proofStatus (arrayReset cause s)).sat R.PROOF_SYNC_CNT 31 0 1).ev Ev.PROOF_SYNC_RESET 0 [cause] := rfl

section
variable {s : State} (c : Nat)

theorem proofReset_proof : (proofReset c s).proof = (arrayReset c s).proof := ev_proof ..

theorem proofReset_room (room : RoomFor s) : RoomFor ((proofStatus (arrayReset c s)).sat R.PROOF_SYNC_CNT 31 0 1) := room

theorem proofReset_rd_status (room : RoomFor s) :
    (proofReset c s).rd R.PROOF_STATUS = (proofStatus (arrayReset c s)).rd R.PROOF_STATUS := by
  rw [proofReset_eq, rd_of_regs_eq (ev_regs (proofReset_room c room) ..), rd_sat_ne (by decide)]

/-- The reset is counted and raised, and no register but PROOF_STATUS and the count changes (R221). -/
theorem proofReset_counted (room : RoomFor s) :
    (proofReset c s).rd R.PROOF_SYNC_CNT = min 0xFFFFFFFF (s.rd R.PROOF_SYNC_CNT + 1) ∧ Raised (proofReset c s) Ev.PROOF_SYNC_RESET 0
      ∧ RegsKept [R.PROOF_STATUS, R.PROOF_SYNC_CNT] s (proofReset c s) ∧ SameMem s (proofReset c s) := by
  have hroom := proofReset_room c room
  have hstatus : RegsKept [R.PROOF_STATUS, R.PROOF_SYNC_CNT] s (proofStatus (arrayReset c s)) :=
    ((RegsKept.of_regs_eq (t := arrayReset c s) _ rfl).fw (by simp) _ _ _).fw (by simp) _ _ _
  have hreset : SameMem s (arrayReset c s) := .of_eq rfl rfl rfl
  rw [proofReset_eq]
  refine ⟨?_, ev_raised hroom .., (hstatus.sat (by simp) _ _ _).keep (ev_regs hroom ..),
    hreset.trans (((proofStatus_only _).sat _ _ _ _).sameMem.trans (ev_sameMem ..))⟩
  rw [rd_of_regs_eq (ev_regs hroom ..), rd_sat_count, proofStatus_regsKept _ _ (by decide)]
  rfl

end

theorem exec_proofSyncReset {s : State} {c : Nat} (hsync : s.proof.sync = some c) (hc : c = 1 ∨ (c = 3 ∧ s.proof.run = true))
    (hup : s.domUp 0xA5 = true) : exec .proofSyncReset s = .next (proofReset c s) := by
  have hgo : ¬(c = 3 ∧ (!s.proof.run) = true) := by
    rcases hc with rfl | ⟨rfl, hrun⟩
    · simp
    · simp [hrun]
  show execProofSyncReset s = _
  simp only [execProofSyncReset, hsync, if_neg hgo, hup, Bool.not_true, Bool.false_eq_true, if_false]
  rfl

theorem proofSyncReset_runs {s : State} {c : Nat} (hsync : s.proof.sync = some c) (hc : c = 1 ∨ (c = 3 ∧ s.proof.run = true))
    (hup : s.domUp 0xA5 = true) (room : RoomFor s) : Runs .proofSyncReset s fun t => t.proof.hist = [] ∧ t.proof.run = true ∧ t.proof.sync = none
      ∧ (c = 1 → t.proof.settle = [s.proof.frame + 1, s.proof.frame + 2] ∧ t.fd R.PROOF_STATUS 1 0 = 2)
      ∧ (c = 3 → t.proof.outs = s.proof.outs ∧ ∀ f, f ∈ t.proof.settle ↔
          (f ≤ s.proof.frame + 1 ∧ f ∈ s.proof.settle) ∨ f = s.proof.frame + 2 ∨ f = s.proof.frame + 3)
      ∧ t.bit R.PROOF_STATUS 2 = true
      ∧ t.rd R.PROOF_SYNC_CNT = min 0xFFFFFFFF (s.rd R.PROOF_SYNC_CNT + 1) ∧ Raised t Ev.PROOF_SYNC_RESET 0
      ∧ RegsKept [R.PROOF_STATUS, R.PROOF_SYNC_CNT] s t ∧ SameMem s t := by
  have hrun : (arrayReset c s).proof.run = true := by
    rcases hc with rfl | ⟨rfl, hrun⟩
    · rfl
    · exact hrun
  refine ⟨_, exec_proofSyncReset hsync hc hup, ?_, ?_, ?_, ?_, ?_, ?_, proofReset_counted c room⟩
  · rw [proofReset_proof]
    rfl
  · rw [proofReset_proof, hrun]
  · rw [proofReset_proof]
    rfl
  · rintro rfl
    refine ⟨by rw [proofReset_proof]; rfl, ?_⟩
    rw [fd_of_rd_eq (proofReset_rd_status 1 room), proofStatus_fd_settle]
    rfl
  · rintro rfl
    refine ⟨by rw [proofReset_proof]; rfl, fun f => ?_⟩
    rw [proofReset_proof]
    show f ∈ s.proof.settle.filter (decide <| · ≤ s.proof.frame + 1) ++ [s.proof.frame + 2, s.proof.frame + 3] ↔ _
    simp [and_comm]
  · rw [bit_of_rd_eq (proofReset_rd_status c room), proofStatus_bit_run, hrun]

/-! A proof is delivered (R222, R223, R231) -/

/-- Packets that leave one by one leave in their order. -/
theorem foldl_emit (pkts : List Out) (s : State) : pkts.foldl State.emit s = s.uOut (· ++ pkts) := by
  induction pkts generalizing s with
  | nil => simp [State.uOut]
  | cons o pkts ih =>
    rw [List.foldl_cons, ih]
    simp [State.emit, State.uOut]

/-- The packets of a proof leave, and the sweeping lanes that were sent wait for the rest. -/
theorem sendProof_swept (pk : List Out) (f : Nat) (s : State) :
    ∃ o w, sweepNext (sendProof pk f s) = { s with out := o, proof := { s.proof with swept := w } } := by
  rw [sendProof, foldl_emit]
  exact ⟨_, _, rfl⟩

/-- Without a window in force no CROP packet leaves (R234). -/
theorem foldl_cropSend_of_none {s : State} (live : Bool) (h : ∀ c < 4, cropOf s c = none) : (List.range 4).foldl (cropSend live) s = s :=
  List.foldlRecOn (motive := fun u => u = s) (List.range 4) (cropSend live) rfl fun u hu c hc => by
    subst hu
    rw [cropSend]
    split
    · rfl
    next hcrop => rw [h c (List.mem_range.mp hc)] at hcrop; cases hcrop

/-- What follows the packets of a proof without windows comes to a state in which only they and the lanes sent have changed. -/
theorem cropped_sendProof {s : State} (live : Bool) (pk : List Out) (f : Nat) (h : ∀ c < 4, cropOf s c = none) :
    ∃ o w, (List.range 4).foldl (cropSend live) (sweepNext (sendProof pk f s)) = { s with out := o, proof := { s.proof with swept := w } } := by
  obtain ⟨o, w, he⟩ := sendProof_swept pk f s
  exact ⟨o, w, (foldl_cropSend_of_none live fun c hc => he ▸ h c hc).trans he⟩

theorem exec_proofProcess {ts : List (List (BitVec 16))} (s : State) (hlen : ts.length = 64) (hrows : ∀ r ∈ ts, r.length = 8) :
    exec (.proofProcess ts) s = if !s.proof.run ∨ s.proof.outs.length < pixAll then .next (proofStatus (deliver .none [] [] s))
      else if s.proof.settle.contains s.proof.frame then .next (settleProof (tempMeans ts) s)
      else .next (liveProof (tempMeans ts) s) := by
  have hshape : ¬(ts.length ≠ 64 ∨ ts.any (fun r => r.length != 8) = true) := by
    simp only [hlen, ne_eq, not_true_eq_false, false_or, List.any_eq_true, bne_iff_ne, not_exists, not_and, not_not]
    exact hrows
  exact if_neg hshape

/-- The proof that a frame delivers: the one before becomes that of the frame before, and what was sampled is spent (R231). -/
theorem delivered_proof (k : PKind) (ws : SMap Word) (ts : List Int) (s : State) :
    (proofStatus (deliver k ws ts s)).proof.p0.kind = k ∧ (proofStatus (deliver k ws ts s)).proof.p0.words = ws
      ∧ (proofStatus (deliver k ws ts s)).proof.p1 = s.proof.p0 ∧ (proofStatus (deliver k ws ts s)).proof.outs = []
      ∧ (proofStatus (deliver k ws ts s)).proof.settle = s.proof.settle.filter (decide <| s.proof.frame < ·) :=
  ⟨rfl, rfl, rfl, rfl, rfl⟩

theorem delivered_sameMem (k : PKind) (ws : SMap Word) (ts : List Int) (s : State) : SameMem s (proofStatus (deliver k ws ts s)) :=
  .of_eq rfl rfl rfl

theorem delivered_regsKept (k : PKind) (ws : SMap Word) (ts : List Int) (s : State) :
    RegsKept [R.PROOF_STATUS] s (proofStatus (deliver k ws ts s)) := proofStatus_regsKept _

/-- A frame not wholly sampled delivers no proof. -/
theorem noProof_runs {s : State} {ts : List (List (BitVec 16))} (hlen : ts.length = 64) (hrows : ∀ r ∈ ts, r.length = 8)
    (hpart : s.proof.run = false ∨ s.proof.outs.length < pixAll) : Runs (.proofProcess ts) s fun t =>
      t.proof.p0.kind = .none ∧ t.proof.p1 = s.proof.p0 ∧ t.proof.outs = [] ∧ RegsKept [R.PROOF_STATUS] s t ∧ t.out = s.out
        ∧ SameMem s t := by
  obtain ⟨hkind, _, hp1, houts, _⟩ := delivered_proof .none [] [] s
  exact ⟨_, (exec_proofProcess s hlen hrows).trans (if_pos (by simpa using hpart)), hkind, hp1, houts, delivered_regsKept _ _ _ _, rfl,
    delivered_sameMem ..⟩

/-- A SETTLING proof carries every value zero (R222). -/
theorem settling_runs {s : State} {ts : List (List (BitVec 16))} (hlen : ts.length = 64) (hrows : ∀ r ∈ ts, r.length = 8)
    (hrun : s.proof.run = true) (hall : pixAll ≤ s.proof.outs.length) (hsettle : s.proof.settle.contains s.proof.frame = true)
    (hcrop : ∀ c < 4, cropOf s c = none) : Runs (.proofProcess ts) s fun t =>
      t.proof.p0.kind = .settling ∧ (∀ x < pixAll, smGet (fun _ => (0 : Word)) t.proof.p0.words x = w32 x) ∧ t.proof.p1 = s.proof.p0
        ∧ (∀ f, f ∈ t.proof.settle ↔ f ∈ s.proof.settle ∧ s.proof.frame < f) ∧ t.proof.outs = [] ∧ RegsKept [R.PROOF_STATUS] s t
        ∧ SameMem s t := by
  have hexec := ((exec_proofProcess s hlen hrows).trans (if_neg (by simp [hrun, hall]))).trans (if_pos hsettle)
  refine ⟨_, hexec, ?_⟩
  unfold settleProof
  extract_lets words f pk t1 t2
  obtain ⟨o, w, he⟩ := cropped_sendProof false pk f hcrop
  have hmem : SameMem s t2 := by
    rw [show t2 = _ from he]
    exact .of_eq rfl rfl rfl
  have hproof : t2.proof = { s.proof with swept := w } := by rw [show t2 = _ from he]
  have hwords : ∀ x < pixAll, smGet (fun _ => (0 : Word)) words x = w32 x := fun x hx => smGet_map_self _ _ (List.mem_range.mpr hx)
  have hregs : t2.regs = s.regs := by rw [show t2 = _ from he]
  obtain ⟨hkind, hws, hp1, houts, hset⟩ := delivered_proof .settling words (tempMeans ts) t2
  refine ⟨hkind, by rwa [hws], by rw [hp1, hproof], fun g => ?_, houts,
    fun o ho => (delivered_regsKept _ _ _ _ o ho).trans (rd_of_regs_eq hregs o), hmem.trans (delivered_sameMem ..)⟩
  rw [hset, hproof]
  simp

/-! A LIVE proof (R223–R227) -/

/-- From s to t the proof in force and memory stand. -/
structure ProofsKept (s t : State) : Prop where
  p0 : t.proof.p0 = s.proof.p0
  mem : SameMem s t

namespace ProofsKept

variable {s t : State} (h : ProofsKept s t)
include h

theorem uProof {g} (hg : (g t.proof).p0 = t.proof.p0) : ProofsKept s (t.uProof g) := ⟨hg.trans h.p0, h.mem.trans (.of_eq rfl rfl rfl)⟩

theorem liveSums {words ts} : ProofsKept s (liveSums words ts t) := by
  unfold Machine.liveSums
  extract_lets good tsum caps
  exact h.uProof rfl

theorem fw {off hi lo v} : ProofsKept s (t.fw off hi lo v) := ⟨h.p0, h.mem.trans (.of_eq rfl rfl rfl)⟩

theorem ev {code src args} : ProofsKept s (t.ev code src args) := ⟨(congrArg _ (ev_proof ..)).trans h.p0, h.mem.trans (ev_sameMem ..)⟩

theorem markDefect {x reason} : ProofsKept s (markDefect x reason t) := by
  unfold Machine.markDefect
  split_ifs
  · exact h
  · exact h.fw.ev.fw

theorem stuckStep {x} : ProofsKept s (stuckStep t x) := by
  unfold Machine.stuckStep
  extract_lets o n
  dsimp -zeta only
  extract_lets k t1
  have h1 : ProofsKept s t1 := h.uProof rfl
  split_ifs
  · exact h
  · exact h1.markDefect
  · exact h1

end ProofsKept

/-- The pixel words of a LIVE proof. -/
def liveWords (s : State) : SMap Word := (List.range pixAll).map fun x => (x, livePix s x)

theorem liveWords_at {s : State} {x : Nat} (hx : x < pixAll) : smGet (fun _ => (0 : Word)) (liveWords s) x = livePix s x :=
  smGet_map_self _ _ (List.mem_range.mpr hx)

/-- The packets of a LIVE proof. -/
def livePkts (ts : List Int) (s : State) : List Out :=
  let word := fun x => smGet (fun _ => (0 : Word)) (liveWords s) x
  rowPkts word 0x01 0x02 (proofFrame s) ++ [proofPkt 10 0x06 0 0 (proofFrame s) (tempWords ts)]
    ++ sweepPkts s word (proofFrame s) ++ darkPkts s (darkWord s) (proofFrame s)

/-- The sums and the stuck test of a LIVE proof, once its packets have left. -/
def liveSummed (ws : SMap Word) (ts : List Int) (pk : List Out) (s : State) : State :=
  (List.range pixAll).foldl stuckStep
    (liveSums ws ts ((List.range 4).foldl (cropSend true) (sweepNext (sendProof pk (proofFrame s) s))))

/-- What the lasers and the reserved paths make of the proof in force (11 R306–R310; 13 R357). -/
def proofFollowed (s : State) : State :=
  (List.range 16).foldl (fun s p => (List.range 18).foldl (fun s n => rsvCheck s p n) s)
    ((List.range 16).foldl inputCheck ((List.range 144).foldl brightStep s))

theorem liveProof_eq (ts : List Int) (s : State) : liveProof ts s =
    proofFollowed (proofStatus (deliver .live (liveWords s) ts (liveSummed (liveWords s) ts (livePkts ts s) s))) := rfl

theorem liveSummed_kept {s : State} (ws : SMap Word) (ts : List Int) (pk : List Out) (hcrop : ∀ c < 4, cropOf s c = none) :
    ProofsKept s (liveSummed ws ts pk s) := by
  obtain ⟨o, w, he⟩ := cropped_sendProof true pk (proofFrame s) hcrop
  have hsent : ProofsKept s { s with out := o, proof := { s.proof with swept := w } } := ⟨rfl, .of_eq rfl rfl rfl⟩
  rw [liveSummed, he]
  exact List.foldlRecOn (motive := ProofsKept s) _ _ hsent.liveSums fun u hu x _ => hu.stuckStep

theorem proofFollowed_kept (s : State) : ArrayKept False s (proofFollowed s) := by
  have hbright : ArrayKept False s ((List.range 144).foldl brightStep s) :=
    (ArrayKept.refl s).foldl fun u _ _ => (ArrayKept.refl u).brightStep
  have hinput := hbright.foldl (f := inputCheck) (l := List.range 16) fun u p hp => by
    have hlt := List.mem_range.mp hp
    exact (ArrayKept.refl u).inputCheck
  exact hinput.foldl fun u p _ => (ArrayKept.refl u).foldl fun v n _ => (ArrayKept.refl v).rsvCheck

/-- What follows its delivery leaves a proof in force. -/
theorem followed_delivered (ws : SMap Word) (ts : List Int) (u : State) :
    let t := proofFollowed (proofStatus (deliver .live ws ts u))
    t.proof.p0.kind = .live ∧ t.proof.p0.words = ws ∧ t.proof.p1 = u.proof.p0 ∧ t.proof.outs = [] ∧ SameMem u t := by
  intro t
  have hfollow : ArrayKept False _ t := proofFollowed_kept (proofStatus (deliver .live ws ts u))
  obtain ⟨hkind, hws, hp1, houts, _⟩ := delivered_proof .live ws ts u
  rw [hfollow.proof]
  exact ⟨hkind, hws, hp1, houts, (delivered_sameMem ..).trans hfollow.mem⟩

/-- A LIVE proof carries the word the five stages give each pixel. -/
theorem liveProof_delivers {s : State} (ts : List Int) (hcrop : ∀ c < 4, cropOf s c = none) :
    (liveProof ts s).proof.p0.kind = .live ∧ (∀ x < pixAll, smGet (fun _ => (0 : Word)) (liveProof ts s).proof.p0.words x = livePix s x)
      ∧ (liveProof ts s).proof.p1 = s.proof.p0 ∧ (liveProof ts s).proof.outs = [] ∧ SameMem s (liveProof ts s) := by
  have hsum := liveSummed_kept (liveWords s) ts (livePkts ts s) hcrop
  obtain ⟨hkind, hws, hp1, houts, hmem⟩ := followed_delivered (liveWords s) ts (liveSummed (liveWords s) ts (livePkts ts s) s)
  rw [← liveProof_eq] at hkind hws hp1 houts hmem
  exact ⟨hkind, fun x hx => by rw [hws, liveWords_at hx], hp1.trans hsum.p0, houts, hsum.mem.trans hmem⟩

theorem live_runs {s : State} {ts : List (List (BitVec 16))} (hlen : ts.length = 64) (hrows : ∀ r ∈ ts, r.length = 8)
    (hrun : s.proof.run = true) (hall : pixAll ≤ s.proof.outs.length) (hsettle : s.proof.settle.contains s.proof.frame = false)
    (hcrop : ∀ c < 4, cropOf s c = none) : Runs (.proofProcess ts) s fun t =>
      t.proof.p0.kind = .live ∧ (∀ x < pixAll, smGet (fun _ => (0 : Word)) t.proof.p0.words x = livePix s x)
        ∧ t.proof.p1 = s.proof.p0 ∧ t.proof.outs = [] ∧ SameMem s t := by
  have hexec := ((exec_proofProcess s hlen hrows).trans (if_neg (by simp [hrun, hall]))).trans (if_neg (by simp only [hsettle]; decide))
  exact ⟨_, hexec, liveProof_delivers _ hcrop⟩

/-- Settles O25, row by row: samples, the order of a reset, the reset, and the three ends a frame can come to. -/
theorem proofSamplesResetsAndProofs : Obligations.ProofSamplesResetsAndProofs := by
  refine ⟨fun s x w => cicOutput_runs, fun s p v hreach hhost room => ⟨_, proofSync_denied hreach hhost, deny_leaves room ..⟩,
    fun s p v hreach hhost hbit hdom => ⟨_, proofSync_orders hreach hhost hbit hdom, rfl, rfl, .of_eq rfl rfl rfl⟩,
    fun s c => proofSyncReset_runs, fun s ts => settling_runs,
    fun s ts hlen hrows hrun hall hsettle _ hcrop => live_runs hlen hrows hrun hall hsettle hcrop, fun s ts => noProof_runs⟩

end Sys2Proof.Machine
end

section
/-! Dark captures and the telemetry period (08 R224, R225, R233, R236). -/

namespace Sys2Proof.Machine

/-! PROOF_DARK_CMD (R236) -/

theorem darkCmd_denied {s : State} {p : Path} {v : Word} (hreach : Reaches p s) (h : hostLike p = true ∨ darkRefused s v.toNat = true) :
    exec (.proofDarkCmd p v) s = .next (s.deny Ev.PROOF_DENIED R.PROOF_DARK_CMD v.toNat p) :=
  (through_reaches hreach _ _).trans (if_pos (by simpa using h))

theorem darkCmd_starts {s : State} {p : Path} {v : Word} (hreach : Reaches p s) (hhost : hostLike p = false)
    (hok : darkRefused s v.toNat = false) (hdom : s.dom 0xA5 = 2) : exec (.proofDarkCmd p v) s
      = .next (startCapture (if bitOf v.toNat 16 then none else some (fieldOf v.toNat 9 0)) s) :=
  (through_reaches hreach _ _).trans ((if_neg (by simp [hhost, hok])).trans
    (if_neg (by simp [blockOn_of_proofDom (off := R.PROOF_DARK_CMD) hdom rfl])))

/-- A capture that starts has taken no proof yet, and DARK_BUSY shows it. -/
theorem startCapture_runs (lane : Option Nat) (s : State) :
    (∃ c ∈ (startCapture lane s).proof.caps, c.done = 0 ∧ c.lane = lane) ∧ (startCapture lane s).bit R.PROOF_STATUS 3 = true
      ∧ RegsKept [R.PROOF_STATUS] s (startCapture lane s) ∧ SameMem s (startCapture lane s) := by
  refine ⟨⟨⟨lane, 0, [], [], s.proof.frame⟩, List.mem_append_right _ List.mem_cons_self, rfl, rfl⟩, ?_,
    (RegsKept.of_regs_eq _ rfl).fw List.mem_cons_self _ _ _, .of_eq rfl rfl rfl⟩
  rw [startCapture, bit_fw le_rfl le_rfl (by decide)]
  rfl

/-! The pixels of a lane (R217) -/

theorem laneParts_bounds {l : BitVec 10} {tx : Bool} {p n : Nat} (h : laneParts l.toNat = some (tx, p, n)) : p < 16 ∧ n < 18 := by
  unfold laneParts at h
  split_ifs at h with hn
  obtain ⟨-, rfl, rfl⟩ : _ ∧ _ ∧ _ := by simpa using h
  exact ⟨Nat.mod_lt _ (by decide), hn⟩

theorem lanePix_bounds {l : BitVec 10} {x : Nat} (h : x ∈ lanePix l.toNat) : x < pixRows := by
  unfold lanePix at h
  split at h
  · cases h
  next tx p n hparts =>
    have := laneParts_bounds hparts
    unfold pixRows
    split_ifs at h <;> simp at h <;> omega

theorem length_lanePix (l : Nat) : (lanePix l).length ≤ 4 := by
  unfold lanePix
  split
  · simp
  · split_ifs <;> simp

/-! The levels that a capture stores (R224, R225) -/

/-- One pixel's level is stored, or the pixel marked; the levels stored are counted. -/
def levelStep (a : State × Nat) (x : Nat × Int) : State × Nat :=
  if (a.1.fd R.PROOF_DARK_CFG 31 16 : Int) < x.2 then (markDefect x.1 2 a.1, a.2)
  else (a.1.fw (R.PROOF_DARK x.1) 15 0 (max 0 x.2).toNat, a.2 + 1)

/-- The state at a capture's end, its levels still to be stored. -/
def captureLeft (c : Capture) (s : State) : State :=
  (s.uProof fun t => { t with caps := t.caps.filter (· != c) }).fw R.PROOF_STATUS 3 3 (b2n !(s.proof.caps.filter (· != c)).isEmpty)

/-- A capture's levels stored. -/
def levelsStored (c : Capture) (s : State) : State × Nat :=
  ((capPix c).map fun x => (x, capLevel (captureLeft c s) c x)).foldl levelStep (captureLeft c s, 0)

theorem endCapture_eq (c : Capture) (s : State) :
    endCapture c s = (levelsStored c s).1.ev Ev.DARK_CAPTURED (c.lane.getD 0xFFFF) [(levelsStored c s).2] := rfl

/-- From s to t the array's state, memory, DARK_BUSY, PROOF_DARK_CFG and the levels of all pixels but those in xs stand. -/
structure LevelsOnly (xs : List Nat) (s t : State) : Prop where
  proof : t.proof = s.proof
  mem : SameMem s t
  busy : t.bit R.PROOF_STATUS 3 = s.bit R.PROOF_STATUS 3
  cfg : t.rd R.PROOF_DARK_CFG = s.rd R.PROOF_DARK_CFG
  dark : ∀ x < pixAll, x ∉ xs → t.rd (R.PROOF_DARK x) = s.rd (R.PROOF_DARK x)

namespace LevelsOnly

variable {xs : List Nat} {s t u : State}

theorem refl (s : State) : LevelsOnly xs s s := ⟨rfl, .of_eq rfl rfl rfl, rfl, rfl, fun _ _ _ => rfl⟩

theorem trans (h : LevelsOnly xs s t) (g : LevelsOnly xs t u) : LevelsOnly xs s u :=
  ⟨g.proof.trans h.proof, h.mem.trans g.mem, g.busy.trans h.busy, g.cfg.trans h.cfg, fun x hx hn => (g.dark x hx hn).trans (h.dark x hx hn)⟩

end LevelsOnly

/-- The offsets of the array's registers lie apart. -/
theorem defectLive_ne {i : Nat} (hi : i < 96) :
    R.PROOF_DEFECT_LIVE i ≠ R.EVT_DROP_CNT ∧ R.PROOF_DEFECT_LIVE i ≠ R.PROOF_STATUS ∧ R.PROOF_DEFECT_LIVE i ≠ R.PROOF_DARK_CFG := by grind

theorem proofDark_ne {x i : Nat} (hx : x < pixAll) : R.PROOF_DARK x ≠ R.EVT_DROP_CNT ∧ R.PROOF_DARK x ≠ R.PROOF_STATUS
    ∧ R.PROOF_DARK x ≠ R.PROOF_DARK_CFG ∧ R.PROOF_DARK x ≠ R.PROOF_DEFECT_LIVE i := by
  unfold pixAll at hx
  grind

theorem mapWord_lt {x : Nat} (hx : x < pixAll) : x / 32 < 96 := Nat.div_lt_of_lt_mul hx

/-- A pixel is marked in the live defect map. -/
def markedLive (s : State) (x : Nat) : Bool := s.bit (R.PROOF_DEFECT_LIVE (x / 32)) (x % 32)

/-- A pixel of a capture is settled: its level, within DARK_MAX, is stored, or it is marked. -/
structure LevelShown (lim : Nat) (f : Nat → Int) (t : State) (x : Nat) : Prop where
  cfg : t.fd R.PROOF_DARK_CFG 31 16 = lim
  stored : f x ≤ lim → t.fd (R.PROOF_DARK x) 15 0 = (max 0 (f x)).toNat
  marked : (lim : Int) < f x → markedLive t x = true

/-- A bit that is set leaves the others of its register. -/
theorem bit_set (s : State) (off : Nat) {k n : Nat} (hk : k < 32) (hn : n < 32) :
    (s.fw off k k 1).bit off n = (decide (n = k) || s.bit off n) := by
  by_cases h : n = k
  · rw [h, bit_fw le_rfl le_rfl hk]
    simp [bitOf]
  · rw [bit_fw_of_disjoint _ _ _ le_rfl (by omega) hn]
    simp [h]

section
variable {x reason : Nat} {s : State}

theorem markDefect_of_marked (h : markedLive s x = true) : markDefect x reason s = s := if_pos h

theorem markDefect_of_clear (h : markedLive s x = false) : markDefect x reason s
    = liveDefects ((s.fw (R.PROOF_DEFECT_LIVE (x / 32)) (x % 32) (x % 32) 1).ev Ev.PIX_DEFECT x [reason]) := if_neg (Bool.eq_false_iff.mp h)

theorem RegsOnly.proof {s t : State} (h : RegsOnly s t) : t.proof = s.proof := by rw [h]

theorem liveDefects_only (s : State) : RegsOnly s (liveDefects s) := (RegsOnly.refl s).fw ..

theorem markDefect_rd {o : Nat} (hlive : o ≠ R.PROOF_DEFECT_LIVE (x / 32)) (hdrop : o ≠ R.EVT_DROP_CNT) (hstatus : o ≠ R.PROOF_STATUS) :
    (markDefect x reason s).rd o = s.rd o := by
  cases h : markedLive s x
  · rw [markDefect_of_clear h, liveDefects, rd_fw_ne _ _ _ _ hstatus, ev_regsKept _ _ _ _ o (by simpa using hdrop), rd_fw_ne _ _ _ _ hlive]
  · rw [markDefect_of_marked h]

theorem markDefect_busy (hx : x < pixAll) : (markDefect x reason s).bit R.PROOF_STATUS 3 = s.bit R.PROOF_STATUS 3 := by
  cases h : markedLive s x
  · rw [markDefect_of_clear h, liveDefects, bit_fw_of_disjoint _ _ _ (by decide) (by decide) (by decide),
      bit_of_rd_eq (ev_regsKept _ _ _ _ _ (by decide)), bit_fw_ne (defectLive_ne (mapWord_lt hx)).2.1.symm]
  · rw [markDefect_of_marked h]

/-- A pixel is marked once it has been, and no mark is taken back. -/
theorem markedLive_markDefect {y : Nat} (hy : y < pixAll) :
    markedLive (markDefect x reason s) y = (decide (y = x) || markedLive s y) := by
  have hmark : markedLive (s.fw (R.PROOF_DEFECT_LIVE (x / 32)) (x % 32) (x % 32) 1) y = (decide (y = x) || markedLive s y) := by
    by_cases hreg : y / 32 = x / 32
    · rw [markedLive, hreg, bit_set _ _ (Nat.mod_lt _ (by decide)) (Nat.mod_lt _ (by decide)), markedLive, hreg]
      congr 2
      exact propext (by omega)
    · rw [markedLive, bit_fw_ne (by grind), ← markedLive]
      simp [show y ≠ x by rintro rfl; exact hreg rfl]
  cases h : markedLive s x
  · obtain ⟨hdrop, hstatus, -⟩ := defectLive_ne (mapWord_lt hy)
    rw [← hmark, markDefect_of_clear h, markedLive, liveDefects, bit_fw_ne hstatus,
      bit_of_rd_eq (ev_regsKept _ _ _ _ _ (by simpa using hdrop)), ← markedLive]
  · rw [markDefect_of_marked h]
    by_cases hyx : y = x
    · simp [hyx, h]
    · simp [hyx]

theorem markDefect_proof : (markDefect x reason s).proof = s.proof := by
  cases h : markedLive s x
  · rw [markDefect_of_clear h, (liveDefects_only _).proof, ev_proof]
    rfl
  · rw [markDefect_of_marked h]

theorem markDefect_sameMem : SameMem s (markDefect x reason s) := by
  cases h : markedLive s x
  · rw [markDefect_of_clear h]
    exact ((RegsOnly.refl s).fw ..).sameMem.trans ((ev_sameMem ..).trans (liveDefects_only _).sameMem)
  · rw [markDefect_of_marked h]
    exact .of_eq rfl rfl rfl

theorem markDefect_raises : Raises 1 s (markDefect x reason s) := by
  cases h : markedLive s x
  · rw [markDefect_of_clear h]
    exact (Raises.ev (s.fw (R.PROOF_DEFECT_LIVE (x / 32)) (x % 32) (x % 32) 1) Ev.PIX_DEFECT x [reason]).trans
      (.of_evt_eq (liveDefects_only _).evt)
  · rw [markDefect_of_marked h]
    exact Nat.le_succ _

end

section
variable {xs : List Nat} {lim : Nat} {f : Nat → Int} {a : State × Nat} {x y : Nat}

theorem levelStep_raises (v : Nat × Int) : Raises 1 a.1 (levelStep a v).1 := by
  unfold levelStep
  split_ifs
  · exact markDefect_raises
  · exact Nat.le_succ _

theorem levelStep_only (hx : x ∈ xs) (hlt : x < pixAll) (v : Int) : LevelsOnly xs a.1 (levelStep a (x, v)).1 := by
  obtain ⟨-, hstatus, hcfg, -⟩ := proofDark_ne (i := 0) hlt
  unfold levelStep
  split_ifs
  · refine ⟨markDefect_proof, markDefect_sameMem, markDefect_busy hlt,
      markDefect_rd (defectLive_ne (mapWord_lt hlt)).2.2.symm (by decide) (by decide), fun y hy _ => ?_⟩
    obtain ⟨hdrop', hstatus', -, hlive⟩ := proofDark_ne hy
    exact markDefect_rd hlive hdrop' hstatus'
  · exact ⟨rfl, .of_eq rfl rfl rfl, bit_fw_ne hstatus.symm, rd_fw_ne _ _ _ _ hcfg.symm, fun y _ hn =>
      rd_fw_ne _ _ _ _ fun he => hn (by rwa [show y = x by grind])⟩

/-- Each pixel's step settles it. -/
theorem levelStep_shows (hlt : x < pixAll) (hlim : a.1.fd R.PROOF_DARK_CFG 31 16 = lim) : LevelShown lim f (levelStep a (x, f x)).1 x := by
  have honly := levelStep_only (a := a) (List.mem_singleton.mpr rfl) hlt (f x)
  have hmax : lim < 2 ^ 16 := hlim ▸ Nat.mod_lt _ (by decide)
  refine ⟨(fd_of_rd_eq honly.cfg _ _).trans hlim, fun hle => ?_, fun hlt' => ?_⟩
  · rw [levelStep, if_neg (by rw [hlim]; exact not_lt.mpr hle), fd_fw_same _ _ _ (by decide), Nat.mod_eq_of_lt]
    omega
  · rw [levelStep, if_pos (by rwa [hlim]), markedLive_markDefect hlt]
    simp

/-- No step takes back what another pixel's has settled. -/
theorem LevelShown.levelStep (h : LevelShown lim f a.1 x) (hx : x < pixAll) (hy : y < pixAll) :
    LevelShown lim f (levelStep a (y, f y)).1 x := by
  by_cases hxy : x = y
  · exact hxy ▸ levelStep_shows hx h.cfg
  have honly := levelStep_only (a := a) (List.mem_singleton.mpr rfl) hy (f y)
  refine ⟨(fd_of_rd_eq honly.cfg _ _).trans h.cfg, fun hle => ?_, fun hlt => ?_⟩
  · rw [fd_of_rd_eq (honly.dark x hx (by simpa using hxy)), h.stored hle]
  · rw [Machine.levelStep]
    split_ifs
    · rw [markedLive_markDefect hx, h.marked hlt, Bool.or_true]
    · exact (bit_fw_ne (proofDark_ne hy).2.2.2.symm).trans (h.marked hlt)

/-- All levels of a list of pixels. -/
def levelsOf (f : Nat → Int) (xs : List Nat) (a : State × Nat) : State × Nat := (xs.map fun x => (x, f x)).foldl levelStep a

theorem levelsOf_raises : Raises xs.length a.1 (levelsOf f xs a).1 := by
  induction xs generalizing a with
  | nil => exact Nat.le_refl _
  | cons y ys ih => exact ((levelStep_raises _).trans ih).mono (by rw [List.length_cons]; omega)

theorem levelsOf_only {all : List Nat} (hsub : xs ⊆ all) (hlt : ∀ x ∈ xs, x < pixAll) : LevelsOnly all a.1 (levelsOf f xs a).1 := by
  induction xs generalizing a with
  | nil => exact .refl _
  | cons y ys ih =>
    obtain ⟨hy, hys⟩ := List.cons_subset.mp hsub
    obtain ⟨hlty, hltys⟩ := List.forall_mem_cons.mp hlt
    exact (levelStep_only hy hlty _).trans (ih hys hltys)

theorem LevelShown.levelsOf (h : LevelShown lim f a.1 x) (hx : x < pixAll) (hlt : ∀ y ∈ xs, y < pixAll) :
    LevelShown lim f (levelsOf f xs a).1 x := by
  induction xs generalizing a with
  | nil => exact h
  | cons y ys ih =>
    obtain ⟨hlty, hltys⟩ := List.forall_mem_cons.mp hlt
    exact ih (h.levelStep hx hlty) hltys

theorem levelsOf_shows (hlt : ∀ y ∈ xs, y < pixAll) (hlim : a.1.fd R.PROOF_DARK_CFG 31 16 = lim) (hx : x ∈ xs) :
    LevelShown lim f (levelsOf f xs a).1 x := by
  induction xs generalizing a with
  | nil => cases hx
  | cons y ys ih =>
    obtain ⟨hlty, hltys⟩ := List.forall_mem_cons.mp hlt
    have hshown := levelStep_shows (f := f) hlty hlim
    rcases List.mem_cons.mp hx with rfl | hx
    · exact hshown.levelsOf hlty hltys
    · exact ih hltys hshown.cfg hx

end

/-! A capture ends (R224; 12 R336) -/

/-- The level of a pixel stands on the capture and on the gains of the array, not on PROOF_STATUS. -/
theorem capLevel_of_rd_eq {s t : State} (h : ∀ o, o ≠ R.PROOF_STATUS → t.rd o = s.rd o) (c : Capture) (x : Nat) :
    capLevel t c x = capLevel s c x := by
  have hmix : ∀ blk r n j, mixC t blk r n j = mixC s blk r n j := fun blk r n j => by
    rw [mixC, h _ (by grind), ← mixC]
  have hshade : t.fd (R.PROOF_SHADE x) 15 0 = s.fd (R.PROOF_SHADE x) 15 0 := fd_of_rd_eq (h _ (by grind)) _ _
  simp only [capLevel, hmix, hshade]

section
variable {s : State} (c : Capture)

theorem captureLeft_rd {o : Nat} (ho : o ≠ R.PROOF_STATUS) : (captureLeft c s).rd o = s.rd o :=
  (rd_fw_ne _ _ _ _ ho).trans (rd_of_regs_eq rfl o)

theorem levelsStored_eq : levelsStored c s = levelsOf (capLevel s c) (capPix c) (captureLeft c s, 0) := by
  rw [levelsStored, levelsOf, funext (capLevel_of_rd_eq (fun o => captureLeft_rd c (o := o)) c)]

end

/-- The end of a package's only capture, of one lane. -/
theorem endCapture_lane {s : State} {l : BitVec 10} {c : Capture} (hcaps : s.proof.caps = [c]) (hlane : c.lane = some l.toNat)
    (hroom : s.evt.queue.length < 1000) : (endCapture c s).proof.caps = [] ∧ (endCapture c s).bit R.PROOF_STATUS 3 = false
      ∧ Raised (endCapture c s) Ev.DARK_CAPTURED l.toNat
      ∧ (∀ x ∈ lanePix l.toNat, LevelShown (s.fd R.PROOF_DARK_CFG 31 16) (capLevel s c) (endCapture c s) x)
      ∧ (∀ x < pixAll, x ∉ lanePix l.toNat → (endCapture c s).rd (R.PROOF_DARK x) = s.rd (R.PROOF_DARK x))
      ∧ SameMem s (endCapture c s) := by
  have hpix : capPix c = lanePix l.toNat := by rw [capPix, hlane]
  have hlt : ∀ x ∈ lanePix l.toNat, x < pixAll := fun x hx => (lanePix_bounds hx).trans (by decide)
  have heq := levelsStored_eq (s := s) c
  rw [hpix] at heq
  have honly : LevelsOnly (lanePix l.toNat) (captureLeft c s) (levelsStored c s).1 :=
    heq ▸ levelsOf_only (a := (captureLeft c s, 0)) (List.Subset.refl _) hlt
  have hlim : (captureLeft c s).fd R.PROOF_DARK_CFG 31 16 = s.fd R.PROOF_DARK_CFG 31 16 := fd_of_rd_eq (captureLeft_rd c (by decide)) _ _
  have hshown : ∀ x ∈ lanePix l.toNat, LevelShown (s.fd R.PROOF_DARK_CFG 31 16) (capLevel s c) (levelsStored c s).1 x := fun x hx =>
    heq ▸ levelsOf_shows hlt hlim hx
  have hraises : Raises (lanePix l.toNat).length (captureLeft c s) (levelsStored c s).1 := heq ▸ levelsOf_raises
  have room : RoomFor (levelsStored c s).1 := hraises.roomFor ((length_lanePix _).trans (by decide)) hroom
  have hleft : (captureLeft c s).proof.caps = [] := by
    show s.proof.caps.filter (· != c) = []
    simp [hcaps]
  have hbusy : (captureLeft c s).bit R.PROOF_STATUS 3 = false := by
    rw [captureLeft, bit_fw le_rfl le_rfl (by decide)]
    simp [hcaps, b2n, bitOf]
  rw [endCapture_eq]
  generalize levelsStored c s = a at honly hshown room
  have hregs := ev_regs room Ev.DARK_CAPTURED (c.lane.getD 0xFFFF) [a.2]
  have hrd := rd_of_regs_eq hregs
  refine ⟨by rw [ev_proof, honly.proof, hleft], by rw [bit_of_rd_eq (hrd _), honly.busy, hbusy], ?_, fun x hx => ?_, fun x hx hn => ?_,
    (SameMem.of_eq rfl rfl rfl).trans (honly.mem.trans (ev_sameMem ..))⟩
  · have hraised := ev_raised room Ev.DARK_CAPTURED (c.lane.getD 0xFFFF) [a.2]
    rwa [show c.lane.getD 0xFFFF = l.toNat by rw [hlane]; rfl] at hraised ⊢
  · obtain ⟨hcfg, hstored, hmarked⟩ := hshown x hx
    exact ⟨(fd_of_rd_eq (hrd _) _ _).trans hcfg, fun hle => (fd_of_rd_eq (hrd _) _ _).trans (hstored hle),
      fun hgt => (bit_of_rd_eq (hrd _) _).trans (hmarked hgt)⟩
  · rw [hrd, honly.dark x hx hn, captureLeft_rd c (proofDark_ne (i := 0) hx).2.1]

/-- What a lane's captured dark frame comes to: its sweep, where the lane is vacated and waits for it (12 R336, R340). -/
def captureFollowed (l : BitVec 10) (s : State) : State :=
  match laneParts l.toNat with
  | some (tx, p, n) => vacSweep tx p n s
  | none => s

theorem captureFollowed_kept (l : BitVec 10) (s : State) : ArrayKept False s (captureFollowed l s) := by
  unfold captureFollowed
  split
  next tx p n hparts =>
    have := laneParts_bounds hparts
    exact (ArrayKept.refl s).vacSweep
  · exact .refl s

theorem nz_eq_max (n : Nat) : nz n = max 1 n := by
  unfold nz
  split_ifs <;> omega

theorem exec_darkCaptured {s : State} {l : BitVec 10} {c : Capture} (hcaps : s.proof.caps = [c]) (hlane : c.lane = some l.toNat)
    (hdone : max 1 (s.fd R.PROOF_DARK_CFG 3 0) ≤ c.done) :
    exec (.darkCaptured (some l)) s = .next (captureFollowed l (endCapture c s)) := by
  have hfind : s.proof.caps.find? (fun c => c.lane == some l.toNat) = some c := by simp [hcaps, hlane]
  have hend : ¬c.done < nz (s.fd R.PROOF_DARK_CFG 3 0) := by
    rw [nz_eq_max]
    exact not_lt.mpr hdone
  show execDarkCaptured (some l) s = _
  rw [execDarkCaptured, captureFollowed]
  simp only [Option.map_some, hfind, if_neg hend, Option.bind_some]
  cases laneParts l.toNat
  · simp [done]
  · rfl

theorem darkCaptured_runs {s : State} {l : BitVec 10} {c : Capture} (hcaps : s.proof.caps = [c]) (hlane : c.lane = some l.toNat)
    (hdone : max 1 (s.fd R.PROOF_DARK_CFG 3 0) ≤ c.done) (hroom : s.evt.queue.length < 1000) : Runs (.darkCaptured (some l)) s fun t =>
      t.proof.caps = [] ∧ t.bit R.PROOF_STATUS 3 = false ∧ Raised t Ev.DARK_CAPTURED l.toNat
        ∧ (∀ x ∈ lanePix l.toNat, capLevel s c x ≤ s.fd R.PROOF_DARK_CFG 31 16 →
            t.fd (R.PROOF_DARK x) 15 0 = (max 0 (capLevel s c x)).toNat)
        ∧ (∀ x ∈ lanePix l.toNat, (s.fd R.PROOF_DARK_CFG 31 16 : Int) < capLevel s c x → defective t x = true)
        ∧ (∀ x < pixAll, x ∉ lanePix l.toNat → t.rd (R.PROOF_DARK x) = s.rd (R.PROOF_DARK x)) ∧ SameMem s t := by
  obtain ⟨hempty, hbusy, hraised, hshown, hdark, hmem⟩ := endCapture_lane hcaps hlane hroom
  refine ⟨_, exec_darkCaptured hcaps hlane hdone, ?_⟩
  have hkept := captureFollowed_kept l (endCapture c s)
  generalize endCapture c s = u at hempty hbusy hraised hshown hdark hmem hkept
  have hrd := hkept.rd not_false
  have hdarkRd : ∀ x < pixAll, (captureFollowed l u).rd (R.PROOF_DARK x) = u.rd (R.PROOF_DARK x) := fun x hx => by
    unfold pixAll at hx
    exact hrd _ (by grind) (by grind)
  have hlt : ∀ x ∈ lanePix l.toNat, x < pixAll := fun x hx => (lanePix_bounds hx).trans (by decide)
  refine ⟨(hkept.caps not_false).trans hempty, (bit_of_rd_eq (hrd _ (by decide) (by decide)) _).trans hbusy, hkept.raised _ _ hraised,
    fun x hx hle => (fd_of_rd_eq (hdarkRd x (hlt x hx)) _ _).trans ((hshown x hx).stored hle), fun x hx hgt => ?_,
    fun x hx hn => (hdarkRd x hx).trans (hdark x hx hn), hmem.trans hkept.mem⟩
  have hword := mapWord_lt (hlt x hx)
  have hmark := (bit_of_rd_eq (hrd _ (by grind) (by grind)) _).trans ((hshown x hx).marked hgt)
  rw [defective, hmark, Bool.or_true]

theorem darkCaptured_idle {s : State} (l : Option (BitVec 10)) (hcaps : s.proof.caps = []) : exec (.darkCaptured l) s = .next s := by
  show execDarkCaptured l s = _
  simp only [execDarkCaptured, hcaps, List.find?_nil]
  rfl

/-! The telemetry period (R233) -/

/-- The links' sums and the snapshot of a period that ends. -/
def periodTurned (s : State) : State :=
  (s.uEvt fun e => { e with snap := some ((s.now / 8000000 + 2 ^ 32 - 1) % 2 ^ 32, s.proof.tcount) }).uLnk fun l =>
    { l with period := l.sums, sums := [] }

/-- What the lasers and the stacks make of a period's end (11 R300, R305, R306; 21 R550). -/
def periodChecked (counted : Bool) (s : State) : State := readDieCe ((lasPeriod counted s).uMem fun m => { m with storm := [] })

theorem periodChecked_kept (counted : Bool) (s : State) : ArrayKept True s (periodChecked counted s) :=
  (ArrayKept.refl s).lasPeriod.uMem.readDieCe

theorem exec_telemetryPeriodEnd (s : State) : exec .telemetryPeriodEnd s
    = .next (periodChecked (s.proof.tcount != 0) (telemEnd (periodTurned s))) := rfl

/-- The pixel words of a telemetry period. -/
def telemWords (s : State) : SMap Word := (List.range pixAll).map fun x => (x, telemPix s x)

theorem telemWords_at {s : State} {x : Nat} (hx : x < pixAll) : smGet (fun _ => (0 : Word)) (telemWords s) x = telemPix s x :=
  smGet_map_self _ _ (List.mem_range.mpr hx)

/-- The state once a telemetry period has left its packets, its means and its count. -/
def telemLeft (pk : List Out) (ts : List Int) (ws : SMap Word) (cnt : Nat) (s : State) : State :=
  ((s.uOut (· ++ pk)).wr R.PROOF_TELEM_CNT cnt).uProof fun t =>
    { t with telem := ws, telemTemp := ts, tsum := [], tcount := 0, ttemp := [] }

theorem telemLeft_leaves (pk : List Out) (ts : List Int) (ws : SMap Word) (cnt : Nat) (s : State) :
    (telemLeft pk ts ws cnt s).proof.telem = ws ∧ (telemLeft pk ts ws cnt s).proof.tcount = 0 ∧ (telemLeft pk ts ws cnt s).proof.tsum = []
      ∧ (telemLeft pk ts ws cnt s).lnk = s.lnk ∧ (telemLeft pk ts ws cnt s).fd R.PROOF_TELEM_CNT 15 0 = cnt % 2 ^ 16
      ∧ SameMem s (telemLeft pk ts ws cnt s) := by
  refine ⟨rfl, rfl, rfl, rfl, ?_, .of_eq rfl rfl rfl⟩
  rw [telemLeft, fd_of_rd_eq (rd_of_regs_eq (uProof_regs ..) _), State.fd, rd_wr, if_pos rfl, fieldOf_mod_word _ (by decide)]
  rfl

/-- The means of the period's TEMP readings. -/
def telemMeans (s : State) : List Int := (List.range 64).map fun j => tdivI (s.proof.ttemp.getD j 0) s.proof.tcount

/-- The packets of a telemetry period. -/
def telemPkts (s : State) : List Out :=
  rowPkts (fun x => smGet (fun _ => (0 : Word)) (telemWords s) x) 0x10 0x10 (proofFrame s)
    ++ [proofPkt 10 0x10 0 0 (proofFrame s) (tempWords (telemMeans s))]

/-- PROOF_TELEM_CNT of a period that ends: the second it began in, and its proofs. -/
def telemCnt (s : State) : Nat := (s.now / 8000000 + 65536 - 1) % 65536 * 65536 + satN 1023 s.proof.tcount

theorem telemCnt_mod (s : State) : telemCnt s % 2 ^ 16 = min 1023 s.proof.tcount := by
  rw [telemCnt, satN_eq_min]
  omega

theorem telemEnd_eq (s : State) : telemEnd s = telemLeft (telemPkts s) (telemMeans s) (telemWords s) (telemCnt s) s := by
  simp only [telemEnd, foldl_emit, telemLeft, telemPkts, telemMeans, telemWords, telemCnt, State.now, uOut_ct]

theorem fd_of_half (s : State) (off : Nat) : s.fd off 9 0 = s.fd off 15 0 % 2 ^ 10 :=
  (Nat.mod_mod_of_dvd _ (by decide)).symm

/-- A telemetry period ends: its means are left, and neither the laser checks nor the stacks' reports move them. -/
theorem telemetryPeriodEnd_runs (s : State) : Runs .telemetryPeriodEnd s fun t =>
    (∀ x < pixAll, smGet (fun _ => (0 : Word)) t.proof.telem x = telemPix s x) ∧ t.proof.tcount = 0 ∧ t.proof.tsum = []
      ∧ t.lnk.period = s.lnk.sums ∧ t.fd R.PROOF_TELEM_CNT 9 0 = min 1023 s.proof.tcount ∧ SameMem s t := by
  refine ⟨_, exec_telemetryPeriodEnd s, ?_⟩
  obtain ⟨htelem, hcount, hsum, hlnk, hcnt, hmem⟩ := telemLeft_leaves (telemPkts (periodTurned s)) (telemMeans (periodTurned s))
    (telemWords (periodTurned s)) (telemCnt (periodTurned s)) (periodTurned s)
  rw [← telemEnd_eq] at htelem hcount hsum hlnk hcnt hmem
  have hwords : ∀ x < pixAll, smGet (fun _ => (0 : Word)) (telemEnd (periodTurned s)).proof.telem x = telemPix s x := fun x hx => by
    rw [htelem, telemWords_at hx]
    rfl
  have hkept := periodChecked_kept (s.proof.tcount != 0) (telemEnd (periodTurned s))
  generalize telemEnd (periodTurned s) = u at hwords hcount hsum hlnk hcnt hmem hkept
  have hturned : SameMem s (periodTurned s) := .of_eq rfl rfl rfl
  rw [hkept.proof, fd_of_half, hkept.low _ (by decide) (by decide) (by decide), hcnt, telemCnt_mod, hkept.period, hlnk]
  refine ⟨hwords, hcount, hsum, rfl, ?_, hturned.trans (hmem.trans hkept.mem)⟩
  rw [periodTurned, uLnk_proof, uEvt_proof]
  omega

/-- Settles O26: orders denied or begun, a lane's capture that ends, and the end of a telemetry period. -/
theorem darkCapturesAndTelemetryPeriods : Obligations.DarkCapturesAndTelemetryPeriods :=
  ⟨fun _ _ _ hreach h room => ⟨_, darkCmd_denied hreach h, deny_leaves room ..⟩,
    fun s _ _ hreach hhost hok hdom => ⟨_, darkCmd_starts hreach hhost hok hdom, startCapture_runs _ s⟩,
    fun _ _ _ => darkCaptured_runs, fun _ => darkCaptured_idle, telemetryPeriodEnd_runs⟩

end Sys2Proof.Machine
end

section
/-! int32 arithmetic and the registers of a loop (00 R10; 09 Table 9.4, Table 9.5; 10 R287). -/

namespace Sys2Proof.Machine

/-! int32 (00 R10) -/

/-- A 32-bit number read as a signed integer is its balanced remainder. -/
theorem sgn_eq_bmod (x : Nat) : sgn 32 x = (x : Int).bmod (2 ^ 32) := by
  unfold sgn Int.bmod
  dsimp only
  split_ifs <;> omega

theorem i32_eq_bmod (x : Int) : i32 x = x.bmod (2 ^ 32) := by
  have hwrap : ((wrapN 32 x : Nat) : Int) = x % ((2 ^ 32 : Nat) : Int) := Int.toNat_of_nonneg (Int.emod_nonneg x (by decide))
  rw [i32, sgn_eq_bmod, hwrap, Int.emod_bmod]

theorem i32_sgn (x : Nat) : i32 (sgn 32 x) = sgn 32 x := by rw [i32_eq_bmod, sgn_eq_bmod, Int.bmod_bmod]

theorem i32_i32 (x : Int) : i32 (i32 x) = i32 x := i32_sgn _

/-- A wrapped term of a sum may stay unwrapped: only the sum's wrap counts. -/
theorem i32_i32_add (x y : Int) : i32 (i32 x + y) = i32 (x + y) := by
  simp only [i32_eq_bmod, Int.bmod_add_bmod]

theorem wrapN_bmod (x : Int) : wrapN 32 (x.bmod (2 ^ 32)) = wrapN 32 x := by
  unfold wrapN
  rw [Int.bmod_emod]

theorem wrapN_sgn {x : Nat} (h : x < 2 ^ 32) : wrapN 32 (sgn 32 x) = x := by
  rw [sgn_eq_bmod, wrapN_bmod, wrapN]
  omega

/-! Where a loop's words lie (09 R262, Table 9.4, Table 9.5; 10 R287) -/

/-- A coefficient block starts in its engine's loop area, and its words follow one another. -/
theorem coefOff_parts (e : Nat) {l : Nat} (hl : l < 140) :
    ∃ b, 0x1000 ≤ b ∧ b + 0x100 ≤ 0xA400 ∧ ∀ w, coefOff e l w = 0x100000 + 0x10000 * e + b + 4 * w := by
  unfold coefOff
  split_ifs
  · exact ⟨0x1000 + 0x100 * l, by omega, by omega, fun w => by omega⟩
  · exact ⟨0x5000 + 0x100 * (l - 56), by omega, by omega, fun w => by omega⟩

theorem coefOff_inj {e l w v : Nat} (h : coefOff e l w = coefOff e l v) : w = v := by
  unfold coefOff at h
  omega

/-- The word of STY_HOLD_MAP that shows a loop. -/
def holdWord (l : Nat) : Nat := if l < 56 then l / 32 else 2 + (l - 56) / 32

/-- The bit of that word. -/
def holdBit (l : Nat) : Nat := if l < 56 then l % 32 else (l - 56) % 32

theorem holdBit_lt (l : Nat) : holdBit l < 32 := by
  unfold holdBit
  split_ifs <;> omega

theorem holdWord_lt {l : Nat} (hl : l < 140) : holdWord l < 5 := by
  unfold holdWord
  split_ifs <;> omega

/-- The registers in which a slot shows its loop and its engine. -/
def shownRegs (e l : Nat) : List Nat :=
  [coefOff e l 13, R.STY_STATUS e, R.STY_SUP_STATUS e, R.STY_SUP_RESID e l, R.STY_HOLD_MAP e (holdWord l)]

theorem not_mem_shownRegs {e l o : Nat} (hcoef : o ≠ coefOff e l 13) (hst : o ≠ 0x100000 + 0x10000 * e) (hsup : o ≠ 0x100400 + 0x10000 * e)
    (hres : o ≠ 0x10B600 + 0x10000 * e + 0x4 * l) (hmap : o ≠ 0x100020 + 0x10000 * e + 0x4 * holdWord l) : o ∉ shownRegs e l := by
  simp only [shownRegs, List.mem_cons, List.not_mem_nil, or_false, not_or]
  exact ⟨hcoef, hst, hsup, hres, hmap⟩

theorem coefOff_not_shown {e l w : Nat} (hl : l < 140) (hw : w < 64) (h : w ≠ 13) : coefOff e l w ∉ shownRegs e l := by
  obtain ⟨b, hlo, hhi, hb⟩ := coefOff_parts e hl
  have := holdWord_lt hl
  apply not_mem_shownRegs <;> rw [hb] <;> grind

/-- A register of the engine's tools, or of another block, is not among them. -/
theorem not_shown_of_range {e l o : Nat} (hl : l < 140) (he : e < 16)
    (h : o < 0x100000 ∨ 0x200000 ≤ o ∨ (0x100408 + 0x10000 * e ≤ o ∧ o < 0x100500 + 0x10000 * e)) : o ∉ shownRegs e l := by
  obtain ⟨b, hlo, hhi, hb⟩ := coefOff_parts e hl
  have := holdWord_lt hl
  refine not_mem_shownRegs ?_ ?_ ?_ ?_ ?_
  · rw [hb]
    omega
  all_goals omega

end Sys2Proof.Machine
end

section
/-! A loop's slot apart from its law (09 R242, R248; 10 R264–R284): what stands before the sample, and what follows it where no relay, model
check, roll or trace is at work. -/

namespace Sys2Proof.Machine

/-! A loop's state -/

theorem lp_setLp_same (s : State) (e l : Nat) (x : LoopSt) : (s.setLp e l x).lp e l = x := by
  rw [State.lp, State.setLp, uSty_sty, smGet_smSet, if_pos rfl]

/-- The supervisor's holds are the loop's two, a TEC's fault and a bank's safe power. -/
theorem supHeld_congr {s t : State} {e l : Nat} (hhold : (t.lp e l).hold = (s.lp e l).hold)
    (hwrap : (t.lp e l).wrapHold = (s.lp e l).wrapHold) (htec : t.rd R.TEC_FAULT = s.rd R.TEC_FAULT)
    (hlas : t.rd R.LAS_STATUS = s.rd R.LAS_STATUS) : supHeld t e l = supHeld s e l := by
  unfold supHeld
  dsimp only
  rw [hhold, hwrap, fd_of_rd_eq htec, bit_of_rd_eq hlas]

/-- The causes that hold a sample are CTL's, the proof's and the supervisor's. -/
theorem holdCauses_congr {s t : State} {e l : Nat} (hctl : t.coef e l 0 = s.coef e l 0) (hsrc : t.coef e l 1 = s.coef e l 1)
    (hproof : t.proof = s.proof) (hsup : supHeld t e l = supHeld s e l) : holdCauses t e l = holdCauses s e l := by
  have hmode : loopMode t e l = loopMode s e l := by rw [loopMode, hsrc, hctl, loopMode]
  have hlive : slotProof t l = slotProof s l := by
    unfold slotProof
    rw [hproof]
  rw [holdCauses, hmode, hlive, hsup, bit_of_rd_eq hctl, holdCauses]

/-- From s to t only states of loops differ. -/
def LoopsOnly (s t : State) : Prop := t = { s with sty := { s.sty with loops := t.sty.loops } }

namespace LoopsOnly

variable {s t u : State}

theorem refl (s : State) : LoopsOnly s s := rfl

theorem trans (h : LoopsOnly s t) (g : LoopsOnly t u) : LoopsOnly s u := by
  unfold LoopsOnly at *
  rw [g, h]

theorem setLp (h : LoopsOnly s t) (e l : Nat) (x : LoopSt) : LoopsOnly s (t.setLp e l x) := h.trans rfl

theorem regs (h : LoopsOnly s t) : t.regs = s.regs := by rw [h]

theorem evt (h : LoopsOnly s t) : t.evt = s.evt := by rw [h]

theorem out (h : LoopsOnly s t) : t.out = s.out := by rw [h]

theorem proof (h : LoopsOnly s t) : t.proof = s.proof := by rw [h]

theorem pins (h : LoopsOnly s t) : t.pins = s.pins := by rw [h]

theorem ct (h : LoopsOnly s t) : t.ct = s.ct := by rw [h]

theorem engs (h : LoopsOnly s t) : t.sty.engs = s.sty.engs := by rw [h]

theorem sameMem (h : LoopsOnly s t) : SameMem s t := by
  rw [h]
  exact .of_eq rfl rfl rfl

theorem coef (h : LoopsOnly s t) (e l w : Nat) : t.coef e l w = s.coef e l w := rd_of_regs_eq h.regs _

theorem eng (h : LoopsOnly s t) (e : Nat) : t.eng e = s.eng e := by rw [State.eng, h.engs, State.eng]

theorem trState (h : LoopsOnly s t) (e : Nat) : trState t e = trState s e := fd_of_rd_eq (rd_of_regs_eq h.regs _) _ _

theorem holdCauses (h : LoopsOnly s t) {e l : Nat} (hhold : (t.lp e l).hold = (s.lp e l).hold)
    (hwrap : (t.lp e l).wrapHold = (s.lp e l).wrapHold) : holdCauses t e l = holdCauses s e l :=
  holdCauses_congr (h.coef ..) (h.coef ..) h.proof (supHeld_congr hhold hwrap (rd_of_regs_eq h.regs _) (rd_of_regs_eq h.regs _))

end LoopsOnly

theorem trState_setLp (s : State) (e l : Nat) (x : LoopSt) (d : Nat) : trState (s.setLp e l x) d = trState s d :=
  ((LoopsOnly.refl s).setLp e l x).trState d

/-- What a sample makes of a loop, apart from its supervision and its counts of samples: code, guard, roll and holds. -/
def loopOut (x : LoopSt) : Nat × Nat × Bool × Bool × Bool := (x.dac, x.guard, x.rolling, x.hold, x.wrapHold)

/-- From s to t a loop's output stands, and so do the rings, the array, events, outputs and memory, and every register but those that show
the loop. -/
structure SlotKept (e l : Nat) (s t : State) : Prop where
  regs : RegsKept (shownRegs e l) s t
  loop : loopOut (t.lp e l) = loopOut (s.lp e l)
  engs : t.sty.engs = s.sty.engs
  proof : t.proof = s.proof
  evt : t.evt = s.evt
  out : t.out = s.out
  mem : SameMem s t

namespace SlotKept

variable {e l : Nat} {s t u : State}

theorem refl (s : State) : SlotKept e l s s := ⟨.of_regs_eq _ rfl, rfl, rfl, rfl, rfl, rfl, .of_eq rfl rfl rfl⟩

theorem trans (h : SlotKept e l s t) (g : SlotKept e l t u) : SlotKept e l s u where
  regs o ho := (g.regs o ho).trans (h.regs o ho)
  loop := g.loop.trans h.loop
  engs := g.engs.trans h.engs
  proof := g.proof.trans h.proof
  evt := g.evt.trans h.evt
  out := g.out.trans h.out
  mem := h.mem.trans g.mem

theorem setLp (s : State) {x : LoopSt} (hx : loopOut x = loopOut (s.lp e l)) : SlotKept e l s (s.setLp e l x) :=
  ⟨.of_regs_eq _ rfl, by rw [lp_setLp_same, hx], rfl, rfl, rfl, rfl, .of_eq rfl rfl rfl⟩

theorem wr (s : State) {off : Nat} (ho : off ∈ shownRegs e l) (v : Nat) : SlotKept e l s (s.wr off v) :=
  ⟨(RegsKept.of_regs_eq _ rfl).wr ho v, rfl, rfl, rfl, rfl, rfl, .of_eq rfl rfl rfl⟩

theorem fw (s : State) {off : Nat} (ho : off ∈ shownRegs e l) (hi lo v : Nat) : SlotKept e l s (s.fw off hi lo v) := wr s ho _

theorem uTec (s : State) (g : List TecSt → List TecSt) : SlotKept e l s (s.uTec g) :=
  ⟨.of_regs_eq _ rfl, rfl, rfl, rfl, rfl, rfl, .of_eq rfl rfl rfl⟩

theorem dac (h : SlotKept e l s t) : (t.lp e l).dac = (s.lp e l).dac := congrArg (·.1) h.loop

theorem guard (h : SlotKept e l s t) : (t.lp e l).guard = (s.lp e l).guard := congrArg (·.2.1) h.loop

theorem rolling (h : SlotKept e l s t) : (t.lp e l).rolling = (s.lp e l).rolling := congrArg (·.2.2.1) h.loop

theorem coef (h : SlotKept e l s t) (hl : l < 140) {w : Nat} (hw : w < 64 := by decide) (hne : w ≠ 13 := by decide) :
    t.coef e l w = s.coef e l w := h.regs _ (coefOff_not_shown hl hw hne)

theorem supHeld (h : SlotKept e l s t) (hl : l < 140) (he : e < 16) : supHeld t e l = supHeld s e l :=
  supHeld_congr (congrArg (·.2.2.2.1) h.loop) (congrArg (·.2.2.2.2) h.loop) (h.regs _ (not_shown_of_range hl he (.inl (by decide))))
    (h.regs _ (not_shown_of_range hl he (.inl (by decide))))

/-- The causes that hold a sample are none of what a slot shows. -/
theorem holdCauses (h : SlotKept e l s t) (hl : l < 140) (he : e < 16) : holdCauses t e l = holdCauses s e l :=
  holdCauses_congr (h.coef hl) (h.coef hl) h.proof (h.supHeld hl he)

end SlotKept

/-! What follows the sample -/

section
variable {e l : Nat} {s : State}

theorem lockCount_kept (err : Int) : SlotKept e l s (lockCount e l err s) := .setLp _ rfl

theorem bandCount_kept (err : Int) : SlotKept e l s (bandCount e l err s) := by
  unfold bandCount
  split_ifs
  · exact .refl s
  · exact .uTec ..

theorem slipNone_kept : SlotKept e l s (slipNone e l s) := by
  unfold slipNone
  split_ifs
  · exact .refl s
  · exact .setLp _ rfl

/-- Slips are counted only on a ring whose lane is LIVE or EXPRESS (10 R269). -/
theorem slipCheck_kept {st : Nat} (hst : isRing l = true → st ≠ 3 ∧ st ≠ 4) (err : Int) (mis : Bool) :
    SlotKept e l s (slipCheck e l st err mis s) := by
  unfold slipCheck
  split
  · exact .refl s
  next lane _ =>
    dsimp only
    by_cases hring : isRing l = true
    · obtain ⟨h3, h4⟩ := hst hring
      rw [if_neg (by simp [hring]), if_pos (by simp [h3, h4])]
      exact slipNone_kept
    · rw [if_pos (by simpa using hring)]
      exact .refl s

theorem traceSample_idle (h : trState s e = 0) (nd : Nodes) (special : Bool) : traceSample e l nd special s = s := by
  unfold traceSample
  dsimp only
  rw [if_pos (by omega)]

theorem trState_kept {t : State} (h : SlotKept e l s t) (hl : l < 140) (he : e < 16) : trState t e = trState s e :=
  fd_of_rd_eq (h.regs _ (not_shown_of_range hl he (.inr (.inr (by grind))))) _ _

theorem loopState_kept (h : Bool × Bool × Bool) : SlotKept e l s (loopState e l h s) := .wr _ (by simp [shownRegs]) _

theorem holdMap_eq (held : Bool) :
    holdMap e l held s = s.fw (R.STY_HOLD_MAP e (holdWord l)) (holdBit l) (holdBit l) (b2n held) := by
  unfold holdMap holdWord holdBit
  split_ifs <;> rfl

theorem holdMap_kept (held : Bool) : SlotKept e l s (holdMap e l held s) := by
  rw [holdMap_eq]
  exact .fw _ (by simp [shownRegs]) _ _ _

theorem holdShow_kept (h : Bool × Bool × Bool) : SlotKept e l s (holdShow e l h s) := (loopState_kept h).trans (holdMap_kept _)

theorem engineCounts_kept : SlotKept e l s (engineCounts e s) :=
  (SlotKept.fw _ (by simp [shownRegs]) _ _ _).trans (.fw _ (by simp [shownRegs]) _ _ _)

/-- A loop's slot ends: STATE, the hold map and the engine's counts show where it stands. -/
def slotShown (e l : Nat) (s : State) : State := engineCounts e (holdShow e l (holdCauses s e l) s)

theorem slotShown_kept : SlotKept e l s (slotShown e l s) := (holdShow_kept _).trans engineCounts_kept

/-- A register that neither STATE's word nor the engine's two counts occupy reads after the counts as before them. -/
theorem rd_engineCounts_ne {o : Nat} (hst : o ≠ R.STY_STATUS e) (hsup : o ≠ R.STY_SUP_STATUS e) : (engineCounts e s).rd o = s.rd o :=
  (rd_fw_ne _ _ _ _ hsup).trans (rd_fw_ne _ _ _ _ hst)

theorem b2n_le (c : Bool) : b2n c ≤ 1 := by cases c <;> decide

theorem rd_state_shown (hl : l < 140) (h : Bool × Bool × Bool) : (engineCounts e (holdShow e l h s)).rd (coefOff e l 13)
    = (s.lp e l).guard % 16 * 65536 + 256 * b2n h.1 + 512 * b2n h.2.1 + 1024 * b2n h.2.2 := by
  obtain ⟨b, hlo, hhi, hb⟩ := coefOff_parts e hl
  have := holdWord_lt hl
  have := b2n_le h.1
  have := b2n_le h.2.1
  have := b2n_le h.2.2
  rw [rd_engineCounts_ne (by rw [hb]; grind) (by rw [hb]; grind), holdShow, holdMap_eq, rd_fw_ne _ _ _ _ (by rw [hb]; grind), loopState,
    rd_wr, if_pos rfl]
  omega

/-- HOLD_CAUSE reads the three causes (09 Table 9.5). -/
theorem fd_state_shown (hl : l < 140) (h : Bool × Bool × Bool) : (engineCounts e (holdShow e l h s)).fd (coefOff e l 13) 10 8
    = b2n h.1 + 2 * b2n h.2.1 + 4 * b2n h.2.2 := by
  have := b2n_le h.1
  have := b2n_le h.2.1
  have := b2n_le h.2.2
  rw [State.fd, rd_state_shown hl, fieldOf, Nat.shiftRight_eq_div_pow]
  omega

/-- The hold map shows whether a cause holds the loop (09 Table 9.4). -/
theorem bit_holdMap_shown (h : Bool × Bool × Bool) (hl : l < 140) :
    (engineCounts e (holdShow e l h s)).bit (R.STY_HOLD_MAP e (holdWord l)) (holdBit l) = (h.1 || h.2.1 || h.2.2) := by
  have := holdWord_lt hl
  rw [bit_of_rd_eq (rd_engineCounts_ne (by grind) (by grind)), holdShow, holdMap_eq, bit_fw le_rfl le_rfl (holdBit_lt l), Nat.sub_self,
    Nat.add_sub_cancel_left]
  cases h.1 || h.2.1 || h.2.2 <;> rfl

end

/-! What stands before the sample -/

/-- Nothing attends to a loop's slot but the law of its mode: no relay, no reseed, no model check, no trace. -/
structure Unattended (s : State) (e l : Nat) : Prop where
  relay : (s.eng e).relay = none
  reseed : (s.lp e l).reseed = false
  check : s.bit (supOff e l 0) 2 = false
  trace : trState s e = 0

/-- The loop as its sample finds it: the supervision words noted, the anchor to be taken anew. -/
def primed (e l : Nat) (s : State) : State := (supTake e l s).setLp e l { (supTake e l s).lp e l with anchor := true }

theorem supTake_kept (e l : Nat) (s : State) : SlotKept e l s (supTake e l s) := .setLp _ rfl

theorem primed_only (e l : Nat) (s : State) : LoopsOnly s (primed e l s) := ((LoopsOnly.refl s).setLp ..).setLp ..

theorem primed_kept (e l : Nat) (s : State) : SlotKept e l s (primed e l s) := (supTake_kept e l s).trans (.setLp _ rfl)

section
variable {s : State} {e l : Nat}

theorem wqRefill_vacated : (wqRefill e s).sty.vacated = s.sty.vacated := by
  unfold wqRefill
  split
  · dsimp only
    split_ifs <;> rfl
  · rfl

theorem rollSlot_applyWord : rollSlot (applyWord e l s) e l = rollSlot s e l := by
  have hstands : (applyWord e l s).sty.vacated = s.sty.vacated := by
    unfold applyWord
    dsimp only
    split
    next w v q _ =>
      rw [wqRefill_vacated]
      generalize Nat.land v.toNat (maskOf (coefOff e l w)) = kept
      rfl
    · rfl
  rw [rollSlot, hstands, rollSlot]

theorem reseed_idle (h : (s.lp e l).reseed = false) : reseed e l s = s := by
  simp [reseed, h]

theorem scheduledRoll_idle (h : rollSlot s e l = false) : scheduledRoll e l s = s := by
  simp [scheduledRoll, h]

theorem relayCount_idle (h : (s.eng e).relay = none) : relayCount e l s = s := by
  simp [relayCount, h]

theorem rollSlot_supTake : rollSlot (supTake e l s) e l = rollSlot s e l := by
  simp [rollSlot, supTake, State.setLp]

theorem slotStart_eq (h : Unattended (applyWord e l s) e l) (hroll : rollSlot s e l = false) :
    slotStart e l s = supTake e l (applyWord e l s) := by
  have hrelay : ((supTake e l (applyWord e l s)).eng e).relay = none := h.relay
  rw [← rollSlot_applyWord, ← rollSlot_supTake] at hroll
  rw [slotStart, reseed_idle h.reseed, scheduledRoll_idle hroll, relayCount_idle hrelay]
  simp [hrelay]

theorem slotCheck_eq (h : s.bit (supOff e l 0) 2 = false) (m : Int) :
    slotCheck e l m (supTake e l s) = (primed e l s, 0, false) := by
  have hoff : (supTake e l s).bit (supOff e l 0) 2 = false := h
  simp [slotCheck, hoff, primed]

/-- A cause holds the loop. -/
def isHeld (s : State) (e l : Nat) : Bool := (holdCauses s e l).1 || (holdCauses s e l).2.1 || (holdCauses s e l).2.2

theorem isHeld_iff : isHeld s e l = true ↔ holdCauses s e l ≠ (false, false, false) := by
  unfold isHeld
  obtain ⟨_ | _, _ | _, _ | _⟩ := holdCauses s e l <;> decide

/-- The error of a sample (09 R244, R245). -/
def errOf (s : State) (e l : Nat) : Int := i32 (s.coefI e l 2 - measure s e l)

/-- The state, nodes and roll that the law of the loop's mode gives. -/
def lawOf (e l : Nat) (s : State) : State × Nodes × Bool := slotLaw e l (isHeld s e l) (measure s e l) (errOf s e l) (primed e l s)

/-- The slot of a loop that nothing attends to is the law of its mode, and then what the loop shows. -/
theorem slotSample_unattended (hl : l < 140) (he : e < 16) {a : State} (ha : applyWord e l s = a) (h : Unattended a e l)
    (hroll : rollSlot s e l = false)
    (hlane : isHeld a e l = false → isRing l = true → loopLaneSt a e l ≠ 3 ∧ loopLaneSt a e l ≠ 4)
    {u : State} (hlaw : (lawOf e l a).1 = u) (htrace : trState u e = 0) (hrelay : isHeld a e l = true → (u.eng e).relay = none) :
    ∃ w, SlotKept e l u w ∧ slotSample e l s = slotShown e l w := by
  have hstart := slotStart_eq (ha ▸ h) hroll
  rw [ha] at hstart
  unfold slotSample
  extract_lets first b run h0 guarded st m err en
  have hb : b = supTake e l a := hstart
  clear_value b
  subst b
  rw [slotCheck_eq h.check]
  dsimp -zeta only
  extract_lets c held s1 slipBefore s2 s3 s4 slip s5 s6 s7
  have hheld : held = isHeld a e l := by
    show isHeld (primed e l a) e l = isHeld a e l
    rw [isHeld, (primed_kept e l a).holdCauses hl he, isHeld]
  have hsame : (h0.1 || h0.2.1 || h0.2.2) = held := by
    show isHeld (supTake e l a) e l = held
    rw [hheld, isHeld, (supTake_kept e l a).holdCauses hl he, isHeld]
  have hen : en = false := h.check
  have h1 : s1 = u := by
    have hu : (slotLaw e l held m err (primed e l a)).1 = u := by rw [hheld, ← hlaw]; rfl
    show (if _ then _ else _) = u
    rw [hu, if_neg]
    rintro ⟨hh, hr⟩
    rw [hrelay (hheld ▸ hh)] at hr
    exact nomatch hr
  have h2 : s2 = u := (if_neg (by rw [show first = false from hroll]; simp)).trans h1
  have h3 : SlotKept e l u s3 := by
    show SlotKept e l u (if _ then _ else _)
    rw [h2]
    split_ifs
    · exact (lockCount_kept err).trans (bandCount_kept err)
    · exact .refl u
  have h4 : SlotKept e l u s4 := by
    show SlotKept e l u (if _ then _ else _)
    split_ifs with hslips
    · have hfree : isHeld a e l = false := by
        rw [hsame, hheld] at hslips
        simp at hslips
        exact hslips.1.2
      exact h3.trans (slipCheck_kept (hlane hfree) err false)
    · exact h3.trans slipNone_kept
  have h5 : s5 = s4 := if_neg (by simp [hen])
  have h6 : s6 = s4 := (traceSample_idle (by rw [h5, trState_kept h4 hl he, htrace]) _ _).trans h5
  have h7 : s7 = s6.fw (R.STY_SUP_RESID e l) 1 1 (b2n (s6.lp e l).slipped) := if_neg (by simp [hen])
  refine ⟨s7, ?_, rfl⟩
  rw [h7, h6]
  exact h4.trans (.fw _ (by simp [shownRegs]) _ _ _)

end

end Sys2Proof.Machine
end

section
/-! One sample of a loop (09 R245–R248, R254): the law in RUN, the other modes, a held sample, and a queued word. -/

namespace Sys2Proof.Machine

variable {s : State} {e l : Nat}

/-! A slot in which the law acts alone -/

theorem applyWord_of_none (h : (takeWord l (s.eng e).wq).1 = none) : applyWord e l s = s := by
  unfold applyWord
  dsimp only
  split
  next w v q hq => rw [hq] at h; exact nomatch h
  · rfl

theorem lawAlone_unattended (h : LawAlone s e l) : Unattended s e l := by
  obtain ⟨-, -, -, hrelay, hreseed, -, hcheck, htrace, -⟩ := h
  exact ⟨hrelay, hreseed, hcheck, htrace⟩

/-- The lane whose ring the loop is neither LIVE nor EXPRESS. -/
theorem lawAlone_lane (h : LawAlone s e l) (hring : isRing l = true) : loopLaneSt s e l ≠ 3 ∧ loopLaneSt s e l ≠ 4 := by
  obtain ⟨-, -, -, -, -, -, -, -, hlane⟩ := h
  have hst := hlane hring
  unfold loopLaneSt
  split
  next lane tx p n hlane =>
    rw [hlane] at hst
    exact hst (tx, p, n) (by simp)
  · decide

/-- Such a slot is the law of the loop's mode, and then what the loop shows. -/
theorem lawAlone_slot (h : LawAlone s e l) (hl : l < 140) (he : e < 16) {u : State} (hlaw : (lawOf e l s).1 = u) (htrace : trState u e = 0)
    (hrelay : isHeld s e l = true → (u.eng e).relay = none) : ∃ w, SlotKept e l u w ∧ slotSample e l s = slotShown e l w := by
  have hun := lawAlone_unattended h
  have hlane := lawAlone_lane h
  obtain ⟨-, -, hword, -, -, hroll, -⟩ := h
  exact slotSample_unattended hl he (applyWord_of_none hword) hun hroll (fun _ => hlane) hlaw htrace hrelay

theorem exec_stylusSlot {e : Fin 16} {l : Fin 140} (hrun : engineRuns s e = true) (hid : loopId e l ≠ 0xFFF) :
    exec (.stylusSlot e l) s = .next (slotSample e l s) :=
  if_neg (by simp [hrun, hid])

/-! The values of a sample in RUN (R245) -/

/-- i after a sample. -/
def integOf (s : State) (e l : Nat) : Int := i32 (s.coefI e l 10 + lawD s e l (errOf s e l))

/-- OUT after a sample. -/
def outOf (s : State) (e l : Nat) : Int := i32 (lawBase s e l (integOf s e l) + lawP s e l (errOf s e l))

/-! What the write of a sample's output leaves (R248) -/

/-- From b to t a sample has been written: i, OUT and the code, ERR where it has one; guard, roll, events, outputs and memory stand, and every
register but those of the sample. -/
structure Wrote (e l : Nat) (i out : Int) (err : Option Int) (b t : State) : Prop where
  integ : t.coef e l 10 = wrapN 32 i
  output : t.coef e l 11 = wrapN 32 out
  err : t.coef e l 12 = (err.map (wrapN 32)).getD (b.coef e l 12)
  dac : (t.lp e l).dac = dacOf out
  guard : (t.lp e l).guard = (b.lp e l).guard
  rolling : (t.lp e l).rolling = (b.lp e l).rolling
  regs : RegsKept ([coefOff e l 10, coefOff e l 11, coefOff e l 12] ++ shownRegs e l) b t
  evt : t.evt = b.evt
  outs : t.out = b.out
  mem : SameMem b t

theorem coefOff_ne {w v : Nat} (h : w ≠ v) : coefOff e l w ≠ coefOff e l v := fun heq => h (coefOff_inj heq)

/-- The registers of a sample's output: i, then OUT, then ERR. -/
theorem rd_writeOut (i out : Int) (err : Option Int) (b : State) (o : Nat) : (writeOut e l i out err b).rd o =
    if o = coefOff e l 12 then (err.map (wrapN 32)).getD (b.rd o)
    else if o = coefOff e l 11 then wrapN 32 out else if o = coefOff e l 10 then wrapN 32 i else b.rd o := by
  have h12 : coefOff e l 12 ≠ coefOff e l 11 := coefOff_ne (by decide)
  have h12' : coefOff e l 12 ≠ coefOff e l 10 := coefOff_ne (by decide)
  have hset : ∀ (u : State) x, (u.setLp e l x).rd o = u.rd o := fun _ _ => rfl
  cases err <;> simp only [writeOut, hset, rd_wr, wrapN_mod, Option.map, Option.getD]
  all_goals split_ifs <;> simp_all

theorem wrote_of_kept (hl : l < 140) {i out : Int} {err : Option Int} {b t : State} (h : SlotKept e l (writeOut e l i out err b) t) :
    Wrote e l i out err b t := by
  have hloop : (writeOut e l i out err b).lp e l = { b.lp e l with dac := dacOf out } := by
    unfold writeOut
    cases err <;> exact lp_setLp_same ..
  have hevt : (writeOut e l i out err b).evt = b.evt := by cases err <;> rfl
  have hout : (writeOut e l i out err b).out = b.out := by cases err <;> rfl
  have hmem : SameMem b (writeOut e l i out err b) := by cases err <;> exact .of_eq rfl rfl rfl
  refine ⟨?_, ?_, ?_, h.dac.trans (congrArg (·.dac) hloop),
    h.guard.trans (congrArg (·.guard) hloop), h.rolling.trans (congrArg (·.rolling) hloop), fun o ho => ?_, h.evt.trans hevt, h.out.trans hout,
    hmem.trans h.mem⟩
  · rw [h.coef hl, State.coef, rd_writeOut, if_neg (coefOff_ne (by decide)), if_neg (coefOff_ne (by decide)), if_pos rfl]
  · rw [h.coef hl, State.coef, rd_writeOut, if_neg (coefOff_ne (by decide)), if_pos rfl]
  · rw [h.coef hl, State.coef, rd_writeOut, if_pos rfl, State.coef]
  · simp only [List.mem_append, List.mem_cons, List.not_mem_nil, or_false, not_or] at ho
    obtain ⟨⟨h10, h11, h12⟩, hshown⟩ := ho
    rw [h.regs o hshown, rd_writeOut, if_neg h12, if_neg h11, if_neg h10]

theorem trState_writeOut (hl : l < 140) (i out : Int) (err : Option Int) (b : State) : trState (writeOut e l i out err b) e = trState b e := by
  obtain ⟨c, hlo, hhi, hc⟩ := coefOff_parts e hl
  refine fd_of_rd_eq ?_ _ _
  rw [rd_writeOut, if_neg (by rw [hc]; grind), if_neg (by rw [hc]; grind), if_neg (by rw [hc]; grind)]

/-! The law, case by case -/

/-- A held sample counts the guard down and writes nothing (R248). -/
def heldLoop (e l : Nat) (s : State) : State :=
  (primed e l s).setLp e l { (primed e l s).lp e l with guard := ((primed e l s).lp e l).guard - 1, lk := 0 }

theorem lawOf_held (h : isHeld s e l = true) : (lawOf e l s).1 = heldLoop e l s := by
  unfold lawOf slotLaw
  dsimp only
  rw [if_pos h]
  rfl

theorem lawOf_run (h : isHeld s e l = false) (hmode : loopMode s e l = 1) :
    lawOf e l s = runSample e l (measure s e l) (errOf s e l) (primed e l s) := by
  unfold lawOf slotLaw
  dsimp only
  rw [if_neg (by simp [h])]
  exact if_pos hmode

/-- Guard samples are left (R251). -/
def guarded (s : State) (e l : Nat) : Bool := (s.lp e l).guard != 0

/-- p of a sample in RUN: none under a guard (R251). -/
def stepP (s : State) (e l : Nat) (err : Int) : Int := if guarded s e l then 0 else lawP s e l err

/-- The increment of a sample in RUN: none under a guard. -/
def stepD (s : State) (e l : Nat) (err : Int) : Int := if guarded s e l then 0 else lawD s e l err

/-- i of a sample in RUN. -/
def stepI (s : State) (e l : Nat) (err : Int) : Int := i32 (s.coefI e l 10 + stepD s e l err)

/-- The output of a sample in RUN, before what a wrap makes of it. -/
def stepOut (s : State) (e l : Nat) (err : Int) : Int := i32 (lawBase s e l (stepI s e l err) + stepP s e l err)

/-- The DAC code moves by more than half its range (R250). -/
def jumps (s : State) (e l : Nat) (err : Int) : Bool := decide (0x8000 < ((dacOf (stepOut s e l err) : Int) - (s.lp e l).dac).natAbs)

/-- The loop with a RUN sample's guard counted and its increment noted. -/
def steppedLoop (e l : Nat) (err : Int) (s : State) : State :=
  s.setLp e l { s.lp e l with
    guard := (s.lp e l).guard - 1, dint := if guarded s e l then (s.lp e l).dint else stepD s e l err }

/-- The first sample after a guard ends the roll (R251). -/
def rollEnded (e l : Nat) (err : Int) (s : State) : State :=
  rollSweep e l ((s.setLp e l { s.lp e l with rolling := false }).ev Ev.ROLL_DONE (loopId e l) [wrapN 32 err])

/-- The loop that a RUN sample's output is written to. -/
def sampledLoop (e l : Nat) (err : Int) (s : State) : State :=
  if !guarded s e l && (s.lp e l).rolling then rollEnded e l err (steppedLoop e l err s) else steppedLoop e l err s

/-- The order roll of a sample whose code jumps, and the values it keeps. -/
def sampleRoll (e l : Nat) (err : Int) (s : State) : State × Int × Int :=
  orderRoll e l (decide (dacOf (stepOut s e l err) < (s.lp e l).dac)) (stepI s e l err) (stepOut s e l err) (sampledLoop e l err s)

/-- A sample in RUN without a relay: OUT_WRAP's hold, an order roll, or the law written out (R245, R250–R253). -/
theorem runSample_eq (m err : Int) (hrelay : (s.eng e).relay = none) : (runSample e l m err s).1 =
    if jumps s e l err && !isRing l then (s.setLp e l { s.lp e l with wrapHold := true }).ev Ev.OUT_WRAP (loopId e l) []
    else if jumps s e l err then
      writeOut e l (sampleRoll e l err s).2.1 (sampleRoll e l err s).2.2 (some err) (sampleRoll e l err s).1
    else writeOut e l (stepI s e l err) (stepOut s e l err) (some err) (sampledLoop e l err s) := by
  unfold runSample
  extract_lets nd x guarded d p i out new jump
  rw [hrelay, Option.filter_none]
  dsimp -zeta only
  rw [show jump = jumps s e l err from rfl]
  split_ifs <;> rfl

/-! Slots of the law alone, mode by mode -/

theorem lawAlone_kept (h : LawAlone s e l) (hl : l < 140) (he : e < 16) {u : State} (hlaw : (lawOf e l s).1 = u) (htrace : trState u e = 0)
    (hrelay : isHeld s e l = true → (u.eng e).relay = none) : SlotKept e l u (slotSample e l s) := by
  obtain ⟨w, hw, hslot⟩ := lawAlone_slot h hl he hlaw htrace hrelay
  rw [hslot]
  exact hw.trans slotShown_kept

/-! The values of a sample do not depend on the supervision words or on the anchor -/

theorem guarded_primed : guarded (primed e l s) e l = guarded s e l := by rw [guarded, (primed_kept e l s).guard, guarded]

theorem stepI_primed (err : Int) : stepI (primed e l s) e l err = stepI s e l err := by
  rw [stepI, stepD, guarded_primed]
  rfl

theorem stepOut_primed (err : Int) : stepOut (primed e l s) e l err = stepOut s e l err := by
  rw [stepOut, stepI_primed, stepP, guarded_primed]
  rfl

theorem jumps_primed (err : Int) : jumps (primed e l s) e l err = jumps s e l err := by
  rw [jumps, stepOut_primed, (primed_kept e l s).dac, jumps]

theorem stepI_free (h : guarded s e l = false) : stepI s e l (errOf s e l) = integOf s e l := by simp [stepI, stepD, h, integOf]

theorem stepOut_free (h : guarded s e l = false) : stepOut s e l (errOf s e l) = outOf s e l := by
  simp [stepOut, stepI_free h, stepP, h, outOf]

theorem guarded_iff : guarded s e l = true ↔ (s.lp e l).guard ≠ 0 := by simp [guarded]

theorem not_guarded (h : (s.lp e l).guard = 0) : guarded s e l = false := by simp [guarded, h]

/-- A sample in RUN that neither wraps nor ends a roll writes the law's values. -/
theorem slot_steady (h : LawAlone s e l) (hl : l < 140) (he : e < 16) (hfree : isHeld s e l = false) (hmode : loopMode s e l = 1)
    (hjump : jumps s e l (errOf s e l) = false) (hroll : guarded s e l = true ∨ (s.lp e l).rolling = false) :
    Wrote e l (stepI s e l (errOf s e l)) (stepOut s e l (errOf s e l)) (some (errOf s e l))
      (steppedLoop e l (errOf s e l) (primed e l s)) (slotSample e l s) := by
  have hun := lawAlone_unattended h
  have hstays : (!guarded (primed e l s) e l && ((primed e l s).lp e l).rolling) = false := by
    rw [guarded_primed, (primed_kept e l s).rolling]
    rcases hroll with hg | hr
    · simp [hg]
    · simp [hr]
  have hlaw : (lawOf e l s).1 = writeOut e l (stepI s e l (errOf s e l)) (stepOut s e l (errOf s e l)) (some (errOf s e l))
      (steppedLoop e l (errOf s e l) (primed e l s)) := by
    rw [lawOf_run hfree hmode, runSample_eq _ _ (show ((primed e l s).eng e).relay = none from hun.relay), jumps_primed,
      hjump, stepI_primed, stepOut_primed, sampledLoop, hstays]
    rfl
  refine wrote_of_kept hl (lawAlone_kept h hl he hlaw ((trState_writeOut hl ..).trans hun.trace) fun hh => ?_)
  rw [hfree] at hh
  exact nomatch hh

/-! OFF, SWEEP and OPEN (R247) -/

/-- i after a sample in a mode that is not RUN. -/
def plainI (s : State) (e l : Nat) : Int := if loopMode s e l = 2 then i32 (s.coefI e l 10 + s.coefI e l 14) else s.coefI e l 10

/-- OUT after such a sample. -/
def plainOut (s : State) (e l : Nat) : Int := if loopMode s e l = 0 then 0 else lawBase s e l (plainI s e l)

theorem sweepSee_links (s : State) : ∃ g, sweepSee e l s = s.uLnk g := by
  unfold sweepSee
  split
  · exact ⟨id, rfl⟩
  · dsimp only
    split
    · exact ⟨id, rfl⟩
    · exact ⟨_, rfl⟩

theorem coefI_of_regs_eq {s t : State} (h : t.regs = s.regs) (e l w : Nat) : t.coefI e l w = s.coefI e l w := by
  rw [State.coefI, State.coef, rd_of_regs_eq h, State.coefI, State.coef]

/-- The law reads registers, the supply's samples and CT, nothing else. -/
theorem lawBase_of_eq {s t : State} (hregs : t.regs = s.regs) (hpins : t.pins = s.pins) (hct : t.ct = s.ct) (e l : Nat) (i : Int) :
    lawBase t e l i = lawBase s e l i := by
  unfold lawBase lawVH State.vsqNow State.now State.coef
  simp only [coefI_of_regs_eq hregs, rd_of_regs_eq hregs, hpins, hct]

theorem plainSample_eq (s : State) (e l : Nat) : ∃ g, (plainSample e l (loopMode s e l) s).1
    = writeOut e l (plainI s e l) (plainOut s e l) none (s.uLnk g) := by
  have hsaw : ∃ g, (if loopMode s e l = 2 then sweepSee e l s else s) = s.uLnk g := by
    split_ifs
    · exact sweepSee_links _
    · exact ⟨id, rfl⟩
  obtain ⟨g, hg⟩ := hsaw
  refine ⟨g, ?_⟩
  unfold plainSample plainOut plainI
  dsimp only
  rw [hg, coefI_of_regs_eq (s := s) rfl]
  simp only [lawBase_of_eq (s := s) (t := s.uLnk g) rfl rfl rfl, baseNodes, coefI_of_regs_eq (s := s) (t := s.uLnk g) rfl]

theorem plainI_primed : plainI (primed e l s) e l = plainI s e l := by
  simp only [plainI, coefI_of_regs_eq (s := s) (t := primed e l s) rfl]
  rfl

theorem plainOut_primed : plainOut (primed e l s) e l = plainOut s e l := by
  rw [plainOut, plainI_primed, lawBase_of_eq (s := s) (t := primed e l s) rfl rfl rfl]
  rfl

theorem lawOf_plain (hfree : isHeld s e l = false) (hmode : loopMode s e l ≠ 1) : ∃ g x, loopOut x = loopOut
      ((writeOut e l (plainI s e l) (plainOut s e l) none ((primed e l s).uLnk g)).lp e l)
    ∧ (lawOf e l s).1 = (writeOut e l (plainI s e l) (plainOut s e l) none ((primed e l s).uLnk g)).setLp e l x := by
  obtain ⟨g, hg⟩ := plainSample_eq (primed e l s) e l
  rw [plainI_primed, plainOut_primed] at hg
  refine ⟨g, ?_⟩
  rw [← hg]
  refine ⟨{ ((plainSample e l (loopMode (primed e l s) e l) (primed e l s)).1).lp e l with lk := 0 }, rfl, ?_⟩
  rw [lawOf, slotLaw]
  dsimp only
  rw [if_neg (by simp [hfree]), if_neg (show ¬loopMode (primed e l s) e l = 1 from hmode)]

theorem slot_plain (h : LawAlone s e l) (hl : l < 140) (he : e < 16) (hfree : isHeld s e l = false) (hmode : loopMode s e l ≠ 1) :
    ∃ g, Wrote e l (plainI s e l) (plainOut s e l) none ((primed e l s).uLnk g) (slotSample e l s) := by
  obtain ⟨g, x, hx, hlaw⟩ := lawOf_plain hfree hmode
  have hlnk : trState ((primed e l s).uLnk g) e = trState (primed e l s) e := rfl
  have htrace : trState (lawOf e l s).1 e = 0 := by
    rw [hlaw, trState_setLp, trState_writeOut hl, hlnk, (primed_only e l s).trState, (lawAlone_unattended h).trace]
  refine ⟨g, wrote_of_kept hl ((SlotKept.setLp _ hx).trans (hlaw ▸ lawAlone_kept h hl he rfl htrace fun hh => ?_))⟩
  rw [hfree] at hh
  exact nomatch hh

/-! A held sample (R248) -/

/-- What a held loop's slot leaves: the output, code and roll, the guard counted down; and the causes are shown. -/
structure HeldShown (e l : Nat) (causes : Bool × Bool × Bool) (s t : State) : Prop where
  dac : (t.lp e l).dac = (s.lp e l).dac
  guard : (t.lp e l).guard = (s.lp e l).guard - 1
  causes : t.fd (coefOff e l 13) 10 8 = b2n causes.1 + 2 * b2n causes.2.1 + 4 * b2n causes.2.2
  map : t.bit (R.STY_HOLD_MAP e (holdWord l)) (holdBit l) = true
  engs : t.sty.engs = s.sty.engs
  evt : t.evt = s.evt
  outs : t.out = s.out
  mem : SameMem s t
  regs : RegsKept (shownRegs e l) s t

theorem heldLoop_lp : (heldLoop e l s).lp e l
    = { (primed e l s).lp e l with guard := ((primed e l s).lp e l).guard - 1, lk := 0 } := lp_setLp_same ..

theorem heldLoop_only (e l : Nat) (s : State) : LoopsOnly s (heldLoop e l s) := (primed_only e l s).setLp ..

/-- The loop's holds stand where its guard is counted down. -/
theorem holdCauses_heldLoop : holdCauses (heldLoop e l s) e l = holdCauses s e l :=
  (heldLoop_only e l s).holdCauses (by rw [heldLoop_lp, primed, lp_setLp_same, supTake, lp_setLp_same])
    (by rw [heldLoop_lp, primed, lp_setLp_same, supTake, lp_setLp_same])

theorem slot_held (hl : l < 140) (he : e < 16) (hroll : rollSlot s e l = false) {a : State} (ha : applyWord e l s = a)
    (hun : Unattended a e l) (hheld : isHeld a e l = true) : HeldShown e l (holdCauses a e l) a (slotSample e l s) := by
  have honly := heldLoop_only e l a
  obtain ⟨w, hw, hslot⟩ := slotSample_unattended hl he ha hun hroll (fun hfree => by simp [hheld] at hfree) (lawOf_held hheld)
    ((honly.trState e).trans hun.trace) fun _ => by rw [honly.eng, hun.relay]
  have hprimed := primed_kept e l a
  have hshown : SlotKept e l (heldLoop e l a) (slotShown e l w) := hw.trans slotShown_kept
  have hcauses : holdCauses w e l = holdCauses a e l := (hw.holdCauses hl he).trans holdCauses_heldLoop
  rw [hslot]
  refine ⟨?_, ?_, ?_, ?_, hshown.engs.trans honly.engs, hshown.evt.trans honly.evt, hshown.out.trans honly.out, honly.sameMem.trans hshown.mem,
    fun o ho => (hshown.regs o ho).trans (rd_of_regs_eq honly.regs o)⟩
  · rw [hshown.dac, heldLoop_lp, hprimed.dac]
  · rw [hshown.guard, heldLoop_lp, hprimed.guard]
  · rw [slotShown, fd_state_shown hl, hcauses]
  · rw [slotShown, bit_holdMap_shown _ hl, hcauses]
    exact hheld

end Sys2Proof.Machine
end

section
/-! The samples' statement: a law alone in its slot, and a queued word (09 R242–R248, R254, R258). -/

namespace Sys2Proof.Machine

variable {s : State}

/-! A queued word (R254, R258) -/

/-- A word has left the queue and stands in its register. -/
def wordPut (e l w v : Nat) (q : List (Nat × Nat × Word)) (s : State) : State :=
  wqLevel ((s.setEng e { s.eng e with wq := q }).wr (coefOff e l w) v) e

theorem wqRefill_idle {e : Nat} (h : ∀ x ∈ s.sty.todo, x.1 ≠ e) : wqRefill e s = s := by
  have hnone : s.sty.todo.find? (fun x => x.1 == e) = none := List.find?_eq_none.mpr fun x hx => by simpa using h x hx
  rw [wqRefill, hnone]

theorem applyWord_eq {e l w : Nat} {v : Word} {q : List (Nat × Nat × Word)} (hword : takeWord l (s.eng e).wq = (some (w, v), q))
    (htodo : ∀ x ∈ s.sty.todo, x.1 ≠ e) :
    applyWord e l s = wordPut e l w (Nat.land v.toNat (maskOf (coefOff e l w))) q s := by
  rw [applyWord, hword]
  exact wqRefill_idle htodo

section
variable {e l w v : Nat} {q : List (Nat × Nat × Word)}

theorem wordPut_only : RegsOnly (s.setEng e { s.eng e with wq := q }) (wordPut e l w v q s) := ((RegsOnly.refl _).wr _ _).fw _ _ _ _

theorem wordPut_sty : (wordPut e l w v q s).sty = (s.setEng e { s.eng e with wq := q }).sty := by
  rw [wordPut_only]

theorem wordPut_eng : (wordPut e l w v q s).eng e = { s.eng e with wq := q } := by
  rw [State.eng, wordPut_sty, State.setEng, uSty_sty, getD_setAt, if_pos rfl]

theorem wordPut_lp : (wordPut e l w v q s).lp e l = s.lp e l := by rw [State.lp, wordPut_sty, State.setEng, uSty_sty, State.lp]

theorem wordPut_evt : (wordPut e l w v q s).evt = s.evt := by rw [wordPut_only.evt, State.setEng, uSty_evt]

theorem wordPut_sameMem : SameMem s (wordPut e l w v q s) := by
  have hset : SameMem s (s.setEng e { s.eng e with wq := q }) := .of_eq rfl rfl rfl
  exact hset.trans wordPut_only.sameMem

theorem wordPut_regsKept : RegsKept [coefOff e l w, R.STY_STATUS e] s (wordPut e l w v q s) :=
  ((RegsKept.of_regs_eq (t := s.setEng e { s.eng e with wq := q }) _ rfl).wr List.mem_cons_self _).fw (by simp) _ _ _

theorem coefOff_ne_status (hl : l < 140) : coefOff e l w ≠ R.STY_STATUS e := by
  obtain ⟨b, hlo, hhi, hb⟩ := coefOff_parts e hl
  rw [hb]
  grind

theorem coef_wordPut_same (hl : l < 140) (hv : v < 2 ^ 32) : (wordPut e l w v q s).coef e l w = v := by
  rw [State.coef, wordPut, wqLevel, rd_fw_ne _ _ _ _ (coefOff_ne_status hl), rd_wr, if_pos rfl, Nat.mod_eq_of_lt hv]

theorem coef_wordPut_ne (hl : l < 140) {k : Nat} (hk : k ≠ w) : (wordPut e l w v q s).coef e l k = s.coef e l k :=
  wordPut_regsKept _ (by simp [coefOff_ne hk, coefOff_ne_status hl])

/-- A word of the loop's law leaves the loop unattended. -/
theorem unattended_wordPut (hl : l < 140) (h : Unattended s e l) (hw : w < 64) : Unattended (wordPut e l w v q s) e l where
  relay := by rw [wordPut_eng, h.relay]
  reseed := by rw [wordPut_lp, h.reseed]
  check := by
    obtain ⟨b, hlo, hhi, hb⟩ := coefOff_parts e hl
    have hsup : supOff e l 0 = 0x10A400 + 0x10000 * e + 0x20 * l := by
      unfold supOff
      omega
    rw [bit_of_rd_eq (wordPut_regsKept _ ?_), h.check]
    simp only [List.mem_cons, List.not_mem_nil, or_false, not_or, hb, hsup]
    grind
  trace := by
    obtain ⟨b, hlo, hhi, hb⟩ := coefOff_parts e hl
    rw [trState, fd_of_rd_eq (wordPut_regsKept _ ?_)]
    · exact h.trace
    · simp only [List.mem_cons, List.not_mem_nil, or_false, not_or, hb]
      grind

end

/-- A word applied under CTL.HOLD: it stands in its register, the queue is one word shorter, and the held sample writes nothing. -/
theorem slot_word {e l w : Nat} (hl : l < 140) (he : e < 16) {v : Word} {q : List (Nat × Nat × Word)}
    (hword : takeWord l (s.eng e).wq = (some (w, v), q)) (hw : w < 64) (hlaw : w ≠ 0 ∧ w ≠ 13) (hhold : s.bit (coefOff e l 0) 4 = true)
    (hun : Unattended s e l) (hroll : rollSlot s e l = false) (htodo : ∀ x ∈ s.sty.todo, x.1 ≠ e) :
    (slotSample e l s).coef e l w = Nat.land v.toNat (maskOf (coefOff e l w)) ∧ ((slotSample e l s).eng e).wq = q
      ∧ ((slotSample e l s).lp e l).dac = (s.lp e l).dac ∧ (slotSample e l s).evt = s.evt ∧ SameMem s (slotSample e l s)
      ∧ RegsKept (coefOff e l w :: shownRegs e l) s (slotSample e l s) := by
  obtain ⟨hctl, hstate⟩ := hlaw
  have hput := applyWord_eq hword htodo
  have hlt : Nat.land v.toNat (maskOf (coefOff e l w)) < 2 ^ 32 := lt_of_le_of_lt Nat.and_le_left v.isLt
  generalize Nat.land v.toNat (maskOf (coefOff e l w)) = x at *
  have hheld : isHeld (wordPut e l w x q s) e l = true := by
    have hbit : (wordPut e l w x q s).bit (coefOff e l 0) 4 = true := by rw [bit_of_rd_eq (coef_wordPut_ne hl hctl.symm), hhold]
    simp [isHeld, holdCauses, hbit]
  have h := slot_held hl he hroll hput (unattended_wordPut hl hun hw) hheld
  refine ⟨?_, ?_, by rw [h.dac, wordPut_lp], h.evt.trans wordPut_evt, wordPut_sameMem.trans h.mem, fun o ho => ?_⟩
  · rw [State.coef, h.regs _ (coefOff_not_shown hl hw hstate), ← State.coef, coef_wordPut_same hl hlt]
  · rw [State.eng, h.engs, ← State.eng, wordPut_eng]
  · rw [List.mem_cons, not_or] at ho
    refine (h.regs o ho.2).trans (wordPut_regsKept o ?_)
    have hst : o ≠ R.STY_STATUS e := fun heq => ho.2 (by simp [heq, shownRegs])
    simp [ho.1, hst]

/-! The clauses -/

theorem isHeld_false {e l : Nat} (h : holdCauses s e l = (false, false, false)) : isHeld s e l = false := by rw [isHeld, h]; rfl

/-- The law of R245, its terms in the order of the rule. -/
theorem outOf_eq (s : State) (e l : Nat) : outOf s e l = i32 (lawP s e l (errOf s e l) + integOf s e l + (lawVH s e l).1
    + ((lawVH s e l).2.1 + (lawVH s e l).2.2) + s.coefI e l 8) := by
  rw [outOf, lawBase]
  dsimp only
  rw [i32_i32_add]
  congr 1
  ring

theorem steady_runs (e : Fin 16) (l : Fin 140) (h : LawAlone s e l) (hmode : loopMode s e l = 1)
    (hfree : holdCauses s e l = (false, false, false)) (hguard : (s.lp e l).guard = 0) (hroll : (s.lp e l).rolling = false)
    (hjump : ((dacOf (outOf s e l) : Int) - (s.lp e l).dac).natAbs ≤ 0x8000) : Runs (.stylusSlot e l) s fun t =>
      t.coef e l 10 = wrapN 32 (integOf s e l) ∧ t.coef e l 11 = wrapN 32 (outOf s e l) ∧ t.coef e l 12 = wrapN 32 (errOf s e l)
        ∧ (t.lp e l).dac = wrapN 32 (outOf s e l) / 2 ^ 16 ∧ t.evt = s.evt ∧ t.out = s.out ∧ SameMem s t
        ∧ RegsKept ([coefOff e l 10, coefOff e l 11, coefOff e l 12] ++ shownRegs e l) s t := by
  have hunguarded := not_guarded hguard
  have hsmall : jumps s e l (errOf s e l) = false := by
    rw [jumps, stepOut_free hunguarded]
    exact decide_eq_false (by omega)
  have hw := slot_steady h l.isLt e.isLt (isHeld_false hfree) hmode hsmall (.inr hroll)
  rw [stepI_free hunguarded, stepOut_free hunguarded] at hw
  have honly : LoopsOnly s (steppedLoop e l (errOf s e l) (primed e l s)) := (primed_only ..).setLp ..
  exact ⟨_, exec_stylusSlot h.1 h.2.1, hw.integ, hw.output, hw.err, hw.dac, hw.evt.trans honly.evt, hw.outs.trans honly.out,
    honly.sameMem.trans hw.mem, fun o ho => (hw.regs o ho).trans (rd_of_regs_eq honly.regs o)⟩

theorem plain_runs (e : Fin 16) (l : Fin 140) (h : LawAlone s e l) (hmode : loopMode s e l ≠ 1)
    (hfree : holdCauses s e l = (false, false, false)) : Runs (.stylusSlot e l) s fun t =>
      t.coef e l 10 = wrapN 32 (plainI s e l) ∧ t.coef e l 11 = wrapN 32 (plainOut s e l) ∧ t.coef e l 12 = s.coef e l 12
        ∧ (t.lp e l).dac = dacOf (plainOut s e l) ∧ t.evt = s.evt ∧ t.out = s.out ∧ SameMem s t
        ∧ RegsKept ([coefOff e l 10, coefOff e l 11, coefOff e l 12] ++ shownRegs e l) s t := by
  obtain ⟨g, hw⟩ := slot_plain h l.isLt e.isLt (isHeld_false hfree) hmode
  have honly := primed_only e l s
  have hlnk : SameMem (primed e l s) ((primed e l s).uLnk g) := .of_eq rfl rfl rfl
  have hrd : ∀ o, ((primed e l s).uLnk g).rd o = s.rd o := rd_of_regs_eq honly.regs
  exact ⟨_, exec_stylusSlot h.1 h.2.1, hw.integ, hw.output, hw.err.trans (hrd _), hw.dac, hw.evt.trans honly.evt, hw.outs.trans honly.out,
    honly.sameMem.trans (hlnk.trans hw.mem), fun o ho => (hw.regs o ho).trans (hrd o)⟩

theorem held_runs (e : Fin 16) (l : Fin 140) (h : LawAlone s e l) (hheld : holdCauses s e l ≠ (false, false, false)) :
    Runs (.stylusSlot e l) s fun t =>
      (t.lp e l).dac = (s.lp e l).dac ∧ (t.lp e l).guard = (s.lp e l).guard - 1
        ∧ t.fd (coefOff e l 13) 10 8 = b2n (holdCauses s e l).1 + 2 * b2n (holdCauses s e l).2.1 + 4 * b2n (holdCauses s e l).2.2
        ∧ t.bit (R.STY_HOLD_MAP e (holdWord l)) (holdBit l) = true ∧ t.evt = s.evt ∧ t.out = s.out ∧ SameMem s t
        ∧ RegsKept (shownRegs e l) s t := by
  have hun := lawAlone_unattended h
  obtain ⟨hrun, hid, hword, -, -, hroll, -⟩ := h
  have ht := slot_held l.isLt e.isLt hroll (applyWord_of_none hword) hun (isHeld_iff.mpr hheld)
  exact ⟨_, exec_stylusSlot hrun hid, ht.dac, ht.guard, ht.causes, ht.map, ht.evt, ht.outs, ht.mem, ht.regs⟩

/-- Settles O27: a slot in which the law acts alone writes the values of its mode, a held one writes nothing, and a word of the queue is
applied before the sample. -/
theorem stylusSamplesFollowTheLaw : Obligations.StylusSamplesFollowTheLaw := by
  refine ⟨fun s e l h hmode hfree hguard hroll => ?_, fun s e l h hmode hfree => plain_runs e l h hmode hfree,
    fun s e l h hheld => ?_, fun s e l w v q hrun hid hword hw hhold hrelay hreseed hroll hcheck htrace htodo => ?_, fun s e l h => ?_⟩
  · intro sh err mag p i v hh out hjump
    have hp : p = lawP s e l (errOf s e l) := by
      rw [lawP, Nat.shiftRight_eq_div_pow]
      rfl
    have hout : out = outOf s e l := by
      rw [outOf_eq, ← hp]
      rfl
    rw [hout] at hjump ⊢
    exact steady_runs e l h hmode hfree hguard hroll hjump
  · obtain ⟨t, ht, hdac, hguard, hcauses, hmap, hrest⟩ := held_runs e l h hheld
    exact ⟨t, ht, hdac, hguard, hcauses, hmap, hrest⟩
  · have hword' : w < 64 ∧ w ≠ 0 ∧ w ≠ 13 := by
      rcases hw with hw | hw
      · simp at hw
        omega
      · omega
    obtain ⟨hcoef, hwq, hdac, hevt, hmem, hregs⟩ := slot_word l.isLt e.isLt hword hword'.1 hword'.2 hhold
      ⟨hrelay, hreseed, hcheck, htrace⟩ hroll htodo
    exact ⟨_, exec_stylusSlot hrun hid, hcoef, hwq, hdac, hevt, hmem, hregs⟩
  · exact if_pos (h.imp (fun hrun => by simp [hrun]) id)

end Sys2Proof.Machine
end

section
/-! What a vacated lane's sweep leaves of the loops (10 R277; 12 R317, R340): their state outside the registers, and the engines' traces. -/

namespace Sys2Proof.Machine

theorem ev_sty (s : State) (code src : Nat) (args : List Nat) : (s.ev code src args).sty = s.sty := by
  unfold State.ev
  split_ifs <;> rfl

/-- An event writes no register but the count of dropped records. -/
theorem rd_ev {s : State} {code src : Nat} {args : List Nat} {o : Nat} (h : o ≠ R.EVT_DROP_CNT) : (s.ev code src args).rd o = s.rd o :=
  ev_regsKept s code src args o (by simpa using h)

/-- From s to t the loops stand outside their registers, and so do the states of the traces. -/
structure LoopsKept (s t : State) : Prop where
  loops : t.sty.loops = s.sty.loops
  trace : ∀ e < 16, t.rd (R.STY_TRACE_STATUS e) = s.rd (R.STY_TRACE_STATUS e)

/-- No engine's trace has its state at the offset. -/
def NoTrace (off : Nat) : Prop := ∀ e < 16, R.STY_TRACE_STATUS e ≠ off

theorem noTrace_low {off : Nat} (h : off < 0x100000) : NoTrace off := fun e _ => by grind

theorem noTrace_high {off : Nat} (h : 0x200000 ≤ off) : NoTrace off := fun e _ => by grind

namespace LoopsKept

variable {s t u : State}

theorem of_eq (hsty : t.sty.loops = s.sty.loops) (hregs : t.regs = s.regs) : LoopsKept s t := ⟨hsty, fun _ _ => rd_of_regs_eq hregs _⟩

theorem refl (s : State) : LoopsKept s s := of_eq rfl rfl

theorem trans (h : LoopsKept s t) (g : LoopsKept t u) : LoopsKept s u :=
  ⟨g.loops.trans h.loops, fun e he => (g.trace e he).trans (h.trace e he)⟩

theorem lp (h : LoopsKept s t) (e l : Nat) : t.lp e l = s.lp e l := by rw [State.lp, h.loops, State.lp]

theorem trState (h : LoopsKept s t) {e : Nat} (he : e < 16) : trState t e = trState s e := fd_of_rd_eq (h.trace e he) _ _

section
variable (h : LoopsKept s t)
include h

theorem wr {off : Nat} (ho : NoTrace off) (v : Nat) : LoopsKept s (t.wr off v) :=
  h.trans ⟨rfl, fun e he => rd_wr_ne (ho e he)⟩

theorem fw {off : Nat} (ho : NoTrace off) (hi lo v : Nat) : LoopsKept s (t.fw off hi lo v) := h.wr ho _

theorem sat {off : Nat} (ho : NoTrace off) (hi lo n : Nat) : LoopsKept s (t.sat off hi lo n) := h.wr ho _

theorem uLnk (g : LnkSt → LnkSt) : LoopsKept s (t.uLnk g) := h.trans (.of_eq rfl rfl)

theorem uLs (tx : Bool) (p n : Nat) (g : LaneSt → LaneSt) : LoopsKept s (t.uLs tx p n g) := h.uLnk _

theorem uClk (g : ClkSt → ClkSt) : LoopsKept s (t.uClk g) := h.trans (.of_eq rfl rfl)

theorem ev (code src : Nat) (args : List Nat) : LoopsKept s (t.ev code src args) :=
  h.trans ⟨by rw [ev_sty], fun e _ => rd_ev (noTrace_high (by decide) e ‹_›)⟩

/-! The engine's queue -/

theorem setEng (e : Nat) (x : Eng) : LoopsKept s (t.setEng e x) := h.trans (.of_eq rfl rfl)

theorem wqLevel {e : Nat} : LoopsKept s (wqLevel t e) := h.fw (fun d _ => by grind) _ _ _

theorem wqPush {e l w v : Nat} : LoopsKept s (wqPush e l w v t) := by
  have hdrop : NoTrace (R.STY_WQ_DROP e) := fun d _ => by grind
  unfold Machine.wqPush
  extract_lets g
  split_ifs
  · exact h.trans (.of_eq rfl rfl)
  · exact (h.sat hdrop _ _ _).ev _ _ _
  · exact (h.setEng _ _).wqLevel

/-! The lane that starts to sweep -/

theorem refLost (src : RefSrc) : LoopsKept s (refLost src t) := by
  unfold Machine.refLost
  extract_lets t1
  have h1 : LoopsKept s t1 := by
    cases src
    · exact (h.fw (noTrace_low (by decide)) _ _ _).sat (noTrace_low (by decide)) _ _ _
    · exact (h.fw (noTrace_low (by decide)) _ _ _).sat (noTrace_low (by decide)) _ _ _
  split_ifs
  · exact (((h1.fw (noTrace_low (by decide)) _ _ _).wr (noTrace_low (by decide)) _).uClk _).ev _ _ _
  · exact h1

theorem linkFollow : LoopsKept s (linkFollow t) := by
  unfold Machine.linkFollow
  extract_lets was t1
  split_ifs
  · exact (h.uClk _).refLost _
  · exact h.uClk _

theorem updLine {b n : Nat} (hb : b < 8) (hn : n < 18) : LoopsKept s (updLine b n t) := by
  unfold Machine.updLine
  split_ifs
  · exact h
  · exact h.fw (noTrace_low (by grind)) _ _ _

theorem sendStop {p n st : Nat} : LoopsKept s (sendStop p n st t) := by
  unfold Machine.sendStop
  split_ifs
  · exact h
  · exact h.uLs _ _ _ _

theorem setLane {tx : Bool} {p n st : Nat} (hp : p < 16) (hn : n < 18) : LoopsKept s (setLane tx p n st t) := by
  unfold Machine.setLane
  extract_lets t1
  have h1 : LoopsKept s t1 := h.fw (noTrace_high (by rw [laneReg]; grind)) _ _ _
  split_ifs
  · exact h1.sendStop.updLine (by omega) hn
  · exact h1.linkFollow
  · exact h1

theorem sweepLane {tx : Bool} {p n : Nat} (hp : p < 16) (hn : n < 18) : LoopsKept s (sweepLane tx p n t) :=
  (h.wqPush.wqPush.wqPush.uLs _ _ _ _).setLane hp hn

theorem vacSweep {tx : Bool} {p n : Nat} (hp : p < 16) (hn : n < 18) : LoopsKept s (vacSweep tx p n t) := by
  unfold Machine.vacSweep
  extract_lets l x
  split_ifs
  · exact h.sweepLane hp hn
  · exact h

end

end LoopsKept

theorem loopLane_bounds {e l p n : Nat} {tx : Bool} (h : loopLane e l = some (tx, p, n)) : p = e ∧ n < 18 := by
  unfold loopLane at h
  split_ifs at h <;> simp at h <;> omega

/-- What a sweep that a roll waited for leaves: loops, traces, memory and the events raised. -/
theorem rollSweep_leaves {e : Nat} (he : e < 16) (l : Nat) (s : State) : LoopsKept s (rollSweep e l s) ∧ ArrayKept True s (rollSweep e l s) := by
  unfold rollSweep
  split
  next lane tx p n hlane =>
    obtain ⟨rfl, hn⟩ := loopLane_bounds hlane
    split_ifs
    · exact ⟨(LoopsKept.refl s).vacSweep he hn, (ArrayKept.refl s).vacSweep⟩
    · exact ⟨.refl s, .refl s⟩
  · exact ⟨.refl s, .refl s⟩

end Sys2Proof.Machine
end

section
/-! Order rolls, guards and OUT_WRAP (09 R250–R253; 10 R265): the statement about wraps. -/

namespace Sys2Proof.Machine

variable {s : State} {e l : Nat}

/-! A guarded sample (R251) -/

theorem stepI_guarded (h : guarded s e l = true) (err : Int) : stepI s e l err = s.coefI e l 10 := by
  simp [stepI, stepD, h, State.coefI, i32_sgn]

theorem stepOut_guarded (h : guarded s e l = true) (err : Int) : stepOut s e l err = lawBase s e l (s.coefI e l 10) := by
  simp [stepOut, stepI_guarded h, stepP, h, lawBase, i32_i32]

theorem coef_lt (s : State) (e l w : Nat) : s.coef e l w < 2 ^ 32 := rd_lt s _

theorem steppedLoop_only (err : Int) (s : State) : LoopsOnly s (steppedLoop e l err (primed e l s)) := (primed_only ..).setLp ..

theorem steppedLoop_guard (err : Int) (s : State) : ((steppedLoop e l err (primed e l s)).lp e l).guard = (s.lp e l).guard - 1 := by
  rw [steppedLoop, lp_setLp_same]
  show ((primed e l s).lp e l).guard - 1 = _
  rw [(primed_kept e l s).guard]

theorem guarded_runs (e : Fin 16) (l : Fin 140) (h : LawAlone s e l) (hmode : loopMode s e l = 1)
    (hfree : holdCauses s e l = (false, false, false)) (hguard : (s.lp e l).guard ≠ 0)
    (hjump : ((dacOf (lawBase s e l (s.coefI e l 10)) : Int) - (s.lp e l).dac).natAbs ≤ 0x8000) : Runs (.stylusSlot e l) s fun t =>
      t.coef e l 10 = s.coef e l 10 ∧ t.coef e l 11 = wrapN 32 (lawBase s e l (s.coefI e l 10))
        ∧ (t.lp e l).guard = (s.lp e l).guard - 1 ∧ t.evt = s.evt ∧ SameMem s t := by
  have hg := guarded_iff.mpr hguard
  have hsmall : jumps s e l (errOf s e l) = false := by
    rw [jumps, stepOut_guarded hg]
    exact decide_eq_false (by omega)
  have hw := slot_steady h l.isLt e.isLt (isHeld_false hfree) hmode hsmall (.inl hg)
  rw [stepI_guarded hg, stepOut_guarded hg] at hw
  have honly : LoopsOnly s (steppedLoop e l (errOf s e l) (primed e l s)) := steppedLoop_only ..
  exact ⟨_, exec_stylusSlot h.1 h.2.1, hw.integ.trans (wrapN_sgn (coef_lt ..)), hw.output, hw.guard.trans (steppedLoop_guard ..),
    hw.evt.trans honly.evt, honly.sameMem.trans hw.mem⟩

/-! The first sample after the guard (R251) -/

theorem rollEnded_leaves (he : e < 16) (err : Int) (room : RoomFor s) : ((rollEnded e l err s).lp e l).rolling = false
    ∧ trState (rollEnded e l err s) e = trState s e ∧ SameMem s (rollEnded e l err s)
    ∧ Raised (rollEnded e l err s) Ev.ROLL_DONE (loopId e l) := by
  obtain ⟨hloops, harray⟩ := rollSweep_leaves he l ((s.setLp e l { s.lp e l with rolling := false }).ev Ev.ROLL_DONE (loopId e l) [wrapN 32 err])
  have hset : SameMem s (s.setLp e l { s.lp e l with rolling := false }) := .of_eq rfl rfl rfl
  have hroom : (s.setLp e l { s.lp e l with rolling := false }).evt = s.evt := rfl
  have hev : LoopsKept (s.setLp e l { s.lp e l with rolling := false }) (rollEnded e l err s) := ((LoopsKept.refl _).ev _ _ _).trans hloops
  refine ⟨?_, ?_, hset.trans ((ev_sameMem ..).trans harray.mem), harray.raised _ _ (ev_raised (roomFor_of_evt_eq hroom room) ..)⟩
  · rw [hev.lp, lp_setLp_same]
  · rw [hev.trState he, trState_setLp]

theorem rollDone_runs (e : Fin 16) (l : Fin 140) (h : LawAlone s e l) (hmode : loopMode s e l = 1)
    (hfree : holdCauses s e l = (false, false, false)) (hguard : (s.lp e l).guard = 0) (hroll : (s.lp e l).rolling = true) (room : RoomFor s)
    (hjump : ((dacOf (outOf s e l) : Int) - (s.lp e l).dac).natAbs ≤ 0x8000) : Runs (.rollDone e l) s fun t =>
      Raised t Ev.ROLL_DONE (loopId e l) ∧ t.coef e l 10 = wrapN 32 (integOf s e l) ∧ t.coef e l 11 = wrapN 32 (outOf s e l)
        ∧ t.coef e l 12 = wrapN 32 (errOf s e l) ∧ (t.lp e l).rolling = false ∧ SameMem s t := by
  have hunguarded := not_guarded hguard
  have hun := lawAlone_unattended h
  have hends : (!guarded (primed e l s) e l && ((primed e l s).lp e l).rolling) = true := by
    rw [guarded_primed, (primed_kept e l s).rolling, hunguarded, hroll]
    rfl
  have hsmall : jumps s e l (errOf s e l) = false := by
    rw [jumps, stepOut_free hunguarded]
    exact decide_eq_false (by omega)
  have hlaw : (lawOf e l s).1 = writeOut e l (integOf s e l) (outOf s e l) (some (errOf s e l))
      (rollEnded e l (errOf s e l) (steppedLoop e l (errOf s e l) (primed e l s))) := by
    rw [lawOf_run (isHeld_false hfree) hmode, runSample_eq _ _ (show ((primed e l s).eng e).relay = none from hun.relay), jumps_primed, hsmall,
      stepI_primed, stepOut_primed, stepI_free hunguarded, stepOut_free hunguarded, sampledLoop, hends]
    rfl
  have honly : LoopsOnly s (steppedLoop e l (errOf s e l) (primed e l s)) := steppedLoop_only ..
  obtain ⟨hrolling, htrace, hmem, hraised⟩ := rollEnded_leaves (l := l) e.isLt (errOf s e l) (roomFor_of_evt_eq honly.evt room)
  have hw := wrote_of_kept l.isLt (lawAlone_kept h l.isLt e.isLt hlaw
    (by rw [trState_writeOut l.isLt, htrace, honly.trState, hun.trace]) fun hh => by simp [isHeld_false hfree] at hh)
  refine ⟨_, if_neg (by simp [h.1, hroll, hguard]), raised_of_evt_eq hw.evt hraised, hw.integ, hw.output, hw.err, hw.rolling.trans hrolling,
    honly.sameMem.trans (hmem.trans hw.mem)⟩

theorem rollDone_idle (e : Fin 16) (l : Fin 140) (h : engineRuns s e = false ∨ (s.lp e l).rolling = false ∨ (s.lp e l).guard ≠ 0) :
    exec (.rollDone e l) s = .next s :=
  if_pos (by simpa using h)

/-! OUT_WRAP (R253) -/

theorem supHeld_of_wrapHold (h : (s.lp e l).wrapHold = true) : supHeld s e l = true := by simp [supHeld, h]

theorem outWrap_runs (e : Fin 16) (l : Fin 140) (h : LawAlone s e l) (hmode : loopMode s e l = 1)
    (hfree : holdCauses s e l = (false, false, false)) (hguard : (s.lp e l).guard = 0) (hring : isRing l = false) (room : RoomFor s)
    (hjump : 0x8000 < ((dacOf (outOf s e l) : Int) - (s.lp e l).dac).natAbs) : Runs (.stylusSlot e l) s fun t =>
      Raised t Ev.OUT_WRAP (loopId e l) ∧ supHeld t e l = true ∧ t.coef e l 10 = s.coef e l 10 ∧ t.coef e l 11 = s.coef e l 11
        ∧ (t.lp e l).dac = (s.lp e l).dac ∧ SameMem s t := by
  have hun := lawAlone_unattended h
  have hwraps : jumps s e l (errOf s e l) = true := by
    rw [jumps, stepOut_free (not_guarded hguard)]
    exact decide_eq_true hjump
  have hlaw : (lawOf e l s).1
      = ((primed e l s).setLp e l { (primed e l s).lp e l with wrapHold := true }).ev Ev.OUT_WRAP (loopId e l) [] := by
    rw [lawOf_run (isHeld_false hfree) hmode, runSample_eq _ _ (show ((primed e l s).eng e).relay = none from hun.relay), jumps_primed, hwraps, hring]
    rfl
  have honly : LoopsOnly s ((primed e l s).setLp e l { (primed e l s).lp e l with wrapHold := true }) := (primed_only ..).setLp ..
  have hlp : ((primed e l s).setLp e l { (primed e l s).lp e l with wrapHold := true }).lp e l
    = { (primed e l s).lp e l with wrapHold := true } := lp_setLp_same ..
  have hroom := roomFor_of_evt_eq honly.evt room
  generalize (primed e l s).setLp e l { (primed e l s).lp e l with wrapHold := true } = b at *
  have hb : LoopsKept b (b.ev Ev.OUT_WRAP (loopId e l) []) := (LoopsKept.refl b).ev _ _ _
  have hk := lawAlone_kept h l.isLt e.isLt hlaw (by rw [hb.trState e.isLt, honly.trState, hun.trace])
    fun hh => by simp [isHeld_false hfree] at hh
  have hcoef : ∀ w, (b.ev Ev.OUT_WRAP (loopId e l) []).coef e l w = s.coef e l w :=
    fun w => (rd_of_regs_eq (ev_regs hroom ..) _).trans (honly.coef ..)
  refine ⟨_, exec_stylusSlot h.1 h.2.1, raised_of_evt_eq hk.evt (ev_raised hroom ..), ?_, (hk.coef l.isLt).trans (hcoef 10),
    (hk.coef l.isLt).trans (hcoef 11), ?_, honly.sameMem.trans ((ev_sameMem ..).trans hk.mem)⟩
  · rw [hk.supHeld l.isLt e.isLt]
    exact supHeld_of_wrapHold (by rw [hb.lp, hlp])
  · rw [hk.dac, hb.lp, hlp]
    exact (primed_kept e l s).dac

/-! An order roll (R250, R251) -/

/-- SEED is enabled and lies in the half that the roll lands in. -/
def seedOk (s : State) (e l : Nat) (down : Bool) : Bool := s.bit (coefOff e l 0) 5 && (decide (s.coefI e l 9 < 0) != down)

theorem seedOk_iff {down : Bool} : seedOk s e l down = true ↔ s.bit (coefOff e l 0) 5 = true ∧ (s.coef e l 9 < 2 ^ 31 ↔ down = true) := by
  have hlt := coef_lt s e l 9
  have hsign : s.coefI e l 9 < 0 ↔ ¬s.coef e l 9 < 2 ^ 31 := by
    rw [State.coefI, sgn]
    split_ifs <;> omega
  cases down <;> simp [seedOk, hsign]

/-- The roll's events. -/
def rollRaised (e l : Nat) (down : Bool) (out : Int) (s : State) : State :=
  (if seedOk s e l down then s else s.ev Ev.ROLL_UNSEEDED (loopId e l) []).ev Ev.ORDER_ROLL (loopId e l)
    [b2n (!down), (s.lp e l).dac, dacOf out]

/-- The roll is counted in its direction. -/
def rollCounted (e : Nat) (down : Bool) (s : State) : State :=
  if down then s.sat (R.STY_ROLL_CNT e) 31 16 1 else s.sat (R.STY_ROLL_CNT e) 15 0 1

/-- The guard starts, in the state u whose events and count stand, and the roll is due no more. -/
def rollGuarded (e l : Nat) (x : LoopSt) (step : Int) (u : State) : State :=
  rotWithdraw e l (((u.setLp e l { x with guard := fieldOf (u.coef e l 0) 11 8, rolling := true, x := x.x + step, xa := x.xa + step }).fw
    (R.STY_ROLL_DUE e (l / 32)) (l % 32) (l % 32) 0).fw (R.STY_SUP_RESID e l) 2 2 0)

/-- i after a roll: SEED where it serves. -/
def rollI (s : State) (e l : Nat) (down : Bool) (i : Int) : Int := if seedOk s e l down then s.coefI e l 9 else i

/-- OUT after a roll. -/
def rollOut (s : State) (e l : Nat) (down : Bool) (out : Int) : Int := if seedOk s e l down then lawBase s e l (s.coefI e l 9) else out

theorem orderRoll_eq (down : Bool) (i out : Int) : ∃ step, orderRoll e l down i out s =
    (rollGuarded e l (s.lp e l) step (rollCounted e down (rollRaised e l down (rollOut s e l down out) s)), rollI s e l down i,
      rollOut s e l down out) := by
  refine ⟨((dacOf (rollOut s e l down out) : Int) - (s.lp e l).dac) * 65536, ?_⟩
  unfold orderRoll rollRaised rollI rollOut
  extract_lets seed ok x r
  have hr : r = if ok then s else s.ev Ev.ROLL_UNSEEDED (loopId e l) [] := rfl
  have hok : seedOk s e l down = ok := rfl
  clear_value r ok
  rw [hok, hr]
  cases ok <;> rfl

theorem rollRaised_regs (hqueue : s.evt.queue.length < 1000) (down : Bool) (out : Int) : (rollRaised e l down out s).regs = s.regs := by
  have room : RoomFor s := lt_trans hqueue (by decide)
  unfold rollRaised
  split_ifs
  · exact ev_regs room ..
  · exact (ev_regs ((Raises.ev ..).roomFor (by decide) hqueue) ..).trans (ev_regs room ..)

theorem rollRaised_sameMem (down : Bool) (out : Int) : SameMem s (rollRaised e l down out s) := by
  unfold rollRaised
  split_ifs
  · exact ev_sameMem ..
  · exact (ev_sameMem ..).trans (ev_sameMem ..)

theorem rollRaised_raised (hqueue : s.evt.queue.length < 1000) (down : Bool) (out : Int) :
    Raised (rollRaised e l down out s) Ev.ORDER_ROLL (loopId e l)
      ∧ (seedOk s e l down = false → Raised (rollRaised e l down out s) Ev.ROLL_UNSEEDED (loopId e l)) := by
  have room : RoomFor s := lt_trans hqueue (by decide)
  unfold rollRaised
  cases seedOk s e l down
  · exact ⟨ev_raised ((Raises.ev ..).roomFor (by decide) hqueue) .., fun _ => raised_ev (ev_raised room ..) ..⟩
  · exact ⟨ev_raised room .., nofun⟩

theorem rollCounted_only (down : Bool) (s : State) : RegsOnly s (rollCounted e down s) := by
  unfold rollCounted
  split_ifs
  · exact (RegsOnly.refl s).sat ..
  · exact (RegsOnly.refl s).sat ..

theorem rollCounted_regsKept (down : Bool) (s : State) : RegsKept [R.STY_ROLL_CNT e] s (rollCounted e down s) := by
  unfold rollCounted
  split_ifs
  · exact RegsKept.sat (.of_regs_eq _ rfl) List.mem_cons_self _ _ _
  · exact RegsKept.sat (.of_regs_eq _ rfl) List.mem_cons_self _ _ _

/-- A half of the roll count stands where the roll goes the other way. -/
theorem min_half (s : State) {o hi lo : Nat} (h : hi + 1 - lo = 16) : min 0xFFFF (s.fd o hi lo) = s.fd o hi lo := by
  have : s.fd o hi lo < 2 ^ 16 := h ▸ Nat.mod_lt _ (Nat.two_pow_pos _)
  omega

theorem rollCounted_counts (down : Bool) (s : State) :
    (rollCounted e down s).fd (R.STY_ROLL_CNT e) 31 16 = min 0xFFFF (s.fd (R.STY_ROLL_CNT e) 31 16 + b2n down)
      ∧ (rollCounted e down s).fd (R.STY_ROLL_CNT e) 15 0 = min 0xFFFF (s.fd (R.STY_ROLL_CNT e) 15 0 + b2n (!down)) := by
  cases down
  · exact ⟨(fd_fw_of_disjoint _ _ _ (by decide) (by decide) (by decide) (by decide)).trans (min_half s rfl).symm, fd_sat_same _ _ _ (by decide)⟩
  · exact ⟨fd_sat_same _ _ _ (by decide), (fd_fw_of_disjoint _ _ _ (by decide) (by decide) (by decide) (by decide)).trans (min_half s rfl).symm⟩

theorem rotWithdraw_links (s : State) : ∃ g, rotWithdraw e l s = s.uLnk g := by
  unfold rotWithdraw
  split
  · exact ⟨_, rfl⟩
  · exact ⟨id, rfl⟩

theorem RegsOnly.sty {s t : State} (h : RegsOnly s t) : t.sty = s.sty := by rw [h]

/-- What the start of a guard leaves: the loop's guard and roll, its ROLL_DUE bit clear, all else but its shown residual. -/
structure GuardStarted (e l : Nat) (u t : State) : Prop where
  guard : (t.lp e l).guard = u.fd (coefOff e l 0) 11 8
  rolling : (t.lp e l).rolling = true
  due : t.bit (R.STY_ROLL_DUE e (l / 32)) (l % 32) = false
  regs : RegsKept [R.STY_ROLL_DUE e (l / 32), R.STY_SUP_RESID e l] u t
  evt : t.evt = u.evt
  mem : SameMem u t

theorem rollGuarded_started (x : LoopSt) (step : Int) (u : State) : GuardStarted e l u (rollGuarded e l x step u) := by
  unfold rollGuarded
  generalize hx : ({ x with guard := fieldOf (u.coef e l 0) 11 8, rolling := true, x := x.x + step, xa := x.xa + step } : LoopSt) = y
  have honly : LoopsOnly u (u.setLp e l y) := (LoopsOnly.refl u).setLp ..
  have hlp : (u.setLp e l y).lp e l = y := lp_setLp_same ..
  generalize u.setLp e l y = v at *
  have hfw : RegsOnly v ((v.fw (R.STY_ROLL_DUE e (l / 32)) (l % 32) (l % 32) 0).fw (R.STY_SUP_RESID e l) 2 2 0) := ((RegsOnly.refl v).fw ..).fw ..
  have hkept : RegsKept [R.STY_ROLL_DUE e (l / 32), R.STY_SUP_RESID e l] u
      ((v.fw (R.STY_ROLL_DUE e (l / 32)) (l % 32) (l % 32) 0).fw (R.STY_SUP_RESID e l) 2 2 0) :=
    ((RegsKept.of_regs_eq _ honly.regs).fw (by simp) _ _ _).fw (by simp) _ _ _
  have hdue : ((v.fw (R.STY_ROLL_DUE e (l / 32)) (l % 32) (l % 32) 0).fw (R.STY_SUP_RESID e l) 2 2 0).bit (R.STY_ROLL_DUE e (l / 32)) (l % 32)
      = false := by
    rw [bit_fw_ne (by grind), bit_fw le_rfl le_rfl (by omega), Nat.sub_self]
    simp [bitOf]
  generalize (v.fw (R.STY_ROLL_DUE e (l / 32)) (l % 32) (l % 32) 0).fw (R.STY_SUP_RESID e l) 2 2 0 = w at *
  obtain ⟨g, hg⟩ := rotWithdraw_links (e := e) (l := l) w
  have hlp' : (rotWithdraw e l w).lp e l = y := by rw [hg, State.lp, uLnk_sty, hfw.sty, ← State.lp, hlp]
  have hregs : (rotWithdraw e l w).regs = w.regs := by rw [hg, uLnk_regs]
  refine ⟨?_, ?_, ?_, hkept.keep hregs, ?_, honly.sameMem.trans (hfw.sameMem.trans ?_)⟩
  · rw [hlp', ← hx]
    rfl
  · rw [hlp', ← hx]
  · rw [bit_of_rd_eq (rd_of_regs_eq hregs _), hdue]
  · rw [hg, uLnk_evt, hfw.evt, honly.evt]
  · rw [hg]
    exact .of_eq rfl rfl rfl

/-- What a roll leaves of the loop, its count and its ROLL_DUE bit. -/
structure Rolled (e l : Nat) (down : Bool) (b c : State) : Prop where
  raised : Raised c Ev.ORDER_ROLL (loopId e l)
  unseeded : seedOk b e l down = false → Raised c Ev.ROLL_UNSEEDED (loopId e l)
  guard : (c.lp e l).guard = b.fd (coefOff e l 0) 11 8
  rolling : (c.lp e l).rolling = true
  downs : c.fd (R.STY_ROLL_CNT e) 31 16 = min 0xFFFF (b.fd (R.STY_ROLL_CNT e) 31 16 + b2n down)
  ups : c.fd (R.STY_ROLL_CNT e) 15 0 = min 0xFFFF (b.fd (R.STY_ROLL_CNT e) 15 0 + b2n (!down))
  due : c.bit (R.STY_ROLL_DUE e (l / 32)) (l % 32) = false
  regs : RegsKept [R.STY_ROLL_CNT e, R.STY_ROLL_DUE e (l / 32), R.STY_SUP_RESID e l] b c
  mem : SameMem b c

theorem rolled_of_orderRoll (hl : l < 140) (hqueue : s.evt.queue.length < 1000) (down : Bool) (i out : Int) :
    Rolled e l down s (orderRoll e l down i out s).1 := by
  obtain ⟨step, heq⟩ := orderRoll_eq (s := s) (e := e) (l := l) down i out
  rw [heq]
  obtain ⟨hraised, hunseeded⟩ := rollRaised_raised (e := e) (l := l) hqueue down (rollOut s e l down out)
  have hregs := rollRaised_regs (e := e) (l := l) hqueue down (rollOut s e l down out)
  have hmem := rollRaised_sameMem (s := s) (e := e) (l := l) down (rollOut s e l down out)
  generalize rollRaised e l down (rollOut s e l down out) s = r at *
  obtain ⟨hdowns, hups⟩ := rollCounted_counts (e := e) down r
  have hcnt := rollCounted_regsKept (e := e) down r
  have honly := rollCounted_only (e := e) down r
  generalize rollCounted e down r = u at *
  have ht := rollGuarded_started (e := e) (l := l) (s.lp e l) step u
  obtain ⟨b, hlo, hhi, hb⟩ := coefOff_parts e hl
  have hrd : ∀ o, r.rd o = s.rd o := rd_of_regs_eq hregs
  have hout : R.STY_ROLL_CNT e ∉ [R.STY_ROLL_DUE e (l / 32), R.STY_SUP_RESID e l] := by simp; grind
  refine ⟨raised_of_evt_eq (ht.evt.trans honly.evt) hraised, fun h => raised_of_evt_eq (ht.evt.trans honly.evt) (hunseeded h), ?_, ht.rolling,
    ?_, ?_, ht.due, fun o ho => ?_, hmem.trans (honly.sameMem.trans ht.mem)⟩
  · rw [ht.guard, fd_of_rd_eq ((hcnt _ ?_).trans (hrd _))]
    simp only [List.mem_cons, List.not_mem_nil, or_false, hb]
    grind
  · rw [fd_of_rd_eq (ht.regs _ hout), hdowns, fd_of_rd_eq (hrd _)]
  · rw [fd_of_rd_eq (ht.regs _ hout), hups, fd_of_rd_eq (hrd _)]
  · simp only [List.mem_cons, List.not_mem_nil, or_false, not_or] at ho
    rw [ht.regs o (by simp [ho]), hcnt o (by simp [ho]), hrd]

theorem orderRoll_values (down : Bool) (i out : Int) :
    (orderRoll e l down i out s).2 = (rollI s e l down i, rollOut s e l down out) := by
  obtain ⟨step, heq⟩ := orderRoll_eq (s := s) (e := e) (l := l) down i out
  rw [heq]

theorem seedOk_of_regs_eq {t : State} (h : t.regs = s.regs) (down : Bool) : seedOk t e l down = seedOk s e l down := by
  rw [seedOk, coefI_of_regs_eq h, bit_of_rd_eq (rd_of_regs_eq h _), seedOk]

theorem roll_runs (e : Fin 16) (l : Fin 140) (down : Bool) (h : LawAlone s e l) (hmode : loopMode s e l = 1)
    (hfree : holdCauses s e l = (false, false, false)) (hguard : (s.lp e l).guard = 0) (hroll : (s.lp e l).rolling = false)
    (hring : isRing l = true) (hqueue : s.evt.queue.length < 1000)
    (hjump : if down then (dacOf (outOf s e l) : Int) + 0x8000 < (s.lp e l).dac else ((s.lp e l).dac : Int) + 0x8000 < dacOf (outOf s e l)) :
    ∃ b c, LoopsOnly s b ∧ Rolled e l down b c ∧ Runs (.stylusSlot e l) s
      (Wrote e l (rollI s e l down (integOf s e l)) (rollOut s e l down (outOf s e l)) (some (errOf s e l)) c) := by
  have hunguarded := not_guarded hguard
  have hun := lawAlone_unattended h
  have hjumps : jumps s e l (errOf s e l) = true := by
    rw [jumps, stepOut_free hunguarded]
    exact decide_eq_true (by cases down <;> simp at hjump <;> omega)
  have hdown : decide (dacOf (outOf s e l) < (s.lp e l).dac) = down := by
    cases down <;> simp at hjump ⊢ <;> omega
  have hstays : (!guarded (primed e l s) e l && ((primed e l s).lp e l).rolling) = false := by
    rw [(primed_kept e l s).rolling, hroll, Bool.and_false]
  have honly : LoopsOnly s (steppedLoop e l (errOf s e l) (primed e l s)) := steppedLoop_only ..
  have hlaw : (lawOf e l s).1 = writeOut e l (rollI s e l down (integOf s e l)) (rollOut s e l down (outOf s e l)) (some (errOf s e l))
      (orderRoll e l down (integOf s e l) (outOf s e l) (steppedLoop e l (errOf s e l) (primed e l s))).1 := by
    rw [lawOf_run (isHeld_false hfree) hmode, runSample_eq _ _ (show ((primed e l s).eng e).relay = none from hun.relay), jumps_primed, hjumps,
      hring, sampleRoll, sampledLoop, hstays, stepI_primed, stepOut_primed, stepI_free hunguarded, stepOut_free hunguarded,
      (primed_kept e l s).dac, hdown]
    simp only [Bool.not_true, Bool.and_false, Bool.false_eq_true, if_false, if_true]
    rw [orderRoll_values, rollI, rollI, rollOut, rollOut, seedOk_of_regs_eq honly.regs, coefI_of_regs_eq honly.regs,
      lawBase_of_eq honly.regs honly.pins honly.ct]
  have hroom : (steppedLoop e l (errOf s e l) (primed e l s)).evt.queue.length < 1000 := by rwa [honly.evt]
  have hrolled := rolled_of_orderRoll (e := e) l.isLt hroom down (integOf s e l) (outOf s e l)
  generalize (orderRoll e l down (integOf s e l) (outOf s e l) (steppedLoop e l (errOf s e l) (primed e l s))).1 = c at *
  generalize steppedLoop e l (errOf s e l) (primed e l s) = b at *
  have htrace : trState (writeOut e l (rollI s e l down (integOf s e l)) (rollOut s e l down (outOf s e l)) (some (errOf s e l)) c) e = 0 := by
    rw [trState_writeOut l.isLt, trState, fd_of_rd_eq (hrolled.regs _ (by simp; grind)), ← trState, honly.trState, hun.trace]
  exact ⟨b, c, honly, hrolled, _, exec_stylusSlot h.1 h.2.1, wrote_of_kept l.isLt
    (lawAlone_kept h l.isLt e.isLt hlaw htrace fun hh => by simp [isHeld_false hfree] at hh)⟩

/-- A roll's count and the word of its ROLL_DUE bit are none of a sample's registers. -/
theorem roll_not_shown (hl : l < 140) {o : Nat} (ho : o = R.STY_ROLL_CNT e ∨ o = R.STY_ROLL_DUE e (l / 32)) :
    o ∉ [coefOff e l 10, coefOff e l 11, coefOff e l 12] ++ shownRegs e l := by
  obtain ⟨b, hlo, hhi, hb⟩ := coefOff_parts e hl
  have := holdWord_lt hl
  simp only [List.mem_append, shownRegs, List.mem_cons, List.not_mem_nil, or_false, hb, not_or]
  grind

/-- Settles O28: a wrap of a ring in RUN rolls its order, a guarded sample follows the law without p and without integrating, the first
sample after the guard ends the roll, and a wrap of any other loop holds it. -/
theorem orderRollsSeedGuardAndEnd : Obligations.OrderRollsSeedGuardAndEnd := by
  refine ⟨fun s e l down h hmode hfree hguard hroll hring hqueue => ?_, fun _ => guarded_runs, fun _ => rollDone_runs, fun _ => rollDone_idle,
    fun s e l h hmode hfree hguard _ => outWrap_runs e l h hmode hfree hguard⟩
  intro err i out hjump ok
  obtain ⟨b, c, honly, hc, t, ht, hw⟩ := roll_runs e l down h hmode hfree hguard hroll hring hqueue hjump
  have hok : seedOk s e l down = true ↔ ok := seedOk_iff
  refine ⟨t, ht, fun h => ?_, fun h => ?_, raised_of_evt_eq hw.evt hc.raised, ?_, hw.rolling.trans hc.rolling, ?_, ?_, ?_, fun o ho => ?_,
    honly.sameMem.trans (hc.mem.trans hw.mem)⟩
  · rw [hw.integ, hw.output, rollI, rollOut, if_pos (hok.mpr h), if_pos (hok.mpr h)]
    exact ⟨wrapN_sgn (coef_lt ..), rfl⟩
  · have hno : seedOk s e l down = false := by rw [← Bool.not_eq_true, hok]; exact h
    rw [hw.integ, hw.output, rollI, rollOut, hno]
    exact ⟨rfl, rfl, raised_of_evt_eq hw.evt (hc.unseeded (by rw [seedOk_of_regs_eq honly.regs, hno]))⟩
  · rw [hw.guard, hc.guard, fd_of_rd_eq (rd_of_regs_eq honly.regs _)]
  · rw [fd_of_rd_eq (hw.regs _ (roll_not_shown l.isLt (.inl rfl))), hc.downs, fd_of_rd_eq (rd_of_regs_eq honly.regs _)]
  · rw [fd_of_rd_eq (hw.regs _ (roll_not_shown l.isLt (.inl rfl))), hc.ups, fd_of_rd_eq (rd_of_regs_eq honly.regs _)]
  · rw [bit_of_rd_eq (hw.regs _ (roll_not_shown l.isLt (.inr rfl))), hc.due]
  · simp only [List.mem_cons, List.not_mem_nil, or_false, not_or] at ho
    obtain ⟨h10, h11, h12, h13, hst, hsup, hres, hcnt, hdue, hmap⟩ := ho
    rw [hw.regs o (by simp [shownRegs, holdWord, h10, h11, h12, h13, hst, hsup, hres, hmap]), hc.regs o (by simp [hcnt, hdue, hres]),
      rd_of_regs_eq honly.regs]

end Sys2Proof.Machine
end

section
/-! Coefficient writes and the supervisor's release (09 R254, R256, R258; 10 R268). -/

namespace Sys2Proof.Machine

variable {s : State} {e l w : Nat}

/-! The write queue -/

theorem coefAt_coefOff (he : e < 16) (hl : l < 140) (hw : w < 64) : coefAt (coefOff e l w) = some (e, l, w) := by
  unfold coefAt coefOff
  dsimp only
  by_cases hring : l < 56
  · rw [if_pos hring, if_neg (by omega), if_pos (by omega), Option.some.injEq, Prod.mk.injEq, Prod.mk.injEq]
    omega
  · rw [if_neg hring, if_neg (by omega), if_neg (by omega), if_pos (by omega), Option.some.injEq, Prod.mk.injEq, Prod.mk.injEq]
    omega

theorem exec_styCoefWrite {p : Path} (h : Reaches p s) (off : Nat) (v : Word) :
    exec (.styCoefWrite p off v) s = .next (coefWrite off v.toNat s) := through_reaches h _ _

/-- A word the write queue takes: writable, of a loop, in a block that is ON (R254, R258). -/
def Queued (s : State) (e l w : Nat) : Prop :=
  s.blockOn (coefOff e l w) = true ∧ loopId e l ≠ 0xFFF ∧ w ∉ [11, 12, 13] ∧ (w < 15 ∨ 32 ≤ w)

theorem coefWrite_queued (he : e < 16) (hl : l < 140) (hw : w < 64) (h : Queued s e l w) (v : Nat) :
    coefWrite (coefOff e l w) v s = wqPush e l w v s := by
  obtain ⟨hon, hid, hro, hrange⟩ := h
  rw [coefWrite, coefAt_coefOff he hl hw]
  exact if_neg (by simp [hon, hid] at hro ⊢; omega)

theorem coefWrite_discarded (he : e < 16) (hl : l < 140) (hw : w < 64) (h : loopId e l = 0xFFF ∨ w ∈ [11, 12, 13] ∨ (14 < w ∧ w < 32))
    (v : Nat) : coefWrite (coefOff e l w) v s = s := by
  rw [coefWrite, coefAt_coefOff he hl hw]
  exact if_pos (by simp at h ⊢; tauto)

/-- The queue of an engine and the level that STY_STATUS shows. -/
def queueSet (e : Nat) (q : List (Nat × Nat × Word)) (s : State) : State := wqLevel (s.setEng e { s.eng e with wq := q }) e

theorem wqPush_room (hp : s.sty.patient = false) (hq : (s.eng e).wq.length < 128) (v : Word) :
    wqPush e l w v.toNat s = queueSet e ((s.eng e).wq ++ [(l, w, v)]) s := by
  rw [wqPush, w32_toNat]
  rw [if_neg (by simp [hp]), if_neg (by omega), queueSet]

theorem wqPush_full (hp : s.sty.patient = false) (hq : 128 ≤ (s.eng e).wq.length) (v : Nat) :
    wqPush e l w v s = (s.sat (R.STY_WQ_DROP e) 31 0 1).ev Ev.STY_WQ_FULL e [coefOff e l w] := by
  rw [wqPush]
  rw [if_neg (by simp [hp]), if_pos hq]

section
variable {q : List (Nat × Nat × Word)}

theorem queueSet_only : RegsOnly (s.setEng e { s.eng e with wq := q }) (queueSet e q s) := (RegsOnly.refl _).fw _ _ _ _

theorem eng_setEng_same (s : State) (e : Nat) (x : Eng) : (s.setEng e x).eng e = x := by
  rw [State.eng, State.setEng, uSty_sty, getD_setAt, if_pos rfl]

theorem queueSet_wq : ((queueSet e q s).eng e).wq = q := by rw [State.eng, queueSet_only.sty, ← State.eng, eng_setEng_same]

theorem queueSet_level : (queueSet e q s).fd (R.STY_STATUS e) 23 16 = q.length % 2 ^ 8 := by
  rw [queueSet, wqLevel, fd_fw_same _ _ _ (by decide), eng_setEng_same]

theorem queueSet_regsKept : RegsKept [R.STY_STATUS e] s (queueSet e q s) :=
  (RegsKept.of_regs_eq (t := s.setEng e { s.eng e with wq := q }) _ rfl).fw List.mem_cons_self _ _ _

theorem queueSet_evt : (queueSet e q s).evt = s.evt := by rw [queueSet_only.evt, State.setEng, uSty_evt]

theorem queueSet_sameMem : SameMem s (queueSet e q s) := by
  have hset : SameMem s (s.setEng e { s.eng e with wq := q }) := .of_eq rfl rfl rfl
  exact hset.trans queueSet_only.sameMem

end

theorem coefWrite_full_runs {p : Path} (e : Fin 16) (l : Fin 140) (w : Fin 64) (v : Word) (hreach : Reaches p s) (h : Queued s e l w)
    (hp : s.sty.patient = false) (hq : 128 ≤ (s.eng e).wq.length) (room : RoomFor s) : Runs (.styCoefWrite p (coefOff e l w) v) s fun t =>
      Raised t Ev.STY_WQ_FULL e ∧ t.rd (R.STY_WQ_DROP e) = min 0xFFFFFFFF (s.rd (R.STY_WQ_DROP e) + 1) ∧ t.sty = s.sty
        ∧ RegsKept [R.STY_WQ_DROP e] s t ∧ SameMem s t := by
  refine ⟨_, exec_styCoefWrite hreach _ _, ?_⟩
  rw [coefWrite_queued e.isLt l.isLt w.isLt h, wqPush_full hp hq]
  have honly : RegsOnly s (s.sat (R.STY_WQ_DROP e) 31 0 1) := (RegsOnly.refl s).sat ..
  have hkept : RegsKept [R.STY_WQ_DROP e] s (s.sat (R.STY_WQ_DROP e) 31 0 1) := RegsKept.sat (.of_regs_eq _ rfl) List.mem_cons_self _ _ _
  have hcount := rd_sat_count s (R.STY_WQ_DROP e)
  generalize s.sat (R.STY_WQ_DROP e) 31 0 1 = u at *
  have hregs := ev_regs (honly.roomFor room) Ev.STY_WQ_FULL e [coefOff e l w]
  exact ⟨ev_raised (honly.roomFor room) .., (rd_of_regs_eq hregs _).trans hcount, (ev_sty ..).trans honly.sty, hkept.keep hregs,
    honly.sameMem.trans (ev_sameMem ..)⟩

theorem coefWrite_queue_runs {p : Path} (e : Fin 16) (l : Fin 140) (w : Fin 64) (v : Word) (hreach : Reaches p s) (h : Queued s e l w)
    (hp : s.sty.patient = false) (hq : (s.eng e).wq.length < 128) : Runs (.styCoefWrite p (coefOff e l w) v) s fun t =>
      (t.eng e).wq = (s.eng e).wq ++ [(l.val, w.val, v)] ∧ t.fd (R.STY_STATUS e) 23 16 = (s.eng e).wq.length + 1
        ∧ t.evt = s.evt ∧ RegsKept [R.STY_STATUS e] s t ∧ SameMem s t := by
  refine ⟨_, exec_styCoefWrite hreach _ _, ?_⟩
  rw [coefWrite_queued e.isLt l.isLt w.isLt h, wqPush_room hp hq]
  refine ⟨queueSet_wq, ?_, queueSet_evt, queueSet_regsKept, queueSet_sameMem⟩
  rw [queueSet_level, List.length_append, List.length_singleton, Nat.mod_eq_of_lt (by omega)]

/-! The release (10 R268) -/

theorem exec_stySupRelease {p : Path} (h : Reaches p s) (hhost : hostLike p = false) (e : Fin 16) (v : Word) :
    exec (.stySupRelease p e v) s = if !s.blockOn (R.STY_SUP_RELEASE e) ∨ 140 ≤ fieldOf v.toNat 7 0 then .next s
      else .next (engineCounts e (holdShow e (fieldOf v.toNat 7 0)
        (bitOf ((supRelease e (fieldOf v.toNat 7 0) s).rd (coefOff e (fieldOf v.toNat 7 0) 13)) 8,
          bitOf ((supRelease e (fieldOf v.toNat 7 0) s).rd (coefOff e (fieldOf v.toNat 7 0) 13)) 9,
          supHeld (supRelease e (fieldOf v.toNat 7 0) s) e (fieldOf v.toNat 7 0)) (supRelease e (fieldOf v.toNat 7 0) s))) :=
  (through_reaches h _ _).trans (if_neg (by simp [hhost]))

theorem shown_only (e l : Nat) (h : Bool × Bool × Bool) (s : State) : RegsOnly s (engineCounts e (holdShow e l h s)) := by
  rw [holdShow, holdMap_eq]
  exact ((((RegsOnly.refl s).wr _ _).fw _ _ _ _).fw _ _ _ _).fw _ _ _ _

theorem shown_regsKept (e l : Nat) (h : Bool × Bool × Bool) (s : State) :
    RegsKept [R.STY_STATUS e, R.STY_SUP_STATUS e, coefOff e l 13, R.STY_HOLD_MAP e (holdWord l)] s (engineCounts e (holdShow e l h s)) := by
  rw [holdShow, holdMap_eq]
  exact ((((RegsKept.of_regs_eq _ rfl).wr (by simp) _).fw (by simp) _ _ _).fw (by simp) _ _ _).fw (by simp) _ _ _

/-- STATE's bit 10 shows the supervisor's hold. -/
theorem bit_supHeld_shown (hl : l < 140) (h : Bool × Bool × Bool) : (engineCounts e (holdShow e l h s)).bit (coefOff e l 13) 10 = h.2.2 := by
  rw [bit_of_fd _ _ (show 8 ≤ 10 by decide) le_rfl, fd_state_shown hl]
  revert h
  decide

theorem release_runs {p : Path} (e : Fin 16) (v : Word) (hreach : Reaches p s) (hhost : hostLike p = false)
    (hon : s.blockOn (R.STY_SUP_RELEASE e) = true) (hl : fieldOf v.toNat 7 0 < 140) : Runs (.stySupRelease p e v) s fun t =>
      t.lp e (fieldOf v.toNat 7 0) = { s.lp e (fieldOf v.toNat 7 0) with hold := false, wrapHold := false, bad := 0, good := 0, anchor := true }
        ∧ t.bit (coefOff e (fieldOf v.toNat 7 0) 13) 10 = supHeld t e (fieldOf v.toNat 7 0) ∧ t.evt = s.evt
        ∧ RegsKept [R.STY_STATUS e, R.STY_SUP_STATUS e, coefOff e (fieldOf v.toNat 7 0) 13, R.STY_HOLD_MAP e (holdWord (fieldOf v.toNat 7 0))] s t
        ∧ SameMem s t := by
  refine ⟨_, (exec_stySupRelease hreach hhost e v).trans (if_neg (by simp [hon, hl])), ?_⟩
  generalize fieldOf v.toNat 7 0 = l at *
  have honly : LoopsOnly s (supRelease e l s) := (LoopsOnly.refl s).setLp ..
  have hlp : (supRelease e l s).lp e l = { s.lp e l with hold := false, wrapHold := false, bad := 0, good := 0, anchor := true } :=
    lp_setLp_same ..
  generalize supRelease e l s = u at *
  have hshown := shown_only e l (bitOf (u.rd (coefOff e l 13)) 8, bitOf (u.rd (coefOff e l 13)) 9, supHeld u e l) u
  refine ⟨?_, ?_, hshown.evt.trans honly.evt, fun o ho => (shown_regsKept _ _ _ u o ho).trans (rd_of_regs_eq honly.regs o),
    honly.sameMem.trans hshown.sameMem⟩
  · rw [State.lp, hshown.sty, ← State.lp, hlp]
  · rw [bit_supHeld_shown hl, ((holdShow_kept _).trans engineCounts_kept).supHeld hl e.isLt]

theorem release_idle {p : Path} (e : Fin 16) (v : Word) (hreach : Reaches p s) (hhost : hostLike p = false) (hl : 140 ≤ fieldOf v.toNat 7 0) :
    exec (.stySupRelease p e v) s = .next s := (exec_stySupRelease hreach hhost e v).trans (if_pos (.inr hl))

theorem release_denied {p : Path} (e : Fin 16) (v : Word) (hreach : Reaches p s) (hhost : hostLike p = true) (room : RoomFor s) :
    Runs (.stySupRelease p e v) s fun t => Raised t Ev.SUP_DENIED 0 ∧ t.sty = s.sty ∧ t.regs = s.regs ∧ SameMem s t := by
  obtain ⟨hraised, -, hregs, hmem⟩ := deny_leaves room Ev.SUP_DENIED (R.STY_SUP_RELEASE e) v.toNat p
  exact ⟨_, (through_reaches hreach _ _).trans (if_pos hhost), hraised, ev_sty .., hregs, hmem⟩

end Sys2Proof.Machine
end

section
/-! Housekeeping of the rings (10 R271–R274): SEED, rolls that fall due, and the headroom. -/

namespace Sys2Proof.Machine

variable {s t u : State} {e k l : Nat}

/-! Folds in which one step counts -/

section
variable {α β : Type} {R : β → β → Prop} {f : β → α → β} {as : List α}

theorem foldl_related (hrefl : ∀ b, R b b) (htrans : ∀ {a b c}, R a b → R b c → R a c) (hf : ∀ b, ∀ a ∈ as, R b (f b a)) (b : β) :
    R b (as.foldl f b) := List.foldlRecOn (motive := R b) as f (hrefl b) fun c hc a ha => htrans hc (hf c a ha)

/-- Where all steps but one keep a relation, it holds up to that one and from it on. -/
theorem foldl_around (hrefl : ∀ b, R b b) (htrans : ∀ {a b c}, R a b → R b c → R a c) {a : α} (hnodup : as.Nodup) (ha : a ∈ as)
    (hf : ∀ b, ∀ x ∈ as, x ≠ a → R b (f b x)) (b : β) : ∃ c, R b c ∧ R (f c a) (as.foldl f b) := by
  obtain ⟨xs, ys, rfl⟩ := List.append_of_mem ha
  have hout : a ∉ xs ++ ys := (List.nodup_cons.mp (List.nodup_middle.mp hnodup)).1
  rw [List.foldl_append, List.foldl_cons]
  refine ⟨_, foldl_related hrefl htrans (fun b x hx => hf b x (by simp [hx]) ?_) b,
    foldl_related hrefl htrans (fun b y hy => hf b y (by simp [hy]) ?_) _⟩
  · rintro rfl
    exact hout (List.mem_append_left _ hx)
  · rintro rfl
    exact hout (List.mem_append_right _ hy)

end

/-! Link control that leaves: link state and outputs, nothing else -/

/-- From s to t only the links' state and the outputs differ. -/
def LinksOnly (s t : State) : Prop := t = { s with lnk := t.lnk, out := t.out }

namespace LinksOnly

theorem refl (s : State) : LinksOnly s s := rfl

section
variable (h : LinksOnly s t)
include h

theorem uLnk (g : LnkSt → LnkSt) : LinksOnly s (t.uLnk g) := by
  unfold LinksOnly at *
  rw [h]
  rfl

theorem uLk (p : Nat) (g : Lnk → Lnk) : LinksOnly s (t.uLk p g) := h.uLnk _

theorem emit (o : Out) : LinksOnly s (t.emit o) := by
  unfold LinksOnly at *
  rw [h]
  rfl

theorem regs : t.regs = s.regs := by rw [h]

theorem sty : t.sty = s.sty := by rw [h]

theorem evt : t.evt = s.evt := by rw [h]

theorem rst : t.rst = s.rst := by rw [h]

theorem sameMem : SameMem s t := by
  rw [h]
  exact .of_eq rfl rfl rfl

theorem laneBlock {p n hdr : Nat} {payload : List Word} : LinksOnly s (laneBlock p n hdr payload t) := (h.uLnk _).emit _

theorem marksGo {p n j : Nat} : LinksOnly s (marksGo p n j t) := by
  induction j generalizing t with
  | zero => exact h
  | succ j ih =>
    unfold Machine.marksGo
    split_ifs
    · exact ih h.laneBlock
    · exact h

theorem lctl {p kind : Nat} {fields : List Nat} : LinksOnly s (lctl p kind fields t) := by
  unfold Machine.lctl
  extract_lets t1
  have h1 : LinksOnly s t1 := h.emit _
  split
  · exact h1.marksGo.laneBlock
  · exact h1

end

end LinksOnly

/-! What housekeeping leaves -/

/-- From s to t no register outside W has changed, and the engines' state, the resets and memory stand. -/
structure Housekept (W : Nat → Prop) (s t : State) : Prop where
  regs : ∀ o, ¬W o → t.rd o = s.rd o
  sty : t.sty = s.sty
  rst : t.rst = s.rst
  mem : SameMem s t

namespace Housekept

variable {W V : Nat → Prop}

theorem refl (s : State) : Housekept W s s := ⟨fun _ _ => rfl, rfl, rfl, .of_eq rfl rfl rfl⟩

theorem trans (h : Housekept W s t) (g : Housekept W t u) : Housekept W s u :=
  ⟨fun o ho => (g.regs o ho).trans (h.regs o ho), g.sty.trans h.sty, g.rst.trans h.rst, h.mem.trans g.mem⟩

theorem mono (h : Housekept V s t) (hV : ∀ o, V o → W o) : Housekept W s t :=
  ⟨fun o ho => h.regs o fun hv => ho (hV o hv), h.sty, h.rst, h.mem⟩

theorem of_regsOnly (h : RegsOnly s t) (hregs : ∀ o, ¬W o → t.rd o = s.rd o) : Housekept W s t := ⟨hregs, h.sty, h.rst, h.sameMem⟩

theorem wr (h : Housekept W s t) {off : Nat} (ho : W off) (v : Nat) : Housekept W s (t.wr off v) :=
  h.trans (.of_regsOnly ((RegsOnly.refl t).wr off v) fun _ hn => rd_wr_ne fun heq => hn (heq ▸ ho))

theorem fw (h : Housekept W s t) {off : Nat} (ho : W off) (hi lo v : Nat) : Housekept W s (t.fw off hi lo v) := h.wr ho _

theorem ev (h : Housekept W s t) (ho : W R.EVT_DROP_CNT) (code src : Nat) (args : List Nat) : Housekept W s (t.ev code src args) :=
  h.trans ⟨fun _ hn => rd_ev fun heq => hn (heq ▸ ho), ev_sty .., ev_rst .., ev_sameMem ..⟩

theorem links (h : Housekept W s t) (g : LinksOnly t u) : Housekept W s u :=
  h.trans ⟨fun _ _ => rd_of_regs_eq g.regs _, g.sty, g.rst, g.sameMem⟩

theorem lp (h : Housekept W s t) (e l : Nat) : t.lp e l = s.lp e l := by rw [State.lp, h.sty, State.lp]

/-- An engine runs by its domain's state and reset and by its STY_STATUS. -/
theorem engineRuns (h : Housekept W s t) {d : Nat} (hdom : ¬W (0x30100 + 4 * ((0x98 + d / 2) / 16))) (hst : ¬W (R.STY_STATUS d)) :
    engineRuns t d = engineRuns s d := by
  rw [Machine.engineRuns, State.domUp, State.dom, fd_of_rd_eq (h.regs _ hdom), h.rst, bit_of_rd_eq (h.regs _ hst)]
  rfl

end Housekept

/-- One ring's housekeeping. -/
def ringStep (e : Nat) (s : State) (k : Nat) : State := rollDue e k (refreshSeed e k s)

/-- The registers that a roll falling due may write. -/
def DueReg (e k o : Nat) : Prop := o = R.STY_ROLL_DUE e (k / 32) ∨ o = R.STY_SUP_RESID e k ∨ o = R.EVT_DROP_CNT

/-- Those that one ring's housekeeping may write. -/
def RingReg (e k o : Nat) : Prop := o = coefOff e k 9 ∨ DueReg e k o

/-- Those that one engine's housekeeping may write. -/
def EngineReg (e o : Nat) : Prop := (∃ k < 56, RingReg e k o) ∨ o = R.STY_SUP_STATUS e

theorem coefOff_ring (e : Nat) {k : Nat} (hk : k < 56) (w : Nat) : coefOff e k w = 0x101000 + 0x10000 * e + 0x100 * k + 4 * w := by
  rw [coefOff, if_pos hk]

theorem mem_ringIdx : k ∈ ringIdx ↔ 2 ≤ k ∧ k < 56 := by
  simp only [ringIdx, List.mem_map, List.mem_range]
  exact ⟨fun ⟨j, hj, h⟩ => by omega, fun h => ⟨k - 2, by omega, by omega⟩⟩

theorem isRing_iff : isRing k = true ↔ 2 ≤ k ∧ k < 56 := by simp [isRing]

theorem ringIdx_nodup : ringIdx.Nodup := List.nodup_range.map (add_left_injective 2)

theorem refreshSeed_only (e k : Nat) (s : State) : RegsOnly s (refreshSeed e k s) := by
  unfold refreshSeed
  extract_lets x f base
  split
  · exact .refl s
  · exact (RegsOnly.refl s).wr _ _

theorem rd_refreshSeed_ne {o : Nat} (h : o ≠ coefOff e k 9) : (refreshSeed e k s).rd o = s.rd o := by
  unfold refreshSeed
  extract_lets x f base
  split
  · rfl
  · exact rd_wr_ne h

theorem coef_refreshSeed (h : bitOf (s.lp e k).sup.1 3 = true) : (refreshSeed e k s).coef e k 9
    = wrapN 32 (if 0x8000 ≤ (s.lp e k).dac then s.coefI e k 10 + (s.lp e k).dint - sgn 32 (s.lp e k).sup.2.2
      else s.coefI e k 10 + (s.lp e k).dint + sgn 32 (s.lp e k).sup.2.2) := by
  unfold refreshSeed
  extract_lets x f base
  rw [if_neg (by simp [x, h]), State.coef, rd_wr, if_pos rfl, wrapN_mod]

/-- A roll marked due: the ring's bits, then the event. -/
def rollMarked (e k : Nat) (args : List Nat) (s : State) : State :=
  ((s.fw (R.STY_ROLL_DUE e (k / 32)) (k % 32) (k % 32) 1).fw (R.STY_SUP_RESID e k) 2 2 1).ev Ev.ROLL_DUE (loopId e k) args

/-- A ring's roll is due: supervised, near an end of its range, and not yet marked. -/
def rollFalls (s : State) (e k : Nat) : Bool := bitOf (s.lp e k).sup.1 4
  && (decide (highMargin s e k ≤ fieldOf (s.lp e k).sup.2.1 31 24) || decide (lowMargin s e k ≤ fieldOf (s.lp e k).sup.2.1 23 16))
  && !s.bit (R.STY_ROLL_DUE e (k / 32)) (k % 32)

theorem not_rollFalls : (!bitOf (s.lp e k).sup.1 4
    || !(decide (highMargin s e k ≤ fieldOf (s.lp e k).sup.2.1 31 24) || decide (lowMargin s e k ≤ fieldOf (s.lp e k).sup.2.1 23 16))
    || s.bit (R.STY_ROLL_DUE e (k / 32)) (k % 32)) = !rollFalls s e k := by
  rw [rollFalls, Bool.not_and, Bool.not_and, Bool.not_not]

theorem rollDue_idle (h : rollFalls s e k = false) : rollDue e k s = s := by
  have hidle := not_rollFalls (s := s) (e := e) (k := k)
  rw [h, Bool.not_false] at hidle
  exact if_pos hidle

/-- A ring has a lane. -/
theorem loopLane_ring (h : isRing k = true) : ∃ x, loopLane e k = some x := by
  obtain ⟨hlo, hhi⟩ := isRing_iff.mp h
  unfold loopLane
  by_cases hrx : k < 20
  · exact ⟨_, if_pos ⟨hlo, hrx⟩⟩
  · rw [if_neg (by omega)]
    by_cases htx : k < 38
    · exact ⟨_, if_pos (by omega)⟩
    · rw [if_neg (by omega)]
      exact ⟨_, if_pos (by omega)⟩

theorem rollDue_falls (h : rollFalls s e k = true) (hring : isRing k = true) : ∃ args, LinksOnly (rollMarked e k args s) (rollDue e k s) := by
  obtain ⟨⟨tx, p, n⟩, hlane⟩ := loopLane_ring (e := e) hring
  unfold rollDue
  extract_lets kt hi lo s1
  have hfalls : ¬(!bitOf (s.lp e k).sup.1 4 || !(hi || lo) || s.bit (R.STY_ROLL_DUE e (k / 32)) (k % 32)) = true := by
    rw [not_rollFalls, h]
    decide
  rw [if_neg hfalls, hlane]
  dsimp -zeta only
  extract_lets s2
  refine ⟨[laneCode tx p n, b2n (!hi)], ?_⟩
  change LinksOnly s2 _
  split_ifs
  · exact .refl s2
  · exact ((LinksOnly.refl s2).uLk _ _).lctl

theorem rollMarked_kept (e k : Nat) (args : List Nat) (s : State) : Housekept (DueReg e k) s (rollMarked e k args s) :=
  (((Housekept.refl s).fw (.inl rfl) _ _ _).fw (.inr (.inl rfl)) _ _ _).ev (.inr (.inr rfl)) _ _ _

theorem rollDue_kept (hring : isRing k = true) (s : State) : Housekept (DueReg e k) s (rollDue e k s) := by
  cases hdue : rollFalls s e k
  · rw [rollDue_idle hdue]
    exact .refl s
  · obtain ⟨args, hlinks⟩ := rollDue_falls hdue hring
    exact (rollMarked_kept ..).links hlinks

theorem ringStep_kept (hring : isRing k = true) (s : State) : Housekept (RingReg e k) s (ringStep e s k) :=
  (Housekept.of_regsOnly (refreshSeed_only ..) fun _ ho => rd_refreshSeed_ne fun heq => ho (.inl heq)).trans
    ((rollDue_kept hring _).mono fun _ ho => .inr ho)

theorem keepEngine_idle (h : engineRuns s e = false) : keepEngine s e = s := if_pos (by simp [h])

theorem keepEngine_runs (h : engineRuns s e = true) : ∃ a b, keepEngine s e
    = ((ringIdx.foldl (ringStep e) s).fw (R.STY_SUP_STATUS e) 7 0 a).fw (R.STY_SUP_STATUS e) 19 8 b := ⟨_, _, if_neg (by simp [h])⟩

theorem keepEngine_kept (e : Nat) (s : State) : Housekept (EngineReg e) s (keepEngine s e) := by
  cases h : engineRuns s e
  · rw [keepEngine_idle h]
    exact .refl s
  · obtain ⟨a, b, heq⟩ := keepEngine_runs h
    rw [heq]
    have hrings : Housekept (EngineReg e) s (ringIdx.foldl (ringStep e) s) :=
      foldl_related Housekept.refl Housekept.trans (fun u k hk => (ringStep_kept (isRing_iff.mpr (mem_ringIdx.mp hk)) u).mono
        fun o ho => .inl ⟨k, (mem_ringIdx.mp hk).2, ho⟩) s
    exact (hrings.fw (.inr rfl) _ _ _).fw (.inr rfl) _ _ _

/-- The package's headroom and its loop are shown. -/
def headShown (s : State) : State := (s.fw R.PWR_HEADROOM 7 0 (packageHeadroom s).1).fw R.PWR_HEADROOM 25 16 (packageHeadroom s).2

theorem exec_stylusHousekeeping (s : State) : exec .stylusHousekeeping s = .next (headShown ((List.range 16).foldl keepEngine s)) := rfl

theorem headShown_only (s : State) : RegsOnly s (headShown s) := ((RegsOnly.refl s).fw ..).fw ..

theorem headShown_regsKept (s : State) : RegsKept [R.PWR_HEADROOM] s (headShown s) :=
  (RegsKept.fw (.of_regs_eq _ rfl) List.mem_cons_self _ _ _).fw List.mem_cons_self _ _ _

/-! SEED (R272) -/

theorem engineReg_ne_coef {d w : Nat} (hl : l < 140) (hw : w < 64) (hne : d ≠ e) :
    ¬EngineReg d (coefOff e l w) := by
  obtain ⟨b, hlo, hhi, hb⟩ := coefOff_parts e hl
  rw [hb]
  rintro (⟨k, hk, h⟩ | h)
  · rw [RingReg, DueReg, coefOff_ring d hk] at h
    grind
  · grind

theorem ringReg_ne_coef {w : Nat} (hk : k < 56) (hl : l < 56) (hw : w < 64) (h : k ≠ l ∨ w ≠ 9) : ¬RingReg e k (coefOff e l w) := by
  rw [RingReg, DueReg, coefOff_ring e hk, coefOff_ring e hl]
  grind

/-- A register by which another engine runs is none of an engine's housekeeping. -/
theorem engineReg_ne_runs {d : Nat} (hd : d < 16) :
    ¬EngineReg e (0x30100 + 4 * ((0x98 + d / 2) / 16)) ∧ ¬EngineReg e (R.STY_STATUS d) := by
  refine ⟨?_, ?_⟩
  all_goals
    rintro (⟨k, hk, h⟩ | h)
    · rw [RingReg, DueReg, coefOff_ring e hk] at h
      grind
    · grind

theorem engineRuns_kept {d : Nat} {es : Nat → Prop} (hd : d < 16) (h : Housekept (fun o => ∃ a, es a ∧ EngineReg a o) s t) :
    engineRuns t d = engineRuns s d :=
  h.engineRuns (fun ⟨_, _, ha⟩ => (engineReg_ne_runs hd).1 ha) fun ⟨_, _, ha⟩ => (engineReg_ne_runs hd).2 ha

/-- Housekeeping up to an engine, and what follows its own. -/
theorem engines_around (he : e < 16) (s : State) : ∃ u, Housekept (fun o => ∃ d, d ≠ e ∧ EngineReg d o) s u
    ∧ Housekept (fun o => ∃ d, d ≠ e ∧ EngineReg d o) (keepEngine u e) ((List.range 16).foldl keepEngine s) :=
  foldl_around Housekept.refl Housekept.trans List.nodup_range (List.mem_range.mpr he)
    (fun u d _ hne => (keepEngine_kept d u).mono fun _ ho => ⟨d, hne, ho⟩) s

/-- An engine's housekeeping up to a ring, and what follows the ring's own. -/
theorem rings_around (hring : isRing l = true) (s : State) : ∃ u, Housekept (fun o => ∃ k < 56, k ≠ l ∧ RingReg e k o) s u
    ∧ Housekept (fun o => ∃ k < 56, k ≠ l ∧ RingReg e k o) (ringStep e u l) (ringIdx.foldl (ringStep e) s) :=
  foldl_around Housekept.refl Housekept.trans ringIdx_nodup (mem_ringIdx.mpr (isRing_iff.mp hring))
    (fun u k hk hne => (ringStep_kept (isRing_iff.mpr (mem_ringIdx.mp hk)) u).mono fun _ ho => ⟨k, (mem_ringIdx.mp hk).2, hne, ho⟩) s

theorem dueReg_ne_coef {w : Nat} (hl : l < 56) (hw : w < 64) : ¬DueReg e l (coefOff e l w) := by
  rw [DueReg, coefOff_ring e hl]
  grind

theorem refresh_leaves_integ (e l : Nat) (s : State) : (refreshSeed e l s).coef e l 10 = s.coef e l 10 :=
  rd_refreshSeed_ne (coefOff_ne (by decide))

theorem coef_ringStep (hring : isRing l = true) {w : Nat} (hw : w < 64) : (ringStep e s l).coef e l w = (refreshSeed e l s).coef e l w :=
  (rollDue_kept hring _).regs _ (dueReg_ne_coef (isRing_iff.mp hring).2 hw)

/-- What housekeeping makes of a ring's own words follows from its refresh of SEED. -/
theorem coef_housekept (he : e < 16) (hrun : engineRuns s e = true) (hring : isRing l = true) :
    ∃ u, (∀ w < 64, u.coef e l w = s.coef e l w) ∧ u.lp e l = s.lp e l
      ∧ ∀ w < 64, (headShown ((List.range 16).foldl keepEngine s)).coef e l w = (refreshSeed e l u).coef e l w := by
  have hl := (isRing_iff.mp hring).2
  have hother : ∀ {w}, w < 64 → ¬∃ d, d ≠ e ∧ EngineReg d (coefOff e l w) := fun hw ⟨_, hd, h⟩ => engineReg_ne_coef (by omega) hw hd h
  have hrings : ∀ {w}, w < 64 → ¬∃ k < 56, k ≠ l ∧ RingReg e k (coefOff e l w) :=
    fun hw ⟨_, hk, hne, h⟩ => ringReg_ne_coef hk hl hw (.inl hne) h
  obtain ⟨x, hx, hafter⟩ := engines_around he s
  obtain ⟨y, hy, hrest⟩ := rings_around (e := e) hring x
  obtain ⟨a, b, heq⟩ := keepEngine_runs ((engineRuns_kept he hx).trans hrun)
  refine ⟨y, fun w hw => (hy.regs _ (hrings hw)).trans (hx.regs _ (hother hw)), (hy.lp e l).trans (hx.lp e l), fun w hw => ?_⟩
  have hshown : coefOff e l w ≠ R.STY_SUP_STATUS e ∧ coefOff e l w ≠ R.PWR_HEADROOM := by
    rw [coefOff_ring e hl]
    grind
  calc (headShown ((List.range 16).foldl keepEngine s)).coef e l w
      = ((List.range 16).foldl keepEngine s).coef e l w := headShown_regsKept _ _ (by simpa using hshown.2)
    _ = (keepEngine x e).coef e l w := hafter.regs _ (hother hw)
    _ = (ringIdx.foldl (ringStep e) x).coef e l w := by rw [heq, State.coef, rd_fw_ne _ _ _ _ hshown.1, rd_fw_ne _ _ _ _ hshown.1, State.coef]
    _ = (ringStep e y l).coef e l w := hrest.regs _ (hrings hw)
    _ = (refreshSeed e l y).coef e l w := coef_ringStep hring hw

theorem housekeeping_sameMem (s : State) : SameMem s (headShown ((List.range 16).foldl keepEngine s)) := by
  have hall : Housekept (fun _ => True) s ((List.range 16).foldl keepEngine s) :=
    foldl_related Housekept.refl Housekept.trans (fun u d _ => (keepEngine_kept d u).mono fun _ _ => trivial) s
  exact hall.mem.trans (headShown_only _).sameMem

theorem seed_runs (e : Fin 16) (l : Fin 140) (hrun : engineRuns s e = true) (hring : isRing l = true) (hauto : bitOf (s.lp e l).sup.1 3 = true) :
    Runs .stylusHousekeeping s fun t =>
      t.coef e l 9 = wrapN 32 (if 0x8000 ≤ (s.lp e l).dac then s.coefI e l 10 + (s.lp e l).dint - sgn 32 (s.lp e l).sup.2.2
          else s.coefI e l 10 + (s.lp e l).dint + sgn 32 (s.lp e l).sup.2.2) ∧ t.coef e l 10 = s.coef e l 10 ∧ SameMem s t := by
  obtain ⟨u, hcoef, hlp, hafter⟩ := coef_housekept e.isLt hrun hring
  refine ⟨_, exec_stylusHousekeeping s, ?_, ?_, housekeeping_sameMem s⟩
  · rw [hafter 9 (by decide), coef_refreshSeed (by rw [hlp, hauto]), hlp, State.coefI, hcoef 10 (by decide), State.coefI]
  · rw [hafter 10 (by decide), refresh_leaves_integ, hcoef 10 (by decide)]

/-! Headroom where no engine runs (R271) -/

theorem headroom_runs (h : ∀ e < 16, engineRuns s e = false) : Runs .stylusHousekeeping s fun t =>
    t.fd R.PWR_HEADROOM 7 0 = 255 ∧ t.fd R.PWR_HEADROOM 25 16 = 0 ∧ t.sty = s.sty ∧ t.evt = s.evt
      ∧ RegsKept [R.PWR_HEADROOM] s t ∧ SameMem s t := by
  have hengines : (List.range 16).foldl keepEngine s = s := foldl_of_fixed fun e he => keepEngine_idle (h e (List.mem_range.mp he))
  have hnone : packageHeadroom s = (255, 0) := by
    have hfold : ∀ f : Option (Nat × Nat) → Nat → Option (Nat × Nat), (∀ e < 16, f none e = none) →
        (List.range 16).foldl f none = none :=
      fun f hf => foldl_of_fixed fun e he => hf e (List.mem_range.mp he)
    rw [packageHeadroom, hfold _ fun e he => by rw [h e he]; rfl]
    rfl
  refine ⟨_, exec_stylusHousekeeping s, ?_⟩
  rw [hengines]
  refine ⟨?_, ?_, (headShown_only s).sty, (headShown_only s).evt, headShown_regsKept s, (headShown_only s).sameMem⟩
  · rw [headShown, fd_fw_of_disjoint _ _ _ (by decide) (by decide) (by decide) (by decide), fd_fw_same _ _ _ (by decide), hnone]
    rfl
  · rw [headShown, fd_fw_same _ _ _ (by decide), hnone]
    rfl

/-! A roll that falls due (R274) -/

/-- From s to t only SEEDs of an engine's rings differ. -/
def SeedsOnly (e : Nat) (s t : State) : Prop := RegsOnly s t ∧ ∀ o, (∀ k < 56, o ≠ coefOff e k 9) → t.rd o = s.rd o

theorem SeedsOnly.refl (e : Nat) (s : State) : SeedsOnly e s s := ⟨.refl s, fun _ _ => rfl⟩

theorem SeedsOnly.trans (h : SeedsOnly e s t) (g : SeedsOnly e t u) : SeedsOnly e s u :=
  ⟨h.1.trans g.1, fun o ho => (g.2 o ho).trans (h.2 o ho)⟩

theorem refreshSeed_seeds (hk : k < 56) (s : State) : SeedsOnly e s (refreshSeed e k s) :=
  ⟨refreshSeed_only .., fun _ ho => rd_refreshSeed_ne (ho k hk)⟩

/-- No ring of the engine but l warns of its rolls. -/
def SoleWarner (e l : Nat) (s : State) : Prop := ∀ k < 56, isRing k = true → k ≠ l → bitOf (s.lp e k).sup.1 4 = false

theorem SoleWarner.of_sty_eq (h : SoleWarner e l s) (hsty : t.sty = s.sty) : SoleWarner e l t := fun k hk hring hne => by
  rw [State.lp, hsty, ← State.lp, h k hk hring hne]

theorem ringStep_seeds (h : SoleWarner e l s) (hring : isRing k = true) (hne : k ≠ l) : SeedsOnly e s (ringStep e s k) := by
  have hk := (isRing_iff.mp hring).2
  have hsty := (refreshSeed_only e k s).sty
  rw [ringStep, rollDue_idle]
  · exact refreshSeed_seeds hk s
  · rw [rollFalls, (h.of_sty_eq hsty) k hk hring hne]
    rfl

/-- Where only ring l warns, the other rings' housekeeping leaves nothing but SEEDs. -/
theorem rings_around_seeds (h : SoleWarner e l s) (hring : isRing l = true) : ∃ u, SeedsOnly e s u
    ∧ SeedsOnly e (ringStep e u l) (ringIdx.foldl (ringStep e) s) := by
  obtain ⟨u, hu, hrest⟩ := foldl_around (R := fun a b => SoleWarner e l a → SeedsOnly e a b) (f := ringStep e) (fun b _ => .refl e b)
    (fun hab hbc ha => (hab ha).trans (hbc (ha.of_sty_eq (hab ha).1.sty))) ringIdx_nodup (mem_ringIdx.mpr (isRing_iff.mp hring))
    (fun b k hk hne hb => ringStep_seeds hb (isRing_iff.mpr (mem_ringIdx.mp hk)) hne) s
  exact ⟨u, hu h, hrest (h.of_sty_eq ((ringStep_kept hring u).sty.trans (hu h).1.sty))⟩

/-- Where one engine runs alone, housekeeping is its own. -/
theorem engines_sole (he : e < 16) (h : ∀ d < 16, d ≠ e → engineRuns s d = false) : (List.range 16).foldl keepEngine s = keepEngine s e := by
  obtain ⟨u, hu, hrest⟩ := foldl_around (R := fun a b => (∀ d < 16, d ≠ e → engineRuns a d = false) → b = a)
    (f := keepEngine) (fun _ _ => rfl)
    (fun hab hbc ha => by rw [hbc (hab ha ▸ ha), hab ha]) List.nodup_range (List.mem_range.mpr he)
    (fun b d hd hne hb => keepEngine_idle (hb d (List.mem_range.mp hd) hne)) s
  rw [hu h] at hrest
  refine hrest fun d hd hne => ?_
  rw [(keepEngine_kept e s).engineRuns (engineReg_ne_runs hd).1 (engineReg_ne_runs hd).2, h d hd hne]

/-- A roll that falls due raises its event and shows in both of the ring's bits. -/
theorem rollDue_raises (hring : isRing l = true) (h : rollFalls s e l = true) (room : RoomFor s) : Raised (rollDue e l s) Ev.ROLL_DUE (loopId e l)
    ∧ (rollDue e l s).bit (R.STY_ROLL_DUE e (l / 32)) (l % 32) = true ∧ (rollDue e l s).bit (R.STY_SUP_RESID e l) 2 = true := by
  obtain ⟨args, hlinks⟩ := rollDue_falls h hring
  have honly : RegsOnly s ((s.fw (R.STY_ROLL_DUE e (l / 32)) (l % 32) (l % 32) 1).fw (R.STY_SUP_RESID e l) 2 2 1) := ((RegsOnly.refl s).fw ..).fw ..
  have hmarked := ev_regs (honly.roomFor room) Ev.ROLL_DUE (loopId e l) args
  have hrd := rd_of_regs_eq (hlinks.regs.trans hmarked)
  refine ⟨raised_of_evt_eq hlinks.evt (ev_raised (honly.roomFor room) ..), ?_, ?_⟩
  · rw [bit_of_rd_eq (hrd _), bit_fw_ne (by grind), bit_fw le_rfl le_rfl (by omega), Nat.sub_self, Nat.add_sub_cancel_left]
    rfl
  · rw [bit_of_rd_eq (hrd _), bit_fw le_rfl le_rfl (by decide)]
    rfl

theorem due_runs (e : Fin 16) (l : Fin 140) (hrun : engineRuns s e = true) (hring : isRing l = true) (hwarns : bitOf (s.lp e l).sup.1 4 = true)
    (room : RoomFor s) (hclear : s.bit (R.STY_ROLL_DUE e (l.val / 32)) (l.val % 32) = false)
    (hends : (0xFFFF - (s.lp e l).dac) / 256 ≤ fieldOf (s.lp e l).sup.2.1 31 24 ∨ (s.lp e l).dac / 256 ≤ fieldOf (s.lp e l).sup.2.1 23 16)
    (hsole : ∀ d < 16, d ≠ e.val → engineRuns s d = false) (hwarner : SoleWarner e l s) : Runs .stylusHousekeeping s fun t =>
      Raised t Ev.ROLL_DUE (loopId e l) ∧ t.bit (R.STY_ROLL_DUE e (l.val / 32)) (l.val % 32) = true
        ∧ t.bit (R.STY_SUP_RESID e l) 2 = true ∧ SameMem s t := by
  have hl := (isRing_iff.mp hring).2
  obtain ⟨u, hu, hrest⟩ := rings_around_seeds hwarner hring
  obtain ⟨a, b, heq⟩ := keepEngine_runs hrun
  have hseeds := hu.trans (refreshSeed_seeds hl u)
  have hnoSeed : ∀ o, o = R.STY_ROLL_DUE e (l.val / 32) ∨ o = R.STY_SUP_RESID e l → ∀ k < 56, o ≠ coefOff e k 9 := by
    intro o ho k hk
    rw [coefOff_ring _ hk]
    grind
  have hfalls : rollFalls (refreshSeed e l u) e l = true := by
    have hlp : (refreshSeed e l u).lp e l = s.lp e l := by rw [State.lp, hseeds.1.sty, State.lp]
    rw [rollFalls, highMargin, lowMargin, hlp, bit_of_rd_eq (hseeds.2 _ (hnoSeed _ (.inl rfl))), hclear, hwarns]
    simpa using hends
  obtain ⟨hraised, hdue, hres⟩ := rollDue_raises hring hfalls (hseeds.1.roomFor room)
  have hafter : RegsOnly (ringStep e u l) (headShown (keepEngine s e)) := by
    rw [heq]
    exact ((hrest.1.fw ..).fw ..).trans (headShown_only _)
  have hshown : ∀ o, o = R.STY_ROLL_DUE e (l.val / 32) ∨ o = R.STY_SUP_RESID e l →
      (headShown (keepEngine s e)).rd o = (ringStep e u l).rd o := by
    intro o ho
    have hne : o ≠ R.STY_SUP_STATUS e ∧ o ≠ R.PWR_HEADROOM := by grind
    rw [headShown_regsKept _ _ (by simpa using hne.2), heq, rd_fw_ne _ _ _ _ hne.1, rd_fw_ne _ _ _ _ hne.1, hrest.2 _ (hnoSeed o ho)]
  have hmem := housekeeping_sameMem s
  refine ⟨_, exec_stylusHousekeeping s, ?_⟩
  rw [engines_sole e.isLt hsole] at hmem ⊢
  refine ⟨raised_of_evt_eq hafter.evt hraised, ?_, ?_, hmem⟩
  · rw [bit_of_rd_eq (hshown _ (.inl rfl))]
    exact hdue
  · rw [bit_of_rd_eq (hshown _ (.inr rfl))]
    exact hres

/-! The clauses -/

/-- Settles O29: what a coefficient write does to its queue, what housekeeping refreshes and raises, and what a release clears. -/
theorem coefficientWritesHousekeepingAndRelease : Obligations.CoefficientWritesHousekeepingAndRelease :=
  ⟨fun _ _ e l w v hreach hon hid hro hrange => coefWrite_queue_runs e l w v hreach ⟨hon, hid, hro, hrange⟩,
    fun _ _ e l w v hreach hon hid hro hrange => coefWrite_full_runs e l w v hreach ⟨hon, hid, hro, hrange⟩,
    fun _ _ e l w v hreach h => (exec_styCoefWrite hreach _ v).trans (congrArg _ (coefWrite_discarded e.isLt l.isLt w.isLt h v.toNat)),
    fun _ => headroom_runs, fun _ => seed_runs, fun _ e l hrun hring hwarns => due_runs e l hrun hring hwarns,
    fun _ _ => release_denied, fun _ _ => release_runs, fun _ _ => release_idle⟩

end Sys2Proof.Machine
end

section
/-! Relay auto-tune (10 R278–R280): its start, its refusals, a sample of its law, and its end. -/

namespace Sys2Proof.Machine

variable {s t u : State} {e l : Nat} {r : Relay}

/-! The banks' RELAY cause (11 R303) -/

/-- From s to t only the banks' safe power and the events differ. -/
structure BanksOnly (s t : State) : Prop where
  sty : t.sty = s.sty
  regs : RegsKept [R.LAS_STATUS, R.EVT_DROP_CNT] s t
  mem : SameMem s t

namespace BanksOnly

theorem refl (s : State) : BanksOnly s s := ⟨rfl, .of_regs_eq _ rfl, .of_eq rfl rfl rfl⟩

theorem trans (h : BanksOnly s t) (g : BanksOnly t u) : BanksOnly s u :=
  ⟨g.sty.trans h.sty, h.regs.trans g.regs, h.mem.trans g.mem⟩

theorem ev (h : BanksOnly s t) (code src : Nat) (args : List Nat) : BanksOnly s (t.ev code src args) :=
  h.trans ⟨ev_sty .., (ev_regsKept t code src args).mono (by simp), ev_sameMem ..⟩

theorem safeOff (h : BanksOnly s t) (cause b : Nat) : BanksOnly s (safeOff cause b t) := by
  have hlas : ∀ g, BanksOnly t (t.uLas g) := fun _ => ⟨rfl, .of_regs_eq _ rfl, .of_eq rfl rfl rfl⟩
  have hshown : ∀ u : State, BanksOnly u (u.fw R.LAS_STATUS b b 0) := fun _ =>
    ⟨rfl, (RegsKept.of_regs_eq _ rfl).fw List.mem_cons_self _ _ _, .of_eq rfl rfl rfl⟩
  unfold Machine.safeOff
  extract_lets w t1
  split_ifs
  · exact h
  · exact (h.trans ((hlas _).trans (hshown _))).ev ..
  · exact h.trans (hlas _)

end BanksOnly

theorem safeOff_raises (cause b : Nat) (s : State) : Raises 1 s (safeOff cause b s) := by
  unfold safeOff
  extract_lets w s1
  split_ifs
  · exact Nat.le_succ _
  · exact Raises.ev (s1.fw R.LAS_STATUS b b 0) ..
  · exact Nat.le_succ _

/-- A bank at safe power takes one more cause: its status and the events stand, and no bank leaves safe power. -/
theorem safeOn_again {b : Nat} (cause : Nat) (h : s.las.safe.getD b 0 ≠ 0) :
    ∃ g, safeOn cause b s = s.uLas g ∧ ∀ k, s.las.safe.getD k 0 ≠ 0 → (g s.las).safe.getD k 0 ≠ 0 := by
  unfold safeOn
  extract_lets w s1
  rw [if_neg (c := w = 0) h]
  split_ifs
  · exact ⟨id, rfl, fun _ hk => hk⟩
  · refine ⟨_, rfl, fun k hk => ?_⟩
    show (setAt 0 s.las.safe b (w + 2 ^ cause)).getD k 0 ≠ 0
    rw [getD_setAt]
    split_ifs
    · have := Nat.two_pow_pos cause
      omega
    · exact hk

/-- The banks of a relay's loop enter safe power: both of a TEC, or the loop's own. -/
def banksOn (e l : Nat) (s : State) : State :=
  if l = 137 then safeOn 3 (e / 4 * 2 + 1) (safeOn 3 (e / 4 * 2) s) else safeOn 3 (e / 2) s

/-- The RELAY cause of those banks ends. -/
def banksOff (e l : Nat) (s : State) : State :=
  if l = 137 then safeOff 3 (e / 4 * 2 + 1) (safeOff 3 (e / 4 * 2) s) else safeOff 3 (e / 2) s

theorem banksOff_only (e l : Nat) (s : State) : BanksOnly s (banksOff e l s) := by
  unfold banksOff
  split_ifs
  · exact ((BanksOnly.refl s).safeOff ..).safeOff ..
  · exact (BanksOnly.refl s).safeOff ..

theorem banksOff_raises (e l : Nat) (s : State) : Raises 2 s (banksOff e l s) := by
  unfold banksOff
  split_ifs
  · exact (safeOff_raises ..).trans (safeOff_raises ..)
  · exact (safeOff_raises ..).mono (by decide)

theorem relayEligible_tec (h : relayEligible e 137 = true) : e % 4 = 0 := by
  simpa [relayEligible] using h

theorem inMaint_banks (h : inMaint s e l = true) :
    s.bit R.LAS_STATUS (e / 2) = true ∧ (l = 137 → s.bit R.LAS_STATUS (e / 2 + 1) = true) := by
  unfold inMaint at h
  split_ifs at h with htec
  · simp only [Bool.and_eq_true] at h
    exact ⟨h.1.1, fun _ => h.1.2⟩
  · simp only [Bool.and_eq_true] at h
    exact ⟨h.1, fun hl => absurd hl htec⟩

/-- A loop in maintenance has its banks at safe power, so that a relay changes neither their status nor the events (R278). -/
theorem banksOn_again (he : e < 16) (hok : relayEligible e l = true) (hmaint : inMaint s e l = true)
    (hsafe : ∀ b < 8, (s.las.safe.getD b 0 = 0 ↔ s.bit R.LAS_STATUS b = false)) (ht : t.las = s.las) : ∃ g, banksOn e l t = t.uLas g := by
  have hat : ∀ b < 8, s.bit R.LAS_STATUS b = true → t.las.safe.getD b 0 ≠ 0 := fun b hb hbit hzero => by
    rw [ht] at hzero
    simp [(hsafe b hb).mp hzero] at hbit
  obtain ⟨hlow, hhigh⟩ := inMaint_banks hmaint
  obtain ⟨g, hg, hkept⟩ := safeOn_again 3 (hat _ (by omega) hlow)
  unfold banksOn
  split_ifs with htec
  · subst htec
    have hbank : e / 4 * 2 = e / 2 := by
      have := relayEligible_tec hok
      omega
    rw [hbank]
    obtain ⟨f, hf, -⟩ := safeOn_again (s := t.uLas g) 3 (hkept _ (hat _ (by omega) (hhigh rfl)))
    exact ⟨fun x => f (g x), by rw [hg, hf]; rfl⟩
  · exact ⟨g, hg⟩

/-! The end of a relay (R280) -/

theorem setEng_sameMem (s : State) (e : Nat) (x : Eng) : SameMem s (s.setEng e x) := .of_eq rfl rfl rfl

/-- A relay's engine is rid of it, and its status shows the result. -/
def relayCleared (e result : Nat) (s : State) : State :=
  ((s.setEng e { s.eng e with relay := none }).fw (R.STY_RELAY_STATUS e) 31 31 0).fw (R.STY_RELAY_STATUS e) 26 24 result

theorem relayCleared_only (result : Nat) : RegsOnly (s.setEng e { s.eng e with relay := none }) (relayCleared e result s) :=
  ((RegsOnly.refl _).fw ..).fw ..

theorem relayCleared_relay (result : Nat) : ((relayCleared e result s).eng e).relay = none := by
  rw [State.eng, (relayCleared_only result).sty, ← State.eng, eng_setEng_same]

theorem relayCleared_regsKept (result : Nat) : RegsKept [R.STY_RELAY_STATUS e] s (relayCleared e result s) :=
  ((RegsKept.of_regs_eq (t := s.setEng e { s.eng e with relay := none }) _ rfl).fw List.mem_cons_self _ _ _).fw List.mem_cons_self _ _ _

theorem relayCleared_sameMem (result : Nat) : SameMem s (relayCleared e result s) :=
  (setEng_sameMem ..).trans (relayCleared_only result).sameMem

theorem relayCleared_result {result : Nat} (h : result < 8) : (relayCleared e result s).fd (R.STY_RELAY_STATUS e) 26 24 = result := by
  rw [relayCleared, fd_fw_same _ _ _ (by decide)]
  exact Nat.mod_eq_of_lt h

theorem relayCleared_idle (result : Nat) : (relayCleared e result s).bit (R.STY_RELAY_STATUS e) 31 = false := by
  rw [relayCleared, bit_fw_of_disjoint _ _ _ (by decide) (by decide) (by decide), bit_fw le_rfl le_rfl (by decide)]
  rfl

section
variable (h : (s.eng e).relay = some r)
include h

theorem relayEnd_eq (result : Nat) : relayEnd e result s = banksOff e r.l (relayCleared e result s) := by
  unfold relayEnd
  rw [h]
  rfl

theorem relayFail_eq (reason : Nat) :
    relayFail e reason s = (banksOff e r.l (relayCleared e reason s)).ev Ev.RELAY_FAIL (loopId e r.l) [reason] := by
  unfold relayFail
  rw [h]
  dsimp only
  rw [relayEnd_eq h]

theorem relayEnd_only (result : Nat) : BanksOnly (relayCleared e result s) (relayEnd e result s) := by
  rw [relayEnd_eq h]
  exact banksOff_only ..

theorem relayFail_only (reason : Nat) : BanksOnly (relayCleared e reason s) (relayFail e reason s) := by
  rw [relayFail_eq h]
  exact (banksOff_only ..).ev ..

theorem relayFail_raised (reason : Nat) (hqueue : s.evt.queue.length < 1000) : Raised (relayFail e reason s) Ev.RELAY_FAIL (loopId e r.l) := by
  rw [relayFail_eq h]
  have hcleared : (relayCleared e reason s).evt.queue.length < 1000 := by rwa [(relayCleared_only reason).evt]
  exact ev_raised ((banksOff_raises ..).roomFor (by decide) hcleared) ..

end

theorem BanksOnly.eng (h : BanksOnly s t) (e : Nat) : t.eng e = s.eng e := by rw [State.eng, h.sty, State.eng]

/-- A register of the engine's tools stands where only the banks change. -/
theorem BanksOnly.rd_tool (h : BanksOnly s t) (he : e < 16) {o : Nat} (ho : 0x100400 + 0x10000 * e ≤ o ∧ o < 0x100500 + 0x10000 * e) :
    t.rd o = s.rd o := h.regs o (by grind)

theorem relayTimeout_runs (e : Fin 16) (h : (s.eng e).relay = some r) (hover : s.fd (R.STY_RELAY_LIMIT e) 31 16 ≤ r.samples)
    (hqueue : s.evt.queue.length < 1000) : Runs (.relayTimeout e) s fun t => (t.eng e).relay = none
      ∧ t.fd (R.STY_RELAY_STATUS e) 26 24 = 4 ∧ t.bit (R.STY_RELAY_STATUS e) 31 = false ∧ Raised t Ev.RELAY_FAIL (loopId e r.l)
      ∧ SameMem s t := by
  have hexec : exec (.relayTimeout e) s = .next (relayFail e 4 s) := by
    show execRelayTimeout e s = _
    rw [execRelayTimeout, h]
    exact if_neg (by omega)
  have honly := relayFail_only h 4
  have hstatus := honly.rd_tool e.isLt (o := R.STY_RELAY_STATUS e) (by grind)
  refine ⟨_, hexec, ?_, ?_, ?_, relayFail_raised h 4 hqueue, (relayCleared_sameMem 4).trans honly.mem⟩
  · rw [honly.eng, relayCleared_relay]
  · rw [fd_of_rd_eq hstatus, relayCleared_result (by decide)]
  · rw [bit_of_rd_eq hstatus, relayCleared_idle]

theorem relayTimeout_idle (e : Fin 16) (h : (s.eng e).relay = none) : exec (.relayTimeout e) s = .next s := by
  show execRelayTimeout e s = _
  rw [execRelayTimeout, h]
  rfl

/-! A relay is refused or begins (R278) -/

/-- A relay at its start, about the loop's last output. -/
def freshRelay (s : State) (e l : Nat) : Relay := ⟨l, s.coefI e l 11, s.coefI e l 11, false, 0, 0, 0, 0, none, none⟩

/-- An engine whose relay has begun: BUSY and the loop in its status. -/
def relayBegun (e l : Nat) (s : State) : State :=
  (s.setEng e { s.eng e with relay := some (freshRelay s e l) }).wr (R.STY_RELAY_STATUS e) (2 ^ 31 + l)

/-- The outcome of RELAY_CMD with START on an engine that is ON. -/
theorem exec_relayStart {p : Path} (hreach : Reaches p s) (e : Fin 16) (v : Word) (hgo : bitOf v.toNat 31 = true)
    (hon : s.blockOn (R.STY_RELAY_CMD e) = true) : exec (.relayStart p e v) s =
      if hostLike p then .next (relayRefuse e (fieldOf v.toNat 7 0) 3 s)
      else if !relayEligible e (fieldOf v.toNat 7 0) then .next (relayRefuse e (fieldOf v.toNat 7 0) 0 s)
      else if !inMaint s e (fieldOf v.toNat 7 0) then .next (relayRefuse e (fieldOf v.toNat 7 0) 1 s)
      else if (s.eng e).relay.isSome then .next (relayRefuse e (fieldOf v.toNat 7 0) 2 s)
      else .next (banksOn e (fieldOf v.toNat 7 0) (relayBegun e (fieldOf v.toNat 7 0) s)) :=
  (through_reaches hreach _ _).trans (if_neg (by simp [hgo, hon]))

/-- The status of a refused relay: RESULT 2 and its reason. -/
def refusalShown (e reason : Nat) (s : State) : State := (s.fw (R.STY_RELAY_STATUS e) 26 24 2).fw (R.STY_RELAY_STATUS e) 21 20 reason

theorem refusalShown_only (e reason : Nat) (s : State) : RegsOnly s (refusalShown e reason s) := ((RegsOnly.refl s).fw ..).fw ..

theorem relayRefuse_leaves (e l : Nat) {reason : Nat} (hreason : reason < 4) (room : RoomFor s) :
    (relayRefuse e l reason s).fd (R.STY_RELAY_STATUS e) 26 24 = 2 ∧ (relayRefuse e l reason s).fd (R.STY_RELAY_STATUS e) 21 20 = reason
      ∧ (relayRefuse e l reason s).sty = s.sty ∧ (∃ x ∈ (relayRefuse e l reason s).evt.queue, x.code = Ev.RELAY_REFUSED)
      ∧ RegsKept [R.STY_RELAY_STATUS e] s (relayRefuse e l reason s) ∧ SameMem s (relayRefuse e l reason s) := by
  obtain ⟨src, hsrc⟩ : ∃ src, relayRefuse e l reason s = (refusalShown e reason s).ev Ev.RELAY_REFUSED src [reason] := ⟨_, rfl⟩
  have honly := refusalShown_only e reason s
  have hshown : RegsKept [R.STY_RELAY_STATUS e] s (refusalShown e reason s) :=
    ((RegsKept.of_regs_eq _ rfl).fw List.mem_cons_self _ _ _).fw List.mem_cons_self _ _ _
  have hregs := ev_regs (honly.roomFor room) Ev.RELAY_REFUSED src [reason]
  obtain ⟨x, hx, hcode, -⟩ := ev_raised (honly.roomFor room) Ev.RELAY_REFUSED src [reason]
  rw [hsrc]
  refine ⟨?_, ?_, (ev_sty ..).trans honly.sty, ⟨x, hx, hcode⟩, hshown.keep hregs, honly.sameMem.trans (ev_sameMem ..)⟩
  · rw [fd_of_rd_eq (rd_of_regs_eq hregs _), refusalShown, fd_fw_of_disjoint _ _ _ (by decide) (by decide) (by decide) (by decide),
      fd_fw_same _ _ _ (by decide)]
    rfl
  · rw [fd_of_rd_eq (rd_of_regs_eq hregs _), refusalShown, fd_fw_same _ _ _ (by decide)]
    exact Nat.mod_eq_of_lt hreason

/-- Why a relay is refused: PCI Express, a loop it cannot tune, no maintenance, an engine that has a relay. -/
def RefusedFor (s : State) (p : Path) (e l reason : Nat) : Prop :=
  (hostLike p = true ∧ reason = 3)
    ∨ (hostLike p = false ∧ relayEligible e l = false ∧ reason = 0)
    ∨ (hostLike p = false ∧ relayEligible e l = true ∧ inMaint s e l = false ∧ reason = 1)
    ∨ (hostLike p = false ∧ relayEligible e l = true ∧ inMaint s e l = true ∧ (s.eng e).relay.isSome = true ∧ reason = 2)

theorem RefusedFor.reason_lt {p : Path} {reason : Nat} (h : RefusedFor s p e l reason) : reason < 4 := by
  unfold RefusedFor at h
  omega

theorem exec_relayStart_refused {p : Path} (hreach : Reaches p s) (e : Fin 16) (v : Word) {reason : Nat} (hgo : bitOf v.toNat 31 = true)
    (hon : s.blockOn (R.STY_RELAY_CMD e) = true) (h : RefusedFor s p e (fieldOf v.toNat 7 0) reason) :
    exec (.relayStart p e v) s = .next (relayRefuse e (fieldOf v.toNat 7 0) reason s) := by
  rw [exec_relayStart hreach e v hgo hon]
  rcases h with ⟨hp, rfl⟩ | ⟨hp, hok, rfl⟩ | ⟨hp, hok, hmaint, rfl⟩ | ⟨hp, hok, hmaint, hbusy, rfl⟩
  · simp [hp]
  · simp [hp, hok]
  · simp [hp, hok, hmaint]
  · simp [hp, hok, hmaint, hbusy]

theorem relayStart_refused_runs {p : Path} (e : Fin 16) (v : Word) (reason : Nat) (hreach : Reaches p s) (hgo : bitOf v.toNat 31 = true)
    (hon : s.blockOn (R.STY_RELAY_CMD e) = true) (room : RoomFor s) (h : RefusedFor s p e (fieldOf v.toNat 7 0) reason) :
    Runs (.relayStart p e v) s fun t =>
      t.fd (R.STY_RELAY_STATUS e) 26 24 = 2 ∧ t.fd (R.STY_RELAY_STATUS e) 21 20 = reason ∧ t.sty = s.sty
        ∧ (∃ x ∈ t.evt.queue, x.code = Ev.RELAY_REFUSED) ∧ RegsKept [R.STY_RELAY_STATUS e] s t ∧ SameMem s t :=
  ⟨_, exec_relayStart_refused hreach e v hgo hon h, relayRefuse_leaves _ _ h.reason_lt room⟩

theorem relayStart_begins_runs {p : Path} (e : Fin 16) (v : Word) (hreach : Reaches p s) (hgo : bitOf v.toNat 31 = true)
    (hon : s.blockOn (R.STY_RELAY_CMD e) = true) (hp : hostLike p = false) (hok : relayEligible e (fieldOf v.toNat 7 0) = true)
    (hmaint : inMaint s e (fieldOf v.toNat 7 0) = true) (hfree : (s.eng e).relay = none)
    (hsafe : ∀ b < 8, (s.las.safe.getD b 0 = 0 ↔ s.bit R.LAS_STATUS b = false)) : Runs (.relayStart p e v) s fun t =>
      (∃ x, (t.eng e).relay = some x ∧ x.l = fieldOf v.toNat 7 0 ∧ x.c0 = s.coefI e x.l 11 ∧ x.crossings = 0 ∧ x.samples = 0)
        ∧ t.rd (R.STY_RELAY_STATUS e) = 2 ^ 31 + fieldOf v.toNat 7 0 ∧ t.evt = s.evt ∧ RegsKept [R.STY_RELAY_STATUS e] s t
        ∧ SameMem s t := by
  have hexec := exec_relayStart hreach e v hgo hon
  have hl : fieldOf v.toNat 7 0 < 256 := Nat.mod_lt _ (by decide)
  generalize fieldOf v.toNat 7 0 = l at *
  rw [if_neg (by simp [hp]), if_neg (by simp [hok]), if_neg (by simp [hmaint]), if_neg (by simp [hfree])] at hexec
  obtain ⟨g, hg⟩ := banksOn_again e.isLt hok hmaint hsafe (show (relayBegun e l s).las = s.las from rfl)
  rw [hg] at hexec
  have honly : RegsOnly (s.setEng e { s.eng e with relay := some (freshRelay s e l) }) (relayBegun e l s) := (RegsOnly.refl _).wr ..
  have hregs : ∀ o, ((relayBegun e l s).uLas g).rd o = (relayBegun e l s).rd o := fun _ => rfl
  refine ⟨_, hexec, ⟨freshRelay s e l, ?_, rfl, rfl, rfl, rfl⟩, ?_, honly.evt, fun o ho => ?_, (setEng_sameMem ..).trans honly.sameMem⟩
  · rw [State.eng, uLas_sty, honly.sty, ← State.eng, eng_setEng_same]
  · rw [hregs, relayBegun, rd_wr, if_pos rfl, Nat.mod_eq_of_lt (by omega)]
  · rw [hregs, relayBegun, rd_wr_ne (by simpa using ho)]
    rfl

end Sys2Proof.Machine
end

section
/-! One sample of a loop that its engine's relay drives (10 R279). -/

namespace Sys2Proof.Machine

variable {s t u : State} {e l : Nat} {r : Relay}

/-! The relay's law (R279) -/

/-- The relay's output: c0 ± H by the sign of the error beyond the hysteresis, the last output within it. -/
def relayOut (s : State) (e : Nat) (r : Relay) (err : Int) : Int :=
  let sv := if s.bit (R.STY_RELAY_CFG e) 28 then i32 (-err) else err
  let h : Int := s.fd (R.STY_RELAY_CFG e) 15 0
  let hyst : Int := s.fd (R.STY_RELAY_CFG e) 23 16
  if hyst < sv then i32 (r.c0 + h * 2 ^ 16) else if sv < -hyst then i32 (r.c0 - h * 2 ^ 16) else r.last

theorem relaySample_out (m err : Int) : (relaySample e r m err s).2 = relayOut s e r err := by
  unfold relaySample
  extract_lets cfg h hyst cycles sv out cross k meas n r2 g s1 s2 a2
  have hout : out = relayOut s e r err := by
    rw [relayOut]
    norm_num
    rfl
  rw [← hout]
  split_ifs <;> rfl

/-- From s to t an engine's trace and the memories stand, and a relay that the engine still has counts n samples. -/
structure Tuned (e n : Nat) (s t : State) : Prop where
  trace : t.rd (R.STY_TRACE_STATUS e) = s.rd (R.STY_TRACE_STATUS e)
  samples : ∀ x, (t.eng e).relay = some x → x.samples = n
  mem : SameMem s t

namespace Tuned

variable {n : Nat}

theorem setEng (s : State) {x : Eng} (hx : ∀ y, x.relay = some y → y.samples = n) : Tuned e n s (s.setEng e x) :=
  ⟨rfl, fun y hy => hx y (by rwa [eng_setEng_same] at hy), setEng_sameMem ..⟩

/-- Where a relay has ended there is none to count samples. -/
theorem cleared (h : Tuned e n s t) (result : Nat) : Tuned e n s (relayCleared e result t) where
  trace := (relayCleared_regsKept result _ (by simp)).trans h.trace
  samples x hx := by simp [relayCleared_relay] at hx
  mem := h.mem.trans (relayCleared_sameMem result)

theorem banks (h : Tuned e n s t) (he : e < 16) (g : BanksOnly t u) : Tuned e n s u where
  trace := (g.rd_tool he (by grind)).trans h.trace
  samples x hx := h.samples x (by rwa [g.eng] at hx)
  mem := h.mem.trans g.mem

theorem wr (h : Tuned e n s t) {off : Nat} (hoff : R.STY_TRACE_STATUS e ≠ off) (v : Nat) : Tuned e n s (t.wr off v) where
  trace := (rd_wr_ne hoff).trans h.trace
  samples := h.samples
  mem := h.mem.trans (wr_sameMem ..)

theorem draw (h : Tuned e n s t) : Tuned e n s t.draw.2 := ⟨h.trace, h.samples, h.mem⟩

end Tuned

/-- A relay that has had its cycles shows what it measured, and ends (R280). -/
def relayDone (e : Nat) (r : Relay) (ku tu a2 : Nat) (s : State) : State :=
  (relayEnd e 1 (((s.wr (R.STY_RELAY_KU e) ku).wr (R.STY_RELAY_TU e) tu).wr (R.STY_RELAY_A2 e) a2)).ev Ev.RELAY_DONE (loopId e r.l) [ku, tu, a2]

theorem Tuned.relayDone {n : Nat} (h : Tuned e n s t) (he : e < 16) {x : Relay} (hx : (t.eng e).relay = some x) (ku tu a2 : Nat) :
    Tuned e n s (relayDone e r ku tu a2 t) := by
  have hshown : Tuned e n s (((t.wr (R.STY_RELAY_KU e) ku).wr (R.STY_RELAY_TU e) tu).wr (R.STY_RELAY_A2 e) a2) :=
    ((h.wr (by simp) _).wr (by simp) _).wr (by simp) _
  have honly : RegsOnly t (((t.wr (R.STY_RELAY_KU e) ku).wr (R.STY_RELAY_TU e) tu).wr (R.STY_RELAY_A2 e) a2) :=
    (((RegsOnly.refl t).wr ..).wr ..).wr ..
  rw [State.eng, ← honly.sty, ← State.eng] at hx
  exact (hshown.cleared 1).banks he ((relayEnd_only hx 1).ev ..)

/-- The relay's bookkeeping, and its end where one is due, count no sample of their own. -/
theorem relaySample_tuned (he : e < 16) (m err : Int) : Tuned e r.samples s (relaySample e r m err s).1 := by
  unfold relaySample
  extract_lets cfg h hyst cycles sv out cross k meas n r2 g s1 s2 a2 tu
  have h1 : Tuned e r.samples s s1 := .setEng s fun y hy => by
    obtain rfl := Option.some.inj hy
    rfl
  have h2 : Tuned e r.samples s s2 := h1.wr (by simp) _
  have hrelay : (s2.eng e).relay = some r2 := by
    have honly : RegsOnly s1 s2 := (RegsOnly.refl s1).fw ..
    rw [State.eng, honly.sty, ← State.eng, eng_setEng_same]
  split_ifs with hwide hover hflat
  · exact (h2.cleared 3).banks he (relayFail_only hrelay 3)
  · exact h2.draw.relayDone he hrelay ..
  · exact h2.relayDone he hrelay ..
  · exact h2

/-- A sample in RUN of a relay's loop writes the relay's output, the integrator unchanged (R279). -/
theorem runSample_relay (m err : Int) (h : (s.eng e).relay = some r) (hl : r.l = l) :
    (runSample e l m err s).1 = writeOut e l (s.coefI e l 10) (relayOut s e r err) (some err) (relaySample e r m err s).1 := by
  rw [runSample, h, Option.filter_some, if_pos (by simp [hl]), ← relaySample_out m err]
  rfl

/-! The slot of such a loop -/

/-- A relay drives a loop's sample: the loop is the relay's and in maintenance, it runs, and nothing holds it or attends to its slot. -/
structure RelayDrives (s : State) (e l : Nat) (r : Relay) : Prop where
  word : (takeWord l (s.eng e).wq).1 = none
  reseed : (s.lp e l).reseed = false
  roll : rollSlot s e l = false
  check : s.bit (supOff e l 0) 2 = false
  trace : trState s e = 0
  relay : (s.eng e).relay = some r
  loop : r.l = l
  noRing : isRing l = false
  maint : inMaint s e l = true
  mode : loopMode s e l = 1
  free : holdCauses s e l = (false, false, false)

/-- The relay has counted the sample. -/
def relayCounted (e : Nat) (r : Relay) (s : State) : State :=
  s.setEng e { s.eng e with relay := some { r with samples := r.samples + 1 } }

theorem relayCount_eq (h : (s.eng e).relay = some r) (hl : r.l = l) : relayCount e l (supTake e l s) = supTake e l (relayCounted e r s) := by
  have htaken : ((supTake e l s).eng e).relay = some r := h
  unfold relayCount
  rw [htaken]
  exact if_pos hl

theorem relayCounted_relay : ((relayCounted e r s).eng e).relay = some { r with samples := r.samples + 1 } := by
  rw [relayCounted, eng_setEng_same]

section
variable (h : RelayDrives s e l r)
include h

theorem slotStart_relay : slotStart e l s = supTake e l (relayCounted e r s) := by
  have hmaint : inMaint (supTake e l (relayCounted e r s)) e l = true := h.maint
  have hroll : rollSlot (supTake e l s) e l = false := rollSlot_supTake.trans h.roll
  rw [slotStart, applyWord_of_none h.word, reseed_idle h.reseed, scheduledRoll_idle hroll, relayCount_eq h.relay h.loop]
  exact if_neg (by simp [hmaint])

theorem isHeld_relayCounted : isHeld (relayCounted e r s) e l = false := isHeld_false (s := relayCounted e r s) h.free

/-- The slot is the law of RUN, which is the relay's, and then what the loop shows. -/
theorem slotSample_relay (hl : l < 140) (he : e < 16) (htrace : trState (lawOf e l (relayCounted e r s)).1 e = 0) :
    SlotKept e l (lawOf e l (relayCounted e r s)).1 (slotSample e l s) := by
  have hstart := slotStart_relay h
  have hfree := isHeld_relayCounted h
  have hcheck : (relayCounted e r s).bit (supOff e l 0) 2 = false := h.check
  have hroll := h.roll
  generalize relayCounted e r s = a at *
  unfold slotSample
  extract_lets first b run h0 guarded st m err en
  have hb : b = supTake e l a := hstart
  clear_value b
  subst b
  rw [slotCheck_eq hcheck]
  dsimp -zeta only
  extract_lets c held s1 slipBefore s2 s3 s4 slip s5 s6 s7
  have hheld : held = false := by
    show isHeld (primed e l a) e l = false
    rw [isHeld, (primed_kept e l a).holdCauses hl he, ← isHeld, hfree]
  have hen : en = false := hcheck
  have h1 : s1 = (lawOf e l a).1 := by
    show (if _ then _ else _) = _
    rw [if_neg (by simp [hheld]), lawOf, hfree, ← hheld]
    rfl
  have h2 : s2 = s1 := if_neg (by rw [show first = false from hroll]; simp)
  have h3 : SlotKept e l s2 s3 := by
    show SlotKept e l s2 (if _ then _ else _)
    split_ifs
    · exact (lockCount_kept err).trans (bandCount_kept err)
    · exact .refl s2
  have h4 : SlotKept e l s3 s4 := by
    show SlotKept e l s3 (if _ then _ else _)
    split_ifs
    · exact slipCheck_kept (fun hring => by simp [h.noRing] at hring) err false
    · exact slipNone_kept
  have h14 : SlotKept e l (lawOf e l a).1 s4 := by
    rw [← h1, ← h2]
    exact h3.trans h4
  have h5 : s5 = s4 := if_neg (by simp [hen])
  have h6 : s6 = s4 := (traceSample_idle (by rw [h5, trState_kept h14 hl he, htrace]) _ _).trans h5
  have h7 : SlotKept e l s6 s7 := by
    rw [show s7 = s6.fw (R.STY_SUP_RESID e l) 1 1 (b2n (s6.lp e l).slipped) from if_neg (by simp [hen])]
    exact .fw _ (by simp [shownRegs]) _ _ _
  rw [h6] at h7
  exact (h14.trans h7).trans slotShown_kept

/-- The relay's state and output for this sample. -/
theorem lawOf_relay : (lawOf e l (relayCounted e r s)).1 = writeOut e l (s.coefI e l 10) (relayOut s e r (errOf s e l)) (some (errOf s e l))
    (relaySample e { r with samples := r.samples + 1 } (measure s e l) (errOf s e l) (primed e l (relayCounted e r s))).1 := by
  have hrelay : ((primed e l (relayCounted e r s)).eng e).relay = some { r with samples := r.samples + 1 } := relayCounted_relay
  rw [lawOf_run (isHeld_relayCounted h) h.mode, runSample_relay _ _ hrelay h.loop]
  rfl

theorem slot_relay (hl : l < 140) (he : e < 16) : ∃ b, Tuned e (r.samples + 1) s b
    ∧ Wrote e l (s.coefI e l 10) (relayOut s e r (errOf s e l)) (some (errOf s e l)) b (slotSample e l s)
    ∧ (slotSample e l s).sty.engs = b.sty.engs := by
  have hlaw := lawOf_relay h
  have hb : Tuned e (r.samples + 1) s (relaySample e { r with samples := r.samples + 1 } (measure s e l) (errOf s e l)
      (primed e l (relayCounted e r s))).1 := by
    obtain ⟨htrace, hsamples, hmem⟩ := relaySample_tuned (s := primed e l (relayCounted e r s)) (r := { r with samples := r.samples + 1 }) he
      (measure s e l) (errOf s e l)
    exact ⟨htrace, hsamples, hmem⟩
  generalize relaySample e { r with samples := r.samples + 1 } (measure s e l) (errOf s e l) (primed e l (relayCounted e r s)) = x at *
  have hkept := slotSample_relay h hl he (by rw [hlaw, trState_writeOut hl, trState, fd_of_rd_eq hb.trace, ← trState, h.trace])
  rw [hlaw] at hkept
  exact ⟨x.1, hb, wrote_of_kept hl hkept, hkept.engs⟩

end

theorem relaySlot_runs (e : Fin 16) (l : Fin 140) (h : RelayDrives s e l r) (hrun : engineRuns s e = true) (hid : loopId e l ≠ 0xFFF) :
    Runs (.stylusSlot e l) s fun t =>
      t.coef e l 11 = wrapN 32 (relayOut s e r (errOf s e l)) ∧ t.coef e l 10 = wrapN 32 (s.coefI e l 10)
        ∧ t.coef e l 12 = wrapN 32 (errOf s e l) ∧ (∀ x, (t.eng e).relay = some x → x.samples = r.samples + 1) ∧ SameMem s t := by
  obtain ⟨b, hb, hw, hengs⟩ := slot_relay h l.isLt e.isLt
  refine ⟨_, exec_stylusSlot hrun hid, hw.output, hw.integ, hw.err, fun x hx => hb.samples x ?_, hb.mem.trans hw.mem⟩
  rwa [State.eng, hengs] at hx

end Sys2Proof.Machine
end

section
/-! The trace buffer's commands and triggers (10 R284), and the statement about relays and traces. -/

namespace Sys2Proof.Machine

variable {s : State} {e : Nat} {p : Path}

/-! Arming and stopping -/

theorem traceArm_runs (e : Fin 16) (hreach : Reaches p s) (hon : s.blockOn (R.STY_TRACE_CMD e) = true) : Runs (.traceArm p e) s fun t =>
    trState t e = 1 ∧ t.rd (R.STY_TRACE_STATUS e) = 2 ^ 30 ∧ t.evt = s.evt ∧ RegsKept [R.STY_TRACE_STATUS e] s t ∧ SameMem s t := by
  have hrd : (s.wr (R.STY_TRACE_STATUS e) (2 ^ 30)).rd (R.STY_TRACE_STATUS e) = 2 ^ 30 := by
    rw [rd_wr, if_pos rfl]
    rfl
  refine ⟨_, (through_reaches hreach _ _).trans (if_neg (by simp [hon])), ?_, hrd, rfl,
    (RegsKept.of_regs_eq _ rfl).wr List.mem_cons_self _, .of_eq rfl rfl rfl⟩
  show fieldOf ((s.wr (R.STY_TRACE_STATUS e) (2 ^ 30)).rd (R.STY_TRACE_STATUS e)) 31 30 = 1
  rw [hrd]
  rfl

/-- A trace that stops shows STOPPED in its status, and nothing else changes. -/
theorem traceStopped_leaves (e : Nat) (s : State) : trState (s.fw (R.STY_TRACE_STATUS e) 31 30 3) e = 3
    ∧ (s.fw (R.STY_TRACE_STATUS e) 31 30 3).sty = s.sty ∧ RegsKept [R.STY_TRACE_STATUS e] s (s.fw (R.STY_TRACE_STATUS e) 31 30 3)
    ∧ SameMem s (s.fw (R.STY_TRACE_STATUS e) 31 30 3) := by
  have honly : RegsOnly s (s.fw (R.STY_TRACE_STATUS e) 31 30 3) := (RegsOnly.refl s).fw ..
  exact ⟨fd_fw_same _ _ _ (by decide), honly.sty, (RegsKept.of_regs_eq _ rfl).fw List.mem_cons_self _ _ _, honly.sameMem⟩

theorem traceStop_runs (e : Fin 16) (hreach : Reaches p s) (hon : s.blockOn (R.STY_TRACE_CMD e) = true)
    (hstate : trState s e = 1 ∨ trState s e = 2) : Runs (.traceStop p e) s fun t =>
      trState t e = 3 ∧ t.sty = s.sty ∧ RegsKept [R.STY_TRACE_STATUS e] s t ∧ SameMem s t := by
  have hgoes : ¬((!s.blockOn (R.STY_TRACE_CMD e)) = true ∨ (trState s e ≠ 1 ∧ trState s e ≠ 2)) :=
    not_or.mpr ⟨by simp [hon], by omega⟩
  exact ⟨_, (through_reaches hreach _ _).trans (if_neg hgoes), traceStopped_leaves e s⟩

theorem tracePostDone_runs (e : Fin 16) (hstate : trState s e = 2) (hpost : (s.eng e).post = 0) : Runs (.tracePostDone e) s fun t =>
    trState t e = 3 ∧ t.sty = s.sty ∧ RegsKept [R.STY_TRACE_STATUS e] s t ∧ SameMem s t :=
  ⟨_, if_pos ⟨hstate, hpost⟩, traceStopped_leaves e s⟩

/-! Triggers -/

/-- The status of a triggered trace: its state, and the position of the triggering record. -/
def triggerShown (e pos : Nat) (s : State) : State := (s.fw (R.STY_TRACE_STATUS e) 31 30 2).fw (R.STY_TRACE_STATUS e) 27 16 pos

theorem setEng_regs (s : State) (e : Nat) (x : Eng) : (s.setEng e x).regs = s.regs := rfl

/-- A triggered trace, with POST dwords still to record. -/
def triggered (e pos : Nat) (s : State) : State :=
  (triggerShown e pos s).setEng e { (triggerShown e pos s).eng e with post := (triggerShown e pos s).fd (R.STY_TRACE_POST e) 11 0 }

theorem trTrigger_armed (h : trState s e = 1) (pos : Nat) : trTrigger e pos s = triggered e pos s := if_neg (by simp [h])

theorem trTrigger_idle (h : trState s e ≠ 1) (pos : Nat) : trTrigger e pos s = s := if_pos h

theorem triggered_leaves (e : Nat) {pos : Nat} (hpos : pos < 4096) (s : State) : trState (triggered e pos s) e = 2
    ∧ (triggered e pos s).fd (R.STY_TRACE_STATUS e) 27 16 = pos ∧ ((triggered e pos s).eng e).post = s.fd (R.STY_TRACE_POST e) 11 0
    ∧ RegsKept [R.STY_TRACE_STATUS e] s (triggered e pos s) ∧ SameMem s (triggered e pos s) := by
  have honly : RegsOnly s (triggerShown e pos s) := ((RegsOnly.refl s).fw ..).fw ..
  have hshown : RegsKept [R.STY_TRACE_STATUS e] s (triggerShown e pos s) :=
    ((RegsKept.of_regs_eq _ rfl).fw List.mem_cons_self _ _ _).fw List.mem_cons_self _ _ _
  have hregs : (triggered e pos s).regs = (triggerShown e pos s).regs := setEng_regs ..
  have hstatus := rd_of_regs_eq hregs (R.STY_TRACE_STATUS e)
  refine ⟨?_, ?_, ?_, hshown.keep hregs, honly.sameMem.trans (setEng_sameMem ..)⟩
  · rw [trState, fd_of_rd_eq hstatus, triggerShown, fd_fw_of_disjoint _ _ _ (by decide) (by decide) (by decide) (by decide),
      fd_fw_same _ _ _ (by decide)]
    rfl
  · rw [fd_of_rd_eq hstatus, triggerShown, fd_fw_same _ _ _ (by decide)]
    exact Nat.mod_eq_of_lt hpos
  · rw [triggered, eng_setEng_same]
    exact fd_of_rd_eq (hshown _ (by simp)) _ _

/-- TRACE_CT_TRIGGER whose instant has come notes that it has fired. -/
def ctFired (e : Nat) (s : State) : State := s.setEng e { s.eng e with fired := some (s.rd64 (R.STY_TRACE_CT_LO e)) }

theorem exec_traceForce (hreach : Reaches p s) (e : Fin 16) : exec (.traceForce p e) s =
    if !s.blockOn (R.STY_TRACE_CMD e) then .next s else .next (trTrigger e (s.fd (R.STY_TRACE_STATUS e) 11 0) s) :=
  through_reaches hreach _ _

theorem traceForce_idle (e : Fin 16) (hreach : Reaches p s) (h : trState s e ≠ 1) : exec (.traceForce p e) s = .next s := by
  rw [exec_traceForce hreach, trTrigger_idle h, ite_self]

theorem traceCtTrigger_idle (e : Fin 16)
    (h : s.now < s.rd64 (R.STY_TRACE_CT_LO e) ∨ (s.eng e).fired = some (s.rd64 (R.STY_TRACE_CT_LO e))) :
    exec (.traceCtTrigger e) s = .next s := if_pos (.inr (.inr h))

theorem exec_traceCtTrigger (e : Fin 16) (hon : s.blockOn (R.STY_TRACE_CMD e) = true) (htrig : s.fd (R.STY_TRACE_CFG e) 22 20 = 3)
    (hnow : s.rd64 (R.STY_TRACE_CT_LO e) ≤ s.now) (hfired : (s.eng e).fired ≠ some (s.rd64 (R.STY_TRACE_CT_LO e))) :
    exec (.traceCtTrigger e) s = .next (trTrigger e (s.fd (R.STY_TRACE_STATUS e) 11 0) (ctFired e s)) :=
  if_neg (by simp [hon, htrig, hnow, hfired])

/-- FORCE, or the CT instant that has not fired yet, triggers an armed trace. -/
theorem traceTrigger_runs (e : Fin 16) (c : Instr) (hreach : Reaches p s) (hon : s.blockOn (R.STY_TRACE_CMD e) = true) (harmed : trState s e = 1)
    (hc : c = .traceForce p e ∨ (c = .traceCtTrigger e ∧ s.fd (R.STY_TRACE_CFG e) 22 20 = 3 ∧ s.rd64 (R.STY_TRACE_CT_LO e) ≤ s.now
      ∧ (s.eng e).fired ≠ some (s.rd64 (R.STY_TRACE_CT_LO e)))) : Runs c s fun t =>
      trState t e = 2 ∧ t.fd (R.STY_TRACE_STATUS e) 27 16 = s.fd (R.STY_TRACE_STATUS e) 11 0
        ∧ (t.eng e).post = s.fd (R.STY_TRACE_POST e) 11 0 ∧ RegsKept [R.STY_TRACE_STATUS e] s t ∧ SameMem s t := by
  have hpos : s.fd (R.STY_TRACE_STATUS e) 11 0 < 4096 := Nat.mod_lt _ (by decide)
  rcases hc with rfl | ⟨rfl, htrig, hnow, hfired⟩
  · refine ⟨_, ?_, triggered_leaves e hpos s⟩
    rw [exec_traceForce hreach, if_neg (by simp [hon]), trTrigger_armed harmed]
  · have hstill : trState (ctFired e s) e = 1 := harmed
    refine ⟨_, ?_, triggered_leaves e hpos (ctFired e s)⟩
    rw [exec_traceCtTrigger e hon htrig hnow hfired, trTrigger_armed hstill]

/-! The clauses -/

/-- Settles O30: a relay's refusals, start, sample and timeout, and the states of a trace. -/
theorem relayTuningAndTraces : Obligations.RelayTuningAndTraces :=
  ⟨fun _ _ e v reason hreach hgo hon room h => relayStart_refused_runs e v reason hreach hgo hon room h,
    fun _ _ e v hreach hgo hon hp hok hmaint hfree hsafe => relayStart_begins_runs e v hreach hgo hon hp hok hmaint hfree hsafe,
    fun _ e l _ hrun hid hword hreseed hroll hcheck htrace hrelay hloop hring hmaint hmode hfree =>
      relaySlot_runs e l ⟨hword, hreseed, hroll, hcheck, htrace, hrelay, hloop, hring, hmaint, hmode, hfree⟩ hrun hid,
    fun _ e _ h hover hqueue => relayTimeout_runs e h hover hqueue, fun _ e => relayTimeout_idle e,
    fun _ _ e hreach hon => traceArm_runs e hreach hon,
    fun _ _ e c hreach hon harmed hc => traceTrigger_runs e c hreach hon harmed hc, fun _ e => traceCtTrigger_idle e,
    fun _ _ e hreach => traceForce_idle e hreach, fun _ _ e hreach hon => traceStop_runs e hreach hon,
    fun _ e => tracePostDone_runs e⟩

end Sys2Proof.Machine
end

section
/-! What lanes, ports and their notes leave of the TECs and the banks (11 R289, R303, R308; 12 R315–R332; 14 R390): nothing changes a TEC's
drive, a bank's safe power or a register of either but the lines' own. -/

namespace Sys2Proof.Machine

theorem ev_tec (s : State) (code src : Nat) (args : List Nat) : (s.ev code src args).tec = s.tec := by
  unfold State.ev
  split_ifs <;> rfl

theorem ev_las (s : State) (code src : Nat) (args : List Nat) : (s.ev code src args).las = s.las := by
  unfold State.ev
  split_ifs <;> rfl

/-- From s to t the TECs, the banks and the registers of both stand, but for the lines' own; so do memory, the events raised and what has
left the package. -/
structure DrivesKept (s t : State) : Prop where
  tec : t.tec = s.tec
  las : t.las = s.las
  rd : ∀ o, 0x60000 ≤ o → o < 0x71000 → t.rd o = s.rd o
  mem : SameMem s t
  raised : ∀ code src, Raised s code src → Raised t code src
  out : ∀ o ∈ s.out, o ∈ t.out

namespace DrivesKept

-- A default argument (`ho`) waits for all declarations before it, and a proof that waits holds a thread: one proof at a time.
set_option Elab.async false

/-! Updates, register writes and events -/

section
variable {s t u : State}

theorem refl (s : State) : DrivesKept s s := ⟨rfl, rfl, fun _ _ _ => rfl, .of_eq rfl rfl rfl, fun _ _ h => h, fun _ h => h⟩

theorem trans (h : DrivesKept s t) (g : DrivesKept t u) : DrivesKept s u where
  tec := g.tec.trans h.tec
  las := g.las.trans h.las
  rd o hlo hhi := (g.rd o hlo hhi).trans (h.rd o hlo hhi)
  mem := h.mem.trans g.mem
  raised code src hr := g.raised code src (h.raised code src hr)
  out o ho := g.out o (h.out o ho)

theorem foldl {α : Type} {f : State → α → State} {l : List α} (h : DrivesKept s t) (hf : ∀ u, ∀ a ∈ l, DrivesKept u (f u a)) :
    DrivesKept s (l.foldl f t) :=
  List.foldlRecOn (motive := DrivesKept s) l f h fun u hu a ha => hu.trans (hf u a ha)

theorem tk (h : DrivesKept s t) (k : Nat) : t.tk k = s.tk k := by rw [State.tk, h.tec, State.tk]

variable (h : DrivesKept s t)
include h

/-- A register write outside the registers of the TECs and the banks. -/
theorem wr {off v : Nat} (ho : off < 0x60000 ∨ 0x71000 ≤ off := by grind) : DrivesKept s (t.wr off v) :=
  h.trans ⟨rfl, rfl, fun _ hlo hhi => rd_wr_ne (by omega), .of_eq rfl rfl rfl, fun _ _ hr => hr, fun _ hm => hm⟩

theorem fw {off hi lo v : Nat} (ho : off < 0x60000 ∨ 0x71000 ≤ off := by grind) : DrivesKept s (t.fw off hi lo v) := h.wr ho

theorem sat {off hi lo n : Nat} (ho : off < 0x60000 ∨ 0x71000 ≤ off := by grind) : DrivesKept s (t.sat off hi lo n) := h.wr ho

theorem count64 {off n : Nat} (ho : off + 4 < 0x60000 ∨ 0x71000 ≤ off := by grind) : DrivesKept s (t.count64 off n) :=
  (h.wr (by omega)).wr (by omega)

theorem ev {code src : Nat} {args : List Nat} : DrivesKept s (t.ev code src args) :=
  h.trans ⟨ev_tec .., ev_las .., fun o _ _ => ev_regsKept t code src args o (by grind), ev_sameMem ..,
    fun _ _ hr => raised_ev hr code src args, fun o ho => (ev_out t code src args).symm ▸ ho⟩

/-- Another part of the state changes. -/
theorem of_eq (htec : u.tec = t.tec) (hlas : u.las = t.las) (hregs : u.regs = t.regs) (hevt : u.evt = t.evt) (hmem : SameMem t u)
    (hout : ∀ o ∈ t.out, o ∈ u.out) : DrivesKept s u :=
  h.trans ⟨htec, hlas, fun o _ _ => rd_of_regs_eq hregs o, hmem, fun _ _ => raised_of_evt_eq hevt, hout⟩

theorem uSty {g} : DrivesKept s (t.uSty g) := h.of_eq rfl rfl rfl rfl (.of_eq rfl rfl rfl) fun _ ho => ho
theorem uClk {g} : DrivesKept s (t.uClk g) := h.of_eq rfl rfl rfl rfl (.of_eq rfl rfl rfl) fun _ ho => ho
theorem uRepl {g} : DrivesKept s (t.uRepl g) := h.of_eq rfl rfl rfl rfl (.of_eq rfl rfl rfl) fun _ ho => ho
theorem uProof {g} : DrivesKept s (t.uProof g) := h.of_eq rfl rfl rfl rfl (.of_eq rfl rfl rfl) fun _ ho => ho
theorem uBoot {g} : DrivesKept s (t.uBoot g) := h.of_eq rfl rfl rfl rfl (.of_eq rfl rfl rfl) fun _ ho => ho
theorem uLk {p g} : DrivesKept s (t.uLk p g) := h.of_eq rfl rfl rfl rfl (.of_eq rfl rfl rfl) fun _ ho => ho
theorem uLs {tx p n g} : DrivesKept s (t.uLs tx p n g) := h.of_eq rfl rfl rfl rfl (.of_eq rfl rfl rfl) fun _ ho => ho
theorem emit {o} : DrivesKept s (t.emit o) := h.of_eq rfl rfl rfl rfl (.of_eq rfl rfl rfl) fun _ ho => List.mem_append_left _ ho
theorem draw : DrivesKept s t.draw.2 := h.of_eq rfl rfl rfl rfl (.of_eq rfl rfl rfl) fun _ ho => ho
theorem setSb {d q} : DrivesKept s (t.setSb d q) := by cases d <;> exact h.of_eq rfl rfl rfl rfl (.of_eq rfl rfl rfl) fun _ ho => ho

end

/-! Queues of engines, lines and lanes (09 R254; 11 R302; 12 R315–R321) -/

section
variable {s t : State} (h : DrivesKept s t)
include h

theorem wqPush {e l w v} : DrivesKept s (wqPush e l w v t) := by
  unfold Machine.wqPush
  extract_lets g
  split_ifs
  · exact h.uSty
  · exact h.sat.ev
  · exact h.uSty.fw

theorem ringMove {p l integ mode} : DrivesKept s (ringMove p l integ mode t) := h.wqPush.wqPush

theorem parkLane {tx p n} : DrivesKept s (parkLane tx p n t) := h.ringMove

theorem refLost {src} : DrivesKept s (refLost src t) := by
  unfold Machine.refLost
  extract_lets t1
  have h1 : DrivesKept s t1 := by
    cases src
    · exact h.fw.sat
    · exact h.fw.sat
  split_ifs
  · exact h1.fw.wr.uClk.ev
  · exact h1

theorem linkFollow : DrivesKept s (linkFollow t) := by
  unfold Machine.linkFollow
  extract_lets was t1
  split_ifs
  · exact h.uClk.refLost
  · exact h.uClk

theorem updLine {b n} : DrivesKept s (updLine b n t) := by
  unfold Machine.updLine
  split_ifs
  · exact h
  · exact h.fw

theorem sendStop {p n st} : DrivesKept s (sendStop p n st t) := by
  unfold Machine.sendStop
  split_ifs
  · exact h
  · exact h.uLs

theorem fwLane {tx p n hi lo v} : DrivesKept s (t.fw (laneReg tx p n) hi lo v) :=
  h.fw (.inr (by rw [laneReg, R.LNK_LANE_STATE]; omega))

theorem setLane {tx p n st} : DrivesKept s (setLane tx p n st t) := by
  unfold Machine.setLane
  extract_lets t1
  have h1 : DrivesKept s t1 := h.fwLane
  split_ifs
  · exact h1.sendStop.updLine
  · exact h1.linkFollow
  · exact h1

theorem setSlot {tx p n slot remapped} : DrivesKept s (setSlot tx p n slot remapped t) := h.fwLane.fwLane

theorem sweepLane {tx p n} : DrivesKept s (sweepLane tx p n t) := h.wqPush.ringMove.uLs.setLane

theorem lockLane {tx p n} : DrivesKept s (lockLane tx p n t) := by
  unfold Machine.lockLane
  split
  · exact h.ringMove.uLs.setLane
  · exact h.sweepLane

theorem lightLane {tx p n} : DrivesKept s (lightLane tx p n t) := by
  unfold Machine.lightLane
  split_ifs
  · exact h.lockLane
  · exact h

theorem laneCounts {p} : DrivesKept s (laneCounts p t) := h.fw.fw.fw.fw

theorem bankOff {p} : DrivesKept s (bankOff p t) := laneCounts <| h.foldl fun u n _ => by
  split_ifs
  · exact refl u
  · exact (refl u).parkLane.setLane

/-! Roles of lanes under a plate (12 R315, R316) -/

theorem roleLane {tx p n slot} : DrivesKept s (roleLane tx p n slot t) := by
  unfold Machine.roleLane
  extract_lets r was oldRole t0 t1 t2 t3 t4
  have h0 : DrivesKept s t0 := by
    unfold t0
    split_ifs
    · exact h.parkLane
    · exact h
  have h2 : DrivesKept s t2 := h0.fwLane.setSlot
  have h3 : DrivesKept s t3 := by
    unfold t3
    split_ifs
    · exact h2
    · exact h2.parkLane
  have h4 : DrivesKept s t4 := by
    unfold t4
    split_ifs
    · exact h2.fwLane
    · exact h2
  split_ifs
  · exact h2
  · exact h3.fwLane.setLane
  · exact h4.setLane
  · exact h4.parkLane.setLane
  · exact h4.setLane
  · exact h4.lockLane

theorem roleLanes {tx p} : DrivesKept s (roleLanes tx p t) :=
  List.foldlRecOn (motive := fun a : State × Nat => DrivesKept s a.1) _ _ h fun _ ha _ _ => ha.roleLane

theorem replaceRetired {tx p} : DrivesKept s (replaceRetired tx p t) :=
  List.foldlRecOn (motive := fun a : State × Nat => DrivesKept s a.1) _ _ h fun a ha n _ => by
    simp only []
    split_ifs
    · exact ha
    · exact ha
    · split
      · exact ha.setSlot.lockLane
      · exact ha.ev

theorem selFollow {p} : DrivesKept s (selFollow p t) := h.foldl fun u n _ => by
  simp only []
  split_ifs
  · exact refl u
  · exact (refl u).uLs.wqPush

theorem byScribe {f : State → State} (hf : ∀ {u}, DrivesKept s u → DrivesKept s (f u)) : DrivesKept s (byScribe f t) := (hf h.uSty).uSty

theorem rolesOnPort {p} : DrivesKept s (rolesOnPort p t) := by
  unfold Machine.rolesOnPort
  extract_lets t0 t1 t2 t3
  have h3 : DrivesKept s t3 := h.uLk.fw.fw.fw.roleLanes.roleLanes.replaceRetired.replaceRetired
  split_ifs
  · exact h3.laneCounts
  · exact (h3.byScribe fun g => g.selFollow).laneCounts

/-! PHOTONICS (06 Table 6.8) -/

theorem orderDark {lane} : DrivesKept s (orderDark lane t) := by
  unfold Machine.orderDark
  split_ifs
  · exact h
  · exact h.uProof.fw

theorem photonicsCheck : DrivesKept s (photonicsCheck t) := by
  unfold Machine.photonicsCheck
  split_ifs
  · exact h.uBoot.orderDark
  · exact h

theorem lasersOn : DrivesKept s (lasersOn t) := by
  unfold Machine.lasersOn
  split_ifs
  · exact (h.uBoot.foldl fun u _ _ => (refl u).rolesOnPort).photonicsCheck
  · exact h

/-! Lanes' streams and packets (12 R315–R324; 17 R440–R445) -/

theorem laneBlock {p n hdr payload} : DrivesKept s (laneBlock p n hdr payload t) := h.uLs.emit

theorem marksGo {p n k} : DrivesKept s (marksGo p n k t) := by
  induction k generalizing t with
  | zero => exact h
  | succ k ih =>
    unfold Machine.marksGo
    split_ifs
    · exact ih h.laneBlock
    · exact h

theorem laneSend {p n hdr payload} : DrivesKept s (laneSend p n hdr payload t) := h.marksGo.laneBlock

theorem lctl {p kind fields} : DrivesKept s (lctl p kind fields t) := by
  unfold Machine.lctl
  extract_lets t1
  have h1 : DrivesKept s t1 := h.emit
  split
  · exact h1.laneSend
  · exact h1

theorem slotSend {p k bsn payload} : DrivesKept s (slotSend p k bsn payload t) := h.foldl fun u _ _ => (refl u).laneSend

theorem retryStatus {p} : DrivesKept s (retryStatus p t) := h.fw.fw

theorem dataBlock {p payload} : DrivesKept s (dataBlock p payload t) := h.uLk.retryStatus.slotSend

theorem sendBlock {p k} : DrivesKept s (sendBlock p k t) := h.uLk.count64.emit.dataBlock

end

theorem pumpGo {p : Nat} (ks : List Pkt) (blocked : List Nat) {s t : State} (h : DrivesKept s t) :
    DrivesKept s (pumpGo p ks blocked t).1 := by
  induction ks generalizing blocked t with
  | nil => exact h
  | cons k ks ih =>
    unfold Machine.pumpGo
    split_ifs
    · exact ih _ h.sendBlock
    · exact ih _ h

section
variable {s t : State} (h : DrivesKept s t)
include h

theorem pump {p} : DrivesKept s (pump p t) := by
  unfold Machine.pump
  exact (pumpGo _ _ h).uLk

theorem sendPkt {p k} : DrivesKept s (sendPkt p k t) := h.uLk.pump

/-! Notes of failed ports (14 R370, R390; 15 R397) -/

theorem cordOut {hops src skip frame} : DrivesKept s (cordOut hops src skip frame t) := h.draw.foldl fun u _ _ => (refl u).sendPkt

theorem sbQueue {d mtype body} : DrivesKept s (t.sbQueue d mtype body) := h.setSb

theorem memberOrder {payload} : DrivesKept s (memberOrder payload t) := h.draw.sbQueue.sbQueue.cordOut

theorem faultReg : DrivesKept s (faultReg t) := h.wr

theorem clearPairs {gone} : DrivesKept s (clearPairs gone t) := by
  unfold Machine.clearPairs
  split_ifs
  · exact h.uRepl
  · exact h.uRepl.faultReg

theorem addPairs {chip ports} : DrivesKept s (addPairs chip ports t) := by
  unfold Machine.addPairs
  extract_lets new
  split_ifs
  · exact h.uRepl
  · exact h.uRepl.faultReg

theorem standbyPairs {chip ports gone} : DrivesKept s (standbyPairs chip ports gone t) := by
  unfold Machine.standbyPairs
  split_ifs
  · exact h.uRepl.faultReg
  · exact h

theorem portNote {op} : DrivesKept s (portNote op t) := by
  unfold Machine.portNote
  extract_lets t1
  have h1 : DrivesKept s t1 := h.memberOrder
  split_ifs
  · exact h1.addPairs.clearPairs
  · exact h1.standbyPairs

/-! A port trains or fails (12 R330, R332) -/

theorem portSet {p st} : DrivesKept s (portSet p st t) := by
  unfold Machine.portSet
  extract_lets old t1
  have h1 : DrivesKept s t1 := h.fw.fw
  split_ifs
  · exact h1
  · exact h1.uLk.ev
  · exact h1.ev
  · exact h1

theorem enterFailed {p cause} : DrivesKept s (enterFailed p cause t) := by
  unfold Machine.enterFailed
  split_ifs
  · exact h
  · exact h.portSet.ev.portNote

theorem enterTraining {p} : DrivesKept s (enterTraining p t) := by
  unfold Machine.enterTraining
  extract_lets was t1 t2 t3 t4
  have h3 : DrivesKept s t3 := h.uLk.portSet.foldl fun u n _ => (refl u).foldl fun v tx _ => by
    split_ifs
    · exact (refl v).lockLane
    · exact refl v
  split_ifs
  · exact h3.lctl.portNote
  · exact h3.lctl

theorem tryTrain {p} : DrivesKept s (tryTrain p t) := by
  unfold Machine.tryTrain
  split_ifs
  · exact h
  · exact h.enterTraining
  · exact h
  · exact h.draw.enterFailed

end

end DrivesKept

end Sys2Proof.Machine
end

section
/-! Safe power of the laser banks (11 R303): what the begin and the end of a cause leave. -/

namespace Sys2Proof.Machine

variable {s t u : State} {os : List Nat} {n m b cause : Nat}

/-! Registers and events together (25 R622–R626) -/

/-- From s to t at most n events are raised and no register but those listed changes, but for the count of dropped records where the
queue has no room for n; the events raised before and memory stay. -/
structure Reports (os : List Nat) (n : Nat) (s t : State) : Prop where
  raises : Raises n s t
  regs : s.evt.queue.length + n ≤ 1024 → RegsKept os s t
  always : RegsKept (R.EVT_DROP_CNT :: os) s t
  raised : ∀ code src, Raised s code src → Raised t code src
  mem : SameMem s t

namespace Reports

theorem of_eq (hregs : t.regs = s.regs) (hevt : t.evt = s.evt) (hmem : SameMem s t) : Reports os 0 s t :=
  ⟨.of_evt_eq hevt, fun _ => .of_regs_eq _ hregs, .of_regs_eq _ hregs, fun _ _ => raised_of_evt_eq hevt, hmem⟩

theorem refl (s : State) : Reports os 0 s s := of_eq rfl rfl (.of_eq rfl rfl rfl)

theorem trans (h : Reports os n s t) (g : Reports os m t u) : Reports os (n + m) s u where
  raises := h.raises.trans g.raises
  regs room := by
    have hraises := h.raises
    unfold Raises at hraises
    exact (h.regs (by omega)).trans (g.regs (by omega))
  always := h.always.trans g.always
  raised code src hr := g.raised code src (h.raised code src hr)
  mem := h.mem.trans g.mem

theorem mono {ps : List Nat} (h : Reports os n s t) (hsub : os ⊆ ps) : Reports ps n s t where
  raises := h.raises
  regs room := (h.regs room).mono hsub
  always := h.always.mono (List.cons_subset_cons _ hsub)
  raised := h.raised
  mem := h.mem

theorem wr {off : Nat} (h : Reports os n s t) (ho : off ∈ os) (v : Nat) : Reports os n s (t.wr off v) :=
  h.trans (m := 0) ⟨.of_evt_eq rfl, fun _ => (RegsKept.of_regs_eq _ rfl).wr ho _, (RegsKept.of_regs_eq _ rfl).wr (List.mem_cons_of_mem _ ho) _,
    fun _ _ hr => hr, .of_eq rfl rfl rfl⟩

theorem fw {off : Nat} (h : Reports os n s t) (ho : off ∈ os) (hi lo v : Nat) : Reports os n s (t.fw off hi lo v) := h.wr ho _

theorem ev (h : Reports os n s t) (code src : Nat) (args : List Nat) : Reports os (n + 1) s (t.ev code src args) :=
  h.trans ⟨.ev .., fun room => .of_regs_eq _ (ev_regs (by unfold RoomFor; omega) ..), (RegsKept.of_regs_eq _ rfl).ev List.mem_cons_self _ _ _,
    fun _ _ hr => raised_ev hr .., ev_sameMem ..⟩

theorem roomFor (h : Reports os n s t) (room : s.evt.queue.length + n < 1024) : RoomFor t := lt_of_le_of_lt h.raises room

end Reports

/-! What changes and what stands -/

/-- From s to t only registers, events and the banks differ. -/
def SafeOnly (s t : State) : Prop := t = { s with regs := t.regs, evt := t.evt, las := t.las }

namespace SafeOnly

theorem refl (s : State) : SafeOnly s s := rfl

theorem trans (h : SafeOnly s t) (g : SafeOnly t u) : SafeOnly s u := by
  unfold SafeOnly at *
  rw [g, h]

theorem fw (h : SafeOnly s t) (off hi lo v : Nat) : SafeOnly s (t.fw off hi lo v) := h.trans rfl

theorem uLas (h : SafeOnly s t) (g : LasSt → LasSt) : SafeOnly s (t.uLas g) := h.trans rfl

theorem ev (h : SafeOnly s t) (code src : Nat) (args : List Nat) : SafeOnly s (t.ev code src args) := h.trans (by
  unfold SafeOnly State.ev
  split_ifs <;> rfl)

theorem tec (h : SafeOnly s t) : t.tec = s.tec := by rw [h]

theorem sty (h : SafeOnly s t) : t.sty = s.sty := by rw [h]

theorem out (h : SafeOnly s t) : t.out = s.out := by rw [h]

theorem boot (h : SafeOnly s t) : t.boot = s.boot := by rw [h]

theorem tk (h : SafeOnly s t) (k : Nat) : t.tk k = s.tk k := by rw [State.tk, h.tec, State.tk]

theorem lp (h : SafeOnly s t) (e l : Nat) : t.lp e l = s.lp e l := by rw [State.lp, h.sty, State.lp]

end SafeOnly

theorem safeOn_only (cause b : Nat) (s : State) : SafeOnly s (safeOn cause b s) := by
  unfold safeOn
  extract_lets w s1
  have h1 : SafeOnly s s1 := (SafeOnly.refl s).uLas _
  split_ifs
  · exact .refl s
  · exact (h1.fw ..).ev ..
  · exact h1

theorem safeOff_only (cause b : Nat) (s : State) : SafeOnly s (safeOff cause b s) := by
  unfold safeOff
  extract_lets w s1
  have h1 : SafeOnly s s1 := (SafeOnly.refl s).uLas _
  split_ifs
  · exact .refl s
  · exact (h1.fw ..).ev ..
  · exact h1

theorem Reports.uLas (s : State) (g : LasSt → LasSt) : Reports os 0 s (s.uLas g) := of_eq rfl rfl (.of_eq rfl rfl rfl)

theorem Reports.more (h : Reports os n s t) (hn : n ≤ m) : Reports os m s t where
  raises := h.raises.mono hn
  regs room := h.regs (by omega)
  always := h.always
  raised := h.raised
  mem := h.mem

theorem safeOn_reports (cause b : Nat) (s : State) : Reports [R.LAS_STATUS] 1 s (safeOn cause b s) := by
  unfold safeOn
  extract_lets w s1
  have h1 : Reports [R.LAS_STATUS] 0 s s1 := .uLas ..
  split_ifs
  · exact (Reports.refl s).more zero_le_one
  · exact (h1.fw List.mem_cons_self ..).ev ..
  · exact h1.more zero_le_one

theorem safeOff_reports (cause b : Nat) (s : State) : Reports [R.LAS_STATUS] 1 s (safeOff cause b s) := by
  unfold safeOff
  extract_lets w s1
  have h1 : Reports [R.LAS_STATUS] 0 s s1 := .uLas ..
  split_ifs
  · exact (Reports.refl s).more zero_le_one
  · exact (h1.fw List.mem_cons_self ..).ev ..
  · exact h1.more zero_le_one

/-! The causes of a bank -/

/-- A bank's causes with one begun. -/
def causeBegun (w cause : Nat) : Nat := if bitOf w cause then w else w + 2 ^ cause

/-- A bank's causes with one ended. -/
def causeEnded (w cause : Nat) : Nat := if bitOf w cause then w - 2 ^ cause else w

theorem two_pow_le_of_bitOf {w : Nat} (h : bitOf w cause = true) : 2 ^ cause ≤ w :=
  Nat.ge_two_pow_of_testBit (bitOf_eq_testBit w cause ▸ h)

theorem bitOf_causeBegun (w cause : Nat) : bitOf (causeBegun w cause) cause = true := by
  unfold causeBegun
  split_ifs with hset
  · exact hset
  · rw [bitOf_eq_testBit] at *
    rw [Nat.add_comm, Nat.testBit_two_pow_add_eq]
    simpa using hset

theorem bitOf_causeEnded (w cause : Nat) : bitOf (causeEnded w cause) cause = false := by
  unfold causeEnded
  split_ifs with hset
  · obtain ⟨x, hx⟩ := Nat.exists_eq_add_of_le (two_pow_le_of_bitOf hset)
    rw [bitOf_eq_testBit] at *
    rw [hx, Nat.testBit_two_pow_add_eq] at hset
    rw [hx, Nat.add_sub_cancel_left]
    simpa using hset
  · simpa using hset

theorem causeBegun_ne_zero (w cause : Nat) : causeBegun w cause ≠ 0 := fun hzero => by
  have hset := two_pow_le_of_bitOf (bitOf_causeBegun w cause)
  have := Nat.two_pow_pos cause
  omega

/-- A bank is free of causes after the end of one where it had no other. -/
theorem causeEnded_eq_zero {w cause : Nat} : causeEnded w cause = 0 ↔ w = 0 ∨ w = 2 ^ cause := by
  unfold causeEnded
  split_ifs with hset
  · have hle := two_pow_le_of_bitOf hset
    have := Nat.two_pow_pos cause
    omega
  · refine ⟨.inl, fun h => h.resolve_right fun hw => ?_⟩
    rw [hw, bitOf_eq_testBit, Nat.testBit_two_pow_self] at hset
    exact hset rfl

/-- A bank's causes are set. -/
def causesSet (b w : Nat) (s : State) : State := s.uLas fun x => { x with safe := setAt 0 x.safe b w }

/-- LAS_STATUS shows a bank's entry into safe power or its exit, and LAS_DERATE reports it. -/
def derateShown (b v : Nat) (args : List Nat) (s : State) : State := (s.fw R.LAS_STATUS b b v).ev Ev.LAS_DERATE b args

theorem safeOn_eq (cause b : Nat) (s : State) : safeOn cause b s =
    if bitOf (s.las.safe.getD b 0) cause then s
    else if s.las.safe.getD b 0 = 0 then derateShown b 1 [cause, 1] (causesSet b (s.las.safe.getD b 0 + 2 ^ cause) s)
    else causesSet b (s.las.safe.getD b 0 + 2 ^ cause) s := rfl

theorem safeOff_eq (cause b : Nat) (s : State) : safeOff cause b s =
    if !bitOf (s.las.safe.getD b 0) cause then s
    else if s.las.safe.getD b 0 = 2 ^ cause then derateShown b 0 [cause, 0] (causesSet b (s.las.safe.getD b 0 - 2 ^ cause) s)
    else causesSet b (s.las.safe.getD b 0 - 2 ^ cause) s := rfl

theorem derateShown_las (b v : Nat) (args : List Nat) (s : State) : (derateShown b v args s).las = s.las := ev_las ..

theorem causesSet_safe (b w j : Nat) (s : State) : (causesSet b w s).las.safe.getD j 0 = if j = b then w else s.las.safe.getD j 0 :=
  getD_setAt ..

theorem safeOn_safe (cause b j : Nat) (s : State) : (safeOn cause b s).las.safe.getD j 0
    = if j = b then causeBegun (s.las.safe.getD b 0) cause else s.las.safe.getD j 0 := by
  rw [safeOn_eq, causeBegun]
  split_ifs with hset hj
  · rw [hj]
  · rfl
  all_goals simp only [derateShown_las, causesSet_safe, *, if_true, if_false]

theorem safeOff_safe (cause b j : Nat) (s : State) : (safeOff cause b s).las.safe.getD j 0
    = if j = b then causeEnded (s.las.safe.getD b 0) cause else s.las.safe.getD j 0 := by
  rw [safeOff_eq, causeEnded]
  cases hset : bitOf (s.las.safe.getD b 0) cause
  · by_cases hj : j = b <;> simp [hj]
  · simp only [Bool.not_true, Bool.false_eq_true, if_false, if_true]
    split_ifs with hlast <;> simp only [derateShown_las, causesSet_safe, *, if_true, if_false]

/-! LAS_STATUS and LAS_DERATE -/

/-- LAS_STATUS shows a bank at safe power where a cause holds it. -/
def SafeShown (s : State) : Prop := ∀ b < 8, (s.las.safe.getD b 0 = 0 ↔ s.bit R.LAS_STATUS b = false)

theorem bit_ev_ne {off : Nat} (hoff : off ≠ R.EVT_DROP_CNT) (s : State) (code src : Nat) (args : List Nat) (i : Nat) :
    (s.ev code src args).bit off i = s.bit off i := bit_of_rd_eq (ev_regsKept s code src args off (by simpa using hoff)) i

theorem bit_derateShown (s : State) {v j : Nat} (args : List Nat) (hb : b < 8) (hj : j < 8) :
    (derateShown b v args s).bit R.LAS_STATUS j = if j = b then bitOf (v % 2) 0 else s.bit R.LAS_STATUS j := by
  rw [derateShown, bit_ev_ne (by decide)]
  split_ifs with hjb
  · subst hjb
    rw [bit_fw le_rfl le_rfl (by omega), Nat.sub_self, Nat.add_sub_cancel_left, pow_one]
  · exact bit_fw_of_disjoint _ _ _ le_rfl (by omega) (by omega)

namespace SafeShown

/-- A bank whose status stands keeps a cause, or has none. -/
theorem causesSet (h : SafeShown s) {w : Nat} (hw : w = 0 ↔ s.las.safe.getD b 0 = 0) : SafeShown (causesSet b w s) := fun j hj => by
  rw [causesSet_safe]
  split_ifs with hjb
  · rw [hw, ← hjb]
    exact h j hj
  · exact h j hj

theorem derateShown (h : SafeShown s) {w v : Nat} (hb : b < 8) (args : List Nat) (hw : w = 0 ↔ bitOf (v % 2) 0 = false) :
    SafeShown (derateShown b v args (Machine.causesSet b w s)) := fun j hj => by
  rw [derateShown_las, causesSet_safe, bit_derateShown _ _ hb hj]
  split_ifs with hjb
  · exact hw
  · exact h j hj

theorem safeOn (h : SafeShown s) (hb : b < 8) (cause : Nat) : SafeShown (safeOn cause b s) := by
  have hpos := Nat.two_pow_pos cause
  rw [safeOn_eq]
  split_ifs with hset hzero
  · exact h
  · exact h.derateShown hb _ (iff_of_false (by omega) (by decide))
  · exact h.causesSet (iff_of_false (by omega) hzero)

theorem safeOff (h : SafeShown s) (hb : b < 8) (cause : Nat) : SafeShown (safeOff cause b s) := by
  rw [safeOff_eq]
  split_ifs with hset hlast
  · exact h
  · exact h.derateShown hb _ (iff_of_true (by omega) (by decide))
  · have hle := two_pow_le_of_bitOf (cause := cause) (by simpa only [Bool.not_eq_true, Bool.not_eq_false'] using hset)
    have := Nat.two_pow_pos cause
    exact h.causesSet (by omega)

/-- The status bit of a bank says whether a cause holds it. -/
theorem bit (h : SafeShown s) (hb : b < 8) : s.bit R.LAS_STATUS b = decide (s.las.safe.getD b 0 ≠ 0) := by
  cases hbit : s.bit R.LAS_STATUS b
  · exact (decide_eq_false (not_not_intro ((h b hb).mpr hbit))).symm
  · exact (decide_eq_true (mt (h b hb).mp (by simp [hbit]))).symm

end SafeShown

theorem derateShown_raised (room : RoomFor s) (b v : Nat) (args : List Nat) : Raised (derateShown b v args s) Ev.LAS_DERATE b :=
  ev_raised (RegsOnly.roomFor ((RegsOnly.refl s).fw ..) room) ..

/-- A bank's first cause is reported. -/
theorem safeOn_raised (room : RoomFor s) (h : s.las.safe.getD b 0 = 0) (cause : Nat) : Raised (safeOn cause b s) Ev.LAS_DERATE b := by
  rw [safeOn_eq, h, if_neg (by simp [bitOf_eq_testBit]), if_pos rfl]
  exact derateShown_raised (s := causesSet ..) room ..

theorem safeOff_last (h : s.las.safe.getD b 0 = 2 ^ cause) : safeOff cause b s = derateShown b 0 [cause, 0] (causesSet b 0 s) := by
  rw [safeOff_eq, h, if_neg (by simp [bitOf_eq_testBit, Nat.testBit_two_pow_self]), if_pos rfl, Nat.sub_self]

/-- The end of a bank's last cause is reported. -/
theorem safeOff_raised (room : RoomFor s) (h : s.las.safe.getD b 0 = 2 ^ cause) : Raised (safeOff cause b s) Ev.LAS_DERATE b := by
  rw [safeOff_last h]
  exact derateShown_raised (s := causesSet ..) room ..

end Sys2Proof.Machine
end

section
/-! The laser banks (11 R299, R303, R310, R312; 25 R635): LAS_CTL, the probe of a shut port, the lines' hours and their current. -/

namespace Sys2Proof.Machine

variable {s t u : State} {p : Path} {n : Nat}

/-- A write discarded for its path raises its event and changes nothing else of the banks and drives (25 R623). -/
theorem deny_drives (room : RoomFor s) (code off v : Nat) (p : Path) : Raised (s.deny code off v p) code 0
    ∧ (s.deny code off v p).tec = s.tec ∧ (s.deny code off v p).las = s.las ∧ (s.deny code off v p).out = s.out
    ∧ (s.deny code off v p).regs = s.regs ∧ SameMem s (s.deny code off v p) :=
  ⟨ev_raised room .., ev_tec .., ev_las .., ev_out .., ev_regs room .., ev_sameMem ..⟩

/-! LAS_CTL (R303, R312) -/

/-- A bank follows its bit of LAS_CTL. -/
def forceBank (v : Nat) (s : State) (b : Nat) : State := if bitOf v b then safeOn 4 b s else safeOff 4 b s

/-- A bank's causes once its bit of LAS_CTL is followed. -/
def causesForced (force : Bool) (w : Nat) : Nat := if force then causeBegun w 4 else causeEnded w 4

theorem exec_lasCtlWrite (hreach : Reaches p s) (v : Word) : exec (.lasCtlWrite p v) s =
    if hostLike p then .next (s.deny Ev.LAS_DENIED R.LAS_CTL v.toNat p)
    else .next ((List.range 8).foldl (forceBank (v.toNat % 256)) (s.wr R.LAS_CTL (v.toNat % 256))) := through_reaches hreach _ _

theorem lasCtlWrite_denied (hreach : Reaches p s) (v : Word) (hp : hostLike p = true) (room : RoomFor s) :
    Runs (.lasCtlWrite p v) s fun t => Raised t Ev.LAS_DENIED 0 ∧ t.las = s.las ∧ t.regs = s.regs ∧ SameMem s t := by
  obtain ⟨hraised, -, hlas, -, hregs, hmem⟩ := deny_drives room Ev.LAS_DENIED R.LAS_CTL v.toNat p
  exact ⟨_, (exec_lasCtlWrite hreach v).trans (if_pos hp), hraised, hlas, hregs, hmem⟩

theorem bitOf_causesForced (force : Bool) (w : Nat) : bitOf (causesForced force w) 4 = force := by
  unfold causesForced
  cases force
  · exact bitOf_causeEnded w 4
  · exact bitOf_causeBegun w 4

theorem causesForced_eq_zero {force : Bool} {w : Nat} : causesForced force w = 0 ↔ force = false ∧ (w = 0 ∨ w = 16) := by
  unfold causesForced
  cases force
  · simpa using causeEnded_eq_zero (cause := 4)
  · simpa using causeBegun_ne_zero w 4

theorem forceBank_reports (v : Nat) (s : State) (b : Nat) : Reports [R.LAS_STATUS] 1 s (forceBank v s b) := by
  unfold forceBank
  split_ifs
  · exact safeOn_reports ..
  · exact safeOff_reports ..

theorem forceBank_safe (v : Nat) (s : State) (b j : Nat) : (forceBank v s b).las.safe.getD j 0
    = if j = b then causesForced (bitOf v b) (s.las.safe.getD b 0) else s.las.safe.getD j 0 := by
  unfold forceBank causesForced
  split_ifs with hv hj
  all_goals simp only [safeOn_safe, safeOff_safe, *, if_true, if_false]

theorem SafeShown.forceBank {b : Nat} (h : SafeShown s) (hb : b < 8) (v : Nat) : SafeShown (forceBank v s b) := by
  unfold Machine.forceBank
  split_ifs
  · exact h.safeOn hb 4
  · exact h.safeOff hb 4

/-- A bank that enters or leaves safe power as its bit is followed is reported. -/
theorem forceBank_raised {v b : Nat} (room : RoomFor s)
    (h : ¬(s.las.safe.getD b 0 = 0 ↔ causesForced (bitOf v b) (s.las.safe.getD b 0) = 0)) : Raised (forceBank v s b) Ev.LAS_DERATE b := by
  rw [causesForced_eq_zero] at h
  unfold forceBank
  split_ifs with hv
  · simp only [hv, Bool.true_eq_false, false_and, iff_false, not_not] at h
    exact safeOn_raised room h 4
  · simp only [hv, true_and] at h
    exact safeOff_raised (cause := 4) room (by omega)

/-- From s to t the first n banks have followed their bits of LAS_CTL. -/
structure BanksForced (v n : Nat) (s t : State) : Prop where
  reports : Reports [R.LAS_STATUS] n s t
  shown : SafeShown t
  safe : ∀ b, t.las.safe.getD b 0 = if b < n then causesForced (bitOf v b) (s.las.safe.getD b 0) else s.las.safe.getD b 0
  raised : ∀ b < n, ¬(s.las.safe.getD b 0 = 0 ↔ t.las.safe.getD b 0 = 0) → Raised t Ev.LAS_DERATE b

theorem BanksForced.next {v : Nat} (h : BanksForced v n s t) (hn : n < 8) (room : s.evt.queue.length < 1000) :
    BanksForced v (n + 1) s (forceBank v t n) where
  reports := h.reports.trans (forceBank_reports v t n)
  shown := h.shown.forceBank hn v
  safe b := by
    rw [forceBank_safe, h.safe b, h.safe n, if_neg (lt_irrefl n)]
    grind
  raised b hb hchange := by
    rw [forceBank_safe] at hchange
    have hat := h.safe n
    rw [if_neg (lt_irrefl n)] at hat
    split_ifs at hchange with hbn
    · subst hbn
      exact forceBank_raised (h.reports.roomFor (by omega)) (by rwa [hat] at hchange ⊢)
    · exact (forceBank_reports v t n).raised _ _ (h.raised b (by omega) hchange)

theorem banksForced (hshown : SafeShown s) (v : Nat) (room : s.evt.queue.length < 1000) (hn : n ≤ 8) :
    BanksForced v n s ((List.range n).foldl (forceBank v) s) := by
  induction n with
  | zero => exact ⟨.refl s, hshown, fun b => by simp, fun b hb => absurd hb (Nat.not_lt_zero b)⟩
  | succ n ih =>
    rw [List.range_succ, List.foldl_append]
    exact (ih (by omega)).next hn room

theorem bitOf_byte {w i : Nat} (h : i < 8) : bitOf (w % 256) i = bitOf w i := by
  simp [bitOf_eq_testBit, Nat.testBit_mod_two_pow w 8 i, h]

theorem lasCtlWrite_runs (hreach : Reaches p s) (v : Word) (hp : hostLike p = false) (room : s.evt.queue.length < 1000)
    (hshown : SafeShown s) : Runs (.lasCtlWrite p v) s fun t =>
      t.rd R.LAS_CTL = v.toNat % 256
        ∧ (∀ b < 8, bitOf (t.las.safe.getD b 0) 4 = bitOf v.toNat b)
        ∧ (∀ b < 8, t.bit R.LAS_STATUS b = (bitOf v.toNat b || decide (s.las.safe.getD b 0 ≠ 0 ∧ s.las.safe.getD b 0 ≠ 16)))
        ∧ (∀ b < 8, bitOf v.toNat b ≠ s.bit R.LAS_STATUS b → t.bit R.LAS_STATUS b = bitOf v.toNat b → Raised t Ev.LAS_DERATE b)
        ∧ RegsKept [R.LAS_CTL, R.LAS_STATUS] s t ∧ SameMem s t := by
  have hwritten : Reports [R.LAS_CTL, R.LAS_STATUS] 0 s (s.wr R.LAS_CTL (v.toNat % 256)) := (Reports.refl s).wr (by simp) _
  have hstatus : ∀ b, (s.wr R.LAS_CTL (v.toNat % 256)).bit R.LAS_STATUS b = s.bit R.LAS_STATUS b := bit_of_rd_eq (rd_wr_ne (by decide))
  have hforced := banksForced (s := s.wr R.LAS_CTL (v.toNat % 256)) (fun b hb => by rw [hstatus b]; exact hshown b hb) (v.toNat % 256) room le_rfl
  have hexec := (exec_lasCtlWrite hreach v).trans (if_neg (by simp [hp]))
  generalize (List.range 8).foldl _ _ = t at hforced hexec
  have hreports := hwritten.trans (hforced.reports.mono (by simp))
  have hsafe : ∀ b < 8, t.las.safe.getD b 0 = causesForced (bitOf v.toNat b) (s.las.safe.getD b 0) := fun b hb => by
    rw [hforced.safe b, if_pos hb, bitOf_byte hb]
    rfl
  refine ⟨t, hexec, ?_, fun b hb => ?_, fun b hb => ?_, fun b hb hdiff hnow => ?_, hreports.regs (by omega), hreports.mem⟩
  · rw [hforced.reports.always _ (by decide), rd_wr, if_pos rfl]
    omega
  · rw [hsafe b hb, bitOf_causesForced]
  · rw [hforced.shown.bit hb, hsafe b hb]
    simp only [ne_eq, causesForced_eq_zero]
    cases bitOf v.toNat b <;> simp
  · refine hforced.raised b hb fun hsame => hdiff ?_
    rw [← hnow, hforced.shown.bit hb, hshown.bit hb]
    simp only [ne_eq, ← hsame]
    rfl

/-! The probe of a shut port (R310) -/

/-- A port's shut and both causes clear, and its attenuators open. -/
def portCleared (p : Nat) (s : State) : State :=
  (((s.fw R.LAS_SHUT p p 0).uLas fun x => { x with voaMax := x.voaMax.filter (· != p) }).fw R.LAS_SHUT_CAUSE p p 0).fw
    R.LAS_SHUT_CAUSE (16 + p) (16 + p) 0

/-- A port opens again, which LAS_PORT_RESTORE reports. -/
def portOpened (p : Nat) (s : State) : State := (portCleared p s).ev Ev.LAS_PORT_RESTORE p []

theorem portRestore_eq {p : Nat} (h : s.bit R.LAS_SHUT p = true) : portRestore p s
    = tryTrain p (laneCounts p ((List.range 18).foldl (fun s n => lightLane true p n s) (portOpened p s))) := if_neg (by simp [h])

theorem portRestore_kept {p : Nat} (h : s.bit R.LAS_SHUT p = true) : DrivesKept (portOpened p s) (portRestore p s) := by
  rw [portRestore_eq h]
  exact ((DrivesKept.refl _).foldl fun u _ _ => (DrivesKept.refl u).lightLane).laneCounts.tryTrain

theorem portOpened_bits {p : Nat} (hp : p < 16) (s : State) :
    (portOpened p s).bit R.LAS_SHUT p = false ∧ (portOpened p s).bit R.LAS_SHUT_CAUSE (16 + p) = false := by
  unfold portOpened portCleared
  constructor
  · rw [bit_ev_ne (by decide), bit_fw_ne (by decide), bit_fw_ne (by decide)]
    exact (bit_fw (s := s) le_rfl le_rfl (by omega)).trans (by simp [bitOf])
  · rw [bit_ev_ne (by decide), bit_fw le_rfl le_rfl (by omega)]
    simp [bitOf]

theorem portOpened_las (p : Nat) (s : State) : (portOpened p s).las.voaMax = s.las.voaMax.filter (· != p) := congrArg LasSt.voaMax (ev_las ..)

theorem portOpened_out (p : Nat) (s : State) : (portOpened p s).out = s.out := ev_out ..

theorem portOpened_raised (p : Nat) (room : RoomFor s) : Raised (portOpened p s) Ev.LAS_PORT_RESTORE p :=
  ev_raised (roomFor_of_evt_eq (t := portCleared p s) rfl room) ..

theorem portOpened_sameMem (p : Nat) (s : State) : SameMem s (portOpened p s) := by
  have hcleared : SameMem s (portCleared p s) := .of_eq rfl rfl rfl
  exact hcleared.trans (ev_sameMem ..)

/-- A port shut for input loss alone. -/
abbrev ProbedPort (s : State) (p : Nat) : Prop :=
  s.bit R.LAS_SHUT p = true ∧ s.bit R.LAS_SHUT_CAUSE (16 + p) = true ∧ s.bit R.LAS_SHUT_CAUSE p = false

theorem exec_shutPortProbe (p : Fin 16) (light : Bool) (h : ProbedPort s p) : exec (.shutPortProbe p light) s =
    .next (if light then portRestore p (s.emit (.probe p (probeLane s p))) else s.emit (.probe p (probeLane s p))) := by
  obtain ⟨hshut, hinput, htag⟩ := h
  exact if_pos ⟨hshut, hinput, by simp [htag]⟩

theorem shutPortProbe_lit (p : Fin 16) (h : ProbedPort s p) (room : s.evt.queue.length < 900) :
    Runs (.shutPortProbe p true) s fun t => t.bit R.LAS_SHUT p = false ∧ t.bit R.LAS_SHUT_CAUSE (16 + p) = false ∧ p.val ∉ t.las.voaMax
      ∧ Raised t Ev.LAS_PORT_RESTORE p ∧ Out.probe p (probeLane s p) ∈ t.out ∧ SameMem s t := by
  have hkept := portRestore_kept (s := s.emit (.probe p (probeLane s p))) h.1
  obtain ⟨hshut, hinput⟩ := portOpened_bits p.isLt (s.emit (.probe p (probeLane s p)))
  have hprobed : SameMem s (s.emit (.probe p (probeLane s p))) := .of_eq rfl rfl rfl
  have hroom : RoomFor (s.emit (.probe p (probeLane s p))) := room.trans (by decide)
  refine ⟨_, exec_shutPortProbe p true h, ?_, ?_, ?_, hkept.raised _ _ (portOpened_raised p hroom), hkept.out _ ?_,
    hprobed.trans ((portOpened_sameMem ..).trans hkept.mem)⟩
  · exact (bit_of_rd_eq (hkept.rd _ (by decide) (by decide)) _).trans hshut
  · exact (bit_of_rd_eq (hkept.rd _ (by decide) (by decide)) _).trans hinput
  · rw [if_pos rfl, hkept.las, portOpened_las]
    simp
  · rw [portOpened_out]
    exact List.mem_append_right _ List.mem_cons_self

theorem shutPortProbe_dark (p : Fin 16) (h : ProbedPort s p) : Runs (.shutPortProbe p false) s fun t =>
    t.out = s.out ++ [.probe p (probeLane s p)] ∧ t.regs = s.regs ∧ t.las = s.las ∧ t.evt = s.evt ∧ SameMem s t :=
  ⟨_, exec_shutPortProbe p false h, rfl, rfl, rfl, rfl, .of_eq rfl rfl rfl⟩

theorem shutPortProbe_idle (p : Fin 16) (light : Bool)
    (h : s.bit R.LAS_SHUT p = false ∨ s.bit R.LAS_SHUT_CAUSE p = true ∨ s.bit R.LAS_SHUT_CAUSE (16 + p) = false) :
    exec (.shutPortProbe p light) s = .next s := by
  refine if_neg fun ⟨hshut, hinput, htag⟩ => ?_
  rcases h with h | h | h
  · simp [hshut] at h
  · simp [h] at htag
  · simp [hinput] at h

/-! The lines' hours (25 R635) -/

/-- From s to t the first n records of the lines' hours have been raised, and nothing else. -/
structure HoursRaised (n : Nat) (s t : State) : Prop where
  raises : Raises n s t
  raised : ∀ i < n, Raised t Ev.LINE_HOURS (4 * i)
  regs : t.regs = s.regs
  las : t.las = s.las
  mem : SameMem s t

theorem HoursRaised.next (h : HoursRaised n s t) (room : s.evt.queue.length + n < 1024) : HoursRaised (n + 1) s (hoursRecord t n) where
  raises := h.raises.trans (.ev ..)
  raised i hi := by
    rcases Nat.lt_succ_iff_lt_or_eq.mp hi with hlt | rfl
    · exact raised_ev (h.raised i hlt) ..
    · exact ev_raised (lt_of_le_of_lt h.raises room) ..
  regs := (ev_regs (lt_of_le_of_lt h.raises room) ..).trans h.regs
  las := (ev_las ..).trans h.las
  mem := h.mem.trans (ev_sameMem ..)

theorem hoursRaised (room : s.evt.queue.length < 900) (hn : n ≤ 36) : HoursRaised n s ((List.range n).foldl hoursRecord s) := by
  induction n with
  | zero => exact ⟨.of_evt_eq rfl, fun i hi => absurd hi (Nat.not_lt_zero i), rfl, rfl, .of_eq rfl rfl rfl⟩
  | succ n ih =>
    rw [List.range_succ, List.foldl_append]
    exact (ih (by omega)).next (by omega)

theorem lineHoursRecord_runs (room : s.evt.queue.length < 900) : Runs .lineHoursRecord s fun t =>
    (∀ i < 36, Raised t Ev.LINE_HOURS (4 * i)) ∧ t.regs = s.regs ∧ t.las = s.las ∧ SameMem s t := by
  obtain ⟨-, hraised, hregs, hlas, hmem⟩ := hoursRaised room le_rfl
  exact ⟨_, rfl, hraised, hregs, hlas, hmem⟩

/-! A line as it reads (R299, R312) -/

theorem regRow_lasLine (b : Fin 8) (n : Fin 18) :
    regRow (R.LAS_LINE b n) = some ⟨0x71000, [(8, 0x80), (18, 0x4)], .ro, 0x8000000, 0xFFFFFFFF, [], .none⟩ := by
  revert b n
  decide

theorem regValue_lasLine (p : Path) (b : Fin 8) (n : Fin 18) (s : State) : regValue p (R.LAS_LINE b n) s = lineWord s b n := by
  have hb := b.isLt
  have hn := n.isLt
  have hbank : (R.LAS_LINE b n - R.LAS_LINE 0 0) / 128 = b := by simp only [R.LAS_LINE]; omega
  have hline : (R.LAS_LINE b n - R.LAS_LINE 0 0) % 128 / 4 = n := by simp only [R.LAS_LINE]; omega
  unfold regValue
  rw [hbank, hline, if_pos, if_neg, if_neg, if_neg, if_neg, if_neg, if_neg, if_pos]
  all_goals grind

theorem regRead_lasLine (p : Path) (b : Fin 8) (n : Fin 18) (s : State) : regRead p (R.LAS_LINE b n) s = (lineWord s b n, s) := by
  have hon : s.blockOn (R.LAS_LINE b n) = true := by
    have hb := b.isLt
    have hn := n.isLt
    unfold State.blockOn blockDom
    rw [if_neg, if_neg, if_neg, if_neg, if_neg, if_neg, if_neg]
    all_goals simp only [R.LAS_LINE]; omega
  simp [regRead, regRow_lasLine, hon, regValue_lasLine]

theorem lineWord_current (s : State) (b n : Nat) : fieldOf (lineWord s b n) 15 0 = lineCurrent s b n (s.line b n) % 65536 := fieldOf_fieldSet ..

theorem lineWord_upper (s : State) (b n : Nat) : fieldOf (lineWord s b n) 31 16 = s.fd (R.LAS_LINE b n) 31 16 :=
  fieldOf_fieldSet_of_disjoint _ _ (by decide) (by decide) (by decide)

theorem lineCurrent_lit {b n : Nat} (h : s.bit R.LAS_STATUS b = false) : lineCurrent s b n 2
    = min (s.fd R.LAS_LINE_MAX 15 0) ((s.lp (2 * b) 0).dac * 800 * s.fd (R.LAS_LINE b n) 27 16 / (65536 * 2048)) := by
  simp [lineCurrent, h]

theorem lasLineRead_runs (b : Fin 8) (n : Fin 18) (hreach : Reaches .smbus s) : Runs (.rcRead .smbus (R.LAS_LINE b n)) s fun t =>
    ∃ w, t.out = s.out ++ [.read .smbus [w32 w]] ∧ fieldOf w 31 16 = s.fd (R.LAS_LINE b n) 31 16
      ∧ (s.line b n = 2 → s.bit R.LAS_STATUS b = false →
        fieldOf w 15 0 = min (s.fd R.LAS_LINE_MAX 15 0) ((s.lp (2 * b) 0).dac * 800 * s.fd (R.LAS_LINE b n) 27 16 / (65536 * 2048)) % 65536)
      ∧ (s.line b n = 0 ∨ s.line b n = 3 → fieldOf w 15 0 = 0) ∧ t.regs = s.regs ∧ SameMem s t := by
  have hexec := exec_rcRead hreach (R.LAS_LINE b n)
  rw [regRead_lasLine] at hexec
  refine ⟨_, hexec, lineWord s b n, rfl, lineWord_upper .., fun hlit hfull => ?_, fun hoff => ?_,
    rfl, .of_eq rfl rfl rfl⟩
  · rw [lineWord_current, hlit, lineCurrent_lit hfull]
  · rw [lineWord_current, lineCurrent, if_pos hoff]

/-- Settles O32: what LAS_CTL leaves of each bank, the three ends of a probe, the lines' hours and a line's current. The lane a probe lights,
`probeLane`, is the model's choice (log 132): R310 names none. -/
theorem laserBanksForceRestoreAndRecord : Obligations.LaserBanksForceRestoreAndRecord :=
  ⟨fun _ _ v hreach hp room => lasCtlWrite_denied hreach v hp room,
    fun _ _ v hreach hp room hshown => lasCtlWrite_runs hreach v hp room hshown,
    fun _ p hshut hinput htag room => shutPortProbe_lit p ⟨hshut, hinput, htag⟩ room,
    fun _ p hshut hinput htag => shutPortProbe_dark p ⟨hshut, hinput, htag⟩,
    fun _ p light => shutPortProbe_idle p light, fun _ => lineHoursRecord_runs, fun _ b n => lasLineRead_runs b n⟩

end Sys2Proof.Machine
end

section
/-! A TEC's gates and their interlock (11 R290–R295, R298): one period, and a request. -/

namespace Sys2Proof.Machine

variable {s t u : State} {k d tick g : Nat}

/-! The gates of a drive -/

theorem tk_uTk_same (s : State) (k : Nat) (f : TecSt → TecSt) : (s.uTk k f).tk k = f (s.tk k) := (getD_setAt ..).trans (if_pos rfl)

/-- A drive with its gates at g, each that went off at its tick. -/
def gated (t : TecSt) (g tick : Nat) : TecSt :=
  { t with gates := g, off := (List.range 4).map fun b => if bitOf t.gates b && !bitOf g b then some tick else t.off.getD b none }

/-- The four gates as the package puts them out. -/
def gatesOut (k g : Nat) : Out := .gates k (bitOf g 0) (bitOf g 1) (bitOf g 2) (bitOf g 3)

theorem driveGates_eq (k g tick : Nat) (s : State) : driveGates k g tick s = (s.uTk k fun t => gated t g tick).emit (gatesOut k g) := rfl

theorem driveGates_tk (k g tick : Nat) (s : State) : (driveGates k g tick s).tk k = gated (s.tk k) g tick := by
  rw [driveGates_eq]
  exact tk_uTk_same s k fun t => gated t g tick

theorem driveGates_out (k g tick : Nat) (s : State) : (driveGates k g tick s).out = s.out ++ [gatesOut k g] := rfl

theorem tecState_of_regs_eq (h : t.regs = s.regs) (k : Nat) : tecState t k = tecState s k := fd_of_rd_eq (rd_of_regs_eq h _) _ _

theorem deadTime_of_rd_eq (h : t.rd (R.TEC_CFG k) = s.rd (R.TEC_CFG k)) : deadTime t k = deadTime s k := by
  rw [deadTime, fd_of_rd_eq h, deadTime]

/-! One PWM period (R290–R292) -/

/-- The interlock lets each request of a period through. -/
def EdgesPass (d tick : Nat) : TecSt → List (Nat × Nat) → Prop
  | _, [] => True
  | t, x :: xs => violation t d x.1 (tick + x.2) = none ∧ EdgesPass d tick (gated t x.1 (tick + x.2)) xs

/-- A drive after the requests of a period. -/
def gatedAll (tick : Nat) (t : TecSt) (xs : List (Nat × Nat)) : TecSt := xs.foldl (fun t x => gated t x.1 (tick + x.2)) t

theorem pwmEdge_passes {x : Nat × Nat} (hrun : tecState s k ≠ 3) (h : violation (s.tk k) (deadTime s k) x.1 (s.ticks + x.2) = none) :
    pwmEdge k s x = driveGates k x.1 (s.ticks + x.2) s := by
  rw [pwmEdge, if_neg hrun, gateRequest, h]

theorem foldl_pwmEdge {xs : List (Nat × Nat)} (hrun : tecState s k ≠ 3) (h : EdgesPass (deadTime s k) s.ticks (s.tk k) xs) :
    GatesOnly s (xs.foldl (pwmEdge k) s) ∧ (xs.foldl (pwmEdge k) s).tk k = gatedAll s.ticks (s.tk k) xs
      ∧ (xs.foldl (pwmEdge k) s).out = s.out ++ xs.map fun x => gatesOut k x.1 := by
  induction xs generalizing s with
  | nil => exact ⟨.refl s, rfl, (List.append_nil _).symm⟩
  | cons x xs ih =>
    obtain ⟨hpass, hrest⟩ := h
    have hdriven := driveGates_gatesOnly k x.1 (s.ticks + x.2) s
    have htk := driveGates_tk k x.1 (s.ticks + x.2) s
    rw [List.foldl_cons, pwmEdge_passes hrun hpass]
    obtain ⟨honly, hgates, hout⟩ := ih (s := driveGates k x.1 (s.ticks + x.2) s) (by rwa [tecState_of_regs_eq hdriven.regs])
      (by rw [deadTime_of_rd_eq (rd_of_regs_eq hdriven.regs _), htk]; exact hrest)
    refine ⟨hdriven.trans honly, by rw [hgates, htk]; rfl, ?_⟩
    rw [hout, driveGates_out, List.append_assoc]
    rfl

/-- No leg of a drive violates the interlock: neither has both gates requested, nor one that comes on too soon after its partner. -/
theorem violation_eq_none {t : TecSt} : violation t d g tick = none ↔
    (bitOf g 0 && bitOf g 1) = false ∧ tooSoon t d g tick 0 1 = false ∧ tooSoon t d g tick 1 0 = false
      ∧ (bitOf g 2 && bitOf g 3) = false ∧ tooSoon t d g tick 2 3 = false ∧ tooSoon t d g tick 3 2 = false := by
  simp only [violation, lowest, findIdxFrom]
  grind

theorem tooSoon_eq (t : TecSt) (d g tick b c : Nat) : tooSoon t d g tick b c
    = (bitOf g b && !bitOf t.gates b && (bitOf t.gates c || (t.off.getD c none).any fun o => decide (tick < o + d))) := by
  unfold tooSoon
  cases t.off.getD c none <;> rfl

/-- The requests of a period (R291): the switching leg, A for a positive duty, goes off, on at its high side and on at its low side. -/
theorem pwmEdges_eq (q : Int) (d on : Nat) : pwmEdges q d on = if q = 0 then [(10, 0)]
    else if 0 < q then (if on = 0 then [(8, 0), (10, 2 * d)] else [(8, 0), (9, d), (8, d + on), (10, 2 * d + on)])
    else if on = 0 then [(2, 0), (10, 2 * d)] else [(2, 0), (6, d), (2, d + on), (10, 2 * d + on)] := by
  unfold pwmEdges
  split_ifs with hq hpos hon hon <;> simp [*]

/-- From both low sides on, the requests of a period keep the order of R291 and the interlock's times. -/
theorem pwmEdges_pass {t : TecSt} (hgates : t.gates = 10) (hoff : ∀ g < 4, ∀ o, t.off.getD g none = some o → o ≤ tick) (q : Int)
    (d on : Nat) : EdgesPass d tick t (pwmEdges q d on) := by
  have hrested : ∀ b < 4, Option.any (fun o => decide (tick + 2 * d < o + d)) (t.off[b]?.getD none) = false := fun b hb => by
    cases ho : t.off[b]?.getD none with
    | none => rfl
    | some o =>
      have := hoff b hb o ho
      exact decide_eq_false (by omega)
  have hlate : tick + (d + on) + d ≤ tick + (2 * d + on) := by omega
  rw [pwmEdges_eq]
  split_ifs with hq hpos hon hon
  · simp [EdgesPass, violation_eq_none, tooSoon_eq, bitOf, hgates]
  · simp [EdgesPass, violation_eq_none, tooSoon_eq, gated, bitOf, hgates, List.range_succ, hrested]
  · simp [EdgesPass, violation_eq_none, tooSoon_eq, gated, bitOf, hgates, List.range_succ, hlate]
  · simp [EdgesPass, violation_eq_none, tooSoon_eq, gated, bitOf, hgates, List.range_succ, hrested]
  · simp [EdgesPass, violation_eq_none, tooSoon_eq, gated, bitOf, hgates, List.range_succ, hlate]

/-- A period ends with both low sides on. -/
theorem gatedAll_pwmEdges (t : TecSt) (q : Int) (d on : Nat) : (gatedAll tick t (pwmEdges q d on)).gates = 10 := by
  rw [pwmEdges_eq]
  split_ifs <;> rfl

/-- A sample of the current changes a drive's counters, not its gates, and no register but TEC_ISNS. -/
theorem currentSample_cases (k : Nat) (ma : Int) (mag : Nat) (s : State) : ∃ x : TecSt, x.gates = (s.tk k).gates
    ∧ (currentSample k ma mag s = s.uTk k (fun _ => x) ∨ ∃ v, currentSample k ma mag s = (s.uTk k fun _ => x).wr (R.TEC_ISNS k) v) := by
  unfold currentSample
  extract_lets t0 lim s1
  split
  · exact ⟨_, by rfl, .inr ⟨_, rfl⟩⟩
  · exact ⟨_, by rfl, .inl rfl⟩

theorem currentSample_leaves (k : Nat) (ma : Int) (mag : Nat) (s : State) : ((currentSample k ma mag s).tk k).gates = (s.tk k).gates
    ∧ (currentSample k ma mag s).out = s.out ∧ (currentSample k ma mag s).evt = s.evt
    ∧ RegsKept [R.TEC_ISNS k] s (currentSample k ma mag s) ∧ SameMem s (currentSample k ma mag s) := by
  obtain ⟨x, hgates, hsampled⟩ := currentSample_cases k ma mag s
  have htk : ((s.uTk k fun _ => x).tk k).gates = (s.tk k).gates := by rw [tk_uTk_same, hgates]
  have hkept : RegsKept [R.TEC_ISNS k] s (s.uTk k fun _ => x) := .of_regs_eq _ rfl
  rcases hsampled with hsampled | ⟨v, hsampled⟩
  · rw [hsampled]
    exact ⟨htk, rfl, rfl, hkept, .of_eq rfl rfl rfl⟩
  · rw [hsampled]
    exact ⟨htk, rfl, rfl, hkept.wr List.mem_cons_self v, .of_eq rfl rfl rfl⟩

/-- The duty of a period, clamped, with its sign. -/
def clampedDuty (s : State) (k : Nat) : Int :=
  if tecQ s k < 0 then -((min (tecQ s k).natAbs (dutyMax s k) : Nat) : Int) else (min (tecQ s k).natAbs (dutyMax s k) : Nat)

/-- TEC_DUTY shows a period's on-time and the signed duty of the loop's code. -/
def dutyShown (k : Nat) (s : State) : State :=
  s.wr (R.TEC_DUTY k) (65536 * onTicks s k (min (tecQ s k).natAbs (dutyMax s k)) + wrapN 16 (tecCode s k))

theorem exec_pwmPeriod (k : Fin 4) (ma : BitVec 16) (hon : s.domUp 0xA6 = true) (hrun : tecState s k = 1 ∨ tecState s k = 2) :
    exec (.pwmPeriod k ma) s = .next (currentSample k (sgn 16 ma.toNat) (tecCode s k).natAbs
      ((pwmEdges (clampedDuty s k) (deadTime (dutyShown k s) k) (onTicks s k (min (tecQ s k).natAbs (dutyMax s k)))).foldl (pwmEdge k)
        (dutyShown k s))) := by
  show execPwmPeriod k ma s = _
  unfold execPwmPeriod
  rw [hon]
  exact if_pos hrun

/-- The gates as a period of a duty q, clamped to a magnitude, puts them out in the order of R291. -/
def pwmOut (k mag : Nat) (q : Int) (on : Nat) : List Out :=
  if mag = 0 then [Out.gates k false true false true]
  else if 0 < q then [Out.gates k false false false true]
    ++ (if on = 0 then [] else [Out.gates k true false false true, Out.gates k false false false true]) ++ [Out.gates k false true false true]
  else [Out.gates k false true false false]
    ++ (if on = 0 then [] else [Out.gates k false true true false, Out.gates k false true false false]) ++ [Out.gates k false true false true]

/-- The requests of a clamped duty as they leave. -/
theorem pwmEdges_out (s : State) (k d on : Nat) : (pwmEdges (clampedDuty s k) d on).map (fun x => gatesOut k x.1)
    = pwmOut k (min (tecQ s k).natAbs (dutyMax s k)) (tecQ s k) on := by
  have hzero : clampedDuty s k = 0 ↔ min (tecQ s k).natAbs (dutyMax s k) = 0 := by
    unfold clampedDuty
    split_ifs <;> omega
  have hpos : min (tecQ s k).natAbs (dutyMax s k) ≠ 0 → (0 < clampedDuty s k ↔ 0 < tecQ s k) := fun hmag => by
    unfold clampedDuty
    split_ifs <;> omega
  rw [pwmEdges_eq, pwmOut]
  by_cases hmag : min (tecQ s k).natAbs (dutyMax s k) = 0
  · rw [if_pos hmag, if_pos (hzero.mpr hmag)]
    rfl
  · rw [if_neg hmag, if_neg (mt hzero.mp hmag)]
    simp only [hpos hmag]
    split_ifs <;> simp [gatesOut, bitOf]

theorem onTicks_le (s : State) (k mag : Nat) : onTicks s k mag ≤ 4000 := by
  unfold onTicks
  omega

theorem rd_dutyShown (s : State) (k : Nat) : (dutyShown k s).rd (R.TEC_DUTY k)
    = 65536 * onTicks s k (min (tecQ s k).natAbs (dutyMax s k)) + wrapN 16 (tecCode s k) := by
  have hon := onTicks_le s k (min (tecQ s k).natAbs (dutyMax s k))
  have hcode := wrapN_lt 16 (tecCode s k)
  rw [dutyShown, rd_wr, if_pos rfl, Nat.mod_eq_of_lt (by omega)]

/-- A period of a running drive (R288–R292): TEC_DUTY shows it, its gates switch in order, and only the sample's mean may follow. -/
theorem pwmPeriod_runs (k : Fin 4) (ma : BitVec 16) (hon : s.domUp 0xA6 = true) (hrun : tecState s k = 1 ∨ tecState s k = 2)
    (hgates : (s.tk k).gates = 10) (hoff : ∀ g < 4, ∀ o, (s.tk k).off.getD g none = some o → o ≤ s.ticks) :
    let mag := min (tecQ s k).natAbs (dutyMax s k)
    let t := min (mag * 4000 / 32768) (4000 - 2 * deadTime s k - 160)
    Runs (.pwmPeriod k ma) s fun u =>
      u.rd (R.TEC_DUTY k) = 65536 * t + wrapN 16 (tecCode s k) ∧ (u.tk k).gates = 10
        ∧ u.out = s.out ++ pwmOut k mag (tecQ s k) t
        ∧ u.evt = s.evt ∧ RegsKept [R.TEC_DUTY k, R.TEC_ISNS k] s u ∧ SameMem s u := by
  intro mag t
  have hexec := exec_pwmPeriod k ma hon hrun
  have hshown : RegsKept [R.TEC_DUTY k, R.TEC_ISNS k] s (dutyShown k s) := (RegsKept.of_regs_eq _ rfl).wr List.mem_cons_self _
  have hstate : tecState (dutyShown k s) k ≠ 3 := by
    have hsame : tecState (dutyShown k s) k = tecState s k := fd_of_rd_eq (rd_wr_ne (by grind)) _ _
    omega
  obtain ⟨honly, htk, hout⟩ := foldl_pwmEdge (s := dutyShown k s) hstate
    (pwmEdges_pass (t := s.tk k) hgates hoff (clampedDuty s k) (deadTime (dutyShown k s) k) (onTicks s k mag))
  generalize List.foldl _ _ _ = w at honly htk hout hexec
  have hmem : SameMem s w := by
    rw [honly]
    exact .of_eq rfl rfl rfl
  obtain ⟨hsgates, hsout, hsevt, hsregs, hsmem⟩ := currentSample_leaves k (sgn 16 ma.toNat) (tecCode s k).natAbs w
  refine ⟨_, hexec, ?_, ?_, ?_, ?_, (hshown.keep honly.regs).trans (hsregs.mono (by simp)), hmem.trans hsmem⟩
  · rw [hsregs _ (by grind), rd_of_regs_eq honly.regs, rd_dutyShown]
    rfl
  · rw [hsgates, htk]
    exact gatedAll_pwmEdges ..
  · rw [hsout, hout, pwmEdges_out]
    rfl
  · rw [hsevt, honly]
    rfl

end Sys2Proof.Machine
end

section
/-! A TEC's faults (11 R295–R298): what stops a drive, the board-test force, and the clearing that starts it again. -/

namespace Sys2Proof.Machine

variable {s t u : State} {k bit code : Nat} {args : List Nat} {p : Path}

/-! TEC_STATE (R311) -/

/-- TEC_STATE shows a TEC's state and whether it has settled. -/
def tecShown (k state settled : Nat) (s : State) : State :=
  (s.fw R.TEC_STATE (4 * k + 1) (4 * k) state).fw R.TEC_STATE (4 * k + 3) (4 * k + 3) settled

theorem fd_tecState_fw (hk : k < 4) {state : Nat} (hstate : state < 4) (s : State) :
    (s.fw R.TEC_STATE (4 * k + 1) (4 * k) state).fd R.TEC_STATE (4 * k + 1) (4 * k) = state := by
  rw [fd_fw_same _ _ _ (by omega), show 4 * k + 1 + 1 - 4 * k = 2 by omega]
  omega

theorem tecState_shown (hk : k < 4) {state : Nat} (hstate : state < 4) (settled : Nat) (s : State) :
    tecState (tecShown k state settled s) k = state := by
  rw [tecState, tecShown, fd_fw_of_disjoint _ _ _ le_rfl (by omega) (by omega) (by omega), fd_tecState_fw hk hstate]

theorem settled_shown (hk : k < 4) (state settled : Nat) (s : State) :
    (tecShown k state settled s).bit R.TEC_STATE (4 * k + 3) = bitOf (settled % 2) 0 := by
  rw [tecShown, bit_fw le_rfl le_rfl (by omega), Nat.sub_self, Nat.add_sub_cancel_left, pow_one]

theorem Reports.tecShown {os : List Nat} {n : Nat} (h : Reports os n s t) (ho : R.TEC_STATE ∈ os) (k state settled : Nat) :
    Reports os n s (tecShown k state settled t) := (h.fw ho ..).fw ho ..

/-! Both banks of a TEC -/

/-- The TEC cause of safe power begins on both banks of a TEC. -/
def banksSafe (k : Nat) (s : State) : State := safeOn 2 (2 * k + 1) (safeOn 2 (2 * k) s)

theorem banksSafe_only (k : Nat) (s : State) : SafeOnly s (banksSafe k s) := (safeOn_only ..).trans (safeOn_only ..)

theorem banksSafe_reports (k : Nat) (s : State) : Reports [R.LAS_STATUS] 2 s (banksSafe k s) := (safeOn_reports ..).trans (safeOn_reports ..)

theorem banksSafe_status (hk : k < 4) (h : SafeShown s) :
    (banksSafe k s).bit R.LAS_STATUS (2 * k) = true ∧ (banksSafe k s).bit R.LAS_STATUS (2 * k + 1) = true := by
  have hshown : SafeShown (banksSafe k s) := (h.safeOn (by omega) 2).safeOn (by omega) 2
  rw [hshown.bit (by omega), hshown.bit (by omega)]
  refine ⟨decide_eq_true ?_, decide_eq_true ?_⟩
  · rw [banksSafe, safeOn_safe, if_neg (by omega), safeOn_safe, if_pos rfl]
    exact causeBegun_ne_zero _ _
  · rw [banksSafe, safeOn_safe, if_pos rfl]
    exact causeBegun_ne_zero _ _

theorem lasersOn_idle (h : s.top ≠ 3 ∨ s.boot.photo ≠ 0) : lasersOn s = s :=
  if_neg fun ⟨htop, hphoto, _⟩ => h.elim (fun hne => hne htop) fun hne => hne hphoto

/-! A fault stops a drive (R295) -/

theorem RegsOnly.tec (h : RegsOnly s t) : t.tec = s.tec := by rw [h]

theorem RegsOnly.las (h : RegsOnly s t) : t.las = s.las := by rw [h]

theorem RegsOnly.out (h : RegsOnly s t) : t.out = s.out := by rw [h]

/-- A fault drives a TEC's gates low and latches its bit. -/
def faultLatched (k bit : Nat) (s : State) : State := (driveGates k 0 s.ticks s).fw R.TEC_FAULT (4 * k + bit) (4 * k + bit) 1

/-- A fault stops a drive: with its event raised, STATE shows FAULT and the duty is zero. -/
def driveStopped (k bit code : Nat) (args : List Nat) (s : State) : State :=
  (tecShown k 3 0 ((faultLatched k bit s).ev code k args)).fw (R.TEC_DUTY k) 27 16 0

theorem tecFault_eq (k bit code : Nat) (args : List Nat) (s : State) :
    tecFault k bit code args s = lasersOn (banksSafe k (driveStopped k bit code args s)) := rfl

theorem faultLatched_only (k bit : Nat) (s : State) : RegsOnly (driveGates k 0 s.ticks s) (faultLatched k bit s) := (RegsOnly.refl _).fw ..

theorem driveStopped_only : RegsOnly ((faultLatched k bit s).ev code k args) (driveStopped k bit code args s) :=
  (((RegsOnly.refl _).fw ..).fw ..).fw ..

theorem driveStopped_reports (k bit code : Nat) (args : List Nat) (s : State) :
    Reports [R.TEC_FAULT, R.TEC_STATE, R.TEC_DUTY k] 1 s (driveStopped k bit code args s) := by
  have hlow : Reports [R.TEC_FAULT, R.TEC_STATE, R.TEC_DUTY k] 0 s (driveGates k 0 s.ticks s) := .of_eq rfl rfl (.of_eq rfl rfl rfl)
  have hlatched : Reports [R.TEC_FAULT, R.TEC_STATE, R.TEC_DUTY k] 0 s (faultLatched k bit s) := hlow.fw (by simp) ..
  exact ((hlatched.ev ..).tecShown (by simp) ..).fw (by simp) ..

theorem driveStopped_fault (hk : k < 4) (hbit : bit < 4) : (driveStopped k bit code args s).bit R.TEC_FAULT (4 * k + bit) = true := by
  rw [driveStopped, bit_fw_ne (by grind), tecShown, bit_fw_ne (by decide), bit_fw_ne (by decide), bit_ev_ne (by decide), faultLatched,
    bit_fw le_rfl le_rfl (by omega), Nat.sub_self, Nat.add_sub_cancel_left]
  rfl

theorem driveStopped_state (hk : k < 4) : tecState (driveStopped k bit code args s) k = 3 := by
  rw [tecState, driveStopped, fd_fw_ne (by grind)]
  exact tecState_shown hk (by decide) 0 _

theorem driveStopped_raised (room : RoomFor s) : Raised (driveStopped k bit code args s) code k :=
  raised_of_evt_eq driveStopped_only.evt (ev_raised (roomFor_of_evt_eq (faultLatched_only k bit s).evt room) ..)

theorem driveStopped_tk : (driveStopped k bit code args s).tk k = gated (s.tk k) 0 s.ticks := by
  rw [State.tk, driveStopped_only.tec, ev_tec, (faultLatched_only k bit s).tec, ← State.tk, driveGates_tk]

theorem driveStopped_out : (driveStopped k bit code args s).out = s.out ++ [gatesOut k 0] := by
  rw [driveStopped_only.out, ev_out, (faultLatched_only k bit s).out, driveGates_out]

theorem driveStopped_las : (driveStopped k bit code args s).las = s.las := by
  rw [driveStopped_only.las, ev_las, (faultLatched_only k bit s).las]
  rfl

theorem driveStopped_boot : (driveStopped k bit code args s).boot = s.boot := by
  rw [driveStopped_only.boot, ev_boot, (faultLatched_only k bit s).boot]
  rfl

/-- The banks' status stands where neither their causes nor LAS_STATUS change. -/
theorem SafeShown.of_eq (h : SafeShown s) (hlas : t.las = s.las) (hrd : t.rd R.LAS_STATUS = s.rd R.LAS_STATUS) : SafeShown t := fun b hb => by
  rw [hlas, bit_of_rd_eq hrd]
  exact h b hb

/-- A fault leaves its bit latched, its TEC in FAULT with every gate low, and its event raised. -/
theorem tecFault_leaves (hk : k < 4) (hbit : bit < 4) (room : RoomFor s) (code : Nat) (args : List Nat) :
    (tecFault k bit code args s).bit R.TEC_FAULT (4 * k + bit) = true ∧ tecState (tecFault k bit code args s) k = 3
      ∧ ((tecFault k bit code args s).tk k).gates = 0 ∧ Raised (tecFault k bit code args s) code k
      ∧ Out.gates k false false false false ∈ (tecFault k bit code args s).out ∧ SameMem s (tecFault k bit code args s) := by
  rw [tecFault_eq]
  have hsafe := banksSafe_reports k (driveStopped k bit code args s)
  have honly := banksSafe_only k (driveStopped k bit code args s)
  have hkept := (DrivesKept.refl (banksSafe k (driveStopped k bit code args s))).lasersOn
  have hrd : ∀ o, 0x60000 ≤ o → o < 0x70000 → (lasersOn (banksSafe k (driveStopped k bit code args s))).rd o
      = (driveStopped k bit code args s).rd o := fun o hlo hhi => (hkept.rd o hlo (by omega)).trans (hsafe.always o (by grind))
  refine ⟨?_, ?_, ?_, hkept.raised _ _ (hsafe.raised _ _ (driveStopped_raised room)), hkept.out _ ?_,
    (driveStopped_reports ..).mem.trans (hsafe.mem.trans hkept.mem)⟩
  · rw [bit_of_rd_eq (hrd _ (by decide) (by decide)), driveStopped_fault hk hbit]
  · rw [tecState, fd_of_rd_eq (hrd _ (by decide) (by decide))]
    exact driveStopped_state hk
  · rw [hkept.tk, honly.tk, driveStopped_tk]
    rfl
  · rw [honly.out, driveStopped_out]
    exact List.mem_append_right _ List.mem_cons_self

/-- A fault derates both banks, and but for the registers of the fault nothing else shows it, unless bring-up waited for its TEC. -/
theorem tecFault_derates (hk : k < 4) (hshown : SafeShown s) (hidle : s.top ≠ 3 ∨ s.boot.photo ≠ 0) (room : s.evt.queue.length < 1000) :
    (tecFault k bit code args s).bit R.LAS_STATUS (2 * k) = true ∧ (tecFault k bit code args s).bit R.LAS_STATUS (2 * k + 1) = true
      ∧ RegsKept [R.TEC_FAULT, R.TEC_STATE, R.TEC_DUTY k, R.LAS_STATUS] s (tecFault k bit code args s) := by
  have hstopped := driveStopped_reports k bit code args s
  have hreports : Reports [R.TEC_FAULT, R.TEC_STATE, R.TEC_DUTY k, R.LAS_STATUS] 3 s (banksSafe k (driveStopped k bit code args s)) :=
    (hstopped.mono (by simp)).trans ((banksSafe_reports ..).mono (by simp))
  have htop : (banksSafe k (driveStopped k bit code args s)).top = s.top := fd_of_rd_eq (hreports.always _ (by grind)) _ _
  have hboot : (banksSafe k (driveStopped k bit code args s)).boot = s.boot := (banksSafe_only ..).boot.trans driveStopped_boot
  obtain ⟨hlow, hhigh⟩ := banksSafe_status hk (hshown.of_eq (t := driveStopped k bit code args s) driveStopped_las
    (hstopped.always _ (by grind)))
  rw [tecFault_eq, lasersOn_idle (by rwa [htop, hboot])]
  exact ⟨hlow, hhigh, hreports.regs (by omega)⟩

/-- A TEC with a fault bit holds its loop (R296). -/
theorem supHeld_of_fault (hbit : bit < 3) (h : s.bit R.TEC_FAULT (4 * k + bit) = true) : supHeld s (4 * k) 137 = true := by
  have hne : s.fd R.TEC_FAULT (4 * k + 2) (4 * k) ≠ 0 := fun hzero => by
    rw [bit_of_fd s R.TEC_FAULT (hi := 4 * k + 2) (lo := 4 * k) (by omega) (by omega), hzero] at h
    simp [bitOf] at h
  simp [supHeld, hne]

theorem tecOvercurrent_eq (k : Fin 4) (hclear : s.bit R.TEC_FAULT (4 * k + 1) = false) (h : 4 ≤ (s.tk k).ocRun ∨ 3900 < (s.tk k).last.natAbs) :
    exec (.tecOvercurrent k) s = .next (tecFault k 1 Ev.TEC_OVERCURRENT [] s) := if_neg (by simp only [hclear]; grind)

theorem tecOpen_eq (k : Fin 4) (hclear : s.bit R.TEC_FAULT (4 * k + 2) = false) (h : 1000 ≤ (s.tk k).openRun) :
    exec (.tecOpen k) s = .next (tecFault k 2 Ev.TEC_OPEN [] s) := if_neg (by simp only [hclear]; grind)

/-- An overcurrent or an open element stops a drive (R298). -/
theorem currentFault_runs (k : Fin 4) (c : Instr) (b e : Nat)
    (hc : (c = .tecOvercurrent k ∧ b = 1 ∧ e = Ev.TEC_OVERCURRENT ∧ (4 ≤ (s.tk k).ocRun ∨ 3900 < (s.tk k).last.natAbs))
      ∨ (c = .tecOpen k ∧ b = 2 ∧ e = Ev.TEC_OPEN ∧ 1000 ≤ (s.tk k).openRun)) (hclear : s.bit R.TEC_FAULT (4 * k + b) = false)
    (room : s.evt.queue.length < 1000) (hshown : SafeShown s) (hidle : s.top ≠ 3 ∨ s.boot.photo ≠ 0) : Runs c s fun t =>
      t.bit R.TEC_FAULT (4 * k + b) = true ∧ tecState t k = 3 ∧ Raised t e k ∧ (t.tk k).gates = 0
        ∧ Out.gates k false false false false ∈ t.out ∧ t.bit R.LAS_STATUS (2 * k) = true ∧ t.bit R.LAS_STATUS (2 * k + 1) = true
        ∧ supHeld t (4 * k) 137 = true ∧ RegsKept [R.TEC_FAULT, R.TEC_STATE, R.TEC_DUTY k, R.LAS_STATUS] s t ∧ SameMem s t := by
  have hexec : b < 3 ∧ exec c s = .next (tecFault k b e [] s) := by
    rcases hc with ⟨rfl, rfl, rfl, hrun⟩ | ⟨rfl, rfl, rfl, hrun⟩
    · exact ⟨by decide, tecOvercurrent_eq k hclear hrun⟩
    · exact ⟨by decide, tecOpen_eq k hclear hrun⟩
  obtain ⟨hb, hexec⟩ := hexec
  obtain ⟨hbit, hstate, hgates, hraised, hout, hmem⟩ := tecFault_leaves k.isLt (bit := b) (by omega) (room.trans (by decide)) e []
  obtain ⟨hlow, hhigh, hregs⟩ := tecFault_derates (bit := b) (code := e) (args := []) k.isLt hshown hidle room
  exact ⟨_, hexec, hbit, hstate, hraised, hgates, hout, hlow, hhigh, supHeld_of_fault hb hbit, hregs, hmem⟩

/-! The board-test force (R295, R297) -/

/-- What TECk_FORCE keeps of a written value. -/
abbrev forceKept (v : Word) : Nat := Nat.land v.toNat 0x8000000F

theorem exec_teckForceWrite (hreach : Reaches p s) (k : Fin 4) (v : Word) : exec (.teckForceWrite p k v) s =
    if hostLike p then .next (s.deny Ev.TEC_DENIED (R.TEC_FORCE k) v.toNat p)
    else if !s.blockOn (R.TEC_FORCE k) ∨ (bitOf (forceKept v) 31 ∧ tecState s k ≠ 0) then .next s
    else if tecState (s.wr (R.TEC_FORCE k) (forceKept v)) k ≠ 0 then .next (s.wr (R.TEC_FORCE k) (forceKept v))
    else .next (gateRequest k (if bitOf (forceKept v) 31 then forceKept v % 16 else 0) s.ticks true (s.wr (R.TEC_FORCE k) (forceKept v))) :=
  through_reaches hreach _ _

theorem exec_tecFaultClear (hreach : Reaches p s) (v : Word) : exec (.tecFaultClear p v) s =
    if hostLike p then .next (s.deny Ev.TEC_DENIED R.TEC_FAULT v.toNat p)
    else if !s.blockOn R.TEC_FAULT then .next s
    else .next ((List.range 4).foldl (faultCleared s) (s.wr R.TEC_FAULT (s.rd R.TEC_FAULT - Nat.land (s.rd R.TEC_FAULT) v.toNat))) :=
  through_reaches hreach _ _

/-- A write of PCI Express is denied (R296, R297). -/
theorem tecWrite_denied (k : Fin 4) (v : Word) (c : Instr) (hreach : Reaches p s) (hp : hostLike p = true) (room : RoomFor s)
    (hc : c = .tecFaultClear p v ∨ c = .teckForceWrite p k v) : Runs c s fun t =>
      Raised t Ev.TEC_DENIED 0 ∧ t.tec = s.tec ∧ t.las = s.las ∧ t.out = s.out ∧ t.regs = s.regs ∧ SameMem s t := by
  rcases hc with rfl | rfl
  · exact ⟨_, (exec_tecFaultClear hreach v).trans (if_pos hp), deny_drives room ..⟩
  · exact ⟨_, (exec_teckForceWrite hreach k v).trans (if_pos hp), deny_drives room ..⟩

theorem forceKept_en (v : Word) : bitOf (forceKept v) 31 = bitOf v.toNat 31 := by
  rw [bitOf_eq_testBit, bitOf_eq_testBit, forceKept]
  exact (Nat.testBit_land ..).trans (Bool.and_true _)

theorem forceKept_gates (v : Word) : forceKept v % 16 = fieldOf v.toNat 3 0 := by
  have hlow : (v.toNat &&& 0x8000000F) % 2 ^ 4 = v.toNat % 2 ^ 4 &&& 2 ^ 4 - 1 := Nat.and_mod_two_pow
  rw [Nat.and_two_pow_sub_one_eq_mod, Nat.mod_mod] at hlow
  exact hlow

theorem forceKept_lt (v : Word) : forceKept v < 2 ^ 32 := lt_of_le_of_lt Nat.and_le_left v.isLt

/-- An enabled force on a drive that is OFF passes through the interlock. -/
theorem exec_teckForceWrite_off (hreach : Reaches p s) (k : Fin 4) (v : Word) (hp : hostLike p = false) (hon : s.blockOn (R.TEC_FORCE k) = true)
    (hoff : tecState s k = 0) (hen : bitOf v.toNat 31 = true) : exec (.teckForceWrite p k v) s =
      .next (gateRequest k (fieldOf v.toNat 3 0) s.ticks true (s.wr (R.TEC_FORCE k) (forceKept v))) := by
  have hstill : tecState (s.wr (R.TEC_FORCE k) (forceKept v)) k = 0 := (fd_of_rd_eq (rd_wr_ne (by grind)) _ _).trans hoff
  rw [exec_teckForceWrite hreach, if_neg (by simp [hp]), if_neg (by simp [hon, hoff]), if_neg (not_not_intro hstill),
    if_pos (by rw [forceKept_en, hen]), forceKept_gates]

/-- A request for both gates of a leg violates the interlock. -/
theorem violation_of_both {t : TecSt} {d g tick : Nat} (hg : g ∈ [3, 7, 11, 12, 13, 14, 15]) : ∃ leg, violation t d g tick = some leg := by
  refine Option.ne_none_iff_exists'.mp fun hnone => ?_
  obtain ⟨hA, -, -, hB, -, -⟩ := violation_eq_none.mp hnone
  fin_cases hg <;> simp [bitOf] at hA hB

theorem teckForce_shoots (k : Fin 4) (v : Word) (hreach : Reaches p s) (hp : hostLike p = false) (hon : s.blockOn (R.TEC_FORCE k) = true)
    (hoff : tecState s k = 0) (hen : bitOf v.toNat 31 = true) (hboth : fieldOf v.toNat 3 0 ∈ [3, 7, 11, 12, 13, 14, 15])
    (room : s.evt.queue.length < 1000) : Runs (.teckForceWrite p k v) s fun t =>
      t.bit R.TEC_FAULT (4 * k) = true ∧ tecState t k = 3 ∧ (t.tk k).gates = 0 ∧ Raised t Ev.TEC_SHOOT k ∧ SameMem s t := by
  have hexec := exec_teckForceWrite_off hreach k v hp hon hoff hen
  obtain ⟨leg, hleg⟩ := violation_of_both (t := (s.wr (R.TEC_FORCE k) (forceKept v)).tk k)
    (d := deadTime (s.wr (R.TEC_FORCE k) (forceKept v)) k) (tick := s.ticks) hboth
  rw [gateRequest, hleg] at hexec
  obtain ⟨hbit, hstate, hgates, hraised, -, hmem⟩ := tecFault_leaves (s := s.wr (R.TEC_FORCE k) (forceKept v)) k.isLt (bit := 0) (by decide)
    (room.trans (by decide)) Ev.TEC_SHOOT [leg, b2n true, fieldOf v.toNat 3 0]
  exact ⟨_, hexec, hbit, hstate, hgates, hraised, (wr_sameMem ..).trans hmem⟩

theorem teckForce_drives (k : Fin 4) (v : Word) (hreach : Reaches p s) (hp : hostLike p = false) (hon : s.blockOn (R.TEC_FORCE k) = true)
    (hoff : tecState s k = 0) (hen : bitOf v.toNat 31 = true) (hpass : violation (s.tk k) (deadTime s k) (fieldOf v.toNat 3 0) s.ticks = none) :
    Runs (.teckForceWrite p k v) s fun t =>
      (t.tk k).gates = fieldOf v.toNat 3 0 ∧ t.rd (R.TEC_FORCE k) = Nat.land v.toNat 0x8000000F ∧ t.evt = s.evt
        ∧ RegsKept [R.TEC_FORCE k] s t ∧ SameMem s t := by
  have hexec := exec_teckForceWrite_off hreach k v hp hon hoff hen
  have hdead : deadTime (s.wr (R.TEC_FORCE k) (forceKept v)) k = deadTime s k := deadTime_of_rd_eq (rd_wr_ne (by grind))
  have htk : (s.wr (R.TEC_FORCE k) (forceKept v)).tk k = s.tk k := rfl
  rw [gateRequest, hdead, htk, hpass] at hexec
  have hdriven := driveGates_gatesOnly k (fieldOf v.toNat 3 0) s.ticks (s.wr (R.TEC_FORCE k) (forceKept v))
  have hwritten : RegsKept [R.TEC_FORCE k] s (s.wr (R.TEC_FORCE k) (forceKept v)) := (RegsKept.of_regs_eq _ rfl).wr List.mem_cons_self _
  refine ⟨_, hexec, ?_, ?_, rfl, hwritten.keep hdriven.regs, .of_eq rfl rfl rfl⟩
  · rw [driveGates_tk]
    rfl
  · rw [rd_of_regs_eq hdriven.regs, rd_wr, if_pos rfl, Nat.mod_eq_of_lt (forceKept_lt v)]

theorem teckForce_idle (k : Fin 4) (v : Word) (hreach : Reaches p s) (hp : hostLike p = false) (hrun : tecState s k ≠ 0)
    (hen : bitOf v.toNat 31 = true) : exec (.teckForceWrite p k v) s = .next s := by
  rw [exec_teckForceWrite hreach, if_neg (by simp [hp]), if_pos (.inr ⟨by rw [forceKept_en, hen], hrun⟩)]

end Sys2Proof.Machine
end

section
/-! A TEC starts again (11 R296, R297, Table 11.4): the clearing of its last fault bit and its bring-up. -/

namespace Sys2Proof.Machine

variable {s t u : State} {k : Nat} {p : Path}

/-! Bits cleared by a write of ones (00 Table 0.3) -/

theorem testBit_sub_land (w v i : Nat) : (w - (w &&& v)).testBit i = (w.testBit i && !v.testBit i) := by
  induction i generalizing w v with
  | zero =>
    have hle : w &&& v ≤ w := Nat.and_le_left
    have hodd := Nat.and_mod_two_eq_one (a := w) (b := v)
    simp only [Nat.testBit_zero]
    grind
  | succ i ih =>
    have hle : w &&& v ≤ w := Nat.and_le_left
    have hodd := Nat.and_mod_two_eq_one (a := w) (b := v)
    have hhalf : (w - (w &&& v)) / 2 = w / 2 - (w / 2 &&& v / 2) := by
      rw [← Nat.and_div_two]
      omega
    rw [Nat.testBit_succ, Nat.testBit_succ, Nat.testBit_succ, hhalf, ih]

/-- A field cleared by a written word is its bits that the word leaves. -/
theorem fieldOf_sub_land (w v hi lo : Nat) :
    fieldOf (w - Nat.land w v) hi lo = fieldOf w hi lo - (fieldOf w hi lo &&& fieldOf v hi lo) := by
  apply Nat.eq_of_testBit_eq
  intro i
  rw [testBit_sub_land]
  simp only [fieldOf, Nat.testBit_mod_two_pow, Nat.testBit_shiftRight]
  rw [show w - Nat.land w v = w - (w &&& v) from rfl, testBit_sub_land]
  by_cases hi' : i < hi + 1 - lo <;> simp [hi']

/-! Bring-up begins (Table 11.4, R297) -/

/-- The force is off, its gates with it. -/
def forceEnded (k : Nat) (s : State) : State := if s.bit (R.TEC_FORCE k) 31 then driveGates k 0 s.ticks s else s

/-- A TEC in SOFTSTART, its force off. -/
def softStart (k : Nat) (s : State) : State := (tecShown k 1 0 (forceEnded k s)).fw (R.TEC_FORCE k) 31 31 0

/-- A drive's counters at the start of its bring-up. -/
def drivePrimed (tick : Nat) (t : TecSt) : TecSt := { t with start := tick, band := 0, ocRun := 0, openRun := 0, last := 0 }

/-- A TEC in SOFTSTART whose counters start now. -/
def driveStarted (k : Nat) (s : State) : State := (softStart k s).uTk k (drivePrimed (softStart k s).ticks)

/-- A TEC's loop at the start of its bring-up: RUN, at mid code. -/
def loopStarted (k : Nat) (s : State) : State :=
  (s.wr (coefOff (4 * k) 137 10) 0x80000000).wr (coefOff (4 * k) 137 0) (ctlMode s (4 * k) 137 1)

theorem tecBringup_eq (k : Nat) (s : State) : tecBringup k s = banksSafe k (loopStarted k (driveStarted k s)) := rfl

theorem forceEnded_gatesOnly (k : Nat) (s : State) : GatesOnly s (forceEnded k s) := by
  unfold forceEnded
  split_ifs
  · exact driveGates_gatesOnly ..
  · exact .refl s

theorem coefOff_ge (e l w : Nat) : 0x100000 ≤ coefOff e l w := by
  unfold coefOff
  split_ifs <;> omega

theorem rd_loopStarted_ne {o : Nat} (ho : o < 0x100000) : (loopStarted k s).rd o = s.rd o := by
  have hge := fun w => coefOff_ge (4 * k) 137 w
  rw [loopStarted, rd_wr_ne (by have := hge 0; omega), rd_wr_ne (by have := hge 10; omega)]

theorem loopStarted_word : (loopStarted k s).coef (4 * k) 137 10 = 0x80000000 := by
  rw [State.coef, loopStarted, rd_wr_ne (coefOff_ne (by decide)), rd_wr, if_pos rfl]
  rfl

theorem loopStarted_mode : fieldOf ((loopStarted k s).coef (4 * k) 137 0) 1 0 = 1 := by
  rw [State.coef, loopStarted, rd_wr, if_pos rfl, fieldOf_mod_word _ (by decide), ctlMode, fieldOf_fieldSet]
  rfl

theorem loopStarted_only (k : Nat) (s : State) : RegsOnly s (loopStarted k s) := ((RegsOnly.refl s).wr ..).wr ..

theorem softStart_only (k : Nat) (s : State) : RegsOnly (forceEnded k s) (softStart k s) := (((RegsOnly.refl _).fw ..).fw ..).fw ..

theorem rd_uTk (s : State) (k : Nat) (f : TecSt → TecSt) (o : Nat) : (s.uTk k f).rd o = s.rd o := rfl

theorem lp_uTk (s : State) (k : Nat) (f : TecSt → TecSt) (e l : Nat) : (s.uTk k f).lp e l = s.lp e l := rfl

theorem uTk_sameMem (s : State) (k : Nat) (f : TecSt → TecSt) : SameMem s (s.uTk k f) := .of_eq rfl rfl rfl

theorem RegsOnly.ticks (h : RegsOnly s t) : t.ticks = s.ticks := by rw [h]

theorem driveStarted_start (k : Nat) (s : State) : ((driveStarted k s).tk k).start = s.ticks := by
  have hticks : (forceEnded k s).ticks = s.ticks := by rw [forceEnded_gatesOnly k s]
  rw [driveStarted, tk_uTk_same, ← hticks]
  exact (softStart_only k s).ticks

theorem driveStarted_lp (k : Nat) (s : State) (e l : Nat) : (driveStarted k s).lp e l = s.lp e l := by
  have hsty : (softStart k s).sty = s.sty := by rw [(softStart_only k s).sty, forceEnded_gatesOnly k s]
  rw [driveStarted, lp_uTk, State.lp, hsty, ← State.lp]

theorem driveStarted_sameMem (k : Nat) (s : State) : SameMem s (driveStarted k s) := by
  have hended : SameMem s (forceEnded k s) := by
    rw [forceEnded_gatesOnly k s]
    exact .of_eq rfl rfl rfl
  exact hended.trans ((softStart_only k s).sameMem.trans (uTk_sameMem ..))

/-- What the begin of a TEC's bring-up leaves. -/
structure BringupBegun (k : Nat) (s t : State) : Prop where
  state : tecState t k = 1
  start : (t.tk k).start = s.ticks
  word : t.coef (4 * k) 137 10 = 0x80000000
  mode : fieldOf (t.coef (4 * k) 137 0) 1 0 = 1
  force : t.bit (R.TEC_FORCE k) 31 = false
  fault : t.rd R.TEC_FAULT = s.rd R.TEC_FAULT
  lp : t.lp (4 * k) 137 = s.lp (4 * k) 137
  mem : SameMem s t

theorem tecBringup_begun (hk : k < 4) (s : State) : BringupBegun k s (tecBringup k s) := by
  rw [tecBringup_eq]
  have hloop := loopStarted_only k (driveStarted k s)
  have honly := banksSafe_only k (loopStarted k (driveStarted k s))
  have hreports := banksSafe_reports k (loopStarted k (driveStarted k s))
  have hrd : ∀ o, o < 0x70000 → (banksSafe k (loopStarted k (driveStarted k s))).rd o = (softStart k s).rd o := fun o ho => by
    rw [hreports.always o (by grind), rd_loopStarted_ne (by omega), driveStarted, rd_uTk]
  have hcoef : ∀ w < 64, (banksSafe k (loopStarted k (driveStarted k s))).coef (4 * k) 137 w
      = (loopStarted k (driveStarted k s)).coef (4 * k) 137 w := fun w hw =>
    hreports.always _ (by obtain ⟨b, hlo, hhi, hoff⟩ := coefOff_parts (4 * k) (l := 137) (by decide); grind)
  constructor
  case state =>
    rw [tecState, fd_of_rd_eq (hrd _ (by decide)), softStart, fd_fw_ne (by grind)]
    exact tecState_shown hk (by decide) 0 _
  case start =>
    rw [honly.tk, State.tk, hloop.tec, ← State.tk]
    exact driveStarted_start k s
  case word => rw [hcoef 10 (by decide), loopStarted_word]
  case mode => rw [hcoef 0 (by decide), loopStarted_mode]
  case force =>
    rw [bit_of_rd_eq (hrd _ (by grind)), softStart, bit_fw le_rfl le_rfl (by decide)]
    rfl
  case fault =>
    rw [hrd _ (by decide), softStart, rd_fw_ne _ _ _ _ (by grind), tecShown, rd_fw_ne _ _ _ _ (by decide), rd_fw_ne _ _ _ _ (by decide)]
    exact rd_of_regs_eq (forceEnded_gatesOnly k s).regs _
  case lp =>
    rw [honly.lp, State.lp, hloop.sty, ← State.lp]
    exact driveStarted_lp k s ..
  case mem => exact (driveStarted_sameMem k s).trans (hloop.sameMem.trans hreports.mem)

/-! The clearing of a TEC's last fault bit (R296) -/

/-- TEC_FAULT once a written word has cleared its bits. -/
abbrev faultsLeft (s : State) (v : Word) : Nat := s.rd R.TEC_FAULT - Nat.land (s.rd R.TEC_FAULT) v.toNat

theorem rd_faultsLeft (s : State) (v : Word) : (s.wr R.TEC_FAULT (faultsLeft s v)).rd R.TEC_FAULT = faultsLeft s v := by
  rw [rd_wr, if_pos rfl]
  exact Nat.mod_eq_of_lt (lt_of_le_of_lt (Nat.sub_le ..) (rd_lt ..))

theorem faultCleared_other {before : State} {j : Nat}
    (h : s.fd R.TEC_FAULT (4 * j + 2) (4 * j) = before.fd R.TEC_FAULT (4 * j + 2) (4 * j)) : faultCleared before s j = s :=
  if_neg fun ⟨hfault, hclear⟩ => hfault (h ▸ hclear)

/-- Where a write clears the last bits of one TEC alone, it alone begins its bring-up. -/
theorem foldl_faultCleared {v : Word} (hk : k < 4) (hfault : s.fd R.TEC_FAULT (4 * k + 2) (4 * k) ≠ 0)
    (hclear : fieldOf (faultsLeft s v) (4 * k + 2) (4 * k) = 0)
    (hothers : ∀ j < 4, j ≠ k → fieldOf (faultsLeft s v) (4 * j + 2) (4 * j) = s.fd R.TEC_FAULT (4 * j + 2) (4 * j)) :
    (List.range 4).foldl (faultCleared s) (s.wr R.TEC_FAULT (faultsLeft s v))
      = tecBringup k (supRelease (4 * k) 137 (s.wr R.TEC_FAULT (faultsLeft s v))) := by
  have hleft := rd_faultsLeft s v
  have hown : faultCleared s (s.wr R.TEC_FAULT (faultsLeft s v)) k
      = tecBringup k (supRelease (4 * k) 137 (s.wr R.TEC_FAULT (faultsLeft s v))) := if_pos ⟨hfault, by rw [State.fd, hleft, hclear]⟩
  obtain ⟨c, hc, hrest⟩ := foldl_around (R := fun a b => a.rd R.TEC_FAULT = faultsLeft s v → b = a) (f := faultCleared s)
    (fun _ _ => rfl) (fun hab hbc ha => by rw [hbc (hab ha ▸ ha), hab ha]) List.nodup_range (List.mem_range.mpr hk)
    (fun b j hj hne hb => faultCleared_other (by rw [State.fd, hb, hothers j (List.mem_range.mp hj) hne]))
    (s.wr R.TEC_FAULT (faultsLeft s v))
  rw [hc hleft, hown] at hrest
  exact hrest ((tecBringup_begun hk _).fault.trans hleft)

theorem tecFaultClear_runs (k : Fin 4) (v : Word) (hreach : Reaches p s) (hp : hostLike p = false) (hon : s.blockOn R.TEC_FAULT = true)
    (hfault : s.fd R.TEC_FAULT (4 * k + 2) (4 * k) ≠ 0) (hclear : fieldOf v.toNat (4 * k + 2) (4 * k) = 7)
    (hothers : ∀ j : Fin 4, j ≠ k → fieldOf v.toNat (4 * j + 2) (4 * j) = 0) : Runs (.tecFaultClear p v) s fun t =>
      t.fd R.TEC_FAULT (4 * k + 2) (4 * k) = 0
        ∧ (∀ j : Fin 4, j ≠ k → t.fd R.TEC_FAULT (4 * j + 2) (4 * j) = s.fd R.TEC_FAULT (4 * j + 2) (4 * j))
        ∧ tecState t k = 1 ∧ (t.tk k).start = s.ticks ∧ t.coef (4 * k) 137 10 = 0x80000000 ∧ fieldOf (t.coef (4 * k) 137 0) 1 0 = 1
        ∧ (t.lp (4 * k) 137).hold = false ∧ (t.lp (4 * k) 137).anchor = true ∧ t.bit (R.TEC_FORCE k) 31 = false ∧ SameMem s t := by
  have hexec := exec_tecFaultClear hreach v
  have hcleared : fieldOf (faultsLeft s v) (4 * k + 2) (4 * k) = 0 := by
    have hfield : fieldOf (s.rd R.TEC_FAULT) (4 * k + 2) (4 * k) < 2 ^ 3 := by
      rw [fieldOf, show 4 * k.val + 2 + 1 - 4 * k.val = 3 by omega]
      exact Nat.mod_lt _ (by decide)
    rw [fieldOf_sub_land, hclear, show (7 : Nat) = 2 ^ 3 - 1 from rfl, Nat.and_two_pow_sub_one_of_lt_two_pow hfield, Nat.sub_self]
  have hleft : ∀ j : Fin 4, j ≠ k → fieldOf (faultsLeft s v) (4 * j + 2) (4 * j) = s.fd R.TEC_FAULT (4 * j + 2) (4 * j) := fun j hj => by
    rw [fieldOf_sub_land, hothers j hj, Nat.and_zero, Nat.sub_zero, State.fd]
  rw [if_neg (by simp [hp]), if_neg (by simp [hon]), foldl_faultCleared k.isLt hfault hcleared fun j hj hne =>
    hleft ⟨j, hj⟩ fun heq => hne (congrArg Fin.val heq)] at hexec
  have hbegun := tecBringup_begun k.isLt (supRelease (4 * k) 137 (s.wr R.TEC_FAULT (faultsLeft s v)))
  have hfaults := hbegun.fault.trans (rd_faultsLeft s v)
  have hlp := hbegun.lp.trans (lp_setLp_same ..)
  refine ⟨_, hexec, ?_, fun j hj => ?_, hbegun.state, hbegun.start, hbegun.word, hbegun.mode, by rw [hlp], by rw [hlp], hbegun.force,
    .trans (.of_eq rfl rfl rfl) hbegun.mem⟩
  · rw [State.fd, hfaults, hcleared]
  · rw [State.fd, hfaults, hleft j hj]

end Sys2Proof.Machine
end

section
/-! The end of a TEC's bring-up (11 Table 11.4, R296, R298; 06 R193): it settles, or misses its bound. -/

namespace Sys2Proof.Machine

variable {s t u : State} {k : Nat}

/-! A TEC settles -/

/-- The TEC cause of safe power ends on both banks of a TEC. -/
def banksFree (k : Nat) (s : State) : State := safeOff 2 (2 * k + 1) (safeOff 2 (2 * k) s)

/-- A TEC has settled: STATE RUN, its SETTLED bit, its event. -/
def tecSettledShown (k : Nat) (s : State) : State := (tecShown k 2 1 s).ev Ev.TEC_SETTLED k []

theorem exec_tecSettled (k : Fin 4) (hstart : tecState s k = 1) (hband : s.fd (R.TEC_SETTLE k) 31 16 ≤ (s.tk k).band) :
    exec (.tecSettled k) s = .next (lasersOn (banksFree k (tecSettledShown k s))) := if_neg (by omega)

theorem banksFree_reports (k : Nat) (s : State) : Reports [R.LAS_STATUS] 2 s (banksFree k s) := (safeOff_reports ..).trans (safeOff_reports ..)

theorem banksFree_only (k : Nat) (s : State) : SafeOnly s (banksFree k s) := (safeOff_only ..).trans (safeOff_only ..)

/-- Where the TEC cause alone holds both banks, they leave safe power. -/
theorem banksFree_status (hk : k < 4) (hlow : s.las.safe.getD (2 * k) 0 = 4) (hhigh : s.las.safe.getD (2 * k + 1) 0 = 4) :
    (banksFree k s).bit R.LAS_STATUS (2 * k) = false ∧ (banksFree k s).bit R.LAS_STATUS (2 * k + 1) = false := by
  have hnext : (safeOff 2 (2 * k) s).las.safe.getD (2 * k + 1) 0 = 2 ^ 2 := by
    rw [safeOff_safe, if_neg (by omega)]
    exact hhigh
  rw [banksFree, safeOff_last hnext, bit_derateShown _ _ (by omega) (by omega), bit_derateShown _ _ (by omega) (by omega), if_neg (by omega),
    if_pos rfl]
  refine ⟨?_, rfl⟩
  have hlast : safeOff 2 (2 * k) s = _ := safeOff_last (cause := 2) hlow
  rw [hlast]
  exact (bit_derateShown (causesSet (2 * k) 0 s) [2, 0] (by omega) (by omega)).trans (if_pos rfl)

theorem banksFree_raised (room : RoomFor s) (hlow : s.las.safe.getD (2 * k) 0 = 4) : Raised (banksFree k s) Ev.LAS_DERATE (2 * k) :=
  (safeOff_reports ..).raised _ _ (safeOff_raised (cause := 2) room hlow)

theorem tecSettledShown_reports (k : Nat) (s : State) : Reports [R.TEC_STATE] 1 s (tecSettledShown k s) :=
  ((Reports.refl s).tecShown List.mem_cons_self ..).ev ..

theorem tecSettled_runs (k : Fin 4) (hstart : tecState s k = 1) (hband : s.fd (R.TEC_SETTLE k) 31 16 ≤ (s.tk k).band)
    (room : s.evt.queue.length < 1000) (hlow : s.las.safe.getD (2 * k) 0 = 4) (hhigh : s.las.safe.getD (2 * k + 1) 0 = 4)
    (hidle : s.top ≠ 3 ∨ s.boot.photo ≠ 0) : Runs (.tecSettled k) s fun t =>
      tecState t k = 2 ∧ t.bit R.TEC_STATE (4 * k + 3) = true ∧ Raised t Ev.TEC_SETTLED k ∧ Raised t Ev.LAS_DERATE (2 * k)
        ∧ t.bit R.LAS_STATUS (2 * k) = false ∧ t.bit R.LAS_STATUS (2 * k + 1) = false ∧ RegsKept [R.TEC_STATE, R.LAS_STATUS] s t
        ∧ SameMem s t := by
  have hexec := exec_tecSettled k hstart hband
  have hshown := tecSettledShown_reports k s
  have hfree := banksFree_reports k (tecSettledShown k s)
  have hreports : Reports [R.TEC_STATE, R.LAS_STATUS] 3 s (banksFree k (tecSettledShown k s)) :=
    (hshown.mono (by simp)).trans (hfree.mono (by simp))
  have honly : RegsOnly s (tecShown k 2 1 s) := ((RegsOnly.refl s).fw ..).fw ..
  have hlas : (tecSettledShown k s).las = s.las := (ev_las ..).trans honly.las
  have hboot : (banksFree k (tecSettledShown k s)).boot = s.boot := (banksFree_only ..).boot.trans ((ev_boot ..).trans honly.boot)
  have htop : (banksFree k (tecSettledShown k s)).top = s.top := fd_of_rd_eq (hreports.always _ (by decide)) _ _
  have hstate : (banksFree k (tecSettledShown k s)).rd R.TEC_STATE = (tecShown k 2 1 s).rd R.TEC_STATE :=
    (hfree.always _ (by decide)).trans (ev_regsKept _ _ _ _ _ (by decide))
  rw [lasersOn_idle (by rwa [htop, hboot])] at hexec
  obtain ⟨hfreeLow, hfreeHigh⟩ := banksFree_status (s := tecSettledShown k s) k.isLt (by rwa [hlas]) (by rwa [hlas])
  refine ⟨_, hexec, (fd_of_rd_eq hstate _ _).trans (tecState_shown k.isLt (by decide) 1 s), (bit_of_rd_eq hstate _).trans (settled_shown k.isLt ..),
    hfree.raised _ _ (ev_raised (honly.roomFor (room.trans (by decide))) ..), banksFree_raised (hshown.roomFor (by omega)) (by rwa [hlas]),
    hfreeLow, hfreeHigh, hreports.regs (by omega), hreports.mem⟩

/-! A TEC misses its bound -/

/-- A TEC that has missed its bound: STATE FAULT, its gates low, its duty zero. -/
def settleLow (k : Nat) (s : State) : State :=
  (driveGates k 0 s.ticks (s.fw R.TEC_STATE (4 * k + 1) (4 * k) 3)).fw (R.TEC_DUTY k) 27 16 0

/-- The event of a TEC that has missed its bound. -/
def settleMissed (k : Nat) (s : State) : State := (settleLow k s).ev Ev.TEC_SETTLE_FAIL k []

/-- The ports of a TEC fail, their transmit lanes dark. -/
def portsFailed (k cause : Nat) (s : State) : State :=
  (List.range 4).foldl (fun s i => enterFailed (4 * k + i) cause (bankOff (4 * k + i) s)) s

/-- The lines of a TEC's banks take the state their lanes ask. -/
def linesFollow (k : Nat) (s : State) : State := (List.range 36).foldl (fun s l => updLine (2 * k + l / 18) (l % 18) s) s

theorem exec_tecSettleFail (k : Fin 4) (hstart : tecState s k = 1) : exec (.tecSettleFail k) s
    = .next (lasersOn (linesFollow k (portsFailed k s.draw.1.toNat (settleMissed k s.draw.2)))) := if_neg (not_not_intro hstart)

theorem settleLow_only (k : Nat) (s : State) :
    RegsOnly (driveGates k 0 s.ticks (s.fw R.TEC_STATE (4 * k + 1) (4 * k) 3)) (settleLow k s) := (RegsOnly.refl _).fw ..

theorem settleLow_reports (k : Nat) (s : State) : Reports [R.TEC_STATE, R.TEC_DUTY k] 0 s (settleLow k s) := by
  have hstate : Reports [R.TEC_STATE, R.TEC_DUTY k] 0 s (s.fw R.TEC_STATE (4 * k + 1) (4 * k) 3) := (Reports.refl s).fw (by simp) ..
  have hlow : ∀ u : State, Reports [R.TEC_STATE, R.TEC_DUTY k] 0 u (driveGates k 0 s.ticks u) := fun _ => .of_eq rfl rfl (.of_eq rfl rfl rfl)
  exact (hstate.trans (hlow _)).fw (by simp) ..

theorem settleMissed_state (hk : k < 4) : tecState (settleMissed k s) k = 3 := by
  have hlow : (settleLow k s).fd R.TEC_STATE (4 * k + 1) (4 * k) = 3 := by
    rw [settleLow, fd_fw_ne (by grind), fd_of_rd_eq (rd_of_regs_eq (driveGates_gatesOnly ..).regs _)]
    exact fd_tecState_fw hk (by decide) s
  exact (fd_of_rd_eq (ev_regsKept _ _ _ _ _ (by decide)) _ _).trans hlow

theorem settleMissed_gates : ((settleMissed k s).tk k).gates = 0 := by
  rw [State.tk, settleMissed, ev_tec, (settleLow_only k s).tec, ← State.tk, driveGates_tk]
  rfl

theorem settleMissed_raised (room : RoomFor s) : Raised (settleMissed k s) Ev.TEC_SETTLE_FAIL k :=
  ev_raised ((settleLow_reports k s).roomFor room) ..

theorem tecSettleFail_runs (k : Fin 4) (hstart : tecState s k = 1) (room : RoomFor s) : Runs (.tecSettleFail k) s fun t =>
    tecState t k = 3 ∧ Raised t Ev.TEC_SETTLE_FAIL k ∧ (t.tk k).gates = 0 ∧ SameMem s t := by
  have hexec := exec_tecSettleFail k hstart
  have hdrawn : Reports [R.TEC_STATE, R.TEC_DUTY k] 0 s s.draw.2 := .of_eq rfl rfl (.of_eq rfl rfl rfl)
  have hmissed : Reports [R.TEC_STATE, R.TEC_DUTY k] 1 s (settleMissed k s.draw.2) := (hdrawn.trans (settleLow_reports ..)).ev ..
  have hports : DrivesKept (settleMissed k s.draw.2) (portsFailed k s.draw.1.toNat (settleMissed k s.draw.2)) :=
    (DrivesKept.refl _).foldl fun u _ _ => (DrivesKept.refl u).bankOff.enterFailed
  have hkept := (hports.foldl (l := List.range 36) (f := fun s l => updLine (2 * k + l / 18) (l % 18) s)
    fun u _ _ => (DrivesKept.refl u).updLine).lasersOn
  refine ⟨_, hexec, ?_, hkept.raised _ _ (settleMissed_raised room), ?_, hmissed.mem.trans hkept.mem⟩
  · exact (fd_of_rd_eq (hkept.rd _ (by decide) (by decide)) _ _).trans (settleMissed_state k.isLt)
  · exact (congrArg TecSt.gates (hkept.tk k)).trans settleMissed_gates

/-! With its ports FAILED and dark already -/

/-- The ports of a TEC are FAILED, and none of their transmit lanes but an express one is lit. -/
def PortsOut (k : Nat) (s : State) : Prop := ∀ i < 4, s.port (4 * k + i) = 6 ∧ ∀ n < 18, s.lane true (4 * k + i) n ∈ [0, 4, 6]

/-- LNK_STATUS of a TEC's ports. -/
abbrev portRegs (k : Nat) : List Nat := (List.range 4).map fun i => R.LNK_STATUS (4 * k + i)

/-- The lines of a TEC's banks. -/
abbrev lineRegs (k : Nat) : List Nat := (List.range 36).map fun l => R.LAS_LINE (2 * k + l / 18) (l % 18)

theorem PortsOut.keep (h : PortsOut k s) (hport : ∀ i < 4, t.port (4 * k + i) = s.port (4 * k + i))
    (hlane : ∀ i < 4, ∀ n < 18, t.lane true (4 * k + i) n = s.lane true (4 * k + i) n) : PortsOut k t := fun i hi =>
  ⟨(hport i hi).trans (h i hi).1, fun n hn => by
    rw [hlane i hi n hn]
    exact (h i hi).2 n hn⟩

theorem laneCounts_only (p : Nat) (s : State) : RegsOnly s (laneCounts p s) := ((((RegsOnly.refl s).fw ..).fw ..).fw ..).fw ..

theorem laneCounts_regsKept (p : Nat) (s : State) : RegsKept [R.LNK_STATUS p] s (laneCounts p s) :=
  ((((RegsKept.of_regs_eq _ rfl).fw List.mem_cons_self _ _ _).fw List.mem_cons_self _ _ _).fw List.mem_cons_self _ _ _).fw List.mem_cons_self _ _ _

/-- The counts stand beside a port's state. -/
theorem port_laneCounts (p q : Nat) (s : State) : (laneCounts p s).port q = s.port q := by
  by_cases hq : R.LNK_STATUS q = R.LNK_STATUS p
  · have hcount : ∀ (u : State) hi lo v, 3 < lo → lo ≤ hi → (u.fw (R.LNK_STATUS p) hi lo v).fd (R.LNK_STATUS p) 3 0
        = u.fd (R.LNK_STATUS p) 3 0 :=
      fun u hi lo v hlo hhi => fd_fw_of_disjoint u _ v hhi (by decide) (.inr hlo) (by decide)
    rw [State.port, hq, laneCounts, hcount _ _ _ _ (by decide) (by decide), hcount _ _ _ _ (by decide) (by decide),
      hcount _ _ _ _ (by decide) (by decide), hcount _ _ _ _ (by decide) (by decide), State.port, hq]
  · exact fd_of_rd_eq (laneCounts_regsKept p s _ (by simpa using hq)) _ _

theorem bankOff_dark {p : Nat} (h : ∀ n < 18, s.lane true p n ∈ [0, 4, 6]) : bankOff p s = laneCounts p s := by
  refine congrArg (laneCounts p) (foldl_of_fixed fun n hn => if_pos ?_)
  simpa using h n (List.mem_range.mp hn)

theorem enterFailed_failed {p : Nat} (cause : Nat) (h : s.port p = 6) : enterFailed p cause s = s := if_pos h

/-- A port that is FAILED and dark is only counted again. -/
theorem PortsOut.failed (h : PortsOut k s) {i : Nat} (hi : i < 4) (cause : Nat) :
    enterFailed (4 * k + i) cause (bankOff (4 * k + i) s) = laneCounts (4 * k + i) s := by
  obtain ⟨hport, hlanes⟩ := h i hi
  rw [bankOff_dark hlanes, enterFailed_failed cause (by rw [port_laneCounts, hport])]

theorem PortsOut.laneCounts (h : PortsOut k s) (i : Nat) : PortsOut k (laneCounts (4 * k + i) s) :=
  h.keep (fun _ _ => port_laneCounts ..) fun j hj n hn => fd_of_rd_eq (laneCounts_regsKept _ s _ (by
    simp only [laneReg, b2n, List.mem_singleton]
    grind)) _ _

theorem portsFailed_out (h : PortsOut k s) (cause : Nat) :
    RegsOnly s (portsFailed k cause s) ∧ RegsKept (portRegs k) s (portsFailed k cause s) ∧ PortsOut k (portsFailed k cause s) :=
  List.foldlRecOn (motive := fun t => RegsOnly s t ∧ RegsKept (portRegs k) s t ∧ PortsOut k t) _ _ ⟨.refl s, .of_regs_eq _ rfl, h⟩
    fun t ⟨honly, hkept, hout⟩ i hi => by
      have hport : [R.LNK_STATUS (4 * k + i)] ⊆ portRegs k := List.cons_subset.mpr ⟨List.mem_map_of_mem hi, List.nil_subset _⟩
      rw [hout.failed (List.mem_range.mp hi) cause]
      exact ⟨honly.trans (laneCounts_only ..), hkept.trans ((laneCounts_regsKept _ _).mono hport), hout.laneCounts i⟩

theorem updLine_only (b n : Nat) (s : State) : RegsOnly s (updLine b n s) := by
  unfold updLine
  split_ifs
  · exact .refl s
  · exact (RegsOnly.refl s).fw ..

theorem updLine_regsKept (b n : Nat) (s : State) : RegsKept [R.LAS_LINE b n] s (updLine b n s) := by
  unfold updLine
  split_ifs
  · exact .of_regs_eq _ rfl
  · exact (RegsKept.of_regs_eq _ rfl).fw List.mem_cons_self _ _ _

theorem linesFollow_kept (k : Nat) (s : State) : RegsOnly s (linesFollow k s) ∧ RegsKept (lineRegs k) s (linesFollow k s) :=
  List.foldlRecOn (motive := fun t => RegsOnly s t ∧ RegsKept (lineRegs k) s t) _ _ ⟨.refl s, .of_regs_eq _ rfl⟩
    fun _ ⟨honly, hkept⟩ _ hl => ⟨honly.trans (updLine_only ..),
      hkept.trans ((updLine_regsKept _ _ _).mono (List.cons_subset.mpr ⟨List.mem_map_of_mem hl, List.nil_subset _⟩))⟩

theorem tecSettleFail_dark (k : Fin 4) (hstart : tecState s k = 1) (room : RoomFor s) (hidle : s.top ≠ 3 ∨ s.boot.photo ≠ 0)
    (hout : PortsOut k s) : Runs (.tecSettleFail k) s fun t =>
      t.las = s.las ∧ RegsKept ([R.TEC_STATE, R.TEC_DUTY k] ++ portRegs k ++ lineRegs k) s t ∧ SameMem s t := by
  have hexec := exec_tecSettleFail k hstart
  have hdrawn : Reports [R.TEC_STATE, R.TEC_DUTY k] 0 s s.draw.2 := .of_eq rfl rfl (.of_eq rfl rfl rfl)
  have hmissed : Reports [R.TEC_STATE, R.TEC_DUTY k] 1 s (settleMissed k s.draw.2) := (hdrawn.trans (settleLow_reports ..)).ev ..
  have hregs := hmissed.regs room
  have hlow := settleLow_only k s.draw.2
  have hlas : (settleMissed k s.draw.2).las = s.las := (ev_las ..).trans hlow.las
  have hboot : (settleMissed k s.draw.2).boot = s.boot := (ev_boot ..).trans hlow.boot
  have hstill : PortsOut k (settleMissed k s.draw.2) := hout.keep (fun i _ => fd_of_rd_eq (hregs _ (by grind)) _ _) fun i _ n _ =>
    fd_of_rd_eq (hregs _ (by simp only [laneReg]; grind)) _ _
  generalize settleMissed k s.draw.2 = u at *
  obtain ⟨hpOnly, hpKept, -⟩ := portsFailed_out hstill s.draw.1.toNat
  generalize portsFailed k s.draw.1.toNat u = v at *
  obtain ⟨hlOnly, hlKept⟩ := linesFollow_kept k v
  generalize linesFollow k v = w at *
  have honly := hpOnly.trans hlOnly
  have hkept : RegsKept ([R.TEC_STATE, R.TEC_DUTY k] ++ portRegs k ++ lineRegs k) s w :=
    (hregs.mono (by simp)).trans ((hpKept.mono (List.subset_append_of_subset_left _ (List.subset_append_right ..))).trans
      (hlKept.mono (List.subset_append_right ..)))
  have htop : w.top = s.top := fd_of_rd_eq (hkept _ (by grind)) _ _
  rw [lasersOn_idle (by rwa [htop, honly.boot, hboot])] at hexec
  exact ⟨_, hexec, honly.las.trans hlas, hkept, hmissed.mem.trans honly.sameMem⟩

/-- Settles O31: a period's requests pass the interlock, a fault stops its drive, the last bit's clearing begins bring-up, and a TEC settles or
misses its bound. -/
theorem tecDrivesFaultAndRestart : Obligations.TecDrivesFaultAndRestart :=
  ⟨fun _ k ma hon hrun hgates hoff => pwmPeriod_runs k ma hon hrun hgates hoff,
    fun _ k c b e hc hclear room hshown hidle => currentFault_runs k c b e hc hclear room hshown hidle,
    fun _ _ k v c hreach hp room hc => tecWrite_denied k v c hreach hp room hc,
    fun _ _ k v hreach hp hon hfault hclear hothers => tecFaultClear_runs k v hreach hp hon hfault hclear hothers,
    fun _ _ k v hreach hp hon hoff hen hboth room => teckForce_shoots k v hreach hp hon hoff hen hboth room,
    fun _ _ k v hreach hp hon hoff hen hpass => teckForce_drives k v hreach hp hon hoff hen hpass,
    fun _ _ k v hreach hp hrun hen => teckForce_idle k v hreach hp hrun hen,
    fun _ k hstart hband room hlow hhigh hidle => tecSettled_runs k hstart hband room hlow hhigh hidle,
    fun _ k hstart room => tecSettleFail_runs k hstart room,
    fun _ k hstart room hidle hout => tecSettleFail_dark k hstart room hidle hout⟩

end Sys2Proof.Machine
end
